-- ==== Sys2Proof/Word.lean ====
section
/-! DEFINITION. Word.lean: the word and byte of the management space, the index types of commands, and the
formats that commands carry: management frames (R115), Caravan packets (R262), PD messages, TLPs and Ethernet
frames. -/
namespace Sys2Proof

/-- A word of the management space (R2, R626). -/
abbrev Word := BitVec 32

/-- A byte. -/
abbrev Byte := BitVec 8

/-- An agent as R79 codes it: 0 to 3 for HOST_0 to HOST_3, 4 for BOARD. -/
abbrev Agent := Fin 5

/-- A host port or host, 0 to 3. -/
abbrev Hp := Fin 4

/-- The transport a management frame came by (R15, R268): tunnel 0 is the MGMT tunnel of the agent's host port,
another tunnel number one of its FIELD tunnels. -/
inductive Transport where
  | tunnel (n : Fin 64)
  | usb
  | spi
deriving DecidableEq, Repr

/-- A management command frame as it travels: two header words and the payload words (R115). -/
structure Frame where
  w0 : Word
  w1 : Word
  payload : List Word
deriving DecidableEq, Repr

/-- A Caravan packet: its 64-bit header (R262, R267) and its payload bytes. -/
structure Packet where
  hdr : BitVec 64
  payload : List Byte
deriving DecidableEq, Repr

/-- A 66-bit block: its sync header as R215 writes it, the first transmitted bit on the left, and its payload, whose bit 0 is
transmitted first after the header. -/
structure Blk where
  hdr : BitVec 2
  pay : BitVec 64
deriving DecidableEq, Repr

/-- A drive's request in the equalisation procedure of PCI Express Base 4.0 (R186): the logical lane, a preset from 0 to 10, or 15 and
the magnitudes of c(-1), c(0) and c(+1). -/
structure PxEq where
  lane : Fin 4
  preset : Fin 16
  m1 : Nat
  c0 : Nat
  p1 : Nat
deriving DecidableEq, Repr

/-- A codeword as the hub received it (R221): its pair, the symbols in error, and whether a block of the packet in hand lies in
it. -/
structure CwIn where
  pair : Fin 4
  errors : Nat
  mine : Bool
deriving DecidableEq, Repr

/-- An EQ TRAIN block, with the H and V that the hub measured of each eye of its pair (R192, R193, R245). -/
structure EqIn where
  block : BitVec 64
  eyes : List (Nat × Nat)
deriving DecidableEq, Repr

/-- The sync headers that a pair's receiver has taken in, the oldest first (R222, R223, R226). -/
structure PairHdrs where
  pair : Fin 4
  headers : List (BitVec 2)
deriving DecidableEq, Repr

/-- An ALIGN_MARKER, how many blocks after the first of its direction's group it came, and the POS at which the direction's other
pairs stand (R224, R225, R253). -/
structure MarkerIn where
  block : BitVec 64
  skew : Nat
  pos : Nat
deriving DecidableEq, Repr

/-- A port's transmitter, `idle` positions that nothing claimed having passed since its last block (R231). -/
structure IdleRun where
  port : Hp
  idle : Nat
deriving DecidableEq, Repr

/-- A control block, and whether it came inside a packet (R216, R230). -/
structure CtlIn where
  block : BitVec 64
  inPacket : Bool
deriving DecidableEq, Repr

/-- What precedes the joining of a turned pair: the TURN_SYNC blocks that the hub has sent more, or the sync headers that it has
received (R226, R253). -/
structure JoinIn where
  syncs : Nat
  headers : List (BitVec 2)
deriving DecidableEq, Repr

/-- An edge on a capture line: the half nanosecond of its TIME cycle, and for how many ns the new level holds (R342, R343). -/
structure EdgeIn where
  half : Fin 8
  width : Nat
deriving DecidableEq, Repr

/-- Where an uncorrectable error was met: the word index in a core table, the open command that the memory was serving, and the 64-byte
block of grain memory that the composer read, by 256 x grain + block (R141, R354, R598). -/
structure EccIn where
  table : Option Word
  serving : Option (Agent × Byte)
  grain : Option (BitVec 21)
deriving DecidableEq, Repr

/-- What a frame from a wire brings with it: its FCS, first byte in [7:0], and how many ns after TIME its stamp point passed the ball
(R409, R424). -/
structure EthIn where
  fcs : BitVec 32
  fine : Fin 4
deriving DecidableEq, Repr

/-- A Sync: its preciseOriginTimestamp in ns, and how many ns after TIME its stamp point passed the ball (R424, R429). -/
structure SyncIn where
  origin : Nat
  fine : Fin 4
deriving DecidableEq, Repr

/-- A drive link as it comes up: its width, the equalisation requests that the drive made, and the data link layer's replays and
entries to Recovery since the last change (R186, R407). -/
structure DriveIn where
  width : Fin 5
  eq : List PxEq
  replays : Nat
  recoveries : Nat
deriving DecidableEq, Repr

/-- A device on a face: its management function, or its hub (R446). -/
inductive UsbDev where
  | function
  | hub
deriving DecidableEq, Repr

/-- A request on EP0 of a face's devices: GET_REPORT (R451), and the standard, hub-class and other vendor requests that the spec names but
the command table gives no row (R435, R446, R451, R452, R455). -/
inductive Ep0Req where
  | report
  | vendor
  | descriptor (d : UsbDev) (ty ix : Byte) (len : BitVec 16)
  | address (d : UsbDev) (addr : BitVec 7)
  | configure (d : UsbDev) (on : Bool)
  | altTt (on : Bool)
  | remoteWake (d : UsbDev) (on : Bool)
  | portStatus (n : Fin 9)
  | clearChange (n : Fin 9) (i : Fin 5)
deriving DecidableEq, Repr

/-- A control request that a face's host completes on EP0, its status stage included (R451, R453). -/
structure Ep0In where
  face : Hp
  req : Ep0Req
deriving DecidableEq, Repr

/-- A split transaction at a transaction translator: taken into a buffer of a port, or ended (R442). -/
structure Split where
  port : Fin 8
  periodic : Bool
  start : Bool
deriving DecidableEq, Repr

/-- An LPM request of a face's host, and what its translators took and ended since the last one (R442, R452). -/
structure LpmIn where
  face : Hp
  splits : List Split
deriving DecidableEq, Repr

/-- A device as it connects: by which idle state it is of low speed, and whether it drove VDP_SRC before (R441, R442). -/
structure ConnIn where
  low : Bool
  vdp : Bool
deriving DecidableEq, Repr

/-- A device's K on a downstream port: whether the device's remote wake is enabled, and whether the host's resume K reached the
suspended face before the face began to drive K (R443, R444). -/
structure WakeIn where
  port : Fin 8
  enabled : Bool
  met : Bool
deriving DecidableEq, Repr

/-- Bytes received on a field bus, and TIME in ns at their start of frame or first start bit (R475). -/
structure RxIn where
  start : Nat
  bytes : List Byte
deriving DecidableEq, Repr

/-- What a Type-C port sees beside the partner's terminations: VBUS above vSafe5V minimum, and as sink the Rp level, 0 none, 1 default,
2 1.5 A, 3 3.0 A (R500, R502, R528). -/
structure CcIn where
  vbus : Bool
  rp : Fin 4
deriving DecidableEq, Repr

/-- The port that a PD message comes by, and whether its header says Specification Revision 2.0 (R507). -/
structure PdFrom where
  port : Fin 4
  rev2 : Bool
deriving DecidableEq, Repr

/-- A PD message of R507's table that has no row of its own, a request for a chunk of an extended message, or any message beyond the
table. -/
inductive PdMsg where
  | other
  | ping
  | notSupported
  | getSourceCapExt
  | getSinkCapExt
  | getStatus
  | getPpsStatus
  | eprGetSourceCap
  | eprGetSinkCap
  | told
  | eprSinkCaps (objs : List Word)
  | bist (mode : Fin 16)
  | chunkRequest (n : Fin 16)
deriving DecidableEq, Repr

/-- A PD message without a row of its own, and its port (R507). -/
structure PdOther where
  port : Fin 4
  msg : PdMsg
deriving DecidableEq, Repr

/-- How a pair's or lane's qualification ends (R201, R244): with the mismatches that the hub counted at each of its points, or, for
a pair that the host receives, with the host's QUAL block. -/
inductive Qual where
  | counted (errors : List Nat)
  | told (block : BitVec 64)
deriving DecidableEq, Repr

/-- What a packet is found to be on arrival (R221, R230, R233): whole, with a wrong CRC, broken in its framing, or with a block in
an uncorrectable codeword. -/
inductive Arrival where
  | good
  | badCrc
  | framing
  | uncorrectable
deriving DecidableEq, Repr

/-- What the Hamada die measures of one e-fuse channel in a tick (R538, R552): VIN, MID and VOUT in 16 mV units, the
tick-mean current in mA, and the Hamada die's and the remote diode's temperatures, signed, in 0.25 degC units. -/
structure EfMeas where
  vin : BitVec 12
  mid : BitVec 12
  vout : BitVec 12
  cur : BitVec 16
  tref : BitVec 12
  diode : BitVec 12
deriving DecidableEq, Repr

end Sys2Proof
end

