-- ==== Sys2Proof/Syntax.lean ====
section
/-! DEFINITION. Syntax.lean: the commands of spec/opcode_table.json, one constructor for each row in the table's
order. An operand says which agent, port or unit a command is about, carries the bytes or words that arrive with
it, or carries a measurement the hub takes; the operand `a` of a command that is a register write is the agent that
writes, `t` and `tag` are the transport and TAG of a management frame. -/
namespace Sys2Proof

/-- One command: a step of the part. -/
inductive Instr where
  /-- TICK_BOUNDARY, R31: At every tick boundary the hub performs ownership changes, failover bank swaps, pending TICK commits, announced pair turns and TIME_BEACON sending, in that order. -/
  | tickBoundary (meas : List EfMeas)
  /-- WHEEL_SLOT, R304: At each slot start every CAL queue filed in that slot's wheel entry becomes eligible. -/
  | wheelSlot (slot : Fin 1000)
  /-- SIDEBAND_POLL, R483: The chore reads a module slot's eight sideband lines from a GP group or an I2C register, and one identity piece when required. -/
  | sidebandPoll (m : Fin 8) (prevOpen : Bool) (lines : Option (BitVec 8)) (piece : Option (BitVec 128))
  /-- PD_KEEPALIVE, R516: The chore sends EPR_KeepAlive in EPR mode, or a new Request when KA_S seconds have passed under a PPS or AVS contract. -/
  | pdKeepalive (p : Fin 4) (prevOpen : Bool)
  /-- EFUSE_THERMAL, R552: The chore sends a channel's measured current over the die bridge as that tick's thermal-model step. -/
  | efuseThermal (c : Fin 8) (prevOpen : Bool)
  /-- EYE_SAMPLE, R197: The chore tests one eye-scan point of one pair or lane, growing or shrinking a recorded margin. -/
  | eyeSample (i : Fin 36) (prevOpen : Bool) (errors : Nat)
  /-- QUEUE_STATS, R323: The chore samples depth and head-of-line delay of every queue of its set. -/
  | queueStats (set : Fin 17) (prevOpen : Bool)
  /-- HEARTBEAT_CHORE, R142: The hub sends a hub-originated heartbeat reply with the tick number to every host whose link is ACTIVE. -/
  | heartbeatChore (prevOpen : Bool)
  /-- DISC_SERVO, R52: The servo chore computes phase error and moves REF_ADJ towards its target within the ramp limit. -/
  | discServo (prevOpen : Bool)
  /-- WEAR_SAMPLE, R613: The chore samples one Oasis wear monitor and raises its service notice at its threshold. -/
  | wearSample (m : Fin 8) (prevOpen : Bool) (sample : Int) (slices : BitVec 9)
  /-- REF_PLL_LOCK, R35: The reference PLL locks after a cold reset and TIME starts counting from 0. -/
  | refPllLock
  /-- REF_PLL_LOCK_LOSS, R30: On loss of REF PLL lock the hub switches REF to XTAL_B within 2 ticks and raises source 4. -/
  | refPllLockLoss
  /-- XTAL_A_STOPPED, R42: The amplitude detector finds XTAL_A stopped and REF is switched to XTAL_B. -/
  | xtalAStopped
  /-- XTAL_COMPARE, R43: Every 8 ticks XTAL_A is measured against XTAL_B; a disagreement above 250 ppm raises source 8. -/
  | xtalCompare (ppm : Int)
  /-- TIME_LO_READ, R37: A read of TIME_LO returns TIME[31:0] and latches TIME_HI and the time of day for the reading agent. -/
  | timeLoRead (a : Agent)
  /-- DIE_BRIDGE_WORD_FAIL, R12: A die-bridge word fails its CRC and is requested again; three failures in a row raise source 3 and mark the bridge degraded. -/
  | dieBridgeWordFail (dir : Fin 2) (again : Bool)
  /-- HOST_TIME_BEACON, R242: A TIME_BEACON from a host discipline source is taken as a phase measurement; one from any other host is discarded and counted. -/
  | hostTimeBeacon (h : Hp) (block : BitVec 64)
  /-- SELF_TEST_END, R568: The SRAM self-test or repair-map check ends, transports open and the device enters LOADING. -/
  | selfTestEnd
  /-- FLASH_READY, R567: The flash reports no write in progress, or 2 s pass, and the hub begins reading slot A. -/
  | flashReady
  /-- BOOT_SLOT_CHECKED, R85: A boot slot's checks finish; a good image is applied, otherwise slot B is tried or the device enters BARE. -/
  | bootSlotChecked
  /-- IMAGE_BEGIN, R88: IMAGE_BEGIN opens a load session on a slot after permission, offset, session and length checks, erasing the header sector. -/
  | imageBegin (a : Agent) (t : Transport) (tag : Byte) (addr : Word) (data : List Word)
  /-- IMAGE_DATA, R90: IMAGE_DATA programs image words into flash at the expected offset, erasing sectors ahead. -/
  | imageData (a : Agent) (t : Transport) (tag : Byte) (addr : Word) (data : List Word)
  /-- IMAGE_COMMIT, R91: IMAGE_COMMIT, once all bytes arrived, starts the checks of R84 on the slot's content in flash. -/
  | imageCommit (a : Agent) (t : Transport) (tag : Byte) (addr : Word) (data : List Word)
  /-- IMAGE_CHECK_DONE, R91: The checks of a committed image end; a refused image is reported, a passed one is applied at the next boundary. -/
  | imageCheckDone
  /-- IMAGE_PATCH, R106: IMAGE_PATCH is checked in order and, if accepted, becomes pending for the next boundary. -/
  | imagePatch (a : Agent) (t : Transport) (tag : Byte) (addr : Word) (data : List Word)
  /-- SESSION_TIMEOUT, R92: A load session is closed with TIMEOUT after 8,000 ticks without data or on its owner's failover. -/
  | sessionTimeout
  /-- TICK_COMMIT, R100: TICK_COMMIT.COMMIT judges the agent's staged values for field relations and ledger and makes them pending. -/
  | tickCommit (a : Agent)
  /-- TICK_DISCARD, R101: TICK_COMMIT.DISCARD empties the agent's staging set, or is refused PENDING. -/
  | tickDiscard (a : Agent)
  /-- READ, R123: READ is checked whole for address, span and permission and returns the words read. -/
  | read (a : Agent) (t : Transport) (tag : Byte) (fixed : Bool) (addr : Word) (len : BitVec 12)
  /-- CAP_REC_READ, R345: Under register delivery a READ covering all four words of CAP_REC_g returns and pops the oldest capture record. -/
  | capRecRead (a : Agent) (t : Transport) (tag : Byte) (g : Fin 4)
  /-- WRITE, R124: A non-posted WRITE writes its words in order and stops at the first refused word, returning the count written. -/
  | write (a : Agent) (t : Transport) (tag : Byte) (fixed : Bool) (addr : Word) (data : List Word)
  /-- REGISTER_WRITE, R636: A word written to a register without a row of its own takes effect field by field, TICK fields entering the staging set. -/
  | registerWrite (a : Agent) (addr : Word) (v : Word)
  /-- WRITE_POSTED, R126: WRITE_POSTED takes a place in the agent's posted queue and replies only with ACK. -/
  | writePosted (a : Agent) (t : Transport) (tag : Byte) (fixed ack : Bool) (addr : Word) (data : List Word)
  /-- HEARTBEAT, R143: A HEARTBEAT command replies with the tick number and arms or, with DISARM, disarms supervision. -/
  | heartbeat (a : Agent) (t : Transport) (tag : Byte) (data : List Word)
  /-- CLAIM, R278: CLAIM records ownership claims for the next boundary and clears the stale mark, replying with the owned mask after it. -/
  | claim (a : Agent) (t : Transport) (tag : Byte) (data : List Word)
  /-- RELEASE, R279: RELEASE leaves owned resources without owner at the next boundary. -/
  | release (a : Agent) (t : Transport) (tag : Byte) (data : List Word)
  /-- HANDOVER, R280: HANDOVER exchanges owner and standby at the next boundary if every standby is eligible. -/
  | handover (a : Agent) (t : Transport) (tag : Byte) (data : List Word)
  /-- POWER_ENTER, R582: POWER_ENTER requests a power state, checked for permission, allowance and vetoes. -/
  | powerEnter (a : Agent) (t : Transport) (tag : Byte) (target : Word)
  /-- POWER_QUERY, R592: POWER_QUERY returns power state, last refusal, last wake and brown-out cause. -/
  | powerQuery (a : Agent) (t : Transport) (tag : Byte)
  /-- SERVICE_CHALLENGE, R135: SERVICE_CHALLENGE returns a 48-byte nonce to an agent entitled to ask for service mode. -/
  | serviceChallenge (a : Agent) (t : Transport) (tag : Byte)
  /-- SERVICE_RESPONSE, R136: SERVICE_RESPONSE grants service mode on a trusted key and valid signature, or replies AUTH; LEN 0 ends service mode. -/
  | serviceResponse (a : Agent) (t : Transport) (tag : Byte) (data : List Word)
  /-- NONCE_EXPIRY, R135: A service nonce unused for 8,000 ticks becomes invalid. -/
  | nonceExpiry (a : Agent)
  /-- SERVICE_LOCKOUT_END, R137: A 10 s service lockout of an agent ends. -/
  | serviceLockoutEnd (a : Agent)
  /-- MALFORMED_FRAME, R673: A frame whose bytes differ from its header's length is discarded without reply and counted. -/
  | malformedFrame (a : Agent) (t : Transport)
  /-- HELD_FRAME_RELEASE, R19: A frame held at the transport for lack of an in-flight place is passed on once a place frees. -/
  | heldFrameRelease (a : Agent)
  /-- FRAME_IN, R120: A MGMT_SPI FRAME_IN delivers one command frame from BOARD. -/
  | frameIn (bytes : List Byte)
  /-- FRAME_OUT, R120: A MGMT_SPI FRAME_OUT returns the oldest queued reply or a zero W0. -/
  | frameOut
  /-- READ_STATUS, R120: A MGMT_SPI READ_STATUS returns the BOARD status word, queued replies and FRAME_IN readiness. -/
  | readStatus
  /-- NP_TIMEOUT, R127: A non-posted command without completion after MGMT_NP_TIMEOUT ticks is completed with TIMEOUT. -/
  | npTimeout (a : Agent) (tag : Byte)
  /-- STATUS_ECHO, R145: On a rise of ATTN_F or OWN_CHG the hub inserts a STATUS_ECHO block within 2 slots. -/
  | statusEcho (h : Hp)
  /-- EVT_STORM_AUTOMASK, R165: A source exceeding LIMIT rises in a window is masked for its routed agents, marked in EVT_STORM and logged. -/
  | evtStormAutomask (src : Fin 256)
  /-- STORM_WINDOW_START, R165: A new storm window starts at a boundary whose tick number is a multiple of WINDOW and rise counts restart. -/
  | stormWindowStart
  /-- FEVT_CLASS_WRITE, R160: A write to FEVT_CLASS moves changed sources between the agent's normal and fast banks in one cycle. -/
  | fevtClassWrite (a : Agent) (n : Fin 8) (v : Word)
  /-- MAIN_PLL_LOCK_LOSS, R205: A lane group's main PLL loses lock and the group moves to its spare PLL. -/
  | mainPllLockLoss (g : Fin 9)
  /-- SPARE_PLL_FAIL, R206: The spare PLL loses lock or drifts beyond 5 ps and SPARE_PLL_FAIL is set. -/
  | sparePllFail (g : Fin 9)
  /-- PCS_SLICE_PARITY_ERROR, R207: A slice parity error fails the slice and the lane moves to the spare slice at the role's swap point. -/
  | pcsSliceParityError (g : Fin 9) (l : Fin 4)
  /-- FORCE_SPARE_PLL, R213: LG_SERVICE.FORCE_SPARE_PLL switches the group to its spare PLL in service mode. -/
  | forceSparePll (a : Agent) (g : Fin 9)
  /-- FORCE_SLICE, R213: LG_SERVICE.FORCE_SLICE swaps a lane to the spare slice in service mode. -/
  | forceSlice (a : Agent) (g : Fin 9) (l : Fin 4)
  /-- LN_EYE_START, R200: LN_EYE_CTRL.START runs one eye-scan point with the register's settings, or aborts at once without receiver. -/
  | lnEyeStart (a : Agent) (g : Fin 9) (l : Fin 4)
  /-- EYE_POINT_DONE, R200: A started eye point completes, setting LN_EYE_RESULT.DONE and LANE_EVT.EYE_DONE. -/
  | eyePointDone (g : Fin 9) (l : Fin 4) (errors : Nat)
  /-- QUALIFICATION_DONE, R202: Qualification of a pair or lane ends; a pass rejoins it, a failure sets QUAL_FAIL. -/
  | qualificationDone (g : Fin 9) (l : Fin 4) (q : Qual)
  /-- QUAL_RETRY, R202: Every 8,000 ticks a failed pair retries qualification, up to 16 times before being marked failed. -/
  | qualRetry (g : Fin 9) (l : Fin 4)
  /-- COEFF_REQUEST, R245: An EQ TRAIN block with a new REQ_ID makes the transmitter act on its tap requests and report the outcome. -/
  | coeffRequest (h : Hp) (pair : Fin 4) (ask : EqIn)
  /-- TURN_IDLE_DETECTED, R203: An end detects idle on a turning pair and enables its transmitter 64 to 128 UI later. -/
  | turnIdleDetected (h : Hp)
  /-- TURN_ABORT, R204: No idle within the window or no TRAIN within 1.2 µs aborts the turn and sets TURN_ABORT. -/
  | turnAbort (h : Hp)
  /-- BLOCK_LOCK_ACQUIRED, R222: A receiver declares block lock after 128 consecutive valid headers. -/
  | blockLockAcquired (h : Hp) (seen : PairHdrs)
  /-- BLOCK_LOCK_LOST, R222: A receiver loses block lock when 16 of 64 headers are invalid. -/
  | blockLockLost (h : Hp) (seen : PairHdrs)
  /-- CODEWORD_LOCK, R223: A receiver declares codeword lock after two parity runs at period 55. -/
  | codewordLock (h : Hp) (seen : PairHdrs)
  /-- CODEWORD_LOCK_LOST, R223: Three codewords with too few parity headers lose codeword lock. -/
  | codewordLockLost (h : Hp) (seen : PairHdrs)
  /-- ALIGN_MARKER, R225: An ALIGN_MARKER aligns a pair by COUNT and POS, restarts the scrambler, or signals lock loss on disagreement. -/
  | alignMarker (h : Hp) (pair : Fin 4) (marker : MarkerIn)
  /-- PACKET_RECEIVE, R233: A whole packet is accepted, discarded as duplicate, or discarded with NAK by SEQ, CRC and framing. -/
  | packetReceive (h : Hp) (shared : BitVec 4) (cws : List CwIn) (blocks : List Blk)
  /-- ACK_NAK_RECEIVE, R237: An ACK frees acknowledged packets; a NAK starts replay of every unacknowledged packet. -/
  | ackNakReceive (h : Hp) (block : BitVec 64)
  /-- ACK_SEND, R235: An ACK is sent when ACK_MAX slots pass, 128 packets arrive, or a duplicate arrives. -/
  | ackSend (run : IdleRun)
  /-- REPLAY_TIMEOUT, R237: REPLAY_TIMEOUT slots without ACK progress start a replay. -/
  | replayTimeout (h : Hp)
  /-- CREDIT_RECEIVE, R239: A CREDIT block updates the far receiver's LIMIT for up to two tunnels. -/
  | creditReceive (h : Hp) (block : BitVec 64)
  /-- CREDIT_SEND, R239: The receiver sends every tunnel's LIMIT at least once every 64 slots. -/
  | creditSend (run : IdleRun)
  /-- CONTROL_BLOCK_UNKNOWN, R216: A control block of unknown type is discarded and counted; inside a packet the packet is discarded. -/
  | controlBlockUnknown (h : Hp) (ctl : CtlIn)
  /-- SPEED_CAP, R246: A host SPEED_CAP block in REF brings the link to SPEED, where the hub chooses gear, FEC and resume. -/
  | speedCap (h : Hp) (block : BitVec 64)
  /-- SPEED_SEL, R248: SPEED_SEL blocks with GO exchanged 16 times switch both ends to the chosen gear and enter EQ. -/
  | speedSel (h : Hp) (block : BitVec 64)
  /-- EQ_DONE, R248: EQ_DONE exchanged on every pair for 16 blocks ends an EQ phase, turning every pair. -/
  | eqDone (h : Hp) (pair : Fin 4)
  /-- LAT_BLOCK, R247: PING, ECHO and RESULT blocks measure the one-way latency and store it in CV_LAT. -/
  | latBlock (h : Hp) (arrival : Nat) (block : BitVec 64)
  /-- RECOVER_BLOCK, R248: RECOVER received on every pair takes the link to RECOVERY. -/
  | recoverBlock (h : Hp) (pair : Fin 4)
  /-- REF_TIMER, R248: 1 ms after the reference starts the hub sends SPEED_CAP in Gear S. -/
  | refTimer (h : Hp)
  /-- REF_TIMEOUT, R248: 20 ms in REF without lock returns to DETECT, stops the reference and sets REF_FAIL. -/
  | refTimeout (h : Hp)
  /-- SPEED_TIMEOUT, R248: 2 ms in SPEED returns to REF and counts a REF failure. -/
  | speedTimeout (h : Hp)
  /-- EQ_TIMEOUT, R248: 25 ms in an EQ phase returns to SPEED with MAX_GEAR lowered. -/
  | eqTimeout (h : Hp)
  /-- BLOCK_TIMEOUT, R248: Pairs without lock after 2 ms in BLOCK are marked failed. -/
  | blockTimeout (h : Hp)
  /-- FEC_TIMEOUT, R248: 20 ms in FEC, or a direction below MIN_WIDTH, returns the link to SPEED. -/
  | fecTimeout (h : Hp)
  /-- RECOVERY_RELOCK, R248: All pairs relock at stored alignment within 3 µs; the link returns up, ACKs and replays. -/
  | recoveryRelock (h : Hp)
  /-- RECOVERY_TIMEOUT, R248: 3 µs in RECOVERY sends the link to SPEED and marks unrelocked pairs failed. -/
  | recoveryTimeout (h : Hp)
  /-- CV_RETRAIN, R261: CV_CTRL.RETRAIN takes the link to SPEED with RESUME offered. -/
  | cvRetrain (a : Agent) (h : Hp)
  /-- SPLIT_EVALUATION, R320: At slot 400 the hub computes the target split and requests a turn when it differs. -/
  | splitEvaluation (h : Hp)
  /-- TURN_ACK, R252: The host's TURN ACK arms the turn for the named boundary. -/
  | turnAck (h : Hp) (block : BitVec 64)
  /-- TURN_CANCEL, R252: Without ACK by slot 900 the hub sends CANCEL; retries exhausted set TURN_FAIL. -/
  | turnCancel (h : Hp)
  /-- TURN_JOIN, R253: At J the JOIN marker is sent and the turned pair joins the new stripe; SPLIT_CHG set. -/
  | turnJoin (h : Hp) (seen : JoinIn)
  /-- PAIR_FAILED, R255: An end finds a pair failed, sends DROP and narrows its stripe at the next codeword boundary. -/
  | pairFailed (h : Hp) (pair : Fin 4)
  /-- TURN_DROP, R255: A received DROP removes the named pair from the stripe with a reduced-ACTIVE marker. -/
  | turnDrop (h : Hp) (block : BitVec 64)
  /-- SEND_OPPORTUNITY, R307: At each point a stream can start a packet Barchan chooses a reserved, then excess, queue by level and DRR. -/
  | sendOpportunity (stream : Fin 36)
  /-- LAUNCH_DESCRIPTORS, R330: A TIME packet of KIND 0 submits launch descriptors, each checked, queued or handled as missed. -/
  | launchDescriptors (h : Hp) (words : List Word)
  /-- SR_SUBMIT, R329: A WRITE of all four SR_SUBMIT words submits one descriptor, result in SR_LAST_RESULT. -/
  | srSubmit (a : Agent) (w0 w1 w2 w3 : Word)
  /-- LAUNCH_CANCEL, R340: A TIME packet of KIND 3 carries cancel records removing queued launches. -/
  | launchCancel (h : Hp) (words : List Word)
  /-- SR_CANCEL, R340: A WRITE of both SR_CANCEL words cancels launches of an owned resource. -/
  | srCancel (a : Agent) (w0 w1 : Word)
  /-- LAUNCH_FIRE, R333: A queued launch reaches its time, or A+500 ns when late, and fires its action, sending any result. -/
  | launchFire
  /-- LINE_PULSE_SECOND_EDGE, R333: The second edge of a pulse fires WIDTH after the first. -/
  | linePulseSecondEdge
  /-- DELAY_CALIBRATION, R341: Every 8,000 ticks the launch fine delay line is recalibrated. -/
  | delayCalibration
  /-- CAPTURE_EDGE, R342: A filtered edge on a capture line is stamped and stored, or discarded with OVF when the FIFO is full. -/
  | captureEdge (c : Fin 32) (rising : Bool) (edge : EdgeIn)
  /-- CAPTURE_PACKET, R345: With 64 records waiting or FLUSH elapsed a KIND 2 packet is built for the owner's TIME tunnel. -/
  | capturePacket (g : Fin 4)
  /-- GRAIN_PIECE, R361: A DISPLAY packet writes pixels of a grain message, allocating a grain on its first packet. -/
  | grainPiece (h : Hp) (pkt : Packet)
  /-- HD_COMMIT, R374: A write of HD_COMMIT.COMMIT sets COMMIT and freezes the head's shadows. -/
  | hdCommit (a : Agent) (x : Fin 2)
  /-- COVERAGE_CHECK_DONE, R374: The 4 µs coverage check ends; a failure clears COMMIT with GEOMETRY or BAND. -/
  | coverageCheckDone (x : Fin 2)
  /-- HD_CANCEL, R377: HD_COMMIT.CANCEL before the commit point clears COMMIT with CANCELLED. -/
  | hdCancel (a : Agent) (x : Fin 2)
  /-- COMMIT_POINT, R375: At the start of line V_ACTIVE-1 the head takes a checked commit whose wait is met. -/
  | commitPoint (x : Fin 2)
  /-- VERTICAL_BLANKING, R375: At VB a taken commit puts shadows in force, swaps staged grains and completes. -/
  | verticalBlanking (x : Fin 2)
  /-- HEAD_ENABLE, R373: A write of HD_CTRL.ENABLE starts or stops a head after timing and ledger checks. -/
  | headEnable (a : Agent) (x : Fin 2) (on : Bool)
  /-- HPD_HIGH, R383: HPD high for 2 ms moves the DP link to CAPS, reading the sink's capabilities. -/
  | hpdHigh (x : Fin 2) (dpcd : List Byte)
  /-- HPD_LOW, R383: HPD low for more than 2 ms returns the link to WAIT_HPD. -/
  | hpdLow (x : Fin 2)
  /-- IRQ_HPD, R383: An HPD low pulse of 0.5 to 1 ms sets IRQ_HPD and may send the link back to CR. -/
  | irqHpd (x : Fin 2) (lost : Bool)
  /-- CR_WAIT, R383: After each 100 µs wait in CR the head reads status and moves to EQ, adjusts or falls back. -/
  | crWait (x : Fin 2) (done : Bool) (adjust : BitVec 16)
  /-- EQ_WAIT, R383: After each TRAINING_AUX_RD_INTERVAL in EQ the head moves to ACTIVE or falls back. -/
  | eqWait (x : Fin 2) (crOk eqOk : Bool)
  /-- DP_RETRAIN, R383: HD_LINK_CFG.RETRAIN takes a FAIL link back to WAIT_HPD. -/
  | dpRetrain (a : Agent) (x : Fin 2)
  /-- AUX_START, R384: HD_AUX_CTRL.START runs one host AUX transaction of up to 16 bytes. -/
  | auxStart (a : Agent) (x : Fin 2)
  /-- AUX_REPLY, R384: An AUX reply or its 400 µs timeout retries or completes the transaction in HD_AUX_STATUS. -/
  | auxReply (x : Fin 2) (kind : Fin 6) (data : List Byte)
  /-- DOWNSTREAM_TLP, R397: A TLP from the owner is ordered, routed to the drive or the virtual port, or answered with UR. -/
  | downstreamTlp (h : Hp) (p : Fin 2) (cls : Fin 3) (tlp : List Byte)
  /-- UPSTREAM_TLP, R396: A TLP from the drive goes to the owner's tunnel by class, or is discarded while contained. -/
  | upstreamTlp (p : Fin 2) (tlp : List Byte)
  /-- SURPRISE_REMOVAL, R400: A drive removal completes held requests with UR and reports Surprise Down. -/
  | surpriseRemoval (p : Fin 2)
  /-- DPC_TRIGGER, R401: An enabled DPC trigger contains the port and disables the drive link. -/
  | dpcTrigger (p : Fin 2) (fatal : Bool) (source : BitVec 16)
  /-- PORT_RESET_COMPLETE, R402: The first DL_Up after a port reset ends the containment and the deadline. -/
  | portResetComplete (p : Fin 2) (speed width : Fin 5)
  /-- RESET_DEADLINE_EXPIRY, R405: 8,000 ticks without a port reset set RESET_DUE and hold PERST_N low. -/
  | resetDeadlineExpiry (p : Fin 2)
  /-- PERST_RELEASE, R399: PERST_N is released once REFCLK and power-good have held for PERST_DELAY ticks. -/
  | perstRelease (p : Fin 2)
  /-- CLKREQ_CHANGE, R398: CLKREQ_N rises in L1 to stop REFCLK, or falls to restart it within 400 ns. -/
  | clkreqChange (p : Fin 2) (high : Bool)
  /-- LINK_DOWN_TRIGGER, R282: An owner's link out of the up states for 4 µs from its watch instant meets the link trigger and contains its PCIe ports. -/
  | linkDownTrigger (h : Hp)
  /-- WATCH_INSTANT, R672: 1 s after an image applied from LOADING or BARE, an owner's absence starts counting toward the link trigger. -/
  | watchInstant (h : Hp)
  /-- ETH_FRAME_RECEIVE, R415: A received Ethernet frame is checked, classified, policed, learnt, looked up and queued per egress port. -/
  | ethFrameReceive (q : Fin 8) (frame : List Byte) (wire : EthIn) (tunnel : Fin 64) (tsReq : Bool) (tsId : Byte) (tc : Fin 8)
  /-- FDB_AGE_OUT, R416: A forwarding entry ages out after ETH_AGE.SEC seconds without relearning. -/
  | fdbAgeOut
  /-- ETH_FDB_FLUSH, R432: A write of ETH_FDB_FLUSH flushes one VLAN's entries or all entries. -/
  | ethFdbFlush (a : Agent) (v : Word)
  /-- GATE_ENTRY_START, R421: An entry of the operative gate control list starts and changes which classes may start. -/
  | gateEntryStart (p : Fin 4)
  /-- PDELAY_EXCHANGE, R428: Every 2^PDELAY_LOG s the gPTP port initiates a Pdelay exchange and updates delay and asCapable. -/
  | pdelayExchange (p : Fin 4) (good : Bool) (delay : Nat) (ppb : Int)
  /-- SYNC_RECEIVE, R429: A Sync while asCapable yields a phase measurement for the discipline source. -/
  | syncReceive (p : Fin 4) (origin : SyncIn) (correction : Int)
  /-- SYNC_TIMEOUT, R429: Three Sync intervals without a Sync set GPTP_CHG. -/
  | syncTimeout (p : Fin 4)
  /-- ETH_LINK_CHANGE, R431: An external Ethernet port's link goes up or down and LINK_CHG is set. -/
  | ethLinkChange (p : Fin 4) (up : Bool)
  /-- FACE_ATTACH_CHANGE, R434: A face's pull-up conditions begin or cease to hold, connecting or detaching it. -/
  | faceAttachChange (h : Hp)
  /-- FACE_BUS_RESET, R440: A bus reset of a face clears PORT_POWER in every view and resets the management function. -/
  | faceBusReset (h : Hp) (high : Bool)
  /-- SET_PORT_RESET, R442: The owner's SetPortFeature(PORT_RESET) starts 12 ms of reset signalling. -/
  | setPortReset (h : Hp) (n : Fin 9)
  /-- SET_PORT_POWER, R438: SetPortFeature(PORT_POWER) sets the view's power bit and, for the owner, the PPC output. -/
  | setPortPower (h : Hp) (n : Fin 9)
  /-- CLEAR_PORT_POWER, R438: ClearPortFeature(PORT_POWER) clears the view's power bit and, for the owner, lowers PPC. -/
  | clearPortPower (h : Hp) (n : Fin 9)
  /-- CLEAR_PORT_ENABLE, R442: ClearPortFeature(PORT_ENABLE) disables an enabled port. -/
  | clearPortEnable (h : Hp) (n : Fin 9)
  /-- SET_PORT_SUSPEND, R442: SetPortFeature(PORT_SUSPEND) suspends an enabled port. -/
  | setPortSuspend (h : Hp) (n : Fin 9)
  /-- CLEAR_PORT_SUSPEND, R444: ClearPortFeature(PORT_SUSPEND) resumes a suspended or L1 port once. -/
  | clearPortSuspend (h : Hp) (n : Fin 9)
  /-- SET_PORT_L1, R442: SetAndTestPortFeature(PORT_L1) answered ACK puts the port in L1. -/
  | setPortL1 (h : Hp) (n : Fin 9) (ack : Bool)
  /-- PORT_CONNECT_DETECT, R442: J or K idle for 2.5 µs on a disconnected port reports a connection. -/
  | portConnectDetect (n : Fin 8) (dev : ConnIn)
  /-- PORT_DISCONNECT, R442: SE0 for 2.5 µs or the HS disconnect envelope reports a disconnect. -/
  | portDisconnect (n : Fin 8)
  /-- PORT_RESET_DONE, R442: 12 ms of reset elapse and the port becomes ENABLED with C_PORT_RESET. -/
  | portResetDone (n : Fin 8) (high : Bool)
  /-- PORT_RESUME_DONE, R442: 21 ms of resume K elapse and the port returns to ENABLED with C_PORT_SUSPEND. -/
  | portResumeDone (n : Fin 8)
  /-- PORT_BABBLE, R442: Babble or loss of activity disables an enabled port and sets BABBLE. -/
  | portBabble (n : Fin 8)
  /-- DEVICE_REMOTE_WAKE, R443: A device K on a suspended port resumes it and is propagated only to its owner's face. -/
  | deviceRemoteWake (k : WakeIn)
  /-- PWR2GOOD_ELAPSED, R442: PPC high for PWR2GOOD moves a powered-off port to DISCONNECTED. -/
  | pwr2goodElapsed (n : Fin 8)
  /-- OVER_CURRENT, R439: OC_N low for 2 ms latches over-current, lowers PPC and powers the port off. -/
  | overCurrent (n : Fin 8)
  /-- OVER_CURRENT_CLEAR, R439: OC_N high for 2 ms clears the over-current latch. -/
  | overCurrentClear (n : Fin 8)
  /-- OC_RETRY, R439: In ALWAYS mode power returns 8,000 ticks after the latch clears. -/
  | ocRetry (n : Fin 8)
  /-- DS_POWER_CYCLE, R455: DS_CTRL.POWER_CYCLE drops PPC for PWR2GOOD and then restores it. -/
  | dsPowerCycle (a : Agent) (n : Fin 8)
  /-- EP1_PACKET, R448: A bulk OUT packet carries command frame bytes, passed on or discarded on a length error. -/
  | ep1Packet (h : Hp) (bytes : List Byte)
  /-- EP2_REPLY, R449: A reply frame is sent as one bulk IN transfer in reply order. -/
  | ep2Reply (h : Hp)
  /-- EP3_POLL, R450: An interrupt poll is answered with a 16-byte status report when due, else NAK. -/
  | ep3Poll (h : Hp)
  /-- GET_REPORT, R451: The GET_REPORT vendor request returns an EP3 report at once. -/
  | getReport (q : Ep0In)
  /-- MF_ABORT, R451: The ABORT vendor request acts as a function reset at its status stage. -/
  | mfAbort (h : Hp)
  /-- LPM_L1_REQUEST, R452: An LPM L1 request is answered ACK when nothing is queued or due, else NYET. -/
  | lpmL1Request (l : LpmIn)
  /-- MF_REMOTE_WAKE, R452: A suspended face signals remote wake within 1 ms of ATTN or OWN_CHG rising. -/
  | mfRemoteWake (h : Hp)
  /-- MF_CONNECT_WRITE, R445: A write of UF_CTRL.MF_CONNECT connects or disconnects the management function. -/
  | mfConnectWrite (a : Agent) (h : Hp) (on : Bool)
  /-- FIELD_TRANSACTION_START, R462: Wadi starts the next accepted transaction on an idle bus in acceptance order. -/
  | fieldTransactionStart (b : Fin 20)
  /-- FIELD_TRANSACTION_END, R464: A bus transaction ends and completes with data, FAR_ERROR or a posted-write log entry. -/
  | fieldTransactionEnd (b : Fin 20) (cause : Fin 8) (done : BitVec 16) (data : List Byte)
  /-- KEEP_TIMEOUT, R465: 20 µs without a follower ends a KEEP transaction with STOP or CS high. -/
  | keepTimeout (b : Fin 20)
  /-- BUS_DISABLE, R470: Clearing WD_BUS_CTRL.ENABLE stops a bus, aborting queued and dropping held work after the current transfer. -/
  | busDisable (a : Agent) (b : Fin 20)
  /-- CAN_FRAME_RECEIVE, R474: A received CAN frame passing the filters is stored as a record or lost on overflow. -/
  | canFrameReceive (c : Fin 4) (w0 w1 : Word) (data : RxIn)
  /-- UART_RECORD_CLOSE, R474: A UART record closes at 64 bytes, an idle gap or an error byte. -/
  | uartRecordClose (u : Fin 4) (bytes : RxIn) (errors : BitVec 4)
  /-- FIELD_RX_DELIVERY, R476: At WATERMARK or FLUSH received records are sent in KIND 2 packets to the owner. -/
  | fieldRxDelivery (b : Fin 20)
  /-- WD_PERR_POP, R472: WD_PERR_POP removes the oldest posted-write error entry. -/
  | wdPerrPop (a : Agent) (h : Hp)
  /-- MODULE_APPROVE, R491: The approver's APPROVE accepts an awaiting module record, replacing the digest and granting clearance. -/
  | moduleApprove (a : Agent) (m : Fin 8)
  /-- MODULE_REJECT, R491: The approver's REJECT rejects an awaiting record with cause OWNER_REJECT. -/
  | moduleReject (a : Agent) (m : Fin 8)
  /-- MODULE_RECHECK, R491: The approver's RECHECK sends the slot back to READING. -/
  | moduleRecheck (a : Agent) (m : Fin 8)
  /-- DRP_TOGGLE, R500: A DRP port alternates Rp and Rd every half tDRP. -/
  | drpToggle (p : Fin 4)
  /-- CC_TERMINATION_CHANGE, R500: A partner termination appears on CC, moving to an attach-wait, AUDIO or DEBUG state. -/
  | ccTerminationChange (p : Fin 4) (cc1 cc2 : Fin 4) (seen : CcIn)
  /-- CC_DEBOUNCE, R500: tCCDebounce of stable CC attaches as source, sink or TRY_SRC, or refuses a wet source. -/
  | ccDebounce (p : Fin 4) (rp : Fin 4)
  /-- TRY_CC_DEBOUNCE, R500: Rd for tTryCCDebounce in TRY_SRC attaches as source. -/
  | tryCcDebounce (p : Fin 4) (cc2 : Bool)
  /-- DRP_TRY_TIMEOUT, R500: tDRPTry without Rd in TRY_SRC attaches as sink. -/
  | drpTryTimeout (p : Fin 4)
  /-- CC_OPEN, R500: CC open for 10 µs detaches a source, opening the switch and discharging VBUS. -/
  | ccOpen (p : Fin 4)
  /-- VBUS_LOSS, R500: VBUS below vSafe5V outside a transition detaches a sink. -/
  | vbusLoss (p : Fin 4)
  /-- ACCESSORY_DETACH, R500: CC open for tPDDebounce leaves AUDIO or DEBUG. -/
  | accessoryDetach (p : Fin 4)
  /-- ERROR_RECOVERY_END, R500: tErrorRecovery elapses and the port enters DISABLED. -/
  | errorRecoveryEnd (p : Fin 4)
  /-- TC_ENABLE, R531: A write of TC_CTRL.ENABLE disables or re-arms a Type-C port. -/
  | tcEnable (a : Agent) (p : Fin 4) (on : Bool)
  /-- TC_REARM, R500: TC_CTRL.REARM takes a disabled port back to UNATTACHED. -/
  | tcRearm (a : Agent) (p : Fin 4)
  /-- MOISTURE_TEST, R505: A leakage measurement marks the port wet or dry. -/
  | moistureTest (p : Fin 4) (kohm : Nat)
  /-- SOURCE_CAPABILITIES, R516: Received Source_Capabilities make the sink hub request the best matching object. -/
  | sourceCapabilities (p : PdFrom) (epr : Bool) (objs : List Word)
  /-- REQUEST, R516: A sink's Request is evaluated against offered objects and accepted or rejected. -/
  | request (p : PdFrom) (rdo : Word)
  /-- EPR_REQUEST, R516: An EPR_Request asks for an EPR object within EPR mode. -/
  | eprRequest (p : Fin 4) (rdo pdo : Word)
  /-- ACCEPT, R519: An Accept advances the pending request, swap or reset exchange. -/
  | accept (p : Fin 4)
  /-- REJECT, R517: A Reject ends the pending request or swap attempt. -/
  | reject (p : Fin 4)
  /-- WAIT, R528: A Wait postpones a swap, which the hub retries after 100 ms. -/
  | wait (p : Fin 4)
  /-- PS_RDY, R516: PS_RDY completes a power transition, establishing the contract. -/
  | psRdy (p : Fin 4)
  /-- CABLE_IDENTITY_RESPONSE, R510: The cable's Discover Identity response sets the current, voltage, gear and class limits. -/
  | cableIdentityResponse (p : Fin 4) (answered active : Bool) (vdo : Word)
  /-- GET_SOURCE_CAP, R507: Get_Source_Cap is answered with the hub's capped source objects. -/
  | getSourceCap (p : Fin 4)
  /-- GET_SINK_CAP, R507: Get_Sink_Cap is answered with the hub's sink objects. -/
  | getSinkCap (p : Fin 4)
  /-- SINK_CAPABILITIES, R520: Received Sink_Capabilities with a Fast Role Swap field arm fast role swap. -/
  | sinkCapabilities (p : Fin 4) (objs : List Word)
  /-- PR_SWAP, R519: A PR_Swap from the partner is accepted or rejected by the power-role rules. -/
  | prSwap (p : Fin 4)
  /-- DR_SWAP, R519: A DR_Swap from the partner is accepted to become UFP, else by ACCEPT_DR. -/
  | drSwap (p : Fin 4)
  /-- VCONN_SWAP, R519: A VCONN_Swap is accepted to take VCONN always and to give it up by ACCEPT_VCONN. -/
  | vconnSwap (p : Fin 4)
  /-- FR_SWAP, R519: An FR_Swap completes a fast role swap with Accept and PS_RDY. -/
  | frSwap (p : Fin 4)
  /-- SOFT_RESET, R522: A received Soft_Reset resets the protocol layer without mode exit. -/
  | softReset (p : Fin 4)
  /-- HARD_RESET_RECEIVED, R523: A Hard Reset takes VBUS to vSafe0V and back, removes VCONN and exits every mode. -/
  | hardResetReceived (p : Fin 4)
  /-- EPR_MODE, R516: An EPR_Mode request enters EPR mode when the cable allows above 20 V. -/
  | eprMode (p : Fin 4) (obj : Word)
  /-- EPR_KEEPALIVE, R518: An EPR_KeepAlive from the sink is acknowledged and restarts the source's keep-alive watch. -/
  | eprKeepalive (p : Fin 4)
  /-- ALERT, R508: An Alert from the partner is recorded in PD_ALERT and sets TC_EVT.ALERT. -/
  | alert (p : Fin 4) (ado : Word)
  /-- UNSUPPORTED_MESSAGE, R507: A message the port does not handle is answered Not_Supported. -/
  | unsupportedMessage (m : PdOther)
  /-- DISCOVER_IDENTITY, R512: A Discover Identity on SOP is answered with the hub's identity objects. -/
  | discoverIdentity (p : Fin 4)
  /-- DISCOVER_SVIDS, R512: Discover SVIDs returns SVID 0x2F5A. -/
  | discoverSvids (p : Fin 4)
  /-- DISCOVER_MODES, R512: Discover Modes returns the Caravan mode VDO. -/
  | discoverModes (p : Fin 4) (svid : BitVec 16)
  /-- ENTER_MODE, R274: Enter Mode for SVID 0x2F5A enters Caravan as UFP or is NAKed; the link enters REF. -/
  | enterMode (p : Fin 4) (svid : BitVec 16) (mode : Fin 8) (vdo : Word)
  /-- EXIT_MODE, R513: Exit Mode takes the Caravan link to OFF. -/
  | exitMode (p : Fin 4) (svid : BitVec 16)
  /-- SENDER_RESPONSE_TIMEOUT, R522: SenderResponseTimer expiry sends Soft Reset, then Hard Reset on a second expiry. -/
  | senderResponseTimeout (p : Fin 4)
  /-- NO_RESPONSE_TIMEOUT, R522: tNoResponse without contract fails a Hard Reset, escalating to another or to ERROR_RECOVERY. -/
  | noResponseTimeout (p : Fin 4)
  /-- PS_TRANSITION_TIMEOUT, R521: tPSTransition without PS_RDY fails the sink's transition and escalates. -/
  | psTransitionTimeout (p : Fin 4)
  /-- PPS_TIMEOUT, R518: No Request within tPPSTimeout under a PPS or AVS contract makes the source send Hard Reset. -/
  | ppsTimeout (p : Fin 4)
  /-- EPR_KEEPALIVE_TIMEOUT, R518: EPR_KeepAlive missing for tSourceEPRKeepAlive makes the source send Hard Reset. -/
  | eprKeepaliveTimeout (p : Fin 4)
  /-- VBUS_OCP, R524: Source over-current opens the switch, sets VBUS_OCP and sends Alert then Hard Reset. -/
  | vbusOcp (p : Fin 4)
  /-- VCONN_OCP, R504: VCONN current above 250 mA for 1 ms opens the VCONN switch. -/
  | vconnOcp (p : Fin 4)
  /-- CC_OPEN_IN_TRANSITION, R525: CC opening during a source voltage transition ends it, discharges VBUS and detaches. -/
  | ccOpenInTransition (p : Fin 4)
  /-- HAMADA_THERMAL_LIMIT, R508: The Hamada die reaching its thermal limit sends Alert with the OTP bit. -/
  | hamadaThermalLimit (p : Fin 4)
  /-- LOCAL_SUPPLY_TRIP, R520: LOCAL_SNS falls below threshold; armed ports signal FR_Swap and shedding starts. -/
  | localSupplyTrip
  /-- SHED_END, R602: LOCAL_OK held for RESTORE ticks ends shedding. -/
  | shedEnd
  /-- SYSTEM_INPUT_CHANGE, R498: The Hamada die changes the system input break-before-make within 50 µs. -/
  | systemInputChange (localOk : Bool)
  /-- TC_SWAP_PR, R519: TC_CTRL.SWAP_PR makes the hub send PR_Swap. -/
  | tcSwapPr (a : Agent) (p : Fin 4)
  /-- TC_SWAP_DR, R519: TC_CTRL.SWAP_DR makes the hub send DR_Swap. -/
  | tcSwapDr (a : Agent) (p : Fin 4)
  /-- TC_SWAP_VCONN, R519: TC_CTRL.SWAP_VCONN makes the hub send VCONN_Swap. -/
  | tcSwapVconn (a : Agent) (p : Fin 4)
  /-- TC_SOFT_RESET, R531: TC_CTRL.SOFT_RESET makes the hub send Soft Reset. -/
  | tcSoftReset (a : Agent) (p : Fin 4)
  /-- TC_HARD_RESET, R531: TC_CTRL.HARD_RESET makes the hub send Hard Reset in service mode. -/
  | tcHardReset (a : Agent) (p : Fin 4)
  /-- EF_CTRL_ON, R539: A write of EF_CTRL.ON sets or clears the owner's standing request for power. -/
  | efCtrlOn (a : Agent) (c : Fin 8) (on : Bool)
  /-- EF_CLEAR, R549: EF_CTRL.CLEAR takes a faulted channel to OFF where allowed. -/
  | efClear (a : Agent) (c : Fin 8)
  /-- EF_ENABLE, R540: A write of EF_CTRL.ENABLE starts or stops a channel, with gates off when stopped. -/
  | efEnable (a : Agent) (c : Fin 8) (on : Bool)
  /-- INSERTION_DELAY_END, R541: The INS_DELAY-th counted boundary moves the channel from DELAY to RAMP. -/
  | insertionDelayEnd (c : Fin 8)
  /-- SLEW_END, R542: VOUT reaching VIN-0.5 V ends slew control and drives the gate full. -/
  | slewEnd (c : Fin 8)
  /-- SHORTED_B_SAMPLE, R542: At 2 V of rise in SERIES the MID-VOUT sample detects a shorted B and B is driven full. -/
  | shortedBSample (c : Fin 8) (mv : Nat)
  /-- POWER_GOOD_ASSERT, R545: VOUT in the power-good window with no episode asserts PG and enters ON. -/
  | powerGoodAssert (c : Fin 8)
  /-- PG_LOST, R540: VOUT out of the window for FLT_TIME without current limit faults the channel. -/
  | pgLost (c : Fin 8)
  /-- RAMP_TIMEOUT, R546: RAMP_TO ticks in RAMP fault the channel, switch path or declare GATE_STUCK. -/
  | rampTimeout (c : Fin 8) (fullDrive : Bool)
  /-- GATE_RISE_TIMEOUT, R546: A gate not at full-on within GATE_RISE is GATE_STUCK. -/
  | gateRiseTimeout (c : Fin 8)
  /-- LIMIT_EPISODE_START, R543: Current reaching ILIM is held there and the fault timer starts. -/
  | limitEpisodeStart (c : Fin 8)
  /-- LIMIT_EPISODE_END, R543: Current below ILIM for 10 µs ends the episode and clears the timer. -/
  | limitEpisodeEnd (c : Fin 8)
  /-- FAULT_TIMER_EXPIRY, R543: FLT_TIME slots of one episode fault the channel with OVERCURRENT. -/
  | faultTimerExpiry (c : Fin 8)
  /-- FAST_TRIP, R544: Current above the fast-trip threshold pulls every gate off within 1 µs, faulting with SHORT. -/
  | fastTrip (c : Fin 8)
  /-- VIN_OVERVOLTAGE, R540: VIN above VIN_MAX for 2 PDA cycles faults the channel with VIN_OV. -/
  | vinOvervoltage (c : Fin 8)
  /-- VIN_UNDERVOLTAGE, R540: VIN below VIN_MIN turns a delaying, ramping or on channel off. -/
  | vinUndervoltage (c : Fin 8)
  /-- SHORTED_FET_DETECT, R546: VOUT rising with all gates off faults the channel with SHORTED_FET. -/
  | shortedFetDetect (c : Fin 8)
  /-- DEGRADED_FET, R546: VDS above VDS_MAX for 8 ticks reports a degraded FET and may switch path. -/
  | degradedFet (c : Fin 8)
  /-- REVERSE_CURRENT, R550: VOUT above VIN+0.2 V for 10 µs in SERIES turns both gates off as REVERSE. -/
  | reverseCurrent (c : Fin 8)
  /-- REVERSE_END, R550: The reverse condition ends and the channel re-enters DELAY. -/
  | reverseEnd (c : Fin 8)
  /-- RETRY_DELAY_END, R549: RETRY_DELAY ticks after a retryable fault the channel goes to OFF. -/
  | retryDelayEnd (c : Fin 8)
  /-- RETRIES_CLEAR, R549: 8,000 ticks in ON clear RETRIES. -/
  | retriesClear (c : Fin 8)
  /-- THERMAL_SELF_STEP, R552: 250 µs without a model step makes the Hamada die step the model itself and set SELF_STEP. -/
  | thermalSelfStep (c : Fin 8)
  /-- COLD_RESET, R557: The Hamada die asserts cold reset on invalid rails, brown-out or wake from OFF. -/
  | coldReset (cause : Fin 9)
  /-- RAIL_SEQUENCE_FAIL, R644: A rail not valid within 5 ms of its enable drops every enable and retries after 100 ms. -/
  | railSequenceFail (rail : Fin 6)
  /-- WARM_RESET, R558: RESET_N low for 1.05 µs starts a warm reset. -/
  | warmReset
  /-- WARM_RESET_END, R558: The warm reset ends 50 µs after RESET_N rises and the main die is released. -/
  | warmResetEnd
  /-- FATAL_ERROR, R611: A FATAL error is logged and, if repeated within ESC_WINDOW in the same unit, escalated. -/
  | fatalError (unit : Fin 42) (code : Word)
  /-- ISO_ISOLATE, R574: ISO_u.ISOLATE isolates a unit in service mode. -/
  | isoIsolate (a : Agent) (u : Fin 24)
  /-- ISO_RESTART, R573: ISO_u.RESTART releases a HELD unit. -/
  | isoRestart (a : Agent) (u : Fin 24)
  /-- ISOLATION_EXIT, R572: Re-initialisation and qualification end and the unit leaves isolation. -/
  | isolationExit (u : Fin 24)
  /-- POWER_DRAIN_DONE, R584: The drain of a power request ends, the hub replies OK and enters the state behind clamps. -/
  | powerDrainDone
  /-- POWER_DRAIN_TIMEOUT, R584: Work remaining after MGMT_NP_TIMEOUT refuses the power request with DRAIN. -/
  | powerDrainTimeout
  /-- WAKE, R588: An enabled wake source returns the hub to RUN and records the wake. -/
  | wake (src : Fin 9) (detail : BitVec 4) (elapsed : Nat) (check : Word) (unc : Nat)
  /-- PWR_STAY_WRITE, R583: A write of PWR_STAY.MINE sets or clears the agent's stay-awake flag, returning IDLE to RUN. -/
  | pwrStayWrite (a : Agent) (on : Bool)
  /-- FAILOVER_SUSPEND_END, R581: Links back up or 8,000 ticks after wake re-enable failover triggers. -/
  | failoverSuspendEnd
  /-- BROWN_OUT, R590: AON regulator overload for 30 µs sets BROWNOUT_CAUSE and causes a cold reset. -/
  | brownOut
  /-- ECC_ERROR, R595: An SRAM read corrects a single-bit error or reports an uncorrectable one. -/
  | eccError (array row : BitVec 16) (double : Bool) (met : EccIn)
  /-- SCRUB, R596: Oasis reads and corrects SRAM words in idle cycles, covering all within 16,000 ticks. -/
  | scrub (fixes : List (BitVec 16 × BitVec 16))
  /-- ROW_REPAIR, R599: A queued row repair tests a spare, copies the row and redirects it. -/
  | rowRepair (array row : BitVec 16) (badSpares spares : Nat)
  /-- WEAR_RECORD_WRITE, R619: The hub writes the next wear record to flash daily, on a notice or before OFF. -/
  | wearRecordWrite
  /-- ERR_RING_POP, R610: ERR_RING_POP removes the oldest ring entry of the agent's log. -/
  | errRingPop (a : Agent)
  /-- ERR_FIRST_ACK, R610: ERR_FIRST_ACK empties the agent's first-error capture. -/
  | errFirstAck (a : Agent)
  /-- PAIR_INVERTED, R176: A receiver in REF or SPEED declares a pair inverted after 16 consecutive inverted TRAIN blocks and corrects it in its receive path. -/
  | pairInverted (h : Hp) (pair : Fin 4)
  /-- DRIVE_INSERTION, R391: PCIE_p_PRSNT_N falls and, debounced for 2 ms, sets PX_STATUS.PRESENT and PX_EVT.PRESENCE_CHG. -/
  | driveInsertion (p : Fin 2)
  /-- DRIVE_LINK_CHANGE, R407: The drive link reaches DL_Up or falls to DL_Down outside a port reset or removal, setting PX_EVT.LINK_CHG and PX_STATUS.LINK_UP. -/
  | driveLinkChange (p : Fin 2) (up : Bool) (speed : Fin 5) (link : DriveIn)
  /-- FACE_SUSPEND, R452: The host stops bus activity on an upstream face, which enters suspend and sets UF_EVT.SUSPEND_CHG. -/
  | faceSuspend (h : Hp)
  /-- FACE_RESUME, R444: The host drives resume signalling on a suspended or L1 face, which resumes and may be wake source 3. -/
  | faceResume (h : Hp)
  /-- CAN_STATE_CHANGE, R495: A CAN controller passes between error-active, error-passive and bus-off, updating CAN_STATE and setting ERR_PASSIVE or BUS_OFF. -/
  | canStateChange (c : Fin 4) (st : Fin 3)
  /-- FR_SWAP_SIGNAL, R519: As initial sink, the hub detects the partner's fast-role-swap signal on CC and, where its source objects allow, turns on its source when VBUS falls. -/
  | frSwapSignal (p : Fin 4)
  /-- VIN_WITHIN_RANGE, R540: An e-fuse channel's VIN returns to the range VIN_MIN to VIN_MAX, letting an OFF channel with ON set, cleared and not shed enter DELAY. -/
  | vinWithinRange (c : Fin 8)
  /-- VOUT_LEAVES_WINDOW, R545: VOUT leaves the power-good window, PG drops in that PDA cycle, and the PG_LOST timer starts. -/
  | voutLeavesWindow (c : Fin 8)
  /-- VOLTAGE_TRANSITION_DONE, R516: As source, the hub's VBUS reaches the new contract voltage and the hub sends PS_RDY, putting the contract in force. -/
  | voltageTransitionDone (p : Fin 4)
  /-- RAIL_VALID, R644: VHAM_IN or a sequenced main-die rail becomes valid, the next PWR_EN is raised 0.5 ms later, and cold reset is released 2 ms after the last rail. -/
  | railValid (rail : Fin 7)
  /-- SLEEP_PD_KEEPALIVE, R577: In SLEEP or DORMANT the Hamada die sends each PD and EPR keep-alive that R516 requires, on its own clock. -/
  | sleepPdKeepalive
deriving DecidableEq, Repr

end Sys2Proof
end

