-- ==== Sys2Proof/Config.lean ====
section
/-! DEFINITION. Config.lean: what one part fixes and the spec leaves open. Each constant has no body, so nothing can
be proved of its value, and a claim holds whatever it is. -/
namespace Sys2Proof.Config

/-- The `n`-th value that the spec leaves open (log entry 10). -/
opaque freeWord : Nat → BitVec 32

/-- The `n`-th nonce of the hub's random source (R135, log entry 11). -/
opaque nonce : Nat → BitVec 384

/-- SHA-384 (R80, R81, R136, log entry 12). -/
opaque sha384 : List Byte → BitVec 384

/-- ECDSA P-384 verification of a signature over a digest: key X and Y, digest, r and s (R80, R136, log entry 12). -/
opaque ecdsaVerify : List Byte → BitVec 384 → List Byte → Bool

/-- Main-die and Hamada-die silicon revision (R639: the present hardware state, log entry 4). -/
opaque revMain : BitVec 8

/-- Hamada-die silicon revision (R639, log entry 4). -/
opaque revHamada : BitVec 8

/-- The die identifier programmed at manufacture (R639, log entry 4). -/
opaque dieId : BitVec 64

/-- R615's Arrhenius factor: what a run of monitor 0 adds to the equivalent hours, in 2^-32 of 1/16 h, for a sample in
0.25 degC units and a PERIOD in ticks (log entry 13). -/
opaque ageStep : Int → Nat → Nat

/-- The (array, row) pairs that the SRAM self-test of a cold start finds bad (R599, R620, log entry 168). -/
opaque testRows : Nat → List (BitVec 16 × BitVec 16)

/-- The UNIT code of R606 of the block whose SRAM an array number names: the spec numbers no array (log entry 17). -/
opaque arrayUnit : BitVec 16 → BitVec 8

/-- An array number names a Playa grain memory (R354, log entry 17). -/
opaque arrayPlaya : BitVec 16 → Bool

end Sys2Proof.Config
end

