-- ==== Sys2Proof/Machine/Addr.lean ====
section
/-! DEFINITION. Machine/Addr.lean: the address of every register of the management space (R625, R626) and
the place of every field in it, from the register tables of the chapters. `A.X` is a register's address,
`F.X_Y` the field Y of register X; an instance index is an argument, in the order of the register's
name. A register that reports or belongs to the accessing agent (R156, R297, R610, R631) is held once per agent:
its first argument is the agent code of R79, and its copies lie above the 32-bit space at `bankBase`. -/
namespace Sys2Proof.Machine

/-- A field: the key of its register in the register file, its lowest bit and its width (R2). -/
structure FRef where
  addr : Nat
  lsb : Nat
  width : Nat
deriving DecidableEq, Repr

/-- The key offset of agent `a`'s own copy of a register that is held once per agent. -/
def bankBase (a : Nat) : Nat := (a + 1) * 4294967296

namespace A
def SYS_ID : Nat := 0x0
def SYS_REV : Nat := 0x4
def SYS_DIE_ID_LO : Nat := 0x8
def SYS_DIE_ID_HI : Nat := 0xC
def SYS_STATE : Nat := 0x10
def SYS_RESET_CAUSE : Nat := 0x14
def SYS_KEEP_n (n : Nat) : Nat := 0x20 + n * 0x4
def ISO_u (u : Nat) : Nat := 0x400 + u * 0x4
def PWR_STATE : Nat := 0x500
def PWR_STAY : Nat := 0x504
def PWR_WAKE : Nat := 0x508
def PWR_WAKE_TIME_LO : Nat := 0x50C
def PWR_WAKE_TIME_HI : Nat := 0x510
def PWR_LAST_REFUSE : Nat := 0x514
def PWR_TIMER : Nat := 0x518
def PWR_EVT : Nat := 0x51C
def PWR_REFUSE_n (n : Nat) : Nat := 0x520 + n * 0x4
def BROWNOUT_CAUSE : Nat := 0x540
def TIME_LO : Nat := 0x10000
def TIME_HI (a : Nat) : Nat := bankBase a + 0x10004
def TOD_NS (a : Nat) : Nat := bankBase a + 0x10008
def TOD_SEC_LO (a : Nat) : Nat := bankBase a + 0x1000C
def TOD_SEC_HI (a : Nat) : Nat := bankBase a + 0x10010
def TIME_QUAL : Nat := 0x10014
def REF_CTRL : Nat := 0x10020
def REF_STATUS : Nat := 0x10024
def REF_ADJ : Nat := 0x10028
def REF_ADJ_LIMIT : Nat := 0x1002C
def DISC_CTRL : Nat := 0x10030
def DISC_LOOP : Nat := 0x10034
def DISC_LIMITS : Nat := 0x10038
def DISC_STATUS : Nat := 0x1003C
def DISC_PHASE : Nat := 0x10040
def TOD_OFFSET_NS : Nat := 0x10044
def TOD_OFFSET_SEC_LO : Nat := 0x10048
def TOD_OFFSET_SEC_HI : Nat := 0x1004C
def TIME_EVT : Nat := 0x10050
def CHORE_STATUS : Nat := 0x10100
def CHORE_SKIP : Nat := 0x10104
def CHORE_LAST_SKIP : Nat := 0x10108
def CHORE_LO (i : Nat) : Nat := 0x11000 + i * 0x8
def CHORE_HI (i : Nat) : Nat := 0x11004 + i * 0x8
def IMAGE_GEN : Nat := 0x20000
def IMAGE_SESSION : Nat := 0x20004
def IMAGE_SESSION_BYTES : Nat := 0x20008
def IMAGE_RESULT : Nat := 0x2000C
def IMAGE_RESULT_GEN : Nat := 0x20010
def IMAGE_BOOT : Nat := 0x20014
def IMAGE_KEY : Nat := 0x20018
def IMAGE_HASH_i (i : Nat) : Nat := 0x20020 + i * 0x4
def TICK_COMMIT (a : Nat) : Nat := bankBase a + 0x20100
def TICK_STAGE (a : Nat) : Nat := bankBase a + 0x20104
def LEDGER_SUM (c : Nat) : Nat := 0x20400 + c * 0x8
def LEDGER_LIMIT (c : Nat) : Nat := 0x20404 + c * 0x8
def EVT_LEVEL_n (n : Nat) : Nat := 0x30000 + n * 0x4
def EVT_PEND_n (a n : Nat) : Nat := bankBase a + 0x30020 + n * 0x4
def EVT_MASK_n (a n : Nat) : Nat := bankBase a + 0x30040 + n * 0x4
def FEVT_PEND_n (a n : Nat) : Nat := bankBase a + 0x30060 + n * 0x4
def FEVT_MASK_n (a n : Nat) : Nat := bankBase a + 0x30080 + n * 0x4
def FEVT_CLASS_n (a n : Nat) : Nat := bankBase a + 0x300A0 + n * 0x4
def EVT_STORM_n (a n : Nat) : Nat := bankBase a + 0x300C0 + n * 0x4
def EVT_STORM_CFG : Nat := 0x300E0
def EVT_STORM_COUNT : Nat := 0x300E4
def EVT_ROUTE_s (s : Nat) : Nat := 0x30400 + s * 0x4
def EVT_RISE_s (s : Nat) : Nat := 0x30800 + s * 0x4
def MGMT_WHOAMI (a : Nat) : Nat := bankBase a + 0x40000
def MGMT_NP_TIMEOUT : Nat := 0x40004
def MGMT_OWN_CHG (a : Nat) : Nat := bankBase a + 0x40008
def MGMT_HB_h (h : Nat) : Nat := 0x40010 + h * 0x4
def MGMT_INFLIGHT_a (a : Nat) : Nat := 0x40020 + a * 0x4
def MGMT_INFLIGHT_CHIP : Nat := 0x40040
def MGMT_SERVICE (a : Nat) : Nat := bankBase a + 0x40044
def MGMT_TAG_ERR (a : Nat) : Nat := bankBase a + 0x40048
def MGMT_SPI_ERR : Nat := 0x4004C
def MGMT_LEN_ERR (a : Nat) : Nat := bankBase a + 0x40050
def OWN_k (k : Nat) : Nat := 0x40100 + k * 0x4
def OWN_MINE_LO (a : Nat) : Nat := bankBase a + 0x40200
def OWN_MINE_HI (a : Nat) : Nat := bankBase a + 0x40204
def OWN_STBY_LO (a : Nat) : Nat := bankBase a + 0x40208
def OWN_STBY_HI (a : Nat) : Nat := bankBase a + 0x4020C
def CV_CTRL (h : Nat) : Nat := 0x100000 + h * 0x10000
def CV_STATUS (h : Nat) : Nat := 0x100004 + h * 0x10000
def CV_EVT (h : Nat) : Nat := 0x100008 + h * 0x10000
def CV_LAT (h : Nat) : Nat := 0x10000C + h * 0x10000
def CV_CFG0 (h : Nat) : Nat := 0x100010 + h * 0x10000
def CV_CFG1 (h : Nat) : Nat := 0x100014 + h * 0x10000
def CV_SEQ (h : Nat) : Nat := 0x100018 + h * 0x10000
def CV_REPLAY (h : Nat) : Nat := 0x10001C + h * 0x10000
def CV_CORR_SYM (h : Nat) : Nat := 0x100020 + h * 0x10000
def CV_UNCORR (h : Nat) : Nat := 0x100024 + h * 0x10000
def CV_CRC_ERR (h : Nat) : Nat := 0x100028 + h * 0x10000
def CV_NAK_SENT (h : Nat) : Nat := 0x10002C + h * 0x10000
def CV_NAK_RCVD (h : Nat) : Nat := 0x100030 + h * 0x10000
def CV_REPLAYS (h : Nat) : Nat := 0x100034 + h * 0x10000
def CV_LOCK_LOSS (h : Nat) : Nat := 0x100038 + h * 0x10000
def CV_TURNS (h : Nat) : Nat := 0x10003C + h * 0x10000
def CV_UNKNOWN_CTL (h : Nat) : Nat := 0x100040 + h * 0x10000
def CV_TUN_GEN (h : Nat) : Nat := 0x100100 + h * 0x10000
def CV_TUN_EVT (h : Nat) : Nat := 0x100104 + h * 0x10000
def CV_TUN_BADTUN (h : Nat) : Nat := 0x100108 + h * 0x10000
def CV_TUN_STALE (h : Nat) : Nat := 0x10010C + h * 0x10000
def CV_TUN_NOTOWN (h : Nat) : Nat := 0x100110 + h * 0x10000
def CV_TUN_ECHO (h : Nat) : Nat := 0x100114 + h * 0x10000
def CV_MODE_VDO (h : Nat) : Nat := 0x100120 + h * 0x10000
def CV_TUN_n_W0 (h n : Nat) : Nat := 0x100200 + h * 0x10000 + n * 0x8
def CV_TUN_n_W1 (h n : Nat) : Nat := 0x100204 + h * 0x10000 + n * 0x8
def CV_TUN_n_CRED (h n : Nat) : Nat := 0x100600 + h * 0x10000 + n * 0x4
def LG_CTRL (g : Nat) : Nat := 0x200000 + g * 0x8000
def LG_STATUS (g : Nat) : Nat := 0x200004 + g * 0x8000
def LG_EVT (g : Nat) : Nat := 0x200008 + g * 0x8000
def LG_QUAL (g : Nat) : Nat := 0x20000C + g * 0x8000
def LG_DWELL (g : Nat) : Nat := 0x200010 + g * 0x8000
def LG_SERVICE (g : Nat) : Nat := 0x200014 + g * 0x8000
def LN_STATUS (g l : Nat) : Nat := 0x200100 + g * 0x8000 + l * 0x40
def LN_TXEQ (g l : Nat) : Nat := 0x200104 + g * 0x8000 + l * 0x40
def LN_FAREQ (g l : Nat) : Nat := 0x200108 + g * 0x8000 + l * 0x40
def LN_RXEQ (g l : Nat) : Nat := 0x20010C + g * 0x8000 + l * 0x40
def LN_MARGIN (g l : Nat) : Nat := 0x200110 + g * 0x8000 + l * 0x40
def LN_FOM (g l : Nat) : Nat := 0x200114 + g * 0x8000 + l * 0x40
def LN_EYE_CTRL (g l : Nat) : Nat := 0x200118 + g * 0x8000 + l * 0x40
def LN_EYE_RESULT (g l : Nat) : Nat := 0x20011C + g * 0x8000 + l * 0x40
def LANE_EVT : Nat := 0x278000
def BC_STATUS : Nat := 0x300000
def BC_EVT : Nat := 0x300004
def BANK_CTRL (a : Nat) : Nat := bankBase a + 0x300008
def PORT_SPLIT_h (h : Nat) : Nat := 0x300010 + h * 0x4
def STAT_CFG : Nat := 0x300020
def STAT_WARN : Nat := 0x300024
def QMAP_q (q : Nat) : Nat := 0x301000 + q * 0x4
def PMAP_p (p : Nat) : Nat := 0x301600 + p * 0x4
def BANK_b_e_Wn (b e n : Nat) : Nat := 0x304000 + b * 0x2000 + e * 0x10 + n * 0x4
def QSTATE_q (q : Nat) : Nat := 0x308000 + q * 0x20
def QSTATE_TIMING (q : Nat) : Nat := 0x308004 + q * 0x20
def QSTATE_SENT (q : Nat) : Nat := 0x308008 + q * 0x20
def QSTATE_BYTES_LO (q : Nat) : Nat := 0x30800C + q * 0x20
def QSTATE_BYTES_HI (q : Nat) : Nat := 0x308010 + q * 0x20
def QSTATE_EXCESS_KIB (q : Nat) : Nat := 0x308014 + q * 0x20
def QSTATE_DROPS (q : Nat) : Nat := 0x308018 + q * 0x20
def PSTATE_p (p : Nat) : Nat := 0x30C000 + p * 0x10
def PSTATE_GREEN (p : Nat) : Nat := 0x30C004 + p * 0x10
def PSTATE_YELLOW (p : Nat) : Nat := 0x30C008 + p * 0x10
def PSTATE_RED (p : Nat) : Nat := 0x30C00C + p * 0x10
def QSTAT_DEPTH_MIN (q : Nat) : Nat := 0x310000 + q * 0x80
def QSTAT_DEPTH_MAX (q : Nat) : Nat := 0x310004 + q * 0x80
def QSTAT_DEPTH_MEAN (q : Nat) : Nat := 0x310008 + q * 0x80
def QSTAT_DELAY_MIN (q : Nat) : Nat := 0x31000C + q * 0x80
def QSTAT_DELAY_MAX (q : Nat) : Nat := 0x310010 + q * 0x80
def QSTAT_DELAY_MEAN (q : Nat) : Nat := 0x310014 + q * 0x80
def QSTAT_WINDOW_ID (q : Nat) : Nat := 0x310018 + q * 0x80
def QSTAT_HIST (q i : Nat) : Nat := 0x310040 + q * 0x80 + i * 0x4
def SR_STATUS : Nat := 0x340000
def SR_EVT : Nat := 0x340004
def SR_SUBMIT_W (i : Nat) : Nat := 0x340010 + i * 0x4
def SR_LAST_RESULT_W (a i : Nat) : Nat := bankBase a + 0x340020 + i * 0x4
def SR_CANCEL_W (i : Nat) : Nat := 0x340028 + i * 0x4
def SR_RES_k (k : Nat) : Nat := 0x340100 + k * 0x4
def SR_LSTAT_k (k : Nat) : Nat := 0x340200 + k * 0x4
def SR_LEXC_k (k : Nat) : Nat := 0x340300 + k * 0x4
def CAP_CTRL_g (g : Nat) : Nat := 0x340400 + g * 0x40
def CAP_STAT_g (g : Nat) : Nat := 0x340404 + g * 0x40
def CAP_EVT_g (g : Nat) : Nat := 0x340408 + g * 0x40
def CAP_REC_W (g i : Nat) : Nat := 0x340410 + g * 0x40 + i * 0x4
def CAP_LINE_c (c : Nat) : Nat := 0x340500 + c * 0x4
def GL_CTRL_x (x : Nat) : Nat := 0x340600 + x * 0x20
def GL_PERIOD_x (x : Nat) : Nat := 0x340604 + x * 0x20
def GL_PHASE_x (x : Nat) : Nat := 0x340608 + x * 0x20
def GL_STATUS_x (x : Nat) : Nat := 0x34060C + x * 0x20
def PL_ECC : Nat := 0x400000
def PL_PART_x (x : Nat) : Nat := 0x400010 + x * 0x4
def PL_SCAN_x (x : Nat) : Nat := 0x400020 + x * 0x4
def PL_WRITER : Nat := 0x400028
def PL_WR_h_n (h n : Nat) : Nat := 0x400100 + h * 0x100 + n * 0x4
def HD_CTRL (x : Nat) : Nat := 0x410000 + x * 0x10000
def HD_STATUS (x : Nat) : Nat := 0x410004 + x * 0x10000
def HD_EVT (x : Nat) : Nat := 0x410008 + x * 0x10000
def HD_FRAMES (x : Nat) : Nat := 0x41000C + x * 0x10000
def HD_PCLK (x : Nat) : Nat := 0x410010 + x * 0x10000
def HD_HTIM (x : Nat) : Nat := 0x410014 + x * 0x10000
def HD_HSYNC (x : Nat) : Nat := 0x410018 + x * 0x10000
def HD_VTIM (x : Nat) : Nat := 0x41001C + x * 0x10000
def HD_VSYNC (x : Nat) : Nat := 0x410020 + x * 0x10000
def HD_BG (x : Nat) : Nat := 0x410024 + x * 0x10000
def HD_COMMIT (x : Nat) : Nat := 0x410028 + x * 0x10000
def HD_WAIT (x : Nat) : Nat := 0x41002C + x * 0x10000
def HD_COMMIT_STATUS (x : Nat) : Nat := 0x410030 + x * 0x10000
def HD_SEQ (x : Nat) : Nat := 0x410034 + x * 0x10000
def HD_POOL (x : Nat) : Nat := 0x410038 + x * 0x10000
def HD_POOL_WM (x : Nat) : Nat := 0x41003C + x * 0x10000
def HD_WDROP (x : Nat) : Nat := 0x410040 + x * 0x10000
def HD_LINK_CFG (x : Nat) : Nat := 0x410080 + x * 0x10000
def HD_LINK_STATUS (x : Nat) : Nat := 0x410084 + x * 0x10000
def HD_AUX_REQ (x : Nat) : Nat := 0x410088 + x * 0x10000
def HD_AUX_CTRL (x : Nat) : Nat := 0x41008C + x * 0x10000
def HD_AUX_STATUS (x : Nat) : Nat := 0x410090 + x * 0x10000
def HD_AUX_DATA (x i : Nat) : Nat := 0x410094 + x * 0x10000 + i * 0x4
def LY_CTRL (x n : Nat) : Nat := 0x410100 + x * 0x10000 + n * 0x20
def LY_POS (x n : Nat) : Nat := 0x410104 + x * 0x10000 + n * 0x20
def LY_SIZE (x n : Nat) : Nat := 0x410108 + x * 0x10000 + n * 0x20
def LY_SRC (x n : Nat) : Nat := 0x41010C + x * 0x10000 + n * 0x20
def LY_PAL_n_i (x n i : Nat) : Nat := 0x411000 + x * 0x10000 + n * 0x400 + i * 0x4
def SURF_W0 (x s : Nat) : Nat := 0x414000 + x * 0x10000 + s * 0x8
def SURF_W1 (x s : Nat) : Nat := 0x414004 + x * 0x10000 + s * 0x8
def MAP_e (x e : Nat) : Nat := 0x418000 + x * 0x10000 + e * 0x4
def PX_CTRL (p : Nat) : Nat := 0x500000 + p * 0x1000
def PX_STATUS (p : Nat) : Nat := 0x500004 + p * 0x1000
def PX_EVT (p : Nat) : Nat := 0x500008 + p * 0x1000
def PX_DEADLINE (p : Nat) : Nat := 0x50000C + p * 0x1000
def PX_UP_DISCARD (p : Nat) : Nat := 0x500010 + p * 0x1000
def PX_DOWN_UR (p : Nat) : Nat := 0x500014 + p * 0x1000
def PX_MALFORMED (p : Nat) : Nat := 0x500018 + p * 0x1000
def PX_ECRC_ERR (p : Nat) : Nat := 0x50001C + p * 0x1000
def PX_REPLAYS (p : Nat) : Nat := 0x500020 + p * 0x1000
def PX_LINK (p : Nat) : Nat := 0x500024 + p * 0x1000
def PX_IDS (p : Nat) : Nat := 0x500030 + p * 0x1000
def PX_BUS (p : Nat) : Nat := 0x500034 + p * 0x1000
def ETH_SW_STATUS : Nat := 0x600000
def ETH_SW_EVT : Nat := 0x600004
def ETH_AGE : Nat := 0x600008
def ETH_FDB_FLUSH : Nat := 0x60000C
def ETH_PCTRL (p : Nat) : Nat := 0x600100 + p * 0x40
def ETH_PSTATUS (q : Nat) : Nat := 0x600104 + q * 0x40
def ETH_GCL (p : Nat) : Nat := 0x600108 + p * 0x40
def ETH_EVT (p : Nat) : Nat := 0x60010C + p * 0x40
def ETH_RX_FRAMES (q : Nat) : Nat := 0x600110 + q * 0x40
def ETH_TX_FRAMES (q : Nat) : Nat := 0x600114 + q * 0x40
def ETH_RX_DROP (q : Nat) : Nat := 0x600118 + q * 0x40
def ETH_FCS_ERR (q : Nat) : Nat := 0x60011C + q * 0x40
def ETH_MACCTL (q : Nat) : Nat := 0x600120 + q * 0x40
def ETH_GATE_OVERRUN (q : Nat) : Nat := 0x600124 + q * 0x40
def ETH_OVERSIZE (q : Nat) : Nat := 0x600128 + q * 0x40
def ETH_TS_LOST (q : Nat) : Nat := 0x60012C + q * 0x40
def ETH_GCE (p l i : Nat) : Nat := 0x601000 + p * 0x400 + l * 0x200 + i * 0x4
def SF_i_W0 (i : Nat) : Nat := 0x602000 + i * 0x10
def SF_i_W1 (i : Nat) : Nat := 0x602004 + i * 0x10
def SF_i_W2 (i : Nat) : Nat := 0x602008 + i * 0x10
def VLAN_W0 (v : Nat) : Nat := 0x603000 + v * 0x8
def VLAN_W1 (v : Nat) : Nat := 0x603004 + v * 0x8
def PORTCFG_q (q : Nat) : Nat := 0x603400 + q * 0x4
def GP_CTRL_p (p : Nat) : Nat := 0x604000 + p * 0x40
def GP_STATUS_p (p : Nat) : Nat := 0x604004 + p * 0x40
def GP_DELAY_p (p : Nat) : Nat := 0x604008 + p * 0x40
def GP_RATIO_p (p : Nat) : Nat := 0x60400C + p * 0x40
def GP_MAC_LO (p : Nat) : Nat := 0x604010 + p * 0x40
def GP_MAC_HI (p : Nat) : Nat := 0x604014 + p * 0x40
def USB_CTRL : Nat := 0x700000
def USB_CFG : Nat := 0x700004
def USB_STATUS : Nat := 0x700008
def UF_CTRL (h : Nat) : Nat := 0x700100 + h * 0x40
def UF_STATUS (h : Nat) : Nat := 0x700104 + h * 0x40
def UF_EVT (h : Nat) : Nat := 0x700108 + h * 0x40
def UF_MF_COUNT (h : Nat) : Nat := 0x70010C + h * 0x40
def UF_MF_ERR (h : Nat) : Nat := 0x700110 + h * 0x40
def UF_MF_QUEUE (h : Nat) : Nat := 0x700114 + h * 0x40
def DS_CFG_n (n : Nat) : Nat := 0x700400 + n * 0x40
def DS_CTRL_n (n : Nat) : Nat := 0x700404 + n * 0x40
def DS_STATUS_n (n : Nat) : Nat := 0x700408 + n * 0x40
def DS_EVT_n (n : Nat) : Nat := 0x70040C + n * 0x40
def DS_COUNT_n (n : Nat) : Nat := 0x700410 + n * 0x40
def DS_WAKE_n (n : Nat) : Nat := 0x700414 + n * 0x40
def WD_ARM_h (h : Nat) : Nat := 0x800000 + h * 0x40
def WD_PERR_STAT_h (h : Nat) : Nat := 0x800004 + h * 0x40
def WD_PERR_POP_h (h : Nat) : Nat := 0x800008 + h * 0x40
def WD_PERR_E (h i : Nat) : Nat := 0x800010 + h * 0x40 + i * 0x4
def WD_MOD_EVT : Nat := 0x800F00
def WD_BUS_CTRL (b : Nat) : Nat := 0x801000 + b * 0x100
def WD_BUS_STATUS (b : Nat) : Nat := 0x801004 + b * 0x100
def WD_BUS_EVT (b : Nat) : Nat := 0x801008 + b * 0x100
def WD_RX_CTRL (b : Nat) : Nat := 0x80100C + b * 0x100
def WD_RX_STAT (b : Nat) : Nat := 0x801010 + b * 0x100
def WD_TX_COUNT (b : Nat) : Nat := 0x801014 + b * 0x100
def WD_ERR_COUNT (b : Nat) : Nat := 0x801018 + b * 0x100
def WD_TIMING_W0 (b : Nat) : Nat := 0x801020 + b * 0x100
def WD_TIMING_W1 (b : Nat) : Nat := 0x801024 + b * 0x100
def WD_CAN_FILT_i (b i : Nat) : Nat := 0x801040 + b * 0x100 + i * 0x8
def WD_CAN_MASK_i (b i : Nat) : Nat := 0x801044 + b * 0x100 + i * 0x8
def WD_MOD_STATUS (m : Nat) : Nat := 0x803000 + m * 0x100
def WD_MOD_CTRL (m : Nat) : Nat := 0x803004 + m * 0x100
def WD_MOD_COUNT (m : Nat) : Nat := 0x803008 + m * 0x100
def WD_MOD_CFG (m i : Nat) : Nat := 0x803010 + m * 0x100 + i * 0x4
def WD_MOD_REC_i (m i : Nat) : Nat := 0x803080 + m * 0x100 + i * 0x4
def TC_CTRL (p : Nat) : Nat := 0x900000 + p * 0x1000
def TC_STATUS (p : Nat) : Nat := 0x900004 + p * 0x1000
def PD_CONTRACT (p : Nat) : Nat := 0x900008 + p * 0x1000
def PD_RDO (p : Nat) : Nat := 0x90000C + p * 0x1000
def PD_CABLE_LIM (p : Nat) : Nat := 0x900010 + p * 0x1000
def PD_CABLE_VDO (p : Nat) : Nat := 0x900014 + p * 0x1000
def PD_ALERT (p : Nat) : Nat := 0x900018 + p * 0x1000
def TC_MOIST (p : Nat) : Nat := 0x90001C + p * 0x1000
def TC_EVT (p : Nat) : Nat := 0x900020 + p * 0x1000
def TC_FLT (p : Nat) : Nat := 0x900024 + p * 0x1000
def TC_COUNT (p : Nat) : Nat := 0x900028 + p * 0x1000
def TC_COUNT2 (p : Nat) : Nat := 0x90002C + p * 0x1000
def TC_CFG_w (p w : Nat) : Nat := 0x900040 + p * 0x1000 + w * 0x4
def PD_PARTNER_i (p i : Nat) : Nat := 0x9000C0 + p * 0x1000 + i * 0x4
def TC_PWR : Nat := 0x90F000
def EF_CTRL (c : Nat) : Nat := 0xA00000 + c * 0x100
def EF_STATUS (c : Nat) : Nat := 0xA00004 + c * 0x100
def EF_EVT (c : Nat) : Nat := 0xA00008 + c * 0x100
def EF_MEAS_V (c : Nat) : Nat := 0xA0000C + c * 0x100
def EF_MEAS_I (c : Nat) : Nat := 0xA00010 + c * 0x100
def EF_TEMP (c : Nat) : Nat := 0xA00014 + c * 0x100
def EF_COUNT (c : Nat) : Nat := 0xA00018 + c * 0x100
def EF_COUNT2 (c : Nat) : Nat := 0xA0001C + c * 0x100
def EF_CFG_w (c w : Nat) : Nat := 0xA00040 + c * 0x100 + w * 0x4
def OA_EVT : Nat := 0xB00000
def OA_STATUS : Nat := 0xB00004
def OA_CFG : Nat := 0xB00008
def OA_LIMIT : Nat := 0xB0000C
def OA_LIMIT2 : Nat := 0xB00010
def OA_SHED : Nat := 0xB00014
def OA_SHED_STATUS : Nat := 0xB00018
def OA_NOTICE : Nat := 0xB00020
def OA_AGE : Nat := 0xB00040
def OA_HOT : Nat := 0xB00044
def OA_TJ : Nat := 0xB00048
def OA_RO : Nat := 0xB0004C
def OA_ATTACH_p (p : Nat) : Nat := 0xB00050 + p * 0x4
def OA_FET_CYC_c (c : Nat) : Nat := 0xB00060 + c * 0x4
def OA_NOTICE_DETAIL_n (n : Nat) : Nat := 0xB00080 + n * 0x4
def OA_SRAM : Nat := 0xB00100
def OA_SRAM_CE : Nat := 0xB00104
def OA_RECORD : Nat := 0xB00108
def ERR_FIRST_W (a i : Nat) : Nat := bankBase a + 0xC00000 + i * 0x4
def ERR_FIRST_ACK (a : Nat) : Nat := bankBase a + 0xC00010
def ERR_RING_W (a i : Nat) : Nat := bankBase a + 0xC00020 + i * 0x4
def ERR_RING_POP (a : Nat) : Nat := bankBase a + 0xC00030
def ERR_STAT (a : Nat) : Nat := bankBase a + 0xC00034
end A

namespace F
def SYS_ID_ID : FRef := ⟨A.SYS_ID, 0, 32⟩
def SYS_REV_MAIN : FRef := ⟨A.SYS_REV, 0, 8⟩
def SYS_REV_HAMADA : FRef := ⟨A.SYS_REV, 8, 8⟩
def SYS_DIE_ID_LO_ID : FRef := ⟨A.SYS_DIE_ID_LO, 0, 32⟩
def SYS_DIE_ID_HI_ID : FRef := ⟨A.SYS_DIE_ID_HI, 0, 32⟩
def SYS_STATE_DEV_STATE : FRef := ⟨A.SYS_STATE, 0, 2⟩
def SYS_STATE_ISO : FRef := ⟨A.SYS_STATE, 4, 1⟩
def SYS_STATE_LANE_FAILED : FRef := ⟨A.SYS_STATE, 5, 1⟩
def SYS_STATE_BRIDGE_DEGRADED : FRef := ⟨A.SYS_STATE, 6, 1⟩
def SYS_STATE_REF_SPARE : FRef := ⟨A.SYS_STATE, 7, 1⟩
def SYS_RESET_CAUSE_CAUSE : FRef := ⟨A.SYS_RESET_CAUSE, 0, 4⟩
def SYS_RESET_CAUSE_WARM_COUNT : FRef := ⟨A.SYS_RESET_CAUSE, 16, 16⟩
def SYS_KEEP_n_DATA (n : Nat) : FRef := ⟨A.SYS_KEEP_n n, 0, 32⟩
def ISO_u_STATE (u : Nat) : FRef := ⟨A.ISO_u u, 0, 2⟩
def ISO_u_CAUSE (u : Nat) : FRef := ⟨A.ISO_u u, 4, 3⟩
def ISO_u_ISOLATE (u : Nat) : FRef := ⟨A.ISO_u u, 8, 1⟩
def ISO_u_RESTART (u : Nat) : FRef := ⟨A.ISO_u u, 9, 1⟩
def ISO_u_COUNT (u : Nat) : FRef := ⟨A.ISO_u u, 16, 16⟩
def PWR_STATE_STATE : FRef := ⟨A.PWR_STATE, 0, 3⟩
def PWR_STATE_TARGET : FRef := ⟨A.PWR_STATE, 4, 3⟩
def PWR_STATE_PEND : FRef := ⟨A.PWR_STATE, 7, 1⟩
def PWR_STATE_RETAIN_FAIL : FRef := ⟨A.PWR_STATE, 8, 1⟩
def PWR_STAY_MINE : FRef := ⟨A.PWR_STAY, 0, 1⟩
def PWR_STAY_HOSTS : FRef := ⟨A.PWR_STAY, 8, 4⟩
def PWR_WAKE_LAST : FRef := ⟨A.PWR_WAKE, 0, 4⟩
def PWR_WAKE_DETAIL : FRef := ⟨A.PWR_WAKE, 8, 4⟩
def PWR_WAKE_FROM : FRef := ⟨A.PWR_WAKE, 12, 3⟩
def PWR_WAKE_COUNT : FRef := ⟨A.PWR_WAKE, 16, 16⟩
def PWR_WAKE_TIME_LO_V : FRef := ⟨A.PWR_WAKE_TIME_LO, 0, 32⟩
def PWR_WAKE_TIME_HI_V : FRef := ⟨A.PWR_WAKE_TIME_HI, 0, 32⟩
def PWR_LAST_REFUSE_CODE : FRef := ⟨A.PWR_LAST_REFUSE, 0, 4⟩
def PWR_LAST_REFUSE_AGENT : FRef := ⟨A.PWR_LAST_REFUSE, 4, 3⟩
def PWR_LAST_REFUSE_TARGET : FRef := ⟨A.PWR_LAST_REFUSE, 8, 3⟩
def PWR_TIMER_SEC : FRef := ⟨A.PWR_TIMER, 0, 24⟩
def PWR_EVT_WAKE : FRef := ⟨A.PWR_EVT, 0, 1⟩
def PWR_EVT_REFUSED : FRef := ⟨A.PWR_EVT, 1, 1⟩
def PWR_REFUSE_n_LO (n : Nat) : FRef := ⟨A.PWR_REFUSE_n n, 0, 16⟩
def PWR_REFUSE_n_HI (n : Nat) : FRef := ⟨A.PWR_REFUSE_n n, 16, 16⟩
def BROWNOUT_CAUSE_LP_OVER : FRef := ⟨A.BROWNOUT_CAUSE, 0, 1⟩
def BROWNOUT_CAUSE_NORM_OVER : FRef := ⟨A.BROWNOUT_CAUSE, 1, 1⟩
def BROWNOUT_CAUSE_STATE : FRef := ⟨A.BROWNOUT_CAUSE, 4, 3⟩
def TIME_LO_VALUE : FRef := ⟨A.TIME_LO, 0, 32⟩
def TIME_HI_VALUE (a : Nat) : FRef := ⟨A.TIME_HI a, 0, 32⟩
def TOD_NS_NS (a : Nat) : FRef := ⟨A.TOD_NS a, 0, 30⟩
def TOD_SEC_LO_SEC (a : Nat) : FRef := ⟨A.TOD_SEC_LO a, 0, 32⟩
def TOD_SEC_HI_SEC (a : Nat) : FRef := ⟨A.TOD_SEC_HI a, 0, 16⟩
def TIME_QUAL_UNTRACEABLE : FRef := ⟨A.TIME_QUAL, 0, 1⟩
def TIME_QUAL_RECONSTRUCTED : FRef := ⟨A.TIME_QUAL, 1, 1⟩
def TIME_QUAL_RECON_UNC_US : FRef := ⟨A.TIME_QUAL, 16, 16⟩
def REF_CTRL_SEL : FRef := ⟨A.REF_CTRL, 0, 1⟩
def REF_CTRL_SSC_DEPTH : FRef := ⟨A.REF_CTRL, 1, 2⟩
def REF_STATUS_ACTIVE : FRef := ⟨A.REF_STATUS, 0, 1⟩
def REF_STATUS_XTAL_A_OK : FRef := ⟨A.REF_STATUS, 1, 1⟩
def REF_STATUS_XTAL_B_OK : FRef := ⟨A.REF_STATUS, 2, 1⟩
def REF_STATUS_PLL_LOCK : FRef := ⟨A.REF_STATUS, 3, 1⟩
def REF_ADJ_VALUE : FRef := ⟨A.REF_ADJ, 0, 32⟩
def REF_ADJ_LIMIT_VALUE : FRef := ⟨A.REF_ADJ_LIMIT, 0, 30⟩
def DISC_CTRL_SRC0 : FRef := ⟨A.DISC_CTRL, 0, 4⟩
def DISC_CTRL_SRC1 : FRef := ⟨A.DISC_CTRL, 4, 4⟩
def DISC_CTRL_SRC2 : FRef := ⟨A.DISC_CTRL, 8, 4⟩
def DISC_LOOP_KP_SHIFT : FRef := ⟨A.DISC_LOOP, 0, 5⟩
def DISC_LOOP_KI_SHIFT : FRef := ⟨A.DISC_LOOP, 8, 5⟩
def DISC_LOOP_LOCK_NS : FRef := ⟨A.DISC_LOOP, 16, 16⟩
def DISC_LIMITS_STALE : FRef := ⟨A.DISC_LIMITS, 0, 16⟩
def DISC_LIMITS_STEP_US : FRef := ⟨A.DISC_LIMITS, 16, 16⟩
def DISC_STATUS_STATE : FRef := ⟨A.DISC_STATUS, 0, 2⟩
def DISC_STATUS_ACTIVE_SRC : FRef := ⟨A.DISC_STATUS, 4, 4⟩
def DISC_STATUS_LOCK_RUN : FRef := ⟨A.DISC_STATUS, 8, 8⟩
def DISC_STATUS_STEP_COUNT : FRef := ⟨A.DISC_STATUS, 16, 16⟩
def DISC_PHASE_E : FRef := ⟨A.DISC_PHASE, 0, 32⟩
def TOD_OFFSET_NS_NS : FRef := ⟨A.TOD_OFFSET_NS, 0, 30⟩
def TOD_OFFSET_SEC_LO_SEC : FRef := ⟨A.TOD_OFFSET_SEC_LO, 0, 32⟩
def TOD_OFFSET_SEC_HI_SEC : FRef := ⟨A.TOD_OFFSET_SEC_HI, 0, 16⟩
def TIME_EVT_DISC_CHG : FRef := ⟨A.TIME_EVT, 0, 1⟩
def TIME_EVT_CHORE_SKIP : FRef := ⟨A.TIME_EVT, 1, 1⟩
def TIME_EVT_TOD_STEP : FRef := ⟨A.TIME_EVT, 2, 1⟩
def TIME_EVT_XTAL_DISAGREE : FRef := ⟨A.TIME_EVT, 3, 1⟩
def CHORE_STATUS_OCCUPIED : FRef := ⟨A.CHORE_STATUS, 0, 10⟩
def CHORE_STATUS_ENTRIES : FRef := ⟨A.CHORE_STATUS, 10, 11⟩
def CHORE_SKIP_COUNT : FRef := ⟨A.CHORE_SKIP, 0, 32⟩
def CHORE_LAST_SKIP_SLOT : FRef := ⟨A.CHORE_LAST_SKIP, 0, 10⟩
def CHORE_LAST_SKIP_KIND : FRef := ⟨A.CHORE_LAST_SKIP, 10, 6⟩
def CHORE_LO_W (i : Nat) : FRef := ⟨A.CHORE_LO i, 0, 32⟩
def CHORE_HI_W (i : Nat) : FRef := ⟨A.CHORE_HI i, 0, 32⟩
def IMAGE_GEN_GEN : FRef := ⟨A.IMAGE_GEN, 0, 16⟩
def IMAGE_GEN_SOURCE : FRef := ⟨A.IMAGE_GEN, 16, 2⟩
def IMAGE_GEN_PATCHES : FRef := ⟨A.IMAGE_GEN, 24, 8⟩
def IMAGE_SESSION_OPEN : FRef := ⟨A.IMAGE_SESSION, 0, 1⟩
def IMAGE_SESSION_AGENT : FRef := ⟨A.IMAGE_SESSION, 1, 3⟩
def IMAGE_SESSION_SLOT : FRef := ⟨A.IMAGE_SESSION, 4, 1⟩
def IMAGE_SESSION_BYTES_COUNT : FRef := ⟨A.IMAGE_SESSION_BYTES, 0, 25⟩
def IMAGE_RESULT_CAUSE : FRef := ⟨A.IMAGE_RESULT, 0, 8⟩
def IMAGE_RESULT_AGENT : FRef := ⟨A.IMAGE_RESULT, 8, 3⟩
def IMAGE_RESULT_OP : FRef := ⟨A.IMAGE_RESULT, 12, 2⟩
def IMAGE_RESULT_COLUMN : FRef := ⟨A.IMAGE_RESULT, 16, 5⟩
def IMAGE_RESULT_CASE : FRef := ⟨A.IMAGE_RESULT, 21, 3⟩
def IMAGE_RESULT_LARGER : FRef := ⟨A.IMAGE_RESULT, 24, 1⟩
def IMAGE_RESULT_GEN_GEN : FRef := ⟨A.IMAGE_RESULT_GEN, 0, 16⟩
def IMAGE_BOOT_SLOT_A : FRef := ⟨A.IMAGE_BOOT, 0, 8⟩
def IMAGE_BOOT_SLOT_B : FRef := ⟨A.IMAGE_BOOT, 8, 8⟩
def IMAGE_KEY_SLOT : FRef := ⟨A.IMAGE_KEY, 0, 2⟩
def IMAGE_KEY_BLANK : FRef := ⟨A.IMAGE_KEY, 4, 4⟩
def IMAGE_KEY_REVOKED : FRef := ⟨A.IMAGE_KEY, 8, 4⟩
def IMAGE_HASH_i_HASH (i : Nat) : FRef := ⟨A.IMAGE_HASH_i i, 0, 32⟩
def TICK_COMMIT_COMMIT (a : Nat) : FRef := ⟨A.TICK_COMMIT a, 0, 1⟩
def TICK_COMMIT_DISCARD (a : Nat) : FRef := ⟨A.TICK_COMMIT a, 1, 1⟩
def TICK_STAGE_COUNT (a : Nat) : FRef := ⟨A.TICK_STAGE a, 0, 9⟩
def TICK_STAGE_PENDING (a : Nat) : FRef := ⟨A.TICK_STAGE a, 16, 1⟩
def LEDGER_SUM_SUM (c : Nat) : FRef := ⟨A.LEDGER_SUM c, 0, 32⟩
def LEDGER_LIMIT_LIMIT (c : Nat) : FRef := ⟨A.LEDGER_LIMIT c, 0, 32⟩
def EVT_LEVEL_n_LEVEL (n : Nat) : FRef := ⟨A.EVT_LEVEL_n n, 0, 32⟩
def EVT_PEND_n_PEND (a n : Nat) : FRef := ⟨A.EVT_PEND_n a n, 0, 32⟩
def EVT_MASK_n_MASK (a n : Nat) : FRef := ⟨A.EVT_MASK_n a n, 0, 32⟩
def FEVT_PEND_n_PEND (a n : Nat) : FRef := ⟨A.FEVT_PEND_n a n, 0, 32⟩
def FEVT_MASK_n_MASK (a n : Nat) : FRef := ⟨A.FEVT_MASK_n a n, 0, 32⟩
def FEVT_CLASS_n_FAST (a n : Nat) : FRef := ⟨A.FEVT_CLASS_n a n, 0, 32⟩
def EVT_STORM_n_STORM (a n : Nat) : FRef := ⟨A.EVT_STORM_n a n, 0, 32⟩
def EVT_STORM_CFG_WINDOW : FRef := ⟨A.EVT_STORM_CFG, 0, 8⟩
def EVT_STORM_CFG_LIMIT : FRef := ⟨A.EVT_STORM_CFG, 8, 16⟩
def EVT_STORM_COUNT_COUNT : FRef := ⟨A.EVT_STORM_COUNT, 0, 32⟩
def EVT_ROUTE_s_ROUTE (s : Nat) : FRef := ⟨A.EVT_ROUTE_s s, 0, 32⟩
def EVT_RISE_s_COUNT (s : Nat) : FRef := ⟨A.EVT_RISE_s s, 0, 16⟩
def MGMT_WHOAMI_AGENT (a : Nat) : FRef := ⟨A.MGMT_WHOAMI a, 0, 3⟩
def MGMT_WHOAMI_SERVICE (a : Nat) : FRef := ⟨A.MGMT_WHOAMI a, 3, 1⟩
def MGMT_WHOAMI_STALE (a : Nat) : FRef := ⟨A.MGMT_WHOAMI a, 4, 1⟩
def MGMT_NP_TIMEOUT_TICKS : FRef := ⟨A.MGMT_NP_TIMEOUT, 0, 16⟩
def MGMT_OWN_CHG_CHANGED (a : Nat) : FRef := ⟨A.MGMT_OWN_CHG a, 0, 1⟩
def MGMT_HB_h_ARMED (h : Nat) : FRef := ⟨A.MGMT_HB_h h, 0, 1⟩
def MGMT_HB_h_MISSED_LAST (h : Nat) : FRef := ⟨A.MGMT_HB_h h, 1, 1⟩
def MGMT_HB_h_MISS_COUNT (h : Nat) : FRef := ⟨A.MGMT_HB_h h, 16, 16⟩
def MGMT_INFLIGHT_a_NP (a : Nat) : FRef := ⟨A.MGMT_INFLIGHT_a a, 0, 8⟩
def MGMT_INFLIGHT_a_POSTED (a : Nat) : FRef := ⟨A.MGMT_INFLIGHT_a a, 8, 8⟩
def MGMT_INFLIGHT_a_HELD (a : Nat) : FRef := ⟨A.MGMT_INFLIGHT_a a, 16, 16⟩
def MGMT_INFLIGHT_CHIP_NP : FRef := ⟨A.MGMT_INFLIGHT_CHIP, 0, 10⟩
def MGMT_SERVICE_ACTIVE (a : Nat) : FRef := ⟨A.MGMT_SERVICE a, 0, 5⟩
def MGMT_SERVICE_FAILS (a : Nat) : FRef := ⟨A.MGMT_SERVICE a, 8, 4⟩
def MGMT_SERVICE_LOCKOUT (a : Nat) : FRef := ⟨A.MGMT_SERVICE a, 16, 1⟩
def MGMT_TAG_ERR_COUNT (a : Nat) : FRef := ⟨A.MGMT_TAG_ERR a, 0, 16⟩
def MGMT_SPI_ERR_COUNT : FRef := ⟨A.MGMT_SPI_ERR, 0, 16⟩
def MGMT_LEN_ERR_COUNT (a : Nat) : FRef := ⟨A.MGMT_LEN_ERR a, 0, 16⟩
def OWN_k_OWNER (k : Nat) : FRef := ⟨A.OWN_k k, 0, 3⟩
def OWN_k_STANDBY (k : Nat) : FRef := ⟨A.OWN_k k, 4, 3⟩
def OWN_k_CLAIM_MASK (k : Nat) : FRef := ⟨A.OWN_k k, 8, 4⟩
def OWN_k_FAILOVER (k : Nat) : FRef := ⟨A.OWN_k k, 12, 2⟩
def OWN_k_PENDING (k : Nat) : FRef := ⟨A.OWN_k k, 16, 1⟩
def OWN_k_LAST_CAUSE (k : Nat) : FRef := ⟨A.OWN_k k, 17, 3⟩
def OWN_k_CHANGES (k : Nat) : FRef := ⟨A.OWN_k k, 24, 8⟩
def OWN_MINE_LO_MASK (a : Nat) : FRef := ⟨A.OWN_MINE_LO a, 0, 32⟩
def OWN_MINE_HI_MASK (a : Nat) : FRef := ⟨A.OWN_MINE_HI a, 0, 32⟩
def OWN_STBY_LO_MASK (a : Nat) : FRef := ⟨A.OWN_STBY_LO a, 0, 32⟩
def OWN_STBY_HI_MASK (a : Nat) : FRef := ⟨A.OWN_STBY_HI a, 0, 32⟩
def CV_CTRL_ENABLE (h : Nat) : FRef := ⟨A.CV_CTRL h, 0, 1⟩
def CV_CTRL_RETRAIN (h : Nat) : FRef := ⟨A.CV_CTRL h, 1, 1⟩
def CV_STATUS_STATE (h : Nat) : FRef := ⟨A.CV_STATUS h, 0, 4⟩
def CV_STATUS_GEAR (h : Nat) : FRef := ⟨A.CV_STATUS h, 4, 2⟩
def CV_STATUS_FEC (h : Nat) : FRef := ⟨A.CV_STATUS h, 6, 1⟩
def CV_STATUS_LINK_UP (h : Nat) : FRef := ⟨A.CV_STATUS h, 7, 1⟩
def CV_STATUS_UP_MASK (h : Nat) : FRef := ⟨A.CV_STATUS h, 8, 4⟩
def CV_STATUS_DOWN_MASK (h : Nat) : FRef := ⟨A.CV_STATUS h, 12, 4⟩
def CV_STATUS_FAILED (h : Nat) : FRef := ⟨A.CV_STATUS h, 16, 4⟩
def CV_STATUS_CABLE_CLASS (h : Nat) : FRef := ⟨A.CV_STATUS h, 20, 2⟩
def CV_STATUS_RESUMED (h : Nat) : FRef := ⟨A.CV_STATUS h, 22, 1⟩
def CV_EVT_STATE_CHG (h : Nat) : FRef := ⟨A.CV_EVT h, 0, 1⟩
def CV_EVT_WIDTH_CHG (h : Nat) : FRef := ⟨A.CV_EVT h, 1, 1⟩
def CV_EVT_REPLAY_LIMIT (h : Nat) : FRef := ⟨A.CV_EVT h, 2, 1⟩
def CV_EVT_UNCORR (h : Nat) : FRef := ⟨A.CV_EVT h, 3, 1⟩
def CV_EVT_TURN_FAIL (h : Nat) : FRef := ⟨A.CV_EVT h, 4, 1⟩
def CV_EVT_PROTOCOL (h : Nat) : FRef := ⟨A.CV_EVT h, 5, 1⟩
def CV_EVT_REF_FAIL (h : Nat) : FRef := ⟨A.CV_EVT h, 6, 1⟩
def CV_LAT_ONE_WAY (h : Nat) : FRef := ⟨A.CV_LAT h, 0, 16⟩
def CV_CFG0_W (h : Nat) : FRef := ⟨A.CV_CFG0 h, 0, 32⟩
def CV_CFG1_W (h : Nat) : FRef := ⟨A.CV_CFG1 h, 0, 32⟩
def CV_SEQ_TX_NEXT (h : Nat) : FRef := ⟨A.CV_SEQ h, 0, 12⟩
def CV_SEQ_RX_EXPECT (h : Nat) : FRef := ⟨A.CV_SEQ h, 16, 12⟩
def CV_REPLAY_FILL (h : Nat) : FRef := ⟨A.CV_REPLAY h, 0, 19⟩
def CV_REPLAY_OUTSTANDING (h : Nat) : FRef := ⟨A.CV_REPLAY h, 20, 11⟩
def CV_CORR_SYM_COUNT (h : Nat) : FRef := ⟨A.CV_CORR_SYM h, 0, 32⟩
def CV_UNCORR_COUNT (h : Nat) : FRef := ⟨A.CV_UNCORR h, 0, 32⟩
def CV_CRC_ERR_COUNT (h : Nat) : FRef := ⟨A.CV_CRC_ERR h, 0, 32⟩
def CV_NAK_SENT_COUNT (h : Nat) : FRef := ⟨A.CV_NAK_SENT h, 0, 32⟩
def CV_NAK_RCVD_COUNT (h : Nat) : FRef := ⟨A.CV_NAK_RCVD h, 0, 32⟩
def CV_REPLAYS_COUNT (h : Nat) : FRef := ⟨A.CV_REPLAYS h, 0, 32⟩
def CV_LOCK_LOSS_COUNT (h : Nat) : FRef := ⟨A.CV_LOCK_LOSS h, 0, 16⟩
def CV_LOCK_LOSS_RECOVERIES (h : Nat) : FRef := ⟨A.CV_LOCK_LOSS h, 16, 16⟩
def CV_TURNS_DONE (h : Nat) : FRef := ⟨A.CV_TURNS h, 0, 16⟩
def CV_TURNS_CANCELLED (h : Nat) : FRef := ⟨A.CV_TURNS h, 16, 16⟩
def CV_UNKNOWN_CTL_COUNT (h : Nat) : FRef := ⟨A.CV_UNKNOWN_CTL h, 0, 16⟩
def CV_UNKNOWN_CTL_STALE_ACK (h : Nat) : FRef := ⟨A.CV_UNKNOWN_CTL h, 16, 16⟩
def CV_TUN_GEN_GEN (h : Nat) : FRef := ⟨A.CV_TUN_GEN h, 0, 4⟩
def CV_TUN_GEN_SEEN (h : Nat) : FRef := ⟨A.CV_TUN_GEN h, 4, 1⟩
def CV_TUN_GEN_BUMPS (h : Nat) : FRef := ⟨A.CV_TUN_GEN h, 16, 16⟩
def CV_TUN_EVT_DISCARD (h : Nat) : FRef := ⟨A.CV_TUN_EVT h, 0, 1⟩
def CV_TUN_EVT_BLOCKED (h : Nat) : FRef := ⟨A.CV_TUN_EVT h, 1, 1⟩
def CV_TUN_EVT_FORCED_RETRAIN (h : Nat) : FRef := ⟨A.CV_TUN_EVT h, 2, 1⟩
def CV_TUN_BADTUN_COUNT (h : Nat) : FRef := ⟨A.CV_TUN_BADTUN h, 0, 32⟩
def CV_TUN_STALE_COUNT (h : Nat) : FRef := ⟨A.CV_TUN_STALE h, 0, 32⟩
def CV_TUN_NOTOWN_COUNT (h : Nat) : FRef := ⟨A.CV_TUN_NOTOWN h, 0, 32⟩
def CV_TUN_ECHO_COUNT (h : Nat) : FRef := ⟨A.CV_TUN_ECHO h, 0, 32⟩
def CV_MODE_VDO_VDO (h : Nat) : FRef := ⟨A.CV_MODE_VDO h, 0, 32⟩
def CV_TUN_n_W0_W (h n : Nat) : FRef := ⟨A.CV_TUN_n_W0 h n, 0, 32⟩
def CV_TUN_n_W1_W (h n : Nat) : FRef := ⟨A.CV_TUN_n_W1 h n, 0, 32⟩
def CV_TUN_n_CRED_RX_LIMIT (h n : Nat) : FRef := ⟨A.CV_TUN_n_CRED h n, 0, 16⟩
def CV_TUN_n_CRED_TX_LIMIT (h n : Nat) : FRef := ⟨A.CV_TUN_n_CRED h n, 16, 16⟩
def LG_CTRL_ENABLE (g : Nat) : FRef := ⟨A.LG_CTRL g, 0, 1⟩
def LG_CTRL_ROLE (g : Nat) : FRef := ⟨A.LG_CTRL g, 4, 3⟩
def LG_STATUS_PLL_LOCK (g : Nat) : FRef := ⟨A.LG_STATUS g, 0, 1⟩
def LG_STATUS_PLL_SEL (g : Nat) : FRef := ⟨A.LG_STATUS g, 1, 1⟩
def LG_STATUS_SPARE_PLL_OK (g : Nat) : FRef := ⟨A.LG_STATUS g, 2, 1⟩
def LG_STATUS_SPARE_SLICE_FREE (g : Nat) : FRef := ⟨A.LG_STATUS g, 3, 1⟩
def LG_STATUS_SLICE_MAP (g : Nat) : FRef := ⟨A.LG_STATUS g, 8, 12⟩
def LG_STATUS_ACTIVE (g : Nat) : FRef := ⟨A.LG_STATUS g, 20, 4⟩
def LG_STATUS_QUALIFYING (g : Nat) : FRef := ⟨A.LG_STATUS g, 24, 4⟩
def LG_EVT_PLL_SWITCH (g : Nat) : FRef := ⟨A.LG_EVT g, 0, 1⟩
def LG_EVT_SLICE_SWAP (g : Nat) : FRef := ⟨A.LG_EVT g, 1, 1⟩
def LG_EVT_QUAL_FAIL (g : Nat) : FRef := ⟨A.LG_EVT g, 2, 1⟩
def LG_EVT_TURN_ABORT (g : Nat) : FRef := ⟨A.LG_EVT g, 3, 1⟩
def LG_EVT_SPARE_PLL_FAIL (g : Nat) : FRef := ⟨A.LG_EVT g, 4, 1⟩
def LG_QUAL_H_MIN (g : Nat) : FRef := ⟨A.LG_QUAL g, 0, 6⟩
def LG_QUAL_V_MIN (g : Nat) : FRef := ⟨A.LG_QUAL g, 8, 7⟩
def LG_QUAL_H_WARN (g : Nat) : FRef := ⟨A.LG_QUAL g, 16, 6⟩
def LG_QUAL_V_WARN (g : Nat) : FRef := ⟨A.LG_QUAL g, 24, 7⟩
def LG_DWELL_QUAL_EXP (g : Nat) : FRef := ⟨A.LG_DWELL g, 0, 5⟩
def LG_DWELL_CHORE_EXP (g : Nat) : FRef := ⟨A.LG_DWELL g, 8, 5⟩
def LG_DWELL_MAX_ERR (g : Nat) : FRef := ⟨A.LG_DWELL g, 16, 16⟩
def LG_SERVICE_FORCE_SPARE_PLL (g : Nat) : FRef := ⟨A.LG_SERVICE g, 0, 1⟩
def LG_SERVICE_FORCE_SLICE (g : Nat) : FRef := ⟨A.LG_SERVICE g, 1, 4⟩
def LN_STATUS_DIR (g l : Nat) : FRef := ⟨A.LN_STATUS g l, 0, 1⟩
def LN_STATUS_LOGICAL (g l : Nat) : FRef := ⟨A.LN_STATUS g l, 1, 2⟩
def LN_STATUS_GEAR (g l : Nat) : FRef := ⟨A.LN_STATUS g l, 3, 2⟩
def LN_STATUS_RATE (g l : Nat) : FRef := ⟨A.LN_STATUS g l, 8, 4⟩
def LN_STATUS_RX_INV (g l : Nat) : FRef := ⟨A.LN_STATUS g l, 12, 1⟩
def LN_STATUS_UP_VALID (g l : Nat) : FRef := ⟨A.LN_STATUS g l, 13, 1⟩
def LN_STATUS_DOWN_VALID (g l : Nat) : FRef := ⟨A.LN_STATUS g l, 14, 1⟩
def LN_STATUS_STATE (g l : Nat) : FRef := ⟨A.LN_STATUS g l, 16, 3⟩
def LN_TXEQ_C_M1 (g l : Nat) : FRef := ⟨A.LN_TXEQ g l, 0, 6⟩
def LN_TXEQ_C0 (g l : Nat) : FRef := ⟨A.LN_TXEQ g l, 8, 6⟩
def LN_TXEQ_C_P1 (g l : Nat) : FRef := ⟨A.LN_TXEQ g l, 16, 6⟩
def LN_TXEQ_PRESET (g l : Nat) : FRef := ⟨A.LN_TXEQ g l, 24, 4⟩
def LN_FAREQ_TAPS (g l : Nat) : FRef := ⟨A.LN_FAREQ g l, 0, 28⟩
def LN_RXEQ_CTLE (g l : Nat) : FRef := ⟨A.LN_RXEQ g l, 0, 6⟩
def LN_RXEQ_VGA (g l : Nat) : FRef := ⟨A.LN_RXEQ g l, 8, 4⟩
def LN_RXEQ_ADAPTING (g l : Nat) : FRef := ⟨A.LN_RXEQ g l, 31, 1⟩
def LN_MARGIN_H_LEFT (g l : Nat) : FRef := ⟨A.LN_MARGIN g l, 0, 6⟩
def LN_MARGIN_H_RIGHT (g l : Nat) : FRef := ⟨A.LN_MARGIN g l, 8, 6⟩
def LN_MARGIN_V_TOP (g l : Nat) : FRef := ⟨A.LN_MARGIN g l, 16, 7⟩
def LN_MARGIN_V_BOT (g l : Nat) : FRef := ⟨A.LN_MARGIN g l, 24, 7⟩
def LN_MARGIN_AGED (g l : Nat) : FRef := ⟨A.LN_MARGIN g l, 31, 1⟩
def LN_FOM_FOM (g l : Nat) : FRef := ⟨A.LN_FOM g l, 0, 8⟩
def LN_FOM_EYE_WORST (g l : Nat) : FRef := ⟨A.LN_FOM g l, 8, 2⟩
def LN_FOM_ROUNDS (g l : Nat) : FRef := ⟨A.LN_FOM g l, 16, 16⟩
def LN_EYE_CTRL_START (g l : Nat) : FRef := ⟨A.LN_EYE_CTRL g l, 0, 1⟩
def LN_EYE_CTRL_EYE (g l : Nat) : FRef := ⟨A.LN_EYE_CTRL g l, 1, 2⟩
def LN_EYE_CTRL_PHASE (g l : Nat) : FRef := ⟨A.LN_EYE_CTRL g l, 8, 6⟩
def LN_EYE_CTRL_VOLT (g l : Nat) : FRef := ⟨A.LN_EYE_CTRL g l, 16, 8⟩
def LN_EYE_CTRL_DWELL_EXP (g l : Nat) : FRef := ⟨A.LN_EYE_CTRL g l, 24, 5⟩
def LN_EYE_RESULT_ERRORS (g l : Nat) : FRef := ⟨A.LN_EYE_RESULT g l, 0, 24⟩
def LN_EYE_RESULT_ABORTED (g l : Nat) : FRef := ⟨A.LN_EYE_RESULT g l, 29, 1⟩
def LN_EYE_RESULT_BUSY (g l : Nat) : FRef := ⟨A.LN_EYE_RESULT g l, 30, 1⟩
def LN_EYE_RESULT_DONE (g l : Nat) : FRef := ⟨A.LN_EYE_RESULT g l, 31, 1⟩
def LANE_EVT_EYE_DONE : FRef := ⟨A.LANE_EVT, 0, 9⟩
def LANE_EVT_MARGIN_LOW : FRef := ⟨A.LANE_EVT, 10, 9⟩
def LANE_EVT_SPARE_GONE : FRef := ⟨A.LANE_EVT, 20, 9⟩
def BC_STATUS_BANK_GEN : FRef := ⟨A.BC_STATUS, 0, 8⟩
def BC_STATUS_OVF_USED : FRef := ⟨A.BC_STATUS, 8, 7⟩
def BC_STATUS_WARN_Q : FRef := ⟨A.BC_STATUS, 16, 9⟩
def BC_EVT_BANK_CHG : FRef := ⟨A.BC_EVT, 0, 1⟩
def BC_EVT_STALE_COMMIT : FRef := ⟨A.BC_EVT, 1, 1⟩
def BC_EVT_ETH_DROP : FRef := ⟨A.BC_EVT, 2, 1⟩
def BC_EVT_POLICE_DROP : FRef := ⟨A.BC_EVT, 3, 1⟩
def BC_EVT_DELAY_WARN : FRef := ⟨A.BC_EVT, 4, 1⟩
def BC_EVT_SPLIT_CHG : FRef := ⟨A.BC_EVT, 5, 1⟩
def BANK_CTRL_SWAP (a : Nat) : FRef := ⟨A.BANK_CTRL a, 0, 1⟩
def BANK_CTRL_EXPECT_CHECK (a : Nat) : FRef := ⟨A.BANK_CTRL a, 8, 1⟩
def BANK_CTRL_EXPECT_GEN (a : Nat) : FRef := ⟨A.BANK_CTRL a, 16, 8⟩
def PORT_SPLIT_h_FORCE (h : Nat) : FRef := ⟨A.PORT_SPLIT_h h, 0, 2⟩
def PORT_SPLIT_h_TARGET (h : Nat) : FRef := ⟨A.PORT_SPLIT_h h, 4, 2⟩
def PORT_SPLIT_h_CURRENT (h : Nat) : FRef := ⟨A.PORT_SPLIT_h h, 8, 2⟩
def PORT_SPLIT_h_HEADROOM (h : Nat) : FRef := ⟨A.PORT_SPLIT_h h, 16, 16⟩
def STAT_CFG_WINDOW : FRef := ⟨A.STAT_CFG, 0, 16⟩
def STAT_CFG_HIST_SRC : FRef := ⟨A.STAT_CFG, 16, 1⟩
def STAT_CFG_BIN_SHIFT : FRef := ⟨A.STAT_CFG, 20, 4⟩
def STAT_WARN_DELAY_NS : FRef := ⟨A.STAT_WARN, 0, 24⟩
def QMAP_q_W (q : Nat) : FRef := ⟨A.QMAP_q q, 0, 32⟩
def PMAP_p_W (p : Nat) : FRef := ⟨A.PMAP_p p, 0, 32⟩
def BANK_b_e_Wn_W (b e n : Nat) : FRef := ⟨A.BANK_b_e_Wn b e n, 0, 32⟩
def QSTATE_q_DEPTH (q : Nat) : FRef := ⟨A.QSTATE_q q, 0, 24⟩
def QSTATE_q_SEL (q : Nat) : FRef := ⟨A.QSTATE_q q, 24, 1⟩
def QSTATE_q_SHED (q : Nat) : FRef := ⟨A.QSTATE_q q, 25, 1⟩
def QSTATE_q_ELIGIBLE (q : Nat) : FRef := ⟨A.QSTATE_q q, 26, 1⟩
def QSTATE_TIMING_V (q : Nat) : FRef := ⟨A.QSTATE_TIMING q, 0, 32⟩
def QSTATE_SENT_V (q : Nat) : FRef := ⟨A.QSTATE_SENT q, 0, 32⟩
def QSTATE_BYTES_LO_V (q : Nat) : FRef := ⟨A.QSTATE_BYTES_LO q, 0, 32⟩
def QSTATE_BYTES_HI_V (q : Nat) : FRef := ⟨A.QSTATE_BYTES_HI q, 0, 32⟩
def QSTATE_EXCESS_KIB_V (q : Nat) : FRef := ⟨A.QSTATE_EXCESS_KIB q, 0, 32⟩
def QSTATE_DROPS_V (q : Nat) : FRef := ⟨A.QSTATE_DROPS q, 0, 32⟩
def PSTATE_p_SEL (p : Nat) : FRef := ⟨A.PSTATE_p p, 0, 1⟩
def PSTATE_GREEN_V (p : Nat) : FRef := ⟨A.PSTATE_GREEN p, 0, 32⟩
def PSTATE_YELLOW_V (p : Nat) : FRef := ⟨A.PSTATE_YELLOW p, 0, 32⟩
def PSTATE_RED_V (p : Nat) : FRef := ⟨A.PSTATE_RED p, 0, 32⟩
def QSTAT_DEPTH_MIN_V (q : Nat) : FRef := ⟨A.QSTAT_DEPTH_MIN q, 0, 32⟩
def QSTAT_DEPTH_MAX_V (q : Nat) : FRef := ⟨A.QSTAT_DEPTH_MAX q, 0, 32⟩
def QSTAT_DEPTH_MEAN_V (q : Nat) : FRef := ⟨A.QSTAT_DEPTH_MEAN q, 0, 32⟩
def QSTAT_DELAY_MIN_V (q : Nat) : FRef := ⟨A.QSTAT_DELAY_MIN q, 0, 32⟩
def QSTAT_DELAY_MAX_V (q : Nat) : FRef := ⟨A.QSTAT_DELAY_MAX q, 0, 32⟩
def QSTAT_DELAY_MEAN_V (q : Nat) : FRef := ⟨A.QSTAT_DELAY_MEAN q, 0, 32⟩
def QSTAT_WINDOW_ID_V (q : Nat) : FRef := ⟨A.QSTAT_WINDOW_ID q, 0, 32⟩
def QSTAT_HIST_V (q i : Nat) : FRef := ⟨A.QSTAT_HIST q i, 0, 32⟩
def SR_STATUS_QUEUED : FRef := ⟨A.SR_STATUS, 0, 11⟩
def SR_STATUS_LOST : FRef := ⟨A.SR_STATUS, 16, 16⟩
def SR_EVT_LL_EXC : FRef := ⟨A.SR_EVT, 0, 4⟩
def SR_EVT_OTHER_EXC : FRef := ⟨A.SR_EVT, 4, 1⟩
def SR_EVT_GL_A : FRef := ⟨A.SR_EVT, 8, 1⟩
def SR_EVT_GL_B : FRef := ⟨A.SR_EVT, 9, 1⟩
def SR_SUBMIT_W_V (i : Nat) : FRef := ⟨A.SR_SUBMIT_W i, 0, 32⟩
def SR_LAST_RESULT_W_V (a i : Nat) : FRef := ⟨A.SR_LAST_RESULT_W a i, 0, 32⟩
def SR_CANCEL_W_V (i : Nat) : FRef := ⟨A.SR_CANCEL_W i, 0, 32⟩
def SR_RES_k_ENTRIES (k : Nat) : FRef := ⟨A.SR_RES_k k, 0, 11⟩
def SR_RES_k_PER_TICK (k : Nat) : FRef := ⟨A.SR_RES_k k, 16, 7⟩
def SR_LSTAT_k_QUEUED (k : Nat) : FRef := ⟨A.SR_LSTAT_k k, 0, 11⟩
def SR_LEXC_k_DROPPED (k : Nat) : FRef := ⟨A.SR_LEXC_k k, 0, 8⟩
def SR_LEXC_k_LATE (k : Nat) : FRef := ⟨A.SR_LEXC_k k, 8, 8⟩
def SR_LEXC_k_REFUSED (k : Nat) : FRef := ⟨A.SR_LEXC_k k, 16, 8⟩
def SR_LEXC_k_NO_EFFECT (k : Nat) : FRef := ⟨A.SR_LEXC_k k, 24, 8⟩
def CAP_CTRL_g_DELIVERY (g : Nat) : FRef := ⟨A.CAP_CTRL_g g, 0, 1⟩
def CAP_CTRL_g_WATERMARK (g : Nat) : FRef := ⟨A.CAP_CTRL_g g, 8, 8⟩
def CAP_CTRL_g_FLUSH (g : Nat) : FRef := ⟨A.CAP_CTRL_g g, 16, 12⟩
def CAP_STAT_g_FILL (g : Nat) : FRef := ⟨A.CAP_STAT_g g, 0, 8⟩
def CAP_STAT_g_LOST (g : Nat) : FRef := ⟨A.CAP_STAT_g g, 16, 16⟩
def CAP_EVT_g_OVERFLOW (g : Nat) : FRef := ⟨A.CAP_EVT_g g, 0, 1⟩
def CAP_REC_W_V (g i : Nat) : FRef := ⟨A.CAP_REC_W g i, 0, 32⟩
def CAP_LINE_c_EDGE (c : Nat) : FRef := ⟨A.CAP_LINE_c c, 0, 2⟩
def CAP_LINE_c_FILTER (c : Nat) : FRef := ⟨A.CAP_LINE_c c, 4, 6⟩
def GL_CTRL_x_ENABLE (x : Nat) : FRef := ⟨A.GL_CTRL_x x, 0, 1⟩
def GL_CTRL_x_FRAMES (x : Nat) : FRef := ⟨A.GL_CTRL_x x, 4, 8⟩
def GL_CTRL_x_SLEW (x : Nat) : FRef := ⟨A.GL_CTRL_x x, 16, 8⟩
def GL_PERIOD_x_NS (x : Nat) : FRef := ⟨A.GL_PERIOD_x x, 0, 32⟩
def GL_PHASE_x_NS (x : Nat) : FRef := ⟨A.GL_PHASE_x x, 0, 32⟩
def GL_STATUS_x_STATE (x : Nat) : FRef := ⟨A.GL_STATUS_x x, 0, 2⟩
def GL_STATUS_x_ERROR (x : Nat) : FRef := ⟨A.GL_STATUS_x x, 8, 24⟩
def PL_ECC_UNCORR : FRef := ⟨A.PL_ECC, 0, 16⟩
def PL_PART_x_BASE (x : Nat) : FRef := ⟨A.PL_PART_x x, 0, 13⟩
def PL_PART_x_COUNT (x : Nat) : FRef := ⟨A.PL_PART_x x, 16, 13⟩
def PL_SCAN_x_BYTES (x : Nat) : FRef := ⟨A.PL_SCAN_x x, 0, 32⟩
def PL_WRITER_BYTES : FRef := ⟨A.PL_WRITER, 0, 24⟩
def PL_WR_h_n_GRAINS (h n : Nat) : FRef := ⟨A.PL_WR_h_n h n, 0, 8⟩
def HD_CTRL_ENABLE (x : Nat) : FRef := ⟨A.HD_CTRL x, 0, 1⟩
def HD_CTRL_BPC (x : Nat) : FRef := ⟨A.HD_CTRL x, 4, 1⟩
def HD_CTRL_VBLANK_EVT (x : Nat) : FRef := ⟨A.HD_CTRL x, 8, 1⟩
def HD_STATUS_LINE (x : Nat) : FRef := ⟨A.HD_STATUS x, 0, 13⟩
def HD_STATUS_VBLANK (x : Nat) : FRef := ⟨A.HD_STATUS x, 13, 1⟩
def HD_STATUS_PENDING (x : Nat) : FRef := ⟨A.HD_STATUS x, 14, 1⟩
def HD_STATUS_CHECKED (x : Nat) : FRef := ⟨A.HD_STATUS x, 15, 1⟩
def HD_STATUS_RUNNING (x : Nat) : FRef := ⟨A.HD_STATUS x, 16, 1⟩
def HD_EVT_ALL (x : Nat) : FRef := ⟨A.HD_EVT x, 0, 8⟩
def HD_FRAMES_COUNT (x : Nat) : FRef := ⟨A.HD_FRAMES x, 0, 32⟩
def HD_PCLK_NUM (x : Nat) : FRef := ⟨A.HD_PCLK x, 0, 16⟩
def HD_PCLK_DEN (x : Nat) : FRef := ⟨A.HD_PCLK x, 16, 16⟩
def HD_HTIM_H_ACTIVE (x : Nat) : FRef := ⟨A.HD_HTIM x, 0, 13⟩
def HD_HTIM_H_TOTAL (x : Nat) : FRef := ⟨A.HD_HTIM x, 16, 13⟩
def HD_HSYNC_START (x : Nat) : FRef := ⟨A.HD_HSYNC x, 0, 13⟩
def HD_HSYNC_WIDTH (x : Nat) : FRef := ⟨A.HD_HSYNC x, 16, 9⟩
def HD_HSYNC_POL (x : Nat) : FRef := ⟨A.HD_HSYNC x, 31, 1⟩
def HD_VTIM_V_ACTIVE (x : Nat) : FRef := ⟨A.HD_VTIM x, 0, 13⟩
def HD_VTIM_V_TOTAL (x : Nat) : FRef := ⟨A.HD_VTIM x, 16, 13⟩
def HD_VSYNC_START (x : Nat) : FRef := ⟨A.HD_VSYNC x, 0, 13⟩
def HD_VSYNC_WIDTH (x : Nat) : FRef := ⟨A.HD_VSYNC x, 16, 9⟩
def HD_VSYNC_POL (x : Nat) : FRef := ⟨A.HD_VSYNC x, 31, 1⟩
def HD_BG_RGB (x : Nat) : FRef := ⟨A.HD_BG x, 0, 32⟩
def HD_COMMIT_COMMIT (x : Nat) : FRef := ⟨A.HD_COMMIT x, 0, 1⟩
def HD_COMMIT_CANCEL (x : Nat) : FRef := ⟨A.HD_COMMIT x, 1, 1⟩
def HD_WAIT_EN (x : Nat) : FRef := ⟨A.HD_WAIT x, 0, 1⟩
def HD_WAIT_MAX_FRAMES (x : Nat) : FRef := ⟨A.HD_WAIT x, 8, 8⟩
def HD_WAIT_SEQ (x : Nat) : FRef := ⟨A.HD_WAIT x, 16, 16⟩
def HD_COMMIT_STATUS_RESULT (x : Nat) : FRef := ⟨A.HD_COMMIT_STATUS x, 0, 3⟩
def HD_COMMIT_STATUS_FETCH_MAX (x : Nat) : FRef := ⟨A.HD_COMMIT_STATUS x, 16, 12⟩
def HD_SEQ_GRAINS_DONE (x : Nat) : FRef := ⟨A.HD_SEQ x, 0, 16⟩
def HD_SEQ_COMMIT_SEQ (x : Nat) : FRef := ⟨A.HD_SEQ x, 16, 16⟩
def HD_POOL_FREE (x : Nat) : FRef := ⟨A.HD_POOL x, 0, 13⟩
def HD_POOL_STAGED (x : Nat) : FRef := ⟨A.HD_POOL x, 16, 13⟩
def HD_POOL_WM_LOW (x : Nat) : FRef := ⟨A.HD_POOL_WM x, 0, 13⟩
def HD_WDROP_COUNT (x : Nat) : FRef := ⟨A.HD_WDROP x, 0, 24⟩
def HD_WDROP_LAST_CAUSE (x : Nat) : FRef := ⟨A.HD_WDROP x, 28, 4⟩
def HD_LINK_CFG_MAX_RATE (x : Nat) : FRef := ⟨A.HD_LINK_CFG x, 0, 2⟩
def HD_LINK_CFG_MAX_LANES (x : Nat) : FRef := ⟨A.HD_LINK_CFG x, 4, 3⟩
def HD_LINK_CFG_RETRAIN (x : Nat) : FRef := ⟨A.HD_LINK_CFG x, 8, 1⟩
def HD_LINK_STATUS_STATE (x : Nat) : FRef := ⟨A.HD_LINK_STATUS x, 0, 3⟩
def HD_LINK_STATUS_RATE (x : Nat) : FRef := ⟨A.HD_LINK_STATUS x, 4, 2⟩
def HD_LINK_STATUS_LANES (x : Nat) : FRef := ⟨A.HD_LINK_STATUS x, 8, 3⟩
def HD_LINK_STATUS_HPD (x : Nat) : FRef := ⟨A.HD_LINK_STATUS x, 12, 1⟩
def HD_LINK_STATUS_ENH (x : Nat) : FRef := ⟨A.HD_LINK_STATUS x, 13, 1⟩
def HD_LINK_STATUS_SWING (x : Nat) : FRef := ⟨A.HD_LINK_STATUS x, 16, 8⟩
def HD_LINK_STATUS_PREEMPH (x : Nat) : FRef := ⟨A.HD_LINK_STATUS x, 24, 8⟩
def HD_AUX_REQ_ADDR (x : Nat) : FRef := ⟨A.HD_AUX_REQ x, 0, 20⟩
def HD_AUX_REQ_CMD (x : Nat) : FRef := ⟨A.HD_AUX_REQ x, 24, 4⟩
def HD_AUX_REQ_LEN_M1 (x : Nat) : FRef := ⟨A.HD_AUX_REQ x, 28, 4⟩
def HD_AUX_CTRL_START (x : Nat) : FRef := ⟨A.HD_AUX_CTRL x, 0, 1⟩
def HD_AUX_STATUS_DONE (x : Nat) : FRef := ⟨A.HD_AUX_STATUS x, 0, 1⟩
def HD_AUX_STATUS_RESULT (x : Nat) : FRef := ⟨A.HD_AUX_STATUS x, 1, 3⟩
def HD_AUX_STATUS_REPLY_LEN (x : Nat) : FRef := ⟨A.HD_AUX_STATUS x, 4, 5⟩
def HD_AUX_DATA_V (x i : Nat) : FRef := ⟨A.HD_AUX_DATA x i, 0, 32⟩
def LY_CTRL_ENABLE (x n : Nat) : FRef := ⟨A.LY_CTRL x n, 0, 1⟩
def LY_CTRL_OPAQUE (x n : Nat) : FRef := ⟨A.LY_CTRL x n, 1, 1⟩
def LY_CTRL_SURF (x n : Nat) : FRef := ⟨A.LY_CTRL x n, 8, 5⟩
def LY_CTRL_ALPHA (x n : Nat) : FRef := ⟨A.LY_CTRL x n, 16, 8⟩
def LY_POS_DST_X (x n : Nat) : FRef := ⟨A.LY_POS x n, 0, 13⟩
def LY_POS_DST_Y (x n : Nat) : FRef := ⟨A.LY_POS x n, 16, 13⟩
def LY_SIZE_SRC_W (x n : Nat) : FRef := ⟨A.LY_SIZE x n, 0, 13⟩
def LY_SIZE_SRC_H (x n : Nat) : FRef := ⟨A.LY_SIZE x n, 16, 13⟩
def LY_SRC_SRC_X (x n : Nat) : FRef := ⟨A.LY_SRC x n, 0, 12⟩
def LY_SRC_SRC_Y (x n : Nat) : FRef := ⟨A.LY_SRC x n, 16, 12⟩
def LY_PAL_n_i_V (x n i : Nat) : FRef := ⟨A.LY_PAL_n_i x n i, 0, 32⟩
def SURF_W0_V (x s : Nat) : FRef := ⟨A.SURF_W0 x s, 0, 32⟩
def SURF_W1_V (x s : Nat) : FRef := ⟨A.SURF_W1 x s, 0, 32⟩
def MAP_e_CUR (x e : Nat) : FRef := ⟨A.MAP_e x e, 0, 13⟩
def MAP_e_NEXT (x e : Nat) : FRef := ⟨A.MAP_e x e, 16, 13⟩
def MAP_e_STAGED (x e : Nat) : FRef := ⟨A.MAP_e x e, 31, 1⟩
def PX_CTRL_ENABLE (p : Nat) : FRef := ⟨A.PX_CTRL p, 0, 1⟩
def PX_CTRL_CLKREQ_EN (p : Nat) : FRef := ⟨A.PX_CTRL p, 1, 1⟩
def PX_CTRL_PERST_FORCE (p : Nat) : FRef := ⟨A.PX_CTRL p, 2, 1⟩
def PX_CTRL_PWR_EF (p : Nat) : FRef := ⟨A.PX_CTRL p, 8, 4⟩
def PX_CTRL_PERST_DELAY (p : Nat) : FRef := ⟨A.PX_CTRL p, 16, 12⟩
def PX_STATUS_LINK_UP (p : Nat) : FRef := ⟨A.PX_STATUS p, 0, 1⟩
def PX_STATUS_SPEED (p : Nat) : FRef := ⟨A.PX_STATUS p, 1, 3⟩
def PX_STATUS_WIDTH (p : Nat) : FRef := ⟨A.PX_STATUS p, 4, 3⟩
def PX_STATUS_PRESENT (p : Nat) : FRef := ⟨A.PX_STATUS p, 8, 1⟩
def PX_STATUS_PERST (p : Nat) : FRef := ⟨A.PX_STATUS p, 9, 1⟩
def PX_STATUS_REFCLK_ON (p : Nat) : FRef := ⟨A.PX_STATUS p, 10, 1⟩
def PX_STATUS_CONTAIN (p : Nat) : FRef := ⟨A.PX_STATUS p, 11, 1⟩
def PX_STATUS_CONTAIN_CAUSE (p : Nat) : FRef := ⟨A.PX_STATUS p, 12, 3⟩
def PX_EVT_LINK_CHG (p : Nat) : FRef := ⟨A.PX_EVT p, 0, 1⟩
def PX_EVT_PRESENCE_CHG (p : Nat) : FRef := ⟨A.PX_EVT p, 1, 1⟩
def PX_EVT_CONTAIN (p : Nat) : FRef := ⟨A.PX_EVT p, 2, 1⟩
def PX_EVT_RESET_DUE (p : Nat) : FRef := ⟨A.PX_EVT p, 3, 1⟩
def PX_EVT_ERR_FATAL (p : Nat) : FRef := ⟨A.PX_EVT p, 4, 1⟩
def PX_EVT_ERR_OTHER (p : Nat) : FRef := ⟨A.PX_EVT p, 5, 1⟩
def PX_DEADLINE_TICKS (p : Nat) : FRef := ⟨A.PX_DEADLINE p, 0, 16⟩
def PX_UP_DISCARD_COUNT (p : Nat) : FRef := ⟨A.PX_UP_DISCARD p, 0, 32⟩
def PX_DOWN_UR_COUNT (p : Nat) : FRef := ⟨A.PX_DOWN_UR p, 0, 32⟩
def PX_MALFORMED_COUNT (p : Nat) : FRef := ⟨A.PX_MALFORMED p, 0, 32⟩
def PX_ECRC_ERR_COUNT (p : Nat) : FRef := ⟨A.PX_ECRC_ERR p, 0, 32⟩
def PX_REPLAYS_COUNT (p : Nat) : FRef := ⟨A.PX_REPLAYS p, 0, 32⟩
def PX_LINK_RECOVERIES (p : Nat) : FRef := ⟨A.PX_LINK p, 0, 16⟩
def PX_LINK_DOWNS (p : Nat) : FRef := ⟨A.PX_LINK p, 16, 16⟩
def PX_IDS_VENDOR (p : Nat) : FRef := ⟨A.PX_IDS p, 0, 16⟩
def PX_IDS_DEVICE (p : Nat) : FRef := ⟨A.PX_IDS p, 16, 16⟩
def PX_BUS_PRIMARY (p : Nat) : FRef := ⟨A.PX_BUS p, 0, 8⟩
def PX_BUS_SECONDARY (p : Nat) : FRef := ⟨A.PX_BUS p, 8, 8⟩
def PX_BUS_SUBORDINATE (p : Nat) : FRef := ⟨A.PX_BUS p, 16, 8⟩
def ETH_SW_STATUS_FDB_USED : FRef := ⟨A.ETH_SW_STATUS, 0, 13⟩
def ETH_SW_EVT_FDB_FULL : FRef := ⟨A.ETH_SW_EVT, 0, 1⟩
def ETH_SW_EVT_FILTER_DROP : FRef := ⟨A.ETH_SW_EVT, 1, 1⟩
def ETH_AGE_SEC : FRef := ⟨A.ETH_AGE, 0, 16⟩
def ETH_FDB_FLUSH_VID : FRef := ⟨A.ETH_FDB_FLUSH, 0, 12⟩
def ETH_FDB_FLUSH_ALL : FRef := ⟨A.ETH_FDB_FLUSH, 16, 1⟩
def ETH_PCTRL_ENABLE (p : Nat) : FRef := ⟨A.ETH_PCTRL p, 0, 1⟩
def ETH_PCTRL_RX_TS (p : Nat) : FRef := ⟨A.ETH_PCTRL p, 1, 1⟩
def ETH_PSTATUS_LINK (q : Nat) : FRef := ⟨A.ETH_PSTATUS q, 0, 1⟩
def ETH_PSTATUS_TYPE (q : Nat) : FRef := ⟨A.ETH_PSTATUS q, 1, 2⟩
def ETH_PSTATUS_FEC (q : Nat) : FRef := ⟨A.ETH_PSTATUS q, 3, 2⟩
def ETH_PSTATUS_OPER_LIST (q : Nat) : FRef := ⟨A.ETH_PSTATUS q, 5, 2⟩
def ETH_GCL_LEN0 (p : Nat) : FRef := ⟨A.ETH_GCL p, 0, 7⟩
def ETH_GCL_LEN1 (p : Nat) : FRef := ⟨A.ETH_GCL p, 8, 7⟩
def ETH_EVT_ALL (p : Nat) : FRef := ⟨A.ETH_EVT p, 0, 5⟩
def ETH_RX_FRAMES_COUNT (q : Nat) : FRef := ⟨A.ETH_RX_FRAMES q, 0, 32⟩
def ETH_TX_FRAMES_COUNT (q : Nat) : FRef := ⟨A.ETH_TX_FRAMES q, 0, 32⟩
def ETH_RX_DROP_COUNT (q : Nat) : FRef := ⟨A.ETH_RX_DROP q, 0, 32⟩
def ETH_FCS_ERR_COUNT (q : Nat) : FRef := ⟨A.ETH_FCS_ERR q, 0, 32⟩
def ETH_MACCTL_COUNT (q : Nat) : FRef := ⟨A.ETH_MACCTL q, 0, 32⟩
def ETH_GATE_OVERRUN_COUNT (q : Nat) : FRef := ⟨A.ETH_GATE_OVERRUN q, 0, 32⟩
def ETH_OVERSIZE_COUNT (q : Nat) : FRef := ⟨A.ETH_OVERSIZE q, 0, 32⟩
def ETH_TS_LOST_COUNT (q : Nat) : FRef := ⟨A.ETH_TS_LOST q, 0, 32⟩
def ETH_GCE_V (p l i : Nat) : FRef := ⟨A.ETH_GCE p l i, 0, 32⟩
def SF_i_W0_PORT (i : Nat) : FRef := ⟨A.SF_i_W0 i, 0, 3⟩
def SF_i_W0_PCP_EN (i : Nat) : FRef := ⟨A.SF_i_W0 i, 3, 1⟩
def SF_i_W0_PCP (i : Nat) : FRef := ⟨A.SF_i_W0 i, 4, 3⟩
def SF_i_W0_VID (i : Nat) : FRef := ⟨A.SF_i_W0 i, 8, 12⟩
def SF_i_W0_DA_EN (i : Nat) : FRef := ⟨A.SF_i_W0 i, 20, 1⟩
def SF_i_W0_POLICER (i : Nat) : FRef := ⟨A.SF_i_W0 i, 21, 7⟩
def SF_i_W0_POL_EN (i : Nat) : FRef := ⟨A.SF_i_W0 i, 28, 1⟩
def SF_i_W0_ENABLE (i : Nat) : FRef := ⟨A.SF_i_W0 i, 31, 1⟩
def SF_i_W1_DA (i : Nat) : FRef := ⟨A.SF_i_W1 i, 0, 32⟩
def SF_i_W2_DA (i : Nat) : FRef := ⟨A.SF_i_W2 i, 0, 16⟩
def SF_i_W2_MAX_SDU (i : Nat) : FRef := ⟨A.SF_i_W2 i, 16, 14⟩
def VLAN_W0_V (v : Nat) : FRef := ⟨A.VLAN_W0 v, 0, 32⟩
def VLAN_W1_V (v : Nat) : FRef := ⟨A.VLAN_W1 v, 0, 32⟩
def PORTCFG_q_V (q : Nat) : FRef := ⟨A.PORTCFG_q q, 0, 32⟩
def GP_CTRL_p_EN (p : Nat) : FRef := ⟨A.GP_CTRL_p p, 0, 1⟩
def GP_CTRL_p_PDELAY_LOG (p : Nat) : FRef := ⟨A.GP_CTRL_p p, 8, 4⟩
def GP_CTRL_p_THRESH (p : Nat) : FRef := ⟨A.GP_CTRL_p p, 16, 16⟩
def GP_STATUS_p_AS_CAPABLE (p : Nat) : FRef := ⟨A.GP_STATUS_p p, 0, 1⟩
def GP_STATUS_p_SYNC_OK (p : Nat) : FRef := ⟨A.GP_STATUS_p p, 1, 1⟩
def GP_DELAY_p_NS (p : Nat) : FRef := ⟨A.GP_DELAY_p p, 0, 32⟩
def GP_RATIO_p_PPB (p : Nat) : FRef := ⟨A.GP_RATIO_p p, 0, 32⟩
def GP_MAC_LO_V (p : Nat) : FRef := ⟨A.GP_MAC_LO p, 0, 32⟩
def GP_MAC_HI_V (p : Nat) : FRef := ⟨A.GP_MAC_HI p, 0, 32⟩
def USB_CTRL_ENABLE : FRef := ⟨A.USB_CTRL, 0, 1⟩
def USB_CFG_PWR2GOOD : FRef := ⟨A.USB_CFG, 0, 8⟩
def USB_STATUS_PLL_LOCK : FRef := ⟨A.USB_STATUS, 0, 1⟩
def USB_STATUS_SPREAD_HOLD : FRef := ⟨A.USB_STATUS, 1, 1⟩
def USB_STATUS_ATTACHED : FRef := ⟨A.USB_STATUS, 4, 4⟩
def UF_CTRL_MF_CONNECT (h : Nat) : FRef := ⟨A.UF_CTRL h, 0, 1⟩
def UF_CTRL_LPM_EN (h : Nat) : FRef := ⟨A.UF_CTRL h, 1, 1⟩
def UF_STATUS_STATE (h : Nat) : FRef := ⟨A.UF_STATUS h, 0, 3⟩
def UF_STATUS_SPEED (h : Nat) : FRef := ⟨A.UF_STATUS h, 3, 2⟩
def UF_STATUS_ALT_TT (h : Nat) : FRef := ⟨A.UF_STATUS h, 5, 1⟩
def UF_STATUS_ADDRESS (h : Nat) : FRef := ⟨A.UF_STATUS h, 8, 7⟩
def UF_STATUS_MF_STATE (h : Nat) : FRef := ⟨A.UF_STATUS h, 16, 3⟩
def UF_STATUS_MF_ADDRESS (h : Nat) : FRef := ⟨A.UF_STATUS h, 24, 7⟩
def UF_EVT_BUS_RESET (h : Nat) : FRef := ⟨A.UF_EVT h, 0, 1⟩
def UF_EVT_MF_RESET (h : Nat) : FRef := ⟨A.UF_EVT h, 1, 1⟩
def UF_EVT_ATTACH_CHG (h : Nat) : FRef := ⟨A.UF_EVT h, 2, 1⟩
def UF_EVT_SUSPEND_CHG (h : Nat) : FRef := ⟨A.UF_EVT h, 3, 1⟩
def UF_EVT_MF_DISCARD (h : Nat) : FRef := ⟨A.UF_EVT h, 4, 1⟩
def UF_MF_COUNT_FRAMES_IN (h : Nat) : FRef := ⟨A.UF_MF_COUNT h, 0, 16⟩
def UF_MF_COUNT_REPLIES_OUT (h : Nat) : FRef := ⟨A.UF_MF_COUNT h, 16, 16⟩
def UF_MF_ERR_LEN_ERR (h : Nat) : FRef := ⟨A.UF_MF_ERR h, 0, 16⟩
def UF_MF_ERR_ORPHANED (h : Nat) : FRef := ⟨A.UF_MF_ERR h, 16, 16⟩
def UF_MF_QUEUE_REPLIES (h : Nat) : FRef := ⟨A.UF_MF_QUEUE h, 0, 5⟩
def UF_MF_QUEUE_PARTIAL (h : Nat) : FRef := ⟨A.UF_MF_QUEUE h, 8, 1⟩
def DS_CFG_n_FIXED (n : Nat) : FRef := ⟨A.DS_CFG_n n, 0, 1⟩
def DS_CFG_n_CHG_MODE (n : Nat) : FRef := ⟨A.DS_CFG_n n, 1, 2⟩
def DS_CFG_n_PWR_MODE (n : Nat) : FRef := ⟨A.DS_CFG_n n, 4, 2⟩
def DS_CTRL_n_POWER_CYCLE (n : Nat) : FRef := ⟨A.DS_CTRL_n n, 0, 1⟩
def DS_STATUS_n_STATE (n : Nat) : FRef := ⟨A.DS_STATUS_n n, 0, 4⟩
def DS_STATUS_n_SPEED (n : Nat) : FRef := ⟨A.DS_STATUS_n n, 4, 2⟩
def DS_STATUS_n_PPC (n : Nat) : FRef := ⟨A.DS_STATUS_n n, 6, 1⟩
def DS_STATUS_n_OC (n : Nat) : FRef := ⟨A.DS_STATUS_n n, 7, 1⟩
def DS_STATUS_n_CHG (n : Nat) : FRef := ⟨A.DS_STATUS_n n, 8, 2⟩
def DS_STATUS_n_TT_BUSY (n : Nat) : FRef := ⟨A.DS_STATUS_n n, 10, 1⟩
def DS_EVT_n_OVER_CURRENT (n : Nat) : FRef := ⟨A.DS_EVT_n n, 0, 1⟩
def DS_EVT_n_CONNECT_CHG (n : Nat) : FRef := ⟨A.DS_EVT_n n, 1, 1⟩
def DS_EVT_n_WAKE_UNOWNED (n : Nat) : FRef := ⟨A.DS_EVT_n n, 2, 1⟩
def DS_EVT_n_BABBLE (n : Nat) : FRef := ⟨A.DS_EVT_n n, 3, 1⟩
def DS_COUNT_n_CONNECTS (n : Nat) : FRef := ⟨A.DS_COUNT_n n, 0, 16⟩
def DS_COUNT_n_OC (n : Nat) : FRef := ⟨A.DS_COUNT_n n, 16, 16⟩
def DS_WAKE_n_REMOTE (n : Nat) : FRef := ⟨A.DS_WAKE_n n, 0, 16⟩
def DS_WAKE_n_COLLISIONS (n : Nat) : FRef := ⟨A.DS_WAKE_n n, 16, 16⟩
def WD_ARM_h_ID (h : Nat) : FRef := ⟨A.WD_ARM_h h, 0, 8⟩
def WD_ARM_h_ARM (h : Nat) : FRef := ⟨A.WD_ARM_h h, 8, 1⟩
def WD_PERR_STAT_h_COUNT (h : Nat) : FRef := ⟨A.WD_PERR_STAT_h h, 0, 5⟩
def WD_PERR_STAT_h_OVF (h : Nat) : FRef := ⟨A.WD_PERR_STAT_h h, 16, 16⟩
def WD_PERR_POP_h_POP (h : Nat) : FRef := ⟨A.WD_PERR_POP_h h, 0, 1⟩
def WD_PERR_E_V (h i : Nat) : FRef := ⟨A.WD_PERR_E h i, 0, 32⟩
def WD_MOD_EVT_ALL : FRef := ⟨A.WD_MOD_EVT, 0, 32⟩
def WD_BUS_CTRL_ENABLE (b : Nat) : FRef := ⟨A.WD_BUS_CTRL b, 0, 1⟩
def WD_BUS_STATUS_BUSY (b : Nat) : FRef := ⟨A.WD_BUS_STATUS b, 0, 1⟩
def WD_BUS_STATUS_CAN_STATE (b : Nat) : FRef := ⟨A.WD_BUS_STATUS b, 1, 2⟩
def WD_BUS_STATUS_HELD (b : Nat) : FRef := ⟨A.WD_BUS_STATUS b, 4, 4⟩
def WD_BUS_STATUS_QUEUED (b : Nat) : FRef := ⟨A.WD_BUS_STATUS b, 8, 8⟩
def WD_BUS_EVT_STUCK (b : Nat) : FRef := ⟨A.WD_BUS_EVT b, 0, 1⟩
def WD_BUS_EVT_ARB_LOST (b : Nat) : FRef := ⟨A.WD_BUS_EVT b, 1, 1⟩
def WD_BUS_EVT_BUS_OFF (b : Nat) : FRef := ⟨A.WD_BUS_EVT b, 2, 1⟩
def WD_BUS_EVT_ERR_PASSIVE (b : Nat) : FRef := ⟨A.WD_BUS_EVT b, 3, 1⟩
def WD_BUS_EVT_RX_OVERFLOW (b : Nat) : FRef := ⟨A.WD_BUS_EVT b, 4, 1⟩
def WD_BUS_EVT_KEEP_LOST (b : Nat) : FRef := ⟨A.WD_BUS_EVT b, 5, 1⟩
def WD_RX_CTRL_DELIVERY (b : Nat) : FRef := ⟨A.WD_RX_CTRL b, 0, 1⟩
def WD_RX_CTRL_FLUSH (b : Nat) : FRef := ⟨A.WD_RX_CTRL b, 4, 12⟩
def WD_RX_CTRL_WATERMARK (b : Nat) : FRef := ⟨A.WD_RX_CTRL b, 16, 11⟩
def WD_RX_STAT_FILL (b : Nat) : FRef := ⟨A.WD_RX_STAT b, 0, 11⟩
def WD_RX_STAT_LOST (b : Nat) : FRef := ⟨A.WD_RX_STAT b, 16, 16⟩
def WD_TX_COUNT_COUNT (b : Nat) : FRef := ⟨A.WD_TX_COUNT b, 0, 32⟩
def WD_ERR_COUNT_COUNT (b : Nat) : FRef := ⟨A.WD_ERR_COUNT b, 0, 32⟩
def WD_TIMING_W0_V (b : Nat) : FRef := ⟨A.WD_TIMING_W0 b, 0, 32⟩
def WD_TIMING_W1_V (b : Nat) : FRef := ⟨A.WD_TIMING_W1 b, 0, 32⟩
def WD_CAN_FILT_i_ID (b i : Nat) : FRef := ⟨A.WD_CAN_FILT_i b i, 0, 29⟩
def WD_CAN_FILT_i_IDE (b i : Nat) : FRef := ⟨A.WD_CAN_FILT_i b i, 29, 1⟩
def WD_CAN_FILT_i_EN (b i : Nat) : FRef := ⟨A.WD_CAN_FILT_i b i, 31, 1⟩
def WD_CAN_MASK_i_MASK (b i : Nat) : FRef := ⟨A.WD_CAN_MASK_i b i, 0, 29⟩
def WD_MOD_STATUS_STATE (m : Nat) : FRef := ⟨A.WD_MOD_STATUS m, 0, 3⟩
def WD_MOD_STATUS_CAUSE (m : Nat) : FRef := ⟨A.WD_MOD_STATUS m, 8, 4⟩
def WD_MOD_STATUS_LINES (m : Nat) : FRef := ⟨A.WD_MOD_STATUS m, 16, 8⟩
def WD_MOD_STATUS_VALID (m : Nat) : FRef := ⟨A.WD_MOD_STATUS m, 24, 1⟩
def WD_MOD_STATUS_CHANGED (m : Nat) : FRef := ⟨A.WD_MOD_STATUS m, 25, 1⟩
def WD_MOD_CTRL_APPROVE (m : Nat) : FRef := ⟨A.WD_MOD_CTRL m, 0, 1⟩
def WD_MOD_CTRL_REJECT (m : Nat) : FRef := ⟨A.WD_MOD_CTRL m, 1, 1⟩
def WD_MOD_CTRL_RECHECK (m : Nat) : FRef := ⟨A.WD_MOD_CTRL m, 2, 1⟩
def WD_MOD_COUNT_INSERTS (m : Nat) : FRef := ⟨A.WD_MOD_COUNT m, 0, 16⟩
def WD_MOD_COUNT_REJECTS (m : Nat) : FRef := ⟨A.WD_MOD_COUNT m, 16, 16⟩
def WD_MOD_CFG_V (m i : Nat) : FRef := ⟨A.WD_MOD_CFG m i, 0, 32⟩
def WD_MOD_REC_i_V (m i : Nat) : FRef := ⟨A.WD_MOD_REC_i m i, 0, 32⟩
def TC_CTRL_ENABLE (p : Nat) : FRef := ⟨A.TC_CTRL p, 0, 1⟩
def TC_CTRL_REARM (p : Nat) : FRef := ⟨A.TC_CTRL p, 1, 1⟩
def TC_CTRL_SWAP_PR (p : Nat) : FRef := ⟨A.TC_CTRL p, 4, 1⟩
def TC_CTRL_SWAP_DR (p : Nat) : FRef := ⟨A.TC_CTRL p, 5, 1⟩
def TC_CTRL_SWAP_VCONN (p : Nat) : FRef := ⟨A.TC_CTRL p, 6, 1⟩
def TC_CTRL_SOFT_RESET (p : Nat) : FRef := ⟨A.TC_CTRL p, 7, 1⟩
def TC_CTRL_HARD_RESET (p : Nat) : FRef := ⟨A.TC_CTRL p, 8, 1⟩
def TC_STATUS_STATE (p : Nat) : FRef := ⟨A.TC_STATUS p, 0, 4⟩
def TC_STATUS_ORIENT (p : Nat) : FRef := ⟨A.TC_STATUS p, 4, 1⟩
def TC_STATUS_PR (p : Nat) : FRef := ⟨A.TC_STATUS p, 5, 1⟩
def TC_STATUS_DR (p : Nat) : FRef := ⟨A.TC_STATUS p, 6, 1⟩
def TC_STATUS_VCONN (p : Nat) : FRef := ⟨A.TC_STATUS p, 7, 1⟩
def TC_STATUS_WET (p : Nat) : FRef := ⟨A.TC_STATUS p, 8, 1⟩
def TC_STATUS_CONTRACT (p : Nat) : FRef := ⟨A.TC_STATUS p, 9, 1⟩
def TC_STATUS_EPR (p : Nat) : FRef := ⟨A.TC_STATUS p, 10, 1⟩
def TC_STATUS_FRS_ARMED (p : Nat) : FRef := ⟨A.TC_STATUS p, 11, 1⟩
def TC_STATUS_SYS_INPUT (p : Nat) : FRef := ⟨A.TC_STATUS p, 12, 1⟩
def TC_STATUS_CARAVAN (p : Nat) : FRef := ⟨A.TC_STATUS p, 13, 1⟩
def TC_STATUS_RP (p : Nat) : FRef := ⟨A.TC_STATUS p, 14, 2⟩
def PD_CONTRACT_VOLT (p : Nat) : FRef := ⟨A.PD_CONTRACT p, 0, 12⟩
def PD_CONTRACT_CUR (p : Nat) : FRef := ⟨A.PD_CONTRACT p, 12, 10⟩
def PD_CONTRACT_TYPE (p : Nat) : FRef := ⟨A.PD_CONTRACT p, 24, 2⟩
def PD_CONTRACT_OBJ (p : Nat) : FRef := ⟨A.PD_CONTRACT p, 26, 4⟩
def PD_RDO_V (p : Nat) : FRef := ⟨A.PD_RDO p, 0, 32⟩
def PD_CABLE_LIM_I5A (p : Nat) : FRef := ⟨A.PD_CABLE_LIM p, 0, 1⟩
def PD_CABLE_LIM_V50 (p : Nat) : FRef := ⟨A.PD_CABLE_LIM p, 1, 1⟩
def PD_CABLE_LIM_GEAR (p : Nat) : FRef := ⟨A.PD_CABLE_LIM p, 2, 2⟩
def PD_CABLE_LIM_CLASS (p : Nat) : FRef := ⟨A.PD_CABLE_LIM p, 4, 2⟩
def PD_CABLE_LIM_SOP2 (p : Nat) : FRef := ⟨A.PD_CABLE_LIM p, 6, 1⟩
def PD_CABLE_VDO_V (p : Nat) : FRef := ⟨A.PD_CABLE_VDO p, 0, 32⟩
def PD_ALERT_V (p : Nat) : FRef := ⟨A.PD_ALERT p, 0, 32⟩
def TC_MOIST_LEAK_KOHM (p : Nat) : FRef := ⟨A.TC_MOIST p, 0, 16⟩
def TC_MOIST_WET_COUNT (p : Nat) : FRef := ⟨A.TC_MOIST p, 16, 16⟩
def TC_EVT_ATTACH_CHG (p : Nat) : FRef := ⟨A.TC_EVT p, 0, 1⟩
def TC_EVT_CONTRACT_CHG (p : Nat) : FRef := ⟨A.TC_EVT p, 1, 1⟩
def TC_EVT_ROLE_CHG (p : Nat) : FRef := ⟨A.TC_EVT p, 2, 1⟩
def TC_EVT_CABLE (p : Nat) : FRef := ⟨A.TC_EVT p, 3, 1⟩
def TC_EVT_ACCESSORY (p : Nat) : FRef := ⟨A.TC_EVT p, 4, 1⟩
def TC_EVT_ALERT (p : Nat) : FRef := ⟨A.TC_EVT p, 5, 1⟩
def TC_FLT_MOIST (p : Nat) : FRef := ⟨A.TC_FLT p, 0, 1⟩
def TC_FLT_ERR_RECOVERY (p : Nat) : FRef := ⟨A.TC_FLT p, 1, 1⟩
def TC_FLT_DISABLED (p : Nat) : FRef := ⟨A.TC_FLT p, 2, 1⟩
def TC_FLT_VCONN_OCP (p : Nat) : FRef := ⟨A.TC_FLT p, 3, 1⟩
def TC_FLT_VBUS_OCP (p : Nat) : FRef := ⟨A.TC_FLT p, 4, 1⟩
def TC_FLT_HARD_RESET (p : Nat) : FRef := ⟨A.TC_FLT p, 5, 1⟩
def TC_FLT_FRS (p : Nat) : FRef := ⟨A.TC_FLT p, 6, 1⟩
def TC_COUNT_ATTACHES (p : Nat) : FRef := ⟨A.TC_COUNT p, 0, 16⟩
def TC_COUNT_HARD_RESETS (p : Nat) : FRef := ⟨A.TC_COUNT p, 16, 16⟩
def TC_COUNT2_SOFT_RESETS (p : Nat) : FRef := ⟨A.TC_COUNT2 p, 0, 16⟩
def TC_COUNT2_ERR_RECOVERIES (p : Nat) : FRef := ⟨A.TC_COUNT2 p, 16, 16⟩
def TC_CFG_w_V (p w : Nat) : FRef := ⟨A.TC_CFG_w p w, 0, 32⟩
def PD_PARTNER_i_V (p i : Nat) : FRef := ⟨A.PD_PARTNER_i p i, 0, 32⟩
def TC_PWR_SYS_INPUT : FRef := ⟨A.TC_PWR, 0, 3⟩
def TC_PWR_LOCAL_OK : FRef := ⟨A.TC_PWR, 4, 1⟩
def TC_PWR_FRS_COUNT : FRef := ⟨A.TC_PWR, 16, 16⟩
def EF_CTRL_ENABLE (c : Nat) : FRef := ⟨A.EF_CTRL c, 0, 1⟩
def EF_CTRL_ON (c : Nat) : FRef := ⟨A.EF_CTRL c, 1, 1⟩
def EF_CTRL_CLEAR (c : Nat) : FRef := ⟨A.EF_CTRL c, 2, 1⟩
def EF_STATUS_STATE (c : Nat) : FRef := ⟨A.EF_STATUS c, 0, 3⟩
def EF_STATUS_PG (c : Nat) : FRef := ⟨A.EF_STATUS c, 3, 1⟩
def EF_STATUS_LIMIT (c : Nat) : FRef := ⟨A.EF_STATUS c, 4, 1⟩
def EF_STATUS_PATH (c : Nat) : FRef := ⟨A.EF_STATUS c, 5, 1⟩
def EF_STATUS_SPARE_OK (c : Nat) : FRef := ⟨A.EF_STATUS c, 6, 1⟩
def EF_STATUS_CLEARED (c : Nat) : FRef := ⟨A.EF_STATUS c, 7, 1⟩
def EF_STATUS_SELF_STEP (c : Nat) : FRef := ⟨A.EF_STATUS c, 8, 1⟩
def EF_STATUS_DEGRADED (c : Nat) : FRef := ⟨A.EF_STATUS c, 9, 1⟩
def EF_STATUS_CAUSE (c : Nat) : FRef := ⟨A.EF_STATUS c, 12, 4⟩
def EF_STATUS_SHORT_FET (c : Nat) : FRef := ⟨A.EF_STATUS c, 16, 2⟩
def EF_STATUS_RETRIES (c : Nat) : FRef := ⟨A.EF_STATUS c, 20, 4⟩
def EF_EVT_STATE_CHG (c : Nat) : FRef := ⟨A.EF_EVT c, 0, 1⟩
def EF_EVT_FAULT (c : Nat) : FRef := ⟨A.EF_EVT c, 1, 1⟩
def EF_EVT_PG_CHG (c : Nat) : FRef := ⟨A.EF_EVT c, 2, 1⟩
def EF_EVT_PATH_SWITCH (c : Nat) : FRef := ⟨A.EF_EVT c, 3, 1⟩
def EF_EVT_DAMAGE (c : Nat) : FRef := ⟨A.EF_EVT c, 4, 1⟩
def EF_MEAS_V_VIN (c : Nat) : FRef := ⟨A.EF_MEAS_V c, 0, 12⟩
def EF_MEAS_V_VOUT (c : Nat) : FRef := ⟨A.EF_MEAS_V c, 16, 12⟩
def EF_MEAS_I_I (c : Nat) : FRef := ⟨A.EF_MEAS_I c, 0, 16⟩
def EF_MEAS_I_MID (c : Nat) : FRef := ⟨A.EF_MEAS_I c, 16, 12⟩
def EF_TEMP_TJ (c : Nat) : FRef := ⟨A.EF_TEMP c, 0, 12⟩
def EF_TEMP_SRC (c : Nat) : FRef := ⟨A.EF_TEMP c, 12, 1⟩
def EF_TEMP_TREF (c : Nat) : FRef := ⟨A.EF_TEMP c, 16, 12⟩
def EF_COUNT_FAULTS (c : Nat) : FRef := ⟨A.EF_COUNT c, 0, 16⟩
def EF_COUNT_TRIPS (c : Nat) : FRef := ⟨A.EF_COUNT c, 16, 16⟩
def EF_COUNT2_ON_CYCLES (c : Nat) : FRef := ⟨A.EF_COUNT2 c, 0, 16⟩
def EF_COUNT2_SWITCHES (c : Nat) : FRef := ⟨A.EF_COUNT2 c, 16, 8⟩
def EF_CFG_w_V (c w : Nat) : FRef := ⟨A.EF_CFG_w c w, 0, 32⟩
def OA_EVT_ALL : FRef := ⟨A.OA_EVT, 0, 7⟩
def OA_STATUS_SHED_ACTIVE : FRef := ⟨A.OA_STATUS, 0, 1⟩
def OA_STATUS_CORE_FATAL : FRef := ⟨A.OA_STATUS, 1, 1⟩
def OA_STATUS_RECORD_OK : FRef := ⟨A.OA_STATUS, 2, 1⟩
def OA_CFG_HW_AGENTS : FRef := ⟨A.OA_CFG, 0, 5⟩
def OA_CFG_LOG_CORR : FRef := ⟨A.OA_CFG, 8, 1⟩
def OA_CFG_TJ_WARN : FRef := ⟨A.OA_CFG, 9, 3⟩
def OA_CFG_ESC_WINDOW : FRef := ⟨A.OA_CFG, 12, 20⟩
def OA_LIMIT_FET_CYCLES : FRef := ⟨A.OA_LIMIT, 0, 16⟩
def OA_LIMIT2_CORR_SYM : FRef := ⟨A.OA_LIMIT2, 0, 32⟩
def OA_SHED_BUDGET_W : FRef := ⟨A.OA_SHED, 0, 10⟩
def OA_SHED_RESTORE : FRef := ⟨A.OA_SHED, 16, 16⟩
def OA_SHED_STATUS_SHED : FRef := ⟨A.OA_SHED_STATUS, 0, 8⟩
def OA_NOTICE_ALL : FRef := ⟨A.OA_NOTICE, 0, 19⟩
def OA_AGE_EQ : FRef := ⟨A.OA_AGE, 0, 32⟩
def OA_HOT_H : FRef := ⟨A.OA_HOT, 0, 32⟩
def OA_TJ_NOW : FRef := ⟨A.OA_TJ, 0, 12⟩
def OA_TJ_PEAK : FRef := ⟨A.OA_TJ, 16, 12⟩
def OA_RO_SLOW : FRef := ⟨A.OA_RO, 0, 8⟩
def OA_ATTACH_p_V (p : Nat) : FRef := ⟨A.OA_ATTACH_p p, 0, 32⟩
def OA_FET_CYC_c_V (c : Nat) : FRef := ⟨A.OA_FET_CYC_c c, 0, 32⟩
def OA_NOTICE_DETAIL_n_INSTANCE (n : Nat) : FRef := ⟨A.OA_NOTICE_DETAIL_n n, 0, 8⟩
def OA_NOTICE_DETAIL_n_COUNT (n : Nat) : FRef := ⟨A.OA_NOTICE_DETAIL_n n, 16, 16⟩
def OA_SRAM_REPAIRS : FRef := ⟨A.OA_SRAM, 0, 16⟩
def OA_SRAM_WORST_PCT : FRef := ⟨A.OA_SRAM, 16, 8⟩
def OA_SRAM_CE_COUNT : FRef := ⟨A.OA_SRAM_CE, 0, 32⟩
def OA_RECORD_SEQ : FRef := ⟨A.OA_RECORD, 0, 32⟩
def ERR_FIRST_W_V (a i : Nat) : FRef := ⟨A.ERR_FIRST_W a i, 0, 32⟩
def ERR_FIRST_ACK_ACK (a : Nat) : FRef := ⟨A.ERR_FIRST_ACK a, 0, 1⟩
def ERR_RING_W_V (a i : Nat) : FRef := ⟨A.ERR_RING_W a i, 0, 32⟩
def ERR_RING_POP_POP (a : Nat) : FRef := ⟨A.ERR_RING_POP a, 0, 1⟩
def ERR_STAT_COUNT (a : Nat) : FRef := ⟨A.ERR_STAT a, 0, 6⟩
def ERR_STAT_FIRST_VALID (a : Nat) : FRef := ⟨A.ERR_STAT a, 8, 1⟩
def ERR_STAT_OVF (a : Nat) : FRef := ⟨A.ERR_STAT a, 16, 16⟩
end F

end Sys2Proof.Machine
end

