-- ==== Sys2Proof/Machine/Bits.lean ====
section
/-! DEFINITION. Machine/Bits.lean: bit fields, signed readings, byte order, saturating counters, the CRC-32 of
R4, and the sorted list of (key, value) pairs that holds registers, flash and display bytes. -/
namespace Sys2Proof.Machine

/-- Bits [lsb+width-1 : lsb] of `v` (R2). -/
def bitsOf (v lsb width : Nat) : Nat := v / 2 ^ lsb % 2 ^ width

/-- `v` with bits [lsb+width-1 : lsb] replaced by `x`. -/
def withBits (v lsb width x : Nat) : Nat :=
  v % 2 ^ lsb + (x % 2 ^ width) * 2 ^ lsb + v / 2 ^ (lsb + width) * 2 ^ (lsb + width)

/-- Bit `i` of `v` as a Bool. -/
def bitAt (v i : Nat) : Bool := Nat.testBit v i

/-- The two's complement reading of the low `width` bits of `v`. -/
def signedOf (width v : Nat) : Int :=
  let x := v % 2 ^ width
  if x < 2 ^ (width - 1) then (x : Int) else (x : Int) - (2 ^ width : Nat)

/-- The low `width` bits of an integer in two's complement. -/
def toBits (width : Nat) (i : Int) : Nat := (i % ((2 ^ width : Nat) : Int)).toNat

/-- An integer held to the range of a signed field of `width` bits. -/
def clampSigned (width : Nat) (i : Int) : Int :=
  let hi : Int := ((2 ^ (width - 1) : Nat) : Int) - 1
  if i > hi then hi else if i < -hi - 1 then -hi - 1 else i

/-- A counter of `width` bits advanced by `n`, saturating at all ones (R73). -/
def satAdd (width v n : Nat) : Nat := min (v + n) (2 ^ width - 1)

/-- Division rounded up. -/
def ceilDiv (a b : Nat) : Nat := (a + b - 1) / b

/-- For n-bit generation numbers, `a` is newer than `b` (R71). -/
def newerThan (n a b : Nat) : Bool :=
  let d := (a + 2 ^ n - b % 2 ^ n) % 2 ^ n
  decide (0 < d) && decide (d < 2 ^ (n - 1))

/-- A Bool as one bit. -/
def bit1 (b : Bool) : Nat := if b then 1 else 0

/-- The OR of numbers. -/
def orAll (l : List Nat) : Nat := l.foldl (· ||| ·) 0

/-- The mask with bit `i` set for each `i` below `n` where `p i` holds. -/
def maskOf (n : Nat) (p : Nat → Bool) : Nat :=
  (List.range n).foldl (fun m i => if p i then m + 2 ^ i else m) 0

/-- The number of bits set among the low `n` bits. -/
def popCount (n v : Nat) : Nat := ((List.range n).filter (fun i => bitAt v i)).length

/-- The number a little-endian list of bytes spells (R2). -/
def ofBytesLE : List Byte → Nat
  | [] => 0
  | b :: t => b.toNat + 256 * ofBytesLE t

/-- The number a big-endian list of bytes spells. -/
def ofBytesBE (l : List Byte) : Nat := ofBytesLE l.reverse

/-- The low `n` bytes of `v`, lowest first. -/
def toBytesLE : Nat → Nat → List Byte
  | 0, _ => []
  | n + 1, v => BitVec.ofNat 8 v :: toBytesLE n (v / 256)

/-- The four bytes of a word, lowest-addressed first (R2). -/
def wordBytes (w : Word) : List Byte := toBytesLE 4 w.toNat

/-- The bytes of a list of words in order (R2). -/
def wordsBytes (ws : List Word) : List Byte := ws.flatMap wordBytes

/-- The words a list of bytes spells, a trailing part of a word dropped. -/
def bytesWords : List Byte → List Word
  | a :: b :: c :: d :: t => BitVec.ofNat 32 (ofBytesLE [a, b, c, d]) :: bytesWords t
  | _ => []

/-- A number as a word. -/
def w32 (n : Nat) : Word := BitVec.ofNat 32 n

/-- Word `i` of a list of words as a number, 0 past its end. -/
def wordAt (ws : List Word) (i : Nat) : Nat := (ws.getD i 0).toNat

/-- One bit step of the reflected CRC-32 of R4. -/
def crcBit (c : Nat) : Nat := if c % 2 = 1 then (c / 2) ^^^ 0xEDB88320 else c / 2

/-- One byte of the reflected CRC-32 of R4. -/
def crcByte (c : Nat) (b : Byte) : Nat :=
  crcBit (crcBit (crcBit (crcBit (crcBit (crcBit (crcBit (crcBit (c ^^^ b.toNat))))))))

/-- The CRC-32 of R4: IEEE 802.3 polynomial, preset to ones, reflected, complemented. -/
def crc32 (bs : List Byte) : Nat := (bs.foldl crcByte 0xFFFFFFFF) ^^^ 0xFFFFFFFF

/-! ### Sorted cells
A list of (key, value) pairs with strictly rising keys and no entry equal to what an unlisted key reads as. -/

/-- The value at key `a`, `d` where it is not listed. -/
def cellGet {α : Type} (d : α) : List (Nat × α) → Nat → α
  | [], _ => d
  | (k, v) :: t, a => if a = k then v else if a < k then d else cellGet d t a

/-- The list with `v` at key `a`; writing what an unlisted key reads as removes the entry. -/
def cellSet {α : Type} [DecidableEq α] (d : α) : List (Nat × α) → Nat → α → List (Nat × α)
  | [], a, v => if v = d then [] else [(a, v)]
  | (k, w) :: t, a, v =>
    if a < k then (if v = d then (k, w) :: t else (a, v) :: (k, w) :: t)
    else if a = k then (if v = d then t else (a, v) :: t)
    else (k, w) :: cellSet d t a v

/-- The canonical form above key bound `lo`: keys rise strictly from `lo` and no value is `d`. -/
def cellsFrom {α : Type} [DecidableEq α] (d : α) : Nat → List (Nat × α) → Bool
  | _, [] => true
  | lo, (k, v) :: t => decide (lo ≤ k) && decide (v ≠ d) && cellsFrom d (k + 1) t

/-- The canonical form of a list of cells. -/
def cellsWf {α : Type} [DecidableEq α] (d : α) (l : List (Nat × α)) : Bool := cellsFrom d 0 l

/-- The cells whose keys satisfy `p`. -/
def cellKeep {α : Type} (p : Nat → Bool) (l : List (Nat × α)) : List (Nat × α) := l.filter (fun c => p c.1)

/-- Store a list of values at rising keys from `a`. -/
def cellSetAll {α : Type} [DecidableEq α] (d : α) (l : List (Nat × α)) : Nat → List α → List (Nat × α)
  | _, [] => l
  | a, v :: vs => cellSetAll d (cellSet d l a v) (a + 1) vs

/-- The `n` values from key `a` on, of cells whose keys rise from `a` or above. -/
def cellWalk {α : Type} (d : α) : List (Nat × α) → Nat → Nat → List α
  | _, _, 0 => []
  | [], a, n + 1 => d :: cellWalk d [] (a + 1) n
  | (k, v) :: t, a, n + 1 => if k = a then v :: cellWalk d t (a + 1) n else d :: cellWalk d ((k, v) :: t) (a + 1) n

/-- The `n` values from key `a` on. -/
def cellGetAll {α : Type} (d : α) (l : List (Nat × α)) (a n : Nat) : List α :=
  cellWalk d (l.dropWhile (fun c => decide (c.1 < a))) a n

/-- The list with the values of keys `a` on replaced by a list of values at once. -/
def cellSplice {α : Type} [DecidableEq α] (d : α) (l : List (Nat × α)) (a : Nat) (vs : List α) : List (Nat × α) :=
  l.filter (fun c => decide (c.1 < a)) ++ ((vs.zipIdx a).filterMap (fun p => if p.1 = d then none else some (p.2, p.1)))
    ++ l.filter (fun c => decide (a + vs.length ≤ c.1))

/-! ### Lists as fixed tables -/

/-- Element `i` of a vector; an index past the end wraps, and no rule uses one. -/
def vAt {α : Type} {n : Nat} [NeZero n] (v : Vector α n) (i : Nat) : α :=
  v[i % n]'(Nat.mod_lt _ (Nat.pos_of_neZero n))

/-- The vector with element `i` replaced; an index past the end wraps, and no rule uses one. -/
def vPut {α : Type} {n : Nat} [NeZero n] (v : Vector α n) (i : Nat) (x : α) : Vector α n :=
  v.set (i % n) x (Nat.mod_lt _ (Nat.pos_of_neZero n))

/-- Element `i` of a vector changed by `f`. -/
def vMod {α : Type} {n : Nat} [NeZero n] (v : Vector α n) (i : Nat) (f : α → α) : Vector α n :=
  vPut v i (f (vAt v i))

/-- Entry `i` of a table, `d` past its end. -/
def entryAt {α : Type} (l : List α) (i : Nat) (d : α) : α := l.getD i d

/-- The first index below `n` at which `p` holds. -/
def firstIx (n : Nat) (p : Nat → Bool) : Option Nat := (List.range n).find? p

end Sys2Proof.Machine
end

