-- ==== Sys2Proof/Machine/Blocks.lean ====
section
/-! DEFINITION. Machine/Blocks.lean: the state that each block holds beside its registers. -/
namespace Sys2Proof.Machine

/-! ### Management, image, errors, time -/

/-- Something the hub sends or drives to the outside. The list of them is the model's own record of outputs. -/
inductive Emit where
  /-- a 64-bit control block on a host port's UP direction, on the named logical pair (R216, R244) -/
  | ctl (h pair : Nat) (payload : Nat)
  /-- a packet with its header and payload on a host port's UP direction (R228) -/
  | packet (h : Nat) (p : Packet)
  /-- what a logical pair of a host port carries in consequence: its blocks in order, scrambled, with parity (R215 to R228) -/
  | blocks (h pair : Nat) (bs : List Blk)
  /-- one packet that a face's device sends, empty where it is a zero-length packet: endpoints 0 to 3 of the management function, or 4 for
  EP0 of the face's hub (R446 to R451) -/
  | usb (h ep : Nat) (bytes : List Byte)
  /-- words returned on MGMT_SPI (R120) -/
  | spi (words : List Word)
  /-- a handshake or bus signal of a USB port: 0 to 3 faces, 4 to 11 downstream ports, 12 to 15 the management functions; 1 K for 2 ms, 2 ACK,
  3 NYET, 4 NAK, 5 STALL, 6 VDM_SRC, 7 DP joined to DM, 8 no longer joined (R441, R443, R448 to R452) -/
  | usbSignal (port code : Nat)
  /-- a PD message or signal sent on a Type-C port: ordered set (0 SOP, 1 SOP', 2 Hard Reset, 3 FR_Swap, 4 SOP'', 5 BIST carrier), header, objects -/
  | pd (p sop hdr : Nat) (objs : List Word)
  /-- a TLP sent to a drive -/
  | tlp (p : Nat) (bytes : List Byte)
  /-- an Ethernet frame sent on a switch port, with the launch instant -/
  | eth (q : Nat) (bytes : List Byte) (at_ : Nat)
  /-- a transfer on a field bus: bus, first word of the request, bytes written -/
  | field (b : Nat) (addr len : Nat) (bytes : List Byte)
  /-- a launch or general line driven to a level at an instant -/
  | line (n : Nat) (level : Bool) (at_ : Nat)
  /-- the main-stream attributes of a head's frame: Mvid, Nvid, MISC0 and the timing words of DisplayPort (R380) -/
  | msa (x mvid nvid misc0 : Nat) (timing : List Nat)
  /-- the 25 MHz reference of a host receptacle starts or stops on SBU1 and SBU2 (R45) -/
  | sbuClock (h : Nat) (on : Bool)
  /-- a PCI Express port reports FS and LF in its equalisation (R186) -/
  | pxEq (p fs lf : Nat)
  /-- an AUX transaction on a head: command, address, bytes -/
  | aux (x cmd addr len : Nat) (bytes : List Byte)
  /-- a word written to or read from the boot flash beside image data: erase of a sector -/
  | flashErase (sector : Nat)
deriving DecidableEq, Repr

/-- An error-log entry (R606): W0, W1 and TIME at the error. -/
structure ErrEntry where
  w0 : Nat
  w1 : Nat
  time : Nat
deriving DecidableEq, Repr

/-- One agent's error log (R609). -/
structure ErrLog where
  /-- the ring, oldest entry first, at most 32; 32 x 128 bits; 20_oasis.md R609; reset empty -/
  ring : List ErrEntry
  /-- the first-error capture; 128 bits and a valid bit; 20_oasis.md R609; reset empty -/
  first : Option ErrEntry
  /-- entries not stored because the ring was full; 16 bits; 20_oasis.md R609, R624; reset 0 -/
  ovf : Nat
deriving DecidableEq, Repr

/-- A staged write of a TICK field (R97). -/
structure Staged where
  f : FRef
  v : Nat
deriving DecidableEq, Repr

/-- A non-posted command without completion (R127). -/
structure OpenCmd where
  tr : Transport
  tag : Nat
  opcode : Nat
  addr : Nat
  len : Nat
  tick : Nat
  /-- its reply is to be discarded when it is made: a function reset came between (R453) -/
  orphan : Bool
deriving DecidableEq, Repr

/-- A reply built and waiting to be sent by SPI or USB: RESULT, TAG, OPCODE echo and data (R116). The status word's
other bits are sampled when it leaves (R140). -/
structure Reply where
  result : Nat
  tag : Nat
  opcode : Nat
  data : List Word
deriving DecidableEq, Repr

/-- What the management arbiter holds for one agent. -/
structure MgmtAgent where
  /-- marked stale; 1 bit; 04_management.md R129; reset 0 -/
  stale : Bool
  /-- in service mode; 1 bit; 04_management.md R136, R138; reset 0 -/
  service : Bool
  /-- a service nonce and the tick of its issue; 384 bits; 04_management.md R135; reset none -/
  nonce : Option (BitVec 384 × Nat)
  /-- AUTH replies in a row; 4 bits saturating; 04_management.md R137, R149; reset 0 -/
  fails : Nat
  /-- the tick of the AUTH reply that began the lockout; 04_management.md R137; reset none -/
  lockout : Option Nat
  /-- non-posted commands open, at most 128; 04_management.md R127, R149; reset empty -/
  openCmds : List OpenCmd
  /-- posted writes queued (frames not yet delivered), at most 128; 04_management.md R126; reset 0 -/
  posted : Nat
  /-- frames held at the transport, oldest first; 01_architecture.md R19; reset empty -/
  held : List (Transport × Frame)
  /-- OWN_CHG to be shown in the next status word; 1 bit; 04_management.md R140; reset 0 -/
  ownChg : Bool
  /-- TAG, OPCODE echo and RESULT of the last reply or hub heartbeat sent to the agent on any transport; 04_management.md R145; reset 0 -/
  lastTag : Nat
  /-- OPCODE echo of that reply; 8 bits; 04_management.md R145; reset 0 -/
  lastOp : Nat
  /-- RESULT of that reply; 4 bits; 04_management.md R145; reset 0 -/
  lastResult : Nat
  /-- the last status word sent to that host; 16 bits; 04_management.md R146; reset 0 -/
  lastStatus : Nat
  /-- TIME of the last STATUS_ECHO; 04_management.md R146; reset none -/
  lastEcho : Option Nat
  /-- staged TICK writes, at most 256; 03_erg_image.md R98; reset empty -/
  staged : List Staged
  /-- HEARTBEAT seen since the last HEARTBEAT chore run; 1 bit; 04_management.md R144; reset 0 -/
  hbSeen : Bool
  /-- consecutive missed heartbeats; 04_management.md R144; reset 0 -/
  misses : Nat
deriving DecidableEq, Repr

/-- An ownership command recorded for the next boundary (R133). -/
structure OwnReq where
  agent : Nat
  tr : Transport
  tag : Nat
  opcode : Nat
  mask : Nat
  result : Nat
  /-- the command is open: it was not refused on its arrival (R117, R128, R131) -/
  isOpen : Bool
  /-- its reply is to be discarded when it is made: a function reset came between (R453) -/
  orphan : Bool
deriving DecidableEq, Repr

/-- One image or patch record (R75): TYPE, INSTANCE, FORMAT and body. -/
structure Rec where
  ty : Nat
  inst : Nat
  fmt : Nat
  body : List Word
deriving DecidableEq, Repr

/-- A checked image or one being checked: header fields and records (R74). -/
structure Erg where
  gen : Nat
  enrol : Bool
  revoke : Nat
  recs : List Rec
  digest : BitVec 384
deriving DecidableEq, Repr

/-- A load session (R87). -/
structure Session where
  agent : Nat
  slot : Nat
  len : Nat
  got : Nat
  lastTick : Nat
  /-- the IMAGE_COMMIT being judged: its transport and TAG -/
  commit : Option (Transport × Nat)
deriving DecidableEq, Repr

/-- A committed image that waits for the boundary (R91). -/
structure PendImage where
  erg : Erg
  agent : Nat
  tr : Transport
  tag : Nat
  slot : Nat
  keySlot : Nat
  service : Bool
deriving DecidableEq, Repr

/-- An accepted patch (R107). -/
structure PendPatch where
  agent : Nat
  tr : Transport
  tag : Nat
  newGen : Nat
  recs : List Rec
deriving DecidableEq, Repr

/-- A register commit pending for the boundary (R100). -/
structure PendCommit where
  agent : Nat
  writes : List Staged
deriving DecidableEq, Repr

/-- Where start-up stands (R568, R569). -/
inductive DevPhase where
  /-- a cold or warm reset is asserted (R557, R558) -/
  | held
  /-- from a reset to the end of the self-test or repair-map check -/
  | testing
  /-- from the end of the check until an image is applied or both slots have failed -/
  | loading
  /-- both slots failed -/
  | bare
  /-- an image is in force: RUNNING or DEGRADED -/
  | applied
deriving DecidableEq, Repr

/-- The configuration engine. -/
structure ImgState where
  /-- start-up phase; 3 bits; 18_reset.md R557, R558, R568, R569; reset testing -/
  phase : DevPhase
  /-- this start-up follows a warm reset or a wake that lost the retained state; 1 bit; 18_reset.md R562, R566, 19_power_states.md R579; reset 0 -/
  warm : Bool
  /-- the records of the running image with the patches applied to it; 03_erg_image.md R75, R109; reset empty -/
  recs : List Rec
  /-- the boot flash as (address, byte) cells, unlisted 0xFF; 03_erg_image.md R85, 20_oasis.md R619; reset erased, DESIGN CHOICE log entry 7 -/
  flash : List (Nat × Byte)
  /-- the four OTP key-hash slots; 4 x 384 bits; 03_erg_image.md R81; reset blank, DESIGN CHOICE log entry 4 -/
  otp : Vector (Option (BitVec 384)) 4
  /-- the OTP revoke bits; 4 bits; 03_erg_image.md R81; reset 0, DESIGN CHOICE log entry 4 -/
  revoked : Nat
  /-- the open load session; 03_erg_image.md R87; reset none -/
  session : Option Session
  /-- a committed image whose checks passed; 03_erg_image.md R91, R93; reset none -/
  pend : Option PendImage
  /-- accepted patches, oldest first; 03_erg_image.md R107; reset empty -/
  patches : List PendPatch
  /-- register commits pending, oldest first; 03_erg_image.md R100, R102; reset empty -/
  commits : List PendCommit
  /-- the retention check word in the keep domain; 32 bits; 19_power_states.md R578; reset 0 -/
  keepCheck : Nat
  /-- the digest of the running image in the keep domain with its check word intact; 384 bits; 18_reset.md R562; reset none -/
  keepDigest : Option (BitVec 384)
  /-- the slot being read at boot: 1 A, 2 B, 0 none; 03_erg_image.md R85; reset 0 -/
  bootSlot : Nat
deriving DecidableEq, Repr

/-- The phase measurement of one discipline source (R50, R52). -/
structure Phase where
  e : Int
  tick : Nat
deriving DecidableEq, Repr

/-- The timebase (R34 to R55). -/
structure Clock where
  /-- the reference PLL has locked and TIME counts; 1 bit; 02_time.md R35; reset 0 -/
  running : Bool
  /-- TIME in ns; 64 bits; 02_time.md R34; reset 0 -/
  time : Nat
  /-- TIME_BEACON and gPTP phase measurements of sources 1 to 8; 02_time.md R50, R52; reset none -/
  phases : Vector (Option Phase) 9
  /-- the servo's integrator; 02_time.md R52; reset 0 -/
  integ : Int
  /-- the targets of the last 16 servo runs, newest first; 02_time.md R52; reset empty -/
  targets : List Int
  /-- the servo's present target; 02_time.md R52; reset 0 -/
  target : Int
  /-- a step of TOD_OFFSET due at the next boundary; 02_time.md R53; reset none -/
  step : Option Int
  /-- the last disagreement of the crystals was above 250 ppm; 1 bit; 02_time.md R43, R59; reset 0 -/
  disagree : Bool
  /-- the agent whose write set SSC_DEPTH; 02_time.md R48; reset none -/
  sscBy : Option Nat
  /-- the tick whose boundary has been passed with its steps; TIME waits at the next; 01_architecture.md R31; reset 0 -/
  bound : Nat
  /-- the first slot, counted from TIME 0, that no chore has used; 02_time.md R60; reset 0 -/
  choreNext : Nat
deriving DecidableEq, Repr

/-- The event router's window (R165). -/
structure Router where
  /-- rises of each source in the present window; 05_events.md R165; reset 0 -/
  win : List (Nat × Nat)
  /-- sources whose rise exceeded LIMIT and whose auto-mask is due; 05_events.md R165; reset empty -/
  due : List Nat
  /-- sources that have exceeded LIMIT in the present window; 05_events.md R165, R167; reset empty -/
  fired : List Nat
deriving DecidableEq, Repr

/-- A POWER_ENTER for SLEEP, DORMANT or OFF that was accepted (R584). -/
structure PwrReq where
  agent : Nat
  tag : Nat
  target : Nat
  /-- the tick in which the drain began; none before step 3 -/
  drain : Option Nat
deriving DecidableEq, Repr

/-- Ownership beside the OWN_k registers. -/
structure OwnState where
  /-- ownership commands recorded for the next boundary, oldest first; 01_architecture.md R24, 04_management.md R133; reset empty -/
  reqs : List OwnReq
  /-- the watch instant of each host, none while every instant counts; 4 x 64 bits; 08_tunnels.md R672; reset none -/
  watch : Vector (Option Nat) 4
  /-- hosts whose link has met the 4 us link trigger and not come up since; 4 bits; 08_tunnels.md R282; reset 0 -/
  linkTrig : Vector Bool 4
  /-- RESUME is withheld from the host's next entry to ACTIVE; 4 bits; 08_tunnels.md R289; reset 0 -/
  noResume : Vector Bool 4
  /-- the host's link entered ACTIVE without resuming since its generation was set; 4 bits; 08_tunnels.md R289; reset 0 -/
  freshLink : Vector Bool 4
  /-- a generation bump is due for every host at the next boundary; 1 bit; 08_tunnels.md R286; reset 0 -/
  bumpAll : Bool
  /-- the links that must come up again, and the tick of the wake, while failover is suspended; 19_power_states.md R581; reset none -/
  suspend : Option (Nat × Nat)
deriving DecidableEq, Repr

/-! ### Caravan -/

/-- A turn announced or in progress on a cable (R250 to R257). -/
structure Turn where
  pair : Nat
  dir : Nat
  rejoin : Bool
  tick : Nat
  acked : Bool
  /-- CANCEL has gone out for the boundary of `tick` -/
  cancelled : Bool
  started : Bool
  idleSeen : Bool
deriving DecidableEq, Repr

/-- A message being assembled on a tunnel (R264, R265). -/
structure Assembly where
  /-- the rest of the message is to be discarded -/
  drop : Bool
  /-- next PART or FRAG expected -/
  part : Nat
  /-- a packet broke the frame's form (R673) -/
  bad : Bool
  bytes : List Byte
deriving DecidableEq, Repr

/-- The transmitter of a host port's UP direction (R217 to R231). -/
structure Stripe where
  /-- pairs of the present row still without a block, in order; 07_link.md R227; reset empty -/
  row : List Nat
  /-- the position within the codeword, 0 to 49; 07_link.md R218; reset 0 -/
  blk : Nat
  /-- POS: codewords of the marker period with FEC, blocks without; 14 bits; 07_link.md R224; reset 0 -/
  pos : Nat
  /-- COUNT of the markers; 32 bits; 07_link.md R224; reset 0, DESIGN CHOICE log entry 20 -/
  count : Nat
  /-- each pair's scrambler; 4 x 58 bits; 07_link.md R217; reset all 1 -/
  scr : Vector Nat 4
  /-- the message blocks of each pair's codeword in progress; 07_link.md R218; reset empty -/
  word : Vector (List Blk) 4
  /-- data and control positions sent; 07_link.md R231; reset 0 -/
  sent : Nat
  /-- the link layer's own control blocks sent in this tick; 07_link.md R231; reset 0 -/
  own : Nat
  /-- `sent` at the last ACK; 07_link.md R231; reset none -/
  ackAt : Option Nat
  /-- `sent` at the last two CREDIT blocks, newest first; 07_link.md R231; reset empty -/
  credAt : List Nat
  /-- an ACK waits for its position; 1 bit; 07_link.md R231, R235; reset 0 -/
  ackDue : Bool
  /-- CREDIT blocks that wait for their positions, each by half its TUN_A; 07_link.md R231, R239; reset empty -/
  credDue : List Nat
  /-- the link layer's own control blocks that wait for a later tick's positions, oldest first; 07_link.md R231; reset empty -/
  ctlDue : List Nat
deriving DecidableEq, Repr

/-- The receiver of a host port's DOWN direction: lock, alignment and what it judges by (R221 to R226). -/
structure Align where
  /-- each pair's block offset; 4 x 7 bits; 07_link.md R222, R226; reset 0 -/
  phase : Vector Nat 4
  /-- the place of each pair's parity run in 55 blocks; 4 x 6 bits; 07_link.md R223, R226; reset 0 -/
  place : Vector Nat 4
  /-- pairs whose marker of the present group has come; 4 bits; 07_link.md R225; reset 0 -/
  got : Nat
  /-- pairs whose last codeword was uncorrectable; 4 bits; 07_link.md R221; reset 0 -/
  tailBad : Nat
deriving DecidableEq, Repr

/-- Receive settings of a pair: what a stored DOWN set holds at the hub (R189). -/
structure RxSet where
  /-- CTLE peaking; 6 bits; 06_lanes.md R189, R213; reset 0 -/
  ctle : Nat
  /-- gain step; 4 bits; 06_lanes.md R189, R213; reset 0 -/
  vga : Nat
  /-- the 12 feedback taps, whose form the spec does not give; 06_lanes.md R188, R189; reset 0 -/
  taps : Nat
deriving DecidableEq, Repr

/-- Transmit taps of a pair as LN_TXEQ holds them: what a stored UP set holds at the hub (R189). -/
structure TxSet where
  /-- c(-1); 6 bits; 06_lanes.md R189, R213; reset 0 -/
  m1 : Nat
  /-- c(0); 6 bits; 06_lanes.md R189, R213; reset 48 -/
  c0 : Nat
  /-- c(+1); 6 bits; 06_lanes.md R189, R213; reset 0 -/
  p1 : Nat
  /-- the last preset applied; 4 bits; 06_lanes.md R189, R213; reset 15 -/
  preset : Nat
deriving DecidableEq, Repr

/-- The hub's search for a far transmitter's taps (R193). -/
structure EqSearch where
  /-- 0 to 9 the preset asked for in the scan, 10 the best one, 11 a move, 12 its undoing, 13 ended; 06_lanes.md R193; reset 13 -/
  phase : Nat
  /-- the preset with the highest figure of merit; 06_lanes.md R193; reset 0 -/
  best : Nat
  /-- the figure of merit to beat; 8 bits; 06_lanes.md R193; reset 0 -/
  fom : Nat
  /-- moves asked for, at most 33; 06_lanes.md R193; reset 0 -/
  steps : Nat
  /-- moves of this round that gained; 06_lanes.md R193; reset 0 -/
  gain : Nat
  /-- the move of the round: 0 c(+1) INC, 1 c(+1) DEC, 2 c(-1) INC, 3 c(-1) DEC; 06_lanes.md R193; reset 0 -/
  move : Nat
  /-- REQ_ID of the request that waits for its outcome; 4 bits; 07_link.md R245; reset 0 -/
  id : Nat
deriving DecidableEq, Repr

/-- One host port's link (R215 to R261) and tunnels. -/
structure Link where
  /-- unacknowledged packets, oldest first; 256 KiB; 07_link.md R236; reset empty -/
  replay : List Packet
  /-- CONSUMED of each UP tunnel; 64 x 16 bits; 07_link.md R238; reset 0 -/
  consumed : Vector Nat 64
  /-- units received on each DOWN tunnel; 64 x 16 bits; 07_link.md R238, R240; reset 0 -/
  received : Vector Nat 64
  /-- LIMIT of each DOWN tunnel as freed buffer has raised it; 64 x 16 bits; 07_link.md R239; reset 0 -/
  limit : Vector Nat 64
  /-- packets that have arrived since the last ACK; 07_link.md R235; reset 0 -/
  arrived : Nat
  /-- good packets since the last ACK; 07_link.md R235; reset 0 -/
  unacked : Nat
  /-- TIME of the oldest of them; 64 bits; 07_link.md R235; reset 0 -/
  oldest : Nat
  /-- the SEQ x for which a NAK is out, and its TIME; 12 and 64 bits; 07_link.md R233, R235; reset none -/
  nakFor : Option (Nat × Nat)
  /-- consecutive replays without progress; 4 bits; 07_link.md R237; reset 0 -/
  replays : Nat
  /-- SEQ, replay and credit state held from a link that has not passed through DETECT; 1 bit; 07_link.md R246; reset 0 -/
  held : Bool
  /-- Caravan entered under SVID 0x2F5A; 1 bit; 07_link.md R248; reset 0 -/
  entered : Bool
  /-- REF failures in a row; 2 bits; 07_link.md R248; reset 0 -/
  refFails : Nat
  /-- greatest gear left for this attach; 2 bits; 07_link.md R248; reset 3 -/
  gearCap : Nat
  /-- the host's SPEED_CAP block; 64 bits; 07_link.md R246; reset none -/
  cap : Option Nat
  /-- RESUME set in the hub's SPEED_SEL; 1 bit; 07_link.md R246; reset 0 -/
  selResume : Bool
  /-- GEAR chosen in SPEED; 2 bits; 07_link.md R246; reset 0 -/
  selGear : Nat
  /-- FEC chosen in SPEED; 1 bit; 07_link.md R246; reset 0 -/
  selFec : Bool
  /-- the host's echo carries RESUME; 1 bit; 07_link.md R246; reset 0 -/
  echoResume : Bool
  /-- the host has echoed the SPEED_SEL; 1 bit; 07_link.md R248; reset 0 -/
  echoed : Bool
  /-- SPEED_SEL blocks with GO received from the host; 07_link.md R248; reset 0 -/
  goSeen : Nat
  /-- EQ phase: 0 A, 1 B; 07_link.md R248; reset 0 -/
  eqPhase : Nat
  /-- EQ_DONE blocks exchanged on each pair in this phase; 4 counts; 07_link.md R248; reset 0 -/
  eqCount : Vector Nat 4
  /-- pairs with block lock; 4 bits; 07_link.md R222; reset 0 -/
  blockLock : Nat
  /-- pairs with codeword lock; 4 bits; 07_link.md R223; reset 0 -/
  cwLock : Nat
  /-- pairs aligned by a marker (descrambler running); 4 bits; 07_link.md R217, R225; reset 0 -/
  aligned : Nat
  /-- pairs on which RECOVER has been received; 4 bits; 07_link.md R248; reset 0 -/
  recovering : Nat
  /-- REQ_ID of the last EQ request acted on, per pair; 4 x 4 bits; 07_link.md R245; reset none -/
  reqId : Vector (Option Nat) 4
  /-- departures of the PINGs that have no ECHO yet, by EXCH, in 0.25 ns; 07_link.md R247; reset none -/
  pings : List (Nat × Nat)
  /-- ECHO count and sum of (arrival - PING - turnaround) in 0.25 ns; 07_link.md R247; reset 0 -/
  latCount : Nat
  /-- the sum of that measurement; 07_link.md R247; reset 0 -/
  latSum : Nat
  /-- one-way latency measured since entry to BLOCK; 1 bit; 07_link.md R248; reset 0 -/
  latDone : Bool
  /-- COUNT and POS of the last ALIGN_MARKER of the DOWN direction; 48 bits; 07_link.md R225; reset none -/
  marker : Option Nat
  /-- qualified pairs; 4 bits; 06_lanes.md R201; reset 0 -/
  qualified : Nat
  /-- the turn announced or running; 07_link.md R250; reset none -/
  turn : Option Turn
  /-- times the present turn was cancelled; 4 bits; 07_link.md R252; reset 0 -/
  turnTries : Nat
  /-- TIME at which the link left the up states, none while up; 64 bits; 07_link.md R249; reset TIME 0 -/
  downSince : Option Nat
  /-- parked in SLEEP: the STATE held; 19_power_states.md R580; reset none -/
  parked : Option Nat
  /-- messages being assembled, by tunnel; 08_tunnels.md R264, R265; reset empty -/
  asm : List (Nat × Assembly)
  /-- replays queued: the packets still to send again; 07_link.md R237; reset 0 -/
  resend : List Packet
  /-- the reference runs on SBU1 and SBU2; 1 bit; 02_time.md R45; reset 0 -/
  ref : Bool
  /-- the transmitter of the UP direction; 07_link.md R217 to R231 -/
  tx : Stripe
  /-- the receiver of the DOWN direction; 07_link.md R221 to R226 -/
  rx : Align
  /-- transmit taps stored with each ball pair's UP set; 06_lanes.md R189, R190; reset 0, 48, 0 -/
  up : Vector TxSet 4
  /-- receive settings stored with each ball pair's DOWN set; 06_lanes.md R189; reset 0 -/
  down : Vector RxSet 4
  /-- the hub's search on each logical pair; 06_lanes.md R193 -/
  search : Vector EqSearch 4
  /-- a dropped pair's way back: 0 none, 1 equalised in its direction, 2 in the other, 3 qualifying; 4 x 2 bits; 07_link.md R257; reset 0 -/
  reEq : Vector Nat 4
deriving DecidableEq, Repr

/-- The eye scan and qualification of one pair or lane (R197 to R202). -/
structure EyeScan where
  /-- margins recorded in this round, 3 eyes x left, right, top, bottom; 12 x 7 bits; 06_lanes.md R197; reset 0 -/
  margins : Vector Nat 12
  /-- the margin now tested, 0 to 11; 06_lanes.md R197; reset 0 -/
  at_ : Nat
  /-- the next test is at the margin itself; 1 bit; 06_lanes.md R197; reset 0 -/
  retest : Bool
  /-- qualification retries; 5 bits; 06_lanes.md R202; reset 0 -/
  tries : Nat
  /-- consecutive rounds below warning; 7 bits; 20_oasis.md R613; reset 0 -/
  lowRounds : Nat
deriving DecidableEq, Repr

/-! ### Barchan -/

/-- What a queued item is (R298). -/
inductive QBody where
  /-- a Caravan packet: TUN, TYPE, TSF and flags (R262); `reply` names the agent and RESULT of a management reply whose
  status word is sampled when the packet leaves (R140) -/
  | cv (tun typ tsf : Nat) (posted last prio echo : Bool) (reply : Option (Nat × Nat))
  /-- an Ethernet frame from switch port `src`: on an external port's queue `stamp` names, by its number, a
  requested time stamp (R426); on a host-tunnel port's queue it is the ingress TIME, the external port and the TS_ID of an
  ingress report (R427) -/
  | eth (src : Nat) (stamp : Option (Nat × Nat × Nat))
  /-- a frame start on a field bus, by the number of its transaction (R457) -/
  | field (id : Nat)
deriving DecidableEq, Repr

/-- An item of a queue. -/
structure QItem where
  body : QBody
  bytes : List Byte
  /-- length of R302 before OVERHEAD: bytes, or ns of bus time on a field queue -/
  len : Nat
  /-- marked by a policer (R322) -/
  marked : Bool
  /-- its place in the order in which items joined their queues (R394) -/
  order : Nat
deriving DecidableEq, Repr

/-- Where a non-empty CAL queue waits (R303). -/
inductive Filing where
  | none
  | wheel (slot : Nat)
  | overflow
  | eligible
deriving DecidableEq, Repr

/-- The present statistics window of a queue (R323). -/
structure StatWin where
  /-- runs in this window; 16 bits; 09_barchan.md R323; reset 0 -/
  runs : Nat
  /-- least, greatest and summed depth; 09_barchan.md R323; reset 0 -/
  depth : Nat × Nat × Nat
  /-- least, greatest and summed delay; 09_barchan.md R323; reset 0 -/
  delay : Nat × Nat × Nat
  /-- the 16 bins; 09_barchan.md R323; reset 0 -/
  hist : Vector Nat 16
deriving DecidableEq, Repr

/-- One of Barchan's 340 queues. -/
structure BQueue where
  /-- queued packets, frames or transactions, oldest first; 09_barchan.md R298; reset empty -/
  items : List QItem
  /-- what the sources of an UP or field queue hold back while it is full or disabled, oldest first; 09_barchan.md R309, R312; reset empty -/
  back : List QItem
  /-- next eligible time E in 2^-16 ns; 80 bits; 09_barchan.md R303; reset 0 -/
  e : Nat
  /-- where the queue is filed; 09_barchan.md R303, R304; reset none -/
  filing : Filing
  /-- credit in 1/125,000 byte; signed; 09_barchan.md R305; reset 0 -/
  credit : Int
  /-- TIME at which that credit held; 64 bits; 09_barchan.md R305; reset 0 -/
  creditAt : Nat
  /-- TIME at which the head packet reached the head; 64 bits; 09_barchan.md R323; reset 0 -/
  headAt : Nat
  /-- bytes sent as excess, whose KiB EXCESS_KIB reports; 09_barchan.md R308, R326; reset 0 -/
  excess : Nat
  /-- deficits of the reserved and of the excess list; 09_barchan.md R307, R308; reset 0 -/
  deficit : Nat × Nat
  /-- the queue has had its QUANTUM since it reached the front of each list; 2 bits; 09_barchan.md R307; reset 0 -/
  fed : Bool × Bool
  win : StatWin
deriving DecidableEq, Repr

/-- One of the 128 policers' buckets (R321). -/
structure Policer where
  /-- tc in 1/125,000 byte; 09_barchan.md R321; reset 0 -/
  tc : Nat
  /-- tp in 1/125,000 byte; 09_barchan.md R321; reset 0 -/
  tp : Nat
  /-- TIME of the last metering; 64 bits; 09_barchan.md R321; reset 0 -/
  last : Nat
deriving DecidableEq, Repr

/-- Barchan. -/
structure Barchan where
  queues : Vector BQueue 340
  /-- items that have joined a queue; 12_storage.md R394; reset 0 -/
  joined : Nat
  pol : Vector Policer 128
  /-- the reserved lists: queue numbers in list order, the list of a stream and level being those of its queues; 09_barchan.md R307; reset empty -/
  orderR : List Nat
  /-- the excess lists, likewise; 09_barchan.md R307; reset empty -/
  orderE : List Nat
  /-- active pairs of each host port and direction as shedding takes them, since the last boundary; 8 x 3 bits, index 2h + d; 09_barchan.md R319; reset 0 -/
  width : Vector Nat 8
  /-- the DOWN map: DOWN queue of each tunnel, 0xFF none; 4 x 64 bytes; 09_barchan.md R300; reset 0 -/
  downMap : Vector (Vector Nat 64) 4
  /-- ETH_TUN: tunnel of each traffic class; 4 x 8 bytes; 09_barchan.md R300; reset 0 -/
  ethTun : Vector (Vector Nat 8) 4
deriving DecidableEq, Repr

/-! ### Sirocco -/

/-- A launch waiting to fire (R328, R330, R333). -/
structure Launch where
  /-- the TIME at which it fires: T, or A + 500 ns when it was missed under LATE -/
  at_ : Nat
  /-- T of its descriptor (R329) -/
  due : Nat
  action : Nat
  arg : Nat
  id : Nat
  /-- resource k it acts for -/
  res : Nat
  late : Bool
  /-- lateness in ns under R333 -/
  lateBy : Nat
  /-- greatest lateness in ns of an edge that has fired (R335) -/
  worst : Nat
  policyLate : Bool
  /-- LATE_LIMIT in slots, 0 none -/
  limit : Nat
  report : Bool
  agent : Nat
  /-- the TIME tunnel it came by; none for SR_SUBMIT -/
  tun : Option Nat
  /-- ticks its edges are counted in (R330) -/
  ticks : List Nat
  /-- order of acceptance (R335) -/
  order : Nat
deriving DecidableEq, Repr

/-- The FIFO of one capture-line group (R345). -/
structure CapFifo where
  /-- records held, oldest first, at most 128, as words W0 to W2; 10_sirocco.md R343, R345; reset empty -/
  recs : List (Nat × Nat × Nat)
  /-- records were lost since the last one stored; 1 bit; 10_sirocco.md R343, R345; reset 0 -/
  ovf : Bool
deriving DecidableEq, Repr

/-- Sirocco. -/
structure Sirocco where
  /-- filtered level of each capture line, none before its first edge; 10_sirocco.md R342; reset none, DESIGN CHOICE log entry 153 -/
  levels : Vector (Option Bool) 32
  /-- queued launches, at most 1,024; 10_sirocco.md R331, R333; reset empty -/
  queue : List Launch
  /-- pulses whose second edge is due, with its TIME and the launch; 10_sirocco.md R327, R333; reset empty -/
  seconds : List (Nat × Launch)
  /-- number of descriptors accepted; 10_sirocco.md R335; reset 0 -/
  accepted : Nat
  /-- levels driven on the launch lines; 32 bits; 10_sirocco.md R327; reset 0, high impedance with a pull-down -/
  lines : Nat
  /-- edges that R335 delays beyond the present TIME cycle: their instant, line and level; 10_sirocco.md R335, R336; reset empty -/
  later : List (Nat × Nat × Bool)
  /-- resource and tick of every edge that R330 counts; 10_sirocco.md R330, R333; reset empty -/
  edges : List (Nat × Nat)
  /-- last launch edge of each launch line: the TIME it was due and the TIME it fired; 32 x 2 x 64 bits; 10_sirocco.md R335; reset none -/
  lastEdge : Vector (Option (Nat × Nat)) 32
  /-- last stamp of each capture line in 0.5 ns; 32 x 65 bits; 10_sirocco.md R342; reset none -/
  lastStamp : Vector (Option Nat) 32
  caps : Vector CapFifo 4
  /-- frames of each head since its last genlock correction; 2 x 8 bits; 10_sirocco.md R346; reset 0 -/
  glFrames : Vector Nat 2
deriving DecidableEq, Repr

/-! ### Playa -/

/-- A map entry (R356): CUR, NEXT and STAGED. -/
structure MapEnt where
  cur : Nat
  next : Nat
  staged : Bool
deriving DecidableEq, Repr

/-- A grain message being written on a tunnel (R360 to R363). -/
structure GrainMsg where
  /-- the message was discarded: the rest of it is dropped up to LAST (R265) -/
  drop : Bool
  x : Nat
  surf : Nat
  gx : Nat
  gy : Nat
  enc : Nat
  grain : Nat
  /-- PIECE expected next -/
  piece : Nat
  /-- pixels written so far -/
  done : Nat
deriving DecidableEq, Repr

/-- An AUX transaction of the owner host in progress (R384). -/
structure AuxReq where
  cmd : Nat
  addr : Nat
  len : Nat
  defers : Nat
  misses : Nat
deriving DecidableEq, Repr

/-- A band in a band buffer: its number, and what it was composed from: FRAME-class words, map, pixels and blocks in error (R371). -/
structure Band where
  band : Nat
  shown : List (Nat × Word)
  map : List (Nat × MapEnt)
  pixels : List (Nat × Word)
  bad : List Nat
deriving DecidableEq, Repr

/-- Playa. -/
structure Playa where
  /-- pixel of grain G at 4,096 x G + index, unlisted 0; 6,144 x 16 KiB; 11_playa.md R350; reset 0, DESIGN CHOICE log entry 14 -/
  pixels : List (Nat × Word)
  /-- writer tag of each grain, 7 nobody; 11_playa.md R353; reset 7, DESIGN CHOICE log entry 14 -/
  tags : List (Nat × Nat)
  /-- free grains of each pool, front first; 11_playa.md R352; reset empty -/
  free : Vector (List Nat) 2
  /-- map entries of each head, unlisted 0x1FFF, 0x1FFF, not staged; 11_playa.md R356, R387; reset unlisted -/
  maps : Vector (List (Nat × MapEnt)) 2
  /-- grain messages in progress, by 64 x host + tunnel; 11_playa.md R361; reset empty -/
  msgs : List (Nat × GrainMsg)
  /-- grain messages started in this tick, by 64 x host + tunnel; 11_playa.md R362; reset 0 -/
  started : List (Nat × Nat)
  /-- FRAME-class words in force (layers, palettes, HD_BG) by register key, unlisted 0; 11_playa.md R375, R387; reset ALPHA 255 -/
  shown : Vector (List (Nat × Word)) 2
  /-- commit points passed with the wait unmet; 2 x 8 bits; 11_playa.md R376; reset 0 -/
  waits : Vector Nat 2
  /-- the commit was taken at the last commit point; 2 x 1 bit; 11_playa.md R375; reset 0 -/
  taken : Vector Bool 2
  /-- TIME at which vertical blanking last started; 2 x 64 bits; 11_playa.md R370; reset 0 -/
  vbAt : Vector Nat 2
  /-- lines and pixels that genlock adds to this blanking; 10_sirocco.md R346; reset 0 -/
  glAdj : Vector (Int × Int) 2
  /-- DPCD 0x00000 to 0x0000F of the sink as last read; 2 x 16 bytes; 11_playa.md R383; reset empty -/
  sink : Vector (List Byte) 2
  /-- training candidate in use; 11_playa.md R381, R383; reset 0 -/
  cand : Vector Nat 2
  /-- reads made in this training phase (at this swing in CR); 11_playa.md R383; reset 0 -/
  reads : Vector Nat 2
  /-- 64-byte blocks of grain memory that hold an uncorrectable error, by 256 x grain + block; 11_playa.md R354; reset empty -/
  bad : List Nat
  /-- what the band buffers of each head were composed from, newest first, at most three; 11_playa.md R371; reset empty -/
  bands : Vector (List Band) 2
  /-- the band of this frame that each head composes next; 11_playa.md R371; reset 0 -/
  nextBand : Vector Nat 2
  /-- the head's own AUX writes that wait for the host's transaction: address and bytes; 11_playa.md R384; reset empty -/
  auxOwn : Vector (List (Nat × List Nat)) 2
  /-- the host's AUX transaction in progress; 11_playa.md R384; reset none -/
  aux : Vector (Option AuxReq) 2
deriving DecidableEq, Repr

/-! ### PCI Express -/

/-- One PCI Express port (R388 to R405). -/
structure PcPort where
  /-- configuration space of the virtual downstream port by doubleword number, unlisted 0; 4 KiB; 12_storage.md R390; reset PRESUMED the standard's defaults, log entry 15 -/
  cfg : List (Nat × Word)
  /-- bus number captured from the first Type 0 write; 1 bit; 12_storage.md R389; reset 0 -/
  captured : Bool
  /-- causes of R401 in force, latest first; 12_storage.md R401; reset empty -/
  causes : List Nat
  /-- the reset actions of R402 begun since the containment: Secondary Bus Reset, Link Disable, PERST_FORCE, removal; 4 bits; 12_storage.md R402; reset 0 -/
  begun : Bool × Bool × Bool × Bool
  /-- a port reset was made, and DL_Up completes it; 1 bit; 12_storage.md R402; reset 0 -/
  due : Bool
  /-- the deadline of R405 runs; 1 bit; 12_storage.md R405; reset 0 -/
  deadline : Bool
  /-- the deadline has expired and the owner has not reset the port; 1 bit; 12_storage.md R399, R405; reset 0 -/
  expired : Bool
deriving DecidableEq, Repr

/-! ### Oasis -/

/-- The supply of the main die (R643 to R645). -/
structure Rails where
  /-- rails inside their windows: bit 0 VHAM_IN, bit 1 + i the rail of PWR_EN_i; 7 bits; 22_electrical.md R643; reset all -/
  valid : Nat
  /-- PWR_EN_0 to PWR_EN_5 driven high; 6 bits; 22_electrical.md R644; reset all -/
  en : Nat
  /-- CORE_VID duty in 1/40; 6 bits; 22_electrical.md R645; reset 30 -/
  vid : Nat
  /-- WAKE_EN as it stood at entry to OFF; 7 bits, bit c - 2 for source c; 19_power_states.md R588, R591; reset 0 -/
  wakeEn : Nat
  /-- ticks that the PDA domain of the Hamada die has counted on its own; the model's own counter (log entry 146); reset 0 -/
  hamada : Nat
deriving DecidableEq, Repr

/-- Oasis beside its registers. -/
structure Oasis where
  /-- failures in a row of the present word of each direction, main to Hamada first; 2 counts; 01_architecture.md R12; reset 0 -/
  bridge : Vector Nat 2
  /-- tick at which a word last needed a second retry; 20_oasis.md R622; reset none -/
  bridgeAt : Option Nat
  /-- channels shed, released one per tick boundary after shedding ends; 20_oasis.md R603, R604; reset 0 -/
  releasing : Bool
  /-- tick of the last FATAL error of each isolation unit; 20_oasis.md R611; reset none -/
  fatalAt : Vector (Option Nat) 24
  /-- tick at which each unit last left isolation; 18_reset.md R573; reset none -/
  leftAt : Vector (Option Nat) 24
  /-- attach counts already added to the lifetime counts; 20_oasis.md R613; reset 0 -/
  attSeen : Vector Nat 4
  /-- CV_CORR_SYM of each port as sampled, with the tick, newest first; 20_oasis.md R613; reset empty -/
  symSeen : Vector (List (Nat × Nat)) 4
  /-- service thresholds already crossed, as (notice, instance); 20_oasis.md R618; reset empty -/
  crossed : List (Nat × Nat)
  /-- rows repaired: array, row, spare row; in the keep domain; 20_oasis.md R599; reset empty -/
  repairs : List (Nat × Nat × Nat)
  /-- spare rows marked bad: array, spare; 20_oasis.md R599; reset empty -/
  badSpares : List (Nat × Nat)
  /-- corrected errors of a row in the last four scrub passes, by array and row; 20_oasis.md R598; reset empty -/
  scrubs : List ((Nat × Nat) × Nat)
  /-- repairs queued, oldest first, at most 8 per array; 20_oasis.md R599; reset empty -/
  repairQ : List (Nat × Nat)
  /-- a wear record is to be written; 20_oasis.md R619; reset 0 -/
  recordDue : Bool
  /-- tick of the last wear record; 20_oasis.md R619; reset 0 -/
  recordAt : Nat
  /-- sector and offset of the last wear record in its ring; 20_oasis.md R619; reset none -/
  recordPos : Option Nat
  /-- equivalent hours in 2^-32 of 1/16 h, and hot time in ticks, not yet a whole 1/16 h; 20_oasis.md R615; reset 0 -/
  ageFrac : Nat × Nat
  /-- PDA tick at which LOCAL_OK last rose; 20_oasis.md R602; reset 0 -/
  okSince : Nat
deriving DecidableEq, Repr

/-! ### Ethernet -/

/-- A forwarding-table entry (R416). -/
structure FdbEnt where
  vid : Nat
  mac : Nat
  port : Nat
  /-- TIME at which it was last learnt -/
  time : Nat
deriving DecidableEq, Repr

/-- A time stamp that a host asked for, while copies of its frame wait on external ports (R426). -/
structure StampWait where
  key : Nat
  host : Nat
  tunnel : Nat
  id : Nat
  /-- external ports on which a copy still waits; 4 bits -/
  ports : Nat
  /-- the lowest external port on which the frame has left, and its stamp -/
  best : Option (Nat × Nat)
deriving DecidableEq, Repr

/-- The switch, its gates and its gPTP ports. -/
structure Eth where
  /-- forwarding table, at most 4,096 entries; 13_ethernet.md R416; reset empty -/
  fdb : List FdbEnt
  /-- operative list of each external port and the TIME at which its entry 0 started; 13_ethernet.md R421; reset none -/
  oper : Vector (Option (Nat × Nat)) 4
  /-- good peer-delay exchanges in a row on each external port; 13_ethernet.md R428; reset 0 -/
  good : Vector Nat 4
  /-- stamps asked for whose frames have not left on every port that can decide them; 13_ethernet.md R426; reset empty -/
  stamps : List StampWait
  /-- number of the next requested stamp; the model's own counter; reset 0 -/
  stampNext : Nat
  /-- class and end of the frame last started on each external port; 13_ethernet.md R422; reset none -/
  busy : Vector (Option (Nat × Nat)) 4
  /-- sequenceId of each gPTP port's next Pdelay_Req; 16 bits; 13_ethernet.md R428; reset 0, DESIGN CHOICE log entry 151 -/
  pdSeq : Vector Nat 4
  /-- TIME at which each gPTP port's next Pdelay exchange is due; 13_ethernet.md R428; reset 0 -/
  pdNext : Vector Nat 4
deriving DecidableEq, Repr

/-! ### USB -/

/-- A face's view of one of its nine ports, as hub-class status and change words (R435). -/
structure View where
  /-- wPortStatus: 0 CONNECTION, 1 ENABLE, 2 SUSPEND, 3 OVER_CURRENT, 4 RESET, 5 L1, 8 POWER, 9 LOW_SPEED, 10 HIGH_SPEED -/
  st : Nat
  /-- wPortChange: 0 C_CONNECTION, 1 C_ENABLE, 2 C_SUSPEND, 3 C_OVER_CURRENT, 4 C_RESET -/
  chg : Nat
deriving DecidableEq, Repr

/-- The last EP3 report delivered (R450). -/
structure Ep3 where
  /-- reports delivered, modulo 256 -/
  count : Nat
  /-- W0[23:0], the owned mask and the tick of the last report; none after a function reset -/
  last : Option (Nat × Nat × Nat)
deriving DecidableEq, Repr

/-- The buffers of a management function in its endpoint RAM (R447). -/
structure EpBufs where
  /-- EP0, 64 bytes: the last data packet -/
  ep0 : List Byte
  /-- EP1, 512 bytes: the packet that stays while the arbiter holds its frame (R448) -/
  ep1 : List Byte
  /-- EP2, 512 bytes: the last packet of a reply -/
  ep2 : List Byte
  /-- EP3, 16 bytes: the last report -/
  ep3 : List Byte
deriving DecidableEq, Repr

/-- The USB hub beside its registers. -/
structure Usb where
  /-- views of ports 1 to 9 of each face; 14_usb.md R435; reset nothing set -/
  views : Vector (Vector View 9) 4
  /-- bytes of a command frame partly received on EP1; 14_usb.md R448; reset empty -/
  part : Vector (List Byte) 4
  /-- interrupt reports; 14_usb.md R450; reset none delivered -/
  ep3 : Vector Ep3 4
  /-- STATE and MF_STATE before suspend or L1; 14_usb.md R455; reset 0 -/
  before : Vector (Nat × Nat) 4
  /-- an ALWAYS-mode port waits for its over-current retry; 14_usb.md R439; reset 0 -/
  ocWait : Vector Bool 8
  /-- transactions that each face's translators hold for each port, periodic and non-periodic; 14_usb.md R433, R442; reset 0 -/
  tt : Vector (Vector (Nat × Nat) 8) 4
  /-- endpoint RAM of each function; 14_usb.md R447; reset empty -/
  bufs : Vector EpBufs 4
  /-- remote wake enabled, of each face's function and hub; 14_usb.md R446, R452; reset 0 -/
  wakeEn : Vector (Bool × Bool) 4
  /-- the K that a face drives: the port from 0 whose wake it passes on, 8 for the function, and TIME in ns at which its 2 ms end; 14_usb.md R443,
  R444; reset none -/
  driven : Vector (Option (Nat × Nat)) 4
deriving DecidableEq, Repr

/-! ### Wadi -/

/-- A transaction of the field window (R457 to R464). -/
structure FieldTxn where
  id : Nat
  agent : Nat
  tag : Nat
  write : Bool
  posted : Bool
  addr : Nat
  bytes : List Byte
  /-- the transaction with KEEP, of the same agent, that it follows (R465) -/
  follower : Option Nat
  /-- nobody waits for its completion any more: it was aborted or timed out (R127, R292) -/
  orphan : Bool
deriving DecidableEq, Repr

/-- A bus held after a transaction with KEEP: the transaction, its agent, the chip select, and TIME of its end (R465). -/
structure FieldKeep where
  id : Nat
  agent : Nat
  cs : Nat
  at_ : Nat
deriving DecidableEq, Repr

/-- A received record: its words, its size in the unit of FILL and TIME of its arrival (R474, R475). -/
structure RxRec where
  words : List Word
  size : Nat
  at_ : Nat
deriving DecidableEq, Repr

/-- One field bus. -/
structure FieldBus where
  /-- accepted and not started, oldest first; 15_wadi.md R462; reset empty -/
  queue : List FieldTxn
  /-- the transfer in progress; 15_wadi.md R462; reset none -/
  cur : Option FieldTxn
  /-- released held frames that wait for the transfer in progress; 10_sirocco.md R327, 15_wadi.md R468; reset empty -/
  launched : List FieldTxn
  /-- the bus is kept for a follower; 15_wadi.md R465; reset none -/
  keep : Option FieldKeep
  /-- the agent and the number of the last transaction accepted or released, where it has KEEP set; 15_wadi.md R465; reset none -/
  prevKeep : Option (Nat × Nat)
  /-- held frames with their HOLD_ID, at most 8; 15_wadi.md R467, R468; reset empty -/
  held : List (Nat × FieldTxn)
  /-- received records, oldest first; 15_wadi.md R474; reset empty -/
  rx : List RxRec
  /-- transactions numbered so far, the model's own; reset 0 -/
  next : Nat
deriving DecidableEq, Repr

/-- A module slot beside its registers. -/
structure ModSlot where
  /-- PRESENT was found asserted at an earlier run; 15_wadi.md R488; reset 0 -/
  ready : Bool
  /-- the piece to read next, 0 to 7; 15_wadi.md R488; reset 0 -/
  piece : Nat
  /-- failed pieces in a row; 15_wadi.md R491; reset 0 -/
  fails : Nat
  /-- CRC and SERIAL of the record last accepted, in the Hamada keep domain; 15_wadi.md R490; reset none -/
  digest : Option (Nat × Nat)
  /-- the clearance kept through a warm reset awaits its first identity check or poll; 18_reset.md R563; reset 0 -/
  confirm : Bool
  /-- poll runs that wait for the transaction in progress on the slot's bus, with what their reads will find; 15_wadi.md R483; reset empty -/
  waits : List (Option (BitVec 8) × Option (BitVec 128))
deriving DecidableEq, Repr

/-- Wadi beside its registers. -/
structure Wadi where
  buses : Vector FieldBus 20
  /-- posted-write error log of each host, at most 16 entries of four words, oldest first; 15_wadi.md R472; reset empty -/
  perr : Vector (List (List Word)) 4
  /-- levels driven on the general lines; 32 bits; 15_wadi.md R460; reset 0, high impedance with a pull-down -/
  gp : Nat
  mods : Vector ModSlot 8
deriving DecidableEq, Repr

/-! ### Type-C and power delivery -/

/-- What a Type-C port awaits (R521, R522). -/
inductive PdWait where
  | nothing
  /-- Request, after Source_Capabilities -/
  | request
  /-- Source_Capabilities, as sink -/
  | caps
  /-- Accept of the hub's Request -/
  | accept
  /-- PS_RDY of the new contract -/
  | psRdy
  /-- Accept of a swap the hub sent: 0 PR, 1 DR, 2 VCONN, 3 FR -/
  | swap (kind : Nat)
  /-- PS_RDY of a swap accepted by either end, likewise -/
  | swapRdy (kind : Nat)
  /-- Accept of a Soft Reset -/
  | soft
  /-- the cable's response on SOP′ -/
  | cable
  /-- the answer to EPR_Mode Enter -/
  | epr
  /-- Sink_Capabilities -/
  | sinkCaps
deriving DecidableEq, Repr

/-- An exchange the hub is still to begin after a contract. -/
inductive PdAct where
  /-- DR_Swap to UFP or the other role -/
  | dr
  /-- PR_Swap: by R517, or by TC_CTRL.SWAP_PR -/
  | pr (auto : Bool)
  /-- VCONN_Swap -/
  | vconn
  /-- become VCONN source and discover the cable -/
  | cable
  /-- Get_Sink_Cap, for the Fast Role Swap field -/
  | sinkCaps
  /-- enter EPR mode as sink -/
  | epr
deriving DecidableEq, Repr

/-- A Type-C port beside its registers. -/
structure TcPort where
  /-- Rp is presented while UNATTACHED; 1 bit; 16_typec_pd.md R500, R503; reset 0, Rd -/
  rp : Bool
  /-- the partner's termination on CC1 and CC2: 0 open, 1 Ra, 2 Rd, 3 Rp; 16_typec_pd.md R500; reset open -/
  cc : Nat × Nat
  /-- TC_p_SRC_EN; 1 bit; 16_typec_pd.md R496; reset 0 -/
  srcEn : Bool
  /-- TC_p_SNK_EN; 1 bit; 16_typec_pd.md R496, R499; reset 0 -/
  snkEn : Bool
  /-- TC_p_BOOST_EN; 1 bit; 16_typec_pd.md R496, R499; reset 0 -/
  boostEn : Bool
  /-- power role taken at attach, 1 source; 16_typec_pd.md R527; reset 0 -/
  attachPr : Bool
  /-- what is awaited; 16_typec_pd.md R521; reset nothing -/
  wait : PdWait
  /-- exchanges still to begin, in order; 16_typec_pd.md R509, R517, R519; reset empty -/
  todo : List PdAct
  /-- an exchange to begin again, and the tick it is due at; 16_typec_pd.md R528; reset none -/
  retry : Option (PdAct × Nat)
  /-- the request accepted, whose voltage transition runs; 16_typec_pd.md R516, R525; reset none -/
  trans : Option Nat
  /-- source objects last sent; 16_typec_pd.md R516; reset empty -/
  offered : List Word
  /-- the first contract of this attach has been reached; 1 bit; 16_typec_pd.md R509; reset 0 -/
  first : Bool
  /-- PR_Swap of R517 was tried in this attach; 1 bit; 16_typec_pd.md R517; reset 0 -/
  autoTried : Bool
  /-- 1 while a Soft Reset awaits Accept, 2 until the first exchange after it is answered; 16_typec_pd.md R522; reset 0 -/
  soft : Nat
  /-- a Hard Reset was made and no contract has been reached since; 1 bit; 16_typec_pd.md R522; reset 0 -/
  hard : Bool
  /-- Hard Resets that failed; 16_typec_pd.md R522; reset 0 -/
  hardFails : Nat
  /-- dry moisture tests in a row; 16_typec_pd.md R506; reset 0 -/
  dry : Nat
  /-- VCONN over-current: no SOP′ message until the next attach; 1 bit; 16_typec_pd.md R504; reset 0 -/
  vconnOcp : Bool
  /-- tick of the last Request; 16_typec_pd.md R516; reset 0 -/
  reqTick : Nat
  /-- a fast role swap was signalled and the new source holds the bus; 1 bit; 16_typec_pd.md R520; reset 0 -/
  frs : Bool
  /-- the Fast Role Swap field of the partner's Sink_Capabilities; 2 bits; 16_typec_pd.md R519, R520; reset 0 -/
  frsField : Nat
  /-- MessageID of the next message; 3 bits; PD 3.1, PRESUMED log entry 16; reset 0 -/
  msgId : Nat
  /-- the partner speaks Specification Revision 2.0; 1 bit; 16_typec_pd.md R502, R507; reset 0 -/
  rev2 : Bool
  /-- the partner's capabilities say dual-role power; 1 bit; 16_typec_pd.md R517; reset 0 -/
  dual : Bool
  /-- the PR_Swap under way is that of R517; 1 bit; 16_typec_pd.md R517, R528; reset 0 -/
  autoNow : Bool
  /-- a Reject or Wait has ended the attempt of R517; 1 bit; 16_typec_pd.md R517, R527; reset 0 -/
  autoOver : Bool
  /-- VBUS has collapsed during a transition as sink; 1 bit; 16_typec_pd.md R526; reset 0 -/
  lost : Bool
  /-- the extended message whose chunks the partner may still ask for: type and data; 16_typec_pd.md R507; reset none -/
  chunk : Option (Nat × List Byte)
  /-- the Rp level last seen as sink: 0 none, 1 default, 2 1.5 A, 3 3.0 A; 16_typec_pd.md R528, R531; reset 0 -/
  seen : Nat
  /-- BIST test data mode: nothing but GoodCRC leaves; 1 bit; 16_typec_pd.md R507; reset 0 -/
  bist : Bool
deriving DecidableEq, Repr

/-! ### E-fuse channels -/

/-- An e-fuse channel beside its registers. -/
structure EfChan where
  /-- VIN lies from VIN_MIN to VIN_MAX; 1 bit; 17_efuse.md R540; reset 0 -/
  vinOk : Bool
  /-- EF_c_GATE_A and EF_c_GATE_B driven; 2 bits; 17_efuse.md R533, R553; reset off -/
  gateA : Bool
  /-- gate B -/
  gateB : Bool
  /-- slew control has ended and the ramping gate is driven to full; 1 bit; 17_efuse.md R542; reset 0 -/
  full : Bool
  /-- a path was switched in this turn-on; 1 bit; 17_efuse.md R546; reset 0 -/
  switched : Bool
  /-- paths marked GATE_STUCK or DEGRADED_FET, bit 0 A, bit 1 B; 17_efuse.md R547; reset 0 -/
  bad : Nat
  /-- power-good has dropped because VOUT left the window, and the PG_LOST timer runs; 1 bit; 17_efuse.md R545; reset 0 -/
  pgOut : Bool
  /-- the reverse condition holds; 1 bit; 17_efuse.md R550; reset 0 -/
  reverse : Bool
  /-- thermal terms in degC; 17_efuse.md R551; reset 0 -/
  terms : Rat × Rat × Rat
  /-- FET temperature in degC; 17_efuse.md R551; reset 0 -/
  temp : Rat
  /-- thermal-cycle counting: last minimum, and the maximum that followed a rise of 30 degC; 20_oasis.md R616; reset 0, none -/
  cycle : Rat × Option Rat
  /-- AUTO_ON has been taken since the cold reset; 1 bit; 17_efuse.md R553; reset 0 -/
  autoDone : Bool
  /-- PDA tick of the last entry to a state, or of the restart of a ramp; 17_efuse.md R541, R547, R549; reset 0 -/
  since : Nat
  /-- PDA tick at which the driven gate was last put to full drive; 17_efuse.md R542, R546; reset 0 -/
  fullAt : Nat
  /-- after a path switch in ON, the PDA tick at which the failing gate turns off; 17_efuse.md R547; reset none -/
  leave : Option Nat
  /-- PDA tick of the last step of the thermal model; 17_efuse.md R552; reset 0 -/
  stepAt : Nat
deriving DecidableEq, Repr

end Sys2Proof.Machine
end

