-- ==== Sys2Proof/Machine/ResetRegs.lean ====
section
/-! DEFINITION. Machine/ResetRegs.lean: the registers whose value after a power-on reset is not 0, from the Reset
columns of the register tables (R629) and the defaults of R515 and R553; every other register reads 0. -/
namespace Sys2Proof.Machine

/-- Piece 0 of the reset list. -/
def resetRegs0 : List (Nat × BitVec 32) :=
  [(0x0, 0x5A489640#32),
   (0x14, 0x1#32),
   (0x10024, 0x6#32),
   (0x1002C, 0x346DC5D#32),
   (0x10034, 0x640A04#32),
   (0x10038, 0x3E85DC0#32),
   (0x300E0, 0x10008#32),
   (0x40004, 0x320#32),
   (0x200004, 0x68808#32),
   (0x20000C, 0xC090806#32),
   (0x200010, 0x11418#32),
   (0x200104, 0xF003000#32),
   (0x200118, 0x14000000#32),
   (0x200144, 0xF003000#32),
   (0x200158, 0x14000000#32),
   (0x200184, 0xF003000#32),
   (0x200198, 0x14000000#32),
   (0x2001C4, 0xF003000#32),
   (0x2001D8, 0x14000000#32),
   (0x208004, 0x68808#32),
   (0x20800C, 0xC090806#32),
   (0x208010, 0x11418#32),
   (0x208104, 0xF003000#32),
   (0x208118, 0x14000000#32),
   (0x208144, 0xF003000#32),
   (0x208158, 0x14000000#32),
   (0x208184, 0xF003000#32),
   (0x208198, 0x14000000#32),
   (0x2081C4, 0xF003000#32),
   (0x2081D8, 0x14000000#32),
   (0x210004, 0x68808#32),
   (0x21000C, 0xC090806#32),
   (0x210010, 0x11418#32),
   (0x210104, 0xF003000#32),
   (0x210118, 0x14000000#32),
   (0x210144, 0xF003000#32),
   (0x210158, 0x14000000#32),
   (0x210184, 0xF003000#32),
   (0x210198, 0x14000000#32),
   (0x2101C4, 0xF003000#32)]

/-- Piece 1 of the reset list. -/
def resetRegs1 : List (Nat × BitVec 32) :=
  [(0x2101D8, 0x14000000#32),
   (0x218004, 0x68808#32),
   (0x21800C, 0xC090806#32),
   (0x218010, 0x11418#32),
   (0x218104, 0xF003000#32),
   (0x218118, 0x14000000#32),
   (0x218144, 0xF003000#32),
   (0x218158, 0x14000000#32),
   (0x218184, 0xF003000#32),
   (0x218198, 0x14000000#32),
   (0x2181C4, 0xF003000#32),
   (0x2181D8, 0x14000000#32),
   (0x220004, 0x68808#32),
   (0x22000C, 0xC090806#32),
   (0x220010, 0x11418#32),
   (0x220104, 0xF003000#32),
   (0x220118, 0x14000000#32),
   (0x220144, 0xF003000#32),
   (0x220158, 0x14000000#32),
   (0x220184, 0xF003000#32),
   (0x220198, 0x14000000#32),
   (0x2201C4, 0xF003000#32),
   (0x2201D8, 0x14000000#32),
   (0x228004, 0x68808#32),
   (0x22800C, 0xC090806#32),
   (0x228010, 0x11418#32),
   (0x228104, 0xF003000#32),
   (0x228118, 0x14000000#32),
   (0x228144, 0xF003000#32),
   (0x228158, 0x14000000#32),
   (0x228184, 0xF003000#32),
   (0x228198, 0x14000000#32),
   (0x2281C4, 0xF003000#32),
   (0x2281D8, 0x14000000#32),
   (0x230004, 0x68808#32),
   (0x23000C, 0xC090806#32),
   (0x230010, 0x11418#32),
   (0x230104, 0xF003000#32),
   (0x230118, 0x14000000#32),
   (0x230144, 0xF003000#32)]

/-- Piece 2 of the reset list. -/
def resetRegs2 : List (Nat × BitVec 32) :=
  [(0x230158, 0x14000000#32),
   (0x230184, 0xF003000#32),
   (0x230198, 0x14000000#32),
   (0x2301C4, 0xF003000#32),
   (0x2301D8, 0x14000000#32),
   (0x238004, 0x68808#32),
   (0x23800C, 0xC090806#32),
   (0x238010, 0x11418#32),
   (0x238104, 0xF003000#32),
   (0x238118, 0x14000000#32),
   (0x238144, 0xF003000#32),
   (0x238158, 0x14000000#32),
   (0x238184, 0xF003000#32),
   (0x238198, 0x14000000#32),
   (0x2381C4, 0xF003000#32),
   (0x2381D8, 0x14000000#32),
   (0x240004, 0x68808#32),
   (0x24000C, 0xC090806#32),
   (0x240010, 0x11418#32),
   (0x240104, 0xF003000#32),
   (0x240118, 0x14000000#32),
   (0x240144, 0xF003000#32),
   (0x240158, 0x14000000#32),
   (0x240184, 0xF003000#32),
   (0x240198, 0x14000000#32),
   (0x2401C4, 0xF003000#32),
   (0x2401D8, 0x14000000#32),
   (0x300020, 0x600008#32),
   (0x340400, 0x100#32),
   (0x340440, 0x100#32),
   (0x340480, 0x100#32),
   (0x3404C0, 0x100#32),
   (0x340600, 0x40010#32),
   (0x340620, 0x40010#32),
   (0x410080, 0x43#32),
   (0x410100, 0xFF0000#32),
   (0x410120, 0xFF0000#32),
   (0x410140, 0xFF0000#32),
   (0x410160, 0xFF0000#32),
   (0x410180, 0xFF0000#32)]

/-- Piece 3 of the reset list. -/
def resetRegs3 : List (Nat × BitVec 32) :=
  [(0x4101A0, 0xFF0000#32),
   (0x4101C0, 0xFF0000#32),
   (0x4101E0, 0xFF0000#32),
   (0x420080, 0x43#32),
   (0x420100, 0xFF0000#32),
   (0x420120, 0xFF0000#32),
   (0x420140, 0xFF0000#32),
   (0x420160, 0xFF0000#32),
   (0x420180, 0xFF0000#32),
   (0x4201A0, 0xFF0000#32),
   (0x4201C0, 0xFF0000#32),
   (0x4201E0, 0xFF0000#32),
   (0x500000, 0x3200F00#32),
   (0x500004, 0x200#32),
   (0x500030, 0x96400000#32),
   (0x501000, 0x3200F00#32),
   (0x501004, 0x200#32),
   (0x501030, 0x96400000#32),
   (0x600008, 0x12C#32),
   (0x604000, 0x3200000#32),
   (0x604040, 0x3200000#32),
   (0x604080, 0x3200000#32),
   (0x6040C0, 0x3200000#32),
   (0x700000, 0x1#32),
   (0x700004, 0x32#32),
   (0x700100, 0x3#32),
   (0x700140, 0x3#32),
   (0x700180, 0x3#32),
   (0x7001C0, 0x3#32),
   (0x801000, 0x1#32),
   (0x80100C, 0x10000#32),
   (0x801100, 0x1#32),
   (0x80110C, 0x10000#32),
   (0x801200, 0x1#32),
   (0x80120C, 0x10000#32),
   (0x801300, 0x1#32),
   (0x80130C, 0x10000#32),
   (0x801400, 0x1#32),
   (0x80140C, 0x10000#32),
   (0x801500, 0x1#32)]

/-- Piece 4 of the reset list. -/
def resetRegs4 : List (Nat × BitVec 32) :=
  [(0x80150C, 0x10000#32),
   (0x801600, 0x1#32),
   (0x80160C, 0x10000#32),
   (0x801700, 0x1#32),
   (0x80170C, 0x10000#32),
   (0x801800, 0x1#32),
   (0x80180C, 0x10000#32),
   (0x801900, 0x1#32),
   (0x80190C, 0x10000#32),
   (0x801A00, 0x1#32),
   (0x801A0C, 0x10000#32),
   (0x801B00, 0x1#32),
   (0x801B0C, 0x10000#32),
   (0x801C00, 0x1#32),
   (0x801C0C, 0x10000#32),
   (0x801D00, 0x1#32),
   (0x801D0C, 0x10000#32),
   (0x801E00, 0x1#32),
   (0x801E0C, 0x10000#32),
   (0x801F00, 0x1#32),
   (0x801F0C, 0x10000#32),
   (0x802000, 0x1#32),
   (0x80200C, 0x10000#32),
   (0x802100, 0x1#32),
   (0x80210C, 0x10000#32),
   (0x802200, 0x1#32),
   (0x80220C, 0x10000#32),
   (0x802300, 0x1#32),
   (0x80230C, 0x10000#32),
   (0x900000, 0x1#32),
   (0x900008, 0x3000000#32),
   (0x900010, 0x4#32),
   (0x90001C, 0xFFFF#32),
   (0x900044, 0x32061B#32),
   (0x90004C, 0x19000#32),
   (0x900078, 0x1905A#32),
   (0x90007C, 0x2D12C#32),
   (0x900080, 0x4B12C#32),
   (0x900084, 0x6412C#32),
   (0x901000, 0x1#32)]

/-- Piece 5 of the reset list. -/
def resetRegs5 : List (Nat × BitVec 32) :=
  [(0x901008, 0x3000000#32),
   (0x901010, 0x4#32),
   (0x90101C, 0xFFFF#32),
   (0x901044, 0x32061B#32),
   (0x90104C, 0x19000#32),
   (0x901078, 0x1905A#32),
   (0x90107C, 0x2D12C#32),
   (0x901080, 0x4B12C#32),
   (0x901084, 0x6412C#32),
   (0x902000, 0x1#32),
   (0x902008, 0x3000000#32),
   (0x902010, 0x4#32),
   (0x90201C, 0xFFFF#32),
   (0x902044, 0x32061B#32),
   (0x90204C, 0x19000#32),
   (0x902078, 0x1905A#32),
   (0x90207C, 0x2D12C#32),
   (0x902080, 0x4B12C#32),
   (0x902084, 0x6412C#32),
   (0x903000, 0x1#32),
   (0x903008, 0x3000000#32),
   (0x903010, 0x4#32),
   (0x90301C, 0xFFFF#32),
   (0x903044, 0x32061B#32),
   (0x90304C, 0x19000#32),
   (0x903078, 0x1905A#32),
   (0x90307C, 0x2D12C#32),
   (0x903080, 0x4B12C#32),
   (0x903084, 0x6412C#32),
   (0x90F000, 0x7#32),
   (0xB00008, 0x1388081F#32),
   (0xB0000C, 0xC350#32),
   (0xB00010, 0xF4240#32),
   (0xB00014, 0x1F400000#32)]

/-- The registers that are not 0 after a power-on reset. -/
def resetRegs : List (Nat × BitVec 32) :=
  resetRegs0 ++ resetRegs1 ++ resetRegs2 ++ resetRegs3 ++ resetRegs4 ++ resetRegs5

end Sys2Proof.Machine
end

