-- ==== Sys2Proof/Machine/State.lean ====
section
/-! DEFINITION. Machine/State.lean: the whole state of the hub as plain data, the fault and refusal reasons, and the
state after a power-on reset. -/
namespace Sys2Proof.Machine

/-- The state of the hub and its queue of commands. -/
structure State where
  /-- commands waiting, first in, first out; the model's own -/
  pending : List Instr
  /-- what the hub has sent or driven, newest first; the model's own record of outputs -/
  out : List Emit
  /-- the number of free values taken so far; the model's own counter -/
  free : Nat
  /-- every register as (key, word) cells, a key that is not listed reading 0 -/
  regs : List (Nat × Word)
  clock : Clock
  router : Router
  img : ImgState
  mgmt : Vector MgmtAgent 5
  /-- the agent whose turn at the management arbiter comes next; 3 bits; 01_architecture.md R19; reset 0, DESIGN CHOICE log entry 106 -/
  arb : Nat
  /-- replies made for MGMT_SPI, oldest first: the first 8 are queued, one beyond them waits for a place; 04_management.md R120, R121; reset empty -/
  spiQ : List Reply
  /-- replies made for EP2 of each host's USB management function, oldest first: the first 16 are queued; 14_usb.md R449; reset empty -/
  usbQ : Vector (List Reply) 4
  logs : Vector ErrLog 5
  own : OwnState
  /-- the request of PWR_STATE.PEND and its drain; 19_power_states.md R584; reset none -/
  pwr : Option PwrReq
  links : Vector Link 4
  /-- lane groups whose main PLL has lost lock since the cold start; 9 bits; 06_lanes.md R205, R206; reset 0 -/
  mainLost : Nat
  /-- eye scan of EYE_SAMPLE targets 0 to 35 (R60); reset 0 -/
  eyes : Vector EyeScan 36
  bc : Barchan
  sr : Sirocco
  pl : Playa
  px : Vector PcPort 2
  oa : Oasis
  rails : Rails
  et : Eth
  us : Usb
  wd : Wadi
  tc : Vector TcPort 4
  ef : Vector EfChan 8
deriving DecidableEq, Repr

/-- Why a step faults: no command of this block faults. -/
inductive Fault where
deriving DecidableEq, Repr

/-- Why a step is refused. -/
inductive Refusal where
  /-- raised by an arm of exec whose command has no meaning yet; safe -/
  | notModelled (mnemonic : String)
deriving DecidableEq, Repr

/-! ### After a power-on reset -/

/-- A management agent after reset (R135, R138, R149). -/
def agent0 : MgmtAgent :=
  ⟨false, false, none, 0, none, [], 0, [], false, 0, 0, 0, 0, none, [], false, 0⟩

/-- A transmitter at reset: nothing in hand, its marker count at 0 (log entry 20). -/
def stripe0 : Stripe :=
  { row := [], blk := 0, pos := 0, count := 0, scr := Vector.replicate 4 (2 ^ 58 - 1), word := Vector.replicate 4 [], sent := 0,
    own := 0, ackAt := none, credAt := [], ackDue := false, credDue := [], ctlDue := [] }

/-- A search at reset: none runs. -/
def search0 : EqSearch := ⟨13, 0, 0, 0, 0, 0, 0⟩

/-- A host port's link after cold reset: OFF, no set valid (R561). -/
def link0 : Link :=
  { replay := [], consumed := Vector.replicate 64 0, received := Vector.replicate 64 0,
    limit := Vector.replicate 64 0, arrived := 0, unacked := 0, oldest := 0, nakFor := none,
    replays := 0, held := false, entered := false, refFails := 0, gearCap := 3, cap := none, selResume := false,
    selGear := 0, selFec := false, echoResume := false, echoed := false, goSeen := 0, eqPhase := 0,
    eqCount := Vector.replicate 4 0, blockLock := 0, cwLock := 0, aligned := 0, recovering := 0,
    reqId := Vector.replicate 4 none, pings := [], latCount := 0, latSum := 0, latDone := false, marker := none, qualified := 0,
    turn := none, turnTries := 0, downSince := some 0, parked := none, asm := [], resend := [],
    ref := false, tx := stripe0, rx := ⟨Vector.replicate 4 0, Vector.replicate 4 0, 0, 0⟩,
    up := Vector.replicate 4 ⟨0, 48, 0, 15⟩, down := Vector.replicate 4 ⟨0, 0, 0⟩, search := Vector.replicate 4 search0, reEq := Vector.replicate 4 0 }

/-- An eye scan at reset. -/
def eye0 : EyeScan := ⟨Vector.replicate 12 0, 0, false, 0, 0⟩

/-- The timebase at reset: TIME has not started (R35). -/
def clock0 : Clock :=
  { running := false, time := 0, phases := Vector.replicate 9 none, integ := 0, targets := [], target := 0,
    step := none, disagree := false, sscBy := none, bound := 0, choreNext := 0 }

/-- The configuration engine at power-on: nothing in force, the flash erased and the OTP blank (log entries 4, 7). -/
def img0 : ImgState :=
  { phase := .testing, warm := false, recs := [], flash := [], otp := Vector.replicate 4 none, revoked := 0, session := none,
    pend := none, patches := [], commits := [], keepDigest := none, keepCheck := 0, bootSlot := 0 }

/-- Ownership beside the OWN_k registers at reset. -/
def own0 : OwnState :=
  { reqs := [], watch := Vector.replicate 4 none, linkTrig := Vector.replicate 4 false,
    noResume := Vector.replicate 4 false, freshLink := Vector.replicate 4 false, bumpAll := false, suspend := none }

/-- A Barchan queue at reset: empty. -/
def bqueue0 : BQueue :=
  { items := [], back := [], e := 0, filing := .none, credit := 0, creditAt := 0, headAt := 0, excess := 0, deficit := (0, 0),
    fed := (false, false), win := ⟨0, (0, 0, 0), (0, 0, 0), Vector.replicate 16 0⟩ }

/-- Barchan at reset: every queue empty and every bucket empty. -/
def barchan0 : Barchan :=
  { queues := Vector.replicate 340 bqueue0, joined := 0, pol := Vector.replicate 128 ⟨0, 0, 0⟩, orderR := [], orderE := [],
    width := Vector.replicate 8 0, downMap := Vector.replicate 4 (Vector.replicate 64 0),
    ethTun := Vector.replicate 4 (Vector.replicate 8 0) }

/-- Sirocco at reset: nothing queued, every FIFO empty. -/
def sirocco0 : Sirocco :=
  { levels := Vector.replicate 32 none, queue := [], seconds := [], accepted := 0, lines := 0, later := [], edges := [], lastEdge := Vector.replicate 32 none,
    lastStamp := Vector.replicate 32 none, caps := Vector.replicate 4 ⟨[], false⟩, glFrames := Vector.replicate 2 0 }

/-- Layer words in force at reset: ALPHA 255 (R387). -/
def shown0 (x : Nat) : List (Nat × Word) :=
  (List.range 8).map (fun n => (A.LY_CTRL x n, 0x00FF0000))

/-- Playa at reset: pools and maps empty until an image names them. -/
def playa0 : Playa :=
  { pixels := [], tags := [], free := Vector.replicate 2 [], maps := Vector.replicate 2 [], msgs := [], started := [],
    shown := Vector.ofFn (fun x => shown0 x.val), waits := Vector.replicate 2 0, taken := Vector.replicate 2 false,
    vbAt := Vector.replicate 2 0, glAdj := Vector.replicate 2 (0, 0), sink := Vector.replicate 2 [],
    cand := Vector.replicate 2 0, reads := Vector.replicate 2 0, bad := [], bands := Vector.replicate 2 [], nextBand := Vector.replicate 2 0,
    auxOwn := Vector.replicate 2 [], aux := Vector.replicate 2 none }

/-- Configuration space after reset: the standard's defaults for the capabilities of R390, by doubleword number (log
entry 15). Fields that the hub computes (IDs, link speed and width, slot state) are computed at a read. -/
def pxCfg0 (p : Nat) : List (Nat × Word) :=
  [(0x01, 0x00100000), (0x02, 0x06040000), (0x03, 0x00010000), (0x09, 0x00010001), (0x0D, 0x40), (0x10, 0x40034801),
   (0x12, 0x01806005), (0x18, 0x01620010), (0x19, 0x00008022), (0x1A, 0x00002810), (0x1C, 0x10000000),
   (0x1D, BitVec.ofNat 32 (0x00040060 + 2 ^ 19 * (p + 1))), (0x21, 0x00030060), (0x40, 0x14820001),
   (0x43, 0x00462030), (0x45, 0x00002000), (0x46, 0x000000A0), (0x52, 0x1501000D), (0x53, 0x0000000D), (0x54, 0x0001001D)]

/-- A PCI Express port at reset. -/
def pcPort0 (p : Nat) : PcPort :=
  { cfg := pxCfg0 p, captured := false, causes := [], begun := (false, false, false, false), due := false,
    deadline := false, expired := false }

/-- Oasis at reset. -/
def oasis0 : Oasis :=
  { bridge := Vector.replicate 2 0, bridgeAt := none, releasing := false, fatalAt := Vector.replicate 24 none,
    leftAt := Vector.replicate 24 none, attSeen := Vector.replicate 4 0, symSeen := Vector.replicate 4 [], crossed := [],
    repairs := [], badSpares := [], scrubs := [], repairQ := [], recordDue := false, recordAt := 0, recordPos := none,
    ageFrac := (0, 0), okSince := 0 }

/-- The switch at reset. -/
def eth0 : Eth := { fdb := [], oper := Vector.replicate 4 none, good := Vector.replicate 4 0, stamps := [], stampNext := 0, busy := Vector.replicate 4 none,
                    pdSeq := Vector.replicate 4 0, pdNext := Vector.replicate 4 0 }

/-- The USB hub at reset. -/
def usb0 : Usb :=
  { views := Vector.replicate 4 (Vector.replicate 9 ⟨0, 0⟩), part := Vector.replicate 4 [],
    ep3 := Vector.replicate 4 ⟨0, none⟩, before := Vector.replicate 4 (0, 0), ocWait := Vector.replicate 8 false,
    tt := Vector.replicate 4 (Vector.replicate 8 (0, 0)), bufs := Vector.replicate 4 ⟨[], [], [], []⟩,
    wakeEn := Vector.replicate 4 (false, false), driven := Vector.replicate 4 none }

/-- A field bus at reset. -/
def fieldBus0 : FieldBus :=
  { queue := [], cur := none, launched := [], keep := none, prevKeep := none, held := [], rx := [], next := 0 }

/-- Wadi at reset. -/
def wadi0 : Wadi :=
  { buses := Vector.replicate 20 fieldBus0, perr := Vector.replicate 4 [], gp := 0,
    mods := Vector.replicate 8 ⟨false, 0, 0, none, false, []⟩ }

/-- A Type-C port at reset: Rd presented, nothing attached. -/
def tcPort0 : TcPort :=
  { rp := false, cc := (0, 0), srcEn := false, snkEn := false, boostEn := false, attachPr := false, wait := .nothing,
    todo := [], retry := none, trans := none, offered := [], first := false, autoTried := false, soft := 0,
    hard := false, hardFails := 0, dry := 0, vconnOcp := false, reqTick := 0, frs := false, frsField := 0, msgId := 0,
    rev2 := false, dual := false, autoNow := false, autoOver := false, lost := false, chunk := none, seen := 0, bist := false }

/-- An e-fuse channel at reset: gates off, model at 0 (R553). -/
def efChan0 : EfChan :=
  { vinOk := false, gateA := false, gateB := false, full := false, switched := false, bad := 0, pgOut := false,
    reverse := false, terms := (0, 0, 0), temp := 0, cycle := (0, none), autoDone := false,
    since := 0, fullAt := 0, leave := none, stepAt := 0 }

/-- The hub right after a power-on reset (R561, R629). -/
def State.reset : State :=
  { pending := [], out := [], free := 0, regs := resetRegs, clock := clock0, router := ⟨[], [], []⟩, img := img0,
    mgmt := Vector.replicate 5 agent0, arb := 0, spiQ := [], usbQ := Vector.replicate 4 [], logs := Vector.replicate 5 ⟨[], none, 0⟩, own := own0, pwr := none,
    links := Vector.replicate 4 link0, mainLost := 0, eyes := Vector.replicate 36 eye0, bc := barchan0,
    sr := sirocco0,
    pl := playa0,
    px := Vector.ofFn (fun p => pcPort0 p.val),
    oa := oasis0,
    rails := ⟨127, 63, 30, 0, 0⟩,
    et := eth0,
    us := usb0,
    wd := wadi0,
    tc := Vector.replicate 4 tcPort0,
    ef := Vector.replicate 8 efChan0 }

end Sys2Proof.Machine
end

