-- ==== Sys2Proof/Machine/Ops.lean ====
section
/-! DEFINITION. Machine/Ops.lean: the named operations that every command is built from: reading and writing register
fields, saturating counters, event sources and their rises, isolation, ownership questions, error-log entries,
service notices, free values and the outputs. -/
namespace Sys2Proof.Machine

/-- The answer of every command: the next state. -/
abbrev Res := Host.Outcome State Fault Refusal

/-! ### Registers -/

/-- The word of the register with key `a`, as a number. -/
def State.reg (s : State) (a : Nat) : Nat := (cellGet (0 : Word) s.regs a).toNat

/-- The state with word `v` in the register with key `a`. -/
def State.setReg (s : State) (a v : Nat) : State := { s with regs := cellSet 0 s.regs a (w32 v) }

/-- The value of a field. -/
def State.get (s : State) (f : FRef) : Nat := bitsOf (s.reg f.addr) f.lsb f.width

/-- A field is not 0. -/
def State.flag (s : State) (f : FRef) : Bool := s.get f != 0

/-- The state with value `v` in a field. -/
def State.put (s : State) (f : FRef) (v : Nat) : State := s.setReg f.addr (withBits (s.reg f.addr) f.lsb f.width v)

/-- A counter field advanced by `n`, saturating at all ones (R73). -/
def State.bump (s : State) (f : FRef) (n : Nat) : State := s.put f (satAdd f.width (s.get f) n)

/-- Bit `i` of a field set. -/
def State.setBit (s : State) (f : FRef) (i : Nat) : State := s.put f (s.get f ||| 2 ^ i)

/-- Bit `i` of a field cleared. -/
def State.clrBit (s : State) (f : FRef) (i : Nat) : State := s.put f (s.get f &&& (2 ^ f.width - 1 - 2 ^ i))

/-- A 64-bit value put into a LO and HI register pair. -/
def State.putPair (s : State) (lo hi : FRef) (v : Nat) : State := (s.put lo (v % 2 ^ 32)).put hi (v / 2 ^ 32)

/-- The 64-bit value of a LO and HI register pair. -/
def State.getPair (s : State) (lo hi : FRef) : Nat := s.get lo + 2 ^ 32 * s.get hi

/-- A 64-bit counter held in two registers, saturating (R73). -/
def State.bumpPair (s : State) (lo hi : FRef) (n : Nat) : State :=
  s.putPair lo hi (satAdd 64 (s.getPair lo hi) n)

/-- Apply `f` for each number of a list in turn. -/
def State.each (s : State) (l : List Nat) (f : State → Nat → State) : State := l.foldl f s

/-- `f s` where `c` holds, else `s`. -/
def State.iff (s : State) (c : Bool) (f : State → State) : State := if c then f s else s

/-! ### Parts of the state -/

def State.agent (s : State) (a : Nat) : MgmtAgent := vAt s.mgmt a
def State.modAgent (s : State) (a : Nat) (f : MgmtAgent → MgmtAgent) : State := { s with mgmt := vMod s.mgmt a f }
def State.link (s : State) (h : Nat) : Link := vAt s.links h
def State.modLink (s : State) (h : Nat) (f : Link → Link) : State := { s with links := vMod s.links h f }
def State.queue (s : State) (q : Nat) : BQueue := vAt s.bc.queues q
def State.modQueue (s : State) (q : Nat) (f : BQueue → BQueue) : State :=
  { s with bc := { s.bc with queues := vMod s.bc.queues q f } }
def State.modImg (s : State) (f : ImgState → ImgState) : State := { s with img := f s.img }
def State.modOwn (s : State) (f : OwnState → OwnState) : State := { s with own := f s.own }
def State.modClock (s : State) (f : Clock → Clock) : State := { s with clock := f s.clock }

/-- Something goes out of the hub. -/
def State.emit (s : State) (e : Emit) : State := { s with out := e :: s.out }

/-- A value that the spec leaves open: a fresh one each time (log entry 10). -/
def State.freeVal (s : State) (width : Nat) : Nat := (Config.freeWord s.free).toNat % 2 ^ width

/-- The state after a free value was taken. -/
def State.took (s : State) : State := { s with free := s.free + 1 }

/-! ### Time -/

/-- The tick number (R38). -/
def State.tick (s : State) : Nat := s.clock.time / 125000

/-- The slot of the present instant (R5). -/
def State.slot (s : State) : Nat := s.clock.time % 125000 / 125

/-- The power state of R593: 0 RUN, 1 IDLE, 2 SLEEP, 3 DORMANT. -/
def State.power (s : State) : Nat := s.get F.PWR_STATE_STATE

/-- The hub is in RUN or IDLE, where chores, commits and data traffic run (R575, R581). -/
def State.awake (s : State) : Bool := s.power ≤ 1

/-- Carry out `f` where the Hamada die's PDA domain runs: everywhere but in OFF (R10, R575). -/
def State.pda (s : State) (f : State → State) : State := if s.power = 4 then s else f s

/-- TIME counts: the reference PLL has locked, and the hub is not in DORMANT (R35, R575). -/
def State.counting (s : State) : Bool := s.clock.running && s.power ≤ 2

/-- TIME of the next tick boundary whose steps are still to come (R31). -/
def State.nextBoundary (s : State) : Nat := (s.clock.bound + 1) * 125000

/-- TIME moved on to `t`, never back (R35), to a multiple of 4 (R34), and not past a boundary whose steps are still to come
(R31, log entry 1). -/
def State.advanceTo (s : State) (t : Nat) : State :=
  let t := min ((t + 3) / 4 * 4) s.nextBoundary
  if s.counting && s.clock.time < t then s.modClock (fun c => { c with time := t }) else s

/-! ### Isolation -/

/-- The isolation unit is in state RUNNING (R574). -/
def State.unitRuns (s : State) (u : Nat) : Bool := s.get (F.ISO_u_STATE u) == 0

/-- The unit that event source `n` belongs to, if it is an isolation unit (R571). -/
def srcUnit (n : Nat) : Option Nat :=
  if n < 16 then none
  else if n < 48 then some ((n - 16) / 8)
  else if n < 57 then some (n - 48)
  else if n < 96 then none
  else if n < 112 then some (9 + (n - 96) / 8)
  else if n < 128 then some (11 + (n - 112) / 8)
  else if n < 144 then some 13
  else if n < 160 then some 14
  else if n < 240 then some 15
  else if n < 248 then none
  else if n < 256 then some (16 + (n - 248))
  else none

/-! ### Event sources -/

/-- The bit fields whose set state keeps source `n` high, for a source that W1C bits serve: R622, R59, R593, R260,
R295, R212, R325, R350, R388, R410, R432, R454, R494, R530 and R554. -/
def srcFields (n : Nat) : List FRef :=
  if n < 5 then [⟨A.OA_EVT, n, 1⟩]
  else if n < 9 then [⟨A.TIME_EVT, n - 5, 1⟩]
  else if n = 9 then [⟨A.PWR_EVT, 0, 2⟩]
  else if n < 12 then [⟨A.OA_EVT, n - 5, 1⟩]
  else if n < 16 then []
  else if n < 48 then
    let h := (n - 16) / 8
    match (n - 16) % 8 with
    | 0 => [F.CV_EVT_STATE_CHG h]
    | 1 => [F.CV_EVT_WIDTH_CHG h]
    | 2 => [F.CV_EVT_REPLAY_LIMIT h, F.CV_EVT_UNCORR h, F.CV_EVT_PROTOCOL h]
    | 3 => [F.CV_EVT_TURN_FAIL h]
    | 4 => [F.CV_EVT_REF_FAIL h]
    | 5 => [F.CV_TUN_EVT_DISCARD h]
    | 6 => [F.CV_TUN_EVT_BLOCKED h, F.CV_TUN_EVT_FORCED_RETRAIN h]
    | _ => []
  else if n < 57 then [⟨A.LG_EVT (n - 48), 0, 5⟩]
  else if n = 57 then [F.LANE_EVT_EYE_DONE]
  else if n = 58 then [F.LANE_EVT_MARGIN_LOW]
  else if n = 59 then [F.LANE_EVT_SPARE_GONE]
  else if n < 64 then []
  else if n < 70 then [⟨A.BC_EVT, n - 64, 1⟩]
  else if n < 80 then []
  else if n < 84 then [⟨A.SR_EVT, n - 80, 1⟩]
  else if n < 88 then []
  else if n < 92 then [F.CAP_EVT_g_OVERFLOW (n - 88)]
  else if n = 92 then [F.SR_EVT_OTHER_EXC]
  else if n = 93 then [F.SR_EVT_GL_A]
  else if n = 94 then [F.SR_EVT_GL_B]
  else if n < 96 then []
  else if n < 112 then [⟨A.HD_EVT ((n - 96) / 8), (n - 96) % 8, 1⟩]
  else if n < 128 then if (n - 112) % 8 < 6 then [⟨A.PX_EVT ((n - 112) / 8), (n - 112) % 8, 1⟩] else []
  else if n < 132 then [⟨A.ETH_EVT (n - 128), 0, 1⟩]
  else if n < 136 then [⟨A.ETH_EVT (n - 132), 1, 4⟩]
  else if n = 136 then [F.ETH_SW_EVT_FDB_FULL]
  else if n = 137 then [F.ETH_SW_EVT_FILTER_DROP]
  else if n < 144 then []
  else if n < 152 then [⟨A.DS_EVT_n (n - 144), 0, 4⟩]
  else if n < 156 then [⟨A.UF_EVT (n - 152), 0, 5⟩]
  else if n < 172 then []
  else if n = 172 then (List.range 20).map (fun b => ⟨A.WD_BUS_EVT b, 0, 6⟩)
  else if n = 173 then [F.WD_MOD_EVT_ALL]
  else if n < 176 then []
  else if n < 240 then []
  else if n < 248 then
    if n % 2 = 0 then [⟨A.TC_EVT ((n - 240) / 2), 0, 6⟩] else [⟨A.TC_FLT ((n - 240) / 2), 0, 7⟩]
  else if n < 256 then [⟨A.EF_EVT (n - 248), 0, 5⟩]
  else []

/-- The level of source `n` at its block. -/
def State.srcRaw (s : State) (n : Nat) : Bool :=
  if 84 ≤ n && n < 88 then s.get (F.CAP_STAT_g_FILL (n - 84)) ≥ s.get (F.CAP_CTRL_g_WATERMARK (n - 84))
  else if 160 ≤ n && n < 164 then s.flag (F.WD_PERR_STAT_h_COUNT (n - 160))
  else if 164 ≤ n && n < 172 then
    s.get (F.WD_RX_STAT_FILL (n - 152)) ≥ s.get (F.WD_RX_CTRL_WATERMARK (n - 152)) && s.flag (F.WD_RX_STAT_FILL (n - 152))
  else if 176 ≤ n && n < 240 then
    bitAt (s.get (F.WD_MOD_STATUS_LINES ((n - 176) / 8))) ((n - 176) % 8)
  else (srcFields n).any s.flag

/-- The level of source `n` at the router (R150, R572 step 3). -/
def State.srcLevel (s : State) (n : Nat) : Bool :=
  (match srcUnit n with
   | some u => s.unitRuns u
   | none => true) && s.srcRaw n

/-- The route word of source `n` (R152). -/
def State.route (s : State) (n : Nat) : Nat := s.get (F.EVT_ROUTE_s_ROUTE n)

/-- A rise of source `n` is counted, and the first that exceeds LIMIT in its window makes the auto-mask fall due (R165, R167). -/
def State.noteRise (s : State) (n : Nat) : State :=
  let s := s.bump (F.EVT_RISE_s_COUNT n) 1
  let c := cellGet 0 s.router.win n + 1
  let due := decide (s.get F.EVT_STORM_CFG_LIMIT < c) && !bitAt (s.route n) 24 && !s.router.fired.contains n
  { s with router := { win := cellSet 0 s.router.win n c,
                       due := if due then s.router.due ++ [n] else s.router.due,
                       fired := if due then n :: s.router.fired else s.router.fired } }

/-- A storm window starts: the rise counts start again (R165). -/
def State.stormWindow (s : State) : State := { s with router := { s.router with win := [], fired := [] } }

/-- Carry out `f`, and count a rise of source `n` where `f` makes one (R165). -/
def State.watching (s : State) (n : Nat) (f : State → State) : State :=
  let s' := f s
  if !s.srcLevel n && s'.srcLevel n then s'.noteRise n else s'

/-- Set an event bit that drives source `n` (R150). -/
def State.raise (s : State) (n : Nat) (f : FRef) : State := s.watching n (fun s => s.put f (2 ^ f.width - 1))

/-! ### Ownership -/

/-- The hub runs an image (R569). -/
def State.inForce (s : State) : Bool := s.img.phase == .applied

/-- The owner of resource `k`: 0 to 3, or 7 for none; none before an image is in force (R21, R569). -/
def State.ownerOf (s : State) (k : Nat) : Nat := if s.inForce && k < 56 then s.get (F.OWN_k_OWNER k) else 7

/-- The standby of resource `k`: 0 to 3, or 7 for none. -/
def State.standbyOf (s : State) (k : Nat) : Nat := if s.inForce && k < 56 then s.get (F.OWN_k_STANDBY k) else 7

/-- Host `a` owns resource `k` (R20). -/
def State.owns (s : State) (a k : Nat) : Bool := s.ownerOf k == a && a < 4

/-- The resources an agent owns, as a mask (R297). -/
def State.ownedMask (s : State) (a : Nat) : Nat := maskOf 56 (fun k => s.owns a k)

/-- The resources an agent stands by for, as a mask (R297). -/
def State.standbyMask (s : State) (a : Nat) : Nat := maskOf 56 (fun k => s.standbyOf k == a && decide (a < 4))

/-- The AGENTS word of the running image (R79); 0x0000_0007 while none is in force: no time agent, no agent named. -/
def State.agentsWord (s : State) : Nat :=
  match s.img.recs.find? (fun r => r.ty == 2) with
  | some r => if s.inForce then wordAt r.body 0 else 7
  | none => 7

/-- Agent `a` stands in SHARED_WRITERS (R79, R99). -/
def State.sharedWriter (s : State) (a : Nat) : Bool := bitAt s.agentsWord (24 + a)

/-- Agent `a` is the time agent (R44). -/
def State.isTimeAgent (s : State) (a : Nat) : Bool := s.inForce && bitsOf s.agentsWord 0 3 == a

/-- Agent `a` is in service mode (R134 to R138). -/
def State.inService (s : State) (a : Nat) : Bool := (s.agent a).service

/-- Agent `a` is BOARD or in service mode. -/
def State.boardOrService (s : State) (a : Nat) : Bool := a == 4 || s.inService a

/-- Source `n` is routed to agent `a` (R153). -/
def State.routed (s : State) (n a : Nat) : Bool :=
  let r := s.route n
  let mode := bitsOf r 0 2
  let k := bitsOf r 2 6
  bitAt r (8 + a) || (decide (mode ≥ 2) && s.owns a k)
    || (mode == 3 && s.standbyOf k == a && decide (a < 4))

/-! ### Error logs, notices -/

/-- The word W0 of an error-log entry (R606). -/
def errW0 (cls result cause unit agent : Nat) : Nat :=
  cls % 4 + 16 * (result % 16) + 256 * (cause % 256) + 65536 * (unit % 256) + 2 ^ 24 * (agent % 8)

/-- An entry joins an agent's log (R609). -/
def ErrLog.add (l : ErrLog) (e : ErrEntry) : ErrLog :=
  { ring := if l.ring.length < 32 then l.ring ++ [e] else l.ring,
    first := match l.first with | none => some e | some x => some x,
    ovf := if l.ring.length < 32 then l.ovf else satAdd 16 l.ovf 1 }

/-- Enter an entry in the log of agent `a`; a FATAL entry raises source 1 (R608, R622). -/
def State.logTo (s : State) (a cls result cause unit agent detail : Nat) : State :=
  let e : ErrEntry := ⟨errW0 cls result cause unit agent, detail % 2 ^ 32, s.clock.time⟩
  let s := { s with logs := vMod s.logs a (fun l => l.add e) }
  if cls = 3 then s.raise 1 ⟨A.OA_EVT, 1, 1⟩ else s

/-- Enter an operation error in an agent's own log (R606, R608); the class is NON_FATAL but for INTERNAL. -/
def State.logOp (s : State) (a result cause unit detail : Nat) : State :=
  s.logTo a (if cause = 6 then 3 else 2) result cause unit a detail

/-- Enter a hardware error in the owner's log and in those of HW_AGENTS (R608); a CORRECTED one only under LOG_CORR. -/
def State.logHw (s : State) (owner cls result cause unit detail : Nat) : State :=
  if cls = 1 && !s.flag F.OA_CFG_LOG_CORR then s
  else (List.range 5).foldl (fun s a =>
    if a == owner || bitAt (s.get F.OA_CFG_HW_AGENTS) a then s.logTo a cls result cause unit 7 detail else s) s

/-- Raise service notice `n` for an instance (R617, R618); a wear record falls due (R619), which the command
WEAR_RECORD_WRITE writes. -/
def State.notice (s : State) (n inst : Nat) : State :=
  let s := s.put ⟨A.OA_NOTICE, n, 1⟩ 1
  let s := s.put (F.OA_NOTICE_DETAIL_n_INSTANCE n) inst
  let s := s.bump (F.OA_NOTICE_DETAIL_n_COUNT n) 1
  let s := { s with oa := { s.oa with recordDue := true } }
  s.raise 0 ⟨A.OA_EVT, 0, 1⟩

/-- A spare took over: source 2 rises and SPARE_TOOK_OVER is logged (R607, R622). -/
def State.spareTookOver (s : State) (owner unit detail : Nat) : State :=
  (s.logHw owner 1 0 0x14 unit detail).raise 2 ⟨A.OA_EVT, 2, 1⟩

end Sys2Proof.Machine
end

