-- ==== Sys2Proof/Machine/Flags.lean ====
section
/-! DEFINITION. Machine/Flags.lean: the flags that the hub computes from its state: the device state, the pending words
of the event banks and the status word. -/
namespace Sys2Proof.Machine

/-- A host pair or flex lane is marked failed (R202, R255, R639). -/
def State.laneFailed (s : State) : Bool :=
  (List.range 4).any (fun h => s.flag (F.CV_STATUS_FAILED h))
    || (List.range 36).any (fun i => s.get (F.LN_STATUS_STATE (i / 4) (i % 4)) == 4)

/-- An isolation unit is not in state RUNNING (R570). -/
def State.anyIsolated (s : State) : Bool := (List.range 24).any (fun u => !s.unitRuns u)

/-- A condition of R570 holds. -/
def State.degraded (s : State) : Bool :=
  s.anyIsolated || s.laneFailed || s.flag F.SYS_STATE_BRIDGE_DEGRADED || s.flag F.SYS_STATE_REF_SPARE

/-- DEV_STATE: 0 BARE, 1 LOADING, 2 RUNNING, 3 DEGRADED (R569). -/
def State.devState (s : State) : Nat :=
  match s.img.phase with
  | .held => 1
  | .testing => 1
  | .loading => 1
  | .bare => 0
  | .applied => if s.degraded then 3 else 2

/-- The word of SYS_STATE (R639). -/
def State.sysState (s : State) : Nat :=
  s.devState + 16 * bit1 s.anyIsolated + 32 * bit1 s.laneFailed + 64 * s.get F.SYS_STATE_BRIDGE_DEGRADED
    + 128 * s.get F.SYS_STATE_REF_SPARE

/-- Word `n` of EVT_LEVEL (R169). -/
def State.evtLevel (s : State) (n : Nat) : Nat := maskOf 32 (fun i => s.srcLevel (32 * n + i))

/-- Word `n` of an agent's EVT_PEND or FEVT_PEND (R157). -/
def State.evtPend (s : State) (a n : Nat) (fast : Bool) : Nat :=
  maskOf 32 (fun i => s.routed (32 * n + i) a && (bitAt (s.get (F.FEVT_CLASS_n_FAST a n)) i == fast)
    && s.srcLevel (32 * n + i))

/-- ATTN_N of an agent (R158). -/
def State.attnN (s : State) (a : Nat) : Bool :=
  (List.range 8).any (fun n =>
    s.evtPend a n false &&& (2 ^ 32 - 1 - s.get (F.EVT_MASK_n_MASK a n)) != 0)

/-- ATTN_F of an agent (R158). -/
def State.attnF (s : State) (a : Nat) : Bool :=
  (List.range 8).any (fun n =>
    s.evtPend a n true &&& (2 ^ 32 - 1 - s.get (F.FEVT_MASK_n_MASK a n)) != 0)

/-- ERRLOG of an agent (R139, R610). -/
def State.errLog (s : State) (a : Nat) : Bool :=
  let l := vAt s.logs a
  !l.ring.isEmpty || l.first.isSome

/-- The status word for an agent with the given RESULT (R139, R140). -/
def State.statusWord (s : State) (a result : Nat) : Nat :=
  result % 16 + 16 * bit1 (s.attnN a) + 32 * bit1 (s.attnF a) + 64 * bit1 (s.errLog a)
    + 128 * s.get F.PWR_STATE_PEND + 256 * s.devState + 1024 * bit1 (s.agent a).ownChg
    + 2048 * bit1 (s.flag F.OA_NOTICE_ALL) + 4096 * (s.get F.IMAGE_GEN_GEN % 16)

/-- A status word has left towards an agent: OWN_CHG is used up (R140). -/
def State.statusSent (s : State) (a : Nat) : State := s.modAgent a (fun g => { g with ownChg := false })

/-- The link of host port `h` is up (R249), a parked link included (R580). -/
def State.linkUp (s : State) (h : Nat) : Bool :=
  let st := s.get (F.CV_STATUS_STATE h)
  st == 7 || st == 9 || st == 10 || (s.link h).parked.isSome

/-- Heartbeat supervision of a host is disarmed (R143, R581). -/
def State.hbDisarm (s : State) (h : Nat) : State :=
  (s.put (F.MGMT_HB_h_ARMED h) 0).modAgent h (fun g => { g with misses := 0 })

end Sys2Proof.Machine
end

