-- ==== Sys2Proof/Machine/Operands.lean ====
section
/-! DEFINITION. Machine/Operands.lean: the operand forms that commands carry: management frame headers, packet headers
and their type-specific fields, resource masks, RESULT codes and the running image's records. -/
namespace Sys2Proof.Machine

/-! ### RESULT codes of the status word (R139) -/

namespace R
def ok : Nat := 0
def busy : Nat := 1
def denied : Nat := 2
def badAddr : Nat := 3
def badLen : Nat := 4
def timeout : Nat := 5
def farError : Nat := 6
def stale : Nat := 7
def isolated : Nat := 8
def aborted : Nat := 9
def auth : Nat := 10
def internal : Nat := 15
end R

/-! ### Management frames (R115, R116) -/

/-- OPCODE of a command frame. -/
def frameOp (f : Frame) : Nat := bitsOf f.w0.toNat 0 8
/-- TAG of a command frame. -/
def frameTag (f : Frame) : Nat := bitsOf f.w0.toNat 8 8
/-- LEN of a command frame. -/
def frameLen (f : Frame) : Nat := bitsOf f.w0.toNat 16 12
/-- FLAGS.FIXED of a command frame. -/
def frameFixed (f : Frame) : Bool := bitAt f.w0.toNat 28
/-- FLAGS.ACK of a command frame. -/
def frameAck (f : Frame) : Bool := bitAt f.w0.toNat 29
/-- The reserved FLAGS of a command frame. -/
def frameRsv (f : Frame) : Nat := bitsOf f.w0.toNat 30 2

/-- The frame of a command with OPCODE, TAG, LEN, FLAGS, ADDRESS and payload. -/
def mkFrame (op tag len flags addr : Nat) (payload : List Word) : Frame :=
  ⟨w32 (op % 256 + 256 * (tag % 256) + 65536 * (len % 4096) + 2 ^ 28 * (flags % 16)), w32 addr, payload⟩

/-- An address lies in the field window (R456, R625). -/
def inField (addr : Nat) : Bool := decide (0x40000000 ≤ addr) && decide (addr < 0x80000000)

/-- The bus index that a reply on a FIELD tunnel names: that of a field-window address, else 31 (R456, R461). -/
def fieldIx (addr : Nat) : Nat := if inField addr then bitsOf addr 25 5 else 31

/-- The payload words that W0 gives a frame: none for READ, LEN for every other opcode (R673). -/
def frameWords (w0 : Word) : Nat := if bitsOf w0.toNat 0 8 = 1 then 0 else bitsOf w0.toNat 16 12

/-- The frame that bytes spell, if they are exactly the header and the payload its W0 gives (R673). -/
def frameOfBytes (bs : List Byte) : Option Frame :=
  match bytesWords bs with
  | w0 :: w1 :: p => if bs.length = 8 + 4 * frameWords w0 then some ⟨w0, w1, p⟩ else none
  | _ => none

/-- The bytes of a reply frame with status word `st` (R116). -/
def replyBytes (st tag op : Nat) (data : List Word) : List Byte :=
  wordsBytes (w32 (st % 65536 + 65536 * (tag % 256) + 2 ^ 24 * (op % 256)) :: w32 (data.length % 4096) :: data)

/-! ### Packets (R262, R267) -/

/-- TUN of a packet. -/
def pktTun (p : Packet) : Nat := bitsOf p.hdr.toNat 0 6
/-- TYPE of a packet. -/
def pktType (p : Packet) : Nat := bitsOf p.hdr.toNat 6 4
/-- LEN of a packet. -/
def pktLen (p : Packet) : Nat := bitsOf p.hdr.toNat 10 11
/-- SEQ of a packet. -/
def pktSeq (p : Packet) : Nat := bitsOf p.hdr.toNat 21 12
/-- GEN of a packet. -/
def pktGen (p : Packet) : Nat := bitsOf p.hdr.toNat 33 4
/-- LAST of a packet. -/
def pktLast (p : Packet) : Bool := bitAt p.hdr.toNat 38
/-- ECHO of a packet. -/
def pktEcho (p : Packet) : Bool := bitAt p.hdr.toNat 40
/-- TSF of a packet, bit 41 first. -/
def pktTsf (p : Packet) : Nat := bitsOf p.hdr.toNat 41 23
/-- Header bits [hi:lo] of a packet. -/
def pktBits (p : Packet) (lo width : Nat) : Nat := bitsOf p.hdr.toNat lo width

/-- A packet header (R262). -/
def mkHdr (tun typ len seq gen : Nat) (posted last prio echo : Bool) (tsf : Nat) : BitVec 64 :=
  BitVec.ofNat 64 (tun % 64 + 2 ^ 6 * (typ % 16) + 2 ^ 10 * (len % 2048) + 2 ^ 21 * (seq % 4096) + 2 ^ 33 * (gen % 16)
    + 2 ^ 37 * bit1 posted + 2 ^ 38 * bit1 last + 2 ^ 39 * bit1 prio + 2 ^ 40 * bit1 echo + 2 ^ 41 * (tsf % 2 ^ 23))

/-- The 64-byte credit units of a packet with LEN payload bytes (R238). -/
def unitsOf (len : Nat) : Nat := ceilDiv (len + 8) 64

/-- The pieces of at most 1,024 bytes that a message is cut into, at least one (R119). -/
def piecesOf (bs : List Byte) : Nat → List (List Byte)
  | 0 => [bs]
  | n + 1 => if bs.length ≤ 1024 then [bs] else bs.take 1024 :: piecesOf (bs.drop 1024) n

/-! ### Resources (R132) -/

/-- The 64-bit mask of two words. -/
def maskOfWords (ws : List Word) : Nat := wordAt ws 0 + 2 ^ 32 * wordAt ws 1

/-- The two words of a 64-bit mask. -/
def wordsOfMask (m : Nat) : List Word := [w32 (m % 2 ^ 32), w32 (m / 2 ^ 32)]

/-- The resource of field bus `b` of R77. -/
def busRes (b : Nat) : Nat := 8 + b

/-! ### Records of the running image (R77) -/

/-- The record of a type and instance, in a list of records. -/
def findRec (rs : List Rec) (ty inst : Nat) : Option Rec := rs.find? (fun r => r.ty == ty && r.inst == inst)

/-- Word `i` of the body of a record, 0 where the record is absent. -/
def recWord (rs : List Rec) (ty inst i : Nat) : Nat :=
  match findRec rs ty inst with
  | some r => wordAt r.body i
  | none => 0

/-- Word `i` of a record of the running image, 0 while none is in force. -/
def State.imgWord (s : State) (ty inst i : Nat) : Nat := if s.inForce then recWord s.img.recs ty inst i else 0

/-- The running image carries a record. -/
def State.hasRec (s : State) (ty inst : Nat) : Bool := s.inForce && (findRec s.img.recs ty inst).isSome

/-- ROLE, INSTANCE and the other fields of lane group g's group word in LANE_ROLES (R209), g from 4 to 8. -/
def State.groupWord (s : State) (g : Nat) : Nat := s.imgWord 3 0 (g - 4)

/-- The lane group that LANE_ROLES gives a role and instance, if any (R209). -/
def State.groupOf (s : State) (role inst : Nat) : Option Nat :=
  if s.inForce then
    (firstIx 5 (fun i => bitsOf (s.imgWord 3 0 i) 0 3 == role && bitsOf (s.imgWord 3 0 i) 3 1 == inst)).map (· + 4)
  else none

/-- The lane group and logical lane that carry Ethernet port `p`, if any (R209). -/
def State.ethLane (s : State) (p : Nat) : Option (Nat × Nat) :=
  (List.range 20).findSome? (fun i =>
    let w := s.imgWord 3 0 (i / 4)
    if s.inForce && bitsOf w 0 3 == 3 && bitsOf w (20 + 3 * (i % 4)) 3 == p then some (4 + i / 4, i % 4) else none)

/-- The ball lane of logical lane `l` of group `g` under LANE_REVERSE (R209). -/
def State.ballLane (s : State) (g l : Nat) : Nat := if bitAt (s.groupWord g) 10 then 3 - l else l

/-- The resource served by ball lane `l` of flex group `g`, 63 none (R213). -/
def State.laneRes (s : State) (g l : Nat) : Nat :=
  let w := s.groupWord g
  match bitsOf w 0 3 with
  | 1 => bitsOf w 3 1
  | 2 => 2 + bitsOf w 3 1
  | 3 =>
    let ll := if bitAt w 10 then 3 - l else l
    if bitsOf w (20 + 3 * ll) 3 < 4 then 4 + bitsOf w (20 + 3 * ll) 3 else 63
  | _ => 63

/-- ENTER_AGENTS of POWER_POLICY; BOARD only until an image is applied (R591). -/
def State.enterAgents (s : State) : Nat := if s.inForce then bitsOf (s.imgWord 0x11 0 0) 0 5 else 16

/-- ALLOW of POWER_POLICY (R591). -/
def State.allow (s : State) : Nat := bitsOf (s.imgWord 0x11 0 0) 8 4

end Sys2Proof.Machine
end

