-- ==== Sys2Proof/Machine/Barchan.lean ====
section
/-! DEFINITION. Machine/Barchan.lean: Barchan's queues: filing, eligibility, the choice of the next item, policing and
statistics (R298 to R324), and the commands WHEEL_SLOT and QUEUE_STATS' sampling. -/
namespace Sys2Proof.Machine

/-! ### Entries and selectors (R311, R312) -/

/-- The bank in force for entry `e` (R311). -/
def State.selOf (s : State) (e : Nat) : Nat :=
  if e < 340 then s.get (F.QSTATE_q_SEL e) else s.get (F.PSTATE_p_SEL (e - 340))

/-- Word `n` of entry `e` in the bank in force. -/
def State.entry (s : State) (e n : Nat) : Nat := s.get (F.BANK_b_e_Wn_W (s.selOf e) e n)

/-- RATE of a queue in force. -/
def State.qRate (s : State) (q : Nat) : Nat := bitsOf (s.entry q 0) 0 24
/-- BURST of a queue in force. -/
def State.qBurst (s : State) (q : Nat) : Nat := bitsOf (s.entry q 1) 0 24
/-- ENABLE of a queue in force. -/
def State.qEnabled (s : State) (q : Nat) : Bool := bitAt (s.entry q 0) 31
/-- LEVEL of a queue in force. -/
def State.qLevel (s : State) (q : Nat) : Nat := bitsOf (s.entry q 2) 16 3
/-- QUANTUM of a queue in force. -/
def State.qQuantum (s : State) (q : Nat) : Nat := bitsOf (s.entry q 2) 0 16
/-- A queue is CREDIT and not CAL (R300). -/
def State.qIsCredit (s : State) (q : Nat) : Bool := bitAt (s.get (F.QMAP_q_W q)) 0
/-- RESOURCE of a queue, 63 none (R300). -/
def State.qRes (s : State) (q : Nat) : Nat := bitsOf (s.get (F.QMAP_q_W q)) 8 6
/-- RESOURCE of entry `e` (R300, R315). -/
def State.entryRes (s : State) (e : Nat) : Nat :=
  if e < 340 then s.qRes e else bitsOf (s.get (F.PMAP_p_W (e - 340))) 0 6
/-- OVERHEAD of a queue as a length: bytes, or 100 ns units on a field queue (R302). -/
def State.qOverhead (s : State) (q : Nat) : Nat :=
  bitsOf (s.get (F.QMAP_q_W q)) 2 6 * (if q < 320 then 1 else 100)

/-- The counted length of an item in a queue (R302). -/
def State.counted (s : State) (q : Nat) (i : QItem) : Nat := i.len + s.qOverhead q

/-- The bytes queued (R323, R326). -/
def State.qDepth (s : State) (q : Nat) : Nat := ((s.queue q).items.map (·.len)).sum

/-- DEPTH_MAX of a queue in bytes, or ns on a field queue (R300, R302). -/
def State.qDepthMax (s : State) (q : Nat) : Nat := bitsOf (s.get (F.QMAP_q_W q)) 16 14 * 1024

/-- A queue of a Caravan UP direction or a field bus holds its sources back, where others drop or discard (R309, R312). -/
def holdsBack (q : Nat) : Bool := (q < 256 && q / 32 % 2 == 1) || 320 ≤ q

/-- A queue that holds its sources back takes another item: it is enabled and holds less than DEPTH_MAX (R309, R312). -/
def State.qRoom (s : State) (q : Nat) : Bool := s.qEnabled q && decide (s.qDepth q < s.qDepthMax q)

/-- A queue reserves nothing at its direction's width (R319). -/
def State.qShed (s : State) (q : Nat) : Bool :=
  q < 256 && decide (vAt s.bc.width (q / 32) < bitsOf (s.entry q 0) 24 2)

/-- The stream a queue feeds: 0 to 3 UP of a host port, 4 to 7 DOWN, 8 to 15 the switch ports, 16 to 35 the field
buses (R307). -/
def streamOf (q : Nat) : Nat :=
  if q < 256 then (if q / 32 % 2 = 1 then q / 64 else 4 + q / 64)
  else if q < 320 then 8 + (q - 256) / 8
  else 16 + (q - 320)

/-- The queues of a stream in ascending number. -/
def streamQueues (st : Nat) : List Nat :=
  if st < 4 then (List.range 32).map (64 * st + 32 + ·)
  else if st < 8 then (List.range 32).map (64 * (st - 4) + ·)
  else if st < 16 then (List.range 8).map (256 + 8 * (st - 8) + ·)
  else [320 + (st - 16)]

/-! ### Eligibility -/

/-- The credit of a CREDIT queue at this instant, in 1/125,000 byte; ZERO_ON_EMPTY keeps that of an empty queue from rising above 0
(R305). -/
def State.qCredit (s : State) (q : Nat) : Int :=
  let b := s.queue q
  let c := min ((s.qBurst q * 125000 : Nat) : Int) (b.credit + ((s.qRate q * (s.clock.time - b.creditAt) : Nat) : Int))
  if bitAt (s.entry q 0) 27 && b.items.isEmpty then min c 0 else c

/-- A queue is eligible under its reservation (R303, R305, R319). -/
def State.qEligible (s : State) (q : Nat) : Bool :=
  let b := s.queue q
  s.qEnabled q && !b.items.isEmpty && !s.qShed q &&
    (if s.qIsCredit q then decide (0 ≤ s.qCredit q) else b.filing == .eligible && s.qRate q != 0)

/-- A queue may send as excess (R307). -/
def State.qExcess (s : State) (q : Nat) : Bool :=
  s.qEnabled q && !(s.queue q).items.isEmpty && bitAt (s.entry q 0) 26

/-- Keep the reserved and excess lists in step with a queue: it joins at the back, and leaves with its deficit set to
0 (R307). -/
def State.relist (s : State) (q : Nat) : State :=
  let r := s.qEligible q
  let x := s.qExcess q
  let s := if r && !s.bc.orderR.contains q then { s with bc := { s.bc with orderR := s.bc.orderR ++ [q] } }
    else if !r && s.bc.orderR.contains q then
      ({ s with bc := { s.bc with orderR := s.bc.orderR.filter (· != q) } } : State).modQueue q
        (fun b => { b with deficit := (0, b.deficit.2), fed := (false, b.fed.2) })
    else s
  if x && !s.bc.orderE.contains q then { s with bc := { s.bc with orderE := s.bc.orderE ++ [q] } }
  else if !x && s.bc.orderE.contains q then
    ({ s with bc := { s.bc with orderE := s.bc.orderE.filter (· != q) } } : State).modQueue q
      (fun b => { b with deficit := (b.deficit.1, 0), fed := (b.fed.1, false) })
  else s

/-- A queue leaves both lists of its level, its deficits set to 0 (R307). -/
def State.delist (s : State) (q : Nat) : State :=
  ({ s with bc := { s.bc with orderR := s.bc.orderR.filter (· != q), orderE := s.bc.orderE.filter (· != q) } } : State).modQueue q
    (fun b => { b with deficit := (0, 0), fed := (false, false) })

/-- Count the queues on the overflow list (R326). -/
def State.countOverflow (s : State) : State :=
  s.put F.BC_STATUS_OVF_USED (((List.range 340).filter (fun q => (s.queue q).filing == .overflow)).length)

/-- A queue is filed anew, the overflow list counted where it is concerned (R303, R304, R326). -/
def State.setFiling (s : State) (q e : Nat) (f : Filing) : State :=
  let was := (s.queue q).filing
  let s := s.modQueue q (fun b => { b with e := e, filing := f })
  if f == .overflow || was == .overflow then s.countOverflow else s

/-- File a non-empty CAL queue by its next eligible time (R303). -/
def State.file (s : State) (q : Nat) : State :=
  if s.qIsCredit q || (s.queue q).items.isEmpty then s.setFiling q (s.queue q).e .none
  else
    let rate := s.qRate q
    if rate = 0 then s.setFiling q (s.queue q).e .none
    else
      let now := s.clock.time * 65536
      let e := max (s.queue q).e (now - s.qBurst q * 125000 * 65536 / rate)
      let f : Filing :=
        if e ≤ now then .eligible
        else if e - now < 512000 * 65536 then .wheel (e / 65536 / 125)
        else .overflow
      s.setFiling q e f

/-- A CREDIT queue takes the credit it has gained up to now (R305). -/
def State.accrue (s : State) (q : Nat) : State :=
  if s.qIsCredit q then
    let c := s.qCredit q
    s.modQueue q (fun b => { b with credit := c, creditAt := s.clock.time })
  else s

/-- Every CREDIT queue takes its credit at the rate that held until now, before its values change (R305, R317). -/
def State.accrueAll (s : State) : State := s.each (List.range 340) State.accrue

/-- An item joins a queue that has room (R303, R305). -/
def State.join (s : State) (q : Nat) (i : QItem) : State :=
  let empty := (s.queue q).items.isEmpty
  let s := s.accrue q
  let s := s.modQueue q (fun b => { b with items := b.items ++ [i], headAt := if empty then s.clock.time else b.headAt })
  let s := if empty then s.file q else s
  s.relist q

/-- What the sources of a queue hold back joins it while there is room, at most `n` items (R309, R312). -/
def State.unholdN (s : State) (q : Nat) : Nat → State
  | 0 => s
  | n + 1 =>
    match (s.queue q).back with
    | [] => s
    | i :: t => if s.qRoom q then ((s.modQueue q (fun b => { b with back := t })).join q i).unholdN q n else s

/-- What the sources of a queue hold back joins it while there is room (R309, R312). -/
def State.unhold (s : State) (q : Nat) : State := s.unholdN q (s.queue q).back.length

/-- A queue takes a new item at once: it has room, and no source holds one back for it (R309, R312). -/
def State.qTakes (s : State) (q : Nat) : Bool := s.qRoom q && (s.queue q).back.isEmpty

/-- An item for a queue, numbered in the order of receipt (R394): it joins, or its source holds it back behind what it holds already
(R309, R312). -/
def State.enqueue (s : State) (q : Nat) (i : QItem) : State :=
  let i := { i with order := s.bc.joined }
  let s := { s with bc := { s.bc with joined := s.bc.joined + 1 } }
  if holdsBack q && !s.qTakes q then s.modQueue q (fun b => { b with back := b.back ++ [i] })
  else s.join q i

/-- A queue's items become `items` with none sent; `head` says that its head went (R323). -/
def State.setItems (s : State) (q : Nat) (items : List QItem) (head : Bool) : State :=
  let s := s.modQueue q (fun b => { b with items := items, headAt := if head then s.clock.time else b.headAt })
  ((s.file q).relist q).unhold q

/-- A queue keeps the items, queued and held back, for which `p` holds. -/
def State.keepItems (s : State) (q : Nat) (p : QItem → Bool) : State :=
  let head := match (s.queue q).items with
    | i :: _ => !p i
    | [] => false
  (s.modQueue q (fun b => { b with back := b.back.filter p })).setItems q ((s.queue q).items.filter p) head

/-- The head of a queue is taken out: under its reservation E or credit moves by its counted length, as excess neither
does (R303, R305, R308). -/
def State.takeHead (s : State) (q : Nat) (reserved : Bool) : State :=
  match (s.queue q).items with
  | [] => s
  | i :: t =>
    let l := s.counted q i
    let s := s.accrue q
    let rate := s.qRate q
    let s := s.modQueue q (fun b => { b with
      items := t, headAt := s.clock.time,
      e := if reserved && !s.qIsCredit q && rate != 0 then b.e + l * 125000 * 65536 / rate else b.e,
      credit := if reserved && s.qIsCredit q then b.credit - (l * 125000 : Nat) else b.credit,
      excess := if reserved then b.excess else b.excess + l })
    let s := if t.isEmpty && s.qIsCredit q && bitAt (s.entry q 0) 27 then
        s.modQueue q (fun b => { b with credit := min b.credit 0 }) else s
    let s := s.file q
    let s := s.bump (F.QSTATE_SENT_V q) 1
    let s := s.bumpPair (F.QSTATE_BYTES_LO_V q) (F.QSTATE_BYTES_HI_V q) l
    let s := s.put (F.QSTATE_EXCESS_KIB_V q) (min ((s.queue q).excess / 1024) (2 ^ 32 - 1))
    (s.relist q).unhold q

/-- A queue is emptied without sending (R312, R561, R572). -/
def State.flushQueue (s : State) (q : Nat) : State :=
  ((s.modQueue q (fun b => { b with items := [], back := [] })).setFiling q (s.queue q).e .none).relist q

/-! ### Choosing the next item (R307) -/

/-- Deficit round robin among the sendable queues of one level and list: `reserved` says which list (R307). -/
def State.drr (reserved : Bool) : Nat → State → List Nat → Option (Nat × State)
  | 0, _, _ => none
  | _ + 1, _, [] => none
  | n + 1, s, q :: rest =>
    let b := s.queue q
    let fed := if reserved then b.fed.1 else b.fed.2
    let d0 := if reserved then b.deficit.1 else b.deficit.2
    let d := if fed then d0 else d0 + s.qQuantum q
    let l := match b.items with
      | i :: _ => s.counted q i
      | [] => 0
    if l ≤ d then
      some (q, s.modQueue q (fun b =>
        if reserved then { b with deficit := (d - l, b.deficit.2), fed := (true, b.fed.2) }
        else { b with deficit := (b.deficit.1, d - l), fed := (b.fed.1, true) }))
    else
      let s := s.modQueue q (fun b =>
        if reserved then { b with deficit := (d, b.deficit.2), fed := (false, b.fed.2) }
        else { b with deficit := (b.deficit.1, d), fed := (b.fed.1, false) })
      let s := if reserved then { s with bc := { s.bc with orderR := s.bc.orderR.filter (· != q) ++ [q] } }
        else { s with bc := { s.bc with orderE := s.bc.orderE.filter (· != q) ++ [q] } }
      State.drr reserved n s (rest ++ [q])

/-- The sendable queues of a stream at a level in one list's order. -/
def State.candidates (s : State) (reserved : Bool) (st lvl : Nat) (sendable : Nat → Bool) : List Nat :=
  (if reserved then s.bc.orderR else s.bc.orderE).filter (fun q =>
    streamOf q == st && s.qLevel q == lvl && sendable q &&
      (reserved || (match (s.queue q).items with
        | i :: _ => !i.marked
        | [] => false)))

/-- As many turns as the round robin of some queues can need: a queue's deficit reaches its head's length after so many rounds as
QUANTUM goes into it (R307). -/
def State.drrTurns (s : State) (qs : List Nat) : Nat :=
  qs.length * (qs.foldl (fun m q =>
    max m ((match (s.queue q).items with
      | i :: _ => s.counted q i
      | [] => 0) / max 1 (s.qQuantum q))) 0 + 2)

/-- The choice of R307 for a stream: the queue whose head is to be sent, whether it is sent under its reservation, and
the state with the deficits moved. -/
def State.choose (s : State) (st : Nat) (sendable : Nat → Bool) : Option (Nat × Bool × State) :=
  let s := s.each (streamQueues st) (fun s q =>
    let b := s.queue q
    let s := if b.filing == .none && !b.items.isEmpty then s.file q else s
    s.relist q)
  let go (reserved : Bool) : Option (Nat × Bool × State) :=
    [7, 6, 5, 4, 3, 2, 1, 0].findSome? (fun lvl =>
      let qs := s.candidates reserved st lvl sendable
      (State.drr reserved (s.drrTurns qs) s qs).map (fun r => (r.1, reserved, r.2)))
  match go true with
  | some r => some r
  | none => go false

/-- The wheel entry of the present slot falls due: every queue filed there becomes eligible (R304). -/
def State.wheelDue (s : State) : State :=
  let now := s.clock.time / 125
  s.each (List.range 340) (fun s q =>
    match (s.queue q).filing with
    | .wheel w => if w ≤ now then (s.modQueue q (fun b => { b with filing := .eligible })).relist q else s
    | _ => s)

/-- At a tick boundary the overflow entries whose E lies fewer than 512,000 ns ahead are filed in the wheel (R304). -/
def State.overflowFile (s : State) : State :=
  (s.each (List.range 340) (fun s q =>
    match (s.queue q).filing with
    | .overflow => if (s.queue q).e < (s.clock.time + 512000) * 65536 then s.file q else s
    | _ => s)).countOverflow

/-! ### Policing (R321, R322) -/

/-- The colour of a metered packet: 0 green, 1 yellow, 2 red. `pre` is its pre-colour; PMAP.AWARE says whether it
counts, and `blind` metering ignores it (R321). -/
def State.meter (s : State) (p l pre : Nat) (blind : Bool) : Nat × State :=
  let e := 340 + p
  let w0 := s.entry e 0
  if !bitAt w0 31 then (0, s)
  else
    let cir := bitsOf w0 0 24
    let pir := bitsOf (s.entry e 1) 0 24
    let cbs := bitsOf (s.entry e 2) 0 24 * 125000
    let pbs := bitsOf (s.entry e 3) 0 24 * 125000
    let b := vAt s.bc.pol p
    let dt := s.clock.time - b.last
    let tc := min cbs (b.tc + cir * dt)
    let tp := min pbs (b.tp + pir * dt)
    let x := l * 125000
    let aware := bitAt (s.get (F.PMAP_p_W p)) 8 && !blind
    let c := if aware && pre == 2 then 2 else if tp < x then 2 else if (aware && pre == 1) || tc < x then 1 else 0
    let tp := if c = 2 then tp else tp - x
    let tc := if c = 0 then tc - x else tc
    (c, { s with bc := { s.bc with pol := vPut s.bc.pol p ⟨tc, tp, s.clock.time⟩ } })

/-- Meter a packet, count its colour and answer the action of ACT_G, ACT_Y or ACT_R: 0 pass, 1 mark, 2 drop (R322). -/
def State.police (s : State) (p l pre : Nat) (blind : Bool) : Nat × State :=
  let (c, s) := s.meter p l pre blind
  let act := bitsOf (s.entry (340 + p) 1) (24 + 2 * c) 2
  let s := s.bump (if c = 0 then F.PSTATE_GREEN_V p else if c = 1 then F.PSTATE_YELLOW_V p else F.PSTATE_RED_V p) 1
  if act = 2 then (2, s.raise 67 ⟨A.BC_EVT, 3, 1⟩) else (act, s)

/-! ### Statistics (R323, R324) -/

/-- The queues of a QUEUE_STATS set. -/
def statQueues (set : Nat) : List Nat :=
  if set < 8 then (List.range 32).map (32 * set + ·)
  else if set < 12 then (List.range 8).map (256 + 8 * (set - 8) + ·)
  else (List.range 20).map (320 + ·)

/-- The histogram bin of a value (R323). -/
def histBin (shift v : Nat) : Nat := if v < 2 ^ shift then 0 else min 15 (Nat.log2 v - shift + 1)

/-- One sample added to least, greatest and sum. -/
def addSample (first : Bool) (t : Nat × Nat × Nat) (v : Nat) : Nat × Nat × Nat :=
  if first then (v, v, v) else (min t.1 v, max t.2.1 v, t.2.2 + v)

/-- Head-of-line delay of a queue (R323). -/
def State.qDelay (s : State) (q : Nat) : Nat :=
  if (s.queue q).items.isEmpty then 0 else s.clock.time - (s.queue q).headAt

/-- Sample one queue, and latch and restart its window after WINDOW runs (R323, R324). -/
def State.sampleQueue (s : State) (q : Nat) : State :=
  let depth := s.qDepth q
  let delay := s.qDelay q
  let v := if s.flag F.STAT_CFG_HIST_SRC then depth else delay
  let bin := histBin (s.get F.STAT_CFG_BIN_SHIFT) v
  let w := (s.queue q).win
  let w : StatWin := { runs := w.runs + 1, depth := addSample (w.runs == 0) w.depth depth,
                       delay := addSample (w.runs == 0) w.delay delay, hist := vMod w.hist bin (· + 1) }
  let warn := s.get F.STAT_WARN_DELAY_NS
  let s := if warn != 0 && decide (warn < delay) then
      (s.raise 68 ⟨A.BC_EVT, 4, 1⟩).put F.BC_STATUS_WARN_Q q else s
  if w.runs < s.get F.STAT_CFG_WINDOW then s.modQueue q (fun b => { b with win := w })
  else
    let s := s.put (F.QSTAT_DEPTH_MIN_V q) w.depth.1
    let s := s.put (F.QSTAT_DEPTH_MAX_V q) w.depth.2.1
    let s := s.put (F.QSTAT_DEPTH_MEAN_V q) (w.depth.2.2 / w.runs)
    let s := s.put (F.QSTAT_DELAY_MIN_V q) w.delay.1
    let s := s.put (F.QSTAT_DELAY_MAX_V q) w.delay.2.1
    let s := s.put (F.QSTAT_DELAY_MEAN_V q) (w.delay.2.2 / w.runs)
    let s := s.bump (F.QSTAT_WINDOW_ID_V q) 1
    let s := s.each (List.range 16) (fun s i => s.put (F.QSTAT_HIST_V q i) (vAt w.hist i))
    s.modQueue q (fun b => { b with win := ⟨0, (0, 0, 0), (0, 0, 0), Vector.replicate 16 0⟩ })

/-- A chore whose previous run's work is still open skips its run (R63): CHORE_SKIP counts, CHORE_LAST_SKIP records the
slot and kind of the table entry that came due, and TIME_EVT.CHORE_SKIP is set. -/
def State.choreSkip (s : State) (kind slot : Nat) : State :=
  let s := s.bump F.CHORE_SKIP_COUNT 1
  let s := s.put F.CHORE_LAST_SKIP_SLOT slot
  let s := s.put F.CHORE_LAST_SKIP_KIND kind
  s.raise 6 F.TIME_EVT_CHORE_SKIP

/-- Chores run while the hub is in RUN or IDLE (R575, R581) with an image in force, since the chore table comes from the
image (R60). -/
def State.choresRun (s : State) : Bool := s.awake && s.inForce

/-- The enabled entries of the chore table as low and high words; an entry with a PERIOD is a listed register cell (R60). -/
def State.choreEntries (s : State) : List (Nat × Nat) :=
  s.regs.filterMap (fun c =>
    if A.CHORE_LO 0 ≤ c.1 && c.1 < A.CHORE_LO 1024 && c.1 % 8 == A.CHORE_LO 0 % 8 && bitsOf c.2.toNat 16 16 != 0 then
      some (c.2.toNat, s.reg (c.1 + 4))
    else none)

/-- The slot of the entry by which a chore runs next in this tick: enabled, of this KIND and ARG, its PHASE that of the tick, its
slot not past and not used by another chore (R60). -/
def State.choreDue (s : State) (kind arg : Nat) : Option Nat :=
  let t := s.clock.bound
  if !s.choresRun then none
  else
    (s.choreEntries.filter (fun e => bitsOf e.1 10 6 == kind && bitsOf e.2 16 16 == arg
        && t % bitsOf e.1 16 16 == bitsOf e.2 0 16 && decide (s.clock.choreNext ≤ t * 1000 + bitsOf e.1 0 10)
        && decide (s.clock.time / 125 ≤ t * 1000 + bitsOf e.1 0 10))).foldl
      (fun (m : Option Nat) e => some (match m with
        | some x => min x (bitsOf e.1 0 10)
        | none => bitsOf e.1 0 10)) none

/-- Slot `slot` of the tick has come and its chore takes it (R60). -/
def State.choreTurn (s : State) (slot : Nat) : State :=
  (s.advanceTo (s.clock.bound * 125000 + slot * 125)).modClock (fun c => { c with choreNext := c.bound * 1000 + slot + 1 })

/-- A chore of a kind and target comes to its slot: it skips its run while the work of the run before is open (R63), else it
does `act`; where no entry of the table makes it due, nothing happens (R60). -/
def State.chore (s : State) (kind arg : Nat) (isOpen : Bool) (act : State → State) : State :=
  match s.choreDue kind arg with
  | none => s
  | some slot => if isOpen then (s.choreTurn slot).choreSkip kind slot else act (s.choreTurn slot)

/-! ### Commands -/

/-- WHEEL_SLOT (R304): slot `slot` of the present tick begins; TIME moves to its start. -/
def execWheelSlot (slot : Fin 1000) (s : State) : Res :=
  if s.awake then
    .next (s.advanceTo (s.tick * 125000 + slot.val * 125)).wheelDue
  else .next s

/-- QUEUE_STATS (R323): sample every queue of the set. -/
def execQueueStats (set : Fin 17) (prevOpen : Bool) (s : State) : Res :=
  .next (s.chore 5 set.val prevOpen (fun s => s.each (statQueues set.val) State.sampleQueue))

end Sys2Proof.Machine
end

