-- ==== Sys2Proof/Machine/Pcs.lean ====
section
/-! DEFINITION. Machine/Pcs.lean: what a pair carries: levels, 66-bit blocks, the scrambler, codewords and their parity, block
and codeword lock, and the blocks of a packet with its CRC (R179, R180, R182, R215 to R224, R226, R228 to R230). -/
namespace Sys2Proof.Machine

/-! ### Levels (R179, R180, R182, R210) -/

/-- The level of a PAM4 symbol in Gear P: `a` is the bit emitted first (R179). -/
def pam4Level (a b : Bool) : Int :=
  match a, b with
  | false, false => -3
  | false, true => -1
  | true, true => 1
  | true, false => 3

/-- The level of a bit in the NRZ gears and the flex roles: 1 drives _P above _N; TX_POL inverts a flex lane (R180, R209). -/
def nrzLevel (inverted b : Bool) : Int := if b == inverted then -1 else 1

/-- The levels of a run of bits in a gear, in the order emitted; an odd bit at the end waits for its partner (R177, R179, R180). -/
def levelsOf (gear : Nat) : List Bool → List Int
  | a :: b :: t =>
    if gear = 3 then pam4Level a b :: levelsOf gear t else nrzLevel false a :: nrzLevel false b :: levelsOf gear t
  | [a] => if gear = 3 then [] else [nrzLevel false a]
  | [] => []

/-- 48 times what the three-tap filter drives, from the levels after, at and before symbol n (R182). -/
def firOut (cm1 c0 cp1 next here before : Int) : Int := cm1 * next + c0 * here + cp1 * before

/-! ### Blocks (R215, R216): BT holds the type codes of control blocks -/

namespace BT
def idle : Nat := 0x0A
def pktStart : Nat := 0x1B
def pktEnd : Nat := 0x2C
def ackNak : Nat := 0x3D
def credit : Nat := 0x4E
def beacon : Nat := 0x5F
def echo : Nat := 0x6A
def turn : Nat := 0x7B
def marker : Nat := 0x8C
def train : Nat := 0x9D
end BT

/-- A control block with this payload (R215). -/
def ctlBlk (payload : Nat) : Blk := ⟨0b10, BitVec.ofNat 64 payload⟩

/-- A data block (R215). -/
def dataBlk (payload : Nat) : Blk := ⟨0b01, BitVec.ofNat 64 payload⟩

/-- The type of a control block: its first payload byte (R216). -/
def blkType (b : Blk) : Nat := bitsOf b.pay.toNat 0 8

/-- The control types that R216 lists. -/
def knownType (t : Nat) : Bool :=
  [BT.idle, BT.pktStart, BT.pktEnd, BT.ackNak, BT.credit, BT.beacon, BT.echo, BT.turn, BT.marker, BT.train].contains t

/-- The 66 bits of a block in the order transmitted (R215). -/
def blkBits (b : Blk) : List Bool :=
  b.hdr.getLsbD 1 :: b.hdr.getLsbD 0 :: (List.range 64).map (fun i => b.pay.getLsbD i)

/-! ### The scrambler (R217) -/

/-- The scrambler's restart: s(n-1) to s(n-58) all 1. -/
def scrOnes : Nat := 2 ^ 58 - 1

/-- s(n) = s(n-39) XOR s(n-58); bit i of the state is s(n-1-i). -/
def scrNext (st : Nat) : Nat := (st / 2 ^ 38 + st / 2 ^ 57) % 2

/-- The state after `k` scrambled bits and the `k` bits of the sequence, the first in bit 0. -/
def scrRun : Nat → Nat → Nat × Nat
  | 0, st => (st, 0)
  | k + 1, st =>
    let b := scrNext st
    let r := scrRun k ((2 * st + b) % 2 ^ 58)
    (r.1, b + 2 * r.2)

/-- A block through a pair's scrambler: the state after it and what the pair carries. Data payloads and bits [63:8] of control
blocks are scrambled, TRAIN, ALIGN_MARKER and parity are not; an ALIGN_MARKER restarts the sequence. The same operation
descrambles. -/
def scramble (st : Nat) (b : Blk) : Nat × Blk :=
  if b.hdr = 0b01 then
    let r := scrRun 64 st
    (r.1, ⟨b.hdr, b.pay ^^^ BitVec.ofNat 64 r.2⟩)
  else if b.hdr = 0b10 then
    if blkType b = BT.marker then (scrOnes, b)
    else if blkType b = BT.train then (st, b)
    else
      let r := scrRun 56 st
      (r.1, ⟨b.hdr, b.pay ^^^ BitVec.ofNat 64 (2 ^ 8 * r.2)⟩)
  else (st, b)

/-! ### Codewords (R218 to R221) -/

/-- Blocks of one codeword's message, and with its parity. -/
def cwMessage : Nat := 50
def cwLength : Nat := 55

/-- Twice an element of GF(2^10), with field polynomial x^10 + x^3 + 1 (R219). -/
def gfDouble (a : Nat) : Nat := if 1024 ≤ 2 * a then (2 * a) ^^^ 0x409 else 2 * a

/-- The product of two elements of GF(2^10) (R219). -/
def gfMul (a b : Nat) : Nat :=
  (List.range 10).foldl (fun acc i => gfDouble acc ^^^ (if bitAt b (9 - i) then a else 0)) 0

/-- A polynomial, highest coefficient first, times (x - r). -/
def polyRoot (p : List Nat) (r : Nat) : List Nat := List.zipWith (· ^^^ ·) (p ++ [0]) (0 :: p.map (gfMul r))

/-- g(x), the product of (x - α^i) for i from 0 to 31, highest coefficient first (R219). -/
def rsGen : List Nat := ((List.range 32).foldl (fun (s : List Nat × Nat) _ => (polyRoot s.1 s.2, gfDouble s.2)) ([1], 1)).1

/-- The parity symbols p0 to p31 of the message symbols m0, m1, ...: the remainder of m(x)·x^32 by g(x) (R220). -/
def rsParity (m : List Nat) : List Nat :=
  let g := rsGen.tail
  m.foldl (fun rem x => List.zipWith (· ^^^ ·) (rem.tail ++ [0]) (g.map (gfMul (x ^^^ rem.headD 0)))) (List.replicate 32 0)

/-- The number that bits spell, the first the least significant. -/
def bitsNat (l : List Bool) : Nat := l.foldr (fun b n => bit1 b + 2 * n) 0

/-- The first `n` symbols of 10 bits of a run of bits, the first bit of each its least significant (R219). -/
def symbolsOf : Nat → List Bool → List Nat
  | 0, _ => []
  | n + 1, l => bitsNat (l.take 10) :: symbolsOf n (l.drop 10)

/-- The 330 message symbols of a codeword's 50 message blocks, sync headers included (R219). -/
def cwSymbols (bs : List Blk) : List Nat := symbolsOf 330 (bs.flatMap blkBits)

/-- The five parity blocks of a codeword's message: 320 payload bits with p0 first, each symbol least significant bit first, and
headers 11 (R220). -/
def parityBlks (bs : List Blk) : List Blk :=
  let v := (rsParity (cwSymbols bs)).foldr (fun p n => p + 1024 * n) 0
  (List.range 5).map (fun i => ⟨0b11, BitVec.ofNat 64 (v / 2 ^ (64 * i))⟩)

/-- A codeword with this many symbols in error is corrected; else it is uncorrectable (R221). -/
def cwCorrects (errors : Nat) : Bool := decide (errors ≤ 16)

/-! ### Lock (R222, R223, R226) -/

/-- A sync header is valid; 11 only in FEC gears (R215, R222). -/
def hdrValid (fec : Bool) (x : BitVec 2) : Bool := x == 0b01 || x == 0b10 || (fec && x == 0b11)

/-- A receiver that hunts: its bit offset within a block, and the valid headers in a row; an invalid header slips one bit
(R222). -/
def huntStep (fec : Bool) (p : Nat × Nat) (x : BitVec 2) : Nat × Nat :=
  if hdrValid fec x then (p.1, p.2 + 1) else ((p.1 + 1) % 66, 0)

/-- The offset at which these headers give block lock from a hunt at `phase`: 128 valid ones in a row at their end (R222). -/
def huntLock (fec : Bool) (phase : Nat) (xs : List (BitVec 2)) : Option Nat :=
  let r := xs.foldl (huntStep fec) (phase, 0)
  if 128 ≤ r.2 then some r.1 else none

/-- Block lock is lost: 16 of the last 64 headers are invalid (R222). -/
def lockGone (fec : Bool) (xs : List (BitVec 2)) : Bool :=
  decide (16 ≤ ((xs.drop (xs.length - 64)).filter (fun x => !hdrValid fec x)).length)

/-- Five headers 11 stand from place `k` on. -/
def parityRun (xs : List (BitVec 2)) (k : Nat) : Bool := (List.range 5).all (fun i => xs.getD (k + i) 0b00 == 0b11)

/-- Codeword lock: the place in a codeword at which two runs of five headers 11 stand 55 blocks apart (R223). -/
def cwFound (xs : List (BitVec 2)) : Option Nat := firstIx cwLength (fun k => parityRun xs k && parityRun xs (k + cwLength))

/-- Codeword lock is lost: in each of three successive codewords fewer than three of the five parity places, the first at `k`,
carry 11 (R223). -/
def cwGone (xs : List (BitVec 2)) (k : Nat) : Bool :=
  decide (3 * cwLength ≤ xs.length) && (List.range 3).all (fun c =>
    decide (((List.range 5).filter (fun i => xs.getD (c * cwLength + k + i) 0b00 == 0b11)).length < 3))

/-- A stored alignment is accepted: 32 valid headers in a row and, with FEC, one parity run at the stored place (R226). -/
def regains (fec : Bool) (k : Nat) (xs : List (BitVec 2)) : Bool :=
  decide (32 ≤ xs.length) && (xs.drop (xs.length - 32)).all (hdrValid fec) && (!fec || parityRun xs k)

/-! ### Packets in blocks (R228 to R230) -/

/-- The bytes that a packet's CRC covers: header and payload, without padding (R229). -/
def pktBytes (p : Packet) : List Byte := toBytesLE 8 p.hdr.toNat ++ p.payload

/-- Data blocks that hold bytes in order, the last padded with zero bytes (R228). -/
def dataBlks : Nat → List Byte → List Blk
  | 0, _ => []
  | n + 1, bs => dataBlk (ofBytesLE (bs.take 8)) :: dataBlks n (bs.drop 8)

/-- PKT_END of a packet: COUNT and the CRC-32 with its first transmitted bit in bit 24 (R229). -/
def pktEndBlk (p : Packet) : Blk :=
  ctlBlk (BT.pktEnd + 2 ^ 8 * (p.payload.length % 2048) + 2 ^ 24 * crc32 (pktBytes p))

/-- The blocks of a packet (R228). -/
def pktBlks (p : Packet) : List Blk :=
  [ctlBlk BT.pktStart, dataBlk p.hdr.toNat] ++ dataBlks (ceilDiv p.payload.length 8) p.payload ++ [pktEndBlk p]

/-- A control block that may stand inside a packet (R230). -/
def mayInterleave (b : Blk) : Bool :=
  b.hdr == 0b10 && [BT.ackNak, BT.credit, BT.beacon, BT.echo, BT.turn, BT.marker].contains (blkType b)

/-- What blocks from a PKT_START on make: the packet, and whether it is whole (R229, R230, R233). Any arrangement that R230 does
not allow is a framing error. -/
def judgeBlks (bs : List Blk) : Arrival × Packet :=
  let bs := bs.filter (fun b => !mayInterleave b)
  let none_ : Packet := ⟨0, []⟩
  match bs with
  | start :: hdr :: rest =>
    let body := rest.dropLast
    let fin := rest.getLastD ⟨0, 0⟩
    let len := bitsOf hdr.pay.toNat 10 11
    let p : Packet := ⟨hdr.pay, (body.flatMap (fun b => toBytesLE 8 b.pay.toNat)).take len⟩
    if start.hdr = 0b10 && blkType start = BT.pktStart && hdr.hdr = 0b01 && body.all (fun b => b.hdr == 0b01)
        && fin.hdr = 0b10 && blkType fin = BT.pktEnd && bitsOf fin.pay.toNat 8 11 = len && body.length = ceilDiv len 8 then
      (if bitsOf fin.pay.toNat 24 32 = crc32 (pktBytes p) then .good else .badCrc, p)
    else (.framing, none_)
  | _ => (.framing, none_)

/-! ### Markers (R224) -/

/-- Positions of a marker period: codewords with FEC, blocks without. -/
def markerPeriod (fec : Bool) : Nat := if fec then 256 else 12800

/-- An ALIGN_MARKER of direction UP (R224). -/
def markerBlock (pair act : Nat) (join : Bool) (count pos : Nat) : Nat :=
  BT.marker + 2 ^ 8 * (pair % 4) + 2 ^ 10 + 2 ^ 11 * (act % 16) + 2 ^ 15 * bit1 join + 2 ^ 16 * (count % 2 ^ 32)
    + 2 ^ 48 * (pos % 2 ^ 16)

end Sys2Proof.Machine
end

