-- ==== Sys2Proof/Machine/Replies.lean ====
section
/-! DEFINITION. Machine/Replies.lean: how a reply or a hub-originated frame leaves on the transport that carried its
command (R116, R118, R119, R268), the open non-posted commands and their completion. -/
namespace Sys2Proof.Machine

/-- Word 0 of a tunnel's table entry (R269). -/
def State.tunW0 (s : State) (h n : Nat) : Nat := s.get (F.CV_TUN_n_W0_W h n)

/-- TYPE of a tunnel; 15 unused (R269), and unused while no image is in force. -/
def State.tunType (s : State) (h n : Nat) : Nat := if s.inForce then bitsOf (s.tunW0 h n) 0 4 else 15

/-- A tunnel allows DOWN (R269). -/
def State.tunDown (s : State) (h n : Nat) : Bool := bitAt (s.tunW0 h n) 4

/-- A tunnel allows UP (R269). -/
def State.tunUp (s : State) (h n : Nat) : Bool := bitAt (s.tunW0 h n) 5

/-- The Barchan UP queue of a tunnel (R299). -/
def State.upQueue (s : State) (h n : Nat) (prio : Bool) : Nat :=
  64 * h + 32 + bitsOf (s.tunW0 h n) (if prio then 16 else 11) 5

/-- The first tunnel of a type on a host port that satisfies `p`. -/
def State.findTun (s : State) (h ty : Nat) (p : Nat → Bool) : Option Nat :=
  firstIx 64 (fun n => s.tunType h n == ty && p n)

/-- One packet of a message joins the UP queue of its tunnel; `posted` for a posted-class TLP (R263). Of the hub's own packets none
goes by QUEUE_PRI, since no rule names one (DESIGN CHOICE, log entry 120). -/
def State.queueUp (s : State) (h n tsf : Nat) (last : Bool) (reply : Option (Nat × Nat)) (bs : List Byte)
    (posted : Bool := false) : State :=
  s.enqueue (s.upQueue h n false)
    ⟨.cv n (s.tunType h n) tsf posted last false false reply, bs, 8 * ceilDiv bs.length 8, false, 0⟩

/-- A management or field reply frame goes to a host by a tunnel, cut into packets of 1,024 bytes; its status word is
sampled when the first packet leaves (R119, R140, R267). -/
def State.replyUp (s : State) (h n tag op result bus : Nat) (data : List Word) : State :=
  let bs := replyBytes 0 tag op data
  let pieces := piecesOf bs (bs.length / 1024)
  let field := s.tunType h n == 4
  (s.each (List.range pieces.length) (fun s i =>
    let tsf := if field then bus % 32 + 2 ^ 5 * 1 + 2 ^ 7 * (tag % 256) + 2 ^ 15 * i else tag % 256 + 2 ^ 8 * i
    s.queueUp h n tsf (i + 1 == pieces.length) (if i = 0 then some (h, result) else none) (pieces.getD i [])))

/-- A reply leaves on the transport that carried the command, and is dropped where that transport cannot carry it
(R91, R118, R140). -/
def State.reply (s : State) (a : Nat) (tr : Transport) (tag op result : Nat) (data : List Word) (bus : Nat := 31) :
    State :=
  match tr with
  | .tunnel n => if a < 4 && s.linkUp a then s.replyUp a n.val tag op result bus data else s
  | .usb => if a < 4 then { s with usbQ := vMod s.usbQ a (· ++ [⟨result, tag, op, data⟩]) } else s
  | .spi => { s with spiQ := s.spiQ ++ [⟨result, tag, op, data⟩] }

/-- Replies queued for MGMT_SPI: at most 8; one beyond them waits for a place (R121, DESIGN CHOICE, log entry 110). -/
def State.spiQueued (s : State) : Nat := min s.spiQ.length 8

/-- Replies queued on EP2 of a face: at most 16 (R449, log entry 110). -/
def State.usbQueued (s : State) (h : Nat) : Nat := min (vAt s.usbQ h).length 16

/-! ### Open non-posted commands (R127, R149) -/

/-- A non-posted command is open. -/
def State.openNp (s : State) (a : Nat) (tr : Transport) (tag op addr len : Nat) : State :=
  s.modAgent a (fun g => { g with openCmds := g.openCmds ++ [⟨tr, tag, op, addr, len, s.tick, false⟩] })

/-- An agent has a non-posted command with this TAG open (R117). -/
def State.tagOpen (s : State) (a tag : Nat) : Bool := (s.agent a).openCmds.any (fun c => c.tag == tag)

/-- The open command with this TAG. -/
def State.openCmd (s : State) (a tag : Nat) : Option OpenCmd := (s.agent a).openCmds.find? (fun c => c.tag == tag)

/-- Close an open command without a reply. -/
def State.closeNp (s : State) (a tag : Nat) : State :=
  s.modAgent a (fun g => { g with openCmds := g.openCmds.filter (fun c => c.tag != tag) })

/-- Complete an open command: it closes and its reply leaves (R118). -/
def State.complete (s : State) (a tag result : Nat) (data : List Word) : State :=
  match s.openCmd a tag with
  | some c => if c.orphan then s.closeNp a tag else (s.closeNp a tag).reply a c.tr tag c.opcode result data (fieldIx c.addr)
  | none => s

/-- The answer to a frame that is not kept open (R116, R118). -/
def State.answer (s : State) (a : Nat) (tr : Transport) (f : Frame) (result : Nat) (data : List Word) : State :=
  s.reply a tr (frameTag f) (frameOp f) result data (fieldIx f.w1.toNat)

/-- Non-posted commands open in the whole chip (R19, R149). -/
def State.npChip (s : State) : Nat := ((List.range 5).map (fun a => (s.agent a).openCmds.length)).sum

/-- The status word of a reply that leaves now is sampled, and the agent's last reply and status word are noted (R140, R145,
R146). -/
def State.replyLeaves (s : State) (a tag op result : Nat) : Nat × State :=
  let st := s.statusWord a result
  (st, (s.modAgent a (fun g => { g with lastTag := tag, lastOp := op, lastResult := result, lastStatus := st })).statusSent a)

/-- The face runs at high speed. -/
def State.faceHigh (s : State) (h : Nat) : Bool := s.get (F.UF_STATUS_SPEED h) == 2

/-- wMaxPacketSize of the bulk endpoints (R447). -/
def State.bulkSize (s : State) (h : Nat) : Nat := if s.faceHigh h then 512 else 64

/-- The packets of a transfer: full ones, then a short one, which is empty where the length is a multiple of the size (R449). -/
def usbPackets (size : Nat) (bytes : List Byte) : List (List Byte) :=
  (List.range (bytes.length / size + 1)).map (fun i => (bytes.drop (i * size)).take size)

/-- The oldest reply queued on EP2 leaves as one transfer (R449). -/
def State.usbLeaves (s : State) (h : Nat) : State :=
  match vAt s.usbQ h with
  | [] => s
  | r :: t =>
    let x := s.replyLeaves h r.tag r.opcode r.result
    let ps := usbPackets (s.bulkSize h) (replyBytes x.1 r.tag r.opcode r.data)
    let s := { x.2 with usbQ := vPut x.2.usbQ h t, us := { x.2.us with bufs := vMod x.2.us.bufs h (fun b => { b with ep2 := ps.getLastD [] }) } }
    (ps.foldl (fun s p => s.emit (.usb h 2 p)) s).bump (F.UF_MF_COUNT_REPLIES_OUT h) 1

end Sys2Proof.Machine
end

