-- ==== Sys2Proof/Machine/Stripe.lean ====
section
/-! DEFINITION. Machine/Stripe.lean: the transmitter of a host port's UP direction: rows over the stripe, codewords, markers, the
positions of the link layer's own control blocks and IDLE (R215 to R220, R224, R227 to R231, R253, R255). What a receive command
carries has passed correction, deskew and descrambling (log entry 20). -/
namespace Sys2Proof.Machine

/-! ### State codes of CV_STATUS.STATE (R261) -/

namespace L
def off : Nat := 0
def detect : Nat := 1
def ref : Nat := 2
def speed : Nat := 3
def eq : Nat := 4
def block : Nat := 5
def fec : Nat := 6
def active : Nat := 7
def recovery : Nat := 8
def turn : Nat := 9
def degraded : Nat := 10
end L

/-- STATE of host port `h`'s link. -/
def State.cvState (s : State) (h : Nat) : Nat := s.get (F.CV_STATUS_STATE h)

/-- A STATE code is one of the up states (R249). -/
def isUpState (st : Nat) : Bool := st == L.active || st == L.turn || st == L.degraded

/-- The port's link carries or trains: the hub is awake with an image in force, and the port is not isolated (R187, R248, R571,
R575). -/
def State.linkRuns (s : State) (h : Nat) : Bool := s.awake && s.inForce && s.unitRuns h

/-- A host's packets and time beacons reach the hub: its link runs and is up (R249, R575). -/
def State.hears (s : State) (h : Nat) : Bool := s.linkRuns h && s.linkUp h

/-- What a command of a port's link does: nothing where the link does not run. -/
def State.onLink (s : State) (h : Nat) (f : State → State) : Res := .next (if s.linkRuns h then f s else s)

/-- The ball pair that carries a logical pair under the attach orientation (R173). -/
def State.ballPair (s : State) (h l : Nat) : Nat := if s.get (F.LN_STATUS_LOGICAL h 0) = 2 then (l + 2) % 4 else l % 4

/-- Logical pairs in the UP stripe. -/
def State.upMask (s : State) (h : Nat) : Nat := s.get (F.CV_STATUS_UP_MASK h)
/-- Logical pairs in the DOWN stripe. -/
def State.downMask (s : State) (h : Nat) : Nat := s.get (F.CV_STATUS_DOWN_MASK h)
/-- Logical pairs marked failed. -/
def State.failedMask (s : State) (h : Nat) : Nat := s.get (F.CV_STATUS_FAILED h)
/-- The lowest logical pair of a mask. -/
def lowPair (m : Nat) : Nat := (firstIx 4 (fun i => bitAt m i)).getD 0
/-- Pairs in a mask. -/
def width4 (m : Nat) : Nat := popCount 4 m
/-- The logical pairs of a mask in ascending order. -/
def pairsIn (m : Nat) : List Nat := (List.range 4).filter (fun l => bitAt m l)

/-- The hub transmits on logical pair `l` (R174, R213). -/
def State.sends (s : State) (h l : Nat) : Bool := s.flag (F.LN_STATUS_DIR h (s.ballPair h l))

/-- The logical pairs that carry the UP direction: its stripe from ACTIVE on, before that the pairs that the hub transmits on and
that are not failed. -/
def State.txMask (s : State) (h : Nat) : Nat :=
  if L.active ≤ s.cvState h then s.upMask h else maskOf 4 (fun l => !bitAt (s.failedMask h) l && s.sends h l)

/-- The logical pairs that carry the DOWN direction, as `txMask`. -/
def State.rxMask (s : State) (h : Nat) : Nat :=
  if L.active ≤ s.cvState h then s.downMask h else maskOf 4 (fun l => !bitAt (s.failedMask h) l && !s.sends h l)

/-- FEC framing is in use (R218). -/
def State.fecOn (s : State) (h : Nat) : Bool := s.flag (F.CV_STATUS_FEC h)

/-- Bytes per pair per tick of a gear with or without FEC (R67). -/
def pairBytes (gear : Nat) (fec : Bool) : Nat :=
  if gear = 3 then 731600
  else if gear = 2 then (if fec then 387200 else 426136)
  else if fec then 193600 else 213064

/-- The transmitter of port `h` changes. -/
def State.modTx (s : State) (h : Nat) (f : Stripe → Stripe) : State := s.modLink h (fun l => { l with tx := f l.tx })

/-! ### Positions, rows and codewords (R217, R218, R220, R224, R227) -/

/-- Pair `p` carries a block: through its scrambler, and with FEC into its codeword. -/
def State.putBlk (s : State) (h p : Nat) (b : Blk) : State :=
  let r := scramble (vAt (s.link h).tx.scr p) b
  (s.modTx h (fun t => { t with
    scr := vPut t.scr p r.1
    word := if s.fecOn h then vMod t.word p (· ++ [r.2]) else t.word
    sent := t.sent + 1 })).emit (.blocks h p [r.2])

/-- A pair whose codeword holds its 50 message blocks sends the parity blocks (R218, R220). -/
def State.sealWord (s : State) (h p : Nat) : State :=
  let w := vAt (s.link h).tx.word p
  if w.length < cwMessage then s
  else (s.modTx h (fun t => { t with word := vPut t.word p [] })).emit (.blocks h p (parityBlks w))

/-- A row is complete: the next position, codeword and marker period (R218, R224). -/
def State.endRow (s : State) (h : Nat) : State :=
  let fec := s.fecOn h
  let t := (s.link h).tx
  if fec && t.blk + 1 < cwMessage then s.modTx h (fun t => { t with blk := t.blk + 1 })
  else
    let s := s.each (pairsIn (s.txMask h)) (fun s p => s.sealWord h p)
    let wraps := decide (markerPeriod fec ≤ t.pos + 1)
    s.modTx h (fun t => { t with blk := 0, pos := if wraps then 0 else t.pos + 1,
                                 count := if wraps then (t.count + 1) % 2 ^ 32 else t.count })

/-- An ALIGN_MARKER goes out on a pair, at the transmitter's COUNT and POS (R224). -/
def State.putMarker (s : State) (h p act : Nat) (join : Bool) : State :=
  let t := (s.link h).tx
  let m := markerBlock p act join t.count t.pos
  ((s.emit (.ctl h p m)).putBlk h p (ctlBlk m)).modTx h (fun t => { t with own := t.own + 1 })

/-- The row that falls on a marker position carries markers on every pair and no data (R224, R227). -/
def State.markerRow (s : State) (h : Nat) : State :=
  let t := (s.link h).tx
  if t.pos = 0 && t.blk = 0 && decide (L.block ≤ s.cvState h) then
    (s.each (pairsIn (s.txMask h)) (fun s p => s.putMarker h p (s.txMask h) false)).endRow h
  else s

/-- A row is open: the pairs that its next blocks go to (R227). -/
def State.openRow (s : State) (h : Nat) : State :=
  if (s.link h).tx.row.isEmpty then
    let s := s.markerRow h
    s.modTx h (fun t => { t with row := pairsIn (s.txMask h) })
  else s

/-- The pair that carries the stream's next block. -/
def State.nextPair (s : State) (h : Nat) : Nat := ((s.openRow h).link h).tx.row.headD 0

/-- A block of the stream is dealt to the next position of the stripe (R227). -/
def State.deal (s : State) (h : Nat) (b : Blk) : State :=
  let s := s.openRow h
  match (s.link h).tx.row with
  | p :: t => ((s.putBlk h p b).modTx h (fun x => { x with row := t })).iff t.isEmpty (fun s => s.endRow h)
  | [] => s

/-- IDLE fills a position that nothing claims (R231). -/
def State.dealIdle (s : State) (h : Nat) : State := s.deal h (ctlBlk BT.idle)

/-- The row in hand is filled with IDLE. -/
def State.fillRow (s : State) (h : Nat) : State :=
  s.each (List.range 4) (fun s _ => s.iff (!(s.link h).tx.row.isEmpty) (fun s => s.dealIdle h))

/-- The stream reaches a codeword boundary, without FEC a block boundary: the codeword in progress is filled with IDLE (R252,
R253, R255). -/
def State.fillWord (s : State) (h : Nat) : State :=
  s.each (List.range 200) (fun s _ =>
    let t := (s.link h).tx
    s.iff (!t.row.isEmpty || t.blk != 0) (fun s => s.dealIdle h))

/-- A pair outside the stripe carries a block in codewords of its own (R252). -/
def State.putLone (s : State) (h p : Nat) (b : Blk) : State := (s.putBlk h p b).sealWord h p

/-- A pair outside the stripe reaches the end of its codeword with blocks of one kind. -/
def State.finishWord (s : State) (h p : Nat) (b : Blk) : State :=
  s.each (List.range cwMessage) (fun s _ => s.iff (!(vAt (s.link h).tx.word p).isEmpty) (fun s => s.putLone h p b))

/-- The transmitter starts a stripe anew: no row or codeword in hand, at the start of a marker period. -/
def State.startStripe (s : State) (h : Nat) : State :=
  s.modTx h (fun t => { t with row := [], blk := 0, pos := 0, word := Vector.replicate 4 [], ctlDue := [] })

/-! ### Control blocks (R216, R231, R241) -/

/-- A control block goes out on a named pair: in Gear S as it is, from EQ on in the stream or, outside the stripe, in the pair's
own codewords. -/
def State.sendCtl (s : State) (h pair payload : Nat) : State :=
  let b := ctlBlk (payload % 2 ^ 64)
  let s := s.emit (.ctl h pair (payload % 2 ^ 64))
  if s.cvState h < L.eq then s.emit (.blocks h pair [b])
  else if bitAt (s.txMask h) pair then
    (s.each (List.range 4) (fun s _ => s.iff (s.nextPair h != pair) (fun s => s.dealIdle h))).deal h b
  else s.putLone h pair b

/-- A control block of the link layer joins the stream of the UP direction (R227, R231). -/
def State.sendUpCtl (s : State) (h payload : Nat) : State :=
  ((s.emit (.ctl h (s.nextPair h) (payload % 2 ^ 64))).deal h (ctlBlk (payload % 2 ^ 64))).modTx h
    (fun t => { t with own := t.own + 1 })

/-- One more of the link layer's own control blocks stays within 1 % of the positions of the direction in this tick (R231). -/
def State.ownRoom (s : State) (h : Nat) : Bool :=
  let positions := width4 (s.upMask h) * (pairBytes (s.get (F.CV_STATUS_GEAR h)) (s.fecOn h) / 8)
  decide (100 * ((s.link h).tx.own + 1) ≤ positions)

/-- One of the link layer's own control blocks goes out, or waits for the next tick's positions where 1 % of this tick's is used up
(R231). -/
def State.sendOwn (s : State) (h payload : Nat) : State :=
  if (s.link h).tx.ctlDue.isEmpty && s.ownRoom h then s.sendUpCtl h payload
  else s.modTx h (fun t => { t with ctlDue := t.ctlDue ++ [payload] })

/-- The oldest control block that waits goes out (R231). -/
def State.putOwn (s : State) (h : Nat) : State :=
  match (s.link h).tx.ctlDue with
  | p :: rest => if s.ownRoom h then (s.modTx h (fun t => { t with ctlDue := rest })).sendUpCtl h p else s
  | [] => s

/-- A TIME_BEACON takes the first position of a row: the lowest active pair (R241). -/
def State.sendBeacon (s : State) (h payload : Nat) : State := (s.fillRow h).sendUpCtl h payload

/-- A control block that is not to go out on pair `l` (R255). -/
def State.sendAround (s : State) (h l payload : Nat) : State :=
  if pairsIn (s.upMask h) = [l] then s
  else (s.each (List.range 4) (fun s _ => s.iff (s.nextPair h == l) (fun s => s.dealIdle h))).sendOwn h payload

/-- An ACK_NAK block (R234). -/
def ackBlock (seq : Nat) (nak : Bool) (cause : Nat) : Nat :=
  BT.ackNak + 2 ^ 8 * (seq % 4096) + 2 ^ 20 * bit1 nak + 2 ^ 21 * (cause % 8)

/-- A CREDIT block for two tunnels (R239). -/
def State.creditBlock (s : State) (h a b : Nat) : Nat :=
  BT.credit + 2 ^ 8 * a + 2 ^ 15 * bit1 (s.tunDown h a) + 2 ^ 16 * s.get (F.CV_TUN_n_CRED_RX_LIMIT h a)
    + 2 ^ 32 * b + 2 ^ 39 * bit1 (s.tunDown h b) + 2 ^ 40 * s.get (F.CV_TUN_n_CRED_RX_LIMIT h b)

/-- A tunnel's LIMIT is advertised as freed buffer has raised it (R239, R296). -/
def State.advertise (s : State) (h n : Nat) : State :=
  if s.tunDown h n then s.put (F.CV_TUN_n_CRED_RX_LIMIT h n) (vAt (s.link h).limit n) else s

/-- An ACK goes to the host (R234). -/
def State.putAck (s : State) (h : Nat) : State :=
  let x := s.get (F.CV_SEQ_RX_EXPECT h)
  let s := s.modLink h (fun l => { l with unacked := 0, arrived := 0, tx := { l.tx with ackDue := false, ackAt := some l.tx.sent } })
  s.sendUpCtl h (ackBlock (x + 4095) false 0)

/-- The next CREDIT block that waits goes to the host, where R231 leaves it a position: two in 256 (R231, R239). -/
def State.putCredit (s : State) (h : Nat) : State :=
  let t := (s.link h).tx
  let free := match t.credAt with
    | _ :: b :: _ => decide (b + 256 ≤ t.sent)
    | _ => true
  match t.credDue with
  | i :: rest =>
    if free && s.ownRoom h then
      let s := (s.advertise h (2 * i)).advertise h (2 * i + 1)
      (s.modTx h (fun t => { t with credDue := rest, credAt := t.sent :: t.credAt.take 1 })).sendUpCtl h
        (s.creditBlock h (2 * i) (2 * i + 1))
    else s
  | [] => s

/-- What waits goes out where R231 leaves it positions: control blocks, then one ACK and two CREDIT in 256 (R231). -/
def State.sendDue (s : State) (h : Nat) : State :=
  let s := s.each (List.range (s.link h).tx.ctlDue.length) (fun s _ => s.putOwn h)
  let t := (s.link h).tx
  let free := match t.ackAt with
    | some a => decide (a + 256 ≤ t.sent)
    | none => true
  ((s.iff (t.ackDue && free && s.ownRoom h) (fun s => s.putAck h)).putCredit h).putCredit h

/-- `n` positions pass that nothing claims (R231). -/
def State.idleBlocks (s : State) (h n : Nat) : State := s.each (List.range n) (fun s _ => (s.dealIdle h).sendDue h)

/-- An ACK is to go to the host (R235). -/
def State.sendAck (s : State) (h : Nat) : State := (s.modTx h (fun t => { t with ackDue := true })).sendDue h

/-- A pair of tunnels, 2i and 2i + 1, of which one takes packets from the host. -/
def State.creditPair (s : State) (h i : Nat) : Bool :=
  (s.tunDown h (2 * i) && s.tunType h (2 * i) != 15) || (s.tunDown h (2 * i + 1) && s.tunType h (2 * i + 1) != 15)

/-- Every tunnel's LIMIT is to go to the host, two tunnels a block (R239). -/
def State.sendCredits (s : State) (h : Nat) : State :=
  (s.modTx h (fun t => { t with
    credDue := t.credDue ++ (List.range 32).filter (fun i => s.creditPair h i && !t.credDue.contains i) })).sendDue h

/-- A packet is dealt into the stripe in its blocks (R227, R228); what waits for a position follows it. -/
def State.dealPacket (s : State) (h : Nat) (p : Packet) : State :=
  (((pktBlks p).foldl (fun s b => s.deal h b) (s.emit (.packet h p))).sendDue h)

/-! ### STATUS_ECHO (R145, R146, R243) -/

/-- The hub builds a STATUS_ECHO for a host, where the tick's 1 % leaves it a position (R146, R231). -/
def State.statusEcho (s : State) (h : Nat) : State :=
  let g := s.agent h
  let st := s.statusWord h g.lastResult
  let up := isUpState (s.cvState h) && (s.link h).parked.isNone
  let soon := match g.lastEcho with
    | some t => decide (s.clock.time < t + 250)
    | none => false
  if !up || soon || st == g.lastStatus || !s.ownRoom h then s
  else
    let s := s.sendUpCtl h (BT.echo + 2 ^ 8 * g.lastTag + 2 ^ 16 * g.lastOp + 2 ^ 24 * st)
    (s.modAgent h (fun g => { g with lastStatus := st, lastEcho := some s.clock.time })).statusSent h

/-- STATUS_ECHO (R145): ATTN_F or OWN_CHG of a host has risen. -/
def execStatusEcho (h : Hp) (s : State) : Res :=
  .next (if s.attnF h || (s.agent h).ownChg then s.statusEcho h else s)

end Sys2Proof.Machine
end

