-- ==== Sys2Proof/Machine/Equal.lean ====
section
/-! DEFINITION. Machine/Equal.lean: equalisation of host pairs: taps and presets, what a request does, the hub's search, the figure
of merit, coefficient sets and the receive settings stored with them (R182 to R185, R188 to R193, R244, R245). -/
namespace Sys2Proof.Machine

/-! ### TRAIN blocks (R244) -/

/-- A TRAIN block of a subtype, its fields in bits [63:16] given in place (R244). -/
def trainBlock (pair dir sub ready fields : Nat) : Nat :=
  BT.train + 2 ^ 8 * (pair % 4) + 2 ^ 10 * (dir % 2) + 2 ^ 11 * (sub % 16) + 2 ^ 15 * (ready % 2) + fields

/-- The hub sends a TRAIN block on pair `on` about `pair`; no rule says what READY shows, so it is a free value (log entry 126). -/
def State.sendTrain (s : State) (h on pair sub fields : Nat) : State :=
  (s.sendCtl h on (trainBlock pair 1 sub (s.freeVal 1) fields)).took

/-- SUBTYPE of a TRAIN block. -/
def trainSub (b : Nat) : Nat := bitsOf b 11 4

/-- The pair on which the hub answers about a pair that it receives: the other pair of its side where the hub sends on that, else
the lowest pair that it sends on (R175, log entry 127). -/
def State.returnPair (s : State) (h q : Nat) : Nat :=
  if bitAt (s.txMask h) (q ^^^ 1) then q ^^^ 1 else lowPair (s.txMask h)

/-! ### Coefficient sets (R189 to R191) -/

/-- The set of a direction, 0 DOWN and 1 UP, of one ball pair becomes valid or invalid (R191, R226). -/
def State.setSet (s : State) (h b d : Nat) (valid : Bool) : State :=
  s.put (if d = 1 then F.LN_STATUS_UP_VALID h b else F.LN_STATUS_DOWN_VALID h b) (bit1 valid)

/-- Coefficient sets and stored alignment of one ball pair become invalid or valid (R191, R226). -/
def State.setSets (s : State) (h b : Nat) (valid : Bool) : State := (s.setSet h b 1 valid).setSet h b 0 valid

/-- Both stored sets of a logical pair are valid. -/
def State.setsValid (s : State) (h l : Nat) : Bool :=
  s.flag (F.LN_STATUS_UP_VALID h (s.ballPair h l)) && s.flag (F.LN_STATUS_DOWN_VALID h (s.ballPair h l))

/-- Adaptation on a lane has moved its settings: CTLE from 0 to 36 and a gain step, which no rule gives (R188, log entry 128). -/
def State.adaptMove (s : State) (g b : Nat) : State :=
  ((s.put (F.LN_RXEQ_CTLE g b) (s.freeVal 16 % 37)).put (F.LN_RXEQ_VGA g b) (s.freeVal 20 / 2 ^ 16)).took

/-- Adaptation on a lane freezes where it stands (R188). -/
def State.adaptStop (s : State) (g b : Nat) : State :=
  if s.flag (F.LN_RXEQ_ADAPTING g b) then (s.adaptMove g b).put (F.LN_RXEQ_ADAPTING g b) 0 else s

/-- The receive settings of a pair go into its DOWN set (R190). -/
def State.storeRx (s : State) (h b : Nat) : State :=
  let r : RxSet := ⟨s.get (F.LN_RXEQ_CTLE h b), s.get (F.LN_RXEQ_VGA h b), s.freeVal 32⟩
  (s.modLink h (fun l => { l with down := vPut l.down b r })).took

/-- A receiver loads its settings from the pair's DOWN set (R189, R203). -/
def State.loadRx (s : State) (h b : Nat) : State :=
  let r := vAt (s.link h).down b
  (s.put (F.LN_RXEQ_CTLE h b) r.ctle).put (F.LN_RXEQ_VGA h b) r.vga

/-- The transmit taps of a pair go into its UP set (R190). -/
def State.storeTx (s : State) (h b : Nat) : State :=
  let r : TxSet := ⟨s.get (F.LN_TXEQ_C_M1 h b), s.get (F.LN_TXEQ_C0 h b), s.get (F.LN_TXEQ_C_P1 h b), s.get (F.LN_TXEQ_PRESET h b)⟩
  s.modLink h (fun l => { l with up := vPut l.up b r })

/-- Equalisation of a pair begins: an UP set that is not valid starts from the taps in use (R190). -/
def State.beginTx (s : State) (h b : Nat) : State := if s.flag (F.LN_STATUS_UP_VALID h b) then s else s.storeTx h b

/-- A transmitter takes its taps from the pair's UP set (R189, R203). -/
def State.loadTx (s : State) (h b : Nat) : State :=
  let r := vAt (s.link h).up b
  (((s.put (F.LN_TXEQ_C_M1 h b) r.m1).put (F.LN_TXEQ_C0 h b) r.c0).put (F.LN_TXEQ_C_P1 h b) r.p1).put (F.LN_TXEQ_PRESET h b) r.preset

/-- A pair leaves the DOWN direction: its receiver's adaptation freezes and its settings are stored (R188, R190). -/
def State.leaveDown (s : State) (h b : Nat) : State :=
  if s.flag (F.LN_RXEQ_ADAPTING h b) then (s.adaptStop h b).storeRx h b else s

/-- The adapted settings of every lane that adapts, as a tick boundary finds them (R188, log entry 128). -/
def State.adaptAll (s : State) : State :=
  s.each (List.range 36) (fun s i =>
    s.iff (s.flag (F.LN_RXEQ_ADAPTING (i / 4) (i % 4))) (fun s => s.adaptMove (i / 4) (i % 4)))

/-! ### Taps and requests (R182 to R185, R245) -/

/-- The presets of R183: magnitudes of c(-1) and c(+1). -/
def presetTaps (n : Nat) : Nat × Nat :=
  [(0, 0), (0, 4), (0, 8), (0, 12), (0, 16), (4, 0), (4, 4), (4, 8), (6, 12), (8, 12)].getD n (0, 0)

/-- A request for one tap: the magnitudes of the tap and c(0) after it, and the outcome (0 UPDATED, 1 MINIMUM, 2 MAXIMUM). -/
def tapRequest (req limit m c0 : Nat) : (Nat × Nat) × Nat :=
  match req with
  | 1 => if m = limit || c0 ≤ 24 then ((m, c0), 2) else ((m + 1, c0 - 1), 0)
  | 2 => if m = 0 then ((m, c0), 1) else ((m - 1, c0 + 1), 0)
  | _ => ((m, c0), 0)

/-- The taps of a lane as LN_TXEQ holds them: magnitudes of c(-1), c(0) and c(+1). -/
def State.txTaps (s : State) (g b : Nat) : Nat × Nat × Nat :=
  ((64 - s.get (F.LN_TXEQ_C_M1 g b)) % 64, s.get (F.LN_TXEQ_C0 g b), (64 - s.get (F.LN_TXEQ_C_P1 g b)) % 64)

/-- A lane takes taps given as magnitudes. -/
def State.setTaps (s : State) (g b m1 c0 p1 : Nat) : State :=
  ((s.put (F.LN_TXEQ_C_M1 g b) ((64 - m1) % 64)).put (F.LN_TXEQ_C0 g b) c0).put (F.LN_TXEQ_C_P1 g b) ((64 - p1) % 64)

/-- A lane takes preset `n` of R183. -/
def State.setPreset (s : State) (g b n : Nat) : State :=
  let m := presetTaps n
  (s.setTaps g b m.1 (48 - m.1 - m.2) m.2).put (F.LN_TXEQ_PRESET g b) n

/-- The taps after an EQ request and the two outcomes: c(-1) first, then c(+1); a preset reports in both (R184, R245). -/
def eqRequest (b : Nat) (t : Nat × Nat × Nat) : (Nat × Nat × Nat) × (Nat × Nat) :=
  let preset := bitsOf b 20 4
  if preset = 15 then
    let x := tapRequest (bitsOf b 16 2) 8 t.1 t.2.1
    let y := tapRequest (bitsOf b 18 2) 16 t.2.2 x.1.2
    ((x.1.1, y.1.2, y.1.1), (x.2, y.2))
  else if preset < 10 then
    let m := presetTaps preset
    ((m.1, 48 - m.1 - m.2, m.2), (0, 0))
  else (t, (3, 3))

/-- The sender's taps in an EQ block about pair `p` on ball pair `b`. -/
def State.eqTaps (s : State) (h b : Nat) : Nat :=
  2 ^ 40 * s.get (F.LN_TXEQ_C_M1 h b) + 2 ^ 46 * s.get (F.LN_TXEQ_C0 h b) + 2 ^ 52 * s.get (F.LN_TXEQ_C_P1 h b)

/-! ### The figure of merit (R192) -/

/-- The figure of merit of one eye from H and V, in steps. -/
def eyeFom1 (e : Nat × Nat) : Nat := min 255 (e.1 * e.2 / 16)

/-- The figure of merit of a pair from H and V of each eye, measured at a dwell of 2^16 UI with no mismatch allowed (R192). -/
def fomOf (eyes : List (Nat × Nat)) : Nat := eyes.foldl (fun m e => min m (eyeFom1 e)) 255

/-- The eyes of a lane: three in Gear P, else one (R192, R194). -/
def State.eyesOf (s : State) (g l : Nat) : Nat := if g < 4 && s.get (F.LN_STATUS_GEAR g l) = 3 then 3 else 1

/-! ### The hub's search (R193) -/

/-- A search begins: preset 0 is asked for. -/
def searchStart (e : EqSearch) : EqSearch := ⟨0, 0, 0, 0, 0, 0, (e.id + 1) % 16⟩

/-- The search asks for the move it has come to, or stops at 32 steps. -/
def searchMove (e : EqSearch) : EqSearch :=
  if e.steps = 32 then { e with phase := 13 } else { e with phase := 11, steps := e.steps + 1, id := (e.id + 1) % 16 }

/-- A move is settled: the next one, the next round, or the end after a round without gain. -/
def searchNext (e : EqSearch) : EqSearch :=
  if e.move < 3 then searchMove { e with move := e.move + 1 }
  else if e.gain = 0 then { e with phase := 13 }
  else searchMove { e with move := 0, gain := 0 }

/-- The outcome of a request comes, 0 UPDATED, with the figure of merit measured after it (R193). -/
def searchStep (e : EqSearch) (outcome fom : Nat) : EqSearch :=
  if e.phase < 10 then
    let e' := if e.phase = 0 || e.fom < fom then { e with best := e.phase, fom := fom } else e
    { e' with phase := e.phase + 1, id := (e.id + 1) % 16 }
  else if e.phase = 10 then searchMove { e with steps := 0, gain := 0, move := 0 }
  else if e.phase = 11 then
    if outcome = 0 && e.fom + 2 ≤ fom then searchNext { e with gain := e.gain + 1, fom := fom }
    else if outcome = 0 then { e with phase := 12, steps := e.steps + 1, id := (e.id + 1) % 16 }
    else searchNext e
  else if e.phase = 12 then searchNext e
  else e

/-- The preset that a search asks for, 15 none. -/
def searchPreset (e : EqSearch) : Nat := if e.phase < 10 then e.phase else if e.phase = 10 then e.best else 15

/-- The request fields of an EQ block for what a search asks: PRESET_REQ, or INC or DEC on one tap (R193, R244). -/
def searchReq (e : EqSearch) : Nat :=
  let inc := (e.move % 2 == 0) == (e.phase == 11)
  2 ^ 20 * searchPreset e + 2 ^ 24 * (e.id % 16)
    + (if e.phase ≤ 10 then 0 else 2 ^ (if e.move < 2 then 18 else 16) * (if inc then 1 else 2))

/-- The outcome that an EQ block reports for what a search asked: of the tap asked for, or of a preset. -/
def searchOutcome (e : EqSearch) (b : Nat) : Nat := bitsOf b (if e.phase ≤ 10 || 2 ≤ e.move then 28 else 30) 2

/-- The hub asks what the search on pair `q` has come to (R193, R244). -/
def State.searchAsk (s : State) (h q : Nat) : State :=
  let e := vAt (s.link h).search q
  let on := s.returnPair h q
  s.sendTrain h on q 2 (searchReq e + s.eqTaps h (s.ballPair h on))

/-- The hub begins its search on a pair that it receives (R193). -/
def State.searchBegin (s : State) (h q : Nat) : State :=
  (s.modLink h (fun l => { l with search := vMod l.search q searchStart })).searchAsk h q

/-- The search on a pair has ended. -/
def State.searched (s : State) (h q : Nat) : Bool := decide (13 ≤ (vAt (s.link h).search q).phase)

/-! ### Commands (R245) -/

/-- A pair is under equalisation: in the EQ state, or dropped and on its way back (R248, R257). -/
def State.equalising (s : State) (h p : Nat) : Bool :=
  (s.cvState h == L.eq && !bitAt (s.failedMask h) p)
    || (isUpState (s.cvState h) && bitAt (s.failedMask h) p
        && (vAt (s.link h).reEq p == 1 || vAt (s.link h).reEq p == 2))

/-- A request about the hub's transmitter of `p`, with a new REQ_ID: it acts, its UP set takes the taps where an outcome is UPDATED,
and it reports on the pair itself (R184, R185, R190, R245). -/
def State.coeffAct (s : State) (h p b : Nat) : State :=
  let l := s.ballPair h p
  let id := bitsOf b 24 4
  if vAt (s.link h).reqId p = some id then s
  else
    let r := eqRequest b (s.txTaps h l)
    let s := s.setTaps h l r.1.1 r.1.2.1 r.1.2.2
    let s := if bitsOf b 20 4 < 10 then s.put (F.LN_TXEQ_PRESET h l) (bitsOf b 20 4) else s
    let s := if r.2.1 = 0 || r.2.2 = 0 then s.storeTx h l else s
    let s := s.modLink h (fun k => { k with reqId := vPut k.reqId p (some id) })
    s.sendTrain h p p 2 (2 ^ 20 * 15 + 2 ^ 28 * r.2.1 + 2 ^ 30 * r.2.2 + 2 ^ 32 * id + s.eqTaps h l)

/-- The far end's report about its transmitter of `q`: its taps are kept where it accepted, with the last preset that it applied, and
the search goes on (R193, R213; DEDUCED, log entry 141). -/
def State.coeffReport (s : State) (h q b fom : Nat) : State :=
  let l := s.ballPair h q
  let e := vAt (s.link h).search q
  if 13 ≤ e.phase || bitsOf b 32 4 != e.id then s
  else
    let o := searchOutcome e b
    let s := if o = 0 then
        s.put (F.LN_FAREQ_TAPS h l)
          (bitsOf b 40 6 + 2 ^ 8 * bitsOf b 46 6 + 2 ^ 16 * bitsOf b 52 6 
            + 2 ^ 24 * (if searchPreset e < 10 then searchPreset e else bitsOf (s.get (F.LN_FAREQ_TAPS h l)) 24 4))
      else s
    let s := s.modLink h (fun k => { k with search := vPut k.search q (searchStep e o fom) })
    if s.searched h q then s else s.searchAsk h q

/-- COEFF_REQUEST (R193, R245): an EQ block about the transmitter of `pair`. The hub's own acts on its request; the far end's
answers the hub's search, with the H and V then measured of each eye. -/
def execCoeffRequest (h : Hp) (pair : Fin 4) (ask : EqIn) (s : State) : Res :=
  let b := ask.block.toNat
  s.onLink h (fun s => if !s.equalising h pair || trainSub b != 2 then s
    else if s.sends h pair then s.coeffAct h pair b
    else s.coeffReport h pair b (fomOf (ask.eyes.take (s.eyesOf h (s.ballPair h pair)))))

end Sys2Proof.Machine
end

