-- ==== Sys2Proof/Machine/Link.lean ====
section
/-! DEFINITION. Machine/Link.lean: the Caravan link of a host port: its training state machine, its replay and credits, its turns
and its width (R222 to R226, R232 to R257, R261), and the commands about them. -/
namespace Sys2Proof.Machine

/-- MIN_WIDTH of a direction, 0 DOWN and 1 UP (R259). -/
def State.minWidth (s : State) (h d : Nat) : Nat := bitsOf (s.get (F.CV_CFG0_W h)) (if d = 1 then 8 else 10) 2

/-- The pairs of UP and DOWN that are not failed reach each direction's MIN_WIDTH (R256, R259). -/
def State.widthOk (s : State) (h up down : Nat) : Bool :=
  decide (s.minWidth h 1 ≤ width4 up) && decide (s.minWidth h 0 ≤ width4 down)

/-- Set the two stripes, with the reports that follow them (R261, R326, R213). -/
def State.setMasks (s : State) (h up down : Nat) : State :=
  let s := s.put (F.CV_STATUS_UP_MASK h) up
  let s := s.put (F.CV_STATUS_DOWN_MASK h) down
  let s := s.put (F.PORT_SPLIT_h_CURRENT h) (width4 up)
  s.put (F.LG_STATUS_ACTIVE h) (maskOf 4 (fun b => (List.range 4).any (fun l =>
    bitAt (up ||| down) l && s.ballPair h l == b)))

/-- A TURN block: KIND 0 REQUEST, 1 ACK, 2 CANCEL, 3 DROP (R251). -/
def turnBlock (kind pair dir : Nat) (rejoin : Bool) (tick : Nat) : Nat :=
  BT.turn + 2 ^ 8 * (kind % 4) + 2 ^ 10 * (pair % 4) + 2 ^ 12 * (dir % 2) + 2 ^ 13 * bit1 rejoin
    + 2 ^ 16 * (tick % 2 ^ 48)

/-! ### The states and what they set -/

/-- STATE changes: STATE_CHG, LINK_UP, and what follows leaving or entering the up states: the time out of them, the
watch instant, heartbeat supervision (R143, R249, R261, R672), and adaptation, which needs live data (R188). -/
def State.setCv (s : State) (h st : Nat) : State :=
  let old := s.cvState h
  if old = st then s
  else
    let s := s.put (F.CV_STATUS_STATE h) st
    let s := s.put (F.CV_STATUS_LINK_UP h) (bit1 (isUpState st))
    let s := s.raise (16 + 8 * h) (F.CV_EVT_STATE_CHG h)
    if isUpState st then
      let s := s.modLink h (fun l => { l with downSince := none, parked := none })
      s.modOwn (fun o => { o with watch := vPut o.watch h none, linkTrig := vPut o.linkTrig h false })
    else if isUpState old then
      let t := s.clock.time
      ((s.modLink h (fun l => { l with downSince := some t })).hbDisarm h).each (List.range 4) (fun s b => s.leaveDown h b)
    else s

/-- LN_STATUS.STATE of every ball pair of a host port. -/
def State.lanesTo (s : State) (h st : Nat) : State := s.each (List.range 4) (fun s b => s.put (F.LN_STATUS_STATE h b) st)

/-- The directions of R174: even logical pairs UP, odd ones DOWN. -/
def State.startDirs (s : State) (h : Nat) : State :=
  s.each (List.range 4) (fun s l => s.put (F.LN_STATUS_DIR h (s.ballPair h l)) ((l + 1) % 2))

/-- The forwarded reference starts on SBU1 and SBU2 (R45). -/
def State.refOn (s : State) (h : Nat) : State :=
  if (s.link h).ref then s else (s.modLink h (fun l => { l with ref := true })).emit (.sbuClock h true)

/-- The forwarded reference stops (R45). -/
def State.refOff (s : State) (h : Nat) : State :=
  if (s.link h).ref then (s.modLink h (fun l => { l with ref := false })).emit (.sbuClock h false) else s

/-- Everything the link has locked, measured and searched is lost. -/
def State.dropLocks (s : State) (h : Nat) : State :=
  (s.modLink h (fun l => { l with
    blockLock := 0, cwLock := 0, aligned := 0, recovering := 0, marker := none, qualified := 0, latDone := false,
    latCount := 0, latSum := 0, pings := [], turn := none, turnTries := 0, eqCount := Vector.replicate 4 0, eqPhase := 0,
    echoed := false, echoResume := false, goSeen := 0, rx := { l.rx with got := 0, tailBad := 0 },
    search := Vector.map (fun (e : EqSearch) => { e with phase := 13 }) l.search,
    reEq := Vector.replicate 4 0 })).startStripe h

/-- What the port's lanes forget outside training and traffic: sets, inversion, qualification and its retries (R176, R191, R202). -/
def State.lanesForget (s : State) (h : Nat) : State :=
  let s := s.put (F.LG_STATUS_QUALIFYING h) 0
  let s := s.each (List.range 4) (fun s b => ((s.adaptStop h b).setSets h b false).put (F.LN_STATUS_RX_INV h b) 0)
  { s with eyes := (List.range 4).foldl (fun v b => vMod v (4 * h + b) (fun e => { e with tries := 0 })) s.eyes }

/-- Gear S, with every transmitter at preset P0 (R178). -/
def State.gearS (s : State) (h : Nat) : State :=
  let s := (s.put (F.CV_STATUS_GEAR h) 0).put (F.CV_STATUS_FEC h) 0
  let s := s.put (F.LG_STATUS_QUALIFYING h) 0
  s.each (List.range 4) (fun s b => ((s.adaptStop h b).put (F.LN_STATUS_GEAR h b) 0).setPreset h b 0)

/-- The link is in neither REF nor any later state: stripes empty, marks cleared, nothing held to resume. -/
def State.linkIdle (s : State) (h : Nat) : State :=
  let s := s.dropLocks h
  let s := s.modLink h (fun l => { l with held := false, cap := none })
  let s := s.setMasks h 0 0
  let s := s.put (F.CV_STATUS_FAILED h) 0
  (s.lanesTo h 0).lanesForget h

/-- The link goes to OFF: transmitters idle, reference stopped, sets invalid (R191, R248). -/
def State.linkOff (s : State) (h : Nat) : State := ((s.setCv h L.off).linkIdle h).refOff h

/-- Every pair that is not failed trains. -/
def State.lanesTrain (s : State) (h : Nat) : State :=
  s.each (List.range 4) (fun s l => if bitAt (s.failedMask h) l then s else s.put (F.LN_STATUS_STATE h (s.ballPair h l)) 1)

/-- The link enters REF: the forwarded reference runs (R45, R174, R178, R248). -/
def State.linkRef (s : State) (h : Nat) : State :=
  let s := ((s.setCv h L.ref).dropLocks h).refOn h
  let s := ((s.gearS h).startDirs h).lanesTrain h
  s.each (List.range 4) (fun s b => s.put (F.LN_STATUS_RX_INV h b) 0)

/-- DETECT leads to REF while the Caravan mode stays entered, unless three REF failures came in a row, and where the link runs
(R187, R248, R575). -/
def State.tryRef (s : State) (h : Nat) : State :=
  if s.linkRuns h && s.cvState h = L.detect && (s.link h).entered && decide ((s.link h).refFails < 3) then s.linkRef h else s

/-- The link enters DETECT: sets invalid, failure marks cleared, no state to resume (R191, R202, R246). -/
def State.linkDetect (s : State) (h : Nat) : State := ((s.setCv h L.detect).linkIdle h).tryRef h

/-! ### SPEED (R246, R248) -/

/-- The gears, as a mask of codes, that the hub's own record allows in this attach (R246, R273). -/
def State.ownGears (s : State) (h : Nat) : Nat :=
  let top := min (bitsOf (s.get (F.CV_CFG0_W h)) 0 2) (s.link h).gearCap
  maskOf 4 (fun g => g ≤ top)

/-- The highest gear above S that both SPEED_CAP blocks, MAX_GEAR and the cable limit allow, if there is one (R178, R246). -/
def State.pickGear (s : State) (h : Nat) : Option Nat :=
  let m := s.ownGears h &&& bitsOf ((s.link h).cap.getD 0) 16 4
  [3, 2, 1].find? (fun g => bitAt m g && decide (g ≤ s.get (F.PD_CABLE_LIM_GEAR h)))

/-- FEC of the chosen gear (R246). -/
def State.pickFec (s : State) (h g : Nat) : Bool :=
  let cap := (s.link h).cap.getD 0
  let cfg := s.get (F.CV_CFG0_W h)
  g == 3 || (g == 2 && bitAt cap 20 && bitAt cfg 2) || (g == 1 && bitAt cap 21 && bitAt cfg 3)

/-- The hub sends SPEED_SEL on every pair that it transmits on, each with its number (R173, R244). -/
def State.speedSel (s : State) (h : Nat) (go : Bool) : State :=
  let l := s.link h
  let f := 2 ^ 16 * l.selGear + 2 ^ 18 * bit1 l.selFec + 2 ^ 19 * bit1 l.selResume + 2 ^ 21 * bit1 go
  s.each (pairsIn (s.txMask h)) (fun s p => s.sendTrain h p p 1 f)

/-- The hub chooses gear, FEC and whether to offer to resume, and sends its choice; without a gear that both ends allow it chooses
none (R246, R289). -/
def State.speedOffer (s : State) (h : Nat) : State :=
  match s.pickGear h with
  | some g =>
    let f := s.pickFec h g
    (s.modLink h (fun l => { l with selGear := g, selFec := f, selResume := l.held && !vAt s.own.noResume h })).speedSel h false
  | none => s

/-- The link enters SPEED: Gear S on the directions as they stand (R174, R178, R248). -/
def State.linkSpeed (s : State) (h : Nat) : State :=
  let s := ((s.setCv h L.speed).dropLocks h).setMasks h 0 0
  ((s.gearS h).lanesTrain h).speedOffer h

/-- A fall-back that lowers MAX_GEAR for this attach by one; below Gear L the link goes to DETECT (R248). -/
def State.lowerGear (s : State) (h : Nat) : State :=
  let top := min (bitsOf (s.get (F.CV_CFG0_W h)) 0 2) (s.link h).gearCap
  let s := s.modLink h (fun l => { l with gearCap := top - 1 })
  if top ≤ 1 then s.linkDetect h else s.linkSpeed h

/-! ### Pairs that fail (R191, R255, R256) -/

/-- SPLIT_EVALUATION and sheds look at the width: WIDTH_CHG (R260). -/
def State.widthChg (s : State) (h : Nat) : State := s.raise (17 + 8 * h) (F.CV_EVT_WIDTH_CHG h)

/-- A failed pair that was on its way back fails again: its sets, its qualification and its equalisation are lost (R191, R254,
R257). -/
def State.failAgain (s : State) (h l : Nat) : State :=
  let b := s.ballPair h l
  let s := (s.put (F.LN_STATUS_STATE h b) 4).clrBit (F.LG_STATUS_QUALIFYING h) b
  let s := (s.leaveDown h b).setSets h b false
  s.modLink h (fun k => { k with qualified := k.qualified &&& (15 - 2 ^ l), reEq := vPut k.reEq l 0,
                                 search := vMod k.search l (fun e => { e with phase := 13 }) })

/-- A logical pair is marked failed: out of both stripes, its sets invalid, LANE_FAILED logged and notice PAIR_FAILED
raised (R191, R255, R607, R617). -/
def State.markFailed (s : State) (h l : Nat) : State :=
  if bitAt (s.failedMask h) l then s.failAgain h l
  else
    let b := s.ballPair h l
    let s := s.put (F.CV_STATUS_FAILED h) (s.failedMask h ||| 2 ^ l)
    let s := s.setMasks h (s.upMask h &&& (15 - 2 ^ l)) (s.downMask h &&& (15 - 2 ^ l))
    let s := (s.put (F.LN_STATUS_STATE h b) 4).clrBit (F.LG_STATUS_QUALIFYING h) b
    let s := (s.leaveDown h b).setSets h b false
    let s := s.modLink h (fun k => { k with blockLock := k.blockLock &&& (15 - 2 ^ l),
                                            cwLock := k.cwLock &&& (15 - 2 ^ l),
                                            aligned := k.aligned &&& (15 - 2 ^ l),
                                            qualified := k.qualified &&& (15 - 2 ^ l),
                                            rx := { k.rx with got := k.rx.got &&& (15 - 2 ^ l) },
                                            tx := { k.tx with word := vPut k.tx.word l [], row := k.tx.row.filter (· != l) } })
    let s := s.logHw 7 2 0 0x17 h (h + 256 * b)
    s.notice 3 (4 * h + b)

/-- A direction left below its MIN_WIDTH sends the link to SPEED: in BLOCK or FEC as the EQ timeout does, in RECOVERY with the gear
as it was (R248, R256). -/
def State.narrowTraining (s : State) (h : Nat) : State :=
  if s.widthOk h (s.txMask h) (s.rxMask h) then s
  else if s.cvState h = L.block || s.cvState h = L.fec then s.lowerGear h
  else if s.cvState h = L.recovery then s.linkSpeed h
  else s

/-- A dropped pair is equalised again, in the direction it stands in first, unless its lane is lost for good (R202, R257). -/
def State.reEqualise (s : State) (h l : Nat) : State :=
  if !isUpState (s.cvState h) || decide (16 ≤ (vAt s.eyes (4 * h + s.ballPair h l)).tries) then s
  else
    let s := (s.beginTx h (s.ballPair h l)).modLink h (fun k =>
      { k with reEq := vPut k.reEq l 1, eqCount := vPut k.eqCount l 0, reqId := vPut k.reqId l none })
    if s.sends h l then s else s.searchBegin h l

/-- No turn is pending or running any more (R252). -/
def State.turnDone (s : State) (h : Nat) : State := s.modLink h (fun k => { k with turn := none, turnTries := 0 })

/-- A pair is dropped from an up link: DROP names it, and where the hub transmits that direction a marker with the reduced ACTIVE
goes out on each remaining pair at the next codeword boundary; the link narrows or, below MIN_WIDTH, goes to SPEED (R254 to
R257). -/
def State.dropPair (s : State) (h l : Nat) (send : Bool) : State :=
  let dir := if bitAt (s.upMask h) l then 1 else if bitAt (s.downMask h) l then 0
    else match (s.link h).turn with
      | some t => t.dir
      | none => s.get (F.LN_STATUS_DIR h (s.ballPair h l))
  let s := if send then s.sendAround h l (turnBlock 3 l dir false 0) else s
  let s := match (s.link h).turn with
    | some t => if t.pair = l then s.turnDone h else s
    | none => s
  let s := if dir = 1 then s.fillWord h else s
  let s := (s.markFailed h l).widthChg h
  let s := if dir = 1 then
      (s.each (pairsIn (s.upMask h)) (fun s p => s.putMarker h p (s.upMask h) false)).endRow h
    else s
  if !s.widthOk h (s.upMask h) (s.downMask h) then s.linkSpeed h
  else if isUpState (s.cvState h) then
    (s.setCv h L.degraded).reEqualise h l
  else s

/-- The link enters RECOVERY: RECOVER on every transmit pair with a stored set, the pending turn cancelled (R248). The pair of a turn
that had started stays in neither stripe (DESIGN CHOICE, log entry 144). -/
def State.linkRecovery (s : State) (h : Nat) : State :=
  let s := s.setCv h L.recovery
  let s := s.bump (F.CV_LOCK_LOSS_RECOVERIES h) 1
  let s := (s.turnDone h).modLink h (fun l => { l with
    blockLock := 0, cwLock := 0, aligned := 0, recovering := 0, marker := none,
    rx := { l.rx with got := 0, tailBad := 0 }, tx := { l.tx with ctlDue := [] } })
  s.each (pairsIn (s.upMask h)) (fun s p => s.iff (s.flag (F.LN_STATUS_UP_VALID h (s.ballPair h p))) (fun s => s.sendTrain h p p 6 0))

/-! ### Replay and credits -/

/-- CV_REPLAY follows the replay buffer (R261). -/
def State.replayRegs (s : State) (h : Nat) : State :=
  let l := (s.link h).replay
  (s.put (F.CV_REPLAY_FILL h) (min 262144 (l.map (fun p => p.payload.length + 8)).sum)).put
    (F.CV_REPLAY_OUTSTANDING h) l.length

/-- A replay: every unacknowledged packet is to be sent again (R237). -/
def State.startReplay (s : State) (h : Nat) : State :=
  (s.bump (F.CV_REPLAYS_COUNT h) 1).modLink h (fun l => { l with resend := l.replay, replays := l.replays + 1 })

/-- A replay is called for: with nothing unacknowledged there is none, and after REPLAY_LIMIT replays in a row without progress the
link enters RECOVERY instead (R237). -/
def State.replayDue (s : State) (h : Nat) : State :=
  if (s.link h).replay.isEmpty then s
  else if bitsOf (s.get (F.CV_CFG1_W h)) 16 4 ≤ (s.link h).replays && isUpState (s.cvState h) then
    (s.raise (18 + 8 * h) (F.CV_EVT_REPLAY_LIMIT h)).linkRecovery h
  else s.startReplay h

/-- ACK_SEQ frees every packet up to it, if it is among the unacknowledged ones; else it is ignored and counted
(R236). -/
def State.ackUpTo (s : State) (h seq : Nat) : State :=
  match (s.link h).replay.findIdx? (fun p => pktSeq p == seq) with
  | some i =>
    (s.modLink h (fun l => { l with replay := l.replay.drop (i + 1), replays := 0,
                                    resend := l.resend.filter (fun p =>
                                      (l.replay.drop (i + 1)).any (fun q => pktSeq q == pktSeq p)) })).replayRegs h
  | none => s.bump (F.CV_UNKNOWN_CTL_STALE_ACK h) 1

/-- ACK_MAX of a port in ns (R235, R259). -/
def State.ackMax (s : State) (h : Nat) : Nat := bitsOf (s.get (F.CV_CFG1_W h)) 8 8 * 125

/-- A NAK goes to the host at the next position, at most once for the same x within ACK_MAX slots (R235). -/
def State.sendNak (s : State) (h cause : Nat) : State :=
  let x := s.get (F.CV_SEQ_RX_EXPECT h)
  let again := match (s.link h).nakFor with
    | some (y, t) => y != x || decide (t + s.ackMax h ≤ s.clock.time)
    | none => true
  if again then
    let now := s.clock.time
    ((s.sendOwn h (ackBlock (x + 4095) true cause)).bump (F.CV_NAK_SENT_COUNT h) 1).modLink h
      (fun l => { l with nakFor := some (x, now) })
  else s

/-- The hub frees receive buffer of a DOWN tunnel: its LIMIT rises, which the next CREDIT advertises (R239, R299). -/
def State.freeUnits (s : State) (h n units : Nat) : State :=
  s.modLink h (fun l => { l with limit := vMod l.limit n (fun x => (x + units) % 65536) })

/-- A packet may start on a tunnel of the UP direction: it has credit, and the replay buffer keeps the room reserved
for tunnel 0 (R236, R238). -/
def State.upRoom (s : State) (h n len : Nat) : Bool :=
  let need := unitsOf len
  let c := vAt (s.link h).consumed n
  let lim := s.get (F.CV_TUN_n_CRED_TX_LIMIT h n)
  let rp := (s.link h).replay
  let fill := (rp.map (fun p => p.payload.length + 8)).sum + len + 8
  let out := rp.length + 1
  decide ((lim + 3 * 65536 - c % 65536 - need) % 65536 < 32768) &&
    (if n = 0 then decide (fill ≤ 262144) && decide (out ≤ 2047)
     else decide (fill + 8192 ≤ 262144) && decide (out + 16 ≤ 2047))

/-- A packet of the UP direction is dealt: it takes the next SEQ and the current generation, consumes its credit and is
kept for replay (R232, R236, R238, R288). -/
def State.sendPacket (s : State) (h n typ tsf : Nat) (posted last prio echo : Bool) (bs : List Byte) : State :=
  let seq := s.get (F.CV_SEQ_TX_NEXT h)
  let p : Packet := ⟨mkHdr n typ bs.length seq (s.get (F.CV_TUN_GEN_GEN h)) posted last prio echo tsf, bs⟩
  let s := s.put (F.CV_SEQ_TX_NEXT h) (seq + 1)
  let s := s.modLink h (fun l => { l with replay := l.replay ++ [p],
                                          consumed := vMod l.consumed n (· + unitsOf bs.length) })
  (s.replayRegs h).dealPacket h p

/-- SEQ and credits start anew with the limits of the tunnel table (R232, R238, R271). -/
def State.freshStart (s : State) (h : Nat) : State :=
  let s := (s.put (F.CV_SEQ_TX_NEXT h) 0).put (F.CV_SEQ_RX_EXPECT h) 0
  let s := s.modLink h (fun l => { l with replay := [], resend := [], consumed := Vector.replicate 64 0,
                                          received := Vector.replicate 64 0, asm := [] })
  let s := s.each (List.range 64) (fun s n =>
    let used := s.tunType h n != 15
    let lim := if used && s.tunDown h n then bitsOf (s.get (F.CV_TUN_n_W1_W h n)) 0 16 else 0
    let s := (s.put (F.CV_TUN_n_CRED_RX_LIMIT h n) lim).modLink h (fun l => { l with limit := vPut l.limit n lim })
    s.put (F.CV_TUN_n_CRED_TX_LIMIT h n) (if n = 0 then 17 else 0))
  s.replayRegs h

/-- The link enters ACTIVE: with RESUME agreed, and not withheld since, it keeps SEQ, replay and credit state, else they start
anew; CREDIT goes out for every tunnel, and pairs marked failed begin their way back (R246, R248, R257, R289). -/
def State.linkActive (s : State) (h : Nat) : State :=
  let resumed := (s.link h).selResume && (s.link h).echoResume && !vAt s.own.noResume h
  let s := if resumed then s else s.freshStart h
  let s := s.put (F.CV_STATUS_RESUMED h) (bit1 resumed)
  let s := s.modLink h (fun l => { l with held := true, replays := 0, unacked := 0, arrived := 0, nakFor := none,
                                          tx := { l.tx with ackDue := false, credDue := [], ctlDue := [] } })
  let s := s.modOwn (fun o => { o with
    freshLink := if resumed then o.freshLink else vPut o.freshLink h true
    noResume := vPut o.noResume h false })
  let live := 15 - s.failedMask h
  let s := s.setMasks h (5 &&& live) (10 &&& live)
  let s := s.each (pairsIn live) (fun s l =>
    let b := s.ballPair h l
    (s.put (F.LN_STATUS_STATE h b) 3).put (F.LN_RXEQ_ADAPTING h b) (l % 2))
  let s := s.put (F.LG_STATUS_QUALIFYING h) 0
  let s := s.setCv h L.active
  (s.each (pairsIn (s.failedMask h)) (fun s l => s.reEqualise h l)).sendCredits h

/-! ### EQ to ACTIVE (R201, R247, R248) -/

/-- The balls of logical pairs, as a mask. -/
def State.ballMask (s : State) (h m : Nat) : Nat := maskOf 4 (fun b => (List.range 4).any (fun l => bitAt m l && s.ballPair h l == b))

/-- The margins against which the host qualifies, as the hub's QUAL blocks carry them (R201, R244). -/
def State.qualMins (s : State) (h : Nat) : Nat := 2 ^ 16 * s.get (F.LG_QUAL_H_MIN h) + 2 ^ 22 * s.get (F.LG_QUAL_V_MIN h)

/-- BLOCK ends once every pair that is not failed has lock and alignment at the hub and R247 is complete: the hub goes
to FEC and sends QUAL on every pair it transmits on (R201, R248). -/
def State.tryBlock (s : State) (h : Nat) : State :=
  let l := s.link h
  let need := s.rxMask h
  if s.cvState h = L.block && l.latDone && (l.blockLock &&& need) == need && (l.aligned &&& need) == need then
    let s := s.setCv h L.fec
    let live := 15 - s.failedMask h
    let s := s.put (F.LG_STATUS_QUALIFYING h) (s.ballMask h live)
    let s := s.each (pairsIn live) (fun s l => s.put (F.LN_STATUS_STATE h (s.ballPair h l)) 2)
    s.each (pairsIn (s.txMask h)) (fun s p => s.sendTrain h p p 3 (s.qualMins h))
  else s

/-- FEC ends once codeword lock holds where FEC applies and every pair that is not failed has qualified (R248). -/
def State.tryFec (s : State) (h : Nat) : State :=
  let l := s.link h
  let live := 15 - s.failedMask h
  let down := s.rxMask h
  if s.cvState h = L.fec && (l.qualified &&& live) == live && (!s.fecOn h || (l.cwLock &&& down) == down) then s.linkActive h
  else s

/-- One PING: its EXCH and the instant its first header bit leaves the ball, which the transmit path delays by a value of its own
(R247, R258, log entry 20). -/
def State.sendPing (s : State) (h i : Nat) : State :=
  let t := (s.clock.time * 4 + s.freeVal 10) % 2 ^ 40
  let s := (s.modLink h (fun l => { l with pings := l.pings ++ [(i, t)] })).took
  s.sendTrain h 0 0 4 (2 ^ 18 * i + 2 ^ 24 * t)

/-- The link enters BLOCK: the directions of R174, transmitters with the taps of their stored sets, a stripe that starts with markers,
and 16 PINGs on logical pair 0; a direction below its MIN_WIDTH does not (R189, R224, R247, R248, R256). -/
def State.linkBlock (s : State) (h : Nat) : State :=
  let s := s.startDirs h
  let s := s.modLink h (fun l => { l with blockLock := 0, cwLock := 0, aligned := 0, marker := none, latDone := false,
                                          latCount := 0, latSum := 0, pings := [], qualified := 0,
                                          rx := { l.rx with got := 0 } })
  let s := s.each (pairsIn (s.txMask h)) (fun s l => s.loadTx h (s.ballPair h l))
  let s := ((s.setCv h L.block).startStripe h).openRow h
  (s.each (List.range 16) (fun s i => s.sendPing h i)).narrowTraining h

/-- The link enters EQ in the gear and FEC chosen: the hub searches on every pair that it receives (R193, R248). -/
def State.linkEq (s : State) (h : Nat) : State :=
  let g := (s.link h).selGear
  let s := (s.put (F.CV_STATUS_GEAR h) g).put (F.CV_STATUS_FEC h) (bit1 (s.link h).selFec)
  let s := s.each (List.range 4) (fun s p => (s.put (F.LN_STATUS_GEAR h p) g).beginTx h p)
  let s := s.modLink h (fun l => { l with eqPhase := 0, eqCount := Vector.replicate 4 0, blockLock := 0, refFails := 0,
                                          reqId := Vector.replicate 4 none })
  let s := (s.setCv h L.eq).startStripe h
  s.each (pairsIn (s.rxMask h)) (fun s q => s.searchBegin h q)

/-- Equalisation of a pair in the direction it stands in ends: that direction's set is valid, with the hub's receive settings where
it received, and the pair turns (R189, R191, R248, R257). -/
def State.eqEnds (s : State) (h l : Nat) : State :=
  let b := s.ballPair h l
  let d := s.get (F.LN_STATUS_DIR h b)
  let s := if d = 0 then (s.adaptMove h b).storeRx h b else s
  (s.setSet h b d true).put (F.LN_STATUS_DIR h b) (1 - d)

/-- A phase of EQ ends on every pair: phase B begins, or the link enters BLOCK (R248). -/
def State.eqPhaseEnds (s : State) (h : Nat) : State :=
  let first := (s.link h).eqPhase = 0
  let s := s.each (pairsIn (15 - s.failedMask h)) (fun s l => s.eqEnds h l)
  if first then
    let s := (s.modLink h (fun l => { l with eqPhase := 1, eqCount := Vector.replicate 4 0,
                                             reqId := Vector.replicate 4 none })).startStripe h
    s.each (pairsIn (s.rxMask h)) (fun s q => s.searchBegin h q)
  else s.linkBlock h

/-- A dropped pair has been equalised in one direction: it turns, and after both it qualifies (R201, R202, R257). -/
def State.reEqEnds (s : State) (h l : Nat) : State :=
  let n := vAt (s.link h).reEq l
  let s := s.eqEnds h l
  let s := s.modLink h (fun k => { k with reEq := vPut k.reEq l (n + 1), eqCount := vPut k.eqCount l 0,
                                          reqId := vPut k.reqId l none })
  if n = 1 then (if s.sends h l then s else s.searchBegin h l)
  else s.setBit (F.LG_STATUS_QUALIFYING h) (s.ballPair h l)

/-- The hub's own part of an EQ_DONE exchange on a pair: the search about the pair it receives, for a pair it sends on about the
other of its side, has ended (R193, R248). -/
def State.eqReady (s : State) (h p : Nat) : Bool :=
  if s.sends h p then bitAt (s.txMask h) (p ^^^ 1) || bitAt (s.failedMask h) (p ^^^ 1) || s.searched h (p ^^^ 1)
  else s.searched h p

/-- EQ_DONE (R248, R257): one EQ_DONE exchanged on a pair, the hub's in an EQ block of its own; 16 on every pair that is not failed
end a phase, and 16 on a dropped pair end its equalisation in one direction. -/
def execEqDone (h : Hp) (pair : Fin 4) (s : State) : Res :=
  let p := pair.val
  s.onLink h (fun s => if !s.equalising h p || !s.eqReady h p then s
    else
      let on := if bitAt (s.txMask h) p then p else s.returnPair h p
      let s := s.sendTrain h on p 2 (2 ^ 20 * 15 + 2 ^ 38 + s.eqTaps h (s.ballPair h on))
      let s := s.modLink h (fun l => { l with eqCount := vMod l.eqCount p (· + 1) })
      let l := s.link h
      if s.cvState h = L.eq then
        (if (pairsIn (15 - s.failedMask h)).all (fun p => decide (16 ≤ vAt l.eqCount p)) then s.eqPhaseEnds h else s)
      else if 16 ≤ vAt l.eqCount p then s.reEqEnds h p
      else s)

/-! ### Lock and markers (R222 to R226, R248) -/

/-- Lock is lost on a pair: when every pair of the DOWN stripe has lost it, the link enters RECOVERY (R248). -/
def State.lockLost (s : State) (h pair : Nat) : State :=
  let s := s.bump (F.CV_LOCK_LOSS_COUNT h) 1
  let s := s.modLink h (fun l => { l with blockLock := l.blockLock &&& (15 - 2 ^ pair),
                                          cwLock := l.cwLock &&& (15 - 2 ^ pair),
                                          aligned := l.aligned &&& (15 - 2 ^ pair),
                                          rx := { l.rx with got := l.rx.got &&& (15 - 2 ^ pair) } })
  if isUpState (s.cvState h) && ((s.link h).blockLock &&& s.downMask h) == 0 then s.linkRecovery h else s

/-- The port listens: its link is past DETECT, and it runs. -/
def State.listens (s : State) (h : Nat) : Bool := decide (2 ≤ s.cvState h) && s.linkRuns h

/-- A receiver that regains a pair tries the stored alignment, which is valid as the DOWN set is (R191, R226). -/
def State.regaining (s : State) (h pair : Nat) : Bool :=
  s.flag (F.LN_STATUS_DOWN_VALID h (s.ballPair h pair)) && (s.cvState h == L.recovery || (match (s.link h).turn with
    | some t => t.started && t.pair == pair
    | none => false))

/-- A pair regains lock at its stored alignment, codeword lock with FEC (R226). -/
def State.regain (s : State) (h pair : Nat) : State :=
  s.modLink h (fun l => { l with blockLock := l.blockLock ||| 2 ^ pair,
                                 cwLock := if s.fecOn h then l.cwLock ||| 2 ^ pair else l.cwLock })

/-- BLOCK_LOCK_ACQUIRED (R222, R226, R248): the headers that led to it. -/
def execBlockLockAcquired (h : Hp) (seen : PairHdrs) (s : State) : Res :=
  let p := seen.pair.val
  .next (if !s.listens h then s
    else if s.regaining h p then
      (if regains (s.fecOn h) (vAt (s.link h).rx.place p) seen.headers then s.regain h p else s)
    else match huntLock (s.fecOn h) (vAt (s.link h).rx.phase p) seen.headers with
      | some f =>
        (s.modLink h (fun l => { l with blockLock := l.blockLock ||| 2 ^ p,
                                        rx := { l.rx with phase := vPut l.rx.phase p f } })).tryBlock h
      | none => s)

/-- BLOCK_LOCK_LOST (R222): the headers that show it. -/
def execBlockLockLost (h : Hp) (seen : PairHdrs) (s : State) : Res :=
  .next (if s.listens h && lockGone (s.fecOn h) seen.headers then s.lockLost h seen.pair.val else s)

/-- CODEWORD_LOCK (R223): in an FEC gear, the headers of two successive codewords. -/
def execCodewordLock (h : Hp) (seen : PairHdrs) (s : State) : Res :=
  .next (if !s.listens h || !s.fecOn h then s
    else match cwFound seen.headers with
      | some k =>
        (s.modLink h (fun l => { l with cwLock := l.cwLock ||| 2 ^ seen.pair.val,
                                        rx := { l.rx with place := vPut l.rx.place seen.pair.val k } })).tryFec h
      | none => s)

/-- CODEWORD_LOCK_LOST (R223): the headers of three successive codewords; the receiver then hunts for block lock again. -/
def execCodewordLockLost (h : Hp) (seen : PairHdrs) (s : State) : Res :=
  let p := seen.pair.val
  .next (if s.listens h && s.fecOn h && cwGone seen.headers (vAt (s.link h).rx.place p) then s.lockLost h p else s)

/-- A marker of the DOWN direction on a pair, `m` its COUNT and POS: markers that agree within the deskew of 8 blocks align their
pairs, and one that disagrees is a lock loss on its pair (R225). -/
def State.markerTaken (s : State) (h pair m skew : Nat) : State :=
  let l := s.link h
  let fresh := l.marker.isNone || decide (8 < skew)
  if !fresh && l.marker != some m then s.lockLost h pair
  else
    let got := (if fresh then 0 else l.rx.got) ||| 2 ^ pair
    let need := s.rxMask h
    let s := s.modLink h (fun l => { l with marker := some m, rx := { l.rx with got := got },
                                            aligned := if (got &&& need) == need then l.aligned ||| got else l.aligned })
    s.tryBlock h

/-- A JOIN marker comes on a pair that turns DOWN: with the COUNT and POS of the direction's other pairs it aligns its pair, else it is
a lock loss there; no other pair joins (R225, R253, log entry 145). -/
def State.joinTaken (s : State) (h pair : Nat) (marker : MarkerIn) : State :=
  let b := marker.block.toNat
  match (s.link h).turn with
  | some t =>
    if !t.started || t.pair != pair || t.dir != 0 then s
    else if (s.link h).marker.any (fun m => m % 2 ^ 32 == bitsOf b 16 32) && bitsOf b 48 16 == marker.pos then
      s.modLink h (fun l => { l with aligned := l.aligned ||| 2 ^ pair })
    else s.lockLost h pair
  | none => s

/-- ALIGN_MARKER (R217, R224, R225): a marker comes on a pair, `skew` blocks after the first of its direction's present group. One
with JOIN comes on its pair alone. -/
def execAlignMarker (h : Hp) (pair : Fin 4) (marker : MarkerIn) (s : State) : Res :=
  let b := marker.block.toNat
  .next (if !s.listens h then s
    else if bitAt b 15 then s.joinTaken h pair.val marker
    else s.markerTaken h pair (bitsOf b 16 48) marker.skew)

/-! ### Commands: acknowledgement, credit and control blocks -/

/-- ACK_NAK_RECEIVE (R234, R236, R237). -/
def execAckNakReceive (h : Hp) (block : BitVec 64) (s : State) : Res :=
  s.onLink h (fun s => if !(isUpState (s.cvState h) || s.cvState h == L.recovery) then s
    else
      let b := block.toNat
      let s := s.ackUpTo h (bitsOf b 8 12)
      if bitAt b 20 then (s.bump (F.CV_NAK_RCVD_COUNT h) 1).replayDue h else s)

/-- ACK_SEND (R231, R235): ACK_MAX slots have passed since the oldest good packet not yet acknowledged, `idle` positions of them
unclaimed since the last block. -/
def execAckSend (run : IdleRun) (s : State) : Res :=
  let h := run.port
  s.onLink h (fun s => if !isUpState (s.cvState h) then s
    else
      let s := s.idleBlocks h run.idle
      if (s.link h).unacked = 0 then s else (s.advanceTo ((s.link h).oldest + s.ackMax h)).sendAck h)

/-- REPLAY_TIMEOUT (R237). -/
def execReplayTimeout (h : Hp) (s : State) : Res := s.onLink h (fun s => if isUpState (s.cvState h) then s.replayDue h else s)

/-- CREDIT_RECEIVE (R239). -/
def execCreditReceive (h : Hp) (block : BitVec 64) (s : State) : Res :=
  let b := block.toNat
  s.onLink h (fun s => if !isUpState (s.cvState h) then s
    else
      let s := if bitAt b 15 then s.put (F.CV_TUN_n_CRED_TX_LIMIT h (bitsOf b 8 6)) (bitsOf b 16 16) else s
      if bitAt b 39 then s.put (F.CV_TUN_n_CRED_TX_LIMIT h (bitsOf b 32 6)) (bitsOf b 40 16) else s)

/-- CREDIT_SEND (R231, R239): every tunnel's LIMIT is due again, after `idle` positions that nothing claimed. -/
def execCreditSend (run : IdleRun) (s : State) : Res :=
  let h := run.port
  s.onLink h (fun s => if isUpState (s.cvState h) then (s.idleBlocks h run.idle).sendCredits h else s)

/-- CONTROL_BLOCK_UNKNOWN (R216, R230, R243): a control block that no other command carries. One of a type that R216 does not list
is counted, and inside a packet the packet is discarded as a framing error; IDLE, and a STATUS_ECHO that comes from a host, have no
effect. -/
def execControlBlockUnknown (h : Hp) (ctl : CtlIn) (s : State) : Res :=
  .next (if !s.listens h || knownType (blkType ⟨0b10, ctl.block⟩) then s
    else
      let s := s.bump (F.CV_UNKNOWN_CTL_COUNT h) 1
      if ctl.inPacket && isUpState (s.cvState h) then
        (s.raise (18 + 8 * h) (F.CV_EVT_PROTOCOL h)).sendNak h 4
      else s)

/-! ### Commands: training -/

/-- A TRAIN block of the host comes: in REF, with block lock on an odd logical pair, the link enters SPEED (R248). -/
def State.trainSeen (s : State) (h : Nat) : State :=
  if s.cvState h = L.ref && ((s.link h).blockLock &&& 10) != 0 then s.linkSpeed h else s

/-- SPEED_CAP from the host (R244, R246, R248). -/
def execSpeedCap (h : Hp) (block : BitVec 64) (s : State) : Res :=
  s.onLink h (fun s => if trainSub block.toNat ≠ 0 then s
    else
      let t := s.modLink h (fun l => { l with cap := some block.toNat })
      if s.cvState h = L.speed then t.speedOffer h
      else if s.cvState h = L.ref && ((s.link h).blockLock &&& 10) != 0 then t.linkSpeed h
      else s)

/-- SPEED_SEL from the host (R244, R246, R248): its echo, then GO on both sides 16 times. -/
def execSpeedSel (h : Hp) (block : BitVec 64) (s : State) : Res :=
  let b := block.toNat
  s.onLink h (fun s => if s.cvState h ≠ L.speed || trainSub b ≠ 1 || (s.pickGear h).isNone then (if trainSub b = 1 then s.trainSeen h else s)
    else
      let s := if bitAt b 20 && !(s.link h).echoed then
          s.modLink h (fun l => { l with echoed := true, echoResume := bitAt b 19 }) else s
      if !(s.link h).echoed then s.speedSel h false
      else
        let s := s.speedSel h true
        let s := if bitAt b 21 then s.modLink h (fun l => { l with goSeen := l.goSeen + 1 }) else s
        if (s.link h).goSeen < 16 then s else s.linkEq h)

/-- LAT_BLOCK (R244, R247): the host's ECHO answers the PING of its EXCH with its turnaround; `arrival` is its arrival in 0.25 ns.
The mean of 16, rounded down to 0.25 ns (DESIGN CHOICE, log entry 143), becomes CV_LAT and goes to the host in a RESULT. -/
def execLatBlock (h : Hp) (arrival : Nat) (block : BitVec 64) (s : State) : Res :=
  let b := block.toNat
  s.onLink h (fun s => if s.cvState h ≠ L.block || trainSub b ≠ 4 || bitsOf b 16 2 ≠ 1 then s
    else match (s.link h).pings.find? (fun x => x.1 == bitsOf b 18 4) with
      | none => s
      | some x =>
        let flight := (arrival + 2 ^ 40 - x.2) % 2 ^ 40 - bitsOf b 24 40
        let s := s.modLink h (fun l => { l with pings := l.pings.filter (fun y => y.1 != x.1), latCount := l.latCount + 1,
                                                latSum := l.latSum + flight })
        if (s.link h).latCount < 16 then s
        else
          let v := (s.link h).latSum / 16 / 2
          let s := (s.put (F.CV_LAT_ONE_WAY h) v).modLink h (fun l => { l with latDone := true })
          (s.sendTrain h 0 0 4 (2 ^ 16 * 2 + 2 ^ 24 * v)).tryBlock h)

/-- RECOVER_BLOCK (R248). -/
def execRecoverBlock (h : Hp) (pair : Fin 4) (s : State) : Res :=
  s.onLink h (fun s => if !isUpState (s.cvState h) then s
    else
      let s := s.modLink h (fun l => { l with recovering := l.recovering ||| 2 ^ pair.val })
      if ((s.link h).recovering &&& s.downMask h) == s.downMask h then s.linkRecovery h else s)

/-- REF_TIMER (R248): 1 ms after the reference started the hub sends SPEED_CAP on the even logical pairs, with VENDOR 0 (DESIGN CHOICE,
log entry 142). -/
def execRefTimer (h : Hp) (s : State) : Res :=
  s.onLink h (fun s => if s.cvState h ≠ L.ref then s
    else
      let cfg := s.get (F.CV_CFG0_W h)
      let f := 2 ^ 16 * s.ownGears h + 2 ^ 20 * bitsOf cfg 2 1 + 2 ^ 21 * bitsOf cfg 3 1 + 2 ^ 22 * bitsOf cfg 4 3
        + 2 ^ 25
      (s.sendTrain h 0 0 0 f).sendTrain h 2 2 0 f)

/-- A REF failure is counted: after three in a row the port stays in DETECT until detach (R248). -/
def State.refFail (s : State) (h : Nat) : State := s.modLink h (fun l => { l with refFails := min 3 (l.refFails + 1) })

/-- REF_TIMEOUT (R248). -/
def execRefTimeout (h : Hp) (s : State) : Res :=
  s.onLink h (fun s => if s.cvState h ≠ L.ref then s
    else (((s.raise (20 + 8 * h) (F.CV_EVT_REF_FAIL h)).refFail h).refOff h).linkDetect h)

/-- SPEED_TIMEOUT (R248): back to REF, counting towards the three REF failures; the third leaves the port in DETECT. -/
def execSpeedTimeout (h : Hp) (s : State) : Res :=
  s.onLink h (fun s => if s.cvState h ≠ L.speed then s
    else
      let s := s.refFail h
      if (s.link h).refFails < 3 then s.linkRef h
      else ((s.raise (20 + 8 * h) (F.CV_EVT_REF_FAIL h)).refOff h).linkDetect h)

/-- EQ_TIMEOUT (R248). -/
def execEqTimeout (h : Hp) (s : State) : Res := s.onLink h (fun s => if s.cvState h = L.eq then s.lowerGear h else s)

/-- BLOCK_TIMEOUT (R248): pairs without lock or alignment after 2 ms are marked failed; a direction below its MIN_WIDTH sends the
link to SPEED, and what is left is aligned by the markers that came. -/
def execBlockTimeout (h : Hp) (s : State) : Res :=
  s.onLink h (fun s => if s.cvState h ≠ L.block then s
    else
      let s := s.each (pairsIn (s.rxMask h)) (fun s l =>
        let k := s.link h
        if bitAt (k.blockLock &&& (k.aligned ||| k.rx.got)) l then s else s.markFailed h l)
      if s.widthOk h (s.txMask h) (s.rxMask h) then
        (s.modLink h (fun l => { l with aligned := l.aligned ||| l.rx.got })).tryBlock h
      else s.lowerGear h)

/-- FEC_TIMEOUT (R248). -/
def execFecTimeout (h : Hp) (s : State) : Res := s.onLink h (fun s => if s.cvState h = L.fec then s.lowerGear h else s)

/-- The link returns up from RECOVERY: an ACK at once, then replay (R188, R237, R248); one that pairs lost while it was parked have
left below its MIN_WIDTH goes to SPEED (R256, R580). -/
def State.relocked (s : State) (h : Nat) : State :=
  if !s.widthOk h (s.upMask h) (s.downMask h) then s.linkSpeed h
  else
  let s := s.modLink h (fun l => { l with replays := 0 })
  let s := s.setCv h (if s.failedMask h = 0 then L.active else L.degraded)
  let s := s.each (pairsIn (s.downMask h)) (fun s l => s.put (F.LN_RXEQ_ADAPTING h (s.ballPair h l)) 1)
  let s := s.putAck h
  if (s.link h).replay.isEmpty then s
  else (s.bump (F.CV_REPLAYS_COUNT h) 1).modLink h (fun l => { l with resend := l.replay })

/-- RECOVERY_RELOCK (R226, R248): every pair of the DOWN stripe is locked at its stored alignment, with markers aligned. -/
def execRecoveryRelock (h : Hp) (s : State) : Res :=
  let down := s.downMask h
  let l := s.link h
  s.onLink h (fun s => if s.cvState h = L.recovery && (l.blockLock &&& l.aligned &&& down) == down
      && (pairsIn down).all (fun p => s.flag (F.LN_STATUS_DOWN_VALID h (s.ballPair h p))) then s.relocked h else s)

/-- RECOVERY_TIMEOUT (R248): pairs not relocked are marked failed and the link goes to SPEED. -/
def execRecoveryTimeout (h : Hp) (s : State) : Res :=
  s.onLink h (fun s => if s.cvState h ≠ L.recovery then s
    else
      let lost := s.downMask h &&& (15 - ((s.link h).blockLock &&& (s.link h).aligned))
      let s := s.each (pairsIn lost) (fun s l => (s.markFailed h l).widthChg h)
      s.linkSpeed h)

/-- CV_CTRL.RETRAIN takes the link to SPEED with RESUME offered (R261). -/
def State.retrain (s : State) (h : Nat) : State := if s.listens h then s.linkSpeed h else s

/-! ### Commands: turns and width -/

/-- A turn is requested for a boundary: REQUEST goes to the host (R250 to R252). -/
def State.requestTurn (s : State) (h pair dir : Nat) (rejoin : Bool) (tick : Nat) : State :=
  let s := s.modLink h (fun l => { l with turn := some ⟨pair, dir, rejoin, tick, false, false, false, false⟩ })
  s.sendOwn h (turnBlock 0 pair dir rejoin tick)

/-- TURN_ACK (R252): the host's ACK arms the turn for the named boundary, unless it was cancelled. -/
def execTurnAck (h : Hp) (block : BitVec 64) (s : State) : Res :=
  let b := block.toNat
  s.onLink h (fun s => match (s.link h).turn with
    | some t =>
      if bitsOf b 8 2 = 1 && bitsOf b 10 2 = t.pair && bitsOf b 16 48 = t.tick % 2 ^ 48 && !t.started && !t.cancelled then
        s.modLink h (fun l => { l with turn := some { t with acked := true } })
      else s
    | none => s)

/-- A turn without ACK is cancelled: CANCEL goes to the host, and after TURN_RETRIES repeats TURN_FAIL is set (R252). -/
def State.cancelTurn (s : State) (h : Nat) (t : Turn) : State :=
  let s := s.sendOwn h (turnBlock 2 t.pair t.dir t.rejoin t.tick)
  let s := s.bump (F.CV_TURNS_CANCELLED h) 1
  let n := (s.link h).turnTries + 1
  if bitsOf (s.get (F.CV_CFG1_W h)) 24 4 < n then
    (s.turnDone h).raise (19 + 8 * h) (F.CV_EVT_TURN_FAIL h)
  else s.modLink h (fun l => { l with turn := some { t with cancelled := true }, turnTries := n })

/-- TURN_CANCEL (R252): no ACK by slot 900. -/
def execTurnCancel (h : Hp) (s : State) : Res :=
  s.onLink h (fun s => match (s.link h).turn with
    | some t => if t.acked || t.cancelled || t.started then s else s.cancelTurn h t
    | none => s)

/-- An acknowledged turn starts: the pair leaves its stripe, the rest of its codeword filled with IDLE, or its receiver's adaptation
freezes and its settings are stored (R188, R190, R252). -/
def State.turnStarts (s : State) (h : Nat) (t : Turn) : State :=
  let b := s.ballPair h t.pair
  let s := if bitAt (s.upMask h) t.pair then (s.fillRow h).finishWord h t.pair (ctlBlk BT.idle) else s.leaveDown h b
  let s := s.setMasks h (s.upMask h &&& (15 - 2 ^ t.pair)) (s.downMask h &&& (15 - 2 ^ t.pair))
  let s := s.put (F.LN_STATUS_STATE h b) 1
  let s := if t.dir = 0 then s.loadRx h b else s
  let s := s.modLink h (fun l => { l with turn := some { t with started := true }, turnTries := 0,
                                          blockLock := l.blockLock &&& (15 - 2 ^ t.pair),
                                          cwLock := l.cwLock &&& (15 - 2 ^ t.pair),
                                          aligned := l.aligned &&& (15 - 2 ^ t.pair),
                                          rx := { l.rx with got := l.rx.got &&& (15 - 2 ^ t.pair) } })
  s.setCv h L.turn

/-- A turn's part at a tick boundary, after what waited for the new tick's positions: an acknowledged one starts; one that was
cancelled, or that no ACK has answered, is requested again for the next boundary; none goes on for a pair whose sets in both
directions are no longer valid (R191, R231, R250, R252). -/
def State.turnBoundary (s : State) (h : Nat) : State :=
  let s := s.modTx h (fun t => { t with own := 0 })
  let s := s.iff (isUpState (s.cvState h) && s.linkRuns h) (fun s => s.sendDue h)
  match (s.link h).turn with
  | none => s
  | some t =>
    if t.started || s.tick < t.tick then s
    else if !(s.cvState h == L.active || s.cvState h == L.degraded) || !s.setsValid h t.pair then s.turnDone h
    else if t.cancelled then s.requestTurn h t.pair t.dir t.rejoin (s.tick + 1)
    else if !t.acked then
      let s := s.cancelTurn h t
      s.iff (s.link h).turn.isSome (fun s => s.requestTurn h t.pair t.dir t.rejoin (s.tick + 1))
    else s.turnStarts h t

/-- TURN_SYNC on a pair (R244, R253). -/
def State.turnSync (s : State) (h p : Nat) : State := s.sendTrain h p p 5 0

/-- TURN_IDLE_DETECTED (R203): idle is seen on the turning pair; towards UP the hub's transmitter is enabled with the taps of the
pair's stored set and sends TURN_SYNC from then on (R253). -/
def execTurnIdleDetected (h : Hp) (s : State) : Res :=
  s.onLink h (fun s => match (s.link h).turn with
    | some t =>
      if !t.started || t.idleSeen then s
      else
        let s := s.modLink h (fun l => { l with turn := some { t with idleSeen := true } })
        let s := s.put (F.LN_STATUS_DIR h (s.ballPair h t.pair)) t.dir
        if t.dir = 1 then (s.loadTx h (s.ballPair h t.pair)).turnSync h t.pair else s
    | none => s)

/-- The turned pair is out of both stripes and failed: DROP, TURN_ABORT and TURN_FAIL (R204, R254). -/
def State.turnAborted (s : State) (h : Nat) (t : Turn) : State :=
  let s := s.raise (48 + h) (F.LG_EVT_TURN_ABORT h)
  let s := s.raise (19 + 8 * h) (F.CV_EVT_TURN_FAIL h)
  let s := s.setCv h L.degraded
  s.dropPair h t.pair true

/-- TURN_ABORT (R204). -/
def execTurnAbort (h : Hp) (s : State) : Res :=
  s.onLink h (fun s => match (s.link h).turn with
    | some t => if t.started then s.turnAborted h t else s
    | none => s)

/-- The hub joins a pair to the UP stripe at J, the first codeword boundary at or after 1,240 ns into the tick: TURN_SYNC until
then, the JOIN marker at the direction's COUNT and POS, and rows from the next position on (R224, R227, R253). -/
def State.joinUp (s : State) (h p : Nat) : State :=
  let s := (s.fillWord h).finishWord h p (ctlBlk (trainBlock p 1 5 (s.freeVal 1) 0))
  let up := s.upMask h
  let s := (s.took.setMasks h (up ||| 2 ^ p) (s.downMask h)).putMarker h p (up ||| 2 ^ p) true
  let t := (s.link h).tx
  if t.pos = 0 && t.blk = 0 then
    (s.each (pairsIn up) (fun s q => s.putMarker h q (up ||| 2 ^ p) false)).endRow h
  else s.modTx h (fun t => { t with row := pairsIn up })

/-- TURN_JOIN (R226, R253, R254): J has come. Towards UP the hub, whose transmitter has sent `syncs` TURN_SYNC blocks more, sends
the JOIN marker; towards DOWN the hub must have confirmed the stored alignment from the headers it received. -/
def execTurnJoin (h : Hp) (seen : JoinIn) (s : State) : Res :=
  s.onLink h (fun s => match (s.link h).turn with
    | some t =>
      if !t.started then s
      else
        let ok := if t.dir = 1 then t.idleSeen
          else s.regaining h t.pair && regains (s.fecOn h) (vAt (s.link h).rx.place t.pair) seen.headers
        if !ok then s.turnAborted h t
        else
          let s := s.advanceTo (t.tick * 125000 + 1240)
          let b := s.ballPair h t.pair
          let s := if t.dir = 1 then (s.each (List.range seen.syncs) (fun s _ => s.turnSync h t.pair)).joinUp h t.pair
            else ((s.setMasks h (s.upMask h) (s.downMask h ||| 2 ^ t.pair)).regain h t.pair).modLink h
              (fun l => { l with aligned := l.aligned ||| 2 ^ t.pair })
          let s := s.put (F.LN_STATUS_DIR h b) t.dir
          let s := (s.put (F.LN_STATUS_STATE h b) 3).put (F.LN_RXEQ_ADAPTING h b) (1 - t.dir)
          let s := s.bump (F.CV_TURNS_DONE h) 1
          let s := s.modLink h (fun l => { l with turn := none, reEq := vPut l.reEq t.pair 0,
                                                  qualified := l.qualified &&& (15 - 2 ^ t.pair) })
          let s := if t.rejoin then
              (s.put (F.CV_STATUS_FAILED h) (s.failedMask h &&& (15 - 2 ^ t.pair))).widthChg h
            else s.raise 69 ⟨A.BC_EVT, 5, 1⟩
          s.setCv h (if s.failedMask h = 0 then L.active else L.degraded)
    | none => s)

/-- PAIR_FAILED (R255). -/
def execPairFailed (h : Hp) (pair : Fin 4) (s : State) : Res :=
  s.onLink h (fun s => if isUpState (s.cvState h) && !bitAt (s.failedMask h) pair.val then s.dropPair h pair.val true else s)

/-- TURN_DROP (R255): a received DROP removes the named pair. -/
def execTurnDrop (h : Hp) (block : BitVec 64) (s : State) : Res :=
  let p := bitsOf block.toNat 10 2
  s.onLink h (fun s => if isUpState (s.cvState h) && !bitAt (s.failedMask h) p then s.dropPair h p false else s)

/-! ### The watch instant -/

/-- WATCH_INSTANT (R672): 8,000 ticks have passed since the boundary of the apply without the link coming up; from now
on time out of the up states counts. -/
def execWatchInstant (h : Hp) (s : State) : Res :=
  .next (match vAt s.own.watch h with
    | some t =>
      let s := (s.advanceTo t).modOwn (fun o => { o with watch := vPut o.watch h none })
      if s.linkUp h then s else s.modLink h (fun l => { l with downSince := some t })
    | none => s)

end Sys2Proof.Machine
end

