-- ==== Sys2Proof/Machine/Own.lean ====
section
/-! DEFINITION. Machine/Own.lean: ownership commands and what they record, failover, tunnel generations and step 1 of a
tick boundary as far as the ownership map goes (R24, R131 to R133, R276 to R289). -/
namespace Sys2Proof.Machine

/-- A change of ownership at step 1: resource, old owner, new owner (R291). -/
structure OwnChange where
  k : Nat
  old : Nat
  new : Nat
deriving DecidableEq, Repr

/-- The resources of a mask. -/
def maskList (m : Nat) : List Nat := (List.range 56).filter (fun k => bitAt m k)

/-- A change for resource `k` is recorded for the next boundary (R24, R297). -/
def State.ownPending (s : State) (k : Nat) : Bool := s.flag (F.OWN_k_PENDING k)

/-- CLAIM of one resource: none where it may be acted on, else the RESULT that refuses it (R18, R278). -/
def State.claimJudge (s : State) (a k : Nat) : Option Nat :=
  if a = 4 then some R.denied
  else if s.ownPending k then some R.busy
  else if s.owns a k then none
  else if s.ownerOf k = 7 then
    (if bitAt (s.get (F.OWN_k_CLAIM_MASK k)) a then none else some R.denied)
  else some R.denied

/-- RELEASE of one resource (R279). -/
def State.releaseJudge (s : State) (a k : Nat) : Option Nat :=
  if s.ownPending k then some R.busy else if s.owns a k then none else some R.denied

/-- HANDOVER of one resource (R133, R280). -/
def State.handoverJudge (s : State) (a k : Nat) : Option Nat :=
  if s.ownPending k then some R.busy
  else if !(a == 4 || s.owns a k) then some R.denied
  else if s.ownerOf k = 7 || s.standbyOf k = 7 then some R.denied
  else none

/-- The RESULT an ownership command is recorded with: the first refusal among its resources, or OK (R133). A mask that
sets a reserved bit is refused with DENIED (R132). Where several are refused, the first by number answers, and a pending change
answers BUSY before ownership is looked at (DESIGN CHOICE, log entry 134). -/
def judgeMask (mask : Nat) (judge : Nat → Option Nat) : Nat :=
  if 2 ^ 56 ≤ mask then R.denied else ((maskList mask).findSome? judge).getD R.ok

/-- The resources that an ownership command which is not refused is to change: all it names, but for those that a CLAIM names and
its agent owns already (R278). -/
def State.ownMoves (s : State) (a op mask : Nat) : List Nat :=
  (maskList mask).filter (fun k => op != 0x20 || !s.owns a k)

/-- An ownership command is recorded for the next boundary and marks the resources that it is to change (R24, R133, R297). -/
def State.recordOwn (s : State) (a : Nat) (tr : Transport) (tag op mask result : Nat) : State :=
  let s := s.modOwn (fun o => { o with reqs := o.reqs ++ [⟨a, tr, tag, op, mask, result, true, false⟩] })
  if result = R.ok then s.each (s.ownMoves a op mask) (fun s k => s.put (F.OWN_k_PENDING k) 1) else s

/-- No failover trigger acts between entry to SLEEP or DORMANT and the links being up again (R581). -/
def State.failoverSuspended (s : State) : Bool := s.own.suspend.isSome || !s.awake

/-- Host `h` is eligible as a standby (R281). -/
def State.eligible (s : State) (h : Nat) : Bool :=
  decide (h < 4) && s.linkUp h && !(s.flag (F.MGMT_HB_h_ARMED h) && s.flag (F.MGMT_HB_h_MISSED_LAST h))

/-- A host's failover trigger is met: the failover logic records a change for each of its resources whose standby is eligible (R24,
R282); where it is not, nothing is recorded and the boundary tests the resource again (R283). -/
def State.recordTrigger (s : State) (h : Nat) (heartbeat : Bool) : State :=
  s.each (List.range 56) (fun s k =>
    let f := s.get (F.OWN_k_FAILOVER k)
    if s.owns h k && s.eligible (s.standbyOf k) && (if heartbeat then f == 2 else f == 1 || f == 2) then
      s.put (F.OWN_k_PENDING k) 1
    else s)

/-- The trigger that the owner of resource `k` meets: LAST_CAUSE 4 link, 5 heartbeat (R282). -/
def State.triggerOf (s : State) (k : Nat) : Option Nat :=
  let o := s.ownerOf k
  let f := s.get (F.OWN_k_FAILOVER k)
  if !(o < 4) || s.standbyOf k = 7 || s.failoverSuspended then none
  else if (f == 1 || f == 2) && vAt s.own.linkTrig o && !s.linkUp o then some 4
  else if f == 2 && s.flag (F.MGMT_HB_h_ARMED o) && decide (2 ≤ (s.agent o).misses) && !(s.agent o).hbSeen then some 5
  else none

/-- An agent's OWN_CHG and MGMT_OWN_CHG are set (R140). -/
def State.ownChanged (s : State) (a : Nat) : State :=
  if a < 4 then (s.modAgent a (fun g => { g with ownChg := true })).put (F.MGMT_OWN_CHG_CHANGED a) 1 else s

/-- Owner and standby of a resource become `o` and `sb`, for a cause of R297. -/
def State.setOwner (s : State) (k o sb cause : Nat) : State :=
  let o0 := s.ownerOf k
  let sb0 := s.standbyOf k
  if o0 = o && sb0 = sb then s
  else
    let s := s.put (F.OWN_k_OWNER k) o
    let s := s.put (F.OWN_k_STANDBY k) sb
    let s := s.put (F.OWN_k_LAST_CAUSE k) cause
    let s := if o0 = o then s else s.bump (F.OWN_k_CHANGES k) 1
    s.each [o0, sb0, o, sb] State.ownChanged

/-- A host's generation is incremented once, with R289's check that no old packet can be mistaken; the host becomes
stale (R129, R286, R289). -/
def State.bumpGen (s : State) (h : Nat) : State :=
  let safe := s.flag (F.CV_TUN_GEN_SEEN h) || vAt s.own.freshLink h
  let s := if safe then s
    else
      let s := s.raise (22 + 8 * h) (F.CV_TUN_EVT_FORCED_RETRAIN h)
      let s := s.modOwn (fun o => { o with noResume := vPut o.noResume h true })
      if isUpState (s.cvState h) then s.linkSpeed h else s
  let s := s.put (F.CV_TUN_GEN_GEN h) (s.get (F.CV_TUN_GEN_GEN h) + 1)
  let s := s.put (F.CV_TUN_GEN_SEEN h) 0
  let s := s.bump (F.CV_TUN_GEN_BUMPS h) 1
  let s := s.modOwn (fun o => { o with freshLink := vPut o.freshLink h false })
  s.modAgent h (fun g => { g with stale := true })

/-- Carry out one recorded command at the boundary: its final RESULT and the state (R131, R133, R278 to R280). -/
def State.ownAct (s : State) (r : OwnReq) : Nat × State :=
  if r.result ≠ R.ok then (r.result, s)
  else if r.opcode = 0x20 then
    (R.ok, s.each (maskList r.mask) (fun s k =>
      if s.owns r.agent k then s
      else s.setOwner k r.agent (if s.standbyOf k = r.agent then 7 else s.standbyOf k) 1))
  else if r.opcode = 0x21 then
    (R.ok, s.each (maskList r.mask) (fun s k => s.setOwner k 7 (s.standbyOf k) 2))
  else if (maskList r.mask).any (fun k => !s.eligible (s.standbyOf k)) then (R.busy, s)
  else (R.ok, s.each (maskList r.mask) (fun s k => s.setOwner k (s.standbyOf k) (s.ownerOf k) 3))

/-- Step 1 of R31 as far as the map goes: recorded commands in order, then failovers, then generation bumps; it answers
the resources whose owner changed, and leaves the commands' RESULTs in the recorded list for the replies that follow the
boundary. -/
def State.ownStep (s : State) : List OwnChange × State :=
  let owner0 := (List.range 56).map s.ownerOf
  let named := (s.own.reqs.filter (·.result == R.ok)).flatMap (fun r => s.ownMoves r.agent r.opcode r.mask)
  let (reqs, s) := s.own.reqs.foldl (fun (acc : List OwnReq × State) r =>
    let (res, s) := acc.2.ownAct r
    (acc.1 ++ [{ r with result := res }], s)) ([], s)
  let s := s.modOwn (fun o => { o with reqs := reqs })
  let elig := maskOf 4 s.eligible
  let trig := (List.range 56).map (fun k => if named.contains k then none else s.triggerOf k)
  let s := s.each (List.range 56) (fun s k =>
    match trig.getD k none with
    | some c =>
      if bitAt elig (s.standbyOf k) then s.setOwner k (s.standbyOf k) (s.ownerOf k) c
      else s.raise (22 + 8 * s.ownerOf k) (F.CV_TUN_EVT_BLOCKED (s.ownerOf k))
    | none => s)
  let s := s.each (List.range 56) (fun s k => if s.ownPending k then s.put (F.OWN_k_PENDING k) 0 else s)
  let changes := (List.range 56).filterMap (fun k =>
    let o := owner0.getD k 7
    if o = s.ownerOf k then none else some ⟨k, o, s.ownerOf k⟩)
  let s := s.each (List.range 4) (fun s h =>
    if s.own.bumpAll || changes.any (fun c => c.old == h || c.new == h) then s.bumpGen h else s)
  (changes, s.modOwn (fun o => { o with bumpAll := false }))

/-- The replies to the ownership commands of a boundary; a CLAIM that is carried out, or refused with DENIED or BUSY, clears the
stale mark of its agent (R131, R133). One that was refused on its arrival is not open, and its reply leaves all the same. -/
def State.ownReplies (s : State) : State :=
  let reqs := s.own.reqs
  let s := s.modOwn (fun o => { o with reqs := [] })
  reqs.foldl (fun s r =>
    let s := if r.opcode = 0x20 && r.result != R.badLen then s.modAgent r.agent (fun g => { g with stale := false }) else s
    let owned := wordsOfMask (s.ownedMask r.agent)
    if r.isOpen then s.complete r.agent r.tag r.result owned
    else if r.orphan then s
    else s.reply r.agent r.tr r.tag r.opcode r.result owned) s

/-! ### Heartbeats (R142, R144) -/

/-- HEARTBEAT_CHORE's judgement of one host: a supervised host that sent no HEARTBEAT since the last run misses one, and
two in a row are a trigger (R144). -/
def State.heartbeatJudge (s : State) (h : Nat) : State :=
  if !s.flag (F.MGMT_HB_h_ARMED h) then s.modAgent h (fun g => { g with hbSeen := false, misses := 0 })
  else
    let seen := (s.agent h).hbSeen
    let s := s.put (F.MGMT_HB_h_MISSED_LAST h) (bit1 (!seen))
    let s := if seen then s else s.bump (F.MGMT_HB_h_MISS_COUNT h) 1
    let s := s.modAgent h (fun g => { g with hbSeen := false, misses := if seen then 0 else g.misses + 1 })
    if decide (2 ≤ (s.agent h).misses) && !s.failoverSuspended then s.recordTrigger h true else s

/-- HEARTBEAT_CHORE (R142, R144): the hub heartbeat to every host whose link is ACTIVE, and the supervision's
judgement. -/
def execHeartbeatChore (prevOpen : Bool) (s : State) : Res :=
  .next (s.chore 6 0 prevOpen (fun s => s.each (List.range 4) (fun s h =>
    let s := s.heartbeatJudge h
    if s.cvState h = L.active then s.replyUp h 0 0 5 R.ok 31 [w32 s.tick] else s)))

end Sys2Proof.Machine
end

