-- ==== Sys2Proof/Machine/Sirocco.lean ====
section
/-! DEFINITION. Machine/Sirocco.lean: launch descriptors, their checks, results and cancels, launch-line edges and
capture (R327 to R345, R348). What a launch does to another block at its time stands in Launches.lean. -/
namespace Sys2Proof.Machine

/-! ### Results (R338, R339) -/

namespace Out
def fired : Nat := 0
def late : Nat := 1
def dropped : Nat := 2
def refused : Nat := 3
def noEffect : Nat := 4
def cancelled : Nat := 5
def cancelLate : Nat := 6
def notFound : Nat := 7
end Out

/-- A launch result goes by the submitter's TIME tunnel, as the table in force names it, while its link is up and the tunnel allows UP, else to SR_LAST_RESULT
(R269, R338, R339). -/
def State.srDeliver (s : State) (a : Nat) (tun : Option Nat) (id outcome reason res late : Nat) : State :=
  let w0 := id % 65536 + 2 ^ 16 * outcome + 2 ^ 20 * reason + 2 ^ 24 * (res % 64)
  let w1 := min late (2 ^ 32 - 1)
  match tun.bind (fun _ => s.findTun a 5 (fun _ => true)) with
  | some n =>
    if a < 4 && s.linkUp a && s.tunUp a n then s.queueUp a n (1 + 2 ^ 3 * 1) true none (wordsBytes [w32 w0, w32 w1])
    else (s.put (F.SR_LAST_RESULT_W_V a 0) w0).put (F.SR_LAST_RESULT_W_V a 1) w1
  | none => (s.put (F.SR_LAST_RESULT_W_V a 0) w0).put (F.SR_LAST_RESULT_W_V a 1) w1

/-- An exception of a resource is counted and raises its source (R339, R348). -/
def State.srException (s : State) (res outcome : Nat) : State :=
  let s := if res < 56 then
      (if outcome = Out.late then s.bump (F.SR_LEXC_k_LATE res) 1
       else if outcome = Out.dropped then s.bump (F.SR_LEXC_k_DROPPED res) 1
       else if outcome = Out.refused then s.bump (F.SR_LEXC_k_REFUSED res) 1
       else if outcome = Out.noEffect then s.bump (F.SR_LEXC_k_NO_EFFECT res) 1
       else s)
    else s
  if 28 ≤ res && res < 32 then s.raise (80 + (res - 28)) ⟨A.SR_EVT, res - 28, 1⟩
  else s.raise 92 F.SR_EVT_OTHER_EXC

/-- Report an outcome (R339). -/
def State.srResult (s : State) (a : Nat) (tun : Option Nat) (id outcome reason res late : Nat) (report : Bool) : State :=
  let s := if outcome = Out.fired && !report then s else s.srDeliver a tun id outcome reason res late
  if outcome = Out.fired || outcome = Out.cancelled then s else s.srException res outcome

/-! ### Submitting (R328 to R333) -/

/-- The resource of an action and ARG, none for an unknown ACTION, an ARG out of range or a stray bit (R327, R330). -/
def actionRes (action arg : Nat) : Option Nat :=
  match action with
  | 0x01 => if arg &&& (2 ^ 32 - 1 - 0x11F) = 0 then some (28 + bitsOf arg 0 5 / 8) else none
  | 0x02 => if arg &&& 0xEE0 = 0 && 4 ≤ bitsOf arg 12 20 then some (28 + bitsOf arg 0 5 / 8) else none
  | 0x10 => if arg &&& (2 ^ 32 - 1 - 0xFF1F) = 0 && bitsOf arg 0 5 < 20 then some (8 + bitsOf arg 0 5) else none
  | 0x20 => if arg &&& (2 ^ 32 - 1 - 0x13) = 0 then some (4 + bitsOf arg 0 2) else none
  | 0x30 => if arg < 2 then some arg else none
  | 0x31 => if arg < 2 then some arg else none
  | 0x40 => if arg < 8 then some (48 + arg) else none
  | _ => none

/-- The resource that a refused ACTION and ARG name all the same, if any (R327). -/
def namedRes (action arg : Nat) : Option Nat :=
  match action with
  | 0x01 => some (28 + bitsOf arg 0 5 / 8)
  | 0x02 => some (28 + bitsOf arg 0 5 / 8)
  | 0x10 => if bitsOf arg 0 5 < 20 then some (8 + bitsOf arg 0 5) else none
  | 0x20 => some (4 + bitsOf arg 0 2)
  | 0x30 => some (arg % 2)
  | 0x31 => some (arg % 2)
  | 0x40 => some (48 + arg % 8)
  | _ => none

/-- A descriptor is refused with BAD_ACTION; where it names no resource, RESOURCE of the result is a free value (R330, R338, log entry 10). -/
def State.srBadAction (s : State) (a : Nat) (tun : Option Nat) (id action arg : Nat) (report : Bool) : State :=
  match namedRes action arg with
  | some k => s.srResult a tun id Out.refused 1 k 0 report
  | none => s.took.srResult a tun id Out.refused 1 (s.freeVal 6) 0 report

/-- Launches of a resource in the queue. -/
def State.srQueuedOf (s : State) (k : Nat) : Nat := (s.sr.queue.filter (·.res == k)).length

/-- SR_STATUS.QUEUED and SR_LSTAT_k.QUEUED follow the queue (R349). -/
def State.srCount (s : State) (k : Nat) : State :=
  (s.put F.SR_STATUS_QUEUED s.sr.queue.length).put (F.SR_LSTAT_k_QUEUED k) (s.srQueuedOf k)

/-- Edges counted for resource `k` in tick `t` (R330). -/
def State.srEdges (s : State) (k t : Nat) : Nat :=
  (s.sr.edges.filter (· == (k, t))).length

/-- One descriptor is accepted at the present instant: checked, queued, or handled as missed (R330, R333). -/
def State.srSubmit (s : State) (a : Nat) (tun : Option Nat) (w0 w1 w2 w3 : Nat) : State :=
  let action := bitsOf w1 8 8
  let id := bitsOf w3 0 16
  let report := bitAt w1 17
  match (if bitsOf w1 18 2 = 0 && bitsOf w3 16 16 = 0 then actionRes action w2 else none) with
  | none => s.srBadAction a tun id action w2 report
  | some k =>
    if !s.owns a k then s.srResult a tun id Out.refused 2 k 0 report
    else if s.get (F.SR_RES_k_ENTRIES k) ≤ s.srQueuedOf k then s.srResult a tun id Out.refused 3 k 0 report
    else
      let now := s.clock.time
      let t40 := w0 + 2 ^ 32 * bitsOf w1 0 8
      let ahead := (t40 + 2 ^ 40 - now % 2 ^ 40) % 2 ^ 40
      let future := decide (0 < ahead) && decide (ahead < 2 ^ 39)
      let tAbs := if future then now + ahead else now - (2 ^ 40 - ahead) % 2 ^ 40
      let width := bitsOf w2 12 20
      let ticks := if action = 2 then [tAbs / 125000, (tAbs + width) / 125000] else [tAbs / 125000]
      let lim := s.get (F.SR_RES_k_PER_TICK k)
      if ticks.any (fun t => decide (lim < s.srEdges k t + (ticks.filter (· == t)).length)) then
        s.srResult a tun id Out.refused 4 k 0 report
      else
        let onTime := future && decide (500 ≤ ahead)
        let lateBy := (now + 500 + 2 ^ 40 - t40 % 2 ^ 40) % 2 ^ 40
        let limit := bitsOf w1 20 12
        if !onTime && !bitAt w1 16 then s.srResult a tun id Out.dropped 0 k lateBy report
        else if !onTime && limit != 0 && decide (limit * 125 < lateBy) then
          s.srResult a tun id Out.dropped 5 k lateBy report
        else
          let l : Launch :=
            { at_ := if onTime then tAbs else now + 500, due := tAbs, action := action, arg := w2, id := id, res := k,
              late := !onTime, lateBy := if onTime then 0 else lateBy, worst := 0, policyLate := bitAt w1 16, limit := limit,
              report := report, agent := a, tun := tun, ticks := ticks, order := s.sr.accepted }
          let s := { s with sr := { s.sr with queue := s.sr.queue ++ [l], accepted := s.sr.accepted + 1, edges := s.sr.edges ++ ticks.map (fun t => (k, t)) } }
          s.srCount k

/-- Four words at a time from a list of words. -/
def quads : List Word → List (Nat × Nat × Nat × Nat)
  | a :: b :: c :: d :: t => (a.toNat, b.toNat, c.toNat, d.toNat) :: quads t
  | _ => []

/-- Two words at a time from a list of words. -/
def pairsOf : List Word → List (Nat × Nat)
  | a :: b :: t => (a.toNat, b.toNat) :: pairsOf t
  | _ => []

/-- A TIME packet of KIND 0: its descriptors in payload order (R329). -/
def State.srDescriptors (s : State) (h n : Nat) (words : List Word) : State :=
  (quads words).foldl (fun s q => s.srSubmit h (some n) q.1 q.2.1 q.2.2.1 q.2.2.2) s

/-! ### Cancels (R340) -/

/-- One cancel record: only the owner cancels; a launch less than 500 ns ahead fires all the same. -/
def State.srCancel (s : State) (a : Nat) (tun : Option Nat) (w0 w1 : Nat) : State :=
  let id := bitsOf w0 0 16
  let k := bitsOf w0 16 6
  let all := bitAt w0 24
  if bitsOf w0 22 2 ≠ 0 || bitsOf w0 25 7 ≠ 0 || w1 ≠ 0 then s.srResult a tun id Out.refused 1 k 0 true
  else if !s.owns a k then s.srResult a tun id Out.refused 2 k 0 true
  else
    let mine := s.sr.queue.filter (fun l => l.res == k && (all || l.id == id))
    if mine.isEmpty then s.srResult a tun id Out.notFound 0 k 0 true
    else
      let soon (l : Launch) : Bool := decide (l.at_ < s.clock.time + 500)
      let gone := (mine.filter (fun l => !soon l)).flatMap (fun l => l.ticks.map (fun t => (k, t)))
      let s := { s with sr := { s.sr with
        queue := s.sr.queue.filter (fun l => !(l.res == k && (all || l.id == id)) || soon l),
        edges := gone.foldl (fun es e => es.erase e) s.sr.edges } }
      let s := s.srCount k
      mine.foldl (fun s l => if soon l then s.srResult a tun l.id Out.cancelLate 0 k 0 true
        else s.srResult a tun l.id Out.cancelled 0 k 0 true) s

/-- A TIME packet of KIND 3: its cancel records (R340). -/
def State.srCancels (s : State) (h n : Nat) (words : List Word) : State :=
  (pairsOf words).foldl (fun s q => s.srCancel h (some n) q.1 q.2) s

/-- Every queued launch is discarded and counted in SR_STATUS.LOST, with no result (R337). -/
def State.srDiscardAll (s : State) : State :=
  let n := s.sr.queue.length
  let ks := s.sr.queue.map (·.res)
  let s := { s with sr := { s.sr with queue := [], seconds := [], edges := [] } }
  let s := s.bump F.SR_STATUS_LOST n
  (s.put F.SR_STATUS_QUEUED 0).each ks (fun s k => s.put (F.SR_LSTAT_k_QUEUED k) 0)

/-! ### Launch-line edges (R327, R335, R336) -/

/-- A launch line takes a level at TIME `at_`. -/
def State.lineTo (s : State) (n : Nat) (level : Bool) (at_ : Nat) : State :=
  let m := s.sr.lines &&& (2 ^ 32 - 1 - 2 ^ n)
  ({ s with sr := { s.sr with lines := if level then m + 2 ^ n else m } } : State).emit (.line n level at_)

/-- The delayed edges whose TIME cycle has come drive their lines, in the order in which they were delayed (R335, R336). -/
def State.settleLines (s : State) : State :=
  let x := s.sr.later.partition (fun e => decide (e.1 / 4 ≤ s.clock.time / 4))
  x.1.foldl (fun s e => s.lineTo e.2.1 e.2.2 e.1) { s with sr := { s.sr with later := x.2 } }

/-- An edge that was due at `due` drives a launch line at TIME `at_`: at once, or, delayed beyond the present TIME cycle, when
its cycle comes (R335, R336). -/
def State.driveLine (s : State) (n : Nat) (level : Bool) (due at_ : Nat) : State :=
  let s := { s with sr := { s.sr with lastEdge := vPut s.sr.lastEdge n (some (due, at_)) } }
  if at_ / 4 ≤ s.clock.time / 4 then s.lineTo n level at_
  else { s with sr := { s.sr with later := s.sr.later ++ [(at_, n, level)] } }

/-- LL_n is a launch output (R661). -/
def State.llIsOutput (s : State) (n : Nat) : Bool := s.inForce && bitAt (s.imgWord 0x0D 0 0) n

/-- One launched edge of a line: fewer than 4 ns after the line's last edge it fires 4 ns after it, and the delay counts
as lateness under POLICY; edges due at the same instant fire together, the last accepted setting the level (R335). It answers
the outcome, the REASON, the greatest lateness of the launch's edges and the delay of this one. -/
def State.lineEdge (s : State) (l : Launch) (level : Bool) : (Nat × Nat × Nat × Nat) × State :=
  let s := s.settleLines
  let n := bitsOf l.arg 0 5
  let at_ := match vAt s.sr.lastEdge n with
    | some (due, t) => if t == l.at_ && due == l.at_ then l.at_ else if l.at_ < t + 4 then t + 4 else l.at_
    | none => l.at_
  let delay := at_ - l.at_
  let lateBy := l.lateBy + delay
  let worst := max l.worst lateBy
  if !s.llIsOutput n then ((Out.noEffect, 10, worst, delay), s)
  else if delay != 0 && !l.policyLate then ((Out.dropped, 0, worst, delay), s)
  else if delay != 0 && l.limit != 0 && decide (l.limit * 125 < lateBy) then ((Out.dropped, 5, worst, delay), s)
  else ((if worst = 0 then Out.fired else Out.late, 0, worst, delay), s.driveLine n level l.at_ at_)

/-- DELAY_CALIBRATION (R341): the fine delay line is calibrated again; it bounds accuracy and changes no state. -/
def execDelayCalibration (s : State) : Res := .next s

/-! ### Capture (R342 to R345) -/

/-- CAP_STAT_g.FILL follows the FIFO; a rise of source 84 + g is counted (R348). -/
def State.capFill (s : State) (g : Nat) : State :=
  s.watching (84 + g) (fun s => s.put (F.CAP_STAT_g_FILL g) (vAt s.sr.caps g).recs.length)

/-- A capture FIFO changed. -/
def State.modCap (s : State) (g : Nat) (f : CapFifo → CapFifo) : State :=
  ({ s with sr := { s.sr with caps := vMod s.sr.caps g f } } : State).capFill g

/-- CAPTURE_EDGE (R342 to R345): an edge on CL_c in half-nanosecond `half` of the present TIME cycle, whose level the line holds
for `width` ns; a pulse shorter than FILTER is ignored, its trailing edge with it. -/
def execCaptureEdge (c : Fin 32) (rising : Bool) (edge : EdgeIn) (s : State) : Res :=
  let short := decide (edge.width < 4 * s.get (F.CAP_LINE_c_FILTER c))
  let e := s.get (F.CAP_LINE_c_EDGE c)
  let g := c.val / 8
  let stamp := 2 * s.clock.time + edge.half.val
  let near := match vAt s.sr.lastStamp c with
    | some t => decide (stamp < t + 16)
    | none => false
  let same := vAt s.sr.levels c == some rising
  .next (if short || same || !s.counting then s
    else
    let s := { s with sr := { s.sr with levels := vPut s.sr.levels c (some rising) } }
    if !(if rising then e == 1 || e == 3 else e == 2 || e == 3) || near then s
    else
      let s := { s with sr := { s.sr with lastStamp := vPut s.sr.lastStamp c (some stamp) } }
      let f := vAt s.sr.caps g
      if 128 ≤ f.recs.length then
        let s := (s.bump (F.CAP_STAT_g_LOST g) 1).raise (88 + g) (F.CAP_EVT_g_OVERFLOW g)
        { s with sr := { s.sr with caps := vMod s.sr.caps g (fun f => { f with ovf := true }) } }
      else
        let ns := stamp / 2
        let w2 := stamp % 2 + 2 ^ 8 * c.val + 2 ^ 16 * bit1 rising + 2 ^ 17 * bit1 f.ovf
        s.modCap g (fun f => ⟨f.recs ++ [(ns % 2 ^ 32, ns / 2 ^ 32, w2)], false⟩))

/-- TIME at which FLUSH slots have passed since a group's oldest record arrived (R345). -/
def State.capFlushAt (s : State) (g : Nat) : Nat :=
  (match (vAt s.sr.caps g).recs with
    | r :: _ => r.1 + 2 ^ 32 * r.2.1
    | [] => 0) + 125 * s.get (F.CAP_CTRL_g_FLUSH g)

/-- CAPTURE_PACKET (R345): under tunnel delivery 64 records wait, or FLUSH slots have passed since the oldest arrived, TIME moving to
that instant, and a KIND 2 packet is built for the owner's TIME tunnel while its link is up and the UP queue takes it (R309). -/
def execCapturePacket (g : Fin 4) (s : State) : Res :=
  let h := s.ownerOf (32 + g.val)
  let recs := (vAt s.sr.caps g).recs
  .next (if s.flag (F.CAP_CTRL_g_DELIVERY g) || !(h < 4) || !s.linkUp h || !s.awake || recs.isEmpty then s
    else match s.findTun h 5 (fun n => s.tunUp h n) with
      | none => s
      | some n =>
        let s := if 64 ≤ recs.length then s else s.advanceTo (s.capFlushAt g)
        if (recs.length < 64 && s.clock.time < s.capFlushAt g) || !s.qTakes (s.upQueue h n false) then s
        else
        let out := recs.take 64
        let bs := wordsBytes (out.flatMap (fun r => [w32 r.1, w32 r.2.1, w32 r.2.2, w32 0]))
        let s := s.queueUp h n (2 + 2 ^ 3 * out.length) true none bs
        s.modCap g (fun f => { f with recs := f.recs.drop 64 }))

/-- The four words of CAP_REC_g: the oldest record, or zeros (R345). -/
def State.capRec (s : State) (g i : Nat) : Nat :=
  match (vAt s.sr.caps g).recs with
  | [] => 0
  | r :: _ => if i = 0 then r.1 else if i = 1 then r.2.1 else if i = 2 then r.2.2 else 0

/-- The pop of register delivery (R345, R632). -/
def State.capPop (s : State) (g : Nat) : State :=
  if s.flag (F.CAP_CTRL_g_DELIVERY g) then s.modCap g (fun f => { f with recs := f.recs.drop 1 }) else s

/-- A TIME packet that breaks its form is discarded whole and counted (R272 check 2, R329, R340). -/
def State.timeDiscard (s : State) (h : Nat) : State :=
  (s.bump (F.CV_TUN_BADTUN_COUNT h) 1).raise (21 + 8 * h) (F.CV_TUN_EVT_DISCARD h)

/-- A TIME packet carries 1 to `most` records of `size` words and nothing else (R329, R340). -/
def timeForm (size most : Nat) (words : List Word) : Bool :=
  words.length % size == 0 && decide (0 < words.length) && decide (words.length ≤ size * most)

/-- The host's TIME tunnel, while its link brings packets (R249, R329). -/
def State.timeTun (s : State) (h : Nat) : Option Nat := if s.hears h then s.findTun h 5 (fun _ => true) else none

/-- LAUNCH_DESCRIPTORS (R329, R330): the descriptors of a TIME packet of KIND 0 accepted on the host's TIME tunnel. -/
def execLaunchDescriptors (h : Hp) (words : List Word) (s : State) : Res :=
  .next (match s.timeTun h with
    | some n => if timeForm 4 64 words then s.srDescriptors h n words else s.timeDiscard h
    | none => s)

/-- LAUNCH_CANCEL (R340): the cancel records of a TIME packet of KIND 3. -/
def execLaunchCancel (h : Hp) (words : List Word) (s : State) : Res :=
  .next (match s.timeTun h with
    | some n => if timeForm 2 128 words then s.srCancels h n words else s.timeDiscard h
    | none => s)

end Sys2Proof.Machine
end

