-- ==== Sys2Proof/Machine/Time.lean ====
section
/-! DEFINITION. Machine/Time.lean: the reference and its crystals, the time of day, its discipline, and the die bridge
(R12, R30, R35 to R58). -/
namespace Sys2Proof.Machine

/-! ### Time of day (R37, R49) -/

/-- TOD_OFFSET in nanoseconds. -/
def State.todOffset (s : State) : Nat :=
  (s.get F.TOD_OFFSET_SEC_LO_SEC + 2 ^ 32 * s.get F.TOD_OFFSET_SEC_HI_SEC) * 1000000000 + s.get F.TOD_OFFSET_NS_NS

/-- The time of day in nanoseconds at an instant of TIME; seconds wrap at 48 bits (R49, R73). -/
def State.todAt (s : State) (t : Nat) : Nat := (t + s.todOffset) % (2 ^ 48 * 1000000000)

/-- A read of TIME_LO latches TIME's upper half and the time of day for the reading agent (R37). -/
def State.timeLatch (s : State) (a : Nat) : State :=
  let tod := s.todAt s.clock.time
  let s := s.put (F.TIME_HI_VALUE a) (s.clock.time / 2 ^ 32)
  let s := s.put (F.TOD_NS_NS a) (tod % 1000000000)
  let s := s.put (F.TOD_SEC_LO_SEC a) (tod / 1000000000)
  s.put (F.TOD_SEC_HI_SEC a) (tod / 1000000000 / 2 ^ 32)

/-- TIME_LO_READ (R37). -/
def execTimeLoRead (a : Agent) (s : State) : Res := .next (s.timeLatch a)

/-! ### The reference (R30, R35, R42, R43) -/

/-- REF_PLL_LOCK (R35): the reference PLL locks; TIME counts from the first cycle after it. The lane groups' PLLs and the USB
PLL run from REF and lock with it. -/
def execRefPllLock (s : State) : Res :=
  let s := s.put F.REF_STATUS_PLL_LOCK 1
  let s := s.put F.USB_STATUS_PLL_LOCK 1
  let s := s.each (List.range 9) (fun s g =>
    (s.put (F.LG_STATUS_PLL_LOCK g) 1).put (F.LG_STATUS_SPARE_PLL_OK g) 1)
  .next (s.modClock (fun c => { c with running := true }))

/-- The automatic switch of REF to XTAL_B (R30, R42): source 4, notice XTAL_SWITCH and the spare's report (R607,
R617, R639). With REF on XTAL_B already there is nothing to switch to, and no source, notice or entry follows (DESIGN CHOICE, log
entry 108). -/
def State.refSwitch (s : State) : State :=
  if s.flag F.REF_STATUS_ACTIVE then s
  else
    let s := s.put F.REF_CTRL_SEL 1
    let s := s.put F.REF_STATUS_ACTIVE 1
    let s := s.put F.SYS_STATE_REF_SPARE 1
    let s := s.raise 4 ⟨A.OA_EVT, 4, 1⟩
    (s.spareTookOver 7 38 0).notice 4 0

/-- REF_PLL_LOCK_LOSS (R30). -/
def execRefPllLockLoss (s : State) : Res := .next ((s.put F.REF_STATUS_PLL_LOCK 0).refSwitch)

/-- XTAL_A_STOPPED (R42). -/
def execXtalAStopped (s : State) : Res := .next ((s.put F.REF_STATUS_XTAL_A_OK 0).refSwitch)

/-- TIME_EVT.XTAL_DISAGREE is set while the disagreement persists (R43, R59). -/
def State.xtalEvt (s : State) : State := if s.clock.disagree then s.raise 8 F.TIME_EVT_XTAL_DISAGREE else s

/-- A write that clears XTAL_DISAGREE finds it set again at once while the disagreement persists (R59, R637). -/
def State.xtalKeep (s : State) : State := if s.clock.disagree then s.put F.TIME_EVT_XTAL_DISAGREE 1 else s

/-- XTAL_COMPARE (R43): `ppm` is the disagreement measured over 8 ticks. -/
def execXtalCompare (ppm : Int) (s : State) : Res :=
  .next ((s.modClock (fun c => { c with disagree := decide (250 < ppm.natAbs) })).xtalEvt)

/-- A write of REF_CTRL.SEL comes into force at a boundary (R43). -/
def State.refSelect (s : State) : State :=
  let sel := s.get F.REF_CTRL_SEL
  let s := s.put F.REF_STATUS_ACTIVE sel
  if sel = 0 then s.put F.SYS_STATE_REF_SPARE 0 else s

/-! ### Discipline (R50 to R55) -/

namespace Disc
def free : Nat := 0
def acquire : Nat := 1
def locked : Nat := 2
def holdover : Nat := 3
end Disc

/-- The servo's state changes; a change raises source 5 (R53). -/
def State.discState (s : State) (st : Nat) : State :=
  if s.get F.DISC_STATUS_STATE = st then s else (s.put F.DISC_STATUS_STATE st).raise 5 F.TIME_EVT_DISC_CHG

/-- The configured sources in order. -/
def State.discSources (s : State) : List Nat :=
  [s.get F.DISC_CTRL_SRC0, s.get F.DISC_CTRL_SRC1, s.get F.DISC_CTRL_SRC2].filter (fun c => 1 ≤ c && c ≤ 8)

/-- A source is qualified (R50). -/
def State.discQualified (s : State) (c : Nat) : Bool :=
  match vAt s.clock.phases c with
  | some p => decide (s.tick - p.tick ≤ s.get F.DISC_LIMITS_STALE)
  | none => false

/-- The integrator is cleared on entry to ACQUIRE from a new source (R53), and with it the run of locks (DESIGN CHOICE, log entry
133). -/
def State.discAcquire (s : State) (src : Nat) : State :=
  let s := s.modClock (fun c => { c with integ := 0 })
  ((s.put F.DISC_STATUS_ACTIVE_SRC src).put F.DISC_STATUS_LOCK_RUN 0).discState Disc.acquire

/-- New DISC_CTRL values come into force (R53): no source is FREE with REF_ADJ ramping to 0, and SRC0 written non-zero
in FREE is ACQUIRE. -/
def State.discWritten (s : State) : State :=
  if s.discSources.isEmpty then
    ((s.modClock (fun c => { c with target := 0, integ := 0 })).put F.DISC_STATUS_ACTIVE_SRC 0).discState Disc.free
  else if s.get F.DISC_STATUS_STATE = Disc.free && s.flag F.DISC_CTRL_SRC0 then s.discAcquire 0
  else s

/-- A phase measurement of a source (R50, R52). -/
def State.measured (s : State) (src : Nat) (e : Int) : State :=
  s.modClock (fun c => { c with phases := vPut c.phases src (some ⟨e, s.tick⟩) })

/-- One run of the servo with a phase error of the selected source (R52, R53). A run in ACQUIRE that steps TOD does not also enter
LOCKED (DESIGN CHOICE, log entry 136). -/
def State.servoRun (s : State) (e : Int) : State :=
  let st := s.get F.DISC_STATUS_STATE
  let lock : Int := (s.get F.DISC_LOOP_LOCK_NS : Nat)
  let mag : Int := (e.natAbs : Nat)
  let s := s.put F.DISC_PHASE_E (toBits 32 (clampSigned 32 e))
  let s := s.put F.DISC_STATUS_LOCK_RUN (if mag < lock then min 255 (s.get F.DISC_STATUS_LOCK_RUN + 1) else 0)
  if st = Disc.acquire && decide (((s.get F.DISC_LIMITS_STEP_US * 1000 : Nat) : Int) < mag) then
    s.modClock (fun c => { c with step := some e, integ := 0 })
  else
    let integ := s.clock.integ + e
    let target := (e / (2 ^ s.get F.DISC_LOOP_KP_SHIFT : Nat) + integ / (2 ^ s.get F.DISC_LOOP_KI_SHIFT : Nat)) * 1100
    let s := s.modClock (fun c => { c with integ := integ, target := target, targets := (target :: c.targets).take 16 })
    if st = Disc.acquire && 16 ≤ s.get F.DISC_STATUS_LOCK_RUN then s.discState Disc.locked
    else if st = Disc.locked && decide (4 * lock < mag) then s.discState Disc.acquire
    else s

/-- HOLDOVER begins: REF_ADJ goes to hold_adj, or stays where fewer than 16 runs have completed (R53); the mean is rounded down
(DESIGN CHOICE, log entry 107). -/
def State.discHold (s : State) : State :=
  let n := s.clock.targets.length
  let hold := if 16 ≤ n then s.clock.targets.sum / (16 : Int) else signedOf 32 (s.get F.REF_ADJ_VALUE)
  ((s.modClock (fun c => { c with target := hold })).put F.DISC_STATUS_ACTIVE_SRC 0).discState Disc.holdover

/-- One run of the servo chore (R50, R52, R53): FREE without a source, HOLDOVER without a qualified one, else a run on the first
qualified source, which is ACQUIRE first where the source is another or the servo stood in HOLDOVER or FREE. -/
def State.servoStep (s : State) : State :=
  if s.discSources.isEmpty then s.discWritten
  else match s.discSources.find? s.discQualified with
    | none => if s.get F.DISC_STATUS_STATE = Disc.holdover then s else s.discHold
    | some src =>
      let st := s.get F.DISC_STATUS_STATE
      let s := if st = Disc.holdover || st = Disc.free || s.get F.DISC_STATUS_ACTIVE_SRC != src then s.discAcquire src
        else s
      match vAt s.clock.phases src with
      | some p => s.servoRun p.e
      | none => s

/-- DISC_SERVO (R50 to R53). -/
def execDiscServo (prevOpen : Bool) (s : State) : Res :=
  .next (s.chore 7 0 prevOpen State.servoStep)

/-- REF_ADJ moves towards the servo's target by at most 0.5 ppm a tick, within REF_ADJ_LIMIT (R40, R52). A limit that falls below
REF_ADJ brings it back by the same ramp (DESIGN CHOICE, log entry 109). -/
def State.refRamp (s : State) : State :=
  let lim : Int := (s.get F.REF_ADJ_LIMIT_VALUE : Nat)
  let goal := max (-lim) (min lim s.clock.target)
  let adj := signedOf 32 (s.get F.REF_ADJ_VALUE)
  let d := max (-549756) (min 549756 (goal - adj))
  s.put F.REF_ADJ_VALUE (toBits 32 (adj + d))

/-- A step of TOD_OFFSET that fell due: at the next tick boundary, counted, source 7 (R53, R54). -/
def State.todStep (s : State) : State :=
  match s.clock.step with
  | none => s
  | some e =>
    let m : Int := ((2 ^ 48 * 1000000000 : Nat) : Int)
    let o := (((s.todOffset : Nat) : Int) + e) % m
    let o := o.toNat
    let s := s.modClock (fun c => { c with step := none })
    let s := s.put F.TOD_OFFSET_NS_NS (o % 1000000000)
    let s := s.put F.TOD_OFFSET_SEC_LO_SEC (o / 1000000000)
    let s := s.put F.TOD_OFFSET_SEC_HI_SEC (o / 1000000000 / 2 ^ 32)
    (s.bump F.DISC_STATUS_STEP_COUNT 1).raise 7 F.TIME_EVT_TOD_STEP

/-- HOST_TIME_BEACON (R51, R242): the host's time of day at a tick boundary, its seconds completed to the value nearest
the hub's own. -/
def execHostTimeBeacon (h : Hp) (block : BitVec 64) (s : State) : Res :=
  let b := block.toNat
  .next (if !s.hears h then s
    else if !s.discSources.contains (5 + h.val) then s.bump (F.CV_UNKNOWN_CTL_COUNT h) 1
    else
      let k := s.tick - (s.tick + 256 - bitsOf b 8 8) % 256
      let mine : Int := (s.todAt (k * 125000) : Nat)
      let mineSec := mine / 1000000000
      let low : Int := (bitsOf b 16 16 : Nat)
      let d := (low - mineSec + 32768) % 65536 - 32768
      let theirs := (mineSec + d) * 1000000000 + ((bitsOf b 32 30 : Nat) : Int)
      s.measured (5 + h.val) (theirs - mine))

/-! ### The die bridge (R12, R622) -/

/-- DIE_BRIDGE_WORD_FAIL (R12): a control word fails its CRC; `again` says that it is the word that failed last. A word
that fails three times in a row marks the bridge degraded. -/
def execDieBridgeWordFail (dir : Fin 2) (again : Bool) (s : State) : Res :=
  let n := if again then vAt s.oa.bridge dir + 1 else 1
  let s := { s with oa := { s.oa with bridge := vPut s.oa.bridge dir n,
                                      bridgeAt := if 2 ≤ n then some s.tick else s.oa.bridgeAt } }
  .next (if n = 3 then
      let s := s.put F.SYS_STATE_BRIDGE_DEGRADED 1
      let s := s.raise 3 ⟨A.OA_EVT, 3, 1⟩
      (s.logHw 7 2 0 0x18 39 dir).notice 5 dir
    else s)

/-- The degraded mark clears after 8,000 ticks in which no word needed a second retry (R622). -/
def State.bridgeTick (s : State) : State :=
  match s.oa.bridgeAt with
  | some t => if t + 8000 ≤ s.tick then
      ({ s with oa := { s.oa with bridgeAt := none } } : State).put F.SYS_STATE_BRIDGE_DEGRADED 0 else s
  | none => s

end Sys2Proof.Machine
end

