-- ==== Sys2Proof/Machine/Flex.lean ====
section
/-! DEFINITION. Machine/Flex.lean: what a head, a PCI Express port or an Ethernet port shows of its lanes in the lane
registers (R209, R213). -/
namespace Sys2Proof.Machine

/-- STATE codes of LN_STATUS (R213). -/
def laneOff : Nat := 0
def laneTraining : Nat := 1
def laneQual : Nat := 2
def laneActive : Nat := 3
def laneFailedCode : Nat := 4
def laneIdle : Nat := 5

/-- A flex lane takes a state unless it is marked failed; ACTIVE of its group follows. A lane that is active adapts, but for one of a
head, whose receive pair is unused (R188, R379). -/
def State.flexLane (s : State) (g b st rate : Nat) : State :=
  if s.get (F.LN_STATUS_STATE g b) = laneFailedCode then s
  else
    let s := (s.put (F.LN_STATUS_STATE g b) st).put (F.LN_STATUS_RATE g b) rate
    let s := if st = laneActive && s.get (F.LG_CTRL_ROLE g) != 1 then s.put (F.LN_RXEQ_ADAPTING g b) 1 else s.adaptStop g b
    if st = laneActive then s.setBit (F.LG_STATUS_ACTIVE g) b
    else (s.clrBit (F.LG_STATUS_ACTIVE g) b).clrBit (F.LG_STATUS_QUALIFYING g) b

/-- Every lane of a group that trains, qualifies or is active goes to electrical idle (R187). -/
def State.lanesIdle (s : State) (g : Nat) : State :=
  s.each (List.range 4) (fun s b =>
    let st := s.get (F.LN_STATUS_STATE g b)
    if 1 ≤ st && st ≤ 3 then (s.adaptStop g b).put (F.LN_STATUS_STATE g b) laneIdle else s)

/-- The lanes of a group that were in their stripe or link leave electrical idle; the others train (R580). -/
def State.lanesWake (s : State) (g : Nat) : State :=
  s.each (List.range 4) (fun s b =>
    if s.get (F.LN_STATUS_STATE g b) != laneIdle then s
    else if 4 ≤ g && bitAt (s.get (F.LG_STATUS_QUALIFYING g)) b then s.put (F.LN_STATUS_STATE g b) laneQual
    else if bitAt (s.get (F.LG_STATUS_ACTIVE g)) b then
      (s.put (F.LN_STATUS_STATE g b) laneActive).put (F.LN_RXEQ_ADAPTING g b) (bit1 (4 ≤ g && s.get (F.LG_CTRL_ROLE g) != 1))
    else s.put (F.LN_STATUS_STATE g b) laneTraining)

/-- A flex lane whose link is detected anew: its failures to qualify are forgotten, and one that was marked failed for sixteen of them
may be used again (R202, log entry 147). -/
def State.flexForgetLane (s : State) (g b : Nat) : State :=
  let lost := decide (16 ≤ (vAt s.eyes (4 * g + b)).tries)
  let s := { s.clrBit (F.LG_STATUS_QUALIFYING g) b with eyes := vMod s.eyes (4 * g + b) (fun e => { e with tries := 0 }) }
  if lost then s.put (F.LN_STATUS_STATE g b) laneOff else s

/-- As `flexForgetLane`, for every lane of a group whose link takes it whole. -/
def State.flexForget (s : State) (g : Nat) : State := s.each (List.range 4) (fun s b => s.flexForgetLane g b)

/-- A flex block may use a lane group: LG_CTRL.ENABLE of a group is set (R103, R187, R213). -/
def State.groupOn (s : State) (g : Option Nat) : Bool := g.any (fun g => s.flag (F.LG_CTRL_ENABLE g))

/-- The first `n` logical lanes of a group take a state at a rate; the others are off. -/
def State.flexLanes (s : State) (g n st rate : Nat) : State :=
  s.each (List.range 4) (fun s l => s.flexLane g (s.ballLane g l) (if l < n then st else laneOff) rate)

/-- Logical lanes of a group that are not marked failed, from lane 0 on: what is left for a link (R208). -/
def State.goodLanes (s : State) (g : Nat) : Nat :=
  (firstIx 4 (fun l => s.get (F.LN_STATUS_STATE g (s.ballLane g l)) == laneFailedCode)).getD 4

/-- LG_EVT bit `i` of group `g` (R212). -/
def State.lgEvt (s : State) (g i : Nat) : State := s.raise (48 + g) ⟨A.LG_EVT g, i, 1⟩

end Sys2Proof.Machine
end

