-- ==== Sys2Proof/Machine/Playa.lean ====
section
/-! DEFINITION. Machine/Playa.lean: the display engine: grains, pools, maps and damage writes, commits, head timing and
genlock, composition, and the DisplayPort link and AUX (R346, R350 to R387). -/
namespace Sys2Proof.Machine

/-! ### Pools and maps (R351 to R356) -/

/-- No grain (R350). -/
def noGrain : Nat := 0x1FFF

/-- An entry that names nothing. -/
def mapEnt0 : MapEnt := ⟨noGrain, noGrain, false⟩

/-- Map entry `e` of head `x`. -/
def State.mapEnt (s : State) (x e : Nat) : MapEnt := cellGet mapEnt0 (vAt s.pl.maps x) e

/-- The state with a map entry changed. -/
def State.setMapEnt (s : State) (x e : Nat) (m : MapEnt) : State :=
  { s with pl := { s.pl with maps := vMod s.pl.maps x (fun l => cellSet mapEnt0 l e m) } }

/-- The word of MAP_e (R387). -/
def State.mapWord (s : State) (x e : Nat) : Nat :=
  let m := s.mapEnt x e
  m.cur + 2 ^ 16 * m.next + 2 ^ 31 * bit1 m.staged

/-- Bit `i` of HD_EVT of head `x`, which drives source 96 + 8x + i (R385). -/
def State.hdEvt (s : State) (x i : Nat) : State := s.raise (96 + 8 * x + i) ⟨A.HD_EVT x, i, 1⟩

/-- HD_EVT.POOL_LOW is set while FREE lies below LOW (R385). -/
def State.poolLow (s : State) (x : Nat) : State :=
  if s.get (F.HD_POOL_FREE x) < s.get (F.HD_POOL_WM_LOW x) then s.hdEvt x 6 else s

/-- HD_POOL follows the free list and the map. -/
def State.poolRegs (s : State) (x : Nat) : State :=
  let s := s.put (F.HD_POOL_FREE x) (vAt s.pl.free x).length
  (s.put (F.HD_POOL_STAGED x) (((vAt s.pl.maps x).filter (fun c => c.2.staged)).length)).poolLow x

/-- A grain returns to its pool: it joins the back (R352). -/
def State.freeGrain (s : State) (x g : Nat) : State :=
  if g = noGrain then s else { s with pl := { s.pl with free := vMod s.pl.free x (· ++ [g]) } }

/-! ### Lines and bands (R370, R371) -/

/-- The line number at this instant (R370): lines count on from vertical blanking, which starts at V_ACTIVE; genlock's lines and pixels
lengthen or shorten it, the pixels in its last line (R346). -/
def State.hdLine (s : State) (x : Nat) : Nat :=
  if !s.flag (F.HD_STATUS_RUNNING x) then s.get (F.HD_STATUS_LINE x)
  else
    let px := 4 * s.get (F.HD_PCLK_DEN x)
    let ht := s.get (F.HD_HTIM_H_TOTAL x) * px
    let t := (s.clock.time - vAt s.pl.vbAt x) * s.get (F.HD_PCLK_NUM x)
    let va := s.get (F.HD_VTIM_V_ACTIVE x)
    let vt := s.get (F.HD_VTIM_V_TOTAL x)
    let adj := vAt s.pl.glAdj x
    let vb := (((vt - va : Nat) : Int) + adj.1).toNat
    let ends := (((vb * ht : Nat) : Int) + adj.2 * (px : Int)).toNat
    if t < ends then min (va + min (t / ht) (vb - 1)) (vt - 1) else min ((t - ends) / ht) (va - 1)

/-- The head is in vertical blanking. -/
def State.hdInVb (s : State) (x : Nat) : Bool :=
  s.flag (F.HD_STATUS_RUNNING x) && decide (s.get (F.HD_VTIM_V_ACTIVE x) ≤ s.hdLine x)

/-- Bands of a head's frame. -/
def State.bandCount (s : State) (x : Nat) : Nat := ceilDiv (s.get (F.HD_VTIM_V_ACTIVE x)) 64

/-- What a band is composed from at this instant. -/
def State.bandNow (s : State) (x r : Nat) : Band := ⟨r, vAt s.pl.shown x, vAt s.pl.maps x, s.pl.pixels, s.pl.bad⟩

/-- The next band of a head's frame is composed into the oldest of its three band buffers (R371). -/
def State.compose (s : State) (x : Nat) : State :=
  let r := vAt s.pl.nextBand x
  { s with pl := { s.pl with bands := vPut s.pl.bands x ((s.bandNow x r :: vAt s.pl.bands x).take 3),
                             nextBand := vPut s.pl.nextBand x (r + 1) } }

/-- The bands of a frame whose composition begins up to band `n` are composed, from a state that has not changed since (R371). -/
def State.composeTo (s : State) (x n : Nat) : State :=
  s.each (List.range (min n (s.bandCount x) - vAt s.pl.nextBand x)) (fun s _ => s.compose x)

/-- What a running head has begun to compose by now: band 0 in vertical blanking, band r + 1 once scan-out of band r begins (R371). -/
def State.composeDue (s : State) (x : Nat) : State :=
  if !s.flag (F.HD_STATUS_RUNNING x) then s
  else s.composeTo x (if s.hdInVb x then 1 else s.hdLine x / 64 + 2)

/-- A new frame begins: band 0 is composed (R371). -/
def State.newFrame (s : State) (x : Nat) : State :=
  ({ s with pl := { s.pl with nextBand := vPut s.pl.nextBand x 0 } } : State).composeTo x 1

/-- Every grain of a head's pool becomes free in ascending order and every map entry is cleared (R359). -/
def State.playaInit (s : State) (x : Nat) : State :=
  let base := s.get (F.PL_PART_x_BASE x)
  let n := s.get (F.PL_PART_x_COUNT x)
  ({ s with pl := { s.pl with
    free := vPut s.pl.free x ((List.range n).map (base + ·)), maps := vPut s.pl.maps x [],
    msgs := s.pl.msgs.filter (fun m => m.2.x != x) } } : State).poolRegs x

/-- The grain messages in progress for which `p` holds end, their grains back in their pools (R351). -/
def State.quitMsgs (s : State) (p : GrainMsg → Bool) : State :=
  let s := (s.pl.msgs.filter (fun m => p m.2)).foldl (fun s m => s.freeGrain m.2.x m.2.grain) s
  { s with pl := { s.pl with msgs := s.pl.msgs.filter (fun m => !p m.2) } }

/-- The head whose pool holds grain `g`, if any. -/
def State.poolOf (s : State) (g : Nat) : Option Nat :=
  firstIx 2 (fun x => decide (s.get (F.PL_PART_x_BASE x) ≤ g)
    && decide (g < s.get (F.PL_PART_x_BASE x) + s.get (F.PL_PART_x_COUNT x)))

/-- The grain window's answer to a read of the word at byte offset `off` (R353): a value or a RESULT. -/
def State.grainRead (s : State) (a off : Nat) : Except Nat Nat :=
  let g := off / 16384
  match s.poolOf g with
  | none => .error R.badAddr
  | some x =>
    if a = 4 then .ok (cellGet (0 : Word) s.pl.pixels (off / 4)).toNat
    else if !s.owns a x then .error R.denied
    else if cellGet 7 s.pl.tags g != a then .ok 0
    else .ok (cellGet (0 : Word) s.pl.pixels (off / 4)).toNat

/-- The grain window's answer to a write (R353): only the owner of the head writes; the grain's tag names it. -/
def State.grainWrite (s : State) (a off v : Nat) : Except Nat State :=
  let g := off / 16384
  match s.poolOf g with
  | none => .error R.badAddr
  | some x =>
    if !s.owns a x then .error R.denied
    else
      let s := s.composeDue x
      .ok { s with pl := { s.pl with pixels := cellSet 0 s.pl.pixels (off / 4) (w32 v), tags := cellSet 7 s.pl.tags g a,
                                     bad := s.pl.bad.filter (· != off / 64) } }

/-! ### Surfaces (R355, R357) -/

/-- FORMAT of a surface, 0 undefined. -/
def State.surfFmt (s : State) (x f : Nat) : Nat := bitsOf (s.get (F.SURF_W0_V x f)) 0 3
/-- W_GRAINS of a surface. -/
def State.surfW (s : State) (x f : Nat) : Nat := bitsOf (s.get (F.SURF_W0_V x f)) 8 7
/-- H_GRAINS of a surface. -/
def State.surfH (s : State) (x f : Nat) : Nat := bitsOf (s.get (F.SURF_W0_V x f)) 16 7
/-- MAP_BASE of a surface. -/
def State.surfBase (s : State) (x f : Nat) : Nat := bitsOf (s.get (F.SURF_W1_V x f)) 0 13
/-- The map entry of a grain position (R355). -/
def State.surfEntry (s : State) (x f gx gy : Nat) : Nat := s.surfBase x f + gy * s.surfW x f + gx

/-- Source bytes of a pixel (R364). -/
def srcBytes (fmt : Nat) : Nat := if fmt ≤ 2 then 4 else if fmt = 3 then 2 else 1

/-- A source pixel as the writer stores it (R364). -/
def storePixel (fmt v : Nat) : Nat :=
  if fmt = 3 then
    let r := bitsOf v 11 5
    let g := bitsOf v 5 6
    let b := bitsOf v 0 5
    0xFF000000 + 2 ^ 16 * (r * 8 + r / 4) + 2 ^ 8 * (g * 4 + g / 16) + (b * 8 + b / 4)
  else if fmt = 4 then v % 256
  else v % 2 ^ 32

/-- The pixels that a list of bytes spells, `n` bytes each. -/
def pixelsOf (fmt : Nat) : List Byte → List Word
  | [] => []
  | a :: t =>
    if srcBytes fmt = 1 then w32 (storePixel fmt a.toNat) :: pixelsOf fmt t
    else match t with
      | [] => []
      | b :: t =>
        if srcBytes fmt = 2 then w32 (storePixel fmt (ofBytesLE [a, b])) :: pixelsOf fmt t
        else match t with
          | c :: d :: t => w32 (storePixel fmt (ofBytesLE [a, b, c, d])) :: pixelsOf fmt t
          | _ => []

/-- The runs of a run-length packet, none where a COUNT or a pixel has a bit it may not have (R360). -/
def runsOf (fmt : Nat) : List Word → Option (List Word)
  | c :: v :: t =>
    if 1 ≤ c.toNat && decide (c.toNat ≤ 4096) && decide (v.toNat < 2 ^ (8 * srcBytes fmt)) then
      (runsOf fmt t).map (List.replicate c.toNat (w32 (storePixel fmt v.toNat)) ++ ·)
    else none
  | [] => some []
  | _ => none

/-! ### Damage writes (R360 to R363) -/

/-- The pixels that a packet of a message writes, and whether they end the grain; none for a packet of wrong form
(R360, R363). -/
def pieceOf (fmt enc piece want done : Nat) (last : Bool) (bs : List Byte) : Option (List Word) :=
  match enc with
  | 0 =>
    let total := 16 * srcBytes fmt / 4
    if piece = want && bs.length = 1024 && piece < total && last == (piece + 1 == total) then some (pixelsOf fmt bs)
    else none
  | 1 =>
    if piece = want && bs.length % 8 = 0 && 8 ≤ bs.length && decide (bs.length ≤ 1024) then
      match runsOf fmt (bytesWords bs) with
      | some ps =>
        let n := done + ps.length
        if n ≤ 4096 && last == (n == 4096) && (last || piece < 15) then some ps else none
      | none => none
    else none
  | 2 =>
    if piece = 0 && want = 0 && last && bs.length = 4 then
      some (List.replicate 4096 (w32 (storePixel fmt (ofBytesLE (bs.take (srcBytes fmt))))))
    else none
  | _ => none

/-- The grain message in progress on a tunnel. -/
def State.grainMsg (s : State) (h n : Nat) : Option GrainMsg := (s.pl.msgs.find? (fun m => m.1 == 64 * h + n)).map (·.2)

/-- The grain message in progress on a tunnel becomes `m`. -/
def State.setGrainMsg (s : State) (h n : Nat) (m : Option GrainMsg) : State :=
  let l := s.pl.msgs.filter (fun c => c.1 != 64 * h + n)
  { s with pl := { s.pl with msgs := match m with
    | some g => l ++ [(64 * h + n, g)]
    | none => l } }

/-- A grain message is discarded with a cause: counted, its grain returned, the rest of it dropped (R265, R363). -/
def State.grainDiscard (s : State) (h n : Nat) (m : GrainMsg) (cause : Nat) (last : Bool) : State :=
  let s := s.bump (F.HD_WDROP_COUNT m.x) 1
  let s := s.put (F.HD_WDROP_LAST_CAUSE m.x) cause
  let s := (s.hdEvt m.x 7).freeGrain m.x m.grain
  (s.setGrainMsg h n (if last then none else some { m with drop := true, grain := noGrain })).poolRegs m.x

/-- A packet of a message in progress is lost before it reaches the writer: the grain returns (R265). -/
def State.grainLost (s : State) (h n : Nat) (last : Bool) : State :=
  match s.grainMsg h n with
  | some m => if m.drop then (if last then s.setGrainMsg h n none else s) else s.grainDiscard h n m 4 last
  | none => s

/-- The wait of a commit is met (R375). -/
def State.hdWaitMet (s : State) (x : Nat) : Bool :=
  !s.flag (F.HD_WAIT_EN x) ||
    (let d := (s.get (F.HD_SEQ_GRAINS_DONE x) + 65536 - s.get (F.HD_WAIT_SEQ x)) % 65536
     decide (d < 32768))

/-- The FRAME-class register keys of a head. -/
def frameKey (x k : Nat) : Bool := k == A.HD_BG x || (decide (A.LY_CTRL x 0 ≤ k) && decide (k < A.LY_CTRL x 0 + 0x2F00))

/-- The head's COMMIT ends with a RESULT (R374 to R377). -/
def State.hdEndCommit (s : State) (x result : Nat) : State :=
  let s := s.put (F.HD_COMMIT_COMMIT x) 0
  let s := s.put (F.HD_STATUS_PENDING x) 0
  let s := s.put (F.HD_STATUS_CHECKED x) 0
  let s := s.put (F.HD_COMMIT_STATUS_RESULT x) result
  let s := { s with pl := { s.pl with taken := vPut s.pl.taken x false, waits := vPut s.pl.waits x 0 } }
  if result = 1 then s.hdEvt x 1 else if result = 5 then s else s.hdEvt x 2

/-- Steps 1 to 3 of R375: the shadows come into force, every staged entry is swapped, the commit is done. -/
def State.hdApply (s : State) (x : Nat) : State :=
  let s := { s with pl := { s.pl with shown := vPut s.pl.shown x (cellKeep (frameKey x) s.regs) } }
  let staged := (vAt s.pl.maps x).filter (fun c => c.2.staged)
  let s := staged.foldl (fun s c =>
    (s.freeGrain x c.2.cur).setMapEnt x c.1 ⟨c.2.next, noGrain, false⟩) s
  let s := s.poolRegs x
  let s := s.put (F.HD_SEQ_COMMIT_SEQ x) (s.get (F.HD_SEQ_COMMIT_SEQ x) + 1)
  s.hdEndCommit x 1

/-- A stopped head applies a checked commit whose wait is met at once (R378). -/
def State.hdIdleApply (s : State) (x : Nat) : State :=
  if !s.flag (F.HD_STATUS_RUNNING x) && s.flag (F.HD_STATUS_PENDING x) && s.flag (F.HD_STATUS_CHECKED x)
      && s.hdWaitMet x then s.hdApply x
  else s

/-- A grain message completes: the entry's NEXT is the new grain (R361). -/
def State.grainComplete (s : State) (h n : Nat) (m : GrainMsg) : State :=
  let e := s.surfEntry m.x m.surf m.gx m.gy
  let old := s.mapEnt m.x e
  let s := if old.staged then s.freeGrain m.x old.next else s
  let s := s.setMapEnt m.x e ⟨old.cur, m.grain, true⟩
  let s := s.put (F.HD_SEQ_GRAINS_DONE m.x) (s.get (F.HD_SEQ_GRAINS_DONE m.x) + 1)
  ((s.setGrainMsg h n none).poolRegs m.x).hdIdleApply m.x

/-- A packet of a message that has its grain (R360, R361). -/
def State.grainPut (s : State) (h n : Nat) (m : GrainMsg) (p : Packet) : State :=
  match pieceOf (s.surfFmt m.x m.surf) m.enc (pktBits p 60 4) m.piece m.done (pktLast p) p.payload with
  | none => s.grainDiscard h n m 4 (pktLast p)
  | some ps =>
    let from_ := 4096 * m.grain + m.done
    let s := { s with pl := { s.pl with pixels := cellSplice 0 s.pl.pixels from_ ps,
                                        bad := s.pl.bad.filter (fun b => decide (b < from_ / 16) || decide (from_ + ps.length ≤ 16 * b)) } }
    let m := { m with piece := m.piece + 1, done := m.done + ps.length }
    if pktLast p then s.grainComplete h n m else s.setGrainMsg h n (some m)

/-- A grain message may start on a tunnel in this tick (R362). -/
def State.grainMayStart (s : State) (h n : Nat) : Bool :=
  (s.grainMsg h n).isSome || decide (cellGet 0 s.pl.started (64 * h + n) < s.get (F.PL_WR_h_n_GRAINS h n))

/-- The writer takes a DISPLAY packet of host `h` on tunnel `n` (R361 to R363). -/
def State.grainPacket (s : State) (h n : Nat) (p : Packet) : State :=
  let x := bitsOf (s.tunW0 h n) 6 3 % 2
  let surf := pktBits p 41 5
  let gx := pktBits p 46 6
  let gy := pktBits p 52 6
  let enc := pktBits p 58 2
  match s.grainMsg h n with
  | some m =>
    if m.drop then (if pktLast p then s.setGrainMsg h n none else s)
    else if m.surf = surf && m.gx = gx && m.gy = gy && m.enc = enc then s.grainPut h n m p
    else s.grainDiscard h n m 4 (pktLast p)
  | none =>
    let m : GrainMsg := ⟨false, x, surf, gx, gy, enc, noGrain, 0, 0⟩
    if s.surfFmt x surf = 0 then s.grainDiscard h n m 1 (pktLast p)
    else if s.surfW x surf ≤ gx || s.surfH x surf ≤ gy then s.grainDiscard h n m 2 (pktLast p)
    else match vAt s.pl.free x with
      | [] => s.grainDiscard h n m 3 (pktLast p)
      | g :: rest =>
        let s := { s with pl := { s.pl with
          free := vPut s.pl.free x rest, tags := cellSet 7 s.pl.tags g h,
          started := cellSet 0 s.pl.started (64 * h + n) (cellGet 0 s.pl.started (64 * h + n) + 1) } }
        (s.poolRegs x).grainPut h n { m with grain := g } p

/-- GRAIN_PIECE (R360 to R364): a DISPLAY packet reaches the writer; one that may not start a message in this tick, and
one behind such a packet, waits in the tunnel's DOWN queue (R362). -/
def execGrainPiece (h : Hp) (pkt : Packet) (s : State) : Res :=
  let n := pktTun pkt
  let x := bitsOf (s.tunW0 h n) 6 3 % 2
  .next (if s.tunType h n != 1 || !s.unitRuns (9 + x) then s
    else
      let q := vAt (vAt s.bc.downMap h) n
      let waits := (s.queue q).items.any (fun i => match i.body with
        | .cv t 1 _ _ _ _ _ _ => t == n
        | _ => false)
      if waits || !s.grainMayStart h n then
        s.enqueue q ⟨.cv n 1 (pktTsf pkt) false (pktLast pkt) false false none, pkt.payload,
          8 * ceilDiv pkt.payload.length 8, false, 0⟩
      else s.grainPacket h n pkt)

/-- The old owner's message in progress on a tunnel ends, its grain back in the pool, and its packets that wait in the tunnel's DOWN
queue fail check 4 of R272: they go, are counted, and their credits return (R291, DEDUCED, log entry 122). -/
def State.grainQuit (s : State) (h n x : Nat) : State :=
  let s := match s.grainMsg h n with
    | some m => ((s.freeGrain x m.grain).setGrainMsg h n none).poolRegs x
    | none => s
  let q := 64 * h + vAt (vAt s.bc.downMap h) n % 32
  let mine (i : QItem) : Bool := match i.body with
    | .cv t 1 _ _ _ _ _ _ => t == n
    | _ => false
  let gone := (s.queue q).items.filter mine
  if gone.isEmpty then s
  else
    let s := s.keepItems q (fun i => !mine i)
    let s := s.freeUnits h n ((gone.map (fun i => unitsOf i.bytes.length)).sum)
    (s.bump (F.CV_TUN_NOTOWN_COUNT h) gone.length).raise (21 + 8 * h) (F.CV_TUN_EVT_DISCARD h)

/-- At a boundary at which a head changes owner, the old owner's grains go: those of its messages in progress, and the staged entries
unless a commit is pending (R291, R365). -/
def State.headOwnerChanged (s : State) (x old : Nat) : State :=
  let s := if old < 4 then s.each (List.range 64) (fun s n =>
      if s.tunType old n = 1 && bitsOf (s.tunW0 old n) 6 3 % 2 = x then s.grainQuit old n x else s)
    else s
  if s.flag (F.HD_STATUS_PENDING x) then s
  else
    let staged := (vAt s.pl.maps x).filter (fun c => c.2.staged)
    (staged.foldl (fun s c => (s.freeGrain x c.2.next).setMapEnt x c.1 ⟨c.2.cur, noGrain, false⟩) s).poolRegs x

/-- A new tick: the tunnels may start WR_GRAINS messages again (R362). -/
def State.grainTick (s : State) : State := { s with pl := { s.pl with started := [] } }

/-! ### Timing (R370, R371) -/

/-- P of R371 in ns times NUM, from HD_PCLK, HD_HTIM and HD_VTIM words. -/
def periodP (pclk htim vtim : Nat) : Int :=
  let num := bitsOf pclk 0 16
  let den := bitsOf pclk 16 16
  let m := min 64 (bitsOf vtim 16 13 - bitsOf vtim 0 13)
  ((bitsOf htim 16 13 * 4 * den * m : Nat) : Int) - ((9000 * num : Nat) : Int)

/-- The mode of five timing words keeps R370. -/
def timingOk (pclk htim hsync vtim vsync : Nat) : Bool :=
  let num := bitsOf pclk 0 16
  let den := bitsOf pclk 16 16
  let ha := bitsOf htim 0 13
  let ht := bitsOf htim 16 13
  let va := bitsOf vtim 0 13
  let vt := bitsOf vtim 16 13
  let syncOk (w active total : Nat) : Bool :=
    decide (active ≤ bitsOf w 0 13) && decide (1 ≤ bitsOf w 16 9) && decide (bitsOf w 0 13 + bitsOf w 16 9 ≤ total)
  decide (1 ≤ den) && decide (25 * den ≤ 250 * num) && decide (250 * num ≤ 600 * den)
    && decide (64 ≤ ha) && decide (ha ≤ 3840) && decide (ha + 32 ≤ ht) && decide (ht ≤ 8191)
    && decide (64 ≤ va) && decide (va ≤ 2160) && decide (va + 3 ≤ vt) && decide (vt ≤ 8191)
    && syncOk hsync ha ht && syncOk vsync va vt
    && decide (((20000 * num : Nat) : Int) ≤ periodP pclk htim vtim)

/-- The mode that the head's registers hold keeps R370. -/
def State.hdTimingOk (s : State) (x : Nat) : Bool :=
  timingOk (s.reg (A.HD_PCLK x)) (s.reg (A.HD_HTIM x)) (s.reg (A.HD_HSYNC x)) (s.reg (A.HD_VTIM x)) (s.reg (A.HD_VSYNC x))

/-- SCAN of a mode with BAND_GRAINS (R371). -/
def scanBytes (band pclk htim vtim : Nat) : Nat :=
  ceilDiv (band * 16384 * 125000 * bitsOf pclk 0 16) (periodP pclk htim vtim).toNat

/-- BAND_GRAINS of a head (R357). -/
def State.bandGrains (s : State) (x : Nat) : Nat := bitsOf (s.imgWord 0x0B 0 (8 * x + 1)) 0 12

/-- SCAN_x at the mode in the registers (R371, R373). -/
def State.hdScan (s : State) (x : Nat) : Nat :=
  scanBytes (s.bandGrains x) (s.reg (A.HD_PCLK x)) (s.reg (A.HD_HTIM x)) (s.reg (A.HD_VTIM x))

/-! ### Coverage (R368, R369) -/

/-- A layer as a commit would put it in force. -/
structure Layer where
  on : Bool
  opaque_ : Bool
  surf : Nat
  alpha : Nat
  dx : Nat
  dy : Nat
  w : Nat
  h : Nat
  sx : Nat
  sy : Nat
deriving DecidableEq, Repr

/-- Layer `n` of head `x` from words read by `f` from register keys. -/
def layerOf (f : Nat → Nat) (x n : Nat) : Layer :=
  let c := f (A.LY_CTRL x n)
  let p := f (A.LY_POS x n)
  let z := f (A.LY_SIZE x n)
  let r := f (A.LY_SRC x n)
  ⟨bitAt c 0, bitAt c 1, bitsOf c 8 5, bitsOf c 16 8, bitsOf p 0 13, bitsOf p 16 13, bitsOf z 0 13, bitsOf z 16 13,
    bitsOf r 0 12, bitsOf r 16 12⟩

/-- Grains touched along one axis by the part of a layer within [lo, hi): the layer's output starts at `d` with `n`
pixels and its source at `s`. -/
def grainsAlong (d n s lo hi : Nat) : Nat :=
  let a := max lo d
  let b := min hi (d + n)
  if a < b then (s + (b - 1 - d)) / 64 - (s + (a - d)) / 64 + 1 else 0

/-- Grain fetches of one output tile (R368): layers from the top down, to the first that hides what lies below. -/
def tileFetch : List Layer → Nat → Nat → Nat → Nat → Nat
  | [], _, _, _, _ => 0
  | l :: t, x0, x1, y0, y1 =>
    let g := if l.on then grainsAlong l.dx l.w l.sx x0 x1 * grainsAlong l.dy l.h l.sy y0 y1 else 0
    let hides := l.on && l.opaque_ && l.alpha == 255 && decide (l.dx ≤ x0) && decide (x1 ≤ l.dx + l.w)
      && decide (l.dy ≤ y0) && decide (y1 ≤ l.dy + l.h)
    if hides then g else g + tileFetch t x0 x1 y0 y1

/-- The greatest band count of a list of layers, top first, over an active area (R368, R369). -/
def fetchMax (ls : List Layer) (ha va : Nat) : Nat :=
  (List.range (ceilDiv va 64)).foldl (fun m r =>
    max m ((List.range (ceilDiv ha 64)).map (fun c =>
      tileFetch ls (64 * c) (min ha (64 * c + 64)) (64 * r) (min va (64 * r + 64)))).sum) 0

/-- The shadow layers of a head, layer 7 first. -/
def State.shadowLayers (s : State) (x : Nat) : List Layer := [7, 6, 5, 4, 3, 2, 1, 0].map (layerOf s.reg x)

/-- Every enabled layer names a defined surface and lies within it (R369). -/
def State.geometryOk (s : State) (x : Nat) : Bool :=
  (s.shadowLayers x).all (fun l => !l.on ||
    (s.surfFmt x l.surf != 0 && decide (1 ≤ l.w) && decide (1 ≤ l.h)
      && decide (l.sx + l.w ≤ 64 * s.surfW x l.surf) && decide (l.sy + l.h ≤ 64 * s.surfH x l.surf)))

/-- COMMIT is set by a write or a launch; while it is set a second one has no effect (R374). -/
def State.hdSetCommit (s : State) (x : Nat) : State :=
  if s.flag (F.HD_STATUS_PENDING x) then s
  else
    let s := s.put (F.HD_COMMIT_COMMIT x) 1
    let s := s.put (F.HD_STATUS_PENDING x) 1
    let s := s.put (F.HD_STATUS_CHECKED x) 0
    { s with pl := { s.pl with taken := vPut s.pl.taken x false, waits := vPut s.pl.waits x 0 } }

/-- COVERAGE_CHECK_DONE (R368, R369, R374, R378): the check of a pending commit ends. -/
def execCoverageCheckDone (x : Fin 2) (s : State) : Res :=
  .next (if !s.flag (F.HD_STATUS_PENDING x) || s.flag (F.HD_STATUS_CHECKED x) then s
    else if !s.geometryOk x then s.hdEndCommit x 2
    else
      let m := fetchMax (s.shadowLayers x) (s.get (F.HD_HTIM_H_ACTIVE x)) (s.get (F.HD_VTIM_V_ACTIVE x))
      let s := s.put (F.HD_COMMIT_STATUS_FETCH_MAX x) (min m 4095)
      if s.bandGrains x < m then s.hdEndCommit x 3
      else (s.put (F.HD_STATUS_CHECKED x) 1).hdIdleApply x)

/-- The action of HD_COMMIT.CANCEL (R377). -/
def State.hdCancel (s : State) (x : Nat) : State :=
  if s.flag (F.HD_STATUS_PENDING x) && !vAt s.pl.taken x then s.hdEndCommit x 5 else s

/-- COMMIT_POINT (R375, R376): the head takes a checked commit whose wait is met, or leaves it pending. -/
def execCommitPoint (x : Fin 2) (s : State) : Res :=
  .next (if !s.flag (F.HD_STATUS_RUNNING x) || !s.flag (F.HD_STATUS_PENDING x) then s
    else if s.hdWaitMet x then
      if s.flag (F.HD_STATUS_CHECKED x) then { s with pl := { s.pl with taken := vPut s.pl.taken x true } } else s
    else
      let n := vAt s.pl.waits x + 1
      let max := s.get (F.HD_WAIT_MAX_FRAMES x)
      if max != 0 && decide (max ≤ n) then s.hdEndCommit x 4
      else { s with pl := { s.pl with waits := vPut s.pl.waits x n } })

/-! ### Genlock (R346, R372) -/

/-- GL_STATUS_x.STATE takes a value; a change raises source 93 or 94 (R348). -/
def State.glState (s : State) (x st : Nat) : State :=
  if s.get (F.GL_STATUS_x_STATE x) = st then s
  else (s.put (F.GL_STATUS_x_STATE x) st).raise (93 + x) (if x = 0 then F.SR_EVT_GL_A else F.SR_EVT_GL_B)

/-- The correction of a head whose vertical blanking starts now: on each FRAMES-th frame the error of the coming frame
start is taken, and whole lines and then pixels of this blanking correct it (R346, R372). -/
def State.genlock (s : State) (x : Nat) : State :=
  let s := { s with pl := { s.pl with glAdj := vPut s.pl.glAdj x (0, 0) } }
  let num : Nat := s.get (F.HD_PCLK_NUM x)
  let px : Nat := 4 * s.get (F.HD_PCLK_DEN x)
  let line : Nat := s.get (F.HD_HTIM_H_TOTAL x) * px
  let vt : Nat := s.get (F.HD_VTIM_V_TOTAL x)
  let vb : Nat := vt - s.get (F.HD_VTIM_V_ACTIVE x)
  let frames : Nat := s.get (F.GL_CTRL_x_FRAMES x)
  let per : Nat := s.get (F.GL_PERIOD_x_NS x) * num
  if !s.flag (F.GL_CTRL_x_ENABLE x) then
    ({ s with sr := { s.sr with glFrames := vPut s.sr.glFrames x 0 } } : State).glState x 0
  else if frames * vt * line != per || per = 0 then s.glState x 3
  else
    let n : Nat := vAt s.sr.glFrames x + 1
    if n < frames then
      let s := { s with sr := { s.sr with glFrames := vPut s.sr.glFrames x n } }
      if s.get (F.GL_STATUS_x_STATE x) = 0 || s.get (F.GL_STATUS_x_STATE x) = 3 then s.glState x 1 else s
    else
      let s := { s with sr := { s.sr with glFrames := vPut s.sr.glFrames x 0 } }
      let start : Int := ((s.clock.time * num + vb * line : Nat) : Int) - ((s.get (F.GL_PHASE_x_NS x) * num : Nat) : Int)
      let r : Int := start % (per : Int)
      let e : Int := if r ≥ (per + 1) / 2 then r - per else r
      let mag : Nat := e.natAbs
      let slew : Nat := s.get (F.GL_CTRL_x_SLEW x)
      let lines : Nat := min slew (mag / line)
      let lines : Nat := if 0 < e then min lines (vb - min 64 vb) else lines
      let pix : Nat := min 16 ((mag - lines * line) / px)
      let sgn : Int := if 0 < e then -1 else 1
      let s := s.put (F.GL_STATUS_x_ERROR x) (toBits 24 (clampSigned 24 (e / (num : Int))))
      let s := { s with pl := { s.pl with glAdj := vPut s.pl.glAdj x (sgn * ((lines : Nat) : Int), sgn * ((pix : Nat) : Int)) } }
      s.glState x (if mag < px then 2 else 1)

/-! ### What the head shows (R364, R366, R367) -/

/-- The four channels of a stored pixel, alpha first, as exact fractions of full scale, 8-bit ones expanded to 10 bits (R364, R367). -/
def channels (fmt v : Nat) : Rat × Rat × Rat × Rat :=
  if fmt = 2 then
    ((bitsOf v 30 2 : Rat) / 3, (bitsOf v 20 10 : Rat) / 1023, (bitsOf v 10 10 : Rat) / 1023, (bitsOf v 0 10 : Rat) / 1023)
  else
    let wide (c : Nat) : Rat := ((4 * c + c / 64 : Nat) : Rat) / 1023
    (wide (bitsOf v 24 8), wide (bitsOf v 16 8), wide (bitsOf v 8 8), wide (bitsOf v 0 8))

/-- A FRAME-class word that a band is composed from. -/
def Band.word (b : Band) (k : Nat) : Nat := (cellGet (0 : Word) b.shown k).toNat

/-- The stored pixel of a grain as the composer reads it: zero in 64 bytes with an uncorrectable error (R354). -/
def Band.stored (b : Band) (at_ : Nat) : Nat := if b.bad.contains (at_ / 16) then 0 else (cellGet (0 : Word) b.pixels at_).toNat

/-- The source pixel that a layer shows at an output pixel of the head, none where the layer does not cover it (R366). -/
def State.layerPixel (s : State) (b : Band) (x n px py : Nat) : Option (Rat × Rat × Rat × Rat) :=
  let l := layerOf b.word x n
  if l.on && decide (l.dx ≤ px) && decide (px < l.dx + l.w) && decide (l.dy ≤ py) && decide (py < l.dy + l.h) then
    let sx := l.sx + (px - l.dx)
    let sy := l.sy + (py - l.dy)
    let g := (cellGet mapEnt0 b.map (s.surfEntry x l.surf (sx / 64) (sy / 64))).cur
    let v := if g = noGrain then 0 else b.stored (4096 * g + 64 * (sy % 64) + sx % 64)
    let fmt := s.surfFmt x l.surf
    let c := if g = noGrain then (0, 0, 0, 0)
      else if fmt = 4 then channels 1 (b.word (A.LY_PAL_n_i x n (v % 256)))
      else channels fmt v
    some (if l.opaque_ then (1, c.2) else c)
  else none

/-- The exact colour of an output pixel of a band before it is rounded to the output depth, clamped to full scale (R367). -/
def State.headPixel (s : State) (b : Band) (x px py : Nat) : Rat × Rat × Rat :=
  let bg := channels 1 (b.word (A.HD_BG x))
  let c := (List.range 8).foldl (fun (c : Rat × Rat × Rat) n =>
    match s.layerPixel b x n px py with
    | none => c
    | some p =>
      let g : Rat := (bitsOf (b.word (A.LY_CTRL x n)) 16 8 : Rat) / 255
      let k := 1 - p.1 * g
      (p.2.1 * g + c.1 * k, p.2.2.1 * g + c.2.1 * k, p.2.2.2 * g + c.2.2 * k)) bg.2
  (min c.1 1, min c.2.1 1, min c.2.2 1)

/-- A channel at an output depth of `bits`: a value within 1 least significant bit of the exact one, which of them being open; `pick`
is a free value (R367, log entry 154). -/
def depthValue (bits pick : Nat) (c : Rat) : Nat :=
  let full : Rat := ((2 ^ bits - 1 : Nat) : Rat)
  let lo := (c * full).ceil - 1
  let hi := (c * full).floor + 1
  min (2 ^ bits - 1) (lo + ((pick % ((hi - lo).toNat + 1) : Nat) : Int)).toNat

/-- The pixel that the head delivers at (px, py): from the band buffer that holds its band, at 8 or 10 bits a channel by BPC; none where
no buffer holds the band (R367, R371). -/
def State.headOut (s : State) (x px py : Nat) : Option (Nat × Nat × Nat) :=
  match (vAt s.pl.bands x).find? (fun b => b.band == py / 64) with
  | some b =>
    let c := s.headPixel b x px py
    let bits := if s.flag (F.HD_CTRL_BPC x) then 10 else 8
    let pick (i : Nat) : Nat := (Config.freeWord (s.free + 3 * (8192 * py + px) + i)).toNat
    some (depthValue bits (pick 0) c.1, depthValue bits (pick 1) c.2.1, depthValue bits (pick 2) c.2.2)
  | none => none

/-- The composer meets an uncorrectable error in grain memory: the 64 bytes read as zero from the next band on that it composes, until
they are written again (R354, log entry 156). -/
def State.grainError (s : State) (block : Option (BitVec 21)) : State :=
  match block with
  | some b =>
    let s := (s.composeDue 0).composeDue 1
    ({ s with pl := { s.pl with bad := b.toNat :: s.pl.bad.filter (· != b.toNat) } } : State).bump F.PL_ECC_UNCORR 1
  | none => s

/-! ### DisplayPort (R379 to R384) -/

namespace Dp
def off : Nat := 0
def waitHpd : Nat := 1
def caps : Nat := 2
def cr : Nat := 3
def eq : Nat := 4
def active : Nat := 5
def fail : Nat := 6
end Dp

/-- STATE of a head's DisplayPort link. -/
def State.dpState (s : State) (x : Nat) : Nat := s.get (F.HD_LINK_STATUS_STATE x)

/-- The rates of R181 in units of 10 Mb/s, and the sink's codes for them. -/
def dpRate (i : Nat) : Nat := [162, 270, 540, 810].getD i 810
def dpCode (i : Nat) : Nat := [0x06, 0x0A, 0x14, 0x1E].getD i 0x1E

/-- The candidates of R381 in order, as (lanes, rate index), from the most lanes and the highest rate allowed. -/
def dpCandidates (maxLanes maxRate num den bpc : Nat) : List (Nat × Nat) :=
  let ls := if maxLanes ≥ 4 then [4, 2, 1] else if maxLanes ≥ 2 then [2, 1] else if maxLanes = 1 then [1] else []
  ls.flatMap (fun l => (([3, 2, 1, 0].filter (fun r => decide (r ≤ maxRate)
    && decide (250 * num * 3 * bpc * 100 ≤ 792 * l * dpRate r * den))).map (fun r => (l, r))))

/-- Byte `i` of the sink's DPCD as read in CAPS. -/
def State.sinkByte (s : State) (x i : Nat) : Nat := ((vAt s.pl.sink x).getD i 0).toNat

/-- The candidates for a head with the sink read (R381). -/
def State.candidates_ (s : State) (x : Nat) : List (Nat × Nat) :=
  match s.groupOf 1 x with
  | none => []
  | some g =>
    let w := s.groupWord g
    let code := s.sinkByte x 1
    let sinkRate := if 0x1E ≤ code then 3 else if 0x14 ≤ code then 2 else if 0x0A ≤ code then 1 else 0
    dpCandidates
      (min (min (bitsOf (s.sinkByte x 2) 0 5) (bitsOf w 4 3)) (min (s.get (F.HD_LINK_CFG_MAX_LANES x)) (s.goodLanes g)))
      (min (min sinkRate (bitsOf w 8 2)) (s.get (F.HD_LINK_CFG_MAX_RATE x)))
      (s.get (F.HD_PCLK_NUM x)) (s.get (F.HD_PCLK_DEN x)) (if s.flag (F.HD_CTRL_BPC x) then 10 else 8)

/-- A native AUX write by the head itself goes out. -/
def State.auxPut (s : State) (x addr : Nat) (bs : List Nat) : State :=
  s.emit (.aux x 8 addr bs.length (bs.map (BitVec.ofNat 8)))

/-- A native AUX write by the head itself, which waits for a transaction of the host in progress (R384, log entry 155). -/
def State.auxWrite (s : State) (x addr : Nat) (bs : List Nat) : State :=
  if (vAt s.pl.aux x).isSome then { s with pl := { s.pl with auxOwn := vMod s.pl.auxOwn x (· ++ [(addr, bs)]) } }
  else s.auxPut x addr bs

/-- What the head held back goes out, the host's transaction having ended (R384). -/
def State.auxFlush (s : State) (x : Nat) : State :=
  let l := vAt s.pl.auxOwn x
  l.foldl (fun s w => s.auxPut x w.1 w.2) { s with pl := { s.pl with auxOwn := vPut s.pl.auxOwn x [] } }

/-- The link's lanes stand in a lane state. -/
def State.dpLanes (s : State) (x st : Nat) : State :=
  match s.groupOf 1 x with
  | none => s
  | some g => s.flexLanes g (if st = laneOff then 0 else s.get (F.HD_LINK_STATUS_LANES x)) st (s.get (F.HD_LINK_STATUS_RATE x))

/-- Nothing is trained any more. -/
def State.dpIdle (s : State) (x st : Nat) : State :=
  let s := s.dpLanes x laneOff
  let s := if s.dpState x = Dp.active then s.hdEvt x 5 else s
  let s := s.put (F.HD_LINK_STATUS_LANES x) 0
  let s := s.put (F.HD_LINK_STATUS_RATE x) 0
  let s := s.put (F.HD_LINK_STATUS_ENH x) 0
  let s := s.put (F.HD_LINK_STATUS_SWING x) 0
  let s := s.put (F.HD_LINK_STATUS_PREEMPH x) 0
  let s := { s with pl := { s.pl with reads := vPut s.pl.reads x 0 } }
  s.put (F.HD_LINK_STATUS_STATE x) st

/-- Taps of a pre-emphasis level (R382), as LN_TXEQ holds them, with its preset. -/
def dpTaps (pre : Nat) : Nat × Nat × Nat :=
  match pre with
  | 0 => (48, 0, 0)
  | 1 => (40, 64 - 8, 2)
  | 2 => (36, 64 - 12, 3)
  | _ => (32, 64 - 16, 4)

/-- The drive levels of the lanes in use: swing and pre-emphasis per lane, pre-emphasis lowered until the sum is at most
3 (R382). -/
def State.dpLevels (s : State) (x : Nat) (swing pre : Nat → Nat) : State :=
  let n := s.get (F.HD_LINK_STATUS_LANES x)
  let p (l : Nat) : Nat := min (pre l) (3 - swing l)
  let s := s.put (F.HD_LINK_STATUS_SWING x) (((List.range n).map (fun l => swing l % 4 * 4 ^ l)).sum)
  let s := s.put (F.HD_LINK_STATUS_PREEMPH x) (((List.range n).map (fun l => p l * 4 ^ l)).sum)
  let s := match s.groupOf 1 x with
    | none => s
    | some g => s.each (List.range n) (fun s l =>
        let b := s.ballLane g l
        let t := dpTaps (p l)
        let s := s.put (F.LN_TXEQ_C_M1 g b) 0
        let s := s.put (F.LN_TXEQ_C0 g b) t.1
        let s := s.put (F.LN_TXEQ_C_P1 g b) t.2.1
        s.put (F.LN_TXEQ_PRESET g b) t.2.2)
  s.auxWrite x 0x103 ((List.range n).map (fun l => swing l % 4 + 8 * p l))

/-- Training starts with candidate `i`, or fails where there is none (R383). -/
def State.dpTrain (s : State) (x i : Nat) : State :=
  let s := { s with pl := { s.pl with cand := vPut s.pl.cand x i, reads := vPut s.pl.reads x 0 } }
  match (s.candidates_ x)[i]? with
  | none => (s.dpIdle x Dp.fail).hdEvt x 5
  | some (lanes, rate) =>
    let enh := bit1 (bitAt (s.sinkByte x 2) 7)
    let s := s.dpLanes x laneOff
    let s := s.put (F.HD_LINK_STATUS_STATE x) Dp.cr
    let s := s.put (F.HD_LINK_STATUS_LANES x) lanes
    let s := s.put (F.HD_LINK_STATUS_RATE x) rate
    let s := s.put (F.HD_LINK_STATUS_ENH x) enh
    let s := s.auxWrite x 0x100 [dpCode rate, lanes + 128 * enh, 0x21]
    (s.dpLevels x (fun _ => 0) (fun _ => 0)).dpLanes x laneTraining

/-- The head's sink is read and a candidate sought: CAPS (R383). -/
def State.dpCaps (s : State) (x : Nat) (dpcd : List Byte) : State :=
  let s := s.emit (.aux x 9 0 16 [])
  let s := s.auxWrite x 0x600 [1]
  let s := { s with pl := { s.pl with sink := vPut s.pl.sink x dpcd } }
  (s.put (F.HD_LINK_STATUS_STATE x) Dp.caps).dpTrain x 0

/-- ENABLE is set: the timing generator starts at vertical blanking and the link leaves OFF (R373, R383). -/
def State.headStart (s : State) (x : Nat) : State :=
  let s := s.put (F.HD_CTRL_ENABLE x) 1
  let s := s.put (F.PL_SCAN_x_BYTES x) (s.hdScan x)
  let s := if s.awake && s.unitRuns (9 + x) then
      let s := s.put (F.HD_STATUS_RUNNING x) 1
      let s := { s with pl := { s.pl with vbAt := vPut s.pl.vbAt x s.clock.time, glAdj := vPut s.pl.glAdj x (0, 0) } }
      let s := s.newFrame x
      if s.flag (F.HD_CTRL_VBLANK_EVT x) then s.hdEvt x 0 else s
    else s
  if s.dpState x = Dp.off then s.put (F.HD_LINK_STATUS_STATE x) Dp.waitHpd else s

/-- The head's timing generator halts with everything else kept: ENABLE cleared, SLEEP or isolation (R373). -/
def State.headHalt (s : State) (x : Nat) : State :=
  let s := s.composeDue x
  let s := s.put (F.HD_STATUS_LINE x) (s.hdLine x)
  let s := s.put (F.HD_STATUS_RUNNING x) 0
  let s := { s with pl := { s.pl with taken := vPut s.pl.taken x false } }
  s.hdIdleApply x

/-- ENABLE is cleared (R373, R383). -/
def State.headStop (s : State) (x : Nat) : State :=
  let s := (s.put (F.HD_CTRL_ENABLE x) 0).headHalt x
  let s := s.put (F.PL_SCAN_x_BYTES x) 0
  let s := if s.flag (F.HD_LINK_STATUS_HPD x) && s.dpState x != Dp.off then s.auxWrite x 0x600 [2] else s
  s.dpIdle x Dp.off

/-- HPD_HIGH (R383): hot-plug detect has been high for 2 ms; a head that waits for it reads its sink. -/
def execHpdHigh (x : Fin 2) (dpcd : List Byte) (s : State) : Res :=
  .next (if !s.unitRuns (9 + x) then s
    else
      let s := if s.flag (F.HD_LINK_STATUS_HPD x) then s
        else (s.put (F.HD_LINK_STATUS_HPD x) 1).hdEvt x 3
      if s.dpState x = Dp.waitHpd && s.awake && s.groupOn (s.groupOf 1 x) then
        (match s.groupOf 1 x with
          | some g => s.flexForget g
          | none => s).dpCaps x dpcd
      else s)

/-- HPD_LOW (R383): hot-plug detect has been low for more than 2 ms. -/
def execHpdLow (x : Fin 2) (s : State) : Res :=
  .next (if !s.unitRuns (9 + x) then s
    else
      let s := (s.put (F.HD_LINK_STATUS_HPD x) 0).hdEvt x 3
      if s.dpState x = Dp.off then s else s.dpIdle x Dp.waitHpd)

/-- IRQ_HPD (R383): a low pulse of 0.5 to 1 ms; `lost` says that DPCD 0x00202 to 0x00204 show the link lost. -/
def execIrqHpd (x : Fin 2) (lost : Bool) (s : State) : Res :=
  .next (if !s.unitRuns (9 + x) then s
    else
      let s := s.hdEvt x 4
      if lost && s.dpState x = Dp.active then (s.hdEvt x 5).dpTrain x (vAt s.pl.cand x) else s)

/-- Swing level of a lane. -/
def State.dpSwing (s : State) (x l : Nat) : Nat := bitsOf (s.get (F.HD_LINK_STATUS_SWING x)) (2 * l) 2

/-- The training pattern of EQ for the rate (R383): the value of DPCD 0x00102. -/
def State.dpPattern (s : State) (x : Nat) : Nat :=
  if s.get (F.HD_LINK_STATUS_RATE x) = 3 && bitAt (s.sinkByte x 3) 7 then 0x07
  else if bitAt (s.sinkByte x 2) 6 then 0x23 else 0x22

/-- CR_WAIT (R382, R383): after a wait of 100 us, `done` says that CR_DONE is set on every lane; `adjust` is
ADJUST_REQUEST, 4 bits a lane. A read that is not done with a lane at swing 3 or as the fifth at one swing ends the
candidate. -/
def execCrWait (x : Fin 2) (done : Bool) (adjust : BitVec 16) (s : State) : Res :=
  .next (if s.dpState x != Dp.cr then s
    else if done then
      let s := s.put (F.HD_LINK_STATUS_STATE x) Dp.eq
      let s := { s with pl := { s.pl with reads := vPut s.pl.reads x 0 } }
      s.auxWrite x 0x102 [s.dpPattern x]
    else
      let n := s.get (F.HD_LINK_STATUS_LANES x)
      let reads := vAt s.pl.reads x + 1
      let top := (List.range n).any (fun l => s.dpSwing x l == 3)
      let swing (l : Nat) : Nat := bitsOf adjust.toNat (4 * l) 2
      let same := (List.range n).all (fun l => s.dpSwing x l == swing l)
      if top || decide (5 ≤ reads) then s.dpTrain x (vAt s.pl.cand x + 1)
      else
        let s := { s with pl := { s.pl with reads := vPut s.pl.reads x (if same then reads else 0) } }
        s.dpLevels x swing (fun l => bitsOf adjust.toNat (4 * l + 2) 2))

/-- EQ_WAIT (R383): after the sink's interval, `crOk` says that CR_DONE holds on every lane and `eqOk` that equalisation,
symbol lock and alignment hold. -/
def execEqWait (x : Fin 2) (crOk eqOk : Bool) (s : State) : Res :=
  .next (if s.dpState x != Dp.eq then s
    else if crOk && eqOk then
      let s := s.auxWrite x 0x102 [0]
      let s := (s.put (F.HD_LINK_STATUS_STATE x) Dp.active).dpLanes x laneActive
      s.hdEvt x 5
    else
      let reads := vAt s.pl.reads x + 1
      if !crOk || decide (6 ≤ reads) then s.dpTrain x (vAt s.pl.cand x + 1)
      else { s with pl := { s.pl with reads := vPut s.pl.reads x reads } })

/-- Mvid and Nvid: the exact ratio of the pixel clock, 250 MHz x NUM / DEN, to the link symbol clock, reduced (R370, R380). -/
def State.videoRatio (s : State) (x : Nat) : Nat × Nat :=
  let m := 250 * s.get (F.HD_PCLK_NUM x)
  let n := s.get (F.HD_PCLK_DEN x) * dpRate (s.get (F.HD_LINK_STATUS_RATE x))
  let g := max 1 (Nat.gcd m n)
  (m / g, n / g)

/-- The main-stream attributes that a frame on an active link carries, the synchronous-clock bit set in MISC0; the other fields are
those of DisplayPort 1.4a for the head's timing and depth (R380, PRESUMED log entry 125). -/
def State.mainStream (s : State) (x : Nat) : State :=
  if s.dpState x != Dp.active then s
  else
    let r := s.videoRatio x
    let ht := s.get (F.HD_HTIM_H_TOTAL x)
    let vt := s.get (F.HD_VTIM_V_TOTAL x)
    s.emit (.msa x r.1 r.2 (1 + 2 ^ 5 * (if s.flag (F.HD_CTRL_BPC x) then 2 else 1))
      [ht, vt, ht - s.get (F.HD_HSYNC_START x), vt - s.get (F.HD_VSYNC_START x),
       s.get (F.HD_HSYNC_WIDTH x) + 2 ^ 15 * (1 - s.get (F.HD_HSYNC_POL x)),
       s.get (F.HD_VSYNC_WIDTH x) + 2 ^ 15 * (1 - s.get (F.HD_VSYNC_POL x)),
       s.get (F.HD_HTIM_H_ACTIVE x), s.get (F.HD_VTIM_V_ACTIVE x)])

/-- VERTICAL_BLANKING (R346, R371, R375): a frame of a running head ends; a taken commit applies, and band 0 is composed. -/
def execVerticalBlanking (x : Fin 2) (s : State) : Res :=
  .next (if !s.flag (F.HD_STATUS_RUNNING x) then s
    else
      let s := (s.composeTo x (s.bandCount x)).bump (F.HD_FRAMES_COUNT x) 1
      let s := { s with pl := { s.pl with vbAt := vPut s.pl.vbAt x s.clock.time } }
      let s := if s.flag (F.HD_CTRL_VBLANK_EVT x) then s.hdEvt x 0 else s
      let s := (if vAt s.pl.taken x then s.hdApply x else s).newFrame x
      (s.mainStream x).genlock x)

/-- The action of HD_LINK_CFG.RETRAIN (R383). -/
def State.dpRetrain (s : State) (x : Nat) : State := if s.dpState x = Dp.fail then s.dpIdle x Dp.waitHpd else s

/-- A lane of a head's group failed (R208): a link that used it retrains to fewer lanes. -/
def State.dpLaneFailed (s : State) (x : Nat) : State :=
  let st := s.dpState x
  if st = Dp.cr || st = Dp.eq || st = Dp.active then
    (if st = Dp.active then s.hdEvt x 5 else s).dpTrain x 0
  else s

/-! ### AUX (R384) -/

/-- A START of this request is refused: a native write to 0x00100 to 0x0010F or to 0x00600. -/
def auxDenied (cmd addr len : Nat) : Bool :=
  cmd == 8 && ((decide (addr ≤ 0x10F) && decide (0x100 ≤ addr + len - 1))
    || (decide (addr ≤ 0x600) && decide (0x600 ≤ addr + len - 1)))

/-- The bytes of HD_AUX_DATA. -/
def State.auxBytes (s : State) (x n : Nat) : List Byte :=
  ((List.range 4).flatMap (fun i => wordBytes (w32 (s.get (F.HD_AUX_DATA_V x i))))).take n

/-- The request of a transaction goes out. -/
def State.auxSend (s : State) (x : Nat) (r : AuxReq) : State :=
  s.emit (.aux x r.cmd r.addr r.len (if r.cmd % 2 = 0 then s.auxBytes x r.len else []))

/-- The action of HD_AUX_CTRL.START: a transaction of the owner host starts; while one runs a second START does
nothing. -/
def State.auxStart (s : State) (x : Nat) : State :=
  if (vAt s.pl.aux x).isSome then s
  else
    let r : AuxReq := ⟨s.get (F.HD_AUX_REQ_CMD x), s.get (F.HD_AUX_REQ_ADDR x), s.get (F.HD_AUX_REQ_LEN_M1 x) + 1, 0, 0⟩
    let s := s.put (F.HD_AUX_CTRL_START x) 1
    let s := s.put (F.HD_AUX_STATUS_DONE x) 0
    ({ s with pl := { s.pl with aux := vPut s.pl.aux x (some r) } } : State).auxSend x r

/-- A transaction ends with a result. -/
def State.auxEnd (s : State) (x result : Nat) (data : List Byte) : State :=
  let s := { s with pl := { s.pl with aux := vPut s.pl.aux x none } }
  let s := s.put (F.HD_AUX_CTRL_START x) 0
  let s := s.put (F.HD_AUX_STATUS_DONE x) 1
  let s := s.put (F.HD_AUX_STATUS_RESULT x) result
  let s := s.put (F.HD_AUX_STATUS_REPLY_LEN x) data.length
  let s := s.auxFlush x
  if data.isEmpty then s
  else
    let bs := data ++ List.replicate (16 - data.length) 0
    s.each (List.range 4) (fun s i => s.put (F.HD_AUX_DATA_V x i) (ofBytesLE ((bs.drop (4 * i)).take 4)))

/-- AUX_REPLY (R384): 0 ACK, 1 NACK, 2 DEFER, 3 no reply within 400 us, 4 I2C NACK, 5 I2C DEFER. -/
def execAuxReply (x : Fin 2) (kind : Fin 6) (data : List Byte) (s : State) : Res :=
  .next (match vAt s.pl.aux x with
    | none => s
    | some r =>
      let again (r : AuxReq) : State :=
        ({ s with pl := { s.pl with aux := vPut s.pl.aux x (some r) } } : State).auxSend x r
      if kind = 2 || kind = 5 then
        (if r.defers < 7 then again { r with defers := r.defers + 1 } else s.auxEnd x (if kind = 2 then 2 else 5) [])
      else if kind = 3 then
        (if r.misses < 2 then again { r with misses := r.misses + 1 } else s.auxEnd x 3 [])
      else if kind = 0 then s.auxEnd x 0 (data.take 16)
      else s.auxEnd x (if kind = 1 then 1 else 4) [])

end Sys2Proof.Machine
end

