-- ==== Sys2Proof/Machine/Pcie.lean ====
section
/-! DEFINITION. Machine/Pcie.lean: the two PCI Express ports: the virtual downstream port, routing, PERST# and
containment (R388 to R407). Layouts of TLPs and of the capabilities are those of PCI Express Base 4.0 (log entry
15). -/
namespace Sys2Proof.Machine

/-- A port's private state. -/
def State.pc (s : State) (p : Nat) : PcPort := vAt s.px p
def State.modPc (s : State) (p : Nat) (f : PcPort → PcPort) : State := { s with px := vMod s.px p f }

/-- Doubleword `i` of the stored configuration space. -/
def State.cfgW (s : State) (p i : Nat) : Nat := (cellGet (0 : Word) (s.pc p).cfg i).toNat

/-- A field of the configuration space. -/
def State.cfgF (s : State) (p i lsb width : Nat) : Nat := bitsOf (s.cfgW p i) lsb width

/-- The state with doubleword `i` of the configuration space replaced. -/
def State.cfgPut (s : State) (p i v : Nat) : State := s.modPc p (fun c => { c with cfg := cellSet 0 c.cfg i (w32 v) })

/-- Bits of a doubleword set. -/
def State.cfgSet (s : State) (p i m : Nat) : State := s.cfgPut p i (s.cfgW p i ||| m)

/-- The owner of the port. -/
def State.pxOwner (s : State) (p : Nat) : Nat := s.ownerOf (2 + p)

/-- The lane group of the port. -/
def State.pxGroup (s : State) (p : Nat) : Option Nat := s.groupOf 2 p

/-- Greatest speed code (1 to 4) and width of the port (R209, R391). -/
def State.pxLimits (s : State) (p : Nat) : Nat × Nat :=
  match s.pxGroup p with
  | none => (1, 1)
  | some g => (bitsOf (s.groupWord g) 8 2 + 1, bitsOf (s.groupWord g) 4 3)

/-- Doubleword `i` as a configuration read answers it. -/
def State.cfgRead (s : State) (p i : Nat) : Nat :=
  let w := s.cfgW p i
  match i with
  | 0x00 => s.get (F.PX_IDS_VENDOR p) + 2 ^ 16 * 0x9640
  | 0x1B => (s.pxLimits p).1 + 2 ^ 4 * (s.pxLimits p).2 + 2 ^ 11 + 2 ^ 19 + 2 ^ 20 + 2 ^ 22
  | 0x1C => withBits (withBits (withBits w 16 4 (s.get (F.PX_STATUS_SPEED p))) 20 6 (s.get (F.PX_STATUS_WIDTH p)))
      29 1 (s.get (F.PX_STATUS_LINK_UP p))
  | 0x1E => withBits w 22 1 (s.get (F.PX_STATUS_PRESENT p))
  | 0x23 => 2 * (2 ^ (s.pxLimits p).1 - 1)
  | _ => w

/-- The bits of a doubleword that a configuration write stores. -/
def cfgMask (i : Nat) : Nat :=
  match i with
  | 0x01 => 0x0546
  | 0x03 => 0xFF
  | 0x06 => 0x00FFFFFF
  | 0x08 => 0xFFF0FFF0
  | 0x09 => 0xFFF0FFF0
  | 0x0A => 0xFFFFFFFF
  | 0x0B => 0xFFFFFFFF
  | 0x0F => 0x004300FF
  | 0x11 => 0x0103
  | 0x12 => 0x00010000
  | 0x13 => 0xFFFFFFFC
  | 0x14 => 0xFFFFFFFF
  | 0x15 => 0xFFFF
  | 0x16 => 0x1
  | 0x1A => 0x7FFF
  | 0x1C => 0x0053
  | 0x1E => 0x1028
  | 0x22 => 0x10A0
  | 0x24 => 0xF
  | 0x42 => 0x07FFF030
  | 0x43 => 0x07FFF030
  | 0x45 => 0xF1C1
  | 0x46 => 0x140
  | 0x53 => 0x000D0000
  | 0x55 => 0x001F0000
  | _ => 0

/-- The bits of a doubleword that a configuration write clears where it writes 1. -/
def cfgW1c (i : Nat) : Nat :=
  match i with
  | 0x01 => 0xF9000000
  | 0x07 => 0xF9000000
  | 0x11 => 0x8000
  | 0x1A => 0x000F0000
  | 0x1C => 0xC0000000
  | 0x1E => 0x01080000
  | 0x41 => 0x07FFF030
  | 0x44 => 0xF1C1
  | 0x56 => 0x9
  | _ => 0

/-! ### Transaction layer packets -/

/-- Byte `i` of a TLP. -/
def tlpB (t : List Byte) (i : Nat) : Nat := (t.getD i 0).toNat
/-- Doubleword `i` of a TLP, its first byte most significant. -/
def tlpDw (t : List Byte) (i : Nat) : Nat := ofBytesBE ((t.drop (4 * i)).take 4)
/-- Fmt of a TLP. -/
def tlpFmt (t : List Byte) : Nat := tlpB t 0 / 32
/-- Type of a TLP. -/
def tlpType (t : List Byte) : Nat := tlpB t 0 % 32
/-- Header doublewords of a TLP. -/
def tlpHdr (t : List Byte) : Nat := if tlpFmt t % 2 = 1 then 4 else 3
/-- The TLP carries data. -/
def tlpHasData (t : List Byte) : Bool := tlpFmt t / 2 == 1
/-- Length of a TLP in doublewords. -/
def tlpLen (t : List Byte) : Nat := if tlpDw t 0 % 1024 = 0 then 1024 else tlpDw t 0 % 1024
/-- TD: the TLP ends with an ECRC. -/
def tlpTd (t : List Byte) : Bool := bitAt (tlpB t 2) 7
/-- Requester ID of a request, bytes 4 and 5. -/
def tlpReq (t : List Byte) : Nat := tlpDw t 1 / 65536
/-- The address of a memory request. -/
def tlpAddr (t : List Byte) : Nat :=
  if tlpHdr t = 4 then (tlpDw t 2 * 2 ^ 32 + tlpDw t 3) / 4 * 4 else tlpDw t 2 / 4 * 4

/-- What a TLP is. -/
inductive TlpKind where
  | memRd
  | memWr
  | io
  | cfg0
  | cfg1
  | msg
  | cpl
  | atomic
  | bad
deriving DecidableEq, Repr

/-- The kind that Fmt and Type spell. -/
def tlpKind (t : List Byte) : TlpKind :=
  let ty := tlpType t
  if tlpFmt t ≥ 4 then .bad
  else if ty = 0 then (if tlpHasData t then .memWr else .memRd)
  else if ty = 1 then .memRd
  else if ty = 2 then .io
  else if ty = 4 then .cfg0
  else if ty = 5 then .cfg1
  else if 16 ≤ ty && ty < 24 then .msg
  else if ty = 10 || ty = 11 then .cpl
  else if 12 ≤ ty && ty ≤ 14 then .atomic
  else .bad

/-- The CLASS whose tunnel carries a TLP: 0 posted, 1 non-posted, 2 completion (R393). -/
def tlpClass : TlpKind → Nat
  | .memRd => 1
  | .memWr => 0
  | .io => 1
  | .cfg0 => 1
  | .cfg1 => 1
  | .msg => 0
  | .cpl => 2
  | .atomic => 1
  | .bad => 3

/-- Length of an AtomicOp in doublewords: one operand of 4 or 8 bytes for FetchAdd and Swap, two of 4, 8 or 16 for CAS (PCI Express
Base 4.0, log entry 15). -/
def atomicLenOk (t : List Byte) : Bool :=
  if tlpType t = 14 then [2, 4, 8].contains (tlpLen t) else [1, 2].contains (tlpLen t)

/-- The TLP has the length its header gives, and a payload within the Max Payload Size in force (R391, R392). -/
def State.tlpFormOk (s : State) (p : Nat) (t : List Byte) : Bool :=
  let data := if tlpHasData t then tlpLen t else 0
  tlpKind t != .bad && t.length == 4 * (tlpHdr t + data + bit1 (tlpTd t))
    && (if tlpKind t == .atomic then tlpHasData t && atomicLenOk t else decide (4 * data ≤ 128 * 2 ^ s.cfgF p 0x1A 5 3))

/-- The ECRC of a TLP, whose variant bits count as 1 (log entry 15). -/
def ecrcOf (body : List Byte) : Nat :=
  crc32 (match body with
    | a :: b :: c :: r => (a ||| 1) :: b :: (c ||| 0x40) :: r
    | l => l)

/-- The ECRC of a TLP that has one is right. -/
def ecrcOk (t : List Byte) : Bool :=
  !tlpTd t || ofBytesLE (t.drop (t.length - 4)) == ecrcOf (t.take (t.length - 4))

/-- A TLP with TD set and its ECRC behind it. -/
def withEcrc (t : List Byte) : List Byte :=
  let body := match t with
    | a :: b :: c :: r => a :: b :: (c ||| 0x80) :: r
    | l => l
  body ++ toBytesLE 4 (ecrcOf body)

/-- A doubleword's bytes, most significant first. -/
def dwBytes (v : Nat) : List Byte := (toBytesLE 4 v).reverse

/-- Byte count and the low address bits of a completion for a request without data returned (PCI Express Base 4.0). -/
def cplCount (t : List Byte) : Nat × Nat :=
  let be := tlpB t 7
  let first := be % 16
  let last := be / 16
  let lead := if bitAt first 0 then 0 else if bitAt first 1 then 1 else if bitAt first 2 then 2 else if bitAt first 3 then 3 else 0
  let hi (m : Nat) : Nat := if bitAt m 3 then 0 else if bitAt m 2 then 1 else if bitAt m 1 then 2 else if bitAt m 0 then 3 else 4
  match tlpKind t with
  | .memRd =>
    let n := tlpLen t
    let c := if n = 1 then (if first = 0 then 1 else 4 - lead - hi first) else 4 * n - lead - hi last
    (c % 4096, (tlpAddr t + lead) % 128)
  | _ => (4, 0)

/-- A completion of the virtual downstream port: status 0 successful, 1 Unsupported Request, 4 Completer Abort. -/
def State.cplOf (s : State) (p status : Nat) (t : List Byte) (data : Option Nat) : List Byte :=
  let cc := cplCount t
  let cid := s.get (F.PX_BUS_PRIMARY p) * 256
  let b1 := tlpB t 1 &&& 0xF8
  dwBytes ((if data.isSome then 0x4A else 0x0A) * 2 ^ 24 + b1 * 2 ^ 16 + (tlpB t 2 &&& 0x30) * 2 ^ 8
      + (if data.isSome then 1 else 0))
    ++ dwBytes (cid * 2 ^ 16 + status * 2 ^ 13 + cc.1)
    ++ dwBytes (tlpReq t * 2 ^ 16 + tlpB t 6 * 2 ^ 8 + cc.2)
    ++ (match data with
      | some d => dwBytes d
      | none => [])

/-- The port and CLASS of a host's item that carries a TLP (R396). -/
def State.tlpOf (s : State) (h : Nat) (i : QItem) : Option (Nat × Nat) :=
  match i.body with
  | .cv n _ _ _ _ _ _ _ =>
    if s.tunType h n = 2 then some (bitsOf (s.tunW0 h n) 6 3, bitsOf (s.tunW0 h n) 9 2) else none
  | _ => none

/-- PCI Express lets a TLP of CLASS `c` pass an earlier one of CLASS `e`: only a TLP with Relaxed Ordering, and no read, passes a
posted one (R394, DEDUCED, log entry 121). -/
def tlpPasses (c e : Nat) (t : List Byte) : Bool := e != 0 || (c != 1 && bitAt (tlpB t 2) 5)

/-- An earlier TLP of queue `q` is blocked: the queue's head is not sendable, or it may not be sent now (R303 to R307, R394). -/
def State.tlpBlocked (s : State) (q : Nat) (sendable : Nat → Bool) : Bool :=
  !sendable q || !(s.qEligible q || s.qExcess q)

/-- The head of a queue is a TLP that R394 forbids to pass an earlier TLP of the same port, among the queues `qs` of its direction
(R395). -/
def State.tlpWaits (s : State) (h : Nat) (qs : List Nat) (sendable : Nat → Bool) (q : Nat) : Bool :=
  match (s.queue q).items with
  | [] => false
  | i :: _ =>
    match s.tlpOf h i with
    | none => false
    | some (p, c) =>
      qs.any (fun k => ((s.queue k).items ++ (s.queue k).back).any (fun j =>
        match s.tlpOf h j with
        | some (r, e) => r == p && decide (j.order < i.order) && !(tlpPasses c e i.bytes && s.tlpBlocked k sendable)
        | none => false))

/-- The owner's tunnel of a CLASS to the port. -/
def State.pxTunnel (s : State) (p cls : Nat) : Option Nat :=
  s.findTun (s.pxOwner p) 2 (fun n => bitsOf (s.tunW0 (s.pxOwner p) n) 6 3 == p && bitsOf (s.tunW0 (s.pxOwner p) n) 9 2 == cls)

/-- A TLP joins the owner's UP queue of its CLASS (R396), where it waits while the owner's link does not carry it; one for which the
owner's table has no tunnel is discarded and counted (DESIGN CHOICE, log entry 148). -/
def State.pxUp (s : State) (p cls : Nat) (t : List Byte) : State :=
  let o := s.pxOwner p
  if o < 4 then
    match s.pxTunnel p cls with
    | some n => s.queueUp o n cls true none t (posted := cls == 0)
    | none => s.bump (F.PX_UP_DISCARD_COUNT p) 1
  else s

/-- A TLP that the hub itself originates, with an ECRC where the owner set ECRC Generation Enable (R390, R396). -/
def State.pxSelf (s : State) (p cls : Nat) (t : List Byte) : State :=
  s.pxUp p cls (if s.cfgF p 0x46 6 1 = 1 then withEcrc t else t)

/-- The port's MSI, if the owner enabled it; masked, it stays pending (R390). -/
def State.pxMsi (s : State) (p : Nat) : State :=
  if s.cfgF p 0x12 16 1 = 0 || s.cfgF p 0x01 2 1 = 0 || s.cfgF p 0x11 0 2 != 0 then s
  else if s.cfgF p 0x16 0 1 = 1 then s.cfgSet p 0x17 1
  else
    let hi := s.cfgW p 0x14
    let cid := s.get (F.PX_BUS_PRIMARY p) * 256
    let w := dwBytes (cid * 2 ^ 16 + 0x0F)
    let data := (toBytesLE 4 (s.cfgF p 0x15 0 16))
    s.pxSelf p 0 (if hi = 0 then dwBytes 0x40000001 ++ w ++ dwBytes (s.cfgW p 0x13) ++ data
      else dwBytes 0x60000001 ++ w ++ dwBytes hi ++ dwBytes (s.cfgW p 0x13) ++ data)

/-- A message of the port to its owner: code 0x30 correctable, 0x31 non-fatal, 0x33 fatal error, 0x18 PM_PME. -/
def State.pxErrMsg (s : State) (p code : Nat) : State :=
  let cid := s.get (F.PX_BUS_PRIMARY p) * 256
  s.pxSelf p 0 (dwBytes 0x30000000 ++ dwBytes (cid * 2 ^ 16 + code) ++ dwBytes 0 ++ dwBytes 0)

/-- A slot or link event of the port reaches its owner: by MSI in D0, by PME from D3hot where the owner enabled it (R390, log entry
15). -/
def State.pxNotify (s : State) (p : Nat) : State :=
  if s.cfgF p 0x11 0 2 = 0 then s.pxMsi p
  else if s.cfgF p 0x11 8 1 = 0 || s.cfgF p 0x11 15 1 = 1 then s
  else (s.cfgSet p 0x11 (2 ^ 15)).pxErrMsg p 0x18

/-- Bit `i` of PX_EVT (R406). -/
def State.pxEvt (s : State) (p i : Nat) : State := s.raise (112 + 8 * p + i) ⟨A.PX_EVT p, i, 1⟩

/-! ### Containment (R401 to R405) -/

/-- PX_STATUS shows the containment. -/
def State.pxContainRegs (s : State) (p : Nat) : State :=
  let l := (s.pc p).causes
  (s.put (F.PX_STATUS_CONTAIN p) (bit1 (!l.isEmpty))).put (F.PX_STATUS_CONTAIN_CAUSE p) (l.headD 0)

/-- The port is contained. -/
def State.pxContained (s : State) (p : Nat) : Bool := !(s.pc p).causes.isEmpty

/-- The conditions of R399 that hold PERST_N low; `pg` says whether an e-fuse channel's power-good holds. -/
def State.perstHeld (s : State) (p : Nat) : Bool :=
  let ef := s.get (F.PX_CTRL_PWR_EF p)
  !s.flag (F.PX_CTRL_ENABLE p) || s.flag (F.PX_CTRL_PERST_FORCE p) || (s.pc p).expired
    || (decide (ef < 8) && !s.flag (F.EF_STATUS_PG ef))

/-- Lanes of the port in a lane state. -/
def State.pxLanes (s : State) (p n st rate : Nat) : State :=
  match s.pxGroup p with
  | none => s
  | some g => s.flexLanes g n st rate

/-- The drive link goes down. -/
def State.pxDlDown (s : State) (p : Nat) : State :=
  if !s.flag (F.PX_STATUS_LINK_UP p) then s
  else
    let s := s.put (F.PX_STATUS_LINK_UP p) 0
    let s := s.put (F.PX_STATUS_SPEED p) 0
    let s := s.put (F.PX_STATUS_WIDTH p) 0
    let s := s.bump (F.PX_LINK_DOWNS p) 1
    let s := (s.pxLanes p 0 laneOff 0).pxEvt p 0
    let s := s.cfgSet p 0x1E (2 ^ 24)
    if s.cfgF p 0x1E 5 1 = 1 && s.cfgF p 0x1E 12 1 = 1 then s.pxNotify p else s

/-- PERST_N goes low where a condition of R399 holds, which takes the drive link down. -/
def State.pxPerst (s : State) (p : Nat) : State :=
  if s.perstHeld p then (s.put (F.PX_STATUS_PERST p) 1).pxDlDown p else s

/-- A containment cause arises (R401). -/
def State.pxContain (s : State) (p cause : Nat) : State :=
  let s := s.modPc p (fun c => { c with causes := cause :: c.causes.filter (· != cause), due := false,
                                        begun := (false, false, false, c.begun.2.2.2) })
  let s := if cause = 1 then
      (s.modPc p (fun c => { c with deadline := true })).put (F.PX_DEADLINE_TICKS p) 8000
    else s
  (s.pxContainRegs p).pxEvt p 2

/-- A cause ends; the deadline stops when the containment ends (R401, R405). -/
def State.pxRelease (s : State) (p : Nat) (ends : Nat → Bool) : State :=
  let s := s.modPc p (fun c => { c with causes := c.causes.filter (fun k => !ends k) })
  let s := if s.pxContained p then s
    else (s.modPc p (fun c => { c with deadline := false, expired := false })).put (F.PX_DEADLINE_TICKS p) 0
  s.pxContainRegs p

/-- The owner made a port reset (R402): the first DL_Up completes it, and an expired deadline no longer holds
PERST_N. -/
def State.pxResetMade (s : State) (p : Nat) : State := s.modPc p (fun c => { c with due := true, expired := false })

/-- A drive link can train at this speed and width: within MAX_RATE and WIDTH, ×1, ×2 or ×4 (R209, R391). -/
def State.pxTrains (s : State) (p speed width : Nat) : Bool :=
  1 ≤ speed && decide (speed ≤ (s.pxLimits p).1) && [1, 2, 4].contains width && decide (width ≤ (s.pxLimits p).2)

/-- The lanes of a link that is detected anew forget their failures to qualify (R202). -/
def State.pxFresh (s : State) (p : Nat) : State :=
  match s.pxGroup p with
  | some g => if s.flag (F.PX_STATUS_LINK_UP p) then s else s.flexForget g
  | none => s

/-- DL_Up: it completes a port reset that was made, which ends every cause but DPC (R401, R402). The lane group must be enabled
(R187, R213). -/
def State.pxDlUp (s : State) (p speed width : Nat) : State :=
  if s.flag (F.PX_STATUS_PERST p) || (s.pc p).causes.contains 3 || !s.flag (F.PX_CTRL_ENABLE p) || !s.awake
      || !s.groupOn (s.pxGroup p) || !s.pxTrains p speed width then s
  else
    let up := s.flag (F.PX_STATUS_LINK_UP p)
    let s := s.pxFresh p
    let s := s.put (F.PX_STATUS_LINK_UP p) 1
    let s := s.put (F.PX_STATUS_SPEED p) speed
    let s := s.put (F.PX_STATUS_WIDTH p) width
    let s := s.pxLanes p width laneActive (speed - 1)
    let s := if up then s
      else
        let s := (s.pxEvt p 0).cfgSet p 0x1E (2 ^ 24)
        if s.cfgF p 0x1E 5 1 = 1 && s.cfgF p 0x1E 12 1 = 1 then s.pxNotify p else s
    if (s.pc p).due then
      (s.modPc p (fun c => { c with due := false })).pxRelease p (fun k => k != 3 && (k != 4 || s.unitRuns (11 + p)))
    else s

/-- DPC triggers: the drive link is held Disabled and cause 3 arises (R401, R403). REASON 1 non-fatal, 2 fatal. -/
def State.pxDpc (s : State) (p reason source : Nat) : State :=
  let s := s.cfgPut p 0x56 (withBits (withBits (s.cfgW p 0x56) 0 3 (1 + 2 * reason)) 16 16 source)
  let s := (s.pxDlDown p).pxContain p 3
  if s.cfgF p 0x55 19 1 = 1 then (s.cfgSet p 0x56 8).pxMsi p else s

/-- DPC Trigger Enable: 1 ERR_FATAL only, 2 ERR_NONFATAL or ERR_FATAL. -/
def State.dpcTakes (s : State) (p : Nat) (fatal : Bool) : Bool :=
  let e := s.cfgF p 0x55 16 2
  ((e == 1 && fatal) || e == 2) && s.cfgF p 0x56 0 1 == 0

/-- An uncorrectable error of the port by its AER bit: status, first header, event and message (R390, R397). -/
def State.pxError (s : State) (p bit : Nat) (t : List Byte) : State :=
  let fresh := s.cfgW p 0x41 == 0
  let s := s.cfgSet p 0x41 (2 ^ bit)
  if s.cfgF p 0x42 bit 1 = 1 then s
  else
    let fatal := s.cfgF p 0x43 bit 1 == 1
    let s := if fresh then
        (s.cfgPut p 0x46 (withBits (s.cfgW p 0x46) 0 5 bit)).each [0, 1, 2, 3] (fun s i => s.cfgPut p (0x47 + i) (tlpDw t i))
      else s
    let s := s.cfgSet p 0x1A (if fatal then 2 ^ 18 else 2 ^ 17)
    let s := s.pxEvt p (if fatal then 4 else 5)
    if s.dpcTakes p fatal then s.pxDpc p 0 (s.get (F.PX_BUS_PRIMARY p) * 256)
    else if s.cfgF p 0x1A (if fatal then 2 else 1) 1 = 1 || s.cfgF p 0x01 8 1 = 1 then
      (if s.cfgF p 0x01 8 1 = 1 then s.cfgSet p 0x01 (2 ^ 30) else s).pxErrMsg p (if fatal then 0x33 else 0x31)
    else s

/-- A Malformed TLP is discarded and counted (R391, R393). -/
def State.pxMalformed (s : State) (p : Nat) (t : List Byte) : State :=
  (s.bump (F.PX_MALFORMED_COUNT p) 1).pxError p 18 t

/-- A non-posted request is answered with Unsupported Request or Completer Abort. -/
def State.pxAnswer (s : State) (p status : Nat) (t : List Byte) : State := s.pxSelf p 2 (s.cplOf p status t none)

/-- A non-posted request is refused: a UR of R397, R400 or R403 is counted (R404, R407). -/
def State.pxRefuse (s : State) (p status : Nat) (t : List Byte) : State :=
  (if status = 1 then s.bump (F.PX_DOWN_UR_COUNT p) 1 else s).pxAnswer p status t

/-! ### Configuration of the virtual downstream port (R388 to R390) -/

/-- The bits of a field that a configuration write leaves as they are, since it names a value that the port does not support: Max
Payload Size above 512 B, and power states D1 and D2 (R390, R391, DESIGN CHOICE, log entry 149). -/
def cfgKeep (i v : Nat) : Nat :=
  if i = 0x1A && 2 < bitsOf v 5 3 then 0xE0
  else if i = 0x11 && (bitsOf v 0 2 = 1 || bitsOf v 0 2 = 2) then 3
  else 0

/-- A configuration write of a doubleword under byte enables, with what its bits do. -/
def State.cfgWrite (s : State) (p i be v : Nat) : State :=
  let en := maskOf 32 (fun b => bitAt be (b / 8))
  let old := s.cfgW p i
  let m := cfgMask i &&& en &&& (2 ^ 32 - 1 - cfgKeep i v)
  let new := ((old &&& (2 ^ 32 - 1 - m)) ||| (v &&& m)) &&& (2 ^ 32 - 1 - (v &&& cfgW1c i &&& en))
  let s := s.cfgPut p i new
  -- an MSI that waits goes out as its mask is cleared
  let s := if i = 0x16 && !bitAt new 0 && bitAt (s.cfgW p 0x17) 0 then (s.cfgPut p 0x17 0).pxMsi p else s
  let s := if i = 6 then
      let s := s.put (F.PX_BUS_SECONDARY p) (bitsOf new 8 8)
      s.put (F.PX_BUS_SUBORDINATE p) (bitsOf new 16 8)
    else s
  -- Secondary Bus Reset (Bridge Control bit 6), Link Disable (Link Control bit 4): a reset once set and cleared
  let s := if i = 0x0F && bitAt en 22 then
      (if bitAt new 22 then (s.modPc p (fun c => { c with begun := (true, c.begun.2) })).pxDlDown p
       else if (s.pc p).begun.1 then (s.modPc p (fun c => { c with begun := (false, c.begun.2) })).pxResetMade p
       else s)
    else s
  let s := if i = 0x1C && bitAt en 4 then
      (if bitAt new 4 then (s.modPc p (fun c => { c with begun := (c.begun.1, true, c.begun.2.2) })).pxDlDown p
       else if (s.pc p).begun.2.1 then
         (s.modPc p (fun c => { c with begun := (c.begun.1, false, c.begun.2.2) })).pxResetMade p
       else s)
    else s
  if i = 0x56 && bitAt old 0 && !bitAt new 0 then s.pxRelease p (· == 3) else s

/-- A Type 0 configuration request to device 0, completed by the hub; the first write captures the bus number (R389). -/
def State.cfgAccess (s : State) (p : Nat) (t : List Byte) : State :=
  let i := bitsOf (tlpDw t 2) 2 10
  if tlpHasData t then
    let s := if (s.pc p).captured then s
      else (s.modPc p (fun c => { c with captured := true })).put (F.PX_BUS_PRIMARY p) (tlpB t 8)
    let s := s.cfgWrite p i (tlpB t 7 % 16) (ofBytesLE ((t.drop 12).take 4))
    s.pxSelf p 2 (s.cplOf p 0 t none)
  else s.pxSelf p 2 (s.cplOf p 0 t (some (ofBytesBE (toBytesLE 4 (s.cfgRead p i)))))

/-! ### Routing (R396, R397) -/

/-- An address lies in an enabled window of the virtual downstream port (R397). -/
def State.inWindow (s : State) (p a : Nat) : Bool :=
  let mem := s.cfgW p 0x08
  let pre := s.cfgW p 0x09
  let lo := bitsOf pre 4 12 * 2 ^ 20 + s.cfgW p 0x0A * 2 ^ 32
  let hi := bitsOf pre 20 12 * 2 ^ 20 + 0xFFFFF + s.cfgW p 0x0B * 2 ^ 32
  s.cfgF p 0x01 1 1 == 1 && s.cfgF p 0x11 0 2 == 0
    && ((decide (bitsOf mem 4 12 * 2 ^ 20 ≤ a) && decide (a ≤ bitsOf mem 20 12 * 2 ^ 20 + 0xFFFFF))
      || (decide (lo ≤ a) && decide (a ≤ hi)))

/-- A TLP for the drive: it goes out while the drive link is up, else a request is refused and the rest discarded. -/
def State.pxToDrive (s : State) (p : Nat) (t : List Byte) : State :=
  if s.flag (F.PX_STATUS_LINK_UP p) then s.emit (.tlp p t)
  else if tlpClass (tlpKind t) = 1 then s.pxAnswer p 1 t else s

/-- A request to the drive, refused or discarded while the port is contained (R403). -/
def State.pxRequest (s : State) (p : Nat) (t : List Byte) : State :=
  if s.pxContained p && tlpKind t != .cpl then
    (if tlpClass (tlpKind t) = 1 then s.pxRefuse p 1 t else s)
  else s.pxToDrive p t

/-- A configuration request that the hub does not take is answered with UR, and reported through AER (R389, R397). -/
def State.cfgRefuse (s : State) (p : Nat) (t : List Byte) : State := (s.pxError p 20 t).pxAnswer p 1 t

/-- A downstream TLP of the owner in the tunnel of a CLASS (R389, R391, R393, R397, R403). -/
def State.pxDown (s : State) (p cls : Nat) (t : List Byte) : State :=
  if !s.tlpFormOk p t || tlpClass (tlpKind t) != cls then s.pxMalformed p t
  else
    let s := if s.cfgF p 0x46 8 1 = 1 && !ecrcOk t then (s.bump (F.PX_ECRC_ERR_COUNT p) 1).pxError p 19 t else s
    let bus := tlpB t 8
    match tlpKind t with
    | .cfg0 => if tlpB t 9 = 0 then s.cfgAccess p t else s.cfgRefuse p t
    | .cfg1 =>
      -- below a port without ARI Forwarding Enable there is device 0 alone (log entry 15)
      if bus = s.get (F.PX_BUS_SECONDARY p) then
        if tlpB t 9 / 8 != 0 && s.cfgF p 0x22 5 1 = 0 then s.cfgRefuse p t
        else s.pxRequest p (match t with
          | b :: r => (b - 1) :: r
          | [] => [])
      else if s.get (F.PX_BUS_SECONDARY p) < bus && bus ≤ s.get (F.PX_BUS_SUBORDINATE p) then s.pxRequest p t
      else s.cfgRefuse p t
    | .memRd => if s.inWindow p (tlpAddr t) then s.pxRequest p t else (s.pxError p 20 t).pxRefuse p 1 t
    | .atomic => if s.inWindow p (tlpAddr t) then s.pxRequest p t else (s.pxError p 20 t).pxRefuse p 1 t
    | .memWr => if s.inWindow p (tlpAddr t) then s.pxRequest p t else s.pxError p 20 t
    | .io => (s.pxError p 20 t).pxRefuse p 1 t
    | .msg => s.pxError p 20 t
    | .cpl => s.pxRequest p t
    | .bad => s.pxMalformed p t

/-- A downstream TLP reaches the port; at an isolated one a request is completed with Completer Abort or discarded, and entered in
the owner's error log (R404). -/
def State.pxArrive (s : State) (h p cls : Nat) (t : List Byte) : State :=
  if s.unitRuns (11 + p) then s.pxDown p cls t
  else (if cls = 1 then s.pxRefuse p 4 t else s).logOp h R.isolated 3 (11 + p) (tlpAddr t)

/-- DOWNSTREAM_TLP (R389, R397, R403, R404): a TLP of host `h` reaches the port, whose owner it must be (R272). -/
def execDownstreamTlp (h : Hp) (p : Fin 2) (cls : Fin 3) (tlp : List Byte) (s : State) : Res :=
  .next (if !s.owns h (2 + p) || !s.awake then s else s.pxArrive h p cls tlp)

/-- A request of the drive whose Requester ID does not lie behind the port, under ACS Source Validation (R390, log entry 15). -/
def State.acsBad (s : State) (p : Nat) (t : List Byte) : Bool :=
  let bus := tlpReq t / 256
  s.cfgF p 0x53 16 1 == 1 && tlpKind t != .cpl
    && !(decide (s.get (F.PX_BUS_SECONDARY p) ≤ bus) && decide (bus ≤ s.get (F.PX_BUS_SUBORDINATE p)))

/-- The port's own part in an error message of the drive, before it goes on: Received System Error of Secondary Status, and Signaled
System Error where both SERR# Enable bits are set (R396, log entry 15). -/
def State.errPassed (s : State) (p : Nat) : State :=
  let s := s.cfgSet p 0x07 (2 ^ 30)
  if s.cfgF p 0x0F 17 1 = 1 && s.cfgF p 0x01 8 1 = 1 then s.cfgSet p 0x01 (2 ^ 30) else s

/-- UPSTREAM_TLP (R396, R403): a TLP from the drive. -/
def execUpstreamTlp (p : Fin 2) (tlp : List Byte) (s : State) : Res :=
  .next (if !s.unitRuns (11 + p) || !s.flag (F.PX_STATUS_LINK_UP p) then s
    else if s.pxContained p || !(s.pxOwner p < 4) then s.bump (F.PX_UP_DISCARD_COUNT p) 1
    else if !s.tlpFormOk p tlp then s.pxMalformed p tlp
    else if s.acsBad p tlp then
      let s := s.pxError p 21 tlp
      if tlpClass (tlpKind tlp) = 1 then s.emit (.tlp p (s.cplOf p 4 tlp none)) else s
    else
      let s := if s.cfgF p 0x46 8 1 = 1 && !ecrcOk tlp then (s.bump (F.PX_ECRC_ERR_COUNT p) 1).pxError p 19 tlp else s
      let code := tlpB tlp 7
      let route := tlpType tlp % 8
      if tlpKind tlp = .msg && (code = 0x31 || code = 0x33) then
        let s := (s.pxEvt p (if code = 0x33 then 4 else 5)).errPassed p
        if s.dpcTakes p (code == 0x33) then s.pxDpc p (if code = 0x33 then 2 else 1) (tlpReq tlp) else s.pxUp p 0 tlp
      else if tlpKind tlp = .msg && code = 0x30 then (s.pxEvt p 5).pxUp p 0 tlp
      else if tlpKind tlp = .msg && (route = 4 || route = 5) && !(0x20 ≤ code && code < 0x28) && code != 0x18 && code != 0x1B
      then s
      else s.pxUp p (tlpClass (tlpKind tlp)) tlp)

/-! ### Presence, links, resets -/

/-- A TLP of the port that waits in its owner's DOWN queue. -/
def State.pxHeldIn (s : State) (h p n : Nat) : Bool :=
  s.tunType h n == 2 && bitsOf (s.tunW0 h n) 6 3 == p

/-- A TLP with its order of receipt takes its place among others. -/
def putInOrder (x : Nat × Nat × List Byte) : List (Nat × Nat × List Byte) → List (Nat × Nat × List Byte)
  | [] => [x]
  | y :: t => if x.1 < y.1 then x :: y :: t else y :: putInOrder x t

/-- The TLPs of a port that the hub holds in a host's DOWN queues, in the order of their receipt (R394), with their CLASS, and the state
without them. -/
def State.pxTakeHeld (s : State) (h p : Nat) : List (Nat × List Byte) × State :=
  let r := (List.range 32).foldl (fun (acc : List (Nat × Nat × List Byte) × State) i =>
    let q := 64 * h + i
    let mine (it : QItem) : Bool := match it.body with
      | .cv n _ _ _ _ _ _ _ => s.pxHeldIn h p n
      | _ => false
    let items := (acc.2.queue q).items
    if items.any mine then
      let taken := (items.filter mine).map (fun it => (it.order, match it.body with
        | .cv n _ _ _ _ _ _ _ => bitsOf (s.tunW0 h n) 9 2
        | _ => 0, it.bytes))
      (acc.1 ++ taken, acc.2.keepItems q (fun it => !mine it))
    else acc) ([], s)
  ((r.1.foldl (fun l x => putInOrder x l) []).map (·.2), r.2)

/-- Every TLP held for the port goes on to the drive, as before a containment of cause 1, 2 or 5 (R291, R403). -/
def State.pxDrain (s : State) (h p : Nat) : State :=
  let (l, s) := s.pxTakeHeld h p
  l.foldl (fun s t => s.pxDown p t.1 t.2) s

/-- Every TLP held for the port is refused with a completion status or discarded (R400, R404). -/
def State.pxSweep (s : State) (h p status : Nat) : State :=
  let (l, s) := s.pxTakeHeld h p
  l.foldl (fun s t =>
    let s := if t.1 = 1 then s.pxRefuse p status t.2 else s
    if status = 4 then s.logOp h R.isolated 3 (11 + p) (tlpAddr t.2) else s) s

/-- SURPRISE_REMOVAL (R400). -/
def execSurpriseRemoval (p : Fin 2) (s : State) : Res :=
  .next (if !s.unitRuns (11 + p) then s
    else
      let was := s.flag (F.PX_STATUS_PRESENT p)
      let s := s.put (F.PX_STATUS_PRESENT p) 0
      let s := if was then (s.pxEvt p 1).cfgSet p 0x1E (2 ^ 19) else s
      let s := if was && s.cfgF p 0x1E 5 1 = 1 && s.cfgF p 0x1E 3 1 = 1 then s.pxNotify p else s
      let s := s.modPc p (fun c => { c with begun := (c.begun.1, c.begun.2.1, c.begun.2.2.1, true) })
      let s := if s.flag (F.PX_STATUS_LINK_UP p) then s.pxError p 5 [] else s
      let s := s.pxDlDown p
      if s.pxOwner p < 4 then s.pxSweep (s.pxOwner p) p 1 else s)

/-- DRIVE_INSERTION (R391, R402): PCIE_p_PRSNT_N has been low for 2 ms. -/
def execDriveInsertion (p : Fin 2) (s : State) : Res :=
  .next (if s.flag (F.PX_STATUS_PRESENT p) || !s.unitRuns (11 + p) then s
    else
      let s := s.put (F.PX_STATUS_PRESENT p) 1
      let s := (s.pxEvt p 1).cfgSet p 0x1E (2 ^ 19)
      let s := if s.cfgF p 0x1E 5 1 = 1 && s.cfgF p 0x1E 3 1 = 1 then s.pxNotify p else s
      if (s.pc p).begun.2.2.2 then
        (s.modPc p (fun c => { c with begun := (c.begun.1, c.begun.2.1, c.begun.2.2.1, false) })).pxResetMade p
      else s)

/-- The presets of PCI Express Base 4.0 with FS 48: magnitudes of c(-1) and c(+1) (R186, log entry 129). -/
def pxPreset (n : Nat) : Nat × Nat :=
  [(0, 12), (0, 8), (0, 10), (0, 6), (0, 0), (5, 0), (6, 0), (5, 10), (6, 6), (8, 0), (0, 16)].getD n (0, 0)

/-- Taps that the PCI Express role allows: R182 with FS = 48, and c(0) - |c(-1)| - |c(+1)| of at least LF = 16 (R186). -/
def pxTapsOk (m1 c0 p1 : Nat) : Bool :=
  m1 + c0 + p1 == 48 && decide (m1 ≤ 8) && decide (p1 ≤ 16) && decide (24 ≤ c0) && decide (m1 + p1 + 16 ≤ c0)

/-- One request of the drive in the equalisation procedure of PCI Express Base 4.0, about logical lane `l`: a preset from 0 to 10,
or, with 15, coefficients. Taps that the role does not allow are refused with nothing changed (R186). -/
def State.pxEqRequest (s : State) (p : Nat) (r : PxEq) : State :=
  match s.pxGroup p with
  | none => s
  | some g =>
    let b := s.ballLane g r.lane
    let m := if r.preset < 11 then pxPreset r.preset else (r.m1, r.p1)
    let c0 := if r.preset < 11 then 48 - m.1 - m.2 else r.c0
    if pxTapsOk m.1 c0 m.2 then (s.setTaps g b m.1 c0 m.2).put (F.LN_TXEQ_PRESET g b) (if r.preset < 11 then r.preset else 15)
    else s

/-- The equalisation of a link that comes up at 8.0 or 16.0 Gb/s: FS and LF are reported, and the drive's requests act in turn
(R186). -/
def State.pxEqualise (s : State) (p speed : Nat) (eq : List PxEq) : State :=
  if speed < 3 then s else eq.foldl (fun s r => s.pxEqRequest p r) (s.emit (.pxEq p 48 16))

/-- DRIVE_LINK_CHANGE (R186, R407): DL_Up or DL_Down of the drive link, with the equalisation requests that the drive made while it
trained, and the replays and Recovery entries of the link since; a link that goes down with no drive present is a surprise removal
(R400). -/
def execDriveLinkChange (p : Fin 2) (up : Bool) (speed : Fin 5) (link : DriveIn) (s : State) : Res :=
  let s := (s.bump (F.PX_REPLAYS_COUNT p) link.replays).bump (F.PX_LINK_RECOVERIES p) link.recoveries
  .next (if !s.unitRuns (11 + p) then s
    else if up then (s.pxEqualise p speed link.eq).pxDlUp p speed link.width
    else
      let gone := !s.flag (F.PX_STATUS_PRESENT p)
      let s := s.pxDlDown p
      if gone && decide (s.pxOwner p < 4) then (s.pxError p 5 []).pxSweep (s.pxOwner p) p 1 else s)

/-- DPC_TRIGGER (R390, R401): an error that the owner enabled DPC for. -/
def execDpcTrigger (p : Fin 2) (fatal : Bool) (source : BitVec 16) (s : State) : Res :=
  .next (if s.unitRuns (11 + p) && s.dpcTakes p fatal then
      (s.pxEvt p (if fatal then 4 else 5)).pxDpc p (if fatal then 2 else 1) source.toNat
    else s)

/-- PORT_RESET_COMPLETE (R402): the first DL_Up after a port reset. -/
def execPortResetComplete (p : Fin 2) (speed width : Fin 5) (s : State) : Res :=
  .next (if s.unitRuns (11 + p) then s.pxDlUp p speed width else s)

/-- RESET_DEADLINE_EXPIRY (R294, R405): no tick of the deadline is left. -/
def execResetDeadlineExpiry (p : Fin 2) (s : State) : Res :=
  .next (if !(s.pc p).deadline || s.get (F.PX_DEADLINE_TICKS p) != 0 then s
    else
      let s := s.modPc p (fun c => { c with deadline := false, expired := true })
      (s.pxEvt p 3).pxPerst p)

/-- PERST_RELEASE (R399): REFCLK has run, and a named channel's power-good has held, for PERST_DELAY ticks. -/
def execPerstRelease (p : Fin 2) (s : State) : Res :=
  .next (if s.perstHeld p || !s.flag (F.PX_STATUS_REFCLK_ON p) || !s.awake then s else s.put (F.PX_STATUS_PERST p) 0)

/-- CLKREQ_CHANGE (R398): PCIE_p_CLKREQ_N rises while the link is in L1, or falls. -/
def execClkreqChange (p : Fin 2) (high : Bool) (s : State) : Res :=
  .next (if !s.flag (F.PX_CTRL_ENABLE p) || !s.flag (F.PX_CTRL_CLKREQ_EN p) then s
    else s.put (F.PX_STATUS_REFCLK_ON p) (bit1 (!high)))

/-- A write of PX_CTRL by its owner or, for ENABLE, BOARD or service: PERST_FORCE set and cleared is a port reset, and
ENABLE starts or stops the port (R399, R402, R407). -/
def State.pxCtrl (s : State) (p v : Nat) : State :=
  let was := s.flag (F.PX_CTRL_PERST_FORCE p)
  let on := s.flag (F.PX_CTRL_ENABLE p)
  let s := s.setReg (A.PX_CTRL p) v
  let force := s.flag (F.PX_CTRL_PERST_FORCE p)
  let s := if force && !was then s.modPc p (fun c => { c with begun := (c.begun.1, c.begun.2.1, true, c.begun.2.2.2) })
    else if was && !force && (s.pc p).begun.2.2.1 then
      (s.modPc p (fun c => { c with begun := (c.begun.1, c.begun.2.1, false, c.begun.2.2.2) })).pxResetMade p
    else s
  let now := s.flag (F.PX_CTRL_ENABLE p)
  let s := if now != on then s.put (F.PX_STATUS_REFCLK_ON p) (bit1 now) else s
  s.pxPerst p

/-- The deadline counts a tick (R405). -/
def State.pxTick (s : State) (p : Nat) : State :=
  if (s.pc p).deadline then s.put (F.PX_DEADLINE_TICKS p) (s.get (F.PX_DEADLINE_TICKS p) - 1) else s

/-- The port's block starts anew from the image: its configuration space and PX_CTRL take their reset values (R94,
R407). -/
def State.pxInit (s : State) (p : Nat) : State :=
  let on := (s.pxGroup p).isSome
  let s := s.modPc p (fun c => { c with cfg := pxCfg0 p, captured := false })
  let s := s.put (F.PX_BUS_PRIMARY p) 0
  let s := s.put (F.PX_BUS_SECONDARY p) 0
  let s := s.put (F.PX_BUS_SUBORDINATE p) 0
  let s := s.setReg (A.PX_CTRL p) (bit1 on + 2 ^ 8 * 15 + 2 ^ 16 * 800)
  let s := s.put (F.PX_STATUS_REFCLK_ON p) (bit1 on)
  s.pxPerst p

/-- A lane of the port's group failed (R208): the link retrains to the width that remains. -/
def State.pxLaneFailed (s : State) (p g : Nat) : State :=
  if !s.flag (F.PX_STATUS_LINK_UP p) then s
  else
    let n := s.goodLanes g
    let w := if 4 ≤ n then 4 else if 2 ≤ n then 2 else n
    if w = 0 then s.pxDlDown p
    else
      let w := min w (s.get (F.PX_STATUS_WIDTH p))
      let s := (s.bump (F.PX_LINK_RECOVERIES p) 1).put (F.PX_STATUS_WIDTH p) w
      s.pxLanes p w laneActive (s.get (F.PX_STATUS_SPEED p) - 1)

/-- A correctable error of the port by its AER bit: status, event and message (R207, R390, R407). -/
def State.pxCorrectable (s : State) (p bit : Nat) : State :=
  let s := s.cfgSet p 0x44 (2 ^ bit)
  if s.cfgF p 0x45 bit 1 = 1 then s
  else
    let s := (s.cfgSet p 0x1A (2 ^ 16)).pxEvt p 5
    if s.cfgF p 0x1A 0 1 = 1 then s.pxErrMsg p 0x30 else s

end Sys2Proof.Machine
end

