-- ==== Sys2Proof/Machine/Eth.lean ====
section
/-! DEFINITION. Machine/Eth.lean: the Ethernet switch: forwarding, stream filters, gates, time stamps and gPTP (R408 to
R432). -/
namespace Sys2Proof.Machine

/-! ### VLANs and frames (R409 to R415) -/

/-- The VLAN entry of a VID. -/
def State.vlanOf (s : State) (vid : Nat) : Option Nat :=
  if vid = 0 then none else firstIx 64 (fun v => bitsOf (s.get (F.VLAN_W0_V v)) 0 12 == vid)

/-- Host-tunnel port 4 + h is always a member of entry `v` (R411). -/
def State.hostFixed (s : State) (v h : Nat) : Bool := bitAt (s.get (F.VLAN_W1_V v)) h

/-- Switch port `q` is a member of VLAN entry `v` (R411, R413). -/
def State.vlanMember (s : State) (v q : Nat) : Bool :=
  let w := s.get (F.VLAN_W0_V v)
  if q < 4 then bitAt w (16 + q)
  else s.hostFixed v (q - 4) || (List.range 4).any (fun p => bitAt w (24 + p) && s.owns (q - 4) (4 + p))

/-- Bytes [i, i + n) of a frame as a number, first byte most significant. -/
def ethField (f : List Byte) (i n : Nat) : Nat := ofBytesBE ((f.drop i).take n)

/-- A frame between ingress and egress: addresses, VLAN, priority, drop eligibility and what follows the tag. -/
structure EthFrame where
  da : Nat
  sa : Nat
  vid : Nat
  pcp : Nat
  dei : Bool
  rest : List Byte
deriving DecidableEq, Repr

/-- The bytes of a frame as it leaves, tagged or not. -/
def EthFrame.bytes (f : EthFrame) (tagged : Bool) : List Byte :=
  (toBytesLE 6 f.da).reverse ++ (toBytesLE 6 f.sa).reverse
    ++ (if tagged then [0x81, 0x00] ++ (toBytesLE 2 (f.pcp * 2 ^ 13 + bit1 f.dei * 2 ^ 12 + f.vid)).reverse else [])
    ++ f.rest

/-- The VID in a frame's tag, 0 where it has none. -/
def frameVid (bs : List Byte) : Nat := if ethField bs 12 2 == 0x8100 then ethField bs 14 2 % 4096 else 0

/-- A frame with the VID and priority that step 2 of R415 gives it. -/
def State.ethTag (s : State) (q : Nat) (bs : List Byte) (tc : Nat) : EthFrame :=
  let cfg := s.get (F.PORTCFG_q_V q)
  let tag := ethField bs 12 2 == 0x8100
  let tci := ethField bs 14 2
  { da := ethField bs 0 6, sa := ethField bs 6 6, vid := if frameVid bs = 0 then bitsOf cfg 0 12 else frameVid bs,
    pcp := if tag then tci / 8192 else if q < 4 then bitsOf cfg 12 3 else tc, dei := tag && bitAt tci 12,
    rest := bs.drop (if tag then 16 else 12) }

/-- Step 2 of R415: the frame's VLAN and priority, none where ACCEPT, the VID or membership refuses it. -/
def State.ethClassify (s : State) (q : Nat) (bs : List Byte) (tc : Nat) : Option EthFrame :=
  let vid := frameVid bs
  let accept := bitsOf (s.get (F.PORTCFG_q_V q)) 16 2
  let f := s.ethTag q bs tc
  if (accept = 1 && vid = 0) || (accept = 2 && vid != 0) then none
  else match s.vlanOf f.vid with
    | some v => if s.vlanMember v q then some f else none
    | none => none

/-! ### Time stamps (R424 to R427) -/

/-- A stamp report's payload for a stamp at TIME `t` (R425). -/
def State.stampWords (s : State) (t status port : Nat) (egress : Bool) : List Word :=
  let tod := s.todAt t
  [w32 (tod % 1000000000 + 2 ^ 30 * status), w32 (tod / 1000000000 % 2 ^ 32),
   w32 (tod / 1000000000 / 2 ^ 32 % 65536 + 2 ^ 16 * (port % 8) + 2 ^ 19 * bit1 egress), w32 (t % 2 ^ 32)]

/-- A report packet on a host's ETH tunnel (R425): TS_REQ set, FRAG 0, LAST. -/
def State.stampReport (s : State) (h n tsId tc : Nat) (ws : List Word) : State :=
  s.queueUp h n (tc % 8 * 2 ^ 4 + 2 ^ 7 + tsId % 256 * 2 ^ 8) true none (wordsBytes ws)

/-- The report that answers a host's TS_REQ: the stamp at external port `p` where the frame left there, else STATUS 1 or 2,
whose stamp fields the spec leaves open (log entry 10). A tunnel without UP loses the report (R426). -/
def State.stampReply (s : State) (h n tsId status : Nat) (left : Option (Nat × Nat)) : State :=
  if s.tunUp h n then
    match left with
    | some (p, t) => s.stampReport h n tsId 0 (s.stampWords t 0 p true)
    | none =>
      let f (i : Nat) : Nat := (Config.freeWord (s.free + i)).toNat
      let ws := [w32 (f 0 % 2 ^ 30 + 2 ^ 30 * status), w32 (f 1), w32 (f 2 % 2 ^ 20), w32 (f 3)]
      ({ s with free := s.free + 4 } : State).stampReport h n tsId 0 ws
  else
    let s := s.bump (F.ETH_TS_LOST_COUNT (4 + h)) 1
    match left with
    | some (p, _) => (s.bump (F.ETH_TS_LOST_COUNT p) 1).raise (132 + p) ⟨A.ETH_EVT p, 4, 1⟩
    | none => s

/-- A host's frame with a requested stamp is lost at ingress: STATUS 2. -/
def State.stampDropped (s : State) (stamp : Option (Nat × Nat × Nat)) : State :=
  match stamp with
  | some (h, n, id) => s.stampReply h n id 2 none
  | none => s

/-- A requested stamp begins to wait for the copies of its frame on external ports; its number marks the copies. -/
def State.stampOpen (s : State) (h n id ports : Nat) : State :=
  { s with et := { s.et with stamps := s.et.stamps ++ [⟨s.et.stampNext, h, n, id, ports, none⟩], stampNext := s.et.stampNext + 1 } }

/-- A stamp is settled once no copy waits on a port below the one on which the frame left: it is reported, or, with no copy left
at all, STATUS 2 (R425, R426). -/
def State.stampSettle (s : State) (w : StampWait) : State :=
  let rest := s.et.stamps.filter (fun x => x.key != w.key)
  let done (s : State) : State := { s with et := { s.et with stamps := rest } }
  match w.best with
  | some (p, t) =>
    if w.ports % 2 ^ p = 0 then (done s).stampReply w.host w.tunnel w.id 0 (some (p, t))
    else { s with et := { s.et with stamps := rest ++ [w] } }
  | none =>
    if w.ports = 0 then (done s).stampReply w.host w.tunnel w.id 2 none
    else { s with et := { s.et with stamps := rest ++ [w] } }

/-- A copy on external port `p` has left at `t`, or, with none, is lost. -/
def State.stampCopy (s : State) (key p : Nat) (t : Option Nat) : State :=
  match s.et.stamps.find? (fun x => x.key == key) with
  | some w =>
    let best := match t, w.best with
      | some t, some (q, u) => if p < q then some (p, t) else some (q, u)
      | some t, none => some (p, t)
      | none, b => b
    s.stampSettle { w with ports := w.ports &&& (15 - 2 ^ p), best := best }
  | none => s

/-- A copy that is lost on external port `p` with the stamp that it carries. -/
def State.copyLost (s : State) (p : Nat) (stamp : Option (Nat × Nat × Nat)) : State :=
  match stamp with
  | some (key, _, _) => s.stampCopy key p none
  | none => s

/-! ### Gates (R421, R422) -/

/-- Length of list `l` of port `p`. -/
def State.gclLen (s : State) (p l : Nat) : Nat := if l = 0 then s.get (F.ETH_GCL_LEN0 p) else s.get (F.ETH_GCL_LEN1 p)

/-- The entries of a list as (gates, interval). -/
def State.gclEntries (s : State) (p l : Nat) : List (Nat × Nat) :=
  (List.range (s.gclLen p l)).map (fun i => let w := s.get (F.ETH_GCE_V p l i); (bitsOf w 0 8, bitsOf w 8 24))

/-- The length of a run of entries with gate `t` open. -/
def openRun (t : Nat) : List (Nat × Nat) → Nat
  | [] => 0
  | (g, n) :: r => if bitAt g t then n + openRun t r else 0

/-- How long gate `t` stays open from `pos` ns into the cycle, over one cycle at most. -/
def openFrom (t : Nat) (whole : List (Nat × Nat)) : Nat → List (Nat × Nat) → Nat
  | _, [] => 0
  | pos, (g, n) :: r =>
    if pos < n then (if bitAt g t then n - pos + openRun t (r ++ whole) else 0) else openFrom t whole (pos - n) r

/-- Every entry opens gate `t`. -/
def alwaysOpen (t : Nat) (l : List (Nat × Nat)) : Bool := l.all (fun e => bitAt e.1 t)

/-- The longest open window of gate `t` in a cyclic list. -/
def longestOpen (t : Nat) (l : List (Nat × Nat)) : Nat :=
  (List.range l.length).foldl (fun m i => max m (openRun t (l.drop i ++ l.take i))) 0

/-- The MAC rate of an external port in Gb/s (R408). -/
def State.ethRate (s : State) (p : Nat) : Nat :=
  match s.get (F.ETH_PSTATUS_TYPE p) with
  | 0 => 25
  | 1 => 10
  | _ => 1

/-- The ns that a counted length takes on an external port (R422). -/
def State.ethTime (s : State) (p l : Nat) : Nat := ceilDiv (8 * l) (s.ethRate p)

/-- The gate of class `t` lets a head of counted length `l` start now (R422). -/
def State.gateOk (s : State) (p t l : Nat) : Bool :=
  match vAt s.et.oper p with
  | none => true
  | some (list, t0) =>
    let es := s.gclEntries p list
    let cycle := (es.map (·.2)).sum
    alwaysOpen t es || (cycle != 0 && decide (s.ethTime p l ≤ openFrom t es ((s.clock.time - t0) % cycle) es))

/-- A head that fits in no open window of its class (R422). -/
def State.gateNever (s : State) (p t l : Nat) : Bool :=
  match vAt s.et.oper p with
  | none => false
  | some (list, _) =>
    let es := s.gclEntries p list
    !alwaysOpen t es && decide (longestOpen t es < s.ethTime p l)

/-- A frame of an external port runs into a closed gate, or would: counted, with its event (R422). -/
def State.gateOverrun (s : State) (p : Nat) : State :=
  (s.bump (F.ETH_GATE_OVERRUN_COUNT p) 1).raise (132 + p) ⟨A.ETH_EVT p, 1, 1⟩

/-- The head of a class that fits in no open window is discarded and counted (R422). -/
def State.gateDrop (s : State) (p t : Nat) : State :=
  let k := 256 + 8 * p + t
  match (s.queue k).items with
  | i :: r =>
    if s.gateNever p t (s.counted k i) then
      let s := (s.setItems k r true).gateOverrun p
      match i.body with
      | .eth _ st => s.copyLost p st
      | _ => s
    else s
  | [] => s

/-- Heads of an external port that fit in no open window are discarded, until each class has one that fits (R422). -/
def State.gateDiscard (s : State) (p : Nat) : State :=
  s.each (List.range 8) (fun s t => s.each (List.range (s.queue (256 + 8 * p + t)).items.length) (fun s _ => s.gateDrop p t))

/-! ### Forwarding (R414 to R416) -/

/-- ETH_SW_STATUS.FDB_USED follows the table. -/
def State.fdbPut (s : State) (l : List FdbEnt) : State :=
  ({ s with et := { s.et with fdb := l } } : State).put F.ETH_SW_STATUS_FDB_USED l.length

/-- Learn a source address (R416). -/
def State.fdbLearn (s : State) (vid mac port : Nat) : State :=
  if mac / 2 ^ 40 % 2 = 1 then s
  else
    let l := s.et.fdb
    if l.any (fun e => e.vid == vid && e.mac == mac) then
      s.fdbPut (l.map (fun e => if e.vid == vid && e.mac == mac then ⟨vid, mac, port, s.clock.time⟩ else e))
    else if 4096 ≤ l.length then s.raise 136 F.ETH_SW_EVT_FDB_FULL
    else s.fdbPut (l ++ [⟨vid, mac, port, s.clock.time⟩])

/-- The egress ports of a frame (R414, R415 step 5). -/
def State.ethPorts (s : State) (q : Nat) (f : EthFrame) : List Nat :=
  let v := (s.vlanOf f.vid).getD 0
  let base := match (if f.da / 2 ^ 40 % 2 = 1 then none
      else s.et.fdb.find? (fun e => e.vid == f.vid && e.mac == f.da)) with
    | some e => [e.port]
    | none => (List.range 8).filter (s.vlanMember v)
  base.filter (fun r => r != q && !(4 ≤ q && 4 ≤ r && !(s.hostFixed v (q - 4) && s.hostFixed v (r - 4))))

/-- One copy joins an egress queue, or is dropped (R300, R309, R312); `stamp` as in QBody. -/
def State.ethCopy (s : State) (src r : Nat) (f : EthFrame) (marked : Bool) (stamp : Option (Nat × Nat × Nat)) : State :=
  let k := 256 + 8 * r + f.pcp
  let v := (s.vlanOf f.vid).getD 0
  let tagged := 4 ≤ r || !bitAt (s.get (F.VLAN_W0_V v)) (20 + r)
  let bs := { f with dei := f.dei || (marked && r < 4) }.bytes tagged
  let len := bs.length + 4
  let noTun := 4 ≤ r && vAt (vAt s.bc.ethTun (r - 4)) f.pcp == 0xFF
  if !s.qEnabled k || noTun || s.qDepthMax k ≤ s.qDepth k then
    let s := s.bump (F.QSTATE_DROPS_V k) 1
    let s := if s.qEnabled k && !noTun then s.raise 66 ⟨A.BC_EVT, 2, 1⟩ else s
    if r < 4 then s.copyLost r stamp else s
  else
    let s := s.enqueue k ⟨.eth src stamp, bs, len, marked, 0⟩
    if r < 4 then s.gateDiscard r else s

/-- A copy goes to a host-tunnel port: from an external port with RX_TS set, or with EtherType 0x88F7, it carries its stamp, with a
TS_ID that the hub chooses (R427). -/
def State.ethToMember (s : State) (q r : Nat) (f : EthFrame) (marked : Bool) (at_ : Nat) : State :=
  if q < 4 && (s.flag (F.ETH_PCTRL_RX_TS q) || ofBytesBE (f.rest.take 2) == 0x88F7) then
    s.took.ethCopy q r f marked (some (at_, q, s.freeVal 8))
  else s.ethCopy q r f marked none

/-- Steps 3 to 6 of R415 for a classified frame: `len` is its length from destination address to FCS, `at_` the stamp of one from a
wire. -/
def State.ethForward (s : State) (q : Nat) (f : EthFrame) (len at_ : Nat) (stamp : Option (Nat × Nat × Nat)) : State :=
  let hit := firstIx 128 (fun i =>
    s.flag (F.SF_i_W0_ENABLE i) && s.get (F.SF_i_W0_PORT i) == q
      && (!s.flag (F.SF_i_W0_VID i) || s.get (F.SF_i_W0_VID i) == f.vid)
      && (!s.flag (F.SF_i_W0_PCP_EN i) || s.get (F.SF_i_W0_PCP i) == f.pcp)
      && (!s.flag (F.SF_i_W0_DA_EN i)
        || ofBytesLE (toBytesLE 6 f.da).reverse == s.get (F.SF_i_W1_DA i) + 2 ^ 32 * s.get (F.SF_i_W2_DA i)))
  let drop (s : State) : State :=
    let s := s.bump (F.ETH_RX_DROP_COUNT q) 1
    (if 4 ≤ q then s.raise 137 F.ETH_SW_EVT_FILTER_DROP else s).stampDropped stamp
  let pass : Option Bool × State := match hit with
    | none => (some false, s)
    | some i =>
      if s.flag (F.SF_i_W2_MAX_SDU i) && decide (s.get (F.SF_i_W2_MAX_SDU i) < len) then
        let s := s.bump (F.ETH_OVERSIZE_COUNT q) 1
        (none, if q < 4 then s.raise (132 + q) ⟨A.ETH_EVT q, 2, 1⟩ else s)
      else if s.flag (F.SF_i_W0_POL_EN i) then
        let (act, s) := s.police (s.get (F.SF_i_W0_POLICER i)) len (if f.dei then 1 else 0) false
        (if act = 2 then none else some (act == 1), s)
      else (some false, s)
  match pass with
  | (none, s) => drop s
  | (some marked, s) =>
    let s := s.fdbLearn f.vid f.sa q
    let ports := s.ethPorts q f
    if ports.isEmpty then (s.bump (F.ETH_RX_DROP_COUNT q) 1).stampDropped stamp
    else
      let outside := maskOf 4 ports.contains
      let key := s.et.stampNext
      let (mark, s) : Option (Nat × Nat × Nat) × State := match stamp with
        | none => (none, s)
        | some (h, n, id) =>
          if outside = 0 then (none, s.stampReply h n id 1 none) else (some (key, 0, 0), s.stampOpen h n id outside)
      s.each ports (fun s r =>
        if r < 4 then s.ethCopy q r f marked mark
        else s.ethToMember q r f marked at_)

/-- A frame of a host from one of its ETH tunnels, `bs` without FCS (R409, R410, R415). -/
def State.ethFromHost (s : State) (h n tc tsId : Nat) (tsReq : Bool) (bs : List Byte) : State :=
  let q := 4 + h
  let stamp := if tsReq then some (h, n, tsId) else none
  if !s.unitRuns 13 then s
  else if 9212 < bs.length then (s.bump (F.ETH_OVERSIZE_COUNT q) 1).stampDropped stamp
  else
    let s := s.bump (F.ETH_RX_FRAMES_COUNT q) 1
    let bs := bs ++ List.replicate (60 - bs.length) 0
    if ethField bs 12 2 = 0x8808 then (s.bump (F.ETH_MACCTL_COUNT q) 1).stampDropped stamp
    else match s.ethClassify q bs tc with
      | none => (s.bump (F.ETH_RX_DROP_COUNT q) 1).stampDropped stamp
      | some f => s.ethForward q f (bs.length + 4) s.clock.time stamp

/-- The destination address of gPTP (R428). -/
def gptpDa : Nat := 0x0180C200000E

/-- The FCS of a frame (R409). -/
def frameFcs (bs : List Byte) : Nat := crc32 bs

/-- The clock identity of a gPTP port: the EUI-64 of its source address (IEEE 802.1AS, log entry 151). -/
def State.gptpClock (s : State) (p : Nat) : List Byte :=
  let m := toBytesLE 6 (s.reg (A.GP_MAC_LO p) + 2 ^ 32 * s.reg (A.GP_MAC_HI p))
  m.take 3 ++ [0xFF, 0xFE] ++ m.drop 3

/-- A gPTP message of external port `p` with message type, flags, sequenceId and the words after its header, as a frame without FCS
(IEEE 802.1AS, log entry 151). -/
def State.gptpFrame (s : State) (p ty flags ctl seq log : Nat) (body : List Byte) : List Byte :=
  let be (n v : Nat) : List Byte := (toBytesLE n v).reverse
  be 6 0x0180C200000E ++ toBytesLE 6 (s.reg (A.GP_MAC_LO p) + 2 ^ 32 * s.reg (A.GP_MAC_HI p)) ++ be 2 0x88F7
    ++ [BitVec.ofNat 8 (0x10 + ty), 2] ++ be 2 (34 + body.length) ++ [0, 0] ++ be 2 flags ++ List.replicate 12 0
    ++ s.gptpClock p ++ be 2 (p + 1) ++ be 2 seq ++ [BitVec.ofNat 8 ctl, BitVec.ofNat 8 log] ++ body

/-- A time of day as ten bytes: 48 bits of seconds and 32 of ns. -/
def todBytes (tod : Nat) : List Byte := (toBytesLE 6 (tod / 1000000000)).reverse ++ (toBytesLE 4 (tod % 1000000000)).reverse

/-- A frame of the hub's own leaves external port `p`. -/
def State.ethOwn (s : State) (p : Nat) (bs : List Byte) : State :=
  let bs := bs ++ List.replicate (60 - bs.length) 0
  s.emit (.eth p (bs ++ toBytesLE 4 (frameFcs bs)) s.clock.time)

/-- A gPTP frame on a port that runs gPTP is consumed; a Pdelay_Req of domain 0, stamped at `t`, is answered with Pdelay_Resp and
Pdelay_Resp_Follow_Up (R428). -/
def State.gptpTake (s : State) (p : Nat) (bs : List Byte) (t : Nat) : State :=
  let m := bs.drop 14
  if ethField m 0 1 % 16 != 2 || ethField m 4 1 != 0 then s
  else
    let who := (m.drop 20).take 10
    let seq := ethField m 30 2
    let s := s.ethOwn p (s.gptpFrame p 3 0x0200 5 seq 0x7F (todBytes (s.todAt t) ++ who))
    s.took.ethOwn p (s.gptpFrame p 0xA 0 5 seq 0x7F (todBytes (s.todAt (s.clock.time + s.freeVal 2)) ++ who))

/-- A frame received on external port `p`, `bs` without its FCS `wire.fcs` (R409, R410, R415, R427, R428). -/
def State.ethFromWire (s : State) (p : Nat) (bs : List Byte) (wire : EthIn) : State :=
  let at_ := s.clock.time + wire.fine
  if !s.unitRuns 13 || !s.flag (F.ETH_PCTRL_ENABLE p) || !s.flag (F.ETH_PSTATUS_LINK p) then s
  else if frameFcs bs != wire.fcs.toNat then s.bump (F.ETH_FCS_ERR_COUNT p) 1
  else if 9212 < bs.length then s.bump (F.ETH_OVERSIZE_COUNT p) 1
  else
    let s := s.bump (F.ETH_RX_FRAMES_COUNT p) 1
    if ethField bs 12 2 = 0x8808 then s.bump (F.ETH_MACCTL_COUNT p) 1
    else if ethField bs 0 6 = gptpDa then
      -- taken at step 1 of R415: by the port itself, or for the owner
      if s.flag (F.GP_CTRL_p_EN p) then s.gptpTake p bs at_
      else
        let o := s.ownerOf (4 + p)
        if o < 4 then s.ethToMember p (4 + o) (s.ethTag p bs 0) false at_ else s.bump (F.ETH_RX_DROP_COUNT p) 1
    else match s.ethClassify p bs 0 with
      | none => s.bump (F.ETH_RX_DROP_COUNT p) 1
      | some f => s.ethForward p f (bs.length + 4) at_ none

/-- ETH_FRAME_RECEIVE (R415): a frame on switch port `q`, from its destination address to its last data byte; `tunnel`,
`tsReq`, `tsId` and `tc` matter on a host-tunnel port, `wire` on an external one. -/
def execEthFrameReceive (q : Fin 8) (frame : List Byte) (wire : EthIn) (tunnel : Fin 64) (tsReq : Bool) (tsId : Byte)
    (tc : Fin 8) (s : State) : Res :=
  .next (if !s.awake then s
    else if q.val < 4 then s.ethFromWire q frame wire
    else s.ethFromHost (q.val - 4) tunnel tc tsId.toNat tsReq frame)

/-- FDB_AGE_OUT (R416): entries that ETH_AGE.SEC seconds have not renewed go. -/
def execFdbAgeOut (s : State) : Res :=
  let sec := s.get F.ETH_AGE_SEC
  .next (if sec = 0 then s else s.fdbPut (s.et.fdb.filter (fun e => decide (s.clock.time < e.time + sec * 1000000000))))

/-- A write of ETH_FDB_FLUSH (R432): the entries of a VLAN or all of them go. -/
def State.fdbFlush (s : State) (v : Nat) : State :=
  s.fdbPut (if bitAt v 16 then [] else s.et.fdb.filter (fun e => e.vid != bitsOf v 0 12))

/-- At an ownership change of ETH_p the entries on the old and new owners' host-tunnel ports go, in every VLAN whose EXT
or OWNER_OF has bit p (R291, R416). -/
def State.ethOwnerChanged (s : State) (p old new : Nat) : State :=
  let hit (e : FdbEnt) : Bool :=
    (e.port == 4 + old || e.port == 4 + new) && (match s.vlanOf e.vid with
      | some v => bitAt (s.get (F.VLAN_W0_V v)) (16 + p) || bitAt (s.get (F.VLAN_W0_V v)) (24 + p)
      | none => false)
  s.fdbPut (s.et.fdb.filter (fun e => !hit e))

/-! ### Egress (R306, R409, R421 to R427) -/

/-- The head of a queue of an Ethernet switch port may start now (R306, R422). -/
def State.ethSendable (s : State) (k : Nat) : Bool :=
  let r := (k - 256) / 8
  match (s.queue k).items with
  | i :: _ =>
    if r < 4 then s.unitRuns 13 && s.flag (F.ETH_PSTATUS_LINK r) && s.gateOk r ((k - 256) % 8) (s.counted k i)
    else s.unitRuns 13 && s.qTakes (s.upQueue (r - 4) (vAt (vAt s.bc.ethTun (r - 4)) ((k - 256) % 8)) false)
  | [] => false

/-- A frame of class `t` and counted length `l` leaves external port `p` now, its FCS behind it, stamped for a host that asked; the
stamp's place within the 4 ns of TIME is open (R409, R415 step 7, R424, R426, log entry 152). -/
def State.ethTransmit (s : State) (p t l : Nat) (i : QItem) : State :=
  let s := s.emit (.eth p (i.bytes ++ toBytesLE 4 (frameFcs i.bytes)) s.clock.time)
  let s := s.bump (F.ETH_TX_FRAMES_COUNT p) 1
  let s := { s with et := { s.et with busy := vPut s.et.busy p (some (t, s.clock.time + s.ethTime p l)) } }
  match i.body with
  | .eth _ (some (key, _, _)) => s.took.stampCopy key p (some (s.clock.time + s.freeVal 2))
  | _ => s

/-- The fragments of a frame join the UP queue of its ETH tunnel, then the ingress report it carries (R409, R427). -/
def State.ethToHost (s : State) (h t : Nat) (i : QItem) : State :=
  let n := vAt (vAt s.bc.ethTun h) t
  let s := s.bump (F.ETH_TX_FRAMES_COUNT (4 + h)) 1
  let ts := match i.body with
    | .eth _ st => st
    | _ => none
  let flags := t % 8 * 2 ^ 4 + (match ts with
    | some (_, _, id) => 2 ^ 7 + id % 256 * 2 ^ 8
    | none => 0)
  let pieces := piecesOf i.bytes (i.bytes.length / 1024)
  let s := s.each (List.range pieces.length) (fun s k =>
    s.queueUp h n (k + flags) (k + 1 == pieces.length) none (pieces.getD k []))
  match ts with
  | some (tm, p, id) => s.stampReport h n id t (s.stampWords tm 0 p false)
  | none => s

/-- A frame in transmission on a port runs into a closed gate of its operative list (R422). -/
def State.gateCuts (s : State) (p : Nat) : Bool :=
  match vAt s.et.busy p, vAt s.et.oper p with
  | some (c, end_), some (list, t0) =>
    let es := s.gclEntries p list
    decide (t0 < end_) && !alwaysOpen c es && decide (openFrom c es 0 es < end_ - t0)
  | _, _ => false

/-- GATE_SWITCH at T (R421): true where the list becomes operative. Heads that fit in no window of it go, and a frame that runs into
a closed gate is counted (R422). -/
def State.gateSwitch (s : State) (p l t : Nat) : Bool × State :=
  if s.gclLen p l = 0 || !s.flag (F.ETH_PCTRL_ENABLE p) || !s.unitRuns 13 then (false, s)
  else
    let s := ({ s with et := { s.et with oper := vPut s.et.oper p (some (l, t)) } } : State).put (F.ETH_PSTATUS_OPER_LIST p) (l + 1)
    (true, (if s.gateCuts p then s.gateOverrun p else s).gateDiscard p)

/-- GATE_ENTRY_START (R421): the next entry of the operative list starts; TIME moves to its start. -/
def execGateEntryStart (p : Fin 4) (s : State) : Res :=
  .next (match vAt s.et.oper p with
    | none => s
    | some (l, t0) =>
      let es := s.gclEntries p l
      let cycle := (es.map (·.2)).sum
      if cycle = 0 || s.clock.time < t0 then s
      else
        let pos := (s.clock.time - t0) % cycle
        let ends := (List.range es.length).map (fun i => ((es.take (i + 1)).map (·.2)).sum)
        match ends.find? (fun e => decide (pos < e)) with
        | some e => s.advanceTo (s.clock.time + (e - pos))
        | none => s)

/-! ### Ports and gPTP (R408, R428, R429) -/

/-- The lane of an external port takes a state. -/
def State.ethLaneState (s : State) (p st : Nat) : State :=
  match s.ethLane p with
  | some (g, l) => s.flexLane g (s.ballLane g l) st (2 - min 2 (s.get (F.ETH_PSTATUS_TYPE p)))
  | none => s

/-- ETH_PSTATUS.LINK takes a value; a change sets LINK_CHG. -/
def State.ethLink (s : State) (p : Nat) (up : Bool) : State :=
  if s.flag (F.ETH_PSTATUS_LINK p) == up then s
  else ((s.put (F.ETH_PSTATUS_LINK p) (bit1 up)).ethLaneState p (if up then laneActive else laneTraining)).raise (128 + p)
    ⟨A.ETH_EVT p, 0, 1⟩

/-- GPTP_CHG of a port (R429). -/
def State.gptpChg (s : State) (p : Nat) : State := s.raise (132 + p) ⟨A.ETH_EVT p, 3, 1⟩

/-- asCapable takes a value (R428, R429). -/
def State.asCapable (s : State) (p : Nat) (v : Bool) : State :=
  if s.flag (F.GP_STATUS_p_AS_CAPABLE p) == v then s else (s.put (F.GP_STATUS_p_AS_CAPABLE p) (bit1 v)).gptpChg p

/-- gPTP stops on a port: EN cleared, its link down, or the switch stopped. -/
def State.gptpStop (s : State) (p : Nat) : State :=
  let s := { s with et := { s.et with good := vPut s.et.good p 0 } }
  (s.put (F.GP_STATUS_p_SYNC_OK p) 0).asCapable p false

/-- The lane group of an external port is enabled (R103, R213). -/
def State.ethGroupOn (s : State) (p : Nat) : Bool :=
  match s.ethLane p with
  | some (g, _) => s.flag (F.LG_CTRL_ENABLE g)
  | none => false

/-- The lane of a link that is detected anew forgets its failures to qualify (R202). -/
def State.ethFresh (s : State) (p : Nat) : State :=
  match s.ethLane p with
  | some (g, l) => if s.flag (F.ETH_PSTATUS_LINK p) then s else s.flexForgetLane g (s.ballLane g l)
  | none => s

/-- ETH_LINK_CHANGE (R213, R408, R432). -/
def execEthLinkChange (p : Fin 4) (up : Bool) (s : State) : Res :=
  .next (if !s.unitRuns 13 || (s.ethLane p).isNone || (up && (!s.flag (F.ETH_PCTRL_ENABLE p) || !s.ethGroupOn p || !s.awake)) then s
    else if up then (s.ethFresh p).ethLink p true else (s.ethLink p false).gptpStop p)

/-- A port stops or starts with ETH_PCTRL.ENABLE (R432): stopped, its link is down and no list is operative. -/
def State.ethEnable (s : State) (p : Nat) (on : Bool) : State :=
  let s := s.put (F.ETH_PCTRL_ENABLE p) (bit1 on)
  if on then s
  else
    let s := ((s.ethLink p false).gptpStop p).ethLaneState p laneOff
    ({ s with et := { s.et with oper := vPut s.et.oper p none } } : State).put (F.ETH_PSTATUS_OPER_LIST p) 0

/-- The interval between Pdelay exchanges in ns, 2^PDELAY_LOG s (R428). -/
def State.pdInterval (s : State) (p : Nat) : Nat :=
  let l := signedOf 4 (s.get (F.GP_CTRL_p_PDELAY_LOG p))
  if 0 ≤ l then 1000000000 * 2 ^ l.toNat else 1000000000 / 2 ^ (-l).toNat

/-- The hub initiates a Pdelay exchange: its Pdelay_Req goes out, and the next one is due an interval later (R428). -/
def State.pdRequest (s : State) (p : Nat) : State :=
  let seq := vAt s.et.pdSeq p
  let s := s.ethOwn p (s.gptpFrame p 2 0 5 seq (s.get (F.GP_CTRL_p_PDELAY_LOG p) + (if s.get (F.GP_CTRL_p_PDELAY_LOG p) < 8 then 0 else 240))
    (List.replicate 20 0))
  { s with et := { s.et with pdSeq := vPut s.et.pdSeq p ((seq + 1) % 65536),
                             pdNext := vPut s.et.pdNext p (s.clock.time + s.pdInterval p) } }

/-- PDELAY_EXCHANGE (R428): the exchange that is due, TIME moving to its instant; `good` says that it was good, `delay` is the mean
link delay in 1/16 ns and `ppb` the neighbour rate ratio less 1. Three good ones in a row within THRESH make the port asCapable. -/
def execPdelayExchange (p : Fin 4) (good : Bool) (delay : Nat) (ppb : Int) (s : State) : Res :=
  .next (if !s.flag (F.GP_CTRL_p_EN p) || !s.unitRuns 13 || !s.flag (F.ETH_PSTATUS_LINK p) || !s.awake then s
    else
      let s := (s.advanceTo (vAt s.et.pdNext p)).pdRequest p
      let s := if good then
          (s.put (F.GP_DELAY_p_NS p) (min delay (2 ^ 32 - 1))).put (F.GP_RATIO_p_PPB p) (toBits 32 (clampSigned 32 ppb))
        else s
      if good && decide (delay ≤ 16 * s.get (F.GP_CTRL_p_THRESH p)) then
        let n := min 3 (vAt s.et.good p + 1)
        let s := { s with et := { s.et with good := vPut s.et.good p n } }
        if n = 3 then s.asCapable p true else s
      else ({ s with et := { s.et with good := vPut s.et.good p 0 } } : State).asCapable p false)

/-- SYNC_RECEIVE (R424, R429): a Sync's preciseOriginTimestamp and its correctionField in ns, and its ingress stamp. -/
def execSyncReceive (p : Fin 4) (sync : SyncIn) (correction : Int) (s : State) : Res :=
  .next (if !s.flag (F.GP_CTRL_p_EN p) || !s.flag (F.GP_STATUS_p_AS_CAPABLE p) then s
    else
      let delay := (((s.get (F.GP_DELAY_p_NS p) : Nat) : Int) * (1000000000 + signedOf 32 (s.get (F.GP_RATIO_p_PPB p))))
        / 16000000000
      let e := (sync.origin : Int) + correction + delay - ((s.todAt (s.clock.time + sync.fine) : Nat) : Int)
      (s.put (F.GP_STATUS_p_SYNC_OK p) 1).measured (1 + p) e)

/-- SYNC_TIMEOUT (R429): three Sync intervals passed without a Sync. -/
def execSyncTimeout (p : Fin 4) (s : State) : Res :=
  .next (if s.flag (F.GP_CTRL_p_EN p) && s.unitRuns 13 && s.awake then (s.put (F.GP_STATUS_p_SYNC_OK p) 0).gptpChg p else s)

/-- A lane that carries an Ethernet port failed: the port goes down (R208). -/
def State.ethLaneFailed (s : State) (p : Nat) : State := (s.ethLink p false).gptpStop p

/-- The switch starts anew: the forwarding table is flushed, no list is operative (R94, R571). -/
def State.ethInit (s : State) : State :=
  let s := s.fdbPut []
  let s := { s with et := { s.et with oper := Vector.replicate 4 none } }
  s.each (List.range 4) (fun s p => ((s.put (F.ETH_PSTATUS_OPER_LIST p) 0).ethLink p false).gptpStop p)

end Sys2Proof.Machine
end

