-- ==== Sys2Proof/Machine/Usb.lean ====
section
/-! DEFINITION. Machine/Usb.lean: the four upstream faces, the eight downstream ports and the management functions (R433
to R455). EP1 command frames stand in Mgmt.lean. -/
namespace Sys2Proof.Machine

/-! ### Views (R435) -/

/-- The view that face `h` has of port `n`, from 0. -/
def State.view (s : State) (h n : Nat) : View := vAt (vAt s.us.views h) n

/-- The state with a view changed. -/
def State.modView (s : State) (h n : Nat) (f : View → View) : State :=
  { s with us := { s.us with views := vMod s.us.views h (fun v => vMod v n f) } }

/-- Bits of a number set. -/
def setBits (v m : Nat) : Nat := v ||| m
/-- Bits of a number cleared. -/
def clrBits (v m : Nat) : Nat := v &&& (0xFFFF - m)

/-- A view with status bits set and cleared and change bits set. -/
def View.upd (v : View) (set clr chg : Nat) : View := ⟨setBits (clrBits v.st clr) set, setBits v.chg chg⟩

/-- Port `n` of a face is visible: its host owns DS_n; port 9 always is (R435). -/
def State.visible (s : State) (h n : Nat) : Bool := n = 8 || s.owns h (40 + n)

/-- The owner's view of DS_n changes; with no owner nothing does. -/
def State.ownView (s : State) (n set clr chg : Nat) : State :=
  let o := s.ownerOf (40 + n)
  if o < 4 then s.modView o n (fun v => v.upd set clr chg) else s

/-! STATE codes of DS_STATUS_n (R455). -/
namespace Ds
def off : Nat := 0
def disconnected : Nat := 1
def disabled : Nat := 2
def resetting : Nat := 3
def enabled : Nat := 4
def suspended : Nat := 5
def resuming : Nat := 6
def l1 : Nat := 7
end Ds

/-- STATE of DS_n. -/
def State.dsState (s : State) (n : Nat) : Nat := s.get (F.DS_STATUS_n_STATE n)
/-- DS_n takes a state. -/
def State.dsTo (s : State) (n st : Nat) : State := s.put (F.DS_STATUS_n_STATE n) st
/-- Bit `i` of DS_EVT_n (R454). -/
def State.dsEvt (s : State) (n i : Nat) : State := s.raise (144 + n) ⟨A.DS_EVT_n n, i, 1⟩
/-- Bit `i` of UF_EVT_h (R454). -/
def State.ufEvt (s : State) (h i : Nat) : State := s.raise (152 + h) ⟨A.UF_EVT h, i, 1⟩
/-- The USB hub runs: enabled, not isolated, its die out of reset and past the self-test, in no state below SLEEP (R103, R434, R455,
R575). -/
def State.usbRuns (s : State) : Bool :=
  s.flag F.USB_CTRL_ENABLE && s.unitRuns 14 && decide (s.power < 3) && !(s.img.phase == .held) && !(s.img.phase == .testing)

/-! ### Transaction translators (R433, R442) -/

/-- DS_STATUS_n.TT_BUSY follows the translator of the owner's face (R455). -/
def State.ttShow (s : State) (n : Nat) : State :=
  s.put (F.DS_STATUS_n_TT_BUSY n) (bit1 ((List.range 4).any (fun h => s.visible h n && vAt (vAt s.us.tt h) n != (0, 0))))

/-- The translator buffers of a port are cleared. -/
def State.ttClear (s : State) (n : Nat) : State :=
  ({ s with us := { s.us with tt := s.us.tt.map (fun v => vPut v n (0, 0)) } } : State).ttShow n

/-- The ports of a face whose buffers a port's transaction may use: its own in the multiple-TT setting, those of all visible ports as
one set in the single-TT setting (R442, log entry 157). -/
def State.ttSet (s : State) (h n : Nat) : List Nat :=
  if s.flag (F.UF_STATUS_ALT_TT h) then [n] else (List.range 8).filter (fun m => s.visible h m)

/-- A buffer is free: 4 periodic and 2 non-periodic for each port (R442). -/
def State.ttRoom (s : State) (h n : Nat) (periodic : Bool) : Bool :=
  let set := s.ttSet h n
  let held := (set.map (fun m => if periodic then (vAt (vAt s.us.tt h) m).1 else (vAt (vAt s.us.tt h) m).2)).sum
  decide (held < (if periodic then 4 else 2) * set.length)

/-- A split transaction is taken for a full- or low-speed device on an enabled visible port, where a buffer is free, or ends. -/
def State.takeSplit (s : State) (h : Nat) (x : Split) : State :=
  let n := x.port.val
  let runs := s.visible h n && s.usbRuns && s.dsState n == Ds.enabled && s.get (F.UF_STATUS_SPEED h) == 2
    && (s.get (F.DS_STATUS_n_SPEED n) == 1 || s.get (F.DS_STATUS_n_SPEED n) == 2)
  let step (v : Nat) : Nat := if x.start then v + 1 else v - 1
  if x.start && !(runs && s.ttRoom h n x.periodic) then s
  else
    ({ s with us := { s.us with tt := vMod s.us.tt h (fun v => vMod v n (fun b => if x.periodic then (step b.1, b.2) else (b.1, step b.2))) } }
      : State).ttShow n

/-! ### Port power (R438 to R441) -/

/-- The level R438 wants on DS_n_PPC. -/
def State.ppcWanted (s : State) (n : Nat) : Bool :=
  if s.flag (F.DS_STATUS_n_OC n) || vAt s.us.ocWait n || s.flag (F.DS_CTRL_n_POWER_CYCLE n) then false
  else match s.get (F.DS_CFG_n_PWR_MODE n) with
    | 0 =>
      let o := s.ownerOf (40 + n)
      if o < 4 then bitAt (s.view o n).st 8 else s.flag (F.DS_STATUS_n_PPC n)
    | 1 => decide (2 ≤ s.devState)
    | _ => false

/-- DS_n_PPC follows R438; a port that loses power goes to POWERED_OFF (R442), and a DCP joins DP to DM while it has power (R441). The
outputs hold while the hub is stopped or isolated. -/
def State.ppc (s : State) (n : Nat) : State :=
  if !s.usbRuns && !(s.flag (F.DS_STATUS_n_OC n)) then s
  else
    let on := s.ppcWanted n
    let s := s.put (F.DS_STATUS_n_PPC n) (bit1 on)
    let chg := if on then s.get (F.DS_CFG_n_CHG_MODE n) else 0
    let was := s.get (F.DS_STATUS_n_CHG n)
    let s := s.put (F.DS_STATUS_n_CHG n) chg
    let s := s.iff (chg == 2 && was != 2) (fun s => s.emit (.usbSignal (4 + n) 7))
    let s := s.iff (chg != 2 && was == 2) (fun s => s.emit (.usbSignal (4 + n) 8))
    if on || s.dsState n = Ds.off then s
    else (((s.dsTo n Ds.off).put (F.DS_STATUS_n_SPEED n) 0).ownView n 0 0x637 0).ttClear n

/-- Faces and ports are held disconnected while down-spread applies (R48, R434). -/
def State.spreadHold (s : State) : Bool := s.flag F.USB_STATUS_SPREAD_HOLD

/-- A port loses its device (R442). -/
def State.dsDisconnect (s : State) (n : Nat) : State :=
  if s.dsState n ≤ Ds.disconnected then s
  else
    let s := ((s.dsTo n Ds.disconnected).put (F.DS_STATUS_n_SPEED n) 0).ownView n 0 0x637 1
    (s.ttClear n).dsEvt n 1

/-! ### The management function (R445 to R453) -/

/-- A CLAIM, RELEASE or HANDOVER of host `h` over USB that was refused on arrival and whose reply waits for the boundary (R131). -/
def refusedUsb (h : Nat) (r : OwnReq) : Bool := r.agent == h && r.tr == .usb && !r.isOpen && !r.orphan

/-- A function reset (R453): partial frames and queued replies go, and commands already passed lose their replies. -/
def State.mfReset (s : State) (h : Nat) : State :=
  let mine := ((s.agent h).openCmds.filter (fun c => c.tr == .usb && !c.orphan)).length + (s.own.reqs.filter (refusedUsb h)).length
  let s := s.modOwn (fun o => { o with reqs := o.reqs.map (fun r => if refusedUsb h r then { r with orphan := true } else r) })
  let s := { s with usbQ := vPut s.usbQ h [],
                    us := { s.us with part := vPut s.us.part h [], bufs := vPut s.us.bufs h ⟨[], [], [], []⟩,
                                      ep3 := vMod s.us.ep3 h (fun e => { e with last := none }) } }
  let s := s.modAgent h (fun g => { g with
    openCmds := g.openCmds.map (fun c => if c.tr == .usb then { c with orphan := true } else c),
    held := g.held.filter (fun f => f.1 != .usb) })
  let s := s.bump (F.UF_MF_ERR_ORPHANED h) mine
  s.ufEvt h 1

/-- The function is connected on port 9: MF_CONNECT and its face attached (R445). -/
def State.mfConnected (s : State) (h : Nat) : Bool :=
  s.flag (F.UF_CTRL_MF_CONNECT h) && bitAt (s.get F.USB_STATUS_ATTACHED) h

/-- The function is configured: its endpoints beside EP0 answer (R450, R455; PRESUMED for EP1 and EP2, log entry 158). -/
def State.mfReady (s : State) (h : Nat) : Bool := s.mfConnected h && s.get (F.UF_STATUS_MF_STATE h) == 3

/-- The function falls back to a state without address, configuration and remote wake. -/
def State.mfFall (s : State) (h st : Nat) : State :=
  let s := (s.put (F.UF_STATUS_MF_STATE h) st).put (F.UF_STATUS_MF_ADDRESS h) 0
  { s with us := { s.us with wakeEn := vMod s.us.wakeEn h (fun w => (false, w.2)) } }

/-- The function connects to or disconnects from port 9 (R445). -/
def State.mfConnect (s : State) (h : Nat) (on : Bool) : State :=
  if on == bitAt (s.view h 8).st 0 then s
  else if on then s.modView h 8 (fun v => v.upd 0x101 0 1)
  else ((s.modView h 8 (fun v => v.upd 0 0x637 1)).mfFall h 0).mfReset h

/-! ### Faces (R434, R440) -/

/-- The conditions under which face `h` drives its pull-up (R434). -/
def State.faceMayAttach (s : State) (h : Nat) : Bool :=
  let st := s.get (F.TC_STATUS_STATE h)
  ((st == 4 || st == 5) && !s.flag (F.TC_STATUS_DR h) || st == 7)
    && s.flag F.USB_STATUS_PLL_LOCK && s.usbRuns && !s.spreadHold

/-- A face's hub starts anew in a state: no address, no alternate setting, no remote wake, no transaction in its translators, no K driven; a face
that leaves suspend or L1 so reports it (R442, R455). -/
def State.faceFall (s : State) (h st : Nat) : State :=
  let s := s.iff (decide (4 ≤ s.get (F.UF_STATUS_STATE h))) (fun s => s.ufEvt h 3)
  let s := ((s.put (F.UF_STATUS_STATE h) st).put (F.UF_STATUS_ADDRESS h) 0).put (F.UF_STATUS_ALT_TT h) 0
  let s := { s with us := { s.us with tt := vPut s.us.tt h (Vector.replicate 8 (0, 0)), driven := vPut s.us.driven h none,
                                      wakeEn := vMod s.us.wakeEn h (fun w => (w.1, false)) } }
  s.each (List.range 8) State.ttShow

/-- A face follows R434; a detach resets the function and changes no view (R440). -/
def State.face (s : State) (h : Nat) : State :=
  let on := s.faceMayAttach h
  if on == bitAt (s.get F.USB_STATUS_ATTACHED) h then s
  else
    let s := if on then s.setBit F.USB_STATUS_ATTACHED h else s.clrBit F.USB_STATUS_ATTACHED h
    let s := s.ufEvt h 2
    if on then s.mfConnect h (s.flag (F.UF_CTRL_MF_CONNECT h))
    else
      let s := (s.faceFall h 0).put (F.UF_STATUS_SPEED h) 0
      s.iff (s.flag (F.UF_CTRL_MF_CONNECT h)) (fun s => (s.mfFall h 0).mfReset h)

/-- Every face follows R434. -/
def State.faces (s : State) : State := s.each (List.range 4) State.face

/-- FACE_ATTACH_CHANGE (R434): a condition of the face's pull-up changed. -/
def execFaceAttachChange (h : Hp) (s : State) : Res := .next (s.face h)

/-- FACE_BUS_RESET (R440): PORT_POWER clears in every view of the face, and the function is reset. -/
def execFaceBusReset (h : Hp) (high : Bool) (s : State) : Res :=
  .next (if !bitAt (s.get F.USB_STATUS_ATTACHED) h then s
    else
      let s := ((s.ufEvt h 0).faceFall h 1).put (F.UF_STATUS_SPEED h) (if high then 2 else 1)
      let s := s.each (List.range 8) (fun s n =>
        let s := s.modView h n (fun v => v.upd 0 0x100 0)
        if s.visible h n then s.ppc n else s)
      ((s.modView h 8 (fun v => v.upd 0 0x736 0)).mfFall h 0).mfReset h)

/-- The face, and with it its function, goes to suspend (4) or L1 (5); the states before it are kept, and a function that port 9 already
holds so stays as it is (R452, R455). -/
def State.faceSleeps (s : State) (h st : Nat) : State :=
  let mf := s.get (F.UF_STATUS_MF_STATE h)
  let s := { s with us := { s.us with before := vMod s.us.before h (fun b => (s.get (F.UF_STATUS_STATE h), if mf ≤ 3 then mf else b.2)) } }
  let s := s.put (F.UF_STATUS_STATE h) st
  (s.iff (1 ≤ mf && mf ≤ 3) (fun s => s.put (F.UF_STATUS_MF_STATE h) st)).ufEvt h 3

/-- FACE_SUSPEND (R452, R455). -/
def execFaceSuspend (h : Hp) (s : State) : Res :=
  let st := s.get (F.UF_STATUS_STATE h)
  .next (s.iff (1 ≤ st && st ≤ 3) (fun s => s.faceSleeps h 4))

/-- The host's resume K meets a K of the face whose 2 ms are not over: the face completes them, and the meeting is counted on the port
whose wake it passes on (R444). -/
def State.resumeMeets (s : State) (h : Nat) : State :=
  let s' := { s with us := { s.us with driven := vPut s.us.driven h none } }
  match vAt s.us.driven h with
  | some (n, t) => s'.iff (n < 8 && s.clock.time < t) (fun s => s.bump (F.DS_WAKE_n_COLLISIONS n) 1)
  | none => s'

/-- FACE_RESUME: the face leaves suspend or L1, following the host's resume to its end; a function that port 9 suspended stays so. -/
def execFaceResume (h : Hp) (s : State) : Res :=
  let st := s.get (F.UF_STATUS_STATE h)
  .next (if st = 4 || st = 5 then
      let b := vAt s.us.before h
      let s := (s.resumeMeets h).put (F.UF_STATUS_STATE h) b.1
      let v := (s.view h 8).st
      (s.iff (!bitAt v 2 && !bitAt v 5) (fun s => s.put (F.UF_STATUS_MF_STATE h) b.2)).ufEvt h 3
    else s)

/-! ### Hub-class requests (R435, R442, R444) -/

/-- A request of face `h` reaches physical port `n`: attached, visible, not port 9. -/
def State.reaches (s : State) (h n : Nat) : Bool :=
  bitAt (s.get F.USB_STATUS_ATTACHED) h && decide (n < 8) && s.visible h n

/-- SET_PORT_RESET: on port 9 a function reset, done at once. -/
def execSetPortReset (h : Hp) (n : Fin 9) (s : State) : Res :=
  .next (if n = 8 then
      (if s.mfConnected h then
        let s := s.modView h 8 (fun v => v.upd (if s.faceHigh h then 0x402 else 2) 0x424 0x10)
        (s.mfFall h 1).mfReset h
      else s)
    else if s.reaches h n && (s.dsState n = Ds.disabled || s.dsState n = Ds.enabled) then
      (s.dsTo n Ds.resetting).modView h n (fun v => v.upd 0x10 2 0)
    else s)

/-- SET_PORT_POWER: PORT_POWER of the view is set; on port 9 it has no effect. -/
def execSetPortPower (h : Hp) (n : Fin 9) (s : State) : Res :=
  .next (if n = 8 || !bitAt (s.get F.USB_STATUS_ATTACHED) h then s
    else
      let s := s.modView h n (fun v => v.upd 0x100 0 0)
      if s.visible h n then s.ppc n else s)

/-- CLEAR_PORT_POWER. -/
def execClearPortPower (h : Hp) (n : Fin 9) (s : State) : Res :=
  .next (if n = 8 || !bitAt (s.get F.USB_STATUS_ATTACHED) h then s
    else
      let s := s.modView h n (fun v => v.upd 0 0x100 0)
      if s.visible h n then s.ppc n else s)

/-- CLEAR_PORT_ENABLE. -/
def execClearPortEnable (h : Hp) (n : Fin 9) (s : State) : Res :=
  .next (if n = 8 then
      (if s.mfConnected h then s.modView h 8 (fun v => v.upd 0 2 0) else s)
    else if s.reaches h n && s.dsState n = Ds.enabled then
      (s.dsTo n Ds.disabled).modView h n (fun v => v.upd 0 2 0)
    else s)

/-- Port 9 takes an awake function to suspend (4) or L1 (5). -/
def State.mfSleeps (s : State) (h st : Nat) : State :=
  let mf := s.get (F.UF_STATUS_MF_STATE h)
  s.iff (decide (mf ≤ 3)) (fun s =>
    ({ s with us := { s.us with before := vMod s.us.before h (fun b => (b.1, mf)) } } : State).put (F.UF_STATUS_MF_STATE h) st)

/-- SET_PORT_SUSPEND. -/
def execSetPortSuspend (h : Hp) (n : Fin 9) (s : State) : Res :=
  .next (if n = 8 then
      (if s.mfConnected h && bitAt (s.view h 8).st 1 then (s.modView h 8 (fun v => v.upd 4 0 0)).mfSleeps h 4 else s)
    else if s.reaches h n && s.dsState n = Ds.enabled then
      (s.dsTo n Ds.suspended).modView h n (fun v => v.upd 4 0 0)
    else s)

/-- CLEAR_PORT_SUSPEND (R442, R444). -/
def execClearPortSuspend (h : Hp) (n : Fin 9) (s : State) : Res :=
  .next (if n = 8 then
      (if s.mfConnected h && (bitAt (s.view h 8).st 2 || bitAt (s.view h 8).st 5) then
        (s.modView h 8 (fun v => v.upd 0 0x24 (if bitAt v.st 2 then 4 else 0))).put (F.UF_STATUS_MF_STATE h) (vAt s.us.before h).2
      else s)
    else if !s.reaches h n then s
    else if s.dsState n = Ds.suspended then s.dsTo n Ds.resuming
    else if s.dsState n = Ds.l1 then (s.dsTo n Ds.enabled).modView h n (fun v => v.upd 0 0x20 0)
    else if s.dsState n = Ds.resuming then s.bump (F.DS_WAKE_n_COLLISIONS n) 1
    else s)

/-- SET_PORT_L1: SetAndTestPortFeature(PORT_L1), which the device answers with ACK or not. -/
def execSetPortL1 (h : Hp) (n : Fin 9) (ack : Bool) (s : State) : Res :=
  .next (if n = 8 then
      (if s.mfConnected h && ack && bitAt (s.view h 8).st 1 then (s.modView h 8 (fun v => v.upd 0x20 0 0)).mfSleeps h 5 else s)
    else if s.reaches h n && ack && s.dsState n = Ds.enabled then
      (s.dsTo n Ds.l1).modView h n (fun v => v.upd 0x20 0 0)
    else s)

/-! ### Events of a downstream port (R438 to R444) -/

/-- PORT_CONNECT_DETECT: J or K idle for 2.5 us. A CDP has answered a device's VDP_SRC with VDM_SRC (R441). -/
def execPortConnectDetect (n : Fin 8) (dev : ConnIn) (s : State) : Res :=
  .next (if s.dsState n = Ds.disconnected && s.usbRuns && !s.spreadHold && s.get (F.DS_STATUS_n_CHG n) != 2 then
      let s := s.iff (dev.vdp && s.get (F.DS_STATUS_n_CHG n) == 1) (fun s => s.emit (.usbSignal (4 + n.val) 6))
      let s := (s.dsTo n Ds.disabled).ownView n (if dev.low then 0x201 else 1) (if dev.low then 0x400 else 0x600) 1
      let s := s.put (F.DS_STATUS_n_SPEED n) (if dev.low then 1 else 2)
      s.bump (F.DS_COUNT_n_CONNECTS n) 1
    else s)

/-- PORT_DISCONNECT. -/
def execPortDisconnect (n : Fin 8) (s : State) : Res :=
  .next (if s.usbRuns then s.dsDisconnect n else s)

/-- PORT_RESET_DONE: 12 ms of SE0 have passed; `high` says that the chirp exchange gave high speed. -/
def execPortResetDone (n : Fin 8) (high : Bool) (s : State) : Res :=
  .next (if s.dsState n = Ds.resetting && s.usbRuns then
      let low := s.get (F.DS_STATUS_n_SPEED n) == 1
      let high := high && !low
      let s := (s.dsTo n Ds.enabled).ownView n (if high then 0x402 else 2) 0x410 0x10
      s.put (F.DS_STATUS_n_SPEED n) (if low then 1 else if high then 3 else 2)
    else s)

/-- PORT_RESUME_DONE: 21 ms of K have passed. -/
def execPortResumeDone (n : Fin 8) (s : State) : Res :=
  .next (if s.dsState n = Ds.resuming && s.usbRuns then (s.dsTo n Ds.enabled).ownView n 0 4 4 else s)

/-- PORT_BABBLE: babble or loss of activity. -/
def execPortBabble (n : Fin 8) (s : State) : Res :=
  .next (if s.dsState n = Ds.enabled && s.usbRuns then ((s.dsTo n Ds.disabled).ownView n 0 2 2).dsEvt n 3 else s)

/-- A face drives K upstream for 2 ms for the wake of a port, 8 for its function (R443, R452). -/
def State.faceDrives (s : State) (h n : Nat) : State :=
  ({ s with us := { s.us with driven := vPut s.us.driven h (some (n, s.clock.time + 2000000)) } } : State).emit (.usbSignal h 1)

/-- A remote wake seen on a port is counted and passed on to its owner's face alone: the suspended face drives K if the device's remote
wake is enabled, unless the host's K reached it before, which is a meeting (R443, R444). With no owner the event is set. -/
def State.wakeUp (s : State) (k : WakeIn) : State :=
  let n := k.port.val
  let s := s.bump (F.DS_WAKE_n_REMOTE n) 1
  let o := s.ownerOf (40 + n)
  if !(o < 4) then s.dsEvt n 2
  else if s.get (F.UF_STATUS_STATE o) = 4 && k.enabled then
    if k.met then s.bump (F.DS_WAKE_n_COLLISIONS n) 1
    else if (vAt s.us.driven o).isSome then s else s.faceDrives o n
  else s

/-- DEVICE_REMOTE_WAKE (R442 to R444): the device signals K. A port without owner is DISABLED (R436), and stays so, its wake seen
(DEDUCED, log entry 159). -/
def execDeviceRemoteWake (k : WakeIn) (s : State) : Res :=
  let n := k.port.val
  let st := s.dsState n
  .next (if !s.usbRuns then s
    else if st = Ds.resuming then s.bump (F.DS_WAKE_n_COLLISIONS n) 1
    else if st = Ds.l1 then ((s.dsTo n Ds.enabled).ownView n 0 0x20 0).wakeUp k
    else if st = Ds.suspended then (s.dsTo n Ds.resuming).wakeUp k
    else if st = Ds.disabled && !(s.ownerOf (40 + n) < 4) then s.wakeUp k
    else s)

/-- PWR2GOOD_ELAPSED (R438, R442, R455): the output has been high for PWR2GOOD, or a power cycle has held it low for
that long. -/
def execPwr2goodElapsed (n : Fin 8) (s : State) : Res :=
  .next (if s.flag (F.DS_CTRL_n_POWER_CYCLE n) then (s.put (F.DS_CTRL_n_POWER_CYCLE n) 0).ppc n
    else if s.flag (F.DS_STATUS_n_PPC n) && s.dsState n = Ds.off && s.usbRuns then s.dsTo n Ds.disconnected
    else s)

/-- OVER_CURRENT (R439): DS_n_OC_N has been low for 2 ms. -/
def execOverCurrent (n : Fin 8) (s : State) : Res :=
  .next (if s.get (F.DS_CFG_n_PWR_MODE n) = 2 || s.flag (F.DS_STATUS_n_OC n) || !s.unitRuns 14 then s
    else
      let s := (s.put (F.DS_STATUS_n_OC n) 1).ownView n 8 0x100 8
      let s := { s with us := { s.us with ocWait := vPut s.us.ocWait n (s.get (F.DS_CFG_n_PWR_MODE n) == 1) } }
      ((s.bump (F.DS_COUNT_n_OC n) 1).dsEvt n 0).ppc n)

/-- OVER_CURRENT_CLEAR (R439): DS_n_OC_N has been high for 2 ms. -/
def execOverCurrentClear (n : Fin 8) (s : State) : Res :=
  .next (if s.flag (F.DS_STATUS_n_OC n) then
      ((s.put (F.DS_STATUS_n_OC n) 0).ownView n 0 8 0).ppc n
    else s)

/-- OC_RETRY (R439): in ALWAYS mode power returns 8,000 ticks after the latch cleared. -/
def execOcRetry (n : Fin 8) (s : State) : Res :=
  .next (if vAt s.us.ocWait n && !s.flag (F.DS_STATUS_n_OC n) then
      let s := { s with us := { s.us with ocWait := vPut s.us.ocWait n false } }
      (s.bump (F.DS_COUNT_n_OC n) 1).ppc n
    else s)

/-- The action of DS_CTRL_n.POWER_CYCLE: PPC goes low for PWR2GOOD, then follows R438. -/
def State.powerCycle (s : State) (n : Nat) : State := (s.put (F.DS_CTRL_n_POWER_CYCLE n) 1).ppc n

/-- DS_n changes owner at step 1 (R436): the port is disabled, the old face's transactions on it end, and what no face sees reads 0 in the
view (R435). -/
def State.dsOwnerChanged (s : State) (n old new : Nat) : State :=
  let st := s.dsState n
  let dev := Ds.disabled ≤ st
  let s := (if dev then s.dsTo n Ds.disabled else s).ttClear n
  let s := if old < 4 then s.modView old n (fun v => v.upd 0 0x63F 1) else s
  if new < 4 then
    let low := s.get (F.DS_STATUS_n_SPEED n) == 1
    let on := s.flag (F.DS_STATUS_n_PPC n)
    s.modView new n (fun v =>
      (v.upd ((if on then 0x100 else 0) + (if s.flag (F.DS_STATUS_n_OC n) then 8 else 0)) 0x73F 0).upd (if dev then (if low then 0x201 else 1) else 0) 0 (if dev then 1 else 0))
  else s

/-- Down-spread starts or ends: faces and ports are held disconnected while it applies (R48). -/
def State.usbSpread (s : State) (on : Bool) : State :=
  let s := s.put F.USB_STATUS_SPREAD_HOLD (bit1 on)
  let s := if on then s.each (List.range 8) State.dsDisconnect else s
  s.faces

/-- The down-spread ends: the device leaves BARE, or the service mode of the agent that asked for it ends (R48). -/
def State.spreadEnd (s : State) : State :=
  if s.flag F.REF_CTRL_SSC_DEPTH then
    let s := (s.put F.REF_CTRL_SSC_DEPTH 0).put F.TIME_QUAL_UNTRACEABLE 0
    (s.modClock (fun c => { c with sscBy := none })).usbSpread false
  else s

/-- Service mode of an agent ends, and with it the down-spread that it asked for (R48, R138). -/
def State.serviceEnd (s : State) (a : Nat) : State :=
  (s.modAgent a (fun g => { g with service := false })).iff (s.clock.sscBy == some a) State.spreadEnd

/-! ### Replies, reports and sleep of the function (R449 to R452) -/

/-- EP2_REPLY (R449): the oldest queued reply leaves. -/
def execEp2Reply (h : Hp) (s : State) : Res := .next (s.iff (s.mfReady h) (fun s => s.usbLeaves h))

/-- W0[23:0] and the owned mask of an EP3 report now (R450). -/
def State.ep3Now (s : State) (h : Nat) : Nat × Nat :=
  (s.statusWord h 0 + 2 ^ 16 * s.usbQueued h, s.ownedMask h)

/-- An EP3 report is due (R450). -/
def State.ep3Due (s : State) (h : Nat) : Bool :=
  match (vAt s.us.ep3 h).last with
  | none => true
  | some (w0, own, t) => (w0, own) != s.ep3Now h || decide (t + 8000 ≤ s.tick)

/-- A handshake of the management function of a face. -/
def State.mfSays (s : State) (h code : Nat) : State := s.emit (.usbSignal (12 + h) code)

/-- A report is delivered on an endpoint (R450, R451); its status word is the last one sent to the host (R146). -/
def State.ep3Send (s : State) (h ep : Nat) : State :=
  let (w0, own) := s.ep3Now h
  let c := (vAt s.us.ep3 h).count
  let bytes := wordsBytes ([w32 (w0 + 2 ^ 24 * c), w32 (s.tick % 2 ^ 32)] ++ wordsOfMask own)
  let s := s.emit (.usb h ep bytes)
  let s := { s with us := { s.us with ep3 := vPut s.us.ep3 h ⟨(c + 1) % 256, some (w0, own, s.tick)⟩,
                                      bufs := vMod s.us.bufs h (fun b => if ep = 0 then { b with ep0 := bytes } else { b with ep3 := bytes }) } }
  (s.modAgent h (fun g => { g with lastStatus := w0 % 2 ^ 16 })).statusSent h

/-- EP3_POLL (R450): a report, or NAK, from a configured function. -/
def execEp3Poll (h : Hp) (s : State) : Res :=
  .next (s.iff (s.mfReady h) (fun s => if s.ep3Due h then s.ep3Send h 3 else s.mfSays h 4))

/-- ABORT (R451, R453): a function reset without a reset of port 9. -/
def execMfAbort (h : Hp) (s : State) : Res := .next (if s.mfConnected h then s.mfReset h else s)

/-- LPM_L1_REQUEST (R452): the face answers ACK (code 2) and enters L1, or NYET (code 3); its translators have taken and ended the
transactions of the operand before. -/
def execLpmL1Request (l : LpmIn) (s : State) : Res :=
  let h := l.face.val
  let s := l.splits.foldl (fun s x => s.takeSplit h x) s
  let st := s.get (F.UF_STATUS_STATE h)
  let busy := (List.range 8).any (fun n => s.visible h n && s.flag (F.DS_STATUS_n_TT_BUSY n))
  .next (if !(1 ≤ st && st ≤ 3) then s
    else if s.flag (F.UF_CTRL_LPM_EN h) && (vAt s.usbQ h).isEmpty && !s.ep3Due h && !busy then (s.faceSleeps h 5).emit (.usbSignal h 2)
    else s.emit (.usbSignal h 3))

/-- MF_REMOTE_WAKE (R452): ATTN_F, ATTN_N or OWN_CHG of the agent has risen while the face is suspended or in L1 with
remote wake enabled for the function: resume signalling goes out (code 1). -/
def execMfRemoteWake (h : Hp) (s : State) : Res :=
  let st := s.get (F.UF_STATUS_STATE h)
  .next (if (st = 4 || st = 5) && s.mfConnected h && (vAt s.us.wakeEn h).1 && (s.attnF h || s.attnN h || (s.agent h).ownChg)
        && (vAt s.us.driven h).isNone then s.faceDrives h 8
    else s)

end Sys2Proof.Machine
end

