-- ==== Sys2Proof/Machine/Wadi.lean ====
section
/-! DEFINITION. Machine/Wadi.lean: the field window, field transactions, held frames, the posted-write error log,
reception and the field lines (R456 to R481, R494, R495). -/
namespace Sys2Proof.Machine

/-- Bus `b`. -/
def State.fb (s : State) (b : Nat) : FieldBus := vAt s.wd.buses b
/-- Bus `b` changed. -/
def State.modFb (s : State) (b : Nat) (f : FieldBus → FieldBus) : State :=
  { s with wd := { s.wd with buses := vMod s.wd.buses b f } }

/-! ### Causes (R471) -/

namespace Cause
def nackAddr : Nat := 1
def nackData : Nat := 2
def stuck : Nat := 3
def arbLost : Nat := 4
def keepLost : Nat := 5
def canTimeout : Nat := 6
def busOff : Nat := 7
def stopped : Nat := 8
def holdDup : Nat := 9
def holdDropped : Nat := 10
def notOwner : Nat := 11
def isolated : Nat := 12
end Cause

/-- WD_BUS_EVT bit `i` of a bus (R494). -/
def State.busEvt (s : State) (b i : Nat) : State := s.raise 172 ⟨A.WD_BUS_EVT b, i, 1⟩

/-- WD_BUS_STATUS follows the bus (R495). -/
def State.busRegs (s : State) (b : Nat) : State :=
  let f := s.fb b
  let s := s.put (F.WD_BUS_STATUS_BUSY b) (bit1 f.cur.isSome)
  let s := s.put (F.WD_BUS_STATUS_HELD b) f.held.length
  s.put (F.WD_BUS_STATUS_QUEUED b) (min (f.queue.length + f.launched.length) 255)

/-! ### The posted-write error log (R472) -/

/-- WD_PERR_STAT.COUNT and the oldest entry's words follow the log. -/
def State.perrRegs (s : State) (h : Nat) : State :=
  let l := vAt s.wd.perr h
  let s := s.watching (160 + h) (fun s => s.put (F.WD_PERR_STAT_h_COUNT h) l.length)
  s.each (List.range 4) (fun s i => s.put (F.WD_PERR_E_V h i) (wordAt (l.headD []) i))

/-- A posted field write of a host failed: an entry in its posted-write error log and one in its error ring (R293,
R472). -/
def State.postedFailed (s : State) (a tag addr cause : Nat) : State :=
  let e := [w32 addr, w32 (cause + 256 * (bitsOf addr 25 5) + 8192 * a + 65536 * (tag % 256)),
    w32 (s.clock.time % 2 ^ 32), w32 (s.clock.time / 2 ^ 32)]
  let s := if a < 4 then
      (if (vAt s.wd.perr a).length < 16 then
        ({ s with wd := { s.wd with perr := vMod s.wd.perr a (· ++ [e]) } } : State).perrRegs a
       else s.bump (F.WD_PERR_STAT_h_OVF a) 1)
    else s
  s.logOp a (if cause = Cause.notOwner then R.denied else if cause = Cause.isolated then R.isolated else R.farError) 4 15 addr

/-- WD_PERR_POP.POP: the oldest entry goes (R472). -/
def State.perrPop (s : State) (h : Nat) : State :=
  ({ s with wd := { s.wd with perr := vMod s.wd.perr h (·.drop 1) } } : State).perrRegs h

/-! ### Addresses (R456 to R459) -/

/-- What a field-window ADDRESS asks of a bus. -/
inductive FieldAsk where
  /-- a transfer of CNT bytes: `cs` on SPI, KEEP, write bytes and repeated STARTs on the wire beside the data (I²C) -/
  | xfer (cnt cs : Nat) (keep subEn : Bool)
  /-- a CAN frame, its length in the payload -/
  | can
  /-- a receive pop -/
  | pop
  /-- a word of the field lines -/
  | line (off : Nat)
deriving DecidableEq, Repr

/-- The bus index of an address (R456). -/
def fieldBusOf (addr : Nat) : Nat := bitsOf addr 25 5

/-- The words of the field lines (R460). -/
def lineOffsets : List Nat := [0x000, 0x004, 0x008, 0x010, 0x014, 0x018, 0x020]

/-- The parse of an ADDRESS under R458; none breaks the table. -/
def fieldAsk (addr : Nat) (write : Bool) : Option FieldAsk :=
  let b := fieldBusOf addr
  if addr % 4 ≠ 0 then none
  else if b < 8 then some (.xfer (bitsOf addr 2 6 + 1) 0 (bitAt addr 8) (bitAt addr 17))
  else if b < 12 then
    (if bitsOf addr 14 8 = 0 && bitsOf addr 2 12 < 4092 then
      some (.xfer (bitsOf addr 2 12 + 1) (bitsOf addr 23 2) (bitAt addr 22) false) else none)
  else if b < 16 then
    (if bitsOf addr 2 21 ≠ 0 then none
     else if bitsOf addr 23 2 = 0 && write then some .can
     else if bitsOf addr 23 2 = 1 && !write then some .pop
     else none)
  else if b < 20 then
    (if bitsOf addr 23 2 = 0 && write && bitsOf addr 14 9 = 0 && bitsOf addr 2 12 < 4092 then
      some (.xfer (bitsOf addr 2 12 + 1) 0 false false)
     else if bitsOf addr 23 2 = 1 && !write && bitsOf addr 2 21 = 0 then some .pop
     else none)
  else if b = 31 then
    (let off := bitsOf addr 0 12
     if bitsOf addr 12 13 = 0 && lineOffsets.contains off && !(write && off == 0x20) then some (.line off) else none)
  else none

/-- The data lengths of a CAN frame (R475). -/
def canLens : List Nat := [0, 1, 2, 3, 4, 5, 6, 7, 8, 12, 16, 20, 24, 32, 48, 64]

/-- LEN that R459 asks for. -/
def fieldLenOk (ask : FieldAsk) (len : Nat) (payload : List Word) : Bool :=
  match ask with
  | .xfer cnt _ _ _ => len == ceilDiv cnt 4
  | .can => let n := bitsOf (wordAt payload 1) 0 7
            canLens.contains n && len == 2 + ceilDiv n 4
  | .pop => decide (1 ≤ len) && decide (len ≤ 1023)
  | .line _ => len == 1

/-- Levels written into groups that the agent does not own (R460). -/
def State.lineBarred (s : State) (a off v : Nat) : Bool :=
  (List.range 4).any (fun g => bitsOf v (8 * g) 8 != 0 && !s.owns a ((if off < 0x10 then 28 else 36) + g))

/-- The RESULT that refuses a field command, OK where it is accepted (R22, R123, R456 to R461, R467, R470, R572). -/
def State.fieldJudge (s : State) (a : Nat) (write posted : Bool) (addr len : Nat)
    (payload : List Word) : Nat :=
  let b := fieldBusOf addr
  match fieldAsk addr write with
  | none => R.badAddr
  | some ask =>
    if a = 4 then R.denied
    else if b < 20 && !s.owns a (busRes b) then R.denied
    else if (match ask with | .line off => write && s.lineBarred a off (wordAt payload 0) | _ => false) then R.denied
    else if !fieldLenOk ask len payload then R.badLen
    else if !s.unitRuns 15 then R.isolated
    else if b < 20 && (!s.flag (F.WD_BUS_CTRL_ENABLE b) || !s.inForce) then R.busy
    else if s.flag (F.WD_ARM_h_ARM a) && (!posted || b = 31) then R.denied
    else R.ok

/-! ### Bus time (R480) -/

/-- The bytes of data a transaction moves. -/
def fieldCnt (addr : Nat) (write : Bool) : Nat :=
  match fieldAsk addr write with
  | some (.xfer cnt _ _ _) => cnt
  | _ => 0

/-- The bytes that a write puts on the bus: CNT of them, or a CAN frame's control words and data (R458, R475). -/
def fieldSent (t : FieldTxn) : List Byte :=
  if !t.write then []
  else match fieldAsk t.addr true with
    | some (.xfer cnt _ _ _) => t.bytes.take cnt
    | some .can => t.bytes.take (8 + bitsOf (ofBytesLE ((t.bytes.drop 4).take 4)) 0 7)
    | _ => []

/-- KEEP of a transaction (R465). -/
def fieldKeep (addr : Nat) (write : Bool) : Bool :=
  match fieldAsk addr write with
  | some (.xfer _ _ keep _) => keep
  | _ => false

/-- I²C busy time in ns for B bytes on the wire and R repeated STARTs (R480). -/
def i2cBusy (khz bytes starts : Nat) : Nat :=
  ceilDiv ((9 * bytes + 2 + starts) * 1000000) khz + (if khz ≤ 100 then 4700 else if khz ≤ 400 then 1300 else 500)

/-- Bus-busy time of a transaction in ns, rounded up (R480), with 20 µs for a follower (R466). -/
def State.fieldBusy (s : State) (b addr : Nat) (write : Bool) (bytes : List Byte) : Nat :=
  let w0 := s.get (F.WD_TIMING_W0_V b)
  let w1 := s.get (F.WD_TIMING_W1_V b)
  let cnt := fieldCnt addr write
  let base :=
    if b < 8 then
      let sub := bit1 (bitAt addr 17)
      if write then i2cBusy (bitsOf w0 0 11) (1 + sub + cnt) 0
      else i2cBusy (bitsOf w0 0 11) (1 + 2 * sub + cnt) sub
    else if b < 12 then
      let tsck := 20 * ceilDiv 50000 (bitsOf w0 0 16)
      10 * (bitsOf w1 8 8 + bitsOf w1 16 8 + bitsOf w1 24 8) + 8 * cnt * tsck
    else if b < 16 then
      let c0 := ofBytesLE (bytes.take 4)
      let n := bitsOf (ofBytesLE ((bytes.drop 4).take 4)) 0 7
      let a := if bitAt c0 29 then 36 else 17
      let d := 9 + 8 * n + (if n ≤ 16 then 17 else 21)
      let nom := bitsOf w0 0 16
      let dat := if bitAt c0 30 && bitAt c0 31 && bitsOf w0 16 16 != 0 then bitsOf w0 16 16 else nom
      ceilDiv (1000000 * ((ceilDiv (5 * a) 4 + 13) * dat + ceilDiv (5 * d) 4 * nom)) (nom * dat)
    else
      let bits := 2 + (if bitAt w1 0 then 7 else 8) + (if bitsOf w1 1 2 = 0 then 0 else 1) + bit1 (bitAt w1 3)
      let de := if bitAt w1 4 then bitsOf w1 16 8 + bitsOf w1 24 8 else 0
      ceilDiv ((cnt * bits + de) * 1000000000) (bitsOf w0 0 24)
  base + (if fieldKeep addr write then 20000 else 0)

/-! ### Acceptance (R462 to R468) -/

/-- A posted place of an agent frees (R463). -/
def State.postedDone (s : State) (a : Nat) : State := s.modAgent a (fun g => { g with posted := g.posted - 1 })

/-- A transaction ends without its transfer, with a cause of R471: a posted write is logged and frees its place, a
non-posted one completes with FAR_ERROR and its cause word (R463, R464). -/
def State.fieldFail (s : State) (b : Nat) (t : FieldTxn) (cause done : Nat) : State :=
  let s := s.bump (F.WD_ERR_COUNT_COUNT b) 1
  let s := if cause = Cause.keepLost then (s.busEvt b 5).bump (F.WD_TX_COUNT_COUNT b) 1 else s
  if t.posted then (s.postedFailed t.agent t.tag t.addr cause).postedDone t.agent
  else if t.orphan then s
  else s.complete t.agent t.tag R.farError [w32 (cause + 256 * (done % 65536))]

/-- A transfer begins on a bus (R462, R466): a follower or a released frame is charged to the queue's E when it
starts. -/
def State.fieldBegin (s : State) (b : Nat) (t : FieldTxn) (charge : Bool) : State :=
  let q := 320 + b
  let len := s.fieldBusy b t.addr t.write t.bytes + s.qOverhead q
  let rate := s.qRate q
  let s := if charge && rate != 0 then
      (s.modQueue q (fun e => { e with
        e := max e.e (s.clock.time * 65536 - s.qBurst q * 125000 * 65536 / rate) + len * 125000 * 65536 / rate })).file q
    else s
  let s := s.modFb b (fun f => { f with cur := some t, keep := none })
  (s.emit (.field b t.addr (if t.write then (fieldSent t).length else fieldCnt t.addr false) (fieldSent t))).busRegs b

/-! ### Receive pops (R476) -/

/-- WD_RX_STAT.FILL follows the FIFO (R494). -/
def State.rxFill (s : State) (b : Nat) : State :=
  s.watching (152 + b) (fun s => s.put (F.WD_RX_STAT_FILL b) ((s.fb b).rx.map (·.size)).sum)

/-- The oldest records whose words fit in `room` words, and the rest. -/
def rxTake : List RxRec → Nat → List Word × List RxRec
  | [], _ => ([], [])
  | r :: t, room =>
    if r.words.length ≤ room then
      let p := rxTake t (room - r.words.length)
      (r.words ++ p.1, p.2)
    else ([], r :: t)

/-- A receive pop (R476): the oldest whole records that fit in LEN words. -/
def State.rxPop (s : State) (b len : Nat) : List Word × State :=
  let p := rxTake (s.fb b).rx len
  (p.1, (s.modFb b (fun f => { f with rx := p.2 })).rxFill b)

/-- A transaction is a receive pop (R458). -/
def fieldPop (t : FieldTxn) : Bool :=
  match fieldAsk t.addr t.write with
  | some .pop => true
  | _ => false

/-- A receive pop's turn: it takes no bus time, and its reply carries the records (R462, R476, log entry 89). -/
def State.popDone (s : State) (b : Nat) (t : FieldTxn) : State :=
  match s.openCmd t.agent t.tag with
  | some c =>
    let p := s.rxPop b c.len
    (p.2.bump (F.WD_TX_COUNT_COUNT b) 1).complete t.agent t.tag R.ok p.1
  | none => s

/-- The first transaction of a bus leaves its queue. -/
def State.fieldPopQueue (s : State) (b : Nat) : State := (s.modFb b (fun f => { f with queue := f.queue.drop 1 })).busRegs b

/-- The bus may start transfers (R470, R572). -/
def State.busRuns (s : State) (b : Nat) : Bool := s.flag (F.WD_BUS_CTRL_ENABLE b) && s.unitRuns 15 && s.awake && s.inForce

/-- A transaction of a bus leaves its queue. -/
def State.fieldDrop (s : State) (b id : Nat) : State :=
  (s.modFb b (fun f => { f with queue := f.queue.filter (fun t => t.id != id) })).busRegs b

/-- Start what the bus may start now: the follower of a kept transfer, a released frame, a receive pop whose turn has come, or the item
that Barchan chooses from queue 320 + b (R462, R465, R466, R468). `any` allows Barchan's choice. Followers without their pair end with
KEEP_LOST. -/
def State.fieldStart (s : State) (b : Nat) (any : Bool) : Nat → State
  | 0 => s
  | n + 1 =>
    let f := s.fb b
    if !s.busRuns b || f.cur.isSome then s
    else
      match f.keep, f.launched, f.queue with
      | some k, _, q =>
        match q.find? (fun t => t.follower == some k.id) with
        | none => s
        | some t =>
          if decide (8 ≤ b) && bitsOf t.addr 23 2 != k.cs then
            ((s.fieldDrop b t.id).fieldFail b t Cause.keepLost 0).fieldStart b any n
          else (s.fieldDrop b t.id).fieldBegin b t true
      | none, t :: l, _ => (s.modFb b (fun f => { f with launched := l })).fieldBegin b t true
      | none, [], [] => s
      | none, [], t :: _ =>
        if t.follower.isSome then ((s.fieldPopQueue b).fieldFail b t Cause.keepLost 0).fieldStart b any n
        else if fieldPop t then ((s.fieldPopQueue b).popDone b t).fieldStart b any n
        else if !any then s
        else match s.choose (16 + b) (fun _ => true) with
          | none => s
          | some (q, reserved, s) => ((s.takeHead q reserved).fieldPopQueue b).fieldBegin b t false

/-- Wadi accepts a command for a bus (R462, R463, R465 to R468). A posted write has taken its posted place, and a
non-posted command is open. -/
def State.fieldAccept (s : State) (a tag : Nat) (write posted : Bool) (addr : Nat) (bytes : List Byte) : State :=
  let b := fieldBusOf addr
  let f := s.fb b
  let t : FieldTxn := { id := f.next, agent := a, tag := tag, write := write, posted := posted, addr := addr,
                        bytes := bytes, follower := (f.prevKeep.filter (fun k => k.1 == a)).map (·.2), orphan := false }
  let s := s.modFb b (fun f => { f with next := f.next + 1 })
  if posted && s.flag (F.WD_ARM_h_ARM a) then
    let id := s.get (F.WD_ARM_h_ID a)
    let s := s.put (F.WD_ARM_h_ARM a) 0
    if f.held.length < 8 && !f.held.any (fun e => e.1 == id) then
      (s.modFb b (fun f => { f with held := f.held ++ [(id, { t with follower := none })] })).busRegs b
    else (s.postedFailed a tag addr Cause.holdDup).postedDone a
  else
    let s := s.modFb b (fun f => { f with queue := f.queue ++ [t],
                                          prevKeep := if fieldKeep addr write then some (a, t.id) else none })
    let s := if t.follower.isSome || fieldPop t then s
      else s.enqueue (320 + b) ⟨.field t.id, [], s.fieldBusy b addr write bytes, false, 0⟩
    (s.busRegs b).fieldStart b false 16

/-- FIELD_TRANSACTION_START (R462, R466): an idle bus starts its next transaction. -/
def execFieldTransactionStart (b : Fin 20) (s : State) : Res := .next (s.fieldStart b true 16)

/-- A FIELD_START launch releases a held frame; none where no frame matches (R468). With KEEP, the transaction that its agent has accepted next
follows it (R465, DEDUCED, log entry 161). -/
def State.fieldRelease (s : State) (b id : Nat) : Option State :=
  match (s.fb b).held.find? (fun e => e.1 == id) with
  | none => none
  | some e =>
    let s := s.modFb b (fun f => { f with held := f.held.filter (fun x => x.1 != id), launched := f.launched ++ [e.2],
                                          prevKeep := if fieldKeep e.2.addr e.2.write then some (e.2.agent, e.2.id) else f.prevKeep })
    some ((s.busRegs b).fieldStart b false 16)

/-! ### Ending work (R127, R292, R469, R470, R572) -/

/-- Take transactions out of a bus's queue, and their items out of Barchan's. -/
def State.fieldRemove (s : State) (b : Nat) (p : FieldTxn → Bool) : State :=
  let gone := ((s.fb b).queue.filter p).map (·.id)
  let s := s.modFb b (fun f => { f with queue := f.queue.filter (fun t => !p t) })
  (s.keepItems (320 + b) (fun i =>
    match i.body with
    | .field id => !gone.contains id
    | _ => true)).busRegs b

/-- An open field command was completed before its transfer ended: a transaction not started is dropped, one in progress
finishes and its data is discarded (R127, R292). -/
def State.fieldForget (s : State) (a tag : Nat) : State :=
  s.each (List.range 20) (fun s b =>
    let mine (t : FieldTxn) : Bool := t.agent == a && t.tag == tag && !t.posted && !t.orphan
    let s := if (s.fb b).queue.any mine then s.fieldRemove b mine else s
    s.modFb b (fun f => { f with cur := f.cur.map (fun t => if mine t then { t with orphan := true } else t) }))

/-- Open non-posted commands of an agent on a bus are completed with a RESULT, queued ones and, where `cur`, the one in
progress; `log` enters each in the agent's error log (R292, R470, R572). -/
def State.fieldAbort (s : State) (b : Nat) (p : FieldTxn → Bool) (cur log : Bool) (result : Nat) : State :=
  let f := s.fb b
  let np := (f.queue ++ (if cur then f.cur.toList else [])).filter (fun t => !t.posted && !t.orphan && p t)
  let s := s.fieldRemove b (fun t => !t.posted && p t)
  let s := s.modFb b (fun f => { f with cur := f.cur.map (fun t =>
    if cur && !t.posted && p t then { t with orphan := true } else t) })
  np.foldl (fun s t =>
    let s := if log then s.logOp t.agent result 3 15 t.addr else s
    s.complete t.agent t.tag result []) s

/-- Posted writes and held frames end with a cause of R471. -/
def State.fieldDropPosted (s : State) (b : Nat) (queued : Bool) (cause : Nat) : State :=
  let f := s.fb b
  let gone := (if queued then f.queue.filter (·.posted) ++ f.launched else []) ++ f.held.map (·.2)
  let s := if queued then (s.fieldRemove b (·.posted)).modFb b (fun f => { f with launched := [] }) else s
  let s := s.modFb b (fun f => { f with held := [] })
  (gone.foldl (fun s t => (s.postedFailed t.agent t.tag t.addr cause).postedDone t.agent) s).busRegs b

/-- A bus changed owner (R291, R292, R469): the old owner's non-posted transactions are aborted and its held frames
dropped; its posted writes stay queued ahead of the new owner's work. -/
def State.busOwnerChanged (s : State) (b old : Nat) : State :=
  (s.fieldAbort b (fun t => t.agent == old) true true R.aborted).fieldDropPosted b false Cause.holdDropped

/-- WD_BUS_CTRL.ENABLE cleared (R470). -/
def State.busStop (s : State) (b : Nat) : State :=
  let s := s.put (F.WD_BUS_CTRL_ENABLE b) 0
  ((s.fieldAbort b (fun _ => true) false false R.aborted).fieldDropPosted b true Cause.stopped)

/-- Step 1 of an isolation reset of Wadi (R470, R572). -/
def State.wadiIsolate (s : State) : State :=
  ({ s with wd := { s.wd with mods := Vector.map (fun (m : ModSlot) => { m with waits := [] }) s.wd.mods } } : State).each (List.range 20) (fun s b =>
    let s := (s.fieldAbort b (fun _ => true) true false R.isolated).fieldDropPosted b true Cause.isolated
    let s := match (s.fb b).cur with
      | some t => if t.posted then (s.postedFailed t.agent t.tag t.addr Cause.isolated).postedDone t.agent else s
      | none => s
    (s.modFb b (fun f => { f with cur := none, keep := none, prevKeep := none })).busRegs b)

/-! ### Reception (R474 to R476) -/

/-- A record joins a receive FIFO of `cap` units, or is lost. -/
def State.rxStore (s : State) (b cap : Nat) (r : RxRec) : State :=
  if cap < ((s.fb b).rx.map (·.size)).sum + r.size then (s.bump (F.WD_RX_STAT_LOST b) 1).busEvt b 4
  else (s.modFb b (fun f => { f with rx := f.rx ++ [r] })).rxFill b

/-- A filter of a CAN bus accepts a frame (R474). -/
def State.canMatch (s : State) (b i : Nat) (w0 : Nat) : Bool :=
  let m := s.get (F.WD_CAN_MASK_i_MASK b i)
  s.flag (F.WD_CAN_FILT_i_EN b i) && (bitAt w0 29 == s.flag (F.WD_CAN_FILT_i_IDE b i))
    && (bitsOf w0 0 29 &&& m) == (s.get (F.WD_CAN_FILT_i_ID b i) &&& m)

/-- Bytes padded with zeros to whole words. -/
def padWords (bs : List Byte) : List Word := bytesWords (bs ++ List.replicate ((4 - bs.length % 4) % 4) 0)

/-- CAN_FRAME_RECEIVE (R474, R475): `w0` and `w1` are words of the record, `data` the frame's bytes. -/
def execCanFrameReceive (c : Fin 4) (w0 w1 : Word) (data : RxIn) (s : State) : Res :=
  let b := 12 + c.val
  let open_ := !(List.range 8).any (fun i => s.flag (F.WD_CAN_FILT_i_EN b i))
  let n := bitsOf w1.toNat 0 7
  .next (if !s.busRuns b || !(open_ || (List.range 8).any (fun i => s.canMatch b i w0.toNat)) then s
    else
      let bs := (data.bytes ++ List.replicate n 0).take n
      s.rxStore b 64 ⟨[w0, w1, w32 (data.start % 2 ^ 32), w32 (data.start / 2 ^ 32)] ++ padWords bs, 1, s.clock.time⟩)

/-- UART_RECORD_CLOSE (R474, R475): 1 to 64 bytes; `errors` is PARITY_ERR, FRAMING_ERR, BREAK and OVERRUN. -/
def execUartRecordClose (u : Fin 4) (bytes : RxIn) (errors : BitVec 4) (s : State) : Res :=
  let b := 16 + u.val
  let bs := bytes.bytes.take 64
  .next (if !s.busRuns b || bs.isEmpty then s
    else s.rxStore b 1024 ⟨[w32 (bs.length + 65536 * errors.toNat), w32 (bytes.start % 2 ^ 32),
      w32 (bytes.start / 2 ^ 32)] ++ padWords bs, bs.length, s.clock.time⟩)

/-- Send records in KIND 2 packets of up to 1,024 bytes on a FIELD tunnel, at most `n` packets (R267, R476). -/
def State.rxSend (s : State) (h tun b : Nat) : Nat → State
  | 0 => s
  | n + 1 =>
    if (s.fb b).rx.isEmpty then s
    else
      let p := s.rxPop b 256
      (p.2.queueUp h tun (b + 2 ^ 5 * 2) true none (wordsBytes p.1)).rxSend h tun b n

/-- FIELD_RX_DELIVERY (R476): at WATERMARK, or FLUSH slots after the oldest record arrived, the records go to the owner
on its lowest FIELD tunnel that allows UP. -/
def execFieldRxDelivery (b : Fin 20) (s : State) : Res :=
  let h := s.ownerOf (busRes b)
  .next (match (s.fb b).rx with
    | [] => s
    | r :: _ =>
      if s.flag (F.WD_RX_CTRL_DELIVERY b) || !(h < 4) || !s.linkUp h || !s.busRuns b then s
      else match s.findTun h 4 (s.tunUp h) with
        | none => s
        | some n =>
          let s := if s.get (F.WD_RX_CTRL_WATERMARK b) ≤ s.get (F.WD_RX_STAT_FILL b) then s
            else s.advanceTo (r.at_ + 125 * s.get (F.WD_RX_CTRL_FLUSH b))
          s.rxSend h n b 64)

/-- CAN_STATE_CHANGE (R495): 0 error-active, 1 error-passive, 2 bus-off. -/
def execCanStateChange (c : Fin 4) (st : Fin 3) (s : State) : Res :=
  let b := 12 + c.val
  let old := s.get (F.WD_BUS_STATUS_CAN_STATE b)
  .next (if old = st.val || !s.unitRuns 15 then s
    else
      let s := s.put (F.WD_BUS_STATUS_CAN_STATE b) st.val
      if st.val = 1 then s.busEvt b 3 else if st.val = 2 then s.busEvt b 2 else s)

/-! ### Field lines (R336, R460) -/

/-- GP_n is an output, and it is open drain (R661). -/
def State.gpOut (s : State) (n : Nat) : Bool := s.inForce && bitAt (s.imgWord 0x0D 0 1) n
def State.gpOd (s : State) (n : Nat) : Bool := bitAt (s.imgWord 0x0D 0 2) n

/-- Levels at the balls: outputs as driven; the level of an input ball, or of a released open-drain ball, is set outside
the hub and is a free value (log entry 10). -/
def State.lineRead (s : State) (off : Nat) : Nat :=
  let ext := s.freeVal 32
  if off < 0x10 then maskOf 32 (fun n => if s.llIsOutput n then bitAt s.settleLines.sr.lines n else bitAt ext n)
  else if off < 0x20 then
    maskOf 32 (fun n => if s.gpOut n && !(s.gpOd n && bitAt s.wd.gp n) then bitAt s.wd.gp n else bitAt ext n)
  else ext

/-- A field-line write takes its effect on the lines of the groups the agent owns that PIN_FUNCTIONS makes outputs; a
launch edge in the same TIME-domain cycle stands, and an edge of a later cycle comes after it (R336, R460). -/
def State.lineWrite (s : State) (a off v : Nat) : State :=
  let ll := decide (off < 0x10)
  s.settleLines.each (List.range 32) (fun s n =>
    let mine := s.owns a ((if ll then 28 else 36) + n / 8)
    let out := if ll then s.llIsOutput n else s.gpOut n
    let touch := off % 0x10 == 0 || bitAt v n
    let level := if off % 0x10 = 0 then bitAt v n else off % 0x10 == 4
    let edge := ll && (match vAt s.sr.lastEdge n with
      | some (_, t) => t / 4 == s.clock.time / 4
      | none => false)
    if !mine || !out || !touch || edge then s
    else
      let w := if ll then s.sr.lines else s.wd.gp
      let w' := (w &&& (2 ^ 32 - 1 - 2 ^ n)) + (if level then 2 ^ n else 0)
      if w' = w then s
      else if ll then ({ s with sr := { s.sr with lines := w' } } : State).emit (.line n level s.clock.time)
      else ({ s with wd := { s.wd with gp := w' } } : State).emit (.line (32 + n) level s.clock.time))

end Sys2Proof.Machine
end

