-- ==== Sys2Proof/Machine/TypeC.lean ====
section
/-! DEFINITION. Machine/TypeC.lean: the Type-C ports and their power-delivery policy engines (R496 to R532). The
layouts of PD messages, data objects and structured VDMs are those of PD 3.1 (PRESUMED, log entry 16). -/
namespace Sys2Proof.Machine

def State.tcp (s : State) (p : Nat) : TcPort := vAt s.tc p
def State.modTc (s : State) (p : Nat) (f : TcPort → TcPort) : State := { s with tc := vMod s.tc p f }

/-! STATE codes of TC_STATUS (R531). -/
namespace Tc
def unattached : Nat := 0
def waitSrc : Nat := 1
def waitSnk : Nat := 2
def trySrc : Nat := 3
def src : Nat := 4
def snk : Nat := 5
def audio : Nat := 6
def debug : Nat := 7
def recovery : Nat := 8
def disabled : Nat := 9
end Tc

/-- STATE of a port. -/
def State.tcState (s : State) (p : Nat) : Nat := s.get (F.TC_STATUS_STATE p)
/-- A port takes a state. -/
def State.tcTo (s : State) (p st : Nat) : State := s.put (F.TC_STATUS_STATE p) st
/-- A port is attached as source or sink, where PD runs. -/
def State.tcAttached (s : State) (p : Nat) : Bool := s.tcState p == Tc.src || s.tcState p == Tc.snk
/-- Bit `i` of TC_EVT (R530). -/
def State.tcEvt (s : State) (p i : Nat) : State := s.raise (240 + 2 * p) ⟨A.TC_EVT p, i, 1⟩
/-- Bit `i` of TC_FLT (R530). -/
def State.tcFlt (s : State) (p i : Nat) : State := s.raise (241 + 2 * p) ⟨A.TC_FLT p, i, 1⟩
/-- CONFIG of PD_CAPS (R514). -/
def State.tcConfig (s : State) (p : Nat) : Nat := s.get (F.TC_CFG_w_V p 0)
/-- TC_MODE: 0 sink, 1 source, 2 DRP. -/
def State.tcMode (s : State) (p : Nat) : Nat := bitsOf (s.tcConfig p) 0 2
/-- Source object `i` of PD_CAPS. -/
def State.srcObj (s : State) (p i : Nat) : Nat := s.get (F.TC_CFG_w_V p (3 + i))
/-- Sink object `i` of PD_CAPS. -/
def State.snkObj (s : State) (p i : Nat) : Nat := s.get (F.TC_CFG_w_V p (14 + i))
/-- The hub is source on the port. -/
def State.isSrc (s : State) (p : Nat) : Bool := s.flag (F.TC_STATUS_PR p)
/-- An explicit contract is in force. -/
def State.hasContract (s : State) (p : Nat) : Bool := s.flag (F.TC_STATUS_CONTRACT p)

/-- A role bit (PR, DR or VCONN) takes a value; a change sets ROLE_CHG (R531). -/
def State.setRole (s : State) (p : Nat) (f : FRef) (v : Bool) : State :=
  if s.get f = bit1 v then s else (s.put f (bit1 v)).tcEvt p 2

/-! ### Messages (R507) -/

/-- A PD message leaves: ordered set `sop`, message type, extended or not, data objects. In BIST test data mode none does (R507). -/
def State.pdSend (s : State) (p sop ty : Nat) (ext : Bool) (objs : List Word) : State :=
  let t := s.tcp p
  let hdr := ty % 32 + 32 * s.get (F.TC_STATUS_DR p) + 64 * (if t.rev2 then 1 else 2) + 256 * s.get (F.TC_STATUS_PR p) + 512 * (t.msgId % 8)
    + 4096 * (objs.length % 8) + 32768 * bit1 ext
  if t.bist then s else (s.modTc p (fun t => { t with msgId := (t.msgId + 1) % 8 })).emit (.pd p sop hdr objs)

/-- Chunk `k` of an extended message of type `ty`: the extended header and up to 26 bytes (R507; layout PRESUMED, log entry 16). -/
def State.pdChunk (s : State) (p ty : Nat) (bytes : List Byte) (k : Nat) : State :=
  s.pdSend p 0 ty true (padWords ((wordBytes (w32 (bytes.length % 512 + 2 ^ 11 * (k % 16) + 2 ^ 15))).take 2 ++ (bytes.drop (26 * k)).take 26))

/-- An extended message leaves in chunks: the first at once, each other when the partner asks for it. -/
def State.pdExt (s : State) (p ty : Nat) (bytes : List Byte) : State :=
  (s.modTc p (fun t => { t with chunk := if 26 < bytes.length then some (ty, bytes) else none })).pdChunk p ty bytes 0

/-- The hub asks for the chunks after the first of an extended message of `n` bytes that comes in. -/
def State.pdChunkAsk (s : State) (p ty n : Nat) : State :=
  s.each (List.range ((n + 25) / 26 - 1)) (fun s k => s.pdSend p 0 ty true [w32 (2 ^ 10 + 2 ^ 11 * (k + 1) + 2 ^ 15)])

/-- A control message on SOP. -/
def State.pdCtl (s : State) (p ty : Nat) : State := s.pdSend p 0 ty false []

namespace Msg
def accept : Nat := 3
def reject : Nat := 4
def psRdy : Nat := 6
def getSinkCap : Nat := 8
def drSwap : Nat := 9
def prSwap : Nat := 10
def vconnSwap : Nat := 11
def wait : Nat := 12
def softReset : Nat := 13
def notSupported : Nat := 16
def frSwap : Nat := 19
def sourceCaps : Nat := 1
def request : Nat := 2
def sinkCaps : Nat := 4
def alert : Nat := 6
def eprRequest : Nat := 9
def eprMode : Nat := 10
def vdm : Nat := 15
def sourceCapsExt : Nat := 1
def status : Nat := 2
def ppsStatus : Nat := 12
def sinkCapsExt : Nat := 15
def extControl : Nat := 16
def eprSourceCaps : Nat := 17
def eprSinkCaps : Nat := 18
end Msg

/-- The port waits for something. -/
def State.pdAwait (s : State) (p : Nat) (w : PdWait) : State := s.modTc p (fun t => { t with wait := w })

/-- An awaited answer came: the first exchange after a Soft Reset has been answered (R522). -/
def State.pdAnswered (s : State) (p : Nat) : State :=
  s.modTc p (fun t => { t with wait := .nothing, soft := if t.soft = 2 then 0 else t.soft })

/-! ### Power data objects (R514) -/

/-- Kind of an object: 0 Fixed, 1 SPR PPS, 2 EPR AVS, 3 anything else. -/
def pdoKind (o : Nat) : Nat :=
  if o / 2 ^ 30 = 0 then 0 else if o / 2 ^ 30 = 3 then (if bitsOf o 28 2 = 0 then 1 else if bitsOf o 28 2 = 1 then 2 else 3) else 3

/-- Voltage of a Fixed object in 50 mV units. -/
def fixedV (o : Nat) : Nat := bitsOf o 10 10
/-- Current of a Fixed object in 10 mA units. -/
def fixedI (o : Nat) : Nat := bitsOf o 0 10
/-- Greatest voltage of an APDO in 100 mV units. -/
def apdoMax (o : Nat) : Nat := if pdoKind o = 1 then bitsOf o 17 8 else bitsOf o 17 9
/-- Least voltage of an APDO in 100 mV units. -/
def apdoMin (o : Nat) : Nat := bitsOf o 8 8

/-- The cable's current limit in 10 mA units, and its voltage limit in 50 mV units (R510, R511). -/
def State.cableI (s : State) (p : Nat) : Nat := if s.flag (F.PD_CABLE_LIM_I5A p) then 500 else 300
def State.cableV (s : State) (p : Nat) : Nat := if s.flag (F.PD_CABLE_LIM_V50 p) then 1000 else 400

/-- Greatest power of an object in 0.5 mW units (50 mV times 10 mA). -/
def pdoPower (o : Nat) : Nat :=
  match pdoKind o with
  | 0 => fixedV o * fixedI o
  | 1 => 2 * apdoMax o * (5 * bitsOf o 0 7)
  | 2 => bitsOf o 0 8 * 2000
  | _ => 0

/-- A source object capped by the cable: none where the cable bars its voltage (R511, R516). Of an AVS object, which states a power, the
power at its highest voltage is capped. -/
def State.capObj (s : State) (p o : Nat) : Option Nat :=
  let i := s.cableI p
  let v := s.cableV p
  match pdoKind o with
  | 0 => if fixedV o ≤ v then some (withBits o 0 10 (min (fixedI o) i)) else none
  | 1 => if 2 * apdoMin o ≤ v then
      some (withBits (withBits o 17 8 (min (apdoMax o) (v / 2))) 0 7 (min (bitsOf o 0 7) (i / 5))) else none
  | 2 => if 2 * apdoMin o ≤ v then
      (let hi := min (apdoMax o) (v / 2)
       some (withBits (withBits o 17 9 hi) 0 8 (min (bitsOf o 0 8) (hi * i / 1000)))) else none
  | _ => none

/-- The source objects the hub offers: SPR slots 0 to 6 without gaps, and in EPR mode the EPR slots from position 8 on
(R514, R516). -/
def State.srcOffer (s : State) (p : Nat) : List Word :=
  let cap := bitsOf (s.get (F.TC_CFG_w_V p 2)) 0 8 * 2000
  let pick (l : List Nat) : List Word := l.filterMap (fun i =>
    if s.srcObj p i = 0 then none
    else (s.capObj p (s.srcObj p i)).bind (fun o => if cap < pdoPower o then none else some (w32 o)))
  let spr := pick (List.range 7)
  if s.flag (F.TC_STATUS_EPR p) then
    let epr := pick [7, 8, 9, 10]
    spr ++ List.replicate (7 - spr.length) 0 ++ epr
  else spr

/-- Send the source capabilities and await a Request (R516). -/
def State.sendCaps (s : State) (p : Nat) : State :=
  let l := s.srcOffer p
  let s := if s.flag (F.TC_STATUS_EPR p) then s.pdExt p Msg.eprSourceCaps (wordsBytes l)
    else s.pdSend p 0 Msg.sourceCaps false l
  s.modTc p (fun t => { t with offered := l, wait := .request })

/-- A request for object `pos` (from 1) of partner objects, as power, order, RDO fields and contract: kind, volts in
20 mV, current in 10 mA. -/
structure PdPick where
  power : Nat
  rdo : Nat
deriving DecidableEq, Repr

/-- The better of two requests: the greater power, the earlier at equal power. -/
def betterPick (b : Option PdPick) (k : PdPick) : Option PdPick :=
  match b with
  | none => some k
  | some x => some (if x.power < k.power then k else x)

/-- What the hub would ask of one partner object: matched with its sink objects and capped by the cable, at the greatest power (R516). -/
def State.pickObj (s : State) (p pos o : Nat) : Option PdPick :=
  let i := s.cableI p
  let v := s.cableV p
  let k := pdoKind o
  ((List.range 11).filterMap (fun n =>
    let m := s.snkObj p n
    if m = 0 || o = 0 || pdoKind m ≠ k then none
    else if k = 0 then
      (if fixedV m = fixedV o && fixedV o ≤ v then
        let c := min (min (fixedI o) (fixedI m)) i
        some ⟨fixedV o * c, pos * 2 ^ 28 + c * 1024 + c⟩
       else none)
    else if k = 1 then
      (let hi := min (min (apdoMax o) (apdoMax m)) (v / 2)
       let c := min (min (bitsOf o 0 7) (bitsOf m 0 7)) (i / 5)
       if max (apdoMin o) (apdoMin m) ≤ hi then some ⟨2 * hi * (5 * c), pos * 2 ^ 28 + hi * 5 * 512 + c⟩ else none)
    else if k = 2 then
      (let hi := min (min (apdoMax o) (apdoMax m)) (v / 2)
       let w := min (bitsOf o 0 8) (bitsOf m 0 8)
       if max (apdoMin o) (apdoMin m) ≤ hi && hi ≠ 0 then
         let c := min (w * 200 / hi) (i / 5)
         some ⟨2 * hi * (5 * c), pos * 2 ^ 28 + hi * 4 * 512 + c⟩
       else none)
    else none)).foldl betterPick none

/-- The Request of the hub as sink: greatest power, Fixed before PPS and AVS at equal power; vSafe5V with Capability
Mismatch where nothing reaches SNK_MIN (R516). -/
def State.sinkRdo (s : State) (p : Nat) (objs : List Word) : Nat :=
  let all := (List.range objs.length).filterMap (fun n =>
    (s.pickObj p (n + 1) (wordAt objs n)).map (fun k => (pdoKind (wordAt objs n) != 0, k)))
  let best := all.foldl (fun (b : Option (Bool × PdPick)) k =>
    match b with
    | none => some k
    | some x => if x.2.power < k.2.power || (x.2.power == k.2.power && x.1 && !k.1) then some k else b) none
  let least := bitsOf (s.get (F.TC_CFG_w_V p 2)) 8 8 * 2000
  let flags := 2 ^ 25 + (if (List.range 4).any (fun i => s.snkObj p (7 + i) != 0) then 2 ^ 22 else 0)
  let c := min (min (fixedI (wordAt objs 0)) (fixedI (s.snkObj p 0))) (s.cableI p)
  let safe := 2 ^ 28 + 2 ^ 26 + flags + c * 1024 + c
  match best with
  | some k => if least ≤ k.2.power then k.2.rdo + flags else safe
  | none => safe

/-- The partner's capability objects. -/
def State.partner (s : State) (p : Nat) : List Word := (List.range 11).map (fun i => w32 (s.get (F.PD_PARTNER_i_V p i)))

/-- Send a Request, or in EPR mode an EPR_Request with a copy of the object (R516). -/
def State.sendRequest (s : State) (p rdo : Nat) : State :=
  let s := s.put (F.PD_RDO_V p) rdo
  let s := if s.flag (F.TC_STATUS_EPR p) then
      s.pdSend p 0 Msg.eprRequest false [w32 rdo, (s.partner p).getD (rdo / 2 ^ 28 - 1) 0]
    else s.pdSend p 0 Msg.request false [w32 rdo]
  s.modTc p (fun t => { t with wait := .accept, reqTick := s.rails.hamada })

/-! ### System input and power switches (R498, R499) -/

/-- A port may be the system input: SINK_GATE_EN, and an explicit contract as sink whose VBUS has not collapsed, or a fast
role swap that took the port from source to sink (R498, R520, R526). -/
def State.inputOk (s : State) (p : Nat) : Bool :=
  let t := s.tcp p
  bitAt (s.tcConfig p) 10
    && ((s.hasContract p && !s.isSrc p && s.tcState p == Tc.snk && !t.frs && !t.lost) || (t.frs && !t.srcEn))

/-- The system input that R498 names: 0 LOCAL, 1 to 4 ports, 7 none. -/
def State.inputOf (s : State) : Nat :=
  if s.flag F.TC_PWR_LOCAL_OK then 0
  else match [0, 1, 2, 3].findSome? (fun r => firstIx 4 (fun p => s.inputOk p && bitsOf (s.tcConfig p) 11 2 == r)) with
    | some p => p + 1
    | none => 7

/-- The sink switches follow the system input; TC_p_SNK_EN closes directly at 9 V or more, and at less only through the
boost stage where it is fitted (R498, R499). -/
def State.sysInput (s : State) : State :=
  let n := s.inputOf
  let s := s.put F.TC_PWR_SYS_INPUT n
  s.each (List.range 4) (fun s p =>
    let on := n == p + 1
    let s := s.put (F.TC_STATUS_SYS_INPUT p) (bit1 on)
    let high := s.hasContract p && !(s.tcp p).frs && decide (450 ≤ s.get (F.PD_CONTRACT_VOLT p))
    let fit := bitAt (s.tcConfig p) 13
    s.modTc p (fun t => { t with snkEn := on && (high || fit), boostEn := on && !high && fit }))

/-! ### Contracts -/

/-- No contract is in force. -/
def State.noContract (s : State) (p : Nat) : State :=
  let had := s.hasContract p
  let s := s.put (F.TC_STATUS_CONTRACT p) 0
  let s := (s.put (F.PD_CONTRACT_VOLT p) 0).put (F.PD_CONTRACT_CUR p) 0
  let s := (s.put (F.PD_CONTRACT_TYPE p) 3).put (F.PD_CONTRACT_OBJ p) 0
  let s := s.put (F.TC_STATUS_EPR p) 0
  if had then s.tcEvt p 1 else s

/-- The exchanges that follow the first contract of an attach (R509, R517, R519, R520). The partner's Sink_Capabilities tell a source
whether it is dual-role, and either end its Fast Role Swap field. -/
def State.firstActs (s : State) (p : Nat) : List PdAct :=
  let c := s.tcConfig p
  let src := s.isSrc p
  let swap := bitAt c 4 && (bitAt c 3 != src) && !(s.tcp p).autoTried
  (if src && s.flag (F.TC_STATUS_DR p) then [PdAct.dr] else []) ++ [PdAct.cable]
    ++ (if (src && (bitAt c 8 || swap)) || (!src && (s.tcp p).dual) then [PdAct.sinkCaps] else [])
    ++ (if swap then [PdAct.pr true] else [])

/-- The object that a Request names, among a list. -/
def askedObj (objs : List Word) (rdo : Nat) : Nat := if rdo / 2 ^ 28 = 0 then 0 else wordAt objs (rdo / 2 ^ 28 - 1)

/-- As sink with a contract, the hub is to enter EPR mode once both ends and the cable allow it (R516). -/
def State.eprTry (s : State) (p : Nat) : State :=
  let t := s.tcp p
  if s.hasContract p && !s.isSrc p && !s.flag (F.TC_STATUS_EPR p) && !t.rev2 && bitAt (s.get (F.PD_PARTNER_i_V p 0)) 23
      && s.flag (F.PD_CABLE_LIM_V50 p) && (List.range 4).any (fun i => s.snkObj p (7 + i) != 0)
      && !t.todo.contains .epr && t.wait != .epr then
    s.modTc p (fun t => { t with todo := t.todo ++ [.epr] })
  else s

/-- A contract is in force on the object that a Request names; the escalation count clears (R516, R522). After a Hard Reset
the hub regains UFP and DEF_PR (R527). -/
def State.contract (s : State) (p rdo o : Nat) : State :=
  let k := pdoKind o
  let volt := if k = 0 then fixedV o * 5 / 2 else if k = 1 then bitsOf rdo 9 12 else bitsOf rdo 9 12 * 5 / 4
  let cur := if k = 0 then bitsOf rdo 10 10 else bitsOf rdo 0 7 * 5
  let s := s.put (F.TC_STATUS_CONTRACT p) 1
  let s := (s.put (F.PD_CONTRACT_VOLT p) volt).put (F.PD_CONTRACT_CUR p) (min cur 1023)
  let s := (s.put (F.PD_CONTRACT_TYPE p) k).put (F.PD_CONTRACT_OBJ p) (rdo / 2 ^ 28)
  let s := s.tcEvt p 1
  let acts := (s.firstActs p).filter (fun a => !(s.tcp p).first || ((s.tcp p).hard && a != .cable && a != .sinkCaps))
  let s := s.modTc p (fun t => { t with
    wait := .nothing, soft := 0, hard := false, hardFails := 0, trans := none, frs := false, lost := false, first := true,
    todo := t.todo ++ acts })
  s.eprTry p

/-! ### Attach and detach (R500 to R504) -/

/-- Rp that the port presents as source: under a contract at Specification Revision 3.x the 3.0 A value while the sink may send and the 1.5 A
value while the hub's own exchange runs, else the value of the first source object's current (R502). -/
def State.rpSource (s : State) (p : Nat) : Nat :=
  if s.hasContract p && !(s.tcp p).rev2 then (if (s.tcp p).wait = .nothing then 3 else 2)
  else
    let i := fixedI (s.srcObj p 0)
    if 300 ≤ i then 3 else if 150 ≤ i then 2 else 1

/-- TC_STATUS.RP follows the port: what it presents, none where it presents Rd or nothing; as sink the level seen (R502, R503, R531). -/
def State.rpFollow (s : State) (p : Nat) : State :=
  let st := s.tcState p
  if st = Tc.snk then s.put (F.TC_STATUS_RP p) (if s.isSrc p then s.rpSource p else (s.tcp p).seen)
  else s.put (F.TC_STATUS_RP p)
    (if st = Tc.debug then 1
     else if st = Tc.src || st = Tc.waitSrc || st = Tc.trySrc || st = Tc.audio || (st = Tc.unattached && (s.tcp p).rp) then s.rpSource p
     else 0)

/-- An attached state is entered from another state; each entry counts (R500). -/
def State.tcEnter (s : State) (p st : Nat) : State :=
  if s.tcState p = st then s else (s.tcTo p st).bump (F.TC_COUNT_ATTACHES p) 1

/-- The port may source VBUS: it is not wet (R506). -/
def State.dryPort (s : State) (p : Nat) : Bool := !s.flag (F.TC_STATUS_WET p)

/-- The Caravan mode is left: the link goes to OFF (R513); while attach is still reported it enters DETECT (R248), and
MAX_GEAR's lowering and the count of REF failures stay until detach. -/
def State.modeExit (s : State) (p : Nat) : State :=
  let s := (s.put (F.TC_STATUS_CARAVAN p) 0).modLink p (fun l => { l with entered := false })
  let on := s.cvState p != L.off
  let s := s.iff on (fun s => s.linkOff p)
  if !s.tcAttached p then s.modLink p (fun l => { l with refFails := 0, gearCap := 3 })
  else if on && s.flag (F.CV_CTRL_ENABLE p) && s.flag (F.LG_CTRL_ENABLE p) && s.unitRuns p then s.linkDetect p
  else s

/-- An attach is reported: the logical pairs take their numbers, and an enabled link enters DETECT (R173, R248, R501). -/
def State.cvAttach (s : State) (p : Nat) : State :=
  let o := s.flag (F.TC_STATUS_ORIENT p)
  let s := s.each (List.range 4) (fun s b => s.put (F.LN_STATUS_LOGICAL p b) (if o then (b + 2) % 4 else b))
  if s.flag (F.CV_CTRL_ENABLE p) && s.flag (F.LG_CTRL_ENABLE p) && s.unitRuns p && s.tcAttached p && s.cvState p = L.off then
    s.linkDetect p
  else s

/-- What ends with an attach: contract, roles, VCONN, mode, cable limits, everything awaited. -/
def State.tcClear (s : State) (p : Nat) : State :=
  let s := s.noContract p
  let s := s.setRole p (F.TC_STATUS_PR p) false
  let s := s.setRole p (F.TC_STATUS_DR p) false
  let s := s.setRole p (F.TC_STATUS_VCONN p) false
  let s := (s.put (F.TC_STATUS_FRS_ARMED p) 0).put (F.TC_STATUS_RP p) 0
  let s := s.setReg (A.PD_CABLE_LIM p) 4
  let s := s.setReg (A.PD_CABLE_VDO p) 0
  let s := s.put (F.CV_STATUS_CABLE_CLASS p) 0
  let s := s.each (List.range 11) (fun s i => s.put (F.PD_PARTNER_i_V p i) 0)
  let s := s.modTc p (fun t => { tcPort0 with rp := t.rp, dry := t.dry })
  let s := (s.put (F.TC_CTRL_SWAP_PR p) 0).put (F.TC_CTRL_SWAP_DR p) 0
  let s := (s.put (F.TC_CTRL_SWAP_VCONN p) 0).put (F.TC_CTRL_SOFT_RESET p) 0
  s.modeExit p

/-- A port leaves an attached or waiting state for `st` (R500): switches open, VBUS is discharged; without its debug
accessory the host's service mode and nonce end (R135, R138). -/
def State.tcLeave (s : State) (p st : Nat) : State :=
  let was := s.tcAttached p || s.tcState p == Tc.audio || s.tcState p == Tc.debug
  let s := if s.tcState p = Tc.debug then (s.serviceEnd p).modAgent p (fun g => { g with nonce := none }) else s
  let s := s.tcTo p st
  let s := s.modTc p (fun t => { t with rp := s.tcMode p == 1 })
  let s := s.tcClear p
  let s := if was then s.tcEvt p 0 else s
  (s.rpFollow p).sysInput.faces

/-- Entry to ATTACHED_SRC: VBUS at 5 V, VCONN where Ra is found, capabilities sent (R500, R502, R504). -/
def State.attachSrc (s : State) (p : Nat) (cc2 : Bool) : State :=
  let ra := (if cc2 then (s.tcp p).cc.1 else (s.tcp p).cc.2) == 1
  let s := s.tcEnter p Tc.src
  let s := s.put (F.TC_STATUS_ORIENT p) (bit1 cc2)
  let s := s.setRole p (F.TC_STATUS_PR p) true
  let s := s.setRole p (F.TC_STATUS_DR p) true
  let s := s.setRole p (F.TC_STATUS_VCONN p) ra
  let s := s.modTc p (fun t => { t with srcEn := true, attachPr := true })
  let s := ((s.tcEvt p 0).cvAttach p).sendCaps p
  s.faces

/-- Entry to ATTACHED_SNK (R500). -/
def State.attachSnk (s : State) (p : Nat) : State :=
  let s := s.tcEnter p Tc.snk
  let s := s.setRole p (F.TC_STATUS_PR p) false
  let s := s.setRole p (F.TC_STATUS_DR p) false
  let s := s.modTc p (fun t => { t with attachPr := false, wait := .caps })
  ((s.tcEvt p 0).cvAttach p).faces

/-! ### Resets (R522, R523, R527) -/

/-- Hard Reset sent or received: VBUS to vSafe0V and back, every mode exited, no contract; the data role returns to the
default of the power role, and a PR_Swap, DR_Swap or FR_Swap in progress returns the power role to that of attach; an attempt of R517 that
no Reject or Wait has ended is made again (R523, R527). -/
def State.hardReset (s : State) (p : Nat) (send : Bool) : State :=
  let t := s.tcp p
  let swap := match t.wait with
    | .swap k => k != 2
    | .swapRdy k => k != 2
    | _ => t.frs && t.srcEn
  let s := if send then s.emit (.pd p 2 0 []) else s
  let s := (s.bump (F.TC_COUNT_HARD_RESETS p) 1).tcFlt p 5
  let s := s.noContract p
  let s := if swap then s.setRole p (F.TC_STATUS_PR p) t.attachPr else s
  let src := s.isSrc p
  let s := s.tcEnter p (if src then Tc.src else Tc.snk)
  let s := s.setRole p (F.TC_STATUS_DR p) src
  let s := s.modeExit p
  let s := s.modTc p (fun t => { t with wait := if src then .nothing else .caps, todo := [], retry := none, trans := none,
                                        soft := 0, hard := true, srcEn := src && s.dryPort p, frs := false, lost := false,
                                        autoTried := t.autoOver, bist := false, chunk := none, msgId := 0 })
  let s := if src then s.sendCaps p else s
  s.sysInput.faces

/-- Soft Reset sent: the protocol layer is reset and no mode is left (R513, R522). -/
def State.softReset (s : State) (p : Nat) : State :=
  let s := s.modTc p (fun t => { t with msgId := 0 })
  let s := s.pdCtl p Msg.softReset
  let s := s.bump (F.TC_COUNT2_SOFT_RESETS p) 1
  s.modTc p (fun t => { t with wait := .soft, soft := 1, trans := none })

/-- ERROR_RECOVERY (R500, R522). -/
def State.errorRecovery (s : State) (p : Nat) : State :=
  let s := (s.bump (F.TC_COUNT2_ERR_RECOVERIES p) 1).tcFlt p 1
  s.tcLeave p Tc.recovery

/-- An exchange failed: Soft Reset first, Hard Reset where that or the exchange after it fails too (R522). -/
def State.pdEscalate (s : State) (p : Nat) : State :=
  if (s.tcp p).soft = 0 then s.softReset p else s.hardReset p true

/-! ### Beginning exchanges -/

/-- SOP′ messages may be sent: the hub is VCONN source and has met no over-current since the attach (R504, R509). -/
def State.sopPrime (s : State) (p : Nat) : Bool := s.flag (F.TC_STATUS_VCONN p) && !(s.tcp p).vconnOcp

/-- A structured VDM header: SVID, command type 0 REQ, 1 ACK, 2 NAK, and command. -/
def vdmHdr (svid ty cmd pos : Nat) : Word := w32 (svid * 65536 + 32768 + 8192 + 2048 + pos * 256 + ty * 64 + cmd)

/-- Begin one exchange. A wet port does not ask to become source (R506), and that of R517 is asked of a dual-role partner alone. -/
def State.pdBegin (s : State) (p : Nat) (a : PdAct) : State :=
  match a with
  | .dr => (s.pdCtl p Msg.drSwap).pdAwait p (.swap 1)
  | .pr auto =>
    if (!s.isSrc p && !s.dryPort p) || (auto && !(s.tcp p).dual) then s
    else
      let s := s.modTc p (fun t => { t with autoTried := t.autoTried || auto, autoNow := auto })
      (s.pdCtl p Msg.prSwap).pdAwait p (.swap 0)
  | .vconn => (s.pdCtl p Msg.vconnSwap).pdAwait p (.swap 2)
  | .cable =>
    if s.flag (F.TC_STATUS_VCONN p) then
      (if s.sopPrime p then (s.pdSend p 1 Msg.vdm false [vdmHdr 0xFF00 0 1 0]).pdAwait p .cable else s)
    else
      let s := s.modTc p (fun t => { t with todo := .cable :: t.todo })
      (s.pdCtl p Msg.vconnSwap).pdAwait p (.swap 2)
  | .sinkCaps => (s.pdCtl p Msg.getSinkCap).pdAwait p .sinkCaps
  | .epr => (s.pdSend p 0 Msg.eprMode false [w32 (2 ^ 24)]).pdAwait p .epr

/-- The hub may begin an exchange: as sink with a partner of Revision 3.x only at SinkTxOk, the partner's Rp at 3.0 A (R528). -/
def State.maySend (s : State) (p : Nat) : Bool := s.isSrc p || (s.tcp p).rev2 || (s.tcp p).seen == 3

/-- Begin the next exchanges that may begin, until one is awaited (R528). -/
def State.pdBegins (s : State) (p : Nat) : Nat → State
  | 0 => s
  | n + 1 =>
    let t := s.tcp p
    match t.todo with
    | a :: rest =>
      if t.wait = .nothing && t.trans.isNone && s.hasContract p && s.maySend p then
        ((s.modTc p (fun t => { t with todo := rest })).pdBegin p a).pdBegins p n
      else s
    | [] => s

/-- Begin the next exchange where nothing is awaited, and let Rp follow (R502, R528). -/
def State.pdNext (s : State) (p : Nat) : State := (s.pdBegins p (s.tcp p).todo.length).rpFollow p

/-- A swap of code `k` is still to begin, is under way, or waits to be tried again (R519, R528). -/
def State.swapOpen (s : State) (p k : Nat) : Bool :=
  let t := s.tcp p
  let act := if k = 1 then PdAct.dr else if k = 2 then PdAct.vconn else PdAct.pr false
  t.todo.contains act || (t.wait == .swap k && !(k == 0 && t.autoNow)) || t.wait == .swapRdy k || (t.retry.map (·.1)) == some act

/-- The self-clearing bits of TC_CTRL read 0 again once the exchange that they asked for has ended (R7, R531). -/
def State.tcAsked (s : State) (p : Nat) : State :=
  let s := if s.swapOpen p 0 then s else s.put (F.TC_CTRL_SWAP_PR p) 0
  let s := if s.swapOpen p 1 then s else s.put (F.TC_CTRL_SWAP_DR p) 0
  let s := if s.swapOpen p 2 then s else s.put (F.TC_CTRL_SWAP_VCONN p) 0
  if (s.tcp p).wait == .soft then s else s.put (F.TC_CTRL_SOFT_RESET p) 0

/-- What follows every change of a port: its next exchange, the bits that asked for one, the system input, the faces. -/
def State.tcSettle (s : State) (p : Nat) : State := (((s.pdNext p).tcAsked p).sysInput).faces

/-- A retry of R528 that falls due at a tick boundary, 800 ticks (100 ms) after the Wait. -/
def State.tcTick (s : State) : State :=
  s.each (List.range 4) (fun s p =>
    match (s.tcp p).retry with
    | some (a, t) =>
      if t ≤ s.rails.hamada && s.tcAttached p then
        (s.modTc p (fun t => { t with retry := none, todo := t.todo ++ [a] })).pdNext p
      else s
    | none => s)

/-! ### Attach commands -/

/-- The port runs: TC_CTRL.ENABLE (R103, R531). -/
def State.tcRuns (s : State) (p : Nat) : Bool := s.flag (F.TC_CTRL_ENABLE p)

/-- DRP_TOGGLE (R500): a DRP port that is UNATTACHED presents the other termination. -/
def execDrpToggle (p : Fin 4) (s : State) : Res :=
  .next (s.pda (fun s => if s.tcState p = Tc.unattached && s.tcMode p = 2 then (s.modTc p (fun t => { t with rp := !t.rp })).rpFollow p
    else s))

/-- The state that a pair of terminations calls for from UNATTACHED (R500). -/
def tcTarget (rp : Bool) (c1 c2 : Nat) (vbus : Bool) : Nat :=
  if rp then
    (if c1 = 2 && c2 = 2 then Tc.debug
     else if c1 = 1 && c2 = 1 then Tc.audio
     else if (c1 = 2 && c2 < 2) || (c2 = 2 && c1 < 2) then Tc.waitSrc
     else Tc.unattached)
  else if vbus && ((c1 = 3 && c2 ≠ 3) || (c2 = 3 && c1 ≠ 3)) then Tc.waitSnk
  else Tc.unattached

/-- CC_TERMINATION_CHANGE (R500, R502): the partner's terminations (0 open, 1 Ra, 2 Rd, 3 Rp), VBUS and the Rp seen. An accessory
state is entered once the terminations have held for tCCDebounce; a wet port sources no VBUS in DEBUG (R506). A sink sees SinkTxOk by Rp
(R528). -/
def execCcTerminationChange (p : Fin 4) (cc1 cc2 : Fin 4) (seen : CcIn) (s : State) : Res :=
  .next (s.pda (fun s =>
    let st := s.tcState p
    let s := s.modTc p (fun t => { t with cc := (cc1.val, cc2.val) })
    let s := s.iff (!s.isSrc p) (fun s => s.modTc p (fun t => { t with seen := seen.rp.val }))
    if st = Tc.snk && !s.isSrc p then (s.rpFollow p).tcSettle p
    else if !(st = Tc.unattached || st = Tc.waitSrc || st = Tc.waitSnk) || !s.tcRuns p then s
    else
      let rp := if st = Tc.waitSrc then true else if st = Tc.waitSnk then false else (s.tcp p).rp || s.tcMode p == 1
      let n := tcTarget rp cc1 cc2 seen.vbus
      if n = Tc.audio then (((s.tcTo p n).tcEvt p 4).tcEvt p 0).rpFollow p
      else if n = Tc.debug then
        let s := (s.tcEnter p n).modTc p (fun t => { t with srcEn := s.dryPort p })
        let s := s.setRole p (F.TC_STATUS_PR p) true
        (((s.tcEvt p 4).tcEvt p 0).rpFollow p).faces
      else (s.tcTo p n).rpFollow p))

/-- CC_DEBOUNCE (R500): CC has been stable for tCCDebounce; `rp` is the Rp level seen as sink. -/
def execCcDebounce (p : Fin 4) (rp : Fin 4) (s : State) : Res :=
  let st := s.tcState p
  let wet := s.flag (F.TC_STATUS_WET p)
  .next (s.pda (fun s => if st = Tc.waitSrc then
      (if wet then ((s.tcTo p Tc.unattached).tcFlt p 0).rpFollow p
       else (s.attachSrc p ((s.tcp p).cc.2 == 2)).tcSettle p)
    else if st = Tc.waitSnk then
      let s := s.put (F.TC_STATUS_ORIENT p) (bit1 ((s.tcp p).cc.2 == 3))
      let s := s.modTc p (fun t => { t with seen := rp.val })
      if bitAt (s.tcConfig p) 2 && !wet then ((s.tcTo p Tc.trySrc).modTc p (fun t => { t with rp := true })).rpFollow p
      else (s.attachSnk p).tcSettle p
    else s))

/-- TRY_CC_DEBOUNCE (R500): Rd has stood on one CC for tTryCCDebounce in TRY_SRC; a port found wet goes as from ATTACH_WAIT_SRC. -/
def execTryCcDebounce (p : Fin 4) (cc2 : Bool) (s : State) : Res :=
  .next (s.pda (fun s => if s.tcState p = Tc.trySrc then
      (if s.dryPort p then (s.attachSrc p cc2).tcSettle p
       else (((s.tcTo p Tc.unattached).modTc p (fun t => { t with rp := s.tcMode p == 1 })).tcFlt p 0).rpFollow p)
    else s))

/-- DRP_TRY_TIMEOUT (R500). -/
def execDrpTryTimeout (p : Fin 4) (s : State) : Res :=
  .next (s.pda (fun s => if s.tcState p = Tc.trySrc then
      ((s.modTc p (fun t => { t with rp := false })).attachSnk p).tcSettle p else s))

/-- A voltage transition, swap or Hard Reset runs on the port (R500, R525, R526). -/
def State.tcBusy (s : State) (p : Nat) : Bool :=
  let t := s.tcp p
  t.trans.isSome || t.hard || t.frs || (match t.wait with
    | .psRdy => true
    | .swap _ => true
    | .swapRdy _ => true
    | _ => false)

/-- CC_OPEN (R500, R526): CC open for 10 µs. -/
def execCcOpen (p : Fin 4) (s : State) : Res :=
  let st := s.tcState p
  .next (s.pda (fun s => if st = Tc.src || (st = Tc.snk && s.tcBusy p) || st = Tc.waitSrc || st = Tc.waitSnk then s.tcLeave p Tc.unattached
    else s))

/-- VBUS_LOSS (R500): VBUS below vSafe5V minimum outside a transition, swap or Hard Reset detaches a sink; a collapse during a
transition opens the sink switch and moves the system input (R526). -/
def execVbusLoss (p : Fin 4) (s : State) : Res :=
  .next (s.pda (fun s => if s.tcState p != Tc.snk then s
    else if !s.tcBusy p then s.tcLeave p Tc.unattached
    else if (s.tcp p).wait == .psRdy then (s.modTc p (fun t => { t with lost := true })).sysInput
    else s))

/-- ACCESSORY_DETACH (R500). -/
def execAccessoryDetach (p : Fin 4) (s : State) : Res :=
  .next (s.pda (fun s => if s.tcState p = Tc.audio || s.tcState p = Tc.debug then s.tcLeave p Tc.unattached else s))

/-- ERROR_RECOVERY_END (R500). -/
def execErrorRecoveryEnd (p : Fin 4) (s : State) : Res :=
  .next (s.pda (fun s => if s.tcState p = Tc.recovery then (s.tcTo p Tc.disabled).tcFlt p 2 else s))

/-- A disabled port goes back to UNATTACHED (R500). -/
def State.tcRearm (s : State) (p : Nat) : State :=
  if s.tcState p = Tc.disabled && s.tcRuns p then
    ((s.tcTo p Tc.unattached).modTc p (fun t => { t with rp := s.tcMode p == 1 })).rpFollow p else s

/-- A write of TC_CTRL.ENABLE takes effect (R500, R531). -/
def State.tcEnable (s : State) (p : Nat) (on : Bool) : State :=
  let s := s.put (F.TC_CTRL_ENABLE p) (bit1 on)
  if on then s.tcRearm p else if s.tcState p = Tc.disabled then s else s.tcLeave p Tc.disabled

/-- MOISTURE_TEST (R505, R506): the lowest leakage of a test, in kΩ. -/
def execMoistureTest (p : Fin 4) (kohm : Nat) (s : State) : Res :=
  .next (s.pda (fun s => if !bitAt (s.tcConfig p) 9 then s
    else
      let s := s.put (F.TC_MOIST_LEAK_KOHM p) (min kohm 65535)
      if kohm < 500 then
        let s := s.modTc p (fun t => { t with dry := 0 })
        let s := s.put (F.TC_STATUS_WET p) 1
        let s := (s.bump (F.TC_MOIST_WET_COUNT p) 1).tcFlt p 0
        if s.tcState p = Tc.src then s.tcLeave p Tc.unattached
        else if s.tcState p = Tc.debug then s.modTc p (fun t => { t with srcEn := false }) else s
      else
        let n := (s.tcp p).dry + 1
        let s := s.modTc p (fun t => { t with dry := min n 2 })
        if 2 ≤ n then
          (s.put (F.TC_STATUS_WET p) 0).modTc p (fun t => { t with srcEn := t.srcEn || (s.flag (F.TC_STATUS_WET p) && s.tcState p == Tc.debug) })
        else s))

/-! ### Contract messages -/

/-- PD runs on the port. -/
def State.pdOn (s : State) (p : Nat) : Bool := s.tcAttached p && s.power != 4

/-- SOURCE_CAPABILITIES (R516): `epr` for EPR_Source_Capabilities, whose further chunks the hub asks for (R507). The Request that answers it is
the first exchange after a Soft Reset (R522). -/
def execSourceCapabilities (p : PdFrom) (epr : Bool) (objs : List Word) (s : State) : Res :=
  let n := p.port.val
  .next (if !s.pdOn n || (epr && !s.flag (F.TC_STATUS_EPR n)) then s
    else
      let s := s.each (List.range 11) (fun s i => s.put (F.PD_PARTNER_i_V n i) (wordAt objs i))
      let s := s.modTc n (fun t => { t with rev2 := p.rev2, dual := bitAt (wordAt objs 0) 29 })
      let s := s.iff epr (fun s => s.pdChunkAsk n Msg.eprSourceCaps (4 * objs.length))
      if s.isSrc n then s
      else ((s.pdAwait n .nothing).sendRequest n (s.sinkRdo n objs)).tcSettle n)

/-- A Request lies within the object it names, and an AVS one within the cable's current `lim` (R511, R516). -/
def requestOk (lim o rdo : Nat) : Bool :=
  match pdoKind o with
  | 0 => o != 0 && decide (bitsOf rdo 10 10 ≤ fixedI o)
  | 1 => decide (apdoMin o * 5 ≤ bitsOf rdo 9 12) && decide (bitsOf rdo 9 12 ≤ apdoMax o * 5)
      && decide (bitsOf rdo 0 7 ≤ bitsOf o 0 7)
  | 2 => decide (apdoMin o * 4 ≤ bitsOf rdo 9 12) && decide (bitsOf rdo 9 12 ≤ apdoMax o * 4)
      && decide (bitsOf rdo 9 12 * 25 * (bitsOf rdo 0 7 * 50) ≤ bitsOf o 0 8 * 1000000) && decide (bitsOf rdo 0 7 * 5 ≤ lim)
  | _ => false

/-- A Request is answered: Accept and the voltage transition, or Reject (R516). -/
def State.answerRequest (s : State) (p rdo : Nat) (ok : Bool) : State :=
  let s := (s.put (F.PD_RDO_V p) rdo).pdAnswered p
  let s := s.modTc p (fun t => { t with reqTick := s.rails.hamada })
  if ok then (s.pdCtl p Msg.accept).modTc p (fun t => { t with trans := some rdo })
  else s.pdCtl p Msg.reject

/-- REQUEST (R516). -/
def execRequest (p : PdFrom) (rdo : Word) (s : State) : Res :=
  let n := p.port.val
  .next (if !s.pdOn n || !s.isSrc n then s
    else
      let r := rdo.toNat
      let s := s.modTc n (fun t => { t with rev2 := p.rev2 })
      (s.answerRequest n r (requestOk (s.cableI n) (askedObj (s.tcp n).offered r) r && !s.flag (F.TC_STATUS_EPR n))).tcSettle n)

/-- EPR_REQUEST (R516): within EPR mode, with a copy of the object asked for. -/
def execEprRequest (p : Fin 4) (rdo pdo : Word) (s : State) : Res :=
  .next (if !s.pdOn p || !s.isSrc p then s
    else
      let r := rdo.toNat
      let o := askedObj (s.tcp p).offered r
      (s.answerRequest p r (s.flag (F.TC_STATUS_EPR p) && requestOk (s.cableI p) o r && o == pdo.toNat)).tcSettle p)

/-- VOLTAGE_TRANSITION_DONE (R516): VBUS is at the new contract voltage; PS_RDY, and the contract is in force. -/
def execVoltageTransitionDone (p : Fin 4) (s : State) : Res :=
  .next (s.pda (fun s => match (s.tcp p).trans with
    | none => s
    | some rdo => ((s.pdCtl p Msg.psRdy).contract p rdo (askedObj (s.tcp p).offered rdo)).tcSettle p))

/-- The power role changes hands: VBUS switches, Rp or Rd, no contract; a new source sends its capabilities and a new
sink awaits them. Mode and data role stay (R519, R520). -/
def State.powerRole (s : State) (p : Nat) (src : Bool) : State :=
  let s := s.noContract p
  let s := s.setRole p (F.TC_STATUS_PR p) src
  let s := s.tcEnter p (if src then Tc.src else Tc.snk)
  let s := s.put (F.TC_STATUS_FRS_ARMED p) (bit1 (src && bitAt (s.tcConfig p) 8 && (s.tcp p).frsField != 0))
  let s := s.modTc p (fun t => { t with srcEn := src && s.dryPort p, frs := t.frs && !src, autoNow := false, wait := if src then .nothing else .caps })
  if src then s.sendCaps p else s

/-- ACCEPT (R516, R519, R522). -/
def execAccept (p : Fin 4) (s : State) : Res :=
  .next (if !s.pdOn p then s
    else
      match (s.tcp p).wait with
      | .accept => ((s.pdAnswered p).pdAwait p .psRdy).tcSettle p
      | .swap 0 =>
        let s := s.pdAnswered p
        let s := if s.isSrc p then (s.modTc p (fun t => { t with srcEn := false })).pdCtl p Msg.psRdy else s
        (s.pdAwait p (.swapRdy 0)).tcSettle p
      | .swap 1 =>
        ((s.pdAnswered p).setRole p (F.TC_STATUS_DR p) (!s.flag (F.TC_STATUS_DR p))).tcSettle p
      | .swap 2 =>
        if s.flag (F.TC_STATUS_VCONN p) then ((s.pdAnswered p).pdAwait p (.swapRdy 2)).tcSettle p
        else (((s.pdAnswered p).setRole p (F.TC_STATUS_VCONN p) true).pdCtl p Msg.psRdy).tcSettle p
      | .swap _ => (((s.pdAnswered p).pdCtl p Msg.psRdy).pdAwait p (.swapRdy 3)).tcSettle p
      | .soft =>
        let s := s.modTc p (fun t => { t with soft := 2, wait := if s.isSrc p then .nothing else .caps })
        (if s.isSrc p then s.sendCaps p else s).tcSettle p
      | _ => s)

/-- The exchange that a swap code stands for. -/
def swapAct (k : Nat) : PdAct := if k = 1 then .dr else if k = 2 then .vconn else .pr false

/-- What the discovery loses with a refused VCONN_Swap: the limits stay as they are (R510). -/
def State.dropDiscovery (s : State) (p k : Nat) : State :=
  if k = 2 then s.modTc p (fun t => { t with todo := t.todo.filter (· != .cable) }) else s

/-- The attempt of R517 under way ends until the next attach. -/
def State.autoEnds (s : State) (p k : Nat) : State :=
  if k = 0 then s.modTc p (fun t => { t with autoOver := t.autoOver || t.autoNow, autoNow := false }) else s

/-- The partner refuses what the hub asked for: its exchange ends (R510, R517). -/
def State.pdRefused (s : State) (p : Nat) : State :=
  match (s.tcp p).wait with
  | .accept => (s.pdAnswered p).tcSettle p
  | .swap k => (((s.dropDiscovery p k).autoEnds p k).pdAnswered p).tcSettle p
  | _ => s

/-- REJECT (R510, R517). -/
def execReject (p : Fin 4) (s : State) : Res := .next (if !s.pdOn p then s else s.pdRefused p)

/-- What the hub tries again after a Wait: its swap, or the discovery that waited for its VCONN_Swap (R509, R528). -/
def State.retryAct (s : State) (p k : Nat) : PdAct := if k = 2 && (s.tcp p).todo.contains .cable then .cable else swapAct k

/-- WAIT (R517, R528): a swap is postponed by 100 ms, 800 ticks; the attempt of R517 ends. -/
def execWait (p : Fin 4) (s : State) : Res :=
  .next (if !s.pdOn p then s
    else match (s.tcp p).wait with
      | .accept => (s.pdAnswered p).tcSettle p
      | .swap k =>
        let again := !(k == 0 && (s.tcp p).autoNow) && k != 3
        let act := s.retryAct p k
        let s := s.iff again (fun s => s.modTc p (fun t => { t with retry := some (act, s.rails.hamada + 800) }))
        (((s.dropDiscovery p k).autoEnds p k).pdAnswered p).tcSettle p
      | _ => s)

/-- PS_RDY (R516, R519, R520). -/
def execPsRdy (p : Fin 4) (s : State) : Res :=
  .next (if !s.pdOn p then s
    else match (s.tcp p).wait with
      | .psRdy =>
        let rdo := s.get (F.PD_RDO_V p)
        ((s.pdAnswered p).contract p rdo (askedObj (s.partner p) rdo)).tcSettle p
      | .swapRdy 0 =>
        if s.isSrc p then ((s.pdAnswered p).powerRole p false).tcSettle p
        else (((s.pdAnswered p).pdCtl p Msg.psRdy).powerRole p true).tcSettle p
      | .swapRdy 2 => ((s.pdAnswered p).setRole p (F.TC_STATUS_VCONN p) false).tcSettle p
      | .swapRdy _ =>
        if s.isSrc p then (((s.pdAnswered p).powerRole p false).tcFlt p 6).tcSettle p
        else (((s.pdAnswered p).pdCtl p Msg.psRdy).powerRole p true).tcSettle p
      | _ => s)

/-- CABLE_IDENTITY_RESPONSE (R510, R511): the cable's VDO, `active` from its ID Header. -/
def execCableIdentityResponse (p : Fin 4) (answered active : Bool) (vdo : Word) (s : State) : Res :=
  let v := vdo.toNat
  let lat := bitsOf v 13 4
  let speed := bitsOf v 0 3
  let gear0 := if speed = 0 then 0 else if speed ≤ 2 then 1 else if speed = 3 then 2 else 3
  let cls := if active then (if 1 ≤ lat && lat ≤ 4 then 3 else 0) else if lat = 1 then 1 else if lat = 2 then 2 else 0
  let gear := if cls = 0 then 0 else gear0
  .next (if !s.pdOn p || (s.tcp p).wait != .cable then s
    else if !answered then (s.pdAnswered p).tcSettle p
    else
      let s := s.pdAnswered p
      let s := s.put (F.PD_CABLE_VDO_V p) v
      let s := s.put (F.PD_CABLE_LIM_I5A p) (bit1 (bitsOf v 5 2 == 2))
      let s := s.put (F.PD_CABLE_LIM_V50 p) (bit1 (bitsOf v 9 2 == 3 && bitAt v 17))
      let s := s.put (F.PD_CABLE_LIM_GEAR p) gear
      let s := s.put (F.PD_CABLE_LIM_CLASS p) cls
      let s := s.put (F.PD_CABLE_LIM_SOP2 p) (bit1 (active && bitAt v 3))
      let s := (s.put (F.CV_STATUS_CABLE_CLASS p) cls).tcEvt p 3
      let s := if active && bitAt v 3 && s.sopPrime p then s.pdSend p 4 Msg.vdm false [vdmHdr 0xFF00 0 1 0] else s
      let s := if s.isSrc p then (if s.srcOffer p = (s.tcp p).offered then s else s.sendCaps p)
        else
          let rdo := s.sinkRdo p (s.partner p)
          if rdo = s.get (F.PD_RDO_V p) then s.eprTry p else s.sendRequest p rdo
      s.tcSettle p)

/-- GET_SOURCE_CAP (R507, R516). -/
def execGetSourceCap (p : Fin 4) (s : State) : Res :=
  .next (if !s.pdOn p then s
    else if s.isSrc p then (s.sendCaps p).tcSettle p
    else s.pdSend p 0 Msg.sourceCaps false (s.srcOffer p))

/-- The sink objects of slots from a list that are in use (R514). -/
def State.snkOffer (s : State) (p : Nat) (l : List Nat) : List Word :=
  (l.filter (fun i => s.snkObj p i != 0)).map (fun i => w32 (s.snkObj p i))

/-- GET_SINK_CAP (R507). -/
def execGetSinkCap (p : Fin 4) (s : State) : Res :=
  .next (if s.pdOn p then s.pdSend p 0 Msg.sinkCaps false (s.snkOffer p (List.range 7)) else s)

/-- SINK_CAPABILITIES (R520): a Fast Role Swap field that is not zero arms fast role swap as source with FRS_EN. -/
def execSinkCapabilities (p : Fin 4) (objs : List Word) (s : State) : Res :=
  let f := bitsOf (wordAt objs 0) 23 2
  .next (if !s.pdOn p then s
    else
      let s := s.iff (s.isSrc p) (fun s => s.each (List.range 11) (fun s i => s.put (F.PD_PARTNER_i_V p i) (wordAt objs i)))
      let s := s.modTc p (fun t => { t with frsField := f, dual := bitAt (wordAt objs 0) 29,
                                            wait := if t.wait = .sinkCaps then .nothing else t.wait })
      let s := if s.isSrc p then s.put (F.TC_STATUS_FRS_ARMED p) (bit1 (bitAt (s.tcConfig p) 8 && f != 0)) else s
      s.tcSettle p)

/-! ### Swaps from the partner (R519, R528) -/

/-- The hub has a swap request of its own out: the two cross, and each end answers with Wait (R528). -/
def State.swapCross (s : State) (p : Nat) : Bool :=
  match (s.tcp p).wait with
  | .swap _ => true
  | _ => false

/-- PR_SWAP (R519). -/
def execPrSwap (p : Fin 4) (s : State) : Res :=
  let c := s.tcConfig p
  .next (if !s.pdOn p then s
    else if s.swapCross p then s.pdCtl p Msg.wait
    else if bitAt c 5 && s.tcMode p = 2 &&
        (s.isSrc p || (s.dryPort p && (List.range 10).any (fun i => s.srcObj p (i + 1) != 0))) then
      let s := s.pdCtl p Msg.accept
      let s := if s.isSrc p then (s.modTc p (fun t => { t with srcEn := false })).pdCtl p Msg.psRdy else s
      (s.pdAwait p (.swapRdy 0)).tcSettle p
    else s.pdCtl p Msg.reject)

/-- DR_SWAP (R519). -/
def execDrSwap (p : Fin 4) (s : State) : Res :=
  let dfp := s.flag (F.TC_STATUS_DR p)
  .next (if !s.pdOn p then s
    else if s.swapCross p then s.pdCtl p Msg.wait
    else if dfp || (bitAt (s.tcConfig p) 6 && !s.flag (F.TC_STATUS_CARAVAN p)) then
      ((s.pdCtl p Msg.accept).setRole p (F.TC_STATUS_DR p) (!dfp)).tcSettle p
    else s.pdCtl p Msg.reject)

/-- VCONN_SWAP (R519). -/
def execVconnSwap (p : Fin 4) (s : State) : Res :=
  let mine := s.flag (F.TC_STATUS_VCONN p)
  .next (if !s.pdOn p then s
    else if s.swapCross p then s.pdCtl p Msg.wait
    else if !mine then (((s.pdCtl p Msg.accept).setRole p (F.TC_STATUS_VCONN p) true).pdCtl p Msg.psRdy).tcSettle p
    else if bitAt (s.tcConfig p) 7 then ((s.pdCtl p Msg.accept).pdAwait p (.swapRdy 2)).tcSettle p
    else s.pdCtl p Msg.reject)

/-- The hub's source objects include vSafe5V at the current a Fast Role Swap field asks: default, 1.5 A or 3.0 A (R519). -/
def State.frsAble (s : State) (p : Nat) : Bool :=
  let i := fixedI (s.srcObj p 0)
  match (s.tcp p).frsField with
  | 1 => fixedV (s.srcObj p 0) == 100 && decide (50 ≤ i)
  | 2 => fixedV (s.srcObj p 0) == 100 && decide (150 ≤ i)
  | 3 => fixedV (s.srcObj p 0) == 100 && decide (300 ≤ i)
  | _ => false

/-- FR_SWAP_SIGNAL (R519): as initial sink, the hub turns on its source when VBUS falls. -/
def execFrSwapSignal (p : Fin 4) (s : State) : Res :=
  .next (s.pda (fun s => if s.tcState p = Tc.snk && s.hasContract p && s.frsAble p && s.dryPort p then
      (s.modTc p (fun t => { t with srcEn := true, frs := true })).sysInput
    else s))

/-- FR_SWAP (R519): as initial sink, the hub answers with Accept and awaits PS_RDY; its own PS_RDY then makes it source. -/
def execFrSwap (p : Fin 4) (s : State) : Res :=
  .next (if s.pdOn p && (s.tcp p).frs && !s.isSrc p then ((s.pdCtl p Msg.accept).pdAwait p (.swapRdy 3)).tcSettle p else s)

/-- SOFT_RESET (R513, R522): the protocol layer is reset and no mode is left. -/
def execSoftReset (p : Fin 4) (s : State) : Res :=
  .next (if !s.pdOn p then s
    else
      let s := s.bump (F.TC_COUNT2_SOFT_RESETS p) 1
      let s := s.modTc p (fun t => { t with msgId := 0, trans := none, wait := if s.isSrc p then .nothing else .caps })
      let s := s.pdCtl p Msg.accept
      (if s.isSrc p then s.sendCaps p else s).tcSettle p)

/-- HARD_RESET_RECEIVED (R523). -/
def execHardResetReceived (p : Fin 4) (s : State) : Res :=
  .next (if s.pdOn p then (s.hardReset p false).tcSettle p else s)

/-- EPR_MODE (R516): action 1 Enter, 2 Enter Acknowledged, 3 Enter Succeeded, 4 Enter Failed, 5 Exit. -/
def execEprMode (p : Fin 4) (obj : Word) (s : State) : Res :=
  let act := bitsOf obj.toNat 24 8
  let say (s : State) (a : Nat) : State := s.pdSend p 0 Msg.eprMode false [w32 (a * 2 ^ 24)]
  .next (if !s.pdOn p then s
    else if act = 1 && s.isSrc p then
      (if s.flag (F.PD_CABLE_LIM_V50 p) && s.hasContract p && [7, 8, 9, 10].any (fun i => s.srcObj p i != 0) then
        (((say (say s 2) 3).put (F.TC_STATUS_EPR p) 1).sendCaps p).tcSettle p
       else say s 4)
    else if act = 2 then s
    else if act = 3 && !s.isSrc p && (s.tcp p).wait == .epr then
      (((s.pdAnswered p).put (F.TC_STATUS_EPR p) 1).pdAwait p .caps).tcSettle p
    else if act = 4 && (s.tcp p).wait == .epr then (s.pdAnswered p).tcSettle p
    else if act = 5 && s.flag (F.TC_STATUS_EPR p) then
      let s := s.put (F.TC_STATUS_EPR p) 0
      (if s.isSrc p then s.sendCaps p else s.pdAwait p .caps).tcSettle p
    else s)

/-- EPR_KEEPALIVE (R518): acknowledged; the source's watch starts again. -/
def execEprKeepalive (p : Fin 4) (s : State) : Res :=
  .next (if s.pdOn p && s.isSrc p && s.flag (F.TC_STATUS_EPR p) then s.pdExt p Msg.extControl [4, 0] else s)

/-- ALERT (R508). -/
def execAlert (p : Fin 4) (ado : Word) (s : State) : Res :=
  .next (if s.pdOn p then (s.put (F.PD_ALERT_V p) ado.toNat).tcEvt p 5 else s)

/-- `n` bytes that the spec leaves open (log entry 98). -/
def State.freeBytes (s : State) (n : Nat) : List Byte := (List.range n).map (fun i => BitVec.ofNat 8 (Config.freeWord (s.free + i)).toNat)

/-- The state after `n` free values were taken. -/
def State.tookMany (s : State) (n : Nat) : State := { s with free := s.free + n }

/-- Vendor and product identifiers, least significant byte first (R512). -/
def State.pdIds (s : State) : List Byte := (wordBytes (w32 (s.get (F.PX_IDS_VENDOR 0) + 0x9640 * 65536)))

/-- A message of R507's table that has no row of its own. What the spec does not state in the blocks of the Extended kind is free (log entry
98). -/
def State.pdOther (s : State) (p : Nat) : PdMsg → State
  | .other => if (s.tcp p).rev2 then s.pdCtl p Msg.reject else s.pdCtl p Msg.notSupported
  | .ping => s
  | .told => s
  | .notSupported =>
    match (s.tcp p).wait with
    | .sinkCaps => (s.pdAnswered p).tcSettle p
    | .epr => (s.pdAnswered p).tcSettle p
    | _ => s.pdRefused p
  | .getSourceCapExt =>
    let w := bitsOf (s.get (F.TC_CFG_w_V p 2)) 0 8
    (s.tookMany 19).pdExt p Msg.sourceCapsExt (s.pdIds ++ s.freeBytes 19 ++ [BitVec.ofNat 8 (min w 100), BitVec.ofNat 8 w])
  | .getSinkCapExt =>
    (s.tookMany 19).pdExt p Msg.sinkCapsExt
      (s.pdIds ++ s.freeBytes 14 ++ [BitVec.ofNat 8 (bitsOf (s.get (F.TC_CFG_w_V p 2)) 8 8)] ++ (s.freeBytes 19).drop 14)
  | .getStatus => (s.tookMany 7).pdExt p Msg.status (s.freeBytes 7)
  | .getPpsStatus => (s.tookMany 4).pdExt p Msg.ppsStatus (s.freeBytes 4)
  | .eprGetSourceCap =>
    let l := (s.put (F.TC_STATUS_EPR p) 1).srcOffer p
    (s.modTc p (fun t => { t with offered := if s.isSrc p then l else t.offered })).pdExt p Msg.eprSourceCaps (wordsBytes l)
  | .eprGetSinkCap =>
    let spr := s.snkOffer p (List.range 7)
    s.pdExt p Msg.eprSinkCaps (wordsBytes (spr ++ List.replicate (7 - spr.length) 0 ++ s.snkOffer p [7, 8, 9, 10]))
  | .eprSinkCaps objs =>
    let s := s.pdChunkAsk p Msg.eprSinkCaps (4 * objs.length)
    s.iff (s.isSrc p) (fun s => s.each (List.range 11) (fun s i => s.put (F.PD_PARTNER_i_V p i) (wordAt objs i)))
  | .bist m =>
    if m = 5 then s.emit (.pd p 5 0 [])
    else if m = 8 then s.modTc p (fun t => { t with bist := true })
    else s
  | .chunkRequest k =>
    match (s.tcp p).chunk with
    | some (ty, b) => if 26 * k.val < b.length then s.pdChunk p ty b k.val else s
    | none => s

/-- UNSUPPORTED_MESSAGE (R507): Not_Supported answers every message beyond the table, Reject at Revision 2.0; the messages of the table that the
command table gives no row come this way too (log entry 98). -/
def execUnsupportedMessage (m : PdOther) (s : State) : Res := .next (if s.pdOn m.port then s.pdOther m.port m.msg else s)

/-! ### Structured VDMs (R273, R274, R512, R513) -/

/-- The hub's Caravan mode VDO (R273). -/
def State.modeVdo (s : State) (p : Nat) : Nat :=
  let c := s.get (F.CV_CFG0_W p)
  let top := bitsOf c 0 2
  1 + 2 ^ 4 * (2 ^ (top + 1) - 1) + 2 ^ 8 * bit1 (bitAt c 2) + 2 ^ 9 * bit1 (bitAt c 3)
    + 2 ^ 10 * bitsOf c 4 3 + 2 ^ 13 + 2 ^ 16 * p

/-- A VDM answer. -/
def State.vdmReply (s : State) (p svid : Nat) (ack : Bool) (cmd pos : Nat) (objs : List Word) : State :=
  s.pdSend p 0 Msg.vdm false (vdmHdr svid (if ack then 1 else 2) cmd pos :: objs)

/-- DISCOVER_IDENTITY (R512): ID Header, Cert Stat, Product and UFP VDOs. -/
def execDiscoverIdentity (p : Fin 4) (s : State) : Res :=
  .next (if s.pdOn p then
      s.vdmReply p 0xFF00 true 1 0 [w32 (2 ^ 30 + 2 ^ 27 + 2 ^ 26 + s.get (F.PX_IDS_VENDOR 0)), 0,
        w32 (0x9640 * 65536 + 0x100 + Config.revMain.toNat), w32 (3 * 2 ^ 29 + 2 ^ 24 + 2 ^ 5)]
    else s)

/-- DISCOVER_SVIDS (R512). -/
def execDiscoverSvids (p : Fin 4) (s : State) : Res :=
  .next (if s.pdOn p then s.vdmReply p 0xFF00 true 2 0 [w32 (0x2F5A * 65536)] else s)

/-- DISCOVER_MODES (R512). -/
def execDiscoverModes (p : Fin 4) (svid : BitVec 16) (s : State) : Res :=
  .next (if !s.pdOn p then s
    else if svid = 0x2F5A then s.vdmReply p 0x2F5A true 3 0 [w32 (s.modeVdo p)]
    else s.vdmReply p svid.toNat false 3 0 [])

/-- ENTER_MODE (R274, R511, R512): entered only as the UFP, with VERSION 1, GEARS S and L, an enabled port and a cable that
allows Caravan; the link then enters REF. -/
def execEnterMode (p : Fin 4) (svid : BitVec 16) (mode : Fin 8) (vdo : Word) (s : State) : Res :=
  let v := vdo.toNat
  .next (if !s.pdOn p then s
    else
    let s := if svid = 0x2F5A then s.put (F.CV_MODE_VDO_VDO p) v else s
    if svid = 0x2F5A && mode = 1 && !s.flag (F.TC_STATUS_DR p) && bitsOf v 0 3 = 1 && bitAt v 4 && bitAt v 5
        && s.flag (F.CV_CTRL_ENABLE p) && s.get (F.PD_CABLE_LIM_GEAR p) != 0 then
      let s := s.vdmReply p 0x2F5A true 4 mode.val []
      let s := s.put (F.TC_STATUS_CARAVAN p) 1
      (s.modLink p (fun l => { l with entered := true })).tryRef p
    else s.vdmReply p svid.toNat false 4 mode.val [])

/-- EXIT_MODE (R513). -/
def execExitMode (p : Fin 4) (svid : BitVec 16) (s : State) : Res :=
  .next (if !s.pdOn p then s
    else if svid = 0x2F5A && s.flag (F.TC_STATUS_CARAVAN p) then (s.vdmReply p 0x2F5A true 5 1 []).modeExit p
    else s.vdmReply p svid.toNat false 5 0 [])

/-! ### Timers and faults (R504, R508, R518, R520 to R526) -/

/-- SENDER_RESPONSE_TIMEOUT (R522). -/
def execSenderResponseTimeout (p : Fin 4) (s : State) : Res :=
  .next (if !s.pdOn p then s
    else match (s.tcp p).wait with
      | .nothing => s
      | .caps => s
      | .psRdy => s
      | .swapRdy _ => s
      | .cable => (s.pdAnswered p).tcSettle p
      | _ => (s.pdEscalate p).tcSettle p)

/-- NO_RESPONSE_TIMEOUT (R522): tNoResponse without an explicit contract after a Hard Reset. -/
def execNoResponseTimeout (p : Fin 4) (s : State) : Res :=
  .next (if !s.pdOn p || !(s.tcp p).hard || s.hasContract p then s
    else if (s.tcp p).hardFails = 0 then
      ((s.modTc p (fun t => { t with hardFails := 1 })).hardReset p true).tcSettle p
    else s.errorRecovery p)

/-- PS_TRANSITION_TIMEOUT (R521, R522): the sink's transition fails. -/
def execPsTransitionTimeout (p : Fin 4) (s : State) : Res :=
  .next (if !s.pdOn p then s
    else match (s.tcp p).wait with
      | .psRdy => (s.pdEscalate p).tcSettle p
      | .swapRdy _ => (s.pdEscalate p).tcSettle p
      | _ => s)

/-- PPS_TIMEOUT (R518). -/
def execPpsTimeout (p : Fin 4) (s : State) : Res :=
  let k := s.get (F.PD_CONTRACT_TYPE p)
  .next (if s.pdOn p && s.isSrc p && s.hasContract p && (k == 1 || k == 2) then (s.hardReset p true).tcSettle p else s)

/-- EPR_KEEPALIVE_TIMEOUT (R518). -/
def execEprKeepaliveTimeout (p : Fin 4) (s : State) : Res :=
  .next (if s.pdOn p && s.isSrc p && s.flag (F.TC_STATUS_EPR p) then (s.hardReset p true).tcSettle p else s)

/-- An Alert with a bit set; Revision 2.0 knows none (R507, R508). -/
def State.pdAlert (s : State) (p i : Nat) : State := if (s.tcp p).rev2 then s else s.pdSend p 0 Msg.alert false [w32 (2 ^ i)]

/-- VBUS_OCP (R508, R524): in DEBUG, where no PD is sent (R503), the switch opens and the fault is set. -/
def execVbusOcp (p : Fin 4) (s : State) : Res :=
  let off (s : State) : State := (s.modTc p (fun t => { t with srcEn := false })).tcFlt p 4
  .next (if s.pdOn p && s.isSrc p then (((off s).pdAlert p 26).hardReset p true).tcSettle p
    else s.pda (fun s => if s.tcState p = Tc.debug && (s.tcp p).srcEn then off s else s))

/-- VCONN_OCP (R504): the VCONN switch opens. -/
def execVconnOcp (p : Fin 4) (s : State) : Res :=
  .next (s.pda (fun s => if s.flag (F.TC_STATUS_VCONN p) then
      (((s.setRole p (F.TC_STATUS_VCONN p) false).modTc p (fun t => { t with vconnOcp := true })).tcFlt p 3)
    else s))

/-- CC_OPEN_IN_TRANSITION (R525, R526). -/
def execCcOpenInTransition (p : Fin 4) (s : State) : Res :=
  .next (if s.pdOn p && s.tcBusy p then s.tcLeave p Tc.unattached else s)

/-- HAMADA_THERMAL_LIMIT (R508). -/
def execHamadaThermalLimit (p : Fin 4) (s : State) : Res :=
  .next (if s.pdOn p then s.pdAlert p 27 else s)

/-- The fast role swap at a fall of LOCAL_SNS (R520): every armed port opens its source switch, signals FR_Swap on CC, and
becomes the system input; it then sends FR_Swap. -/
def State.frsTrip (s : State) : State :=
  let s := s.put F.TC_PWR_LOCAL_OK 0
  let armed (s : State) (p : Nat) : Bool := s.flag (F.TC_STATUS_FRS_ARMED p) && s.tcState p == Tc.src
  let s := if (List.range 4).any (armed s) then s.bump F.TC_PWR_FRS_COUNT 1 else s
  let s := s.each (List.range 4) (fun s p =>
    if armed s p then
      let s := (s.modTc p (fun t => { t with srcEn := false, frs := true })).emit (.pd p 3 0 [])
      let s := s.put (F.TC_STATUS_FRS_ARMED p) 0
      (s.pdCtl p Msg.frSwap).pdAwait p (.swap 3)
    else s)
  s.sysInput

/-- LOCAL_OK takes a value, and the tick of a rise is kept for R602. -/
def State.localSupply (s : State) (ok : Bool) : State :=
  let s := if ok && !s.flag F.TC_PWR_LOCAL_OK then { s with oa := { s.oa with okSince := s.rails.hamada } } else s
  s.put F.TC_PWR_LOCAL_OK (bit1 ok)

/-- SYSTEM_INPUT_CHANGE (R498): the comparator of LOCAL_SNS reads `localOk`, and the system input follows. -/
def execSystemInputChange (localOk : Bool) (s : State) : Res :=
  .next (s.pda (fun s => (s.localSupply localOk).sysInput))

/-! ### Keep-alives (R516, R577) -/

/-- What a PD_KEEPALIVE run sends: EPR_KeepAlive in EPR mode, and the Request that PPS and AVS contracts need (R516). -/
def State.pdKeep (s : State) (p : Nat) : State :=
  let k := s.get (F.PD_CONTRACT_TYPE p)
  if !s.pdOn p || s.isSrc p || !s.hasContract p then s
  else
    let s := s.iff (s.flag (F.TC_STATUS_EPR p)) (fun s => s.pdExt p Msg.extControl [3, 0])
    if (k = 1 || k = 2) && (s.tcp p).wait == .nothing
        && decide ((s.tcp p).reqTick + 8000 * bitsOf (s.get (F.TC_CFG_w_V p 1)) 8 4 ≤ s.rails.hamada) then
      s.sendRequest p (s.get (F.PD_RDO_V p))
    else s

/-- PD_KEEPALIVE (R516). -/
def execPdKeepalive (p : Fin 4) (prevOpen : Bool) (s : State) : Res :=
  .next (s.chore 2 p.val prevOpen (fun s => s.pdKeep p))

/-- SLEEP_PD_KEEPALIVE (R577): the Hamada die sends the keep-alives on its own clock. -/
def execSleepPdKeepalive (s : State) : Res := .next (if s.awake then s else s.each (List.range 4) State.pdKeep)

/-! ### PD_CAPS and the image (R516, R529) -/

/-- A PD_CAPS record is applied: a change makes new capabilities go out at once (R516), but where a Soft Reset is to come first (`quiet`, R529). -/
def State.tcApply (s : State) (p : Nat) (body : List Word) (quiet : Bool) : State :=
  let same := (List.range 25).all (fun w => s.get (F.TC_CFG_w_V p w) == wordAt body w)
  let s := s.each (List.range 25) (fun s w => s.put (F.TC_CFG_w_V p w) (wordAt body w))
  let s := if s.tcState p = Tc.unattached && s.tcMode p ≠ 2 then s.modTc p (fun t => { t with rp := s.tcMode p == 1 }) else s
  let s := s.rpFollow p
  if !same && !quiet && s.pdOn p && s.isSrc p then (s.sendCaps p).tcSettle p else s.sysInput

/-- After a warm reset, once the image is applied: Soft Reset on every port with an explicit contract; capabilities follow
its Accept (R529). -/
def State.tcAfterWarm (s : State) : State :=
  s.each (List.range 4) (fun s p => if s.pdOn p && s.hasContract p then s.softReset p else s)

/-! ### Commands of TC_CTRL (R519, R531) -/

/-- SWAP_PR, SWAP_DR and SWAP_VCONN: an exchange to begin; its bit reads 1 until the exchange has ended (R7). -/
def State.tcAsk (s : State) (p : Nat) (a : PdAct) : State :=
  if s.pdOn p && s.hasContract p then
    let bit := match a with
      | .dr => F.TC_CTRL_SWAP_DR p
      | .vconn => F.TC_CTRL_SWAP_VCONN p
      | _ => F.TC_CTRL_SWAP_PR p
    ((s.put bit 1).modTc p (fun t => { t with todo := t.todo ++ [a] })).tcSettle p
  else s

end Sys2Proof.Machine
end

