-- ==== Sys2Proof/Machine/Efuse.lean ====
section
/-! DEFINITION. Machine/Efuse.lean: the e-fuse channels (R533 to R555), their clearance (R492, R539) and load shedding
(R602 to R604). -/
namespace Sys2Proof.Machine

def State.efc (s : State) (c : Nat) : EfChan := vAt s.ef c
def State.modEf (s : State) (c : Nat) (f : EfChan → EfChan) : State := { s with ef := vMod s.ef c f }

/-! STATE codes of EF_STATUS (R555). -/
namespace Ef
def off : Nat := 0
def delay : Nat := 1
def ramp : Nat := 2
def on : Nat := 3
def shed : Nat := 4
def fault : Nat := 5
end Ef

/-! Fault causes of EF_STATUS (R555). -/
namespace EfCause
def short : Nat := 1
def overcurrent : Nat := 2
def rampTimeout : Nat := 3
def overtemp : Nat := 4
def vinOv : Nat := 5
def gateStuck : Nat := 6
def shortedFet : Nat := 7
def pgLost : Nat := 8
def reverse : Nat := 9
end EfCause

/-- STATE of a channel. -/
def State.efState (s : State) (c : Nat) : Nat := s.get (F.EF_STATUS_STATE c)
/-- Word `w` of the EFUSE record in force (R535). -/
def State.efCfg (s : State) (c w : Nat) : Nat := s.get (F.EF_CFG_w_V c w)
/-- TOPO: 0 unused, 1 PARALLEL, 2 SERIES. -/
def State.efTopo (s : State) (c : Nat) : Nat := bitsOf (s.efCfg c 0) 0 2
/-- The channel conducts or ramps. -/
def State.efLive (s : State) (c : Nat) : Bool := s.efState c == Ef.ramp || s.efState c == Ef.on
/-- The channel runs: enabled and in use, the PDA domain running (R10, R103, R537). -/
def State.efRuns (s : State) (c : Nat) : Bool :=
  s.flag (F.EF_CTRL_ENABLE c) && s.efTopo c != 0 && s.unitRuns (16 + c) && s.power != 4
/-- SHED_PRIO of a channel. -/
def State.efPrio (s : State) (c : Nat) : Nat := bitsOf (s.efCfg c 0) 8 4
/-- Bit `i` of EF_EVT (R554). -/
def State.efEvt (s : State) (c i : Nat) : State := s.raise (248 + c) ⟨A.EF_EVT c, i, 1⟩

/-! ### Gates, power-good and state changes (R540, R545) -/

/-- A channel takes a state, and its timers count from there; OA_SHED_STATUS follows SHED (R623). -/
def State.efTo (s : State) (c st : Nat) : State :=
  if s.efState c = st then s
  else
    let s := s.modEf c (fun e => { e with since := s.rails.hamada })
    let s := (s.put (F.EF_STATUS_STATE c) st).efEvt c 0
    if st = Ef.shed then s.setBit F.OA_SHED_STATUS_SHED c else s.clrBit F.OA_SHED_STATUS_SHED c

/-- PG takes a value; a PCI Express port whose PWR_EF names the channel acts under R399 (R545). -/
def State.efPg (s : State) (c : Nat) (v : Bool) : State :=
  if s.flag (F.EF_STATUS_PG c) == v then s
  else (((s.put (F.EF_STATUS_PG c) (bit1 v)).efEvt c 2).pxPerst 0).pxPerst 1

/-- Both gates off: no episode, PG false. -/
def State.efGatesOff (s : State) (c : Nat) : State :=
  let s := s.modEf c (fun e => { e with gateA := false, gateB := false, full := false, pgOut := false, leave := none })
  (s.put (F.EF_STATUS_LIMIT c) 0).efPg c false

/-- The channel goes to OFF or SHED with its gates off. -/
def State.efDown (s : State) (c st : Nat) : State := (s.efGatesOff c).efTo c st

/-- Entry to FAULT (R540). -/
def State.efFault (s : State) (c cause : Nat) : State :=
  let s := s.efGatesOff c
  let s := s.put (F.EF_STATUS_CAUSE c) cause
  let s := (s.bump (F.EF_COUNT_FAULTS c) 1).efTo c Ef.fault
  s.efEvt c 1

/-- Load shedding counts a channel as shed (R602). -/
def State.efShedNow (s : State) (c : Nat) : Bool := s.flag F.OA_STATUS_SHED_ACTIVE && decide (s.efPrio c < 15)

/-- OFF to DELAY where every condition of R540 holds. -/
def State.efTry (s : State) (c : Nat) : State :=
  let e := s.efc c
  if s.efRuns c && s.efState c == Ef.off && s.flag (F.EF_CTRL_ON c) && s.flag (F.EF_STATUS_CLEARED c) && e.vinOk
      && !e.reverse && !s.efShedNow c then
    s.efTo c Ef.delay
  else s

/-- A condition to be on is lost: DELAY, RAMP and ON go to OFF (R540). -/
def State.efLose (s : State) (c : Nat) : State :=
  if s.efState c = Ef.delay || s.efLive c then s.efDown c Ef.off else s

/-! ### Clearance (R492, R539, R563) -/

/-- The enabled module slot that names a channel (R487). -/
def State.slotOf (s : State) (c : Nat) : Option Nat :=
  firstIx 8 (fun m => bitAt (s.get (F.WD_MOD_CFG_V m 0)) 0 && bitsOf (s.get (F.WD_MOD_CFG_V m 0)) 8 4 == c)

/-- The line that shows presence is asserted at the last poll of a slot. -/
def State.present (s : State) (m : Nat) : Bool :=
  bitAt (s.get (F.WD_MOD_STATUS_LINES m)) (bitsOf (s.get (F.WD_MOD_CFG_V m 0)) 16 3)

/-- What R492 says of a channel: cleared while its slot is ACCEPTED, or without ID_EN while PRESENT is asserted, and always
where no enabled slot names it (R539). -/
def State.clearedBy (s : State) (c : Nat) : Bool :=
  match s.slotOf c with
  | none => true
  | some m => if bitAt (s.get (F.WD_MOD_CFG_V m 0)) 3 then s.get (F.WD_MOD_STATUS_STATE m) == 3 else s.present m

/-- CLEARED follows R492; through a warm reset it stays as it is until the slot's first identity check or poll (R563). -/
def State.clearance (s : State) (c : Nat) : State :=
  let kept := match s.slotOf c with
    | some m => (vAt s.wd.mods m).confirm
    | none => false
  if kept then s
  else
    let v := s.clearedBy c
    if s.flag (F.EF_STATUS_CLEARED c) == v then s
    else
      let s := s.put (F.EF_STATUS_CLEARED c) (bit1 v)
      if v then s.efTry c else s.efLose c

/-! ### Damage and the spare path (R546, R547) -/

/-- A finding: EF_EVT.DAMAGE for those of R546, an error-log entry, a service notice; `fet` 0 A, 1 B, 3 unknown. -/
def State.efFinding (s : State) (c finding fet : Nat) (damage : Bool) : State :=
  let s := s.logHw (s.ownerOf (48 + c)) 2 0 0x19 (16 + c) (c + 256 * finding + 65536 * fet)
  if damage then (s.efEvt c 4).notice 7 c else s

/-- The path in use: 0 A, 1 B. -/
def State.efPath (s : State) (c : Nat) : Nat := s.get (F.EF_STATUS_PATH c)

/-- SPARE_OK follows the unused path (R547). -/
def State.efSpare (s : State) (c : Nat) : State :=
  s.put (F.EF_STATUS_SPARE_OK c) (bit1 (s.efTopo c == 1 && !bitAt (s.efc c).bad (1 - s.efPath c)))

/-- The driven gate of a PARALLEL channel, or both of a SERIES one that conducts. -/
def State.efDrive (s : State) (c : Nat) (both : Bool) : State :=
  let p := s.efPath c
  let par := s.efTopo c == 1
  s.modEf c (fun e => { e with gateA := !par || p == 0, gateB := if par then p == 1 else both })

/-- Ticks until the gate that a channel in ON has just driven shows VGS of 9 V: open, and at most GATE_RISE (R547, log entry 163). -/
def State.efHandOver (s : State) (c : Nat) : Nat := min (s.freeVal 8) (bitsOf (s.efCfg c 4) 12 8)

/-- A PARALLEL channel moves to its other FET: in ON both gates are driven until the failing one is let go, in RAMP the ramp restarts
on the other gate, its timeout counted afresh (R547). -/
def State.efSwitch (s : State) (c : Nat) : State :=
  let now := s.rails.hamada
  let s := s.put (F.EF_STATUS_PATH c) (1 - s.efPath c)
  let s := if s.efState c = Ef.on then
      (s.modEf c (fun e => { e with switched := true, full := true, fullAt := now, leave := some (now + s.efHandOver c),
                                    gateA := true, gateB := true })).took
    else (s.modEf c (fun e => { e with switched := true, full := false, since := now })).efDrive c false
  let s := (s.efSpare c).bump (F.EF_COUNT2_SWITCHES c) 1
  (s.efEvt c 3).spareTookOver (s.ownerOf (48 + c)) (16 + c) c

/-- The driven gate is stuck (R546): a PARALLEL channel switches to a healthy path once per turn-on, else it faults. -/
def State.efStuck (s : State) (c : Nat) : State :=
  let p := s.efPath c
  let par := s.efTopo c == 1
  let s := s.modEf c (fun e => { e with bad := if par then e.bad ||| 2 ^ p else e.bad })
  let s := (s.efFinding c 1 (if par then p else 3) true).efSpare c
  if par && !(s.efc c).switched && !bitAt (s.efc c).bad (1 - p) then s.efSwitch c
  else s.efFault c EfCause.gateStuck

/-! ### Temperature (R551, R552, R616) -/

/-- One thermal term. -/
def thermStep (t p : Rat) (w : Nat) : Rat :=
  let a : Rat := (bitsOf w 16 16 : Rat) / 65536
  t * a + p * (bitsOf w 0 16 : Rat) / 1000 * (1 - a)

/-- A temperature in a signed field of 12 bits in 0.25 degC units, rounded down. -/
def quarterDeg (t : Rat) : Nat := toBits 12 (clampSigned 12 (t * 4).floor)

/-- The FET temperature takes a value: EF_TEMP, thermal cycles, OVERTEMP. -/
def State.efTemp (s : State) (c : Nat) (t : Rat) : State :=
  let s := s.put (F.EF_TEMP_TJ c) (quarterDeg t)
  let e := s.efc c
  let (cycle, one) : (Rat × Option Rat) × Bool :=
    match e.cycle.2 with
    | none => if e.cycle.1 + 30 ≤ t then ((e.cycle.1, some t), false) else ((min e.cycle.1 t, none), false)
    | some m => if t + 30 ≤ m then ((t, none), true) else ((e.cycle.1, some (max m t)), false)
  let s := s.modEf c (fun e => { e with temp := t, cycle := cycle })
  let s := if one then s.bump (F.OA_FET_CYC_c_V c) 1 else s
  if s.efLive c && decide ((bitsOf (s.efCfg c 5) 0 8 : Rat) < t) then s.efFault c EfCause.overtemp else s

/-- One step of the thermal model from the channel's measured means (R551). -/
def State.efModel (s : State) (c : Nat) : State :=
  let v (f : FRef) : Rat := (s.get f * 16 : Nat) / 1000
  let vin := v (F.EF_MEAS_V_VIN c)
  let vout := v (F.EF_MEAS_V_VOUT c)
  let mid := v (F.EF_MEAS_I_MID c)
  let i : Rat := (s.get (F.EF_MEAS_I_I c) : Rat) / 1000
  let p := i * (if s.efTopo c = 1 then vin - vout else max (vin - mid) (mid - vout))
  let t := (s.efc c).terms
  let t1 := thermStep t.1 p (s.efCfg c 6)
  let t2 := thermStep t.2.1 p (s.efCfg c 7)
  let t3 := thermStep t.2.2 p (s.efCfg c 8)
  let s := s.modEf c (fun e => { e with terms := (t1, t2, t3) })
  let tref : Rat := (signedOf 12 (s.get (F.EF_TEMP_TREF c)) : Rat) / 4
  if bitAt (s.efCfg c 0) 3 then s else s.efTemp c (tref + t1 + t2 + t3)

/-- A step of the model, by the chore or, `own`, by the Hamada die's own clock (R552). -/
def State.efStep (s : State) (c : Nat) (own : Bool) : State :=
  ((s.modEf c (fun e => { e with stepAt := s.rails.hamada })).put (F.EF_STATUS_SELF_STEP c) (bit1 own)).efModel c

/-- EFUSE_THERMAL (R552): the chore's model step. -/
def execEfuseThermal (c : Fin 8) (prevOpen : Bool) (s : State) : Res :=
  .next (s.chore 3 c.val prevOpen (fun s => if s.efTopo c = 0 then s else s.efStep c false))

/-- THERMAL_SELF_STEP (R552): no step has arrived for 250 µs of PDA time, two of its ticks, or 125 µs have passed since the last step
of its own. -/
def execThermalSelfStep (c : Fin 8) (s : State) : Res :=
  .next (s.pda (fun s =>
    let due := (s.efc c).stepAt + (if s.flag (F.EF_STATUS_SELF_STEP c) then 1 else 2)
    if s.efTopo c = 0 || decide (s.rails.hamada < due) then s else s.efStep c true))

/-- What a tick boundary brings of a channel: its means of the tick, and the diode's temperature under TEMP_MODE 1. -/
def State.efTick (s : State) (c : Nat) (m : EfMeas) : State :=
  let s := (s.put (F.EF_MEAS_V_VIN c) m.vin.toNat).put (F.EF_MEAS_V_VOUT c) m.vout.toNat
  let s := (s.put (F.EF_MEAS_I_I c) m.cur.toNat).put (F.EF_MEAS_I_MID c) m.mid.toNat
  let s := s.put (F.EF_TEMP_TREF c) m.tref.toNat
  if s.efTopo c != 0 && bitAt (s.efCfg c 0) 3 then s.efTemp c ((signedOf 12 m.diode.toNat : Rat) / 4) else s

/-- The failing gate of a channel that switched in ON turns off when the other has taken over (R547). -/
def State.efLetGo (s : State) (c : Nat) : State :=
  match (s.efc c).leave with
  | some t => if t ≤ s.rails.hamada then (s.modEf c (fun e => { e with leave := none })).efDrive c false else s
  | none => s

/-- Every channel's tick. -/
def State.efTicks (s : State) (ms : List EfMeas) : State :=
  ((ms.zipIdx).foldl (fun s p => if p.2 < 8 then s.efTick p.2 p.1 else s) s).each (List.range 8) State.efLetGo

/-! ### Channel commands -/

/-- EF_CTRL.ON takes a value (R539, R540). -/
def State.efOn (s : State) (c : Nat) (on : Bool) : State :=
  let s := s.put (F.EF_CTRL_ON c) (bit1 on)
  if on then s.efTry c else s.efLose c

/-- EF_CTRL.CLEAR (R549); after SHORTED_FET only in service mode, which the write's rule checks. -/
def State.efClear (s : State) (c : Nat) : State :=
  if s.efState c = Ef.fault && s.efRuns c then ((s.put (F.EF_STATUS_RETRIES c) 0).efTo c Ef.off).efTry c else s

/-- EF_CTRL.ENABLE takes a value (R540). -/
def State.efEnable (s : State) (c : Nat) (on : Bool) : State :=
  let s := s.put (F.EF_CTRL_ENABLE c) (bit1 on)
  if on then s.efTry c else s.efDown c Ef.off

/-- `n` ticks have been counted since the channel entered its state (R540, R541, R549). -/
def State.efCounted (s : State) (c n : Nat) : Bool := decide ((s.efc c).since + n ≤ s.rails.hamada)

/-- INSERTION_DELAY_END (R541): the INS_DELAY-th boundary counted. -/
def execInsertionDelayEnd (c : Fin 8) (s : State) : Res :=
  .next (if s.efRuns c && s.efState c = Ef.delay && s.efCounted c (bitsOf (s.efCfg c 3) 16 16) then
      let s := s.modEf c (fun e => { e with switched := false, full := false })
      (s.efTo c Ef.ramp).efDrive c false
    else s)

/-- SLEW_END (R542): VOUT has reached VIN - 0.5 V and the ramping gate is driven to full. -/
def execSlewEnd (c : Fin 8) (s : State) : Res :=
  .next (s.pda (fun s => if s.efLive c then s.modEf c (fun e => { e with full := true, fullAt := s.rails.hamada }) else s))

/-- SHORTED_B_SAMPLE (R542, R546): MID - VOUT in mV at 2 V of rise; B is then driven to full. -/
def execShortedBSample (c : Fin 8) (mv : Nat) (s : State) : Res :=
  .next (s.pda (fun s => if s.efTopo c = 2 && s.efState c = Ef.ramp then
      let s := if mv < 150 then (s.put (F.EF_STATUS_SHORT_FET c) 2).efFinding c 4 1 true else s
      s.efDrive c true
    else s))

/-- POWER_GOOD_ASSERT (R540, R545): VOUT lies in the window and no episode is in progress. -/
def execPowerGoodAssert (c : Fin 8) (s : State) : Res :=
  .next (s.pda (fun s => if s.flag (F.EF_STATUS_LIMIT c) then s
    else if s.efState c = Ef.ramp then
      let s := s.modEf c (fun e => { e with pgOut := false })
      (((s.efTo c Ef.on).bump (F.EF_COUNT2_ON_CYCLES c) 1).efPg c true).efDrive c true
    else if s.efState c = Ef.on then (s.modEf c (fun e => { e with pgOut := false })).efPg c true
    else s))

/-- VOUT_LEAVES_WINDOW (R540, R545): in RAMP too, where an episode has kept PG false. -/
def execVoutLeavesWindow (c : Fin 8) (s : State) : Res :=
  .next (s.pda (fun s => if s.flag (F.EF_STATUS_PG c) || s.efLive c then (s.modEf c (fun e => { e with pgOut := true })).efPg c false else s))

/-- PG_LOST (R540): VOUT out of the window for FLT_TIME with the current limit not engaged. -/
def execPgLost (c : Fin 8) (s : State) : Res :=
  .next (s.pda (fun s => if s.efLive c && (s.efc c).pgOut && !s.flag (F.EF_STATUS_LIMIT c) then s.efFault c EfCause.pgLost else s))

/-- RAMP_TIMEOUT (R540, R546): RAMP_TO ticks have passed; `fullDrive` says that the gate stands at full drive. -/
def execRampTimeout (c : Fin 8) (fullDrive : Bool) (s : State) : Res :=
  .next (s.pda (fun s => if s.efState c ≠ Ef.ramp || !s.efCounted c (bitsOf (s.efCfg c 4) 0 12) then s
    else if fullDrive && !s.flag (F.EF_STATUS_LIMIT c) then s.efStuck c
    else (s.efFinding c 5 (if s.efTopo c = 1 then s.efPath c else 3) true).efFault c EfCause.rampTimeout))

/-- GATE_RISE_TIMEOUT (R542, R546): GATE_RISE ticks have passed since the gate was put to full drive. -/
def execGateRiseTimeout (c : Fin 8) (s : State) : Res :=
  .next (s.pda (fun s =>
    if s.efLive c && (s.efc c).full && decide ((s.efc c).fullAt + bitsOf (s.efCfg c 4) 12 8 ≤ s.rails.hamada) then s.efStuck c else s))

/-- LIMIT_EPISODE_START (R543). -/
def execLimitEpisodeStart (c : Fin 8) (s : State) : Res :=
  .next (s.pda (fun s => if s.efLive c then s.put (F.EF_STATUS_LIMIT c) 1 else s))

/-- LIMIT_EPISODE_END (R543). -/
def execLimitEpisodeEnd (c : Fin 8) (s : State) : Res := .next (s.pda (fun s => s.put (F.EF_STATUS_LIMIT c) 0))

/-- FAULT_TIMER_EXPIRY (R543). -/
def execFaultTimerExpiry (c : Fin 8) (s : State) : Res :=
  .next (s.pda (fun s => if s.efLive c && s.flag (F.EF_STATUS_LIMIT c) then s.efFault c EfCause.overcurrent else s))

/-- FAST_TRIP (R544): every gate off in every state; RAMP and ON fault with SHORT. -/
def execFastTrip (c : Fin 8) (s : State) : Res :=
  .next (s.pda (fun s =>
    let s := s.bump (F.EF_COUNT_TRIPS c) 1
    if s.efLive c then s.efFault c EfCause.short else s.efGatesOff c))

/-- VIN_OVERVOLTAGE (R540). -/
def execVinOvervoltage (c : Fin 8) (s : State) : Res :=
  .next (s.pda (fun s =>
    let s := s.modEf c (fun e => { e with vinOk := false })
    if s.efRuns c && s.efState c ≠ Ef.fault then s.efFault c EfCause.vinOv else s))

/-- VIN_UNDERVOLTAGE (R540). -/
def execVinUndervoltage (c : Fin 8) (s : State) : Res :=
  .next (s.pda (fun s => (s.modEf c (fun e => { e with vinOk := false })).efLose c))

/-- VIN_WITHIN_RANGE (R540). -/
def execVinWithinRange (c : Fin 8) (s : State) : Res :=
  .next (s.pda (fun s => (s.modEf c (fun e => { e with vinOk := true })).efTry c))

/-- SHORTED_FET_DETECT (R546). A channel already in FAULT stays there, with the new cause and no further entry counted (log entry
164). -/
def execShortedFetDetect (c : Fin 8) (s : State) : Res :=
  let st := s.efState c
  .next (if s.efRuns c && !s.efLive c then
      let series := s.efTopo c == 2
      let s := s.put (F.EF_STATUS_SHORT_FET c) (if series then 1 else 3)
      let s := s.efFinding c 3 (if series then 0 else 3) true
      if st = Ef.fault then s.put (F.EF_STATUS_CAUSE c) EfCause.shortedFet else s.efFault c EfCause.shortedFet
    else s)

/-- DEGRADED_FET (R546): a PARALLEL channel moves to a healthy path; otherwise it keeps running and reports. -/
def execDegradedFet (c : Fin 8) (s : State) : Res :=
  let p := s.efPath c
  let par := s.efTopo c == 1
  .next (s.pda (fun s => if !s.efLive c then s
    else
      let s := s.modEf c (fun e => { e with bad := if par then e.bad ||| 2 ^ p else e.bad })
      let s := (s.put (F.EF_STATUS_DEGRADED c) 1).efFinding c 2 (if par then p else 3) true
      let s := s.efSpare c
      if par && !bitAt (s.efc c).bad (1 - p) then s.efSwitch c else s))

/-- REVERSE_CURRENT (R550). -/
def execReverseCurrent (c : Fin 8) (s : State) : Res :=
  .next (s.pda (fun s => if s.efTopo c = 2 && s.efLive c then
      let s := (s.modEf c (fun e => { e with reverse := true })).put (F.EF_STATUS_CAUSE c) EfCause.reverse
      (s.efFinding c 6 3 false).efDown c Ef.off
    else s))

/-- REVERSE_END (R550). -/
def execReverseEnd (c : Fin 8) (s : State) : Res :=
  .next (s.pda (fun s => (s.modEf c (fun e => { e with reverse := false })).efTry c))

/-- A fault may be retried (R549): RETRY_DELAY ticks have passed since it. -/
def State.efMayRetry (s : State) (c : Nat) : Bool :=
  let cause := s.get (F.EF_STATUS_CAUSE c)
  let w5 := s.efCfg c 5
  bitAt (s.efCfg c 0) 5 && s.efCounted c (bitsOf w5 16 16)
    && decide (s.get (F.EF_STATUS_RETRIES c) < bitsOf (s.efCfg c 0) 12 4)
    && cause != EfCause.shortedFet
    && !(cause == EfCause.gateStuck && (s.efTopo c != 1 || bitAt (s.efc c).bad (1 - s.efPath c)))
    && (cause != EfCause.overtemp
      || decide ((s.efc c).temp < (bitsOf w5 0 8 : Rat) - (bitsOf w5 8 8 : Rat)))

/-- RETRY_DELAY_END (R549): RETRY_DELAY ticks after the fault. -/
def execRetryDelayEnd (c : Fin 8) (s : State) : Res :=
  .next (if s.efRuns c && s.efState c = Ef.fault && s.efMayRetry c then
      ((s.bump (F.EF_STATUS_RETRIES c) 1).efTo c Ef.off).efTry c
    else s)

/-- RETRIES_CLEAR (R549): 8,000 ticks in ON. -/
def execRetriesClear (c : Fin 8) (s : State) : Res :=
  .next (s.pda (fun s => if s.efState c = Ef.on && s.efCounted c 8000 then s.put (F.EF_STATUS_RETRIES c) 0 else s))

/-! ### Load shedding (R602 to R604) -/

/-- Power of a channel in the last tick's means, in units of 16 µW: VOUT times I. -/
def State.efPower (s : State) (c : Nat) : Nat := s.get (F.EF_MEAS_V_VOUT c) * s.get (F.EF_MEAS_I_I c)

/-- A channel is shed (R540, R603). -/
def State.efShed (s : State) (c : Nat) : State :=
  s.efDown c Ef.shed

/-- The channels in ON in the order of the second pass: ascending SHED_PRIO, the higher number first on a tie. -/
def State.shedOrder (s : State) : List Nat :=
  (List.range 15).flatMap (fun pr => ((List.range 8).reverse).filter (fun c => s.efState c == Ef.on && s.efPrio c == pr))

/-- The second pass of R603: the sum runs over every channel that is not shed. -/
def State.shedPass2 (s : State) : State :=
  s.each s.shedOrder (fun s c =>
    let total := ((List.range 8).map (fun d => if s.efState d = Ef.shed then 0 else s.efPower d)).sum
    if total * 16 ≤ s.get F.OA_SHED_BUDGET_W * 1000000 then s else s.efShed c)

/-- The trip: shedding becomes active and both passes run (R602, R603, R622). -/
def State.shedStart (s : State) : State :=
  let s := if s.flag F.OA_STATUS_SHED_ACTIVE then s else s.raise 10 ⟨A.OA_EVT, 5, 1⟩
  let s := (s.put F.OA_STATUS_SHED_ACTIVE 1)
  let s := { s with oa := { s.oa with releasing := false } }
  let s := s.each (List.range 8) (fun s c =>
    if (s.efState c == Ef.delay || s.efState c == Ef.ramp) && decide (s.efPrio c < 15) then s.efShed c else s)
  s.shedPass2

/-- LOCAL_SUPPLY_TRIP (R520, R602, R603): armed ports signal a fast role swap and shedding starts. -/
def execLocalSupplyTrip (s : State) : Res := .next (s.pda (fun s => s.frsTrip.shedStart))

/-- SHED_END (R602, R604): LOCAL_OK has held for RESTORE ticks; the release begins. -/
def execShedEnd (s : State) : Res :=
  .next (if s.flag F.OA_STATUS_SHED_ACTIVE && s.flag F.TC_PWR_LOCAL_OK
        && decide (s.oa.okSince + s.get F.OA_SHED_RESTORE ≤ s.rails.hamada) then
      let s := s.put F.OA_STATUS_SHED_ACTIVE 0
      ({ s with oa := { s.oa with releasing := true } } : State).each (List.range 8) State.efTry
    else s)

/-- Shedding at a tick boundary: the second pass again while active, else one shed channel released in descending
SHED_PRIO, the lower number first on a tie (R603, R604). -/
def State.shedTick (s : State) : State :=
  if s.flag F.OA_STATUS_SHED_ACTIVE then s.shedPass2
  else if !s.oa.releasing then s
  else
    match ((List.range 16).reverse).findSome? (fun pr =>
        firstIx 8 (fun c => s.efState c == Ef.shed && s.efPrio c == pr)) with
    | none => { s with oa := { s.oa with releasing := false } }
    | some c => (s.efTo c Ef.off).efTry c

/-! ### Images (R553) -/

/-- An EFUSE record, or none, is applied; at the first image after a cold reset a channel starts on PRIMARY, ENABLE is 1 if
TOPO is not 0 and ON takes AUTO_ON. `quiet` says that the record's QUIET fields change: the channel starts anew with its
gates off (R94, R537). -/
def State.efApply (s : State) (c : Nat) (body : List Word) (quiet : Bool) : State :=
  let first := !(s.efc c).autoDone
  let s := if quiet && !first then s.efDown c Ef.off else s
  let s := s.each (List.range 10) (fun s w => s.put (F.EF_CFG_w_V c w) (wordAt body w))
  let s := s.put (F.EF_TEMP_SRC c) (bitsOf (wordAt body 0) 3 1)
  let s := if first then
      let s := s.put (F.EF_STATUS_PATH c) (bitsOf (wordAt body 0) 2 1)
      let s := s.modEf c (fun e => { e with autoDone := true })
      s.put (F.EF_CTRL_ON c) (bitsOf (wordAt body 0) 4 1)
    else s
  let s := if first || quiet then (s.put (F.EF_CTRL_ENABLE c) (bit1 (s.efTopo c != 0))).efSpare c else s
  (s.clearance c).efTry c

end Sys2Proof.Machine
end

