-- ==== Sys2Proof/Machine/Regs.lean ====
section
/-! DEFINITION. Machine/Regs.lean: the registers that a write can act on, with the access type and the apply class of each
field (R7, R8, R625 to R628), and the resource of R132 that each belongs to (R638). Every other bit of the space is
read-only or reserved, and a write of it does nothing. -/
namespace Sys2Proof.Machine

/-- Access types of fields that a write acts on (R7). -/
inductive Acc where
  | rw
  | w1c
  | sc
  | wo
deriving DecidableEq, Repr

/-- Apply classes (R8). -/
inductive Cls where
  | live
  | tick
  | frame
  | quiet
deriving DecidableEq, Repr

/-- A field that a write acts on. -/
structure WField where
  lsb : Nat
  width : Nat
  acc : Acc
  cls : Cls
deriving DecidableEq, Repr

/-- A register with such a field, named as the register tables name it, with its instance indices. -/
inductive WReg where
  | sysKeep (n : Nat)
  | iso (u : Nat)
  | pwrState
  | pwrStay
  | pwrTimer
  | pwrEvt
  | brownoutCause
  | timeQual
  | refCtrl
  | refAdjLimit
  | discCtrl
  | discLoop
  | discLimits
  | todOffsetNs
  | todOffsetSecLo
  | todOffsetSecHi
  | timeEvt
  | tickCommit
  | evtMask (n : Nat)
  | fevtMask (n : Nat)
  | fevtClass (n : Nat)
  | evtStorm (n : Nat)
  | evtStormCfg
  | mgmtNpTimeout
  | mgmtOwnChg
  | cvCtrl (h : Nat)
  | cvEvt (h : Nat)
  | cvTunEvt (h : Nat)
  | lgCtrl (g : Nat)
  | lgEvt (g : Nat)
  | lgQual (g : Nat)
  | lgDwell (g : Nat)
  | lgService (g : Nat)
  | lnEyeCtrl (g l : Nat)
  | laneEvt
  | bcEvt
  | bankCtrl
  | portSplit (h : Nat)
  | statCfg
  | statWarn
  | bankW (b e n : Nat)
  | srEvt
  | srSubmitW (i : Nat)
  | srCancelW (i : Nat)
  | srRes (k : Nat)
  | capCtrl (g : Nat)
  | capEvt (g : Nat)
  | capLine (c : Nat)
  | glCtrl (x : Nat)
  | glPeriod (x : Nat)
  | glPhase (x : Nat)
  | hdCtrl (x : Nat)
  | hdEvt (x : Nat)
  | hdPclk (x : Nat)
  | hdHtim (x : Nat)
  | hdHsync (x : Nat)
  | hdVtim (x : Nat)
  | hdVsync (x : Nat)
  | hdBg (x : Nat)
  | hdCommit (x : Nat)
  | hdWait (x : Nat)
  | hdPoolWm (x : Nat)
  | hdLinkCfg (x : Nat)
  | hdAuxReq (x : Nat)
  | hdAuxCtrl (x : Nat)
  | hdAuxData (x i : Nat)
  | lyCtrl (x n : Nat)
  | lyPos (x n : Nat)
  | lySize (x n : Nat)
  | lySrc (x n : Nat)
  | lyPal (x n i : Nat)
  | pxCtrl (p : Nat)
  | pxEvt (p : Nat)
  | ethSwEvt
  | ethAge
  | ethFdbFlush
  | ethPctrl (p : Nat)
  | ethGcl (p : Nat)
  | ethEvt (p : Nat)
  | ethGce (p l i : Nat)
  | sfW0 (i : Nat)
  | sfW1 (i : Nat)
  | sfW2 (i : Nat)
  | gpCtrl (p : Nat)
  | usbCtrl
  | usbCfg
  | ufCtrl (h : Nat)
  | ufEvt (h : Nat)
  | dsCtrl (n : Nat)
  | dsEvt (n : Nat)
  | wdArm (h : Nat)
  | wdPerrPop (h : Nat)
  | wdModEvt
  | wdBusCtrl (b : Nat)
  | wdBusEvt (b : Nat)
  | wdRxCtrl (b : Nat)
  | wdCanFilt (b i : Nat)
  | wdCanMask (b i : Nat)
  | wdModCtrl (m : Nat)
  | tcCtrl (p : Nat)
  | tcEvt (p : Nat)
  | tcFlt (p : Nat)
  | efCtrl (c : Nat)
  | efEvt (c : Nat)
  | oaEvt
  | oaCfg
  | oaLimit
  | oaLimit2
  | oaShed
  | oaNotice
  | errFirstAck
  | errRingPop
deriving DecidableEq, Repr

/-- The key of the register, agent `a`'s own copy where each agent has one (R631). -/
def WReg.key (a : Nat) : WReg → Nat
  | .sysKeep n => A.SYS_KEEP_n n
  | .iso u => A.ISO_u u
  | .pwrState => A.PWR_STATE
  | .pwrStay => A.PWR_STAY
  | .pwrTimer => A.PWR_TIMER
  | .pwrEvt => A.PWR_EVT
  | .brownoutCause => A.BROWNOUT_CAUSE
  | .timeQual => A.TIME_QUAL
  | .refCtrl => A.REF_CTRL
  | .refAdjLimit => A.REF_ADJ_LIMIT
  | .discCtrl => A.DISC_CTRL
  | .discLoop => A.DISC_LOOP
  | .discLimits => A.DISC_LIMITS
  | .todOffsetNs => A.TOD_OFFSET_NS
  | .todOffsetSecLo => A.TOD_OFFSET_SEC_LO
  | .todOffsetSecHi => A.TOD_OFFSET_SEC_HI
  | .timeEvt => A.TIME_EVT
  | .tickCommit => A.TICK_COMMIT a
  | .evtMask n => A.EVT_MASK_n a n
  | .fevtMask n => A.FEVT_MASK_n a n
  | .fevtClass n => A.FEVT_CLASS_n a n
  | .evtStorm n => A.EVT_STORM_n a n
  | .evtStormCfg => A.EVT_STORM_CFG
  | .mgmtNpTimeout => A.MGMT_NP_TIMEOUT
  | .mgmtOwnChg => A.MGMT_OWN_CHG a
  | .cvCtrl h => A.CV_CTRL h
  | .cvEvt h => A.CV_EVT h
  | .cvTunEvt h => A.CV_TUN_EVT h
  | .lgCtrl g => A.LG_CTRL g
  | .lgEvt g => A.LG_EVT g
  | .lgQual g => A.LG_QUAL g
  | .lgDwell g => A.LG_DWELL g
  | .lgService g => A.LG_SERVICE g
  | .lnEyeCtrl g l => A.LN_EYE_CTRL g l
  | .laneEvt => A.LANE_EVT
  | .bcEvt => A.BC_EVT
  | .bankCtrl => A.BANK_CTRL a
  | .portSplit h => A.PORT_SPLIT_h h
  | .statCfg => A.STAT_CFG
  | .statWarn => A.STAT_WARN
  | .bankW b e n => A.BANK_b_e_Wn b e n
  | .srEvt => A.SR_EVT
  | .srSubmitW i => A.SR_SUBMIT_W i
  | .srCancelW i => A.SR_CANCEL_W i
  | .srRes k => A.SR_RES_k k
  | .capCtrl g => A.CAP_CTRL_g g
  | .capEvt g => A.CAP_EVT_g g
  | .capLine c => A.CAP_LINE_c c
  | .glCtrl x => A.GL_CTRL_x x
  | .glPeriod x => A.GL_PERIOD_x x
  | .glPhase x => A.GL_PHASE_x x
  | .hdCtrl x => A.HD_CTRL x
  | .hdEvt x => A.HD_EVT x
  | .hdPclk x => A.HD_PCLK x
  | .hdHtim x => A.HD_HTIM x
  | .hdHsync x => A.HD_HSYNC x
  | .hdVtim x => A.HD_VTIM x
  | .hdVsync x => A.HD_VSYNC x
  | .hdBg x => A.HD_BG x
  | .hdCommit x => A.HD_COMMIT x
  | .hdWait x => A.HD_WAIT x
  | .hdPoolWm x => A.HD_POOL_WM x
  | .hdLinkCfg x => A.HD_LINK_CFG x
  | .hdAuxReq x => A.HD_AUX_REQ x
  | .hdAuxCtrl x => A.HD_AUX_CTRL x
  | .hdAuxData x i => A.HD_AUX_DATA x i
  | .lyCtrl x n => A.LY_CTRL x n
  | .lyPos x n => A.LY_POS x n
  | .lySize x n => A.LY_SIZE x n
  | .lySrc x n => A.LY_SRC x n
  | .lyPal x n i => A.LY_PAL_n_i x n i
  | .pxCtrl p => A.PX_CTRL p
  | .pxEvt p => A.PX_EVT p
  | .ethSwEvt => A.ETH_SW_EVT
  | .ethAge => A.ETH_AGE
  | .ethFdbFlush => A.ETH_FDB_FLUSH
  | .ethPctrl p => A.ETH_PCTRL p
  | .ethGcl p => A.ETH_GCL p
  | .ethEvt p => A.ETH_EVT p
  | .ethGce p l i => A.ETH_GCE p l i
  | .sfW0 i => A.SF_i_W0 i
  | .sfW1 i => A.SF_i_W1 i
  | .sfW2 i => A.SF_i_W2 i
  | .gpCtrl p => A.GP_CTRL_p p
  | .usbCtrl => A.USB_CTRL
  | .usbCfg => A.USB_CFG
  | .ufCtrl h => A.UF_CTRL h
  | .ufEvt h => A.UF_EVT h
  | .dsCtrl n => A.DS_CTRL_n n
  | .dsEvt n => A.DS_EVT_n n
  | .wdArm h => A.WD_ARM_h h
  | .wdPerrPop h => A.WD_PERR_POP_h h
  | .wdModEvt => A.WD_MOD_EVT
  | .wdBusCtrl b => A.WD_BUS_CTRL b
  | .wdBusEvt b => A.WD_BUS_EVT b
  | .wdRxCtrl b => A.WD_RX_CTRL b
  | .wdCanFilt b i => A.WD_CAN_FILT_i b i
  | .wdCanMask b i => A.WD_CAN_MASK_i b i
  | .wdModCtrl m => A.WD_MOD_CTRL m
  | .tcCtrl p => A.TC_CTRL p
  | .tcEvt p => A.TC_EVT p
  | .tcFlt p => A.TC_FLT p
  | .efCtrl c => A.EF_CTRL c
  | .efEvt c => A.EF_EVT c
  | .oaEvt => A.OA_EVT
  | .oaCfg => A.OA_CFG
  | .oaLimit => A.OA_LIMIT
  | .oaLimit2 => A.OA_LIMIT2
  | .oaShed => A.OA_SHED
  | .oaNotice => A.OA_NOTICE
  | .errFirstAck => A.ERR_FIRST_ACK a
  | .errRingPop => A.ERR_RING_POP a

/-- The fields of the register that a write acts on. -/
def WReg.fields : WReg → List WField
  | .sysKeep _ => [⟨0, 32, .rw, .live⟩]
  | .iso _ => [⟨8, 1, .sc, .live⟩, ⟨9, 1, .sc, .live⟩]
  | .pwrState => [⟨8, 1, .w1c, .live⟩]
  | .pwrStay => [⟨0, 1, .rw, .live⟩]
  | .pwrTimer => [⟨0, 24, .rw, .live⟩]
  | .pwrEvt => [⟨0, 1, .w1c, .live⟩, ⟨1, 1, .w1c, .live⟩]
  | .brownoutCause => [⟨0, 1, .w1c, .live⟩, ⟨1, 1, .w1c, .live⟩]
  | .timeQual => [⟨1, 1, .w1c, .live⟩]
  | .refCtrl => [⟨0, 1, .rw, .tick⟩, ⟨1, 2, .rw, .live⟩]
  | .refAdjLimit => [⟨0, 30, .rw, .tick⟩]
  | .discCtrl => [⟨0, 4, .rw, .tick⟩, ⟨4, 4, .rw, .tick⟩, ⟨8, 4, .rw, .tick⟩]
  | .discLoop => [⟨0, 5, .rw, .tick⟩, ⟨8, 5, .rw, .tick⟩, ⟨16, 16, .rw, .tick⟩]
  | .discLimits => [⟨0, 16, .rw, .tick⟩, ⟨16, 16, .rw, .tick⟩]
  | .todOffsetNs => [⟨0, 30, .rw, .tick⟩]
  | .todOffsetSecLo => [⟨0, 32, .rw, .tick⟩]
  | .todOffsetSecHi => [⟨0, 16, .rw, .tick⟩]
  | .timeEvt => [⟨0, 1, .w1c, .live⟩, ⟨1, 1, .w1c, .live⟩, ⟨2, 1, .w1c, .live⟩, ⟨3, 1, .w1c, .live⟩]
  | .tickCommit => [⟨0, 1, .wo, .live⟩, ⟨1, 1, .wo, .live⟩]
  | .evtMask _ => [⟨0, 32, .rw, .live⟩]
  | .fevtMask _ => [⟨0, 32, .rw, .live⟩]
  | .fevtClass _ => [⟨0, 32, .rw, .live⟩]
  | .evtStorm _ => [⟨0, 32, .w1c, .live⟩]
  | .evtStormCfg => [⟨0, 8, .rw, .tick⟩, ⟨8, 16, .rw, .tick⟩]
  | .mgmtNpTimeout => [⟨0, 16, .rw, .tick⟩]
  | .mgmtOwnChg => [⟨0, 1, .w1c, .live⟩]
  | .cvCtrl _ => [⟨0, 1, .rw, .live⟩, ⟨1, 1, .sc, .live⟩]
  | .cvEvt _ => [⟨0, 1, .w1c, .live⟩, ⟨1, 1, .w1c, .live⟩, ⟨2, 1, .w1c, .live⟩, ⟨3, 1, .w1c, .live⟩, ⟨4, 1, .w1c, .live⟩, ⟨5, 1, .w1c, .live⟩, ⟨6, 1, .w1c, .live⟩]
  | .cvTunEvt _ => [⟨0, 1, .w1c, .live⟩, ⟨1, 1, .w1c, .live⟩, ⟨2, 1, .w1c, .live⟩]
  | .lgCtrl _ => [⟨0, 1, .rw, .live⟩]
  | .lgEvt _ => [⟨0, 1, .w1c, .live⟩, ⟨1, 1, .w1c, .live⟩, ⟨2, 1, .w1c, .live⟩, ⟨3, 1, .w1c, .live⟩, ⟨4, 1, .w1c, .live⟩]
  | .lgQual _ => [⟨0, 6, .rw, .tick⟩, ⟨8, 7, .rw, .tick⟩, ⟨16, 6, .rw, .tick⟩, ⟨24, 7, .rw, .tick⟩]
  | .lgDwell _ => [⟨0, 5, .rw, .tick⟩, ⟨8, 5, .rw, .tick⟩, ⟨16, 16, .rw, .tick⟩]
  | .lgService _ => [⟨0, 1, .sc, .live⟩, ⟨1, 4, .sc, .live⟩]
  | .lnEyeCtrl _ _ => [⟨0, 1, .sc, .live⟩, ⟨1, 2, .rw, .live⟩, ⟨8, 6, .rw, .live⟩, ⟨16, 8, .rw, .live⟩, ⟨24, 5, .rw, .live⟩]
  | .laneEvt => [⟨0, 9, .w1c, .live⟩, ⟨10, 9, .w1c, .live⟩, ⟨20, 9, .w1c, .live⟩]
  | .bcEvt => [⟨0, 1, .w1c, .live⟩, ⟨1, 1, .w1c, .live⟩, ⟨2, 1, .w1c, .live⟩, ⟨3, 1, .w1c, .live⟩, ⟨4, 1, .w1c, .live⟩, ⟨5, 1, .w1c, .live⟩]
  | .bankCtrl => [⟨0, 1, .wo, .tick⟩, ⟨8, 1, .wo, .tick⟩, ⟨16, 8, .wo, .tick⟩]
  | .portSplit _ => [⟨0, 2, .rw, .tick⟩]
  | .statCfg => [⟨0, 16, .rw, .tick⟩, ⟨16, 1, .rw, .tick⟩, ⟨20, 4, .rw, .tick⟩]
  | .statWarn => [⟨0, 24, .rw, .tick⟩]
  | .bankW _ _ _ => [⟨0, 32, .rw, .tick⟩]
  | .srEvt => [⟨0, 4, .w1c, .live⟩, ⟨4, 1, .w1c, .live⟩, ⟨8, 1, .w1c, .live⟩, ⟨9, 1, .w1c, .live⟩]
  | .srSubmitW _ => [⟨0, 32, .wo, .live⟩]
  | .srCancelW _ => [⟨0, 32, .wo, .live⟩]
  | .srRes _ => [⟨0, 11, .rw, .tick⟩, ⟨16, 7, .rw, .tick⟩]
  | .capCtrl _ => [⟨0, 1, .rw, .live⟩, ⟨8, 8, .rw, .live⟩, ⟨16, 12, .rw, .live⟩]
  | .capEvt _ => [⟨0, 1, .w1c, .live⟩]
  | .capLine _ => [⟨0, 2, .rw, .live⟩, ⟨4, 6, .rw, .live⟩]
  | .glCtrl _ => [⟨0, 1, .rw, .tick⟩, ⟨4, 8, .rw, .tick⟩, ⟨16, 8, .rw, .tick⟩]
  | .glPeriod _ => [⟨0, 32, .rw, .tick⟩]
  | .glPhase _ => [⟨0, 32, .rw, .tick⟩]
  | .hdCtrl _ => [⟨0, 1, .rw, .live⟩, ⟨4, 1, .rw, .quiet⟩, ⟨8, 1, .rw, .live⟩]
  | .hdEvt _ => [⟨0, 8, .w1c, .live⟩]
  | .hdPclk _ => [⟨0, 16, .rw, .quiet⟩, ⟨16, 16, .rw, .quiet⟩]
  | .hdHtim _ => [⟨0, 13, .rw, .quiet⟩, ⟨16, 13, .rw, .quiet⟩]
  | .hdHsync _ => [⟨0, 13, .rw, .quiet⟩, ⟨16, 9, .rw, .quiet⟩, ⟨31, 1, .rw, .quiet⟩]
  | .hdVtim _ => [⟨0, 13, .rw, .quiet⟩, ⟨16, 13, .rw, .quiet⟩]
  | .hdVsync _ => [⟨0, 13, .rw, .quiet⟩, ⟨16, 9, .rw, .quiet⟩, ⟨31, 1, .rw, .quiet⟩]
  | .hdBg _ => [⟨0, 32, .rw, .frame⟩]
  | .hdCommit _ => [⟨0, 1, .sc, .live⟩, ⟨1, 1, .sc, .live⟩]
  | .hdWait _ => [⟨0, 1, .rw, .live⟩, ⟨8, 8, .rw, .live⟩, ⟨16, 16, .rw, .live⟩]
  | .hdPoolWm _ => [⟨0, 13, .rw, .live⟩]
  | .hdLinkCfg _ => [⟨0, 2, .rw, .live⟩, ⟨4, 3, .rw, .live⟩, ⟨8, 1, .sc, .live⟩]
  | .hdAuxReq _ => [⟨0, 20, .rw, .live⟩, ⟨24, 4, .rw, .live⟩, ⟨28, 4, .rw, .live⟩]
  | .hdAuxCtrl _ => [⟨0, 1, .sc, .live⟩]
  | .hdAuxData _ _ => [⟨0, 32, .rw, .live⟩]
  | .lyCtrl _ _ => [⟨0, 1, .rw, .frame⟩, ⟨1, 1, .rw, .frame⟩, ⟨8, 5, .rw, .frame⟩, ⟨16, 8, .rw, .frame⟩]
  | .lyPos _ _ => [⟨0, 13, .rw, .frame⟩, ⟨16, 13, .rw, .frame⟩]
  | .lySize _ _ => [⟨0, 13, .rw, .frame⟩, ⟨16, 13, .rw, .frame⟩]
  | .lySrc _ _ => [⟨0, 12, .rw, .frame⟩, ⟨16, 12, .rw, .frame⟩]
  | .lyPal _ _ _ => [⟨0, 32, .rw, .frame⟩]
  | .pxCtrl _ => [⟨0, 1, .rw, .live⟩, ⟨1, 1, .rw, .quiet⟩, ⟨2, 1, .rw, .live⟩, ⟨8, 4, .rw, .quiet⟩, ⟨16, 12, .rw, .quiet⟩]
  | .pxEvt _ => [⟨0, 1, .w1c, .live⟩, ⟨1, 1, .w1c, .live⟩, ⟨2, 1, .w1c, .live⟩, ⟨3, 1, .w1c, .live⟩, ⟨4, 1, .w1c, .live⟩, ⟨5, 1, .w1c, .live⟩]
  | .ethSwEvt => [⟨0, 1, .w1c, .live⟩, ⟨1, 1, .w1c, .live⟩]
  | .ethAge => [⟨0, 16, .rw, .tick⟩]
  | .ethFdbFlush => [⟨0, 12, .wo, .live⟩, ⟨16, 1, .wo, .live⟩]
  | .ethPctrl _ => [⟨0, 1, .rw, .live⟩, ⟨1, 1, .rw, .live⟩]
  | .ethGcl _ => [⟨0, 7, .rw, .tick⟩, ⟨8, 7, .rw, .tick⟩]
  | .ethEvt _ => [⟨0, 5, .w1c, .live⟩]
  | .ethGce _ _ _ => [⟨0, 32, .rw, .tick⟩]
  | .sfW0 _ => [⟨0, 3, .rw, .tick⟩, ⟨3, 1, .rw, .tick⟩, ⟨4, 3, .rw, .tick⟩, ⟨8, 12, .rw, .tick⟩, ⟨20, 1, .rw, .tick⟩, ⟨21, 7, .rw, .tick⟩, ⟨28, 1, .rw, .tick⟩, ⟨31, 1, .rw, .tick⟩]
  | .sfW1 _ => [⟨0, 32, .rw, .tick⟩]
  | .sfW2 _ => [⟨0, 16, .rw, .tick⟩, ⟨16, 14, .rw, .tick⟩]
  | .gpCtrl _ => [⟨0, 1, .rw, .tick⟩, ⟨8, 4, .rw, .tick⟩, ⟨16, 16, .rw, .tick⟩]
  | .usbCtrl => [⟨0, 1, .rw, .live⟩]
  | .usbCfg => [⟨0, 8, .rw, .live⟩]
  | .ufCtrl _ => [⟨0, 1, .rw, .live⟩, ⟨1, 1, .rw, .live⟩]
  | .ufEvt _ => [⟨0, 1, .w1c, .live⟩, ⟨1, 1, .w1c, .live⟩, ⟨2, 1, .w1c, .live⟩, ⟨3, 1, .w1c, .live⟩, ⟨4, 1, .w1c, .live⟩]
  | .dsCtrl _ => [⟨0, 1, .sc, .live⟩]
  | .dsEvt _ => [⟨0, 1, .w1c, .live⟩, ⟨1, 1, .w1c, .live⟩, ⟨2, 1, .w1c, .live⟩, ⟨3, 1, .w1c, .live⟩]
  | .wdArm _ => [⟨0, 8, .rw, .live⟩, ⟨8, 1, .rw, .live⟩]
  | .wdPerrPop _ => [⟨0, 1, .wo, .live⟩]
  | .wdModEvt => [⟨0, 32, .w1c, .live⟩]
  | .wdBusCtrl _ => [⟨0, 1, .rw, .live⟩]
  | .wdBusEvt _ => [⟨0, 1, .w1c, .live⟩, ⟨1, 1, .w1c, .live⟩, ⟨2, 1, .w1c, .live⟩, ⟨3, 1, .w1c, .live⟩, ⟨4, 1, .w1c, .live⟩, ⟨5, 1, .w1c, .live⟩]
  | .wdRxCtrl _ => [⟨0, 1, .rw, .live⟩, ⟨4, 12, .rw, .live⟩, ⟨16, 11, .rw, .live⟩]
  | .wdCanFilt _ _ => [⟨0, 29, .rw, .live⟩, ⟨29, 1, .rw, .live⟩, ⟨31, 1, .rw, .live⟩]
  | .wdCanMask _ _ => [⟨0, 29, .rw, .live⟩]
  | .wdModCtrl _ => [⟨0, 1, .wo, .live⟩, ⟨1, 1, .wo, .live⟩, ⟨2, 1, .wo, .live⟩]
  | .tcCtrl _ => [⟨0, 1, .rw, .live⟩, ⟨1, 1, .sc, .live⟩, ⟨4, 1, .sc, .live⟩, ⟨5, 1, .sc, .live⟩, ⟨6, 1, .sc, .live⟩, ⟨7, 1, .sc, .live⟩, ⟨8, 1, .sc, .live⟩]
  | .tcEvt _ => [⟨0, 1, .w1c, .live⟩, ⟨1, 1, .w1c, .live⟩, ⟨2, 1, .w1c, .live⟩, ⟨3, 1, .w1c, .live⟩, ⟨4, 1, .w1c, .live⟩, ⟨5, 1, .w1c, .live⟩]
  | .tcFlt _ => [⟨0, 1, .w1c, .live⟩, ⟨1, 1, .w1c, .live⟩, ⟨2, 1, .w1c, .live⟩, ⟨3, 1, .w1c, .live⟩, ⟨4, 1, .w1c, .live⟩, ⟨5, 1, .w1c, .live⟩, ⟨6, 1, .w1c, .live⟩]
  | .efCtrl _ => [⟨0, 1, .rw, .live⟩, ⟨1, 1, .rw, .live⟩, ⟨2, 1, .sc, .live⟩]
  | .efEvt _ => [⟨0, 1, .w1c, .live⟩, ⟨1, 1, .w1c, .live⟩, ⟨2, 1, .w1c, .live⟩, ⟨3, 1, .w1c, .live⟩, ⟨4, 1, .w1c, .live⟩]
  | .oaEvt => [⟨0, 7, .w1c, .live⟩]
  | .oaCfg => [⟨0, 5, .rw, .tick⟩, ⟨8, 1, .rw, .tick⟩, ⟨9, 3, .rw, .tick⟩, ⟨12, 20, .rw, .tick⟩]
  | .oaLimit => [⟨0, 16, .rw, .tick⟩]
  | .oaLimit2 => [⟨0, 32, .rw, .tick⟩]
  | .oaShed => [⟨0, 10, .rw, .tick⟩, ⟨16, 16, .rw, .tick⟩]
  | .oaNotice => [⟨0, 19, .w1c, .live⟩]
  | .errFirstAck => [⟨0, 1, .wo, .live⟩]
  | .errRingPop => [⟨0, 1, .wo, .live⟩]

/-- The indices that an offset gives in rows of (count, stride), if it falls on one. -/
def ixOf : Nat → List (Nat × Nat) → Option (List Nat)
  | off, [] => if off = 0 then some [] else none
  | off, (n, st) :: t => if off / st < n then (ixOf (off % st) t).map (off / st :: ·) else none

/-- Piece 0 of the table of addresses: base, (count, stride) rows, register. -/
def wregTable0 : List (Nat × List (Nat × Nat) × (List Nat → WReg)) :=
  [(0x20, [(4, 0x4)], fun i => .sysKeep (i.getD 0 0)),
   (0x400, [(24, 0x4)], fun i => .iso (i.getD 0 0)),
   (0x500, [], fun _ => .pwrState),
   (0x504, [], fun _ => .pwrStay),
   (0x518, [], fun _ => .pwrTimer),
   (0x51C, [], fun _ => .pwrEvt),
   (0x540, [], fun _ => .brownoutCause),
   (0x10014, [], fun _ => .timeQual),
   (0x10020, [], fun _ => .refCtrl),
   (0x1002C, [], fun _ => .refAdjLimit),
   (0x10030, [], fun _ => .discCtrl),
   (0x10034, [], fun _ => .discLoop),
   (0x10038, [], fun _ => .discLimits),
   (0x10044, [], fun _ => .todOffsetNs),
   (0x10048, [], fun _ => .todOffsetSecLo),
   (0x1004C, [], fun _ => .todOffsetSecHi),
   (0x10050, [], fun _ => .timeEvt),
   (0x20100, [], fun _ => .tickCommit),
   (0x30040, [(8, 0x4)], fun i => .evtMask (i.getD 0 0)),
   (0x30080, [(8, 0x4)], fun i => .fevtMask (i.getD 0 0)),
   (0x300A0, [(8, 0x4)], fun i => .fevtClass (i.getD 0 0)),
   (0x300C0, [(8, 0x4)], fun i => .evtStorm (i.getD 0 0)),
   (0x300E0, [], fun _ => .evtStormCfg),
   (0x40004, [], fun _ => .mgmtNpTimeout),
   (0x40008, [], fun _ => .mgmtOwnChg),
   (0x100000, [(4, 0x10000)], fun i => .cvCtrl (i.getD 0 0)),
   (0x100008, [(4, 0x10000)], fun i => .cvEvt (i.getD 0 0)),
   (0x100104, [(4, 0x10000)], fun i => .cvTunEvt (i.getD 0 0)),
   (0x200000, [(9, 0x8000)], fun i => .lgCtrl (i.getD 0 0)),
   (0x200008, [(9, 0x8000)], fun i => .lgEvt (i.getD 0 0)),
   (0x20000C, [(9, 0x8000)], fun i => .lgQual (i.getD 0 0)),
   (0x200010, [(9, 0x8000)], fun i => .lgDwell (i.getD 0 0))]

/-- Piece 1 of the table of addresses: base, (count, stride) rows, register. -/
def wregTable1 : List (Nat × List (Nat × Nat) × (List Nat → WReg)) :=
  [(0x200014, [(9, 0x8000)], fun i => .lgService (i.getD 0 0)),
   (0x200118, [(9, 0x8000), (4, 0x40)], fun i => .lnEyeCtrl (i.getD 0 0) (i.getD 1 0)),
   (0x278000, [], fun _ => .laneEvt),
   (0x300004, [], fun _ => .bcEvt),
   (0x300008, [], fun _ => .bankCtrl),
   (0x300010, [(4, 0x4)], fun i => .portSplit (i.getD 0 0)),
   (0x300020, [], fun _ => .statCfg),
   (0x300024, [], fun _ => .statWarn),
   (0x304000, [(2, 0x2000), (468, 0x10), (4, 0x4)], fun i => .bankW (i.getD 0 0) (i.getD 1 0) (i.getD 2 0)),
   (0x340004, [], fun _ => .srEvt),
   (0x340010, [(4, 0x4)], fun i => .srSubmitW (i.getD 0 0)),
   (0x340028, [(2, 0x4)], fun i => .srCancelW (i.getD 0 0)),
   (0x340100, [(56, 0x4)], fun i => .srRes (i.getD 0 0)),
   (0x340400, [(4, 0x40)], fun i => .capCtrl (i.getD 0 0)),
   (0x340408, [(4, 0x40)], fun i => .capEvt (i.getD 0 0)),
   (0x340500, [(32, 0x4)], fun i => .capLine (i.getD 0 0)),
   (0x340600, [(2, 0x20)], fun i => .glCtrl (i.getD 0 0)),
   (0x340604, [(2, 0x20)], fun i => .glPeriod (i.getD 0 0)),
   (0x340608, [(2, 0x20)], fun i => .glPhase (i.getD 0 0)),
   (0x410000, [(2, 0x10000)], fun i => .hdCtrl (i.getD 0 0)),
   (0x410008, [(2, 0x10000)], fun i => .hdEvt (i.getD 0 0)),
   (0x410010, [(2, 0x10000)], fun i => .hdPclk (i.getD 0 0)),
   (0x410014, [(2, 0x10000)], fun i => .hdHtim (i.getD 0 0)),
   (0x410018, [(2, 0x10000)], fun i => .hdHsync (i.getD 0 0)),
   (0x41001C, [(2, 0x10000)], fun i => .hdVtim (i.getD 0 0)),
   (0x410020, [(2, 0x10000)], fun i => .hdVsync (i.getD 0 0)),
   (0x410024, [(2, 0x10000)], fun i => .hdBg (i.getD 0 0)),
   (0x410028, [(2, 0x10000)], fun i => .hdCommit (i.getD 0 0)),
   (0x41002C, [(2, 0x10000)], fun i => .hdWait (i.getD 0 0)),
   (0x41003C, [(2, 0x10000)], fun i => .hdPoolWm (i.getD 0 0)),
   (0x410080, [(2, 0x10000)], fun i => .hdLinkCfg (i.getD 0 0)),
   (0x410088, [(2, 0x10000)], fun i => .hdAuxReq (i.getD 0 0))]

/-- Piece 2 of the table of addresses: base, (count, stride) rows, register. -/
def wregTable2 : List (Nat × List (Nat × Nat) × (List Nat → WReg)) :=
  [(0x41008C, [(2, 0x10000)], fun i => .hdAuxCtrl (i.getD 0 0)),
   (0x410094, [(2, 0x10000), (4, 0x4)], fun i => .hdAuxData (i.getD 0 0) (i.getD 1 0)),
   (0x410100, [(2, 0x10000), (8, 0x20)], fun i => .lyCtrl (i.getD 0 0) (i.getD 1 0)),
   (0x410104, [(2, 0x10000), (8, 0x20)], fun i => .lyPos (i.getD 0 0) (i.getD 1 0)),
   (0x410108, [(2, 0x10000), (8, 0x20)], fun i => .lySize (i.getD 0 0) (i.getD 1 0)),
   (0x41010C, [(2, 0x10000), (8, 0x20)], fun i => .lySrc (i.getD 0 0) (i.getD 1 0)),
   (0x411000, [(2, 0x10000), (8, 0x400), (256, 0x4)], fun i => .lyPal (i.getD 0 0) (i.getD 1 0) (i.getD 2 0)),
   (0x500000, [(2, 0x1000)], fun i => .pxCtrl (i.getD 0 0)),
   (0x500008, [(2, 0x1000)], fun i => .pxEvt (i.getD 0 0)),
   (0x600004, [], fun _ => .ethSwEvt),
   (0x600008, [], fun _ => .ethAge),
   (0x60000C, [], fun _ => .ethFdbFlush),
   (0x600100, [(4, 0x40)], fun i => .ethPctrl (i.getD 0 0)),
   (0x600108, [(4, 0x40)], fun i => .ethGcl (i.getD 0 0)),
   (0x60010C, [(4, 0x40)], fun i => .ethEvt (i.getD 0 0)),
   (0x601000, [(4, 0x400), (2, 0x200), (64, 0x4)], fun i => .ethGce (i.getD 0 0) (i.getD 1 0) (i.getD 2 0)),
   (0x602000, [(128, 0x10)], fun i => .sfW0 (i.getD 0 0)),
   (0x602004, [(128, 0x10)], fun i => .sfW1 (i.getD 0 0)),
   (0x602008, [(128, 0x10)], fun i => .sfW2 (i.getD 0 0)),
   (0x604000, [(4, 0x40)], fun i => .gpCtrl (i.getD 0 0)),
   (0x700000, [], fun _ => .usbCtrl),
   (0x700004, [], fun _ => .usbCfg),
   (0x700100, [(4, 0x40)], fun i => .ufCtrl (i.getD 0 0)),
   (0x700108, [(4, 0x40)], fun i => .ufEvt (i.getD 0 0)),
   (0x700404, [(8, 0x40)], fun i => .dsCtrl (i.getD 0 0)),
   (0x70040C, [(8, 0x40)], fun i => .dsEvt (i.getD 0 0)),
   (0x800000, [(4, 0x40)], fun i => .wdArm (i.getD 0 0)),
   (0x800008, [(4, 0x40)], fun i => .wdPerrPop (i.getD 0 0)),
   (0x800F00, [], fun _ => .wdModEvt),
   (0x801000, [(20, 0x100)], fun i => .wdBusCtrl (i.getD 0 0)),
   (0x801008, [(20, 0x100)], fun i => .wdBusEvt (i.getD 0 0)),
   (0x80100C, [(20, 0x100)], fun i => .wdRxCtrl (i.getD 0 0))]

/-- Piece 3 of the table of addresses: base, (count, stride) rows, register. -/
def wregTable3 : List (Nat × List (Nat × Nat) × (List Nat → WReg)) :=
  [(0x801040, [(20, 0x100), (8, 0x8)], fun i => .wdCanFilt (i.getD 0 0) (i.getD 1 0)),
   (0x801044, [(20, 0x100), (8, 0x8)], fun i => .wdCanMask (i.getD 0 0) (i.getD 1 0)),
   (0x803004, [(8, 0x100)], fun i => .wdModCtrl (i.getD 0 0)),
   (0x900000, [(4, 0x1000)], fun i => .tcCtrl (i.getD 0 0)),
   (0x900020, [(4, 0x1000)], fun i => .tcEvt (i.getD 0 0)),
   (0x900024, [(4, 0x1000)], fun i => .tcFlt (i.getD 0 0)),
   (0xA00000, [(8, 0x100)], fun i => .efCtrl (i.getD 0 0)),
   (0xA00008, [(8, 0x100)], fun i => .efEvt (i.getD 0 0)),
   (0xB00000, [], fun _ => .oaEvt),
   (0xB00008, [], fun _ => .oaCfg),
   (0xB0000C, [], fun _ => .oaLimit),
   (0xB00010, [], fun _ => .oaLimit2),
   (0xB00014, [], fun _ => .oaShed),
   (0xB00020, [], fun _ => .oaNotice),
   (0xC00010, [], fun _ => .errFirstAck),
   (0xC00030, [], fun _ => .errRingPop)]

/-- The register with a writable field at an address of the management space, if any. -/
def wregAt (addr : Nat) : Option WReg :=
  (wregTable0 ++ wregTable1 ++ wregTable2 ++ wregTable3).findSome? (fun e =>
    if addr < e.1 then none else (ixOf (addr - e.1) e.2.1).map e.2.2)

/-- The resource of R132 that a filter of the switch belongs to: the external port that PORT names (R420). -/
def State.sfRes (s : State) (i : Nat) : Nat := if s.get (F.SF_i_W0_PORT i) < 4 then 4 + s.get (F.SF_i_W0_PORT i) else 63

/-- The resource of R132 that a register belongs to, 63 where it belongs to none (R315, R638). -/
def State.regRes (s : State) : WReg → Nat
  | .bankW _ e _ => s.entryRes e
  | .capCtrl g => 32 + g
  | .capEvt g => 32 + g
  | .capLine c => 32 + c / 8
  | .glCtrl x => x
  | .glPeriod x => x
  | .glPhase x => x
  | .hdCtrl x => x
  | .hdEvt x => x
  | .hdPclk x => x
  | .hdHtim x => x
  | .hdHsync x => x
  | .hdVtim x => x
  | .hdVsync x => x
  | .hdBg x => x
  | .hdCommit x => x
  | .hdWait x => x
  | .hdPoolWm x => x
  | .hdLinkCfg x => x
  | .hdAuxReq x => x
  | .hdAuxCtrl x => x
  | .hdAuxData x _ => x
  | .lyCtrl x _ => x
  | .lyPos x _ => x
  | .lySize x _ => x
  | .lySrc x _ => x
  | .lyPal x _ _ => x
  | .pxCtrl p => 2 + p
  | .pxEvt p => 2 + p
  | .ethPctrl p => 4 + p
  | .ethGcl p => 4 + p
  | .ethEvt p => 4 + p
  | .ethGce p _ _ => 4 + p
  | .sfW0 i => s.sfRes i
  | .sfW1 i => s.sfRes i
  | .sfW2 i => s.sfRes i
  | .wdRxCtrl b => 8 + b
  | .wdCanFilt b _ => 8 + b
  | .wdCanMask b _ => 8 + b
  | .dsCtrl n => 40 + n
  | .dsEvt n => 40 + n
  | .efCtrl c => 48 + c
  | .efEvt c => 48 + c
  | .wdBusCtrl b => 8 + b
  | .wdBusEvt b => 8 + b
  | _ => 63

/-- The isolation unit that a register address belongs to (R571, R572). -/
def addrUnit (addr : Nat) : Option Nat :=
  if 0x100000 ≤ addr && addr < 0x140000 then some ((addr - 0x100000) / 0x10000)
  else if 0x200000 ≤ addr && addr < 0x248000 then some ((addr - 0x200000) / 0x8000)
  else if 0x410000 ≤ addr && addr < 0x430000 then some (9 + (addr - 0x410000) / 0x10000)
  else if 0x500000 ≤ addr && addr < 0x502000 then some (11 + (addr - 0x500000) / 0x1000)
  else if 0x600000 ≤ addr && addr < 0x700000 then some 13
  else if 0x700000 ≤ addr && addr < 0x800000 then some 14
  else if 0x800000 ≤ addr && addr < 0x900000 then some 15
  else if 0xA00000 ≤ addr && addr < 0xA00800 then some (16 + (addr - 0xA00000) / 0x100)
  else if 0x40000000 ≤ addr && addr < 0x80000000 then some 15
  else none

end Sys2Proof.Machine
end

