-- ==== Sys2Proof/Machine/Modules.lean ====
section
/-! DEFINITION. Machine/Modules.lean: sideband polling and module identity (R482 to R493). -/
namespace Sys2Proof.Machine

def State.modSlot (s : State) (m : Nat) : ModSlot := vAt s.wd.mods m
def State.setSlot (s : State) (m : Nat) (f : ModSlot → ModSlot) : State :=
  { s with wd := { s.wd with mods := vMod s.wd.mods m f } }

/-! STATE codes of WD_MOD_STATUS (R495). -/
namespace Md
def empty : Nat := 0
def reading : Nat := 1
def await : Nat := 2
def accepted : Nat := 3
def rejected : Nat := 4
def fault : Nat := 5
end Md

/-- Word `i` of a slot's MODULE_CLASSES words in force (R486). -/
def State.mdCfg (s : State) (m i : Nat) : Nat := s.get (F.WD_MOD_CFG_V m i)
/-- STATE of a slot. -/
def State.mdState (s : State) (m : Nat) : Nat := s.get (F.WD_MOD_STATUS_STATE m)
/-- The e-fuse channel a slot names, 15 none. -/
def State.mdEf (s : State) (m : Nat) : Nat := bitsOf (s.mdCfg m 0) 8 4
/-- The approver of a slot (R493). -/
def State.approver (s : State) (m : Nat) : Nat := if s.mdEf m = 15 then s.ownerOf (8 + m) else s.ownerOf (48 + s.mdEf m)

/-- A slot takes a state: a change sets its bit of WD_MOD_EVT (R491, R494). -/
def State.mdTo (s : State) (m st : Nat) : State :=
  if s.mdState m = st then s else (s.put (F.WD_MOD_STATUS_STATE m) st).raise 173 ⟨A.WD_MOD_EVT, m, 1⟩

/-- The channel a slot names follows R492. -/
def State.mdClear (s : State) (m : Nat) : State := if s.mdEf m < 8 then s.clearance (s.mdEf m) else s

/-- Lines of a slot as read, after INVERT; rises of its sources are counted (R482). -/
def State.mdLines (s : State) (m v : Nat) : State :=
  let old := s
  let s := s.put (F.WD_MOD_STATUS_LINES m) v
  s.each (List.range 8) (fun s i =>
    if !old.srcLevel (176 + 8 * m + i) && s.srcLevel (176 + 8 * m + i) then s.noteRise (176 + 8 * m + i) else s)

/-- The record's words, and its bytes. -/
def State.mdRec (s : State) (m i : Nat) : Nat := s.get (F.WD_MOD_REC_i_V m i)
def State.mdBytes (s : State) (m : Nat) : List Byte := (List.range 31).flatMap (fun i => wordBytes (w32 (s.mdRec m i)))

/-- The first failed check of R489, 0 where all pass. -/
def State.mdCheck (s : State) (m : Nat) : Nat :=
  let w1 := s.mdRec m 1
  let cls := bitsOf w1 8 8
  let vnom := bitsOf (s.mdCfg m 1) 16 16
  let vmin := bitsOf (s.mdRec m 14) 0 16
  let vmax := bitsOf (s.mdRec m 14) 16 16
  if s.mdRec m 0 ≠ 0x5A484944 then 1
  else if bitsOf w1 0 8 ≠ 1 then 2
  else if s.mdRec m 31 ≠ crc32 (s.mdBytes m) then 3
  else if !(List.range 4).any (fun i => cls != 0 && bitsOf (s.mdCfg m 2) (8 * i) 8 == cls) then 4
  else if !(decide (vmin ≤ vnom) && decide (vnom ≤ vmax)
      && decide (bitsOf (s.mdRec m 15) 0 16 ≤ bitsOf (s.mdCfg m 3) 0 16)) then 5
  else if bitsOf (s.mdCfg m 3) 16 16 < bitsOf (s.mdRec m 15) 16 16 then 6
  else 0

/-- CRC and SERIAL of the record read (R490). -/
def State.mdDigest (s : State) (m : Nat) : Nat × Nat :=
  (s.mdRec m 31, s.mdRec m 10 + 2 ^ 32 * s.mdRec m 11 + 2 ^ 64 * s.mdRec m 12 + 2 ^ 96 * s.mdRec m 13)

/-- REJECTED with a cause. -/
def State.mdReject (s : State) (m cause : Nat) : State :=
  ((s.put (F.WD_MOD_STATUS_CAUSE m) cause).bump (F.WD_MOD_COUNT_REJECTS m) 1).mdTo m Md.rejected

/-- The record is read: the checks and the state they lead to (R489 to R491). -/
def State.mdJudge (s : State) (m : Nat) : State :=
  let s := s.put (F.WD_MOD_STATUS_VALID m) 1
  let s := s.setSlot m (fun d => { d with confirm := false })
  let cause := s.mdCheck m
  if cause ≠ 0 then s.mdReject m cause
  else
    let same := (s.modSlot m).digest == some (s.mdDigest m)
    let s := s.put (F.WD_MOD_STATUS_CHANGED m) (bit1 (!same))
    if same then s.mdTo m Md.accepted
    else if bitAt (s.mdCfg m 0) 4 then
      (s.setSlot m (fun d => { d with digest := some (s.mdDigest m) })).mdTo m Md.accepted
    else s.mdTo m Md.await

/-- One identity piece: read, or failed (R488, R491). -/
def State.mdPiece (s : State) (m : Nat) (piece : Option (BitVec 128)) : State :=
  let k := (s.modSlot m).piece
  match piece with
  | none =>
    let n := (s.modSlot m).fails + 1
    let s := s.setSlot m (fun d => { d with fails := n })
    if 3 ≤ n then
      (s.setSlot m (fun d => { d with confirm := false, fails := 0 })).put (F.WD_MOD_STATUS_CAUSE m) 7 |>.mdTo m Md.fault
    else s
  | some v =>
    let s := s.each (List.range 4) (fun s i => s.put (F.WD_MOD_REC_i_V m (4 * k + i)) (bitsOf v.toNat (32 * i) 32))
    let s := s.setSlot m (fun d => { d with fails := 0, piece := k + 1 })
    if k = 7 then s.mdJudge m else s

/-- A slot begins to read its record from piece 0. -/
def State.mdRead (s : State) (m : Nat) (ready : Bool) : State :=
  (s.setSlot m (fun d => { d with piece := 0, fails := 0, ready := ready })).mdTo m Md.reading

/-- A slot is in use for polling (R483): enabled, with lines to read and a MODULE_CLASSES record. -/
def State.mdPolled (s : State) (m : Nat) : Bool :=
  s.hasRec 0x13 0 && bitAt (s.mdCfg m 0) 0 && bitsOf (s.mdCfg m 0) 1 2 != 0

/-- A read that a poll puts on the slot's bus: `cnt` bytes from register `sub` of a target (R458, R483, R488). -/
def State.mdAsk (s : State) (m target sub cnt : Nat) : State :=
  s.emit (.field m (0x40000000 + 2 ^ 25 * m + 2 ^ 18 * target + 2 ^ 17 + 2 ^ 9 * sub + 4 * (cnt - 1)) cnt [])

/-- The lines of GP group GP_GROUP of a slot: driven balls as driven, the others as `ext` finds them (R483). -/
def State.mdGroup (s : State) (m : Nat) (ext : BitVec 8) : BitVec 8 :=
  let g := bitsOf (s.mdCfg m 0) 12 2
  BitVec.ofNat 8 (maskOf 8 (fun i =>
    let n := 8 * g + i
    if s.gpOut n && !(s.gpOd n && bitAt s.wd.gp n) then bitAt s.wd.gp n else bitAt ext.toNat i))

/-- The line read of a poll: of a GP group without bus time, or by an I²C read of SB_REG of SB_ADDR, which fails on a stopped bus
(R483). -/
def State.mdSense (s : State) (m : Nat) (lines : Option (BitVec 8)) : Option (BitVec 8) × State :=
  if bitsOf (s.mdCfg m 0) 1 2 = 1 then (some (s.mdGroup m (lines.getD (BitVec.ofNat 8 (s.freeVal 8)))), s.took)
  else if s.busRuns m then (lines, s.mdAsk m (bitsOf (s.mdCfg m 1) 0 7) (bitsOf (s.mdCfg m 1) 8 8) 1)
  else (none, s)

/-- The identity piece of a poll: 16 bytes of target 0x50 from SUB 16k, which fail on a stopped bus (R485, R488). -/
def State.mdFetch (s : State) (m : Nat) (piece : Option (BitVec 128)) : State :=
  if s.busRuns m then (s.mdAsk m 0x50 (16 * (s.modSlot m).piece) 16).mdPiece m piece else s.mdPiece m none

/-- What a poll does with the slot's lines (R483, R491): `lines` is what the line read found before INVERT, or the levels at the balls
of a GP group, none where it failed. -/
def State.mdLook (s : State) (m : Nat) (lines : Option (BitVec 8)) : State :=
  let w0 := s.mdCfg m 0
  let (read, s) := s.mdSense m lines
  match read with
  | none => s
  | some v =>
    let s := s.mdLines m (v.toNat ^^^ bitsOf w0 24 8)
    let here := s.present m
    if bitAt w0 3 then
      if here && s.mdState m == Md.empty then
        (s.bump (F.WD_MOD_COUNT_INSERTS m) 1).mdRead m true
      else if !here then
        let s := s.setSlot m (fun d => { d with confirm := false, ready := false, piece := 0, fails := 0 })
        (s.put (F.WD_MOD_STATUS_VALID m) 0).mdTo m Md.empty
      else s
    else s.setSlot m (fun d => { d with confirm := false })

/-- A run is to read an identity piece (R488). -/
def State.mdReads (s : State) (m : Nat) : Bool := bitAt (s.mdCfg m 0) 3 && s.mdState m == Md.reading && (s.modSlot m).ready

/-- One poll of a module slot on its idle bus (R483, R488, R491): the lines, unless this is the part of a run whose lines a GP group
gave before, then the identity piece where one is due: `piece`, byte 0 in the low bits, none where its read failed. -/
def State.mdPoll (s : State) (m : Nat) (look : Bool) (lines : Option (BitVec 8)) (piece : Option (BitVec 128)) : State :=
  if !s.mdPolled m || !s.unitRuns 15 then s
  else
    let reads := s.mdReads m
    let s := if look then s.mdLook m lines else s
    let s := if reads && s.mdState m == Md.reading then s.mdFetch m piece else s
    s.mdClear m

/-- A run of the poll chore: its transfers start when the bus is idle, else once the transaction in progress, or a KEEP pair, ends. A GP
group's lines need no bus (R483). -/
def State.mdRun (s : State) (m : Nat) (lines : Option (BitVec 8)) (piece : Option (BitVec 128)) : State :=
  let wait := fun (s : State) => s.setSlot m (fun d => { d with waits := d.waits ++ [(lines, piece)] })
  if (s.fb m).cur.isNone && (s.fb m).keep.isNone then s.mdPoll m true lines piece
  else if !s.mdPolled m || !s.unitRuns 15 then s
  else if bitsOf (s.mdCfg m 0) 1 2 = 1 then
    let reads := s.mdReads m
    ((s.mdLook m lines).mdClear m).iff reads wait
  else wait s

/-- The poll runs that wait for bus `b` go ahead of every queued transaction once it is idle (R483). -/
def State.mdWaiting (s : State) (b : Nat) : State :=
  if 8 ≤ b || (s.fb b).keep.isSome then s
  else
    let look := bitsOf (s.mdCfg b 0) 1 2 != 1
    (s.modSlot b).waits.foldl (fun s w => s.mdPoll b look w.1 w.2) (s.setSlot b (fun d => { d with waits := [] }))

/-- SIDEBAND_POLL (R483, R488, R491). The transfers of a run end within the step (DESIGN CHOICE, log entry 160). -/
def execSidebandPoll (m : Fin 8) (prevOpen : Bool) (lines : Option (BitVec 8)) (piece : Option (BitVec 128)) (s : State) :
    Res :=
  .next (s.chore 1 (257 * m.val) prevOpen (fun s => s.mdRun m lines piece))

/-! ### The end of a transfer (R463 to R465, R483) -/

/-- FIELD_TRANSACTION_END (R463 to R465, R471): the transfer in progress ends with `cause` (0 OK) after `done` bytes;
`data` is what a read returned. -/
def execFieldTransactionEnd (b : Fin 20) (cause : Fin 8) (done : BitVec 16) (data : List Byte) (s : State) : Res :=
  .next (match (s.fb b).cur with
    | none => s
    | some t =>
      let s := s.modFb b (fun f => { f with cur := none })
      let s := s.bump (F.WD_TX_COUNT_COUNT b) 1
      let s := if cause = 0 then
          (let s := if t.posted then s.postedDone t.agent
            else if t.orphan then s
            else if t.write then s.complete t.agent t.tag R.ok [w32 (ceilDiv t.bytes.length 4)]
            else
              let cnt := fieldCnt t.addr t.write
              let bs := (data ++ List.replicate cnt 0).take cnt
              s.complete t.agent t.tag R.ok (bytesWords (bs ++ [0, 0, 0]))
           if fieldKeep t.addr t.write then
             s.modFb b (fun f => { f with keep := some ⟨t.id, t.agent, bitsOf t.addr 23 2, s.clock.time⟩ })
           else s)
        else
          let s := if cause = 3 then s.busEvt b 0 else if cause = 4 then s.busEvt b 1 else s
          s.fieldFail b t cause done.toNat
      ((s.busRegs b).mdWaiting b).fieldStart b false 16)

/-- KEEP_TIMEOUT (R465): 20 µs after a KEEP transaction with no follower accepted, the bus transaction ends with STOP or
CS high. -/
def execKeepTimeout (b : Fin 20) (s : State) : Res :=
  .next (match (s.fb b).keep with
    | none => s
    | some k =>
      if (s.fb b).queue.any (fun t => t.follower == some k.id) then s
      else (((s.advanceTo (k.at_ + 20000)).modFb b (fun f => { f with keep := none })).mdWaiting b).fieldStart b false 16)

/-- APPROVE (R491). -/
def State.mdApprove (s : State) (m : Nat) : State :=
  if s.mdState m = Md.await then
    ((s.setSlot m (fun d => { d with digest := some (s.mdDigest m) })).mdTo m Md.accepted).mdClear m
  else s

/-- REJECT (R491). -/
def State.mdRefuse (s : State) (m : Nat) : State :=
  if s.mdState m = Md.await then (s.mdReject m 8).mdClear m else s

/-- RECHECK (R491). -/
def State.mdRecheck (s : State) (m : Nat) : State :=
  let st := s.mdState m
  if st = Md.accepted || st = Md.rejected || st = Md.fault then (s.mdRead m true).mdClear m else s

/-- A MODULE_CLASSES record, or none, is applied: a slot out of use reads 0 (R482, R486). -/
def State.mdApply (s : State) (body : List Word) : State :=
  let s := s.each (List.range 8) (fun s m =>
    let s := s.each (List.range 4) (fun s i => s.put (F.WD_MOD_CFG_V m i) (wordAt body (4 * m + i)))
    let w0 := wordAt body (4 * m)
    let s := if bitAt w0 0 && bitsOf w0 1 2 != 0 then s else s.mdLines m 0
    if bitAt w0 0 && bitAt w0 3 then s
    else ((s.put (F.WD_MOD_STATUS_VALID m) 0).mdTo m Md.empty))
  s.each (List.range 8) State.clearance

end Sys2Proof.Machine
end

