-- ==== Sys2Proof/Machine/Ledger.lean ====
section
/-! DEFINITION. Machine/Ledger.lean: the slot ledger (R66 to R70, R111 to R113, R313): the sums of reservations that a
state's registers hold, the sums an image must declare, the limits, and the registers that report them. A load, a patch
and a register commit are judged on the state that holds their values. -/
namespace Sys2Proof.Machine

/-! ### Capacity of a Caravan direction (R67, R68) -/

/-- A CARAVAN_PORT word selects FEC for a gear, always so in Gear P (R68, R259). -/
def cfgFec (w0 g : Nat) : Bool := g == 3 || (g == 2 && bitAt w0 2) || (g == 1 && bitAt w0 3)

/-- The smallest bytes per pair per tick at any gear from MAX_GEAR down to Gear L (R68). -/
def leastPair (w0 : Nat) : Nat :=
  (List.range (bitsOf w0 0 2)).foldl (fun m i => min m (pairBytes (i + 1) (cfgFec w0 (i + 1))))
    (pairBytes (bitsOf w0 0 2) (cfgFec w0 (bitsOf w0 0 2)))

/-- The UP pair counts of the splits that a CARAVAN_PORT word permits (R259), in the order that ties of R320 prefer. -/
def splitUps (w0 : Nat) : List Nat :=
  (if bitAt w0 5 then [2] else []) ++ (if bitAt w0 4 then [3] else []) ++ (if bitAt w0 6 then [1] else [])

/-- The largest width that a permitted split gives a direction: 1 UP, 0 DOWN (R112). -/
def splitWidth (w0 d : Nat) : Nat := (splitUps w0).foldl (fun m u => max m (if d = 1 then u else 4 - u)) 0

/-- 90 % of the capacity of `n` pairs, rounded down (R67). -/
def linkLimit (n bytes : Nat) : Nat := n * bytes * 9 / 10

/-! ### Sums -/

/-- Which bank a sum takes: one bank, the larger of each queue's two, or the bank each selector has in force. -/
inductive BankUse where
  | one (b : Nat)
  | larger
  | inForce
deriving DecidableEq, Repr

/-- RATE that a queue reserves in a bank with `n` active pairs; below SHED_BELOW nothing (R319). -/
def State.rateIn (s : State) (b q n : Nat) : Nat :=
  let w := s.get (F.BANK_b_e_Wn_W b q 0)
  if q < 256 && decide (n < bitsOf w 24 2) then 0 else bitsOf w 0 24

/-- RATE of a queue that a sum counts (R70, R113, R313), whether or not ENABLE is set. -/
def State.rateFor (s : State) (u : BankUse) (q n : Nat) : Nat :=
  match u with
  | .one b => s.rateIn b q n
  | .larger => max (s.rateIn 0 q n) (s.rateIn 1 q n)
  | .inForce => s.rateIn (s.selOf q) q n

/-- The sum of column LINK_h_DOWN or LINK_h_UP with `n` active pairs. -/
def State.linkSum (s : State) (u : BankUse) (h d n : Nat) : Nat :=
  ((List.range 32).map (fun i => s.rateFor u (64 * h + 32 * d + i) n)).sum

/-- An entry of the chore table (R60). -/
structure Chore where
  slot : Nat
  kind : Nat
  period : Nat
  phase : Nat
  arg : Nat
deriving DecidableEq, Repr

/-- A chore descriptor of two words. -/
def choreOf (lo hi : Nat) : Chore := ⟨bitsOf lo 0 10, bitsOf lo 10 6, bitsOf lo 16 16, bitsOf hi 0 16, bitsOf hi 16 16⟩

/-- The enabled entries of the chore table (R60). -/
def State.chores (s : State) : List Chore :=
  ((List.range 1024).map (fun i => choreOf (s.get (F.CHORE_LO_W i)) (s.get (F.CHORE_HI_W i)))).filter (·.period != 0)

/-- CHORE_STATUS.OCCUPIED: distinct slots of the enabled entries (R65). -/
def choreSlots (cs : List Chore) : Nat := (cs.map (·.slot)).eraseDups.length

/-- The bus time of one run of a module slot's poll (R484). -/
def State.pollBusy (s : State) (m : Nat) : Nat :=
  let w0 := s.mdCfg m 0
  let khz := bitsOf (s.get (F.WD_TIMING_W0_V m)) 0 11
  if !bitAt w0 0 || bitsOf w0 1 2 = 0 then 0
  else (if bitsOf w0 1 2 = 2 then i2cBusy khz 4 1 else 0) + (if bitAt w0 3 then i2cBusy khz 19 1 else 0)

/-- The charge of the poll chores on bus `b` in ns per tick (R484). -/
def State.pollCharge (s : State) (b : Nat) : Nat :=
  if b < 8 then ((s.chores.filter (fun c => c.kind == 1 && c.arg % 32 == b)).map (fun c => ceilDiv (s.pollBusy b) c.period)).sum
  else 0

/-- The sum of column PLAYA (R373). -/
def State.playaSum (s : State) : Nat :=
  ((List.range 2).map (fun x => if s.flag (F.HD_CTRL_ENABLE x) then s.hdScan x else 0)).sum
    + 16384 * ((List.range 256).map (fun i =>
        if s.tunType (i / 64) (i % 64) = 1 then s.get (F.PL_WR_h_n_GRAINS (i / 64) (i % 64)) else 0)).sum

/-- The sum of column LAUNCH (R331). -/
def State.launchSum (s : State) : Nat := ((List.range 56).map (fun k => s.get (F.SR_RES_k_PER_TICK k))).sum

/-- The sum of a column other than LINK (R70, R113). -/
def State.otherSum (s : State) (u : BankUse) (c : Nat) : Nat :=
  if c = 8 then s.playaSum
  else if c = 9 then choreSlots s.chores
  else if c = 10 then s.launchSum
  else s.rateFor u (320 + (c - 11)) 4 + s.pollCharge (c - 11)

/-- The limit of a column other than LINK (R67, R481). -/
def otherLimit (c : Nat) : Nat := if c = 8 then 7200000 else if c = 9 then 900 else if c = 10 then 64 else 112500

/-! ### What an image declares (R112) -/

/-- The numbers of pairs lost that a column has cases for: down to MIN_WIDTH for a LINK column, 0 for every other. -/
def State.lossCases (s : State) (c : Nat) : List Nat :=
  if c < 8 then
    List.range (min 3 (splitWidth (s.get (F.CV_CFG0_W (c / 2))) (c % 2) - s.minWidth (c / 2) (c % 2)) + 1)
  else [0]

/-- The sum of a column with `p` pairs lost from its largest width. -/
def State.caseSum (s : State) (u : BankUse) (c p : Nat) : Nat :=
  if c < 8 then s.linkSum u (c / 2) (c % 2) (splitWidth (s.get (F.CV_CFG0_W (c / 2))) (c % 2) - p) else s.otherSum u c

/-- The limit of a column with `p` pairs lost, at the smallest capacity of R68. -/
def State.caseLimit (s : State) (c p : Nat) : Nat :=
  if c < 8 then
    let w0 := s.get (F.CV_CFG0_W (c / 2))
    linkLimit (splitWidth w0 (c % 2) - p) (leastPair w0)
  else otherLimit c

/-- The (column, case code) pairs that a LEDGER body holds, in order (R112). -/
def State.ledgerCases (s : State) : List (Nat × Nat) :=
  (List.range 31).flatMap (fun c => (s.lossCases c).map (fun p => (c, p)) ++ (s.lossCases c).map (fun p => (c, p + 4)))

/-- The words of the LEDGER body that declares the sums of this state (R112, R113). -/
def State.ledgerBody (s : State) : List Word :=
  s.ledgerCases.flatMap (fun e => [w32 (e.2 + 65536 * e.1), w32 (s.caseSum (.one (e.2 / 4)) e.1 (e.2 % 4))])

/-- The first (column, case) at which a LEDGER body differs from the recomputed sums, if any (R112, R113). -/
def State.ledgerMismatch (s : State) (body : List Word) : Option (Nat × Nat) :=
  let want := s.ledgerBody
  let cases := s.ledgerCases
  let bad := firstIx (max want.length body.length) (fun i => want[i]? != body[i]?)
  bad.map (fun i => (cases[i / 2]?).getD (bitsOf (wordAt body (i / 2 * 2)) 16 5, bitsOf (wordAt body (i / 2 * 2)) 0 3))

/-- The first column past its limit in one bank's own sum or, where none is, in the larger-bank sum: column, case code,
and whether it is the larger-bank sum alone (R111, R114, R313). -/
def State.ledgerOver (s : State) : Option (Nat × Nat × Bool) :=
  match s.ledgerCases.find? (fun e => decide (s.caseLimit e.1 (e.2 % 4) < s.caseSum (.one (e.2 / 4)) e.1 (e.2 % 4))) with
  | some e => some (e.1, e.2, false)
  | none =>
    (s.ledgerCases.find? (fun e => e.2 < 4 && decide (s.caseLimit e.1 e.2 < s.caseSum .larger e.1 e.2))).map
      (fun e => (e.1, e.2, true))

/-! ### The sums in force (R70, R320) -/

/-- Bytes per pair per tick of a port: at the gear and FEC in use, or at MAX_GEAR while the link is not up (R70). -/
def State.portPair (s : State) (h : Nat) : Nat :=
  let w0 := s.get (F.CV_CFG0_W h)
  if isUpState (s.cvState h) then pairBytes (s.get (F.CV_STATUS_GEAR h)) (s.flag (F.CV_STATUS_FEC h))
  else pairBytes (bitsOf w0 0 2) (cfgFec w0 (bitsOf w0 0 2))

/-- Headroom H of a port at the split with `up` UP pairs (R320). -/
def State.headroom (s : State) (h up : Nat) : Int :=
  let one (d n : Nat) : Int :=
    let lim := linkLimit n (s.portPair h)
    (65536 * ((lim : Int) - (s.linkSum .inForce h d n : Nat))) / (lim : Int)
  min (one 1 up) (one 0 (4 - up))

/-- CARAVAN_PORT word 0 of a port with the splits that the host's SPEED_CAP, if there is one, allows too (R244, R275). -/
def State.sharedSplits (s : State) (h : Nat) : Nat :=
  let w0 := s.get (F.CV_CFG0_W h)
  match (s.link h).cap with
  | some c => withBits w0 4 3 (bitsOf w0 4 3 &&& bitsOf c 22 3)
  | none => w0

/-- The UP pairs of a port's target split (R275, R320). -/
def State.targetSplit (s : State) (h : Nat) : Nat :=
  let w0 := s.sharedSplits h
  let f := s.get (F.PORT_SPLIT_h_FORCE h)
  if f != 0 && (splitUps w0).contains f then f
  else
    match splitUps w0 with
    | [] => 0
    | u :: us => us.foldl (fun best v => if s.headroom h best < s.headroom h v then v else best) u

/-- The present width of a direction: its active pairs while the link is up, else those of PORT_SPLIT_h.TARGET with no
pair lost (R70). -/
def State.nowWidth (s : State) (h d : Nat) : Nat :=
  if isUpState (s.cvState h) then width4 (if d = 1 then s.upMask h else s.downMask h)
  else
    let t := s.get (F.PORT_SPLIT_h_TARGET h)
    if t = 0 then 0 else if d = 1 then t else 4 - t

/-- The current sum of a column (R70); 0 while no image is in force. -/
def State.ledgerSumNow (s : State) (c : Nat) : Nat :=
  if !s.inForce then 0
  else if c < 8 then s.linkSum .inForce (c / 2) (c % 2) (s.nowWidth (c / 2) (c % 2))
  else s.otherSum .inForce c

/-- The limit of a column (R70); 0 while no image is in force. -/
def State.ledgerLimitNow (s : State) (c : Nat) : Nat :=
  if !s.inForce then 0
  else if c < 8 then linkLimit (s.nowWidth (c / 2) (c % 2)) (s.portPair (c / 2))
  else otherLimit c

/-- HEADROOM: H of the current split now (R320, R326), held to the field's 16 bits (log entry 40). -/
def State.headroomNow (s : State) (h : Nat) : Nat :=
  let cur := s.get (F.PORT_SPLIT_h_CURRENT h)
  if cur = 0 then 0 else (max 0 (min 65535 (s.headroom h cur))).toNat

/-- PORT_SPLIT_h.TARGET and HEADROOM take what R320 gives. -/
def State.splitRegs (s : State) (h : Nat) : State :=
  (s.put (F.PORT_SPLIT_h_TARGET h) (s.targetSplit h)).put (F.PORT_SPLIT_h_HEADROOM h) (s.headroomNow h)

/-- A failed pair that has qualified again asks to rejoin, in the direction that moves the port towards its target (R257,
R320). -/
def State.askRejoin (s : State) (h : Nat) : State :=
  match firstIx 4 (fun l => bitAt (s.failedMask h) l && bitAt (s.link h).qualified l && s.setsValid h l) with
  | some l =>
    s.requestTurn h l (if width4 (s.upMask h) < s.get (F.PORT_SPLIT_h_TARGET h) then 1 else 0) true (s.tick + 1)
  | none => s

/-- SPLIT_EVALUATION (R250, R252, R257, R320): at slot 400, in ACTIVE with all four pairs active, the target split is
chosen, and where it differs from the current split a turn of the highest-numbered pair of the direction that has too
many is requested for the next boundary. At reduced width no split turn starts, and a pair that has qualified again is
brought back. -/
def execSplitEvaluation (h : Hp) (s : State) : Res :=
  .next (if !(s.awake && s.inForce && isUpState (s.cvState h)) then s
    else
      let s := s.advanceTo (s.tick * 125000 + 50000)
      let up := s.upMask h
      let down := s.downMask h
      if width4 up + width4 down < 4 then (if (s.link h).turn.isSome then s else s.askRejoin h)
      else if s.cvState h != L.active then s
      else
        let s := s.splitRegs h
        let t := s.get (F.PORT_SPLIT_h_TARGET h)
        let cur := width4 up
        let from_ := if t < cur then up else down
        let pair := (((List.range 4).filter (fun l => bitAt from_ l)).getLast?).getD 0
        if t = cur || t = 0 || (s.link h).turn.isSome || !s.setsValid h pair then s
        else s.requestTurn h pair (if t < cur then 0 else 1) false (s.tick + 1))

end Sys2Proof.Machine
end

