-- ==== Sys2Proof/Machine/Content.lean ====
section
/-! DEFINITION. Machine/Content.lean: the checks RECORD and CONTENT of an image and a patch (R75 to R79, R84): lengths,
order and the rules of every record's own chapter. `rs` is the whole set of records that the image or the patch would put
in force; the checks of Barchan's banks read them from the state that holds the candidate values. -/
namespace Sys2Proof.Machine

/-! ### Lengths, order and required records (R75 to R77) -/

/-- The body length of a TYPE and FORMAT in words is right (R75): fixed lengths, or whole items. FORMAT is 1 where the
defining chapter gives one form only. -/
def recLenOk (ty fmt words : Nat) : Bool :=
  if ty = 3 then (fmt == 1 && words == 25) || (fmt == 2 && words == 161)
  else if ty = 8 then (fmt == 1 && words == 1872) || (fmt == 2 && words % 5 == 0)
  else fmt == 1 &&
    (match ty with
     | 1 => words == 24
     | 2 => words == 1
     | 4 => words == 2
     | 5 => words == 128
     | 6 => words == 56
     | 7 => words == 540
     | 9 => words % 2 == 0
     | 0x0A => words % 2 == 0
     | 0x0B => words == 208
     | 0x0C => words == 256
     | 0x0D => words == 13
     | 0x0E => words == 2
     | 0x0F => words == 10
     | 0x10 => words == 25
     | 0x11 => words == 2
     | 0x12 => words == 4
     | 0x13 => words == 32
     | 0x14 => words == 56
     | _ => false)

/-- The highest INSTANCE of a TYPE (R77). -/
def maxInst (ty : Nat) : Nat :=
  if ty = 4 || ty = 5 || ty = 0x10 then 3 else if ty = 8 then 1 else if ty = 0x0E then 19 else if ty = 0x0F then 7 else 0

/-- The (TYPE, INSTANCE) pairs that an image must carry (R77). -/
def requiredRecs : List (Nat × Nat) :=
  [(1, 0), (2, 0), (3, 0), (4, 0), (4, 1), (4, 2), (4, 3), (5, 0), (5, 1), (5, 2), (5, 3), (6, 0), (7, 0), (8, 0), (8, 1),
   (9, 0), (0x0A, 0), (0x0C, 0), (0x0D, 0), (0x10, 0), (0x10, 1), (0x10, 2), (0x10, 3), (0x11, 0), (0x12, 0)]

/-- A TYPE that a patch may carry (R77). -/
def patchable (ty : Nat) : Bool := [8, 9, 0x0A, 0x0C, 0x0E, 0x0F, 0x10, 0x11, 0x12, 0x13, 0x14].contains ty

/-- Records rise strictly by TYPE and then INSTANCE (R76). -/
def ordered : List Rec → Bool
  | a :: b :: t => decide (256 * a.ty + a.inst < 256 * b.ty + b.inst) && ordered (b :: t)
  | _ => true

/-- Read `count` records from words: none where the record headers or LEN break R75. Bits [31:24] of a header that are not zero fail
the RECORD check, or KEY in the first record (DESIGN CHOICE, log entry 137). -/
def parseRecs : Nat → List Word → Option (List Rec)
  | 0, [] => some []
  | 0, _ => none
  | n + 1, h0 :: h1 :: t =>
    let len := bitsOf h1.toNat 0 24
    if h0.toNat / 2 ^ 24 != 0 || h1.toNat / 2 ^ 24 != 0 || len % 4 != 0 || decide (4 * t.length < len) then none
    else
      (parseRecs n (t.drop (len / 4))).map
        (fun rs => ⟨bitsOf h0.toNat 0 8, bitsOf h0.toNat 8 8, bitsOf h0.toNat 16 8, t.take (len / 4)⟩ :: rs)
  | _, _ => none

/-- The RECORD check of a list of records (R75, R76). -/
def recordsOk (rs : List Rec) : Bool := ordered rs && rs.all (fun r => recLenOk r.ty r.fmt r.body.length)

/-! ### AGENTS and LANE_ROLES -/

/-- AGENTS (R79). -/
def agentsOk (w : Nat) : Bool :=
  (w &&& (2 ^ 32 - 1 - 0x1F1F1F07)) == 0 && bitsOf w 8 5 != 0 && bitsOf w 0 3 != 5 && bitsOf w 0 3 != 6

/-- Group word `i` of LANE_ROLES, for LG_4 + i (R209). -/
def grpW (rs : List Rec) (i : Nat) : Nat := recWord rs 3 0 i

/-- ETH_PORT of the logical lane mapped onto ball lane `b` under LANE_REVERSE (R209). -/
def ballPort (w b : Nat) : Nat := bitsOf w (20 + 3 * (if bitAt w 10 then 3 - b else b)) 3

/-- LANE_ROLES gives some group this role and instance. -/
def roleGiven (rs : List Rec) (role inst : Nat) : Bool :=
  (List.range 5).any (fun i => bitsOf (grpW rs i) 0 3 == role && bitsOf (grpW rs i) 3 1 == inst)

/-- The lane word of the ball lane that carries an Ethernet port, if any (R210). -/
def ethWord (rs : List Rec) (p : Nat) : Option Nat :=
  (List.range 20).findSome? (fun i =>
    if bitsOf (grpW rs (i / 4)) 0 3 == 3 && ballPort (grpW rs (i / 4)) (i % 4) == p then some (recWord rs 3 0 (5 + i)) else none)

/-- LANE_ROLES assigns an Ethernet port. -/
def ethGiven (rs : List Rec) (p : Nat) : Bool := (ethWord rs p).isSome

/-- One group word of LANE_ROLES (R209). -/
def groupOk (w : Nat) : Bool :=
  let role := bitsOf w 0 3
  let width := bitsOf w 4 3
  !bitAt w 11 &&
    (if role = 1 || role = 2 then (width == 1 || width == 2 || width == 4) && bitsOf w 20 12 == 0xFFF
     else if role = 3 then
       bitsOf w 3 1 == 0 && width == 0 && bitsOf w 8 2 == 0
         && (List.range 4).all (fun l => bitsOf w (20 + 3 * l) 3 < 4 || bitsOf w (20 + 3 * l) 3 == 7)
     else role == 0 && bitsOf w 3 1 == 0 && width == 0 && bitsOf w 8 2 == 0 && bitsOf w 20 12 == 0xFFF)

/-- Three transmit taps keep R182. -/
def tapsOk (cm c0 cp : Int) : Bool :=
  decide (-8 ≤ cm) && decide (cm ≤ 0) && decide (-16 ≤ cp) && decide (cp ≤ 0) && decide (24 ≤ c0) && c0 - cm - cp == 48

/-- One lane word of LANE_ROLES: that of an Ethernet lane, or 0 (R210). -/
def laneWordOk (group w b : Nat) : Bool :=
  if bitsOf group 0 3 = 3 && ballPort group b < 4 then
    (w &&& (2 ^ 32 - 1 - 0x033F3F3F)) == 0 && bitsOf w 24 2 != 3
      && tapsOk (signedOf 6 w) (bitsOf w 8 6 : Nat) (signedOf 6 (w / 2 ^ 16))
  else w == 0

/-- The switch part of a FORMAT 2 LANE_ROLES record (R411, R412). -/
def switchOk (rs : List Rec) : Bool :=
  let port (q : Nat) : Nat := recWord rs 3 0 (25 + q)
  let v0 (v : Nat) : Nat := recWord rs 3 0 (33 + 2 * v)
  let v1 (v : Nat) : Nat := recWord rs 3 0 (34 + 2 * v)
  let used := (List.range 64).filter (fun v => bitsOf (v0 v) 0 12 != 0)
  let portOk (q : Nat) : Bool :=
    let w := port q
    let fec := bitsOf w 18 2
    (w &&& (2 ^ 32 - 1 - 0x1F7FFF)) == 0 && bitsOf w 16 2 != 3 && fec != 3
      && (fec == 0 || (decide (q < 4) && (match ethWord rs q with
        | some lw => bitsOf lw 24 2 == 0
        | none => false)))
      && (!bitAt w 20 || decide (q < 4))
      && (match used.find? (fun v => bitsOf (v0 v) 0 12 == bitsOf w 0 12) with
        | some v => bitsOf w 16 2 == 1 || (if q < 4 then bitAt (v0 v) (16 + q) else bitAt (v1 v) (q - 4))
        | none => false)
  let vlanOk (v : Nat) : Bool :=
    if bitsOf (v0 v) 0 12 = 0 then v0 v == 0 && v1 v == 0
    else (v0 v &&& (2 ^ 32 - 1 - 0x0FFF0FFF)) == 0 && v1 v < 16 && bitsOf (v0 v) 0 12 != 4095
      && (List.range 4).all (fun p => ethGiven rs p || !(bitAt (v0 v) (16 + p) || bitAt (v0 v) (24 + p)))
  (List.range 8).all portOk && (List.range 64).all vlanOk
    && (used.map (fun v => bitsOf (v0 v) 0 12)).eraseDups.length == used.length

/-- LANE_ROLES (R209 to R212, R411, R412). -/
def lanesOk (rs : List Rec) : Bool :=
  let roles := ((List.range 5).map (fun i => bitsOf (grpW rs i) 0 4)).filter (fun r => r % 8 == 1 || r % 8 == 2)
  let eths := ((List.range 20).filter (fun i => bitsOf (grpW rs (i / 4)) 0 3 == 3)).filterMap
    (fun i => let p := ballPort (grpW rs (i / 4)) (i % 4); if p < 4 then some p else none)
  (List.range 5).all (fun i => groupOk (grpW rs i))
    && (List.range 20).all (fun i => laneWordOk (grpW rs (i / 4)) (recWord rs 3 0 (5 + i)) (i % 4))
    && roles.eraseDups.length == roles.length && eths.eraseDups.length == eths.length
    && (match findRec rs 3 0 with
      | some r => r.fmt != 2 || switchOk rs
      | none => true)

/-! ### CARAVAN_PORT, TUNNEL_TABLE, OWNERSHIP -/

/-- CARAVAN_PORT of one host port (R259). -/
def caravanOk (w0 w1 : Nat) : Bool :=
  let up := bitsOf w0 8 2
  let down := bitsOf w0 10 2
  bitsOf w0 0 2 != 0 && bitsOf w0 4 3 != 0 && up != 0 && down != 0
    && (splitUps w0).all (fun u => decide (up ≤ u) && decide (down ≤ 4 - u))
    && decide (8 ≤ bitsOf w1 0 8) && decide (bitsOf w1 0 8 ≤ 128) && decide (1 ≤ bitsOf w1 8 8) && decide (bitsOf w1 8 8 ≤ 32)
    && decide (2 * bitsOf w1 8 8 < bitsOf w1 0 8) && decide (2 ≤ bitsOf w1 16 4) && decide (1 ≤ bitsOf w1 24 4)

/-- Word 0 of tunnel `n` of port `h`. -/
def tunW (rs : List Rec) (h n : Nat) : Nat := recWord rs 5 h (2 * n)
/-- TYPE of tunnel `n` of port `h`. -/
def tunTy (rs : List Rec) (h n : Nat) : Nat := bitsOf (tunW rs h n) 0 4
/-- TARGET of tunnel `n` of port `h`. -/
def tunTarget (rs : List Rec) (h n : Nat) : Nat := bitsOf (tunW rs h n) 6 3

/-- One entry of a TUNNEL_TABLE record (R269, R270). -/
def tunOk (rs : List Rec) (h n : Nat) : Bool :=
  let w0 := tunW rs h n
  let w1 := recWord rs 5 h (2 * n + 1)
  let ty := bitsOf w0 0 4
  let dir := bitsOf w0 4 2
  let target := bitsOf w0 6 3
  let cls := bitsOf w0 9 2
  let q := bitsOf w0 11 5
  let qp := bitsOf w0 16 5
  let z := tunW rs h 0
  let zq (x : Nat) : Bool := x == bitsOf z 11 5 || x == bitsOf z 16 5
  if ty = 15 then w0 == 15 && w1 == 0 && n != 0
  else decide (ty ≤ 5) && (ty == 0) == (n == 0) && decide (w0 < 2 ^ 21) && decide (w1 < 2 ^ 16)
    && (if bitAt dir 0 then decide (17 ≤ w1) else w1 == 0)
    && (if bitAt dir 1 then n == 0 || !(zq q || zq qp) else q == 0 && qp == 0)
    && (if ty = 0 then dir == 3 else true)
    && (if ty = 1 then dir == 1 && cls == 0 && decide (target < 2) && roleGiven rs 1 target
        else if ty = 2 then dir == 3 && cls != 3 && decide (target < 2) && roleGiven rs 2 target
        else target == 0 && cls == 0)

/-- TUNNEL_TABLE of one port (R269, R270). -/
def tunnelsOk (rs : List Rec) (h : Nat) : Bool :=
  let count (p : Nat → Bool) : Nat := ((List.range 64).filter p).length
  (List.range 64).all (tunOk rs h)
    && decide (count (fun n => tunTy rs h n == 5) ≤ 1) && decide (count (fun n => tunTy rs h n == 4) ≤ 4)
    && decide (count (fun n => tunTy rs h n == 3) ≤ 8)
    && (List.range 2).all (fun x => decide (count (fun n => tunTy rs h n == 1 && tunTarget rs h n == x) ≤ 2))
    && (List.range 2).all (fun p =>
      let of_ (c : Nat) := count (fun n => tunTy rs h n == 2 && tunTarget rs h n == p && bitsOf (tunW rs h n) 9 2 == c)
      (of_ 0 == 0 && of_ 1 == 0 && of_ 2 == 0) || (of_ 0 == 1 && of_ 1 == 1 && of_ 2 == 1))
    && decide (((List.range 64).map (fun n => bitsOf (recWord rs 5 h (2 * n + 1)) 0 16)).sum ≤ 8192)

/-- A port's table holds a tunnel of a type, to a target for heads and PCI Express ports. -/
def hasTun (rs : List Rec) (h ty target : Nat) : Bool :=
  (List.range 64).any (fun n => tunTy rs h n == ty && (ty == 3 || ty == 5 || tunTarget rs h n == target))

/-- Host `h` is owner or standby of a resource or stands in its CLAIM_MASK (R276). -/
def mayHold (w h : Nat) : Bool := bitsOf w 0 3 == h || bitsOf w 4 3 == h || bitAt w (8 + h)

/-- OWNERSHIP of one resource (R276, R277). -/
def ownOk (rs : List Rec) (k : Nat) : Bool :=
  let w := recWord rs 6 0 k
  let o := bitsOf w 0 3
  let sb := bitsOf w 4 3
  let given := if k < 2 then roleGiven rs 1 k else if k < 4 then roleGiven rs 2 (k - 2) else if k < 8 then ethGiven rs (k - 4) else true
  let reaches (h : Nat) : Bool :=
    if k < 2 then hasTun rs h 1 k else if k < 4 then hasTun rs h 2 (k - 2) else if k < 8 then hasTun rs h 3 0
    else if 32 ≤ k && k < 36 then hasTun rs h 5 0 else true
  (o < 4 || o == 7) && (sb < 4 || sb == 7) && bitsOf w 12 2 != 3 && (o != sb || o == 7)
    && (sb != 7 || bitsOf w 12 2 == 0) && (given || (o == 7 && sb == 7))
    && (List.range 4).all (fun h => !mayHold w h || reaches h)

/-! ### Barchan -/

/-- Byte `i` of a record's body. -/
def recByte (rs : List Rec) (ty inst i : Nat) : Nat := bitsOf (recWord rs ty inst (i / 4)) (8 * (i % 4)) 8
/-- DOWN map byte of tunnel `n` of port `h` (R300). -/
def downByte (rs : List Rec) (h n : Nat) : Nat := recByte rs 7 0 (1872 + 64 * h + n)
/-- ETH_TUN byte of traffic class `t` of port `h` (R300). -/
def ethTunByte (rs : List Rec) (h t : Nat) : Nat := recByte rs 7 0 (2128 + 8 * h + t)

/-- BARCHAN_QUEUES (R300, R301). -/
def queuesOk (rs : List Rec) : Bool :=
  let qmap (q : Nat) : Nat := recWord rs 7 0 q
  let res (q : Nat) : Nat := bitsOf (qmap q) 8 6
  let resOk (r : Nat) : Bool := r < 56 || r == 63
  (List.range 340).all (fun q => resOk (res q) && bitsOf (qmap q) 16 14 != 0
      && (decide (256 ≤ q) || decide (24 ≤ bitsOf (qmap q) 2 6)) && (decide (q < 320) || !bitAt (qmap q) 0)
      && (!(256 ≤ q && q < 288) || res q == 4 + (q - 256) / 8))
    && (List.range 128).all (fun p => resOk (bitsOf (recWord rs 7 0 (340 + p)) 0 6))
    && decide (((List.range 340).map (fun q => bitsOf (qmap q) 16 14)).sum ≤ 4096)
    && (List.range 4).all (fun h =>
      (List.range 64).all (fun n =>
        let w := tunW rs h n
        let ty := bitsOf w 0 4
        let down := ty != 15 && bitAt w 4
        let d := downByte rs h n
        let k := if ty = 1 then bitsOf w 6 3 else 2 + bitsOf w 6 3
        (if down then d < 32 else d == 0xFF) && (n == 0 || d != downByte rs h 0)
          && (!(ty == 1 || ty == 2) ||
            ((!down || res (64 * h + d) == k)
              && (!bitAt w 5 || (res (64 * h + 32 + bitsOf w 11 5) == k && res (64 * h + 32 + bitsOf w 16 5) == k)))))
      && (List.range 8).all (fun t =>
        let b := ethTunByte rs h t
        b == 0xFF || (decide (b < 64) && tunTy rs h b == 3 && bitAt (tunW rs h b) 5)))

/-- The largest counted length of a queue (R302, R304). -/
def State.longest (s : State) (q : Nat) : Nat :=
  let ovh := s.qOverhead q
  if q < 256 then 1024 + ovh
  else if q < 320 then 9216 + ovh
  else
    let b := q - 320
    let w0 := s.get (F.WD_TIMING_W0_V b)
    let w1 := s.get (F.WD_TIMING_W1_V b)
    ovh + (if b < 8 then i2cBusy (bitsOf w0 0 11) 67 1 + 20000
      else if b < 12 then
        10 * (bitsOf w1 8 8 + bitsOf w1 16 8 + bitsOf w1 24 8) + 8 * 4092 * (20 * ceilDiv 50000 (bitsOf w0 0 16)) + 20000
      else if b < 16 then
        let nom := bitsOf w0 0 16
        let dat := if bitsOf w0 16 16 = 0 then nom else bitsOf w0 16 16
        ceilDiv (1000000 * ((ceilDiv (5 * 36) 4 + 13) * dat + ceilDiv (5 * 542) 4 * nom)) (nom * dat)
      else
        let bits := 2 + (if bitAt w1 0 then 7 else 8) + (if bitsOf w1 1 2 = 0 then 0 else 1) + bit1 (bitAt w1 3)
        let de := if bitAt w1 4 then bitsOf w1 16 8 + bitsOf w1 24 8 else 0
        ceilDiv ((4092 * bits + de) * 1000000000) (bitsOf w0 0 24))

/-- At most 64 enabled CAL queues of a bank need the overflow list (R304). -/
def State.overflowOk (s : State) (b : Nat) : Bool :=
  decide (((List.range 340).filter (fun q =>
    let w := s.get (F.BANK_b_e_Wn_W b q 0)
    !s.qIsCredit q && bitAt w 31 && decide (bitsOf w 0 24 < ceilDiv (s.longest q * 1000) 4096))).length ≤ 64)

/-- No policer entry of either bank has PIR below CIR (R100, R312). -/
def State.pirOk (s : State) : Bool :=
  (List.range 2).all (fun b => (List.range 128).all (fun p =>
    decide (bitsOf (s.get (F.BANK_b_e_Wn_W b (340 + p) 0)) 0 24 ≤ bitsOf (s.get (F.BANK_b_e_Wn_W b (340 + p) 1)) 0 24)))

/-- MAC rate in bytes per tick of an Ethernet port (R313). -/
def macRate (laneWord : Nat) : Nat :=
  if bitsOf laneWord 24 2 = 0 then 390625 else if bitsOf laneWord 24 2 = 1 then 156250 else 15625

/-- RATE summed over an external Ethernet port's queues stays within 90 % of the MAC rate (R313). -/
def State.macOk (s : State) : Bool :=
  (List.range 4).all (fun p =>
    match ethWord s.img.recs p with
    | some lw => decide (10 * ((List.range 8).map (fun t => s.rateFor .larger (256 + 8 * p + t) 4)).sum ≤ 9 * macRate lw)
    | none => true)

/-- The four words of a Barchan entry lie in their ranges; an entry of zeros is unused (R312). -/
def entryOk (e : Nat) (w0 w1 w2 w3 : Nat) : Bool :=
  (w0 == 0 && w1 == 0 && w2 == 0 && w3 == 0) ||
    (if e < 340 then
      (w0 &&& 0x70000000) == 0 && decide (w1 < 2 ^ 24) && decide (w2 < 2 ^ 19) && decide (64 ≤ bitsOf w2 0 16)
        && decide (w3 < 256) && (decide (e < 256) || (bitsOf w0 24 2 == 0 && !bitAt w3 7))
     else
      (w0 &&& 0x7F000000) == 0 && decide (w1 < 2 ^ 30) && bitsOf w1 24 2 != 3 && bitsOf w1 26 2 != 3 && bitsOf w1 28 2 != 3
        && decide (w2 < 2 ^ 24) && decide (1111 ≤ w2) && decide (w3 < 2 ^ 24) && decide (1111 ≤ w3))

/-- The entries of a BARCHAN_BANK body with their four words (R312). -/
def bankItems (r : Rec) : List (Nat × Nat × Nat × Nat × Nat) :=
  let w (i : Nat) : Nat := wordAt r.body i
  if r.fmt = 1 then (List.range 468).map (fun e => (e, w (4 * e), w (4 * e + 1), w (4 * e + 2), w (4 * e + 3)))
  else (List.range (r.body.length / 5)).map (fun i => (w (5 * i), w (5 * i + 1), w (5 * i + 2), w (5 * i + 3), w (5 * i + 4)))

/-- Numbers rise strictly. -/
def rising : List Nat → Bool
  | a :: b :: t => decide (a < b) && rising (b :: t)
  | _ => true

/-- BARCHAN_BANK by itself (R312). -/
def bankOk (r : Rec) : Bool :=
  let is := bankItems r
  rising (is.map (·.1)) && is.all (fun i => decide (i.1 < 468) && entryOk i.1 i.2.1 i.2.2.1 i.2.2.2.1 i.2.2.2.2)

/-! ### CHORE_SCHEDULE, TIME_CONFIG -/

/-- The enabled entries of a CHORE_SCHEDULE record (R60). -/
def choresOf (rs : List Rec) : List Chore :=
  match findRec rs 9 0 with
  | some r => ((List.range (r.body.length / 2)).map (fun i =>
      choreOf (wordAt r.body (2 * i)) (wordAt r.body (2 * i + 1)))).filter (·.period != 0)
  | none => []

/-- ARG names a target of its KIND (R60, R61, R483). -/
def argOk (kind arg : Nat) : Bool :=
  match kind with
  | 1 => decide (arg % 32 < 8) && arg == arg % 32 + 256 * (arg % 32)
  | 2 => decide (arg < 4)
  | 3 => decide (arg < 8)
  | 4 => decide (arg < 36)
  | 5 => decide (arg < 12) || arg == 16
  | 6 => arg == 0
  | 7 => arg == 0
  | 8 => decide (arg < 8)
  | _ => false

/-- No two enabled entries of a slot fall due in one tick (R61). -/
def choresApart : List Chore → Bool
  | [] => true
  | c :: cs => cs.all (fun d => d.slot != c.slot
      || d.phase % Nat.gcd c.period d.period != c.phase % Nat.gcd c.period d.period) && choresApart cs

/-- The record holds an entry of a KIND, enabled or not (R61). -/
def holdsKind (rs : List Rec) (kind : Nat) : Bool :=
  match findRec rs 9 0 with
  | some r => (List.range (r.body.length / 2)).any (fun i => bitsOf (wordAt r.body (2 * i)) 10 6 == kind)
  | none => false

/-- The sources of DISC_CTRL that a TIME_CONFIG record carries (R56, R61). -/
def discSrc (rs : List Rec) : Nat := recWord rs 0x12 0 0 % 2 ^ 12

/-- CHORE_SCHEDULE (R60, R61, R614), with the sources that DISC_CTRL has or takes. -/
def choresOk (rs : List Rec) (src : Nat) : Bool :=
  let cs := choresOf rs
  (match findRec rs 9 0 with
   | some r => decide (r.body.length ≤ 2048)
   | none => true)
    && cs.all (fun c => decide (c.slot ≤ 999) && decide (c.phase < c.period) && argOk c.kind c.arg)
    && choresApart cs
    && ((cs.filter (·.kind == 6)).map (·.period)) == [1]
    && (src == 0 || holdsKind rs 7)
    && (List.range 8).all (fun m =>
      match cs.filter (fun c => c.kind == 8 && c.arg == m) with
      | [c] => decide (c.period ≤ 8000)
      | _ => false)

/-- TIME_CONFIG (R41, R58, R59). -/
def timeOk (rs : List Rec) : Bool :=
  let w (i : Nat) : Nat := recWord rs 0x12 0 i
  let srcs := ((List.range 3).map (fun i => bitsOf (w 0) (4 * i) 4)).filter (· != 0)
  let xt := bitsOf (w 0) 16 8
  let lim := w 1
  (w 0 &&& (2 ^ 32 - 1 - 0x00FF0FFF)) == 0 && (w 2 &&& (2 ^ 32 - 1 - 0xFFFF1F1F)) == 0
    && srcs.all (fun c => decide (c ≤ 8)) && srcs.eraseDups.length == srcs.length
    && decide (1 ≤ xt) && decide (xt ≤ 100) && decide (1 ≤ lim) && decide (lim ≤ 219902325)
    && bitsOf (w 2) 16 16 != 0 && bitsOf (w 3) 0 16 != 0 && bitsOf (w 3) 16 16 != 0
    && (!(List.range 5).any (fun i => bitsOf (grpW rs i) 0 3 == 3)
      || decide (lim * 1000000 + xt * 2 ^ 40 ≤ 100 * 2 ^ 40))

/-! ### PLAYA_PARTITIONS -/

/-- WR_GRAINS of a tunnel (R357). -/
def wrGrains (rs : List Rec) (h n : Nat) : Nat := recByte rs 0x0B 0 (576 + 64 * h + n)

/-- The surfaces of one head: sizes, map bounds and overlap (R357, R358). -/
def surfacesOk (rs : List Rec) (x : Nat) : Bool :=
  let w0 (f : Nat) : Nat := recWord rs 0x0B 0 (16 + 64 * x + 2 * f)
  let w1 (f : Nat) : Nat := recWord rs 0x0B 0 (17 + 64 * x + 2 * f)
  let size (f : Nat) : Nat := bitsOf (w0 f) 8 7 * bitsOf (w0 f) 16 7
  let used := (List.range 32).filter (fun f => bitsOf (w0 f) 0 3 != 0)
  let dim (v : Nat) : Bool := decide (1 ≤ v) && decide (v ≤ 64)
  (List.range 32).all (fun f =>
      if bitsOf (w0 f) 0 3 = 0 then w0 f == 0 && w1 f == 0
      else (w0 f &&& (2 ^ 32 - 1 - 0x007F7F07)) == 0 && decide (w1 f < 2 ^ 13) && decide (bitsOf (w0 f) 0 3 ≤ 4)
        && dim (bitsOf (w0 f) 8 7) && dim (bitsOf (w0 f) 16 7) && decide (w1 f + size f ≤ 8192))
    && used.all (fun f => used.all (fun g => f == g || decide (w1 f + size f ≤ w1 g) || decide (w1 g + size g ≤ w1 f)))

/-- PLAYA_PARTITIONS, or its absence (R357, R358, R370). -/
def playaOk (rs : List Rec) : Bool :=
  let w (x i : Nat) : Nat := recWord rs 0x0B 0 (8 * x + i)
  let base (x : Nat) : Nat := bitsOf (w x 0) 0 13
  let cnt (x : Nat) : Nat := bitsOf (w x 0) 16 13
  let disp (h n : Nat) : Bool := tunTy rs h n == 1
  match findRec rs 0x0B 0 with
  | none =>
    !((List.range 4).any (fun h => (List.range 64).any (disp h)) || roleGiven rs 1 0 || roleGiven rs 1 1)
  | some _ =>
    (List.range 2).all (fun x =>
        (w x 0 &&& (2 ^ 32 - 1 - 0x1FFF1FFF)) == 0 && (w x 1 &&& (2 ^ 32 - 1 - 0x00030FFF)) == 0
          && (bitsOf (w x 1) 0 12 != 0 || !roleGiven rs 1 x) && decide (base x + cnt x ≤ 6144)
          && (w x 3 &&& (2 ^ 32 - 1 - 0x1FFF1FFF)) == 0 && (w x 5 &&& (2 ^ 32 - 1 - 0x1FFF1FFF)) == 0
          && (w x 4 &&& (2 ^ 32 - 1 - 0x81FF1FFF)) == 0 && (w x 6 &&& (2 ^ 32 - 1 - 0x81FF1FFF)) == 0
          && surfacesOk rs x
          && (!bitAt (w x 1) 16 || timingOk (w x 2) (w x 3) (w x 4) (w x 5) (w x 6))
          && (roleGiven rs 1 x || (cnt x == 0 && !bitAt (w x 1) 16
            && (List.range 32).all (fun f => bitsOf (recWord rs 0x0B 0 (16 + 64 * x + 2 * f)) 0 3 == 0))))
      && (cnt 0 == 0 || cnt 1 == 0 || decide (base 0 + cnt 0 ≤ base 1) || decide (base 1 + cnt 1 ≤ base 0))
      && (List.range 4).all (fun h => (List.range 64).all (fun n => disp h n == (wrGrains rs h n != 0)))

/-! ### EVENT_ROUTING, PIN_FUNCTIONS -/

/-- EVENT_ROUTING (R152, R154, R473). -/
def routesOk (rs : List Rec) : Bool :=
  (List.range 256).all (fun n =>
    let w := recWord rs 0x0C 0 n
    let own := recWord rs 6 0 (bitsOf w 2 6)
    let hosts := if 2 ≤ bitsOf w 0 2 then maskOf 4 (mayHold own) else 0
    (w &&& (2 ^ 32 - 1 - 0x011F1FFF)) == 0 && (decide (bitsOf w 0 2 < 2) || decide (bitsOf w 2 6 ≤ 55))
      && (bitsOf w 16 5 &&& (31 - (bitsOf w 8 5 ||| hosts))) == 0)
    && (List.range 4).all (fun h => bitAt (recWord rs 0x0C 0 (160 + h)) (8 + h))

/-- PIN_FUNCTIONS (R437, R661, R662). -/
def pinsOk (rs : List Rec) : Bool :=
  let w (i : Nat) : Nat := recWord rs 0x0D 0 i
  (w 2 &&& (2 ^ 32 - 1 - w 1)) == 0 && decide (w 3 < 2 ^ 16) && decide (w 4 < 2 ^ 16)
    && (List.range 4).all (fun g => decide (2 ≤ bitsOf (w 3) (2 * g) 2) && bitsOf (w 4) (2 * g) 2 != 3
      && bitsOf (w 4) (8 + 2 * g) 2 != 3)
    && (List.range 8).all (fun n =>
      let d := w (5 + n)
      (d &&& (2 ^ 32 - 1 - 0x37)) == 0 && bitsOf d 1 2 != 3 && bitsOf d 4 2 != 3 && !(bitsOf d 1 2 == 2 && bitAt d 0))

/-! ### FIELD_TIMINGS, EFUSE, MODULE_CLASSES -/

/-- A value lies in a range. -/
def inRange (lo v hi : Nat) : Bool := decide (lo ≤ v) && decide (v ≤ hi)

/-- FIELD_TIMINGS of one bus (R477, R478). -/
def timingsOk (b w0 w1 : Nat) : Bool :=
  if b < 8 then
    (w0 &&& (2 ^ 32 - 1 - 0x0FFF07FF)) == 0 && w1 == 0 && inRange 10 (bitsOf w0 0 11) 1000 && bitsOf w0 16 12 != 0
  else if b < 12 then inRange 100 w0 50000
  else if b < 16 then
    let nom := bitsOf w0 0 16
    let dat := bitsOf w0 16 16
    inRange 10 nom 1000 && (dat == 0 || inRange nom dat 8000) && 200000 % nom == 0 && (dat == 0 || 200000 % dat == 0)
      && (w1 &&& 0x8080) == 0 && inRange 50 (bitsOf w1 0 7) 90 && inRange 50 (bitsOf w1 8 7) 90 && bitsOf w1 16 16 != 0
  else
    let n := (1600000000 + w0 / 2) / w0
    inRange 1200 w0 12000000 && (w1 &&& 0x0000FFE0) == 0 && bitsOf w1 1 2 != 3
      && inRange (99 * n * w0) (100 * 1600000000) (101 * n * w0)

/-- EFUSE of one channel, whose body is `w` (R535, R536). -/
def efuseOk (rs : List Rec) (c : Nat) (w : Nat → Nat) : Bool :=
  let named (i m : Nat) : Bool := (w i &&& (2 ^ 32 - 1 - m)) == 0
  let slots := (List.range 8).filter (fun m =>
    bitAt (recWord rs 0x13 0 (4 * m)) 0 && bitsOf (recWord rs 0x13 0 (4 * m)) 8 4 == c)
  named 0 0xFFFFFF3F && named 1 0x0007FFFF && named 2 0x3FFFFFFF && named 4 0x0FFFFFFF && named 9 0xFFF
    && bitsOf (w 0) 0 2 != 3 && decide (bitsOf (w 1) 16 3 ≤ 5)
    && (bitsOf (w 0) 0 2 == 0 ||
      (inRange 500000 (bitsOf (w 1) 0 16 * bitsOf (w 0) 16 16) 10000000
        && decide (90 ≤ bitsOf (w 2) 0 10) && decide (bitsOf (w 2) 10 10 ≤ 600) && decide (bitsOf (w 2) 20 10 < bitsOf (w 2) 10 10)
        && bitsOf (w 3) 0 16 != 0 && bitsOf (w 3) 16 16 != 0 && bitsOf (w 4) 0 12 != 0 && bitsOf (w 4) 12 8 != 0
        && bitsOf (w 4) 20 8 != 0 && bitsOf (w 0) 12 4 != 0
        && inRange 25 (bitsOf (w 5) 0 8) 175 && decide (bitsOf (w 5) 8 8 ≤ 50)
        && (bitAt (w 0) 3
          || ((choresOf rs).filter (fun k => k.kind == 3 && k.arg == c)).map (·.period) == [1])
        && slots.all (fun m =>
          inRange (bitsOf (w 2) 20 10) (bitsOf (recWord rs 0x13 0 (4 * m + 1)) 16 16) (bitsOf (w 2) 10 10)
            && decide (bitsOf (recWord rs 0x13 0 (4 * m + 3)) 0 16 ≤ bitsOf (w 1) 0 16))))

/-- MODULE_CLASSES (R486, R487). -/
def modulesOk (rs : List Rec) : Bool :=
  let w (m i : Nat) : Nat := recWord rs 0x13 0 (4 * m + i)
  let on := (List.range 8).filter (fun m => bitAt (w m 0) 0)
  let efs := (on.map (fun m => bitsOf (w m 0) 8 4)).filter (· != 15)
  (List.range 8).all (fun m =>
      (w m 0 &&& (2 ^ 32 - 1 - 0xFF073F1F)) == 0 && (w m 1 &&& (2 ^ 32 - 1 - 0xFFFFFF7F)) == 0
        && bitsOf (w m 0) 1 2 != 3 && (bitsOf (w m 0) 8 4 < 8 || bitsOf (w m 0) 8 4 == 15))
    && on.all (fun m =>
      (bitsOf (w m 0) 1 2 == 0 || ((choresOf rs).filter (fun c => c.kind == 1 && c.arg % 32 == m)).length == 1)
        && (!bitAt (w m 0) 3 || bitsOf (w m 0) 1 2 != 0)
        && (bitsOf (w m 0) 8 4 == 15 || bitsOf (recWord rs 0x0F (bitsOf (w m 0) 8 4) 0) 0 2 != 0))
    && efs.eraseDups.length == efs.length

/-! ### PD_CAPS, POWER_POLICY, LAUNCH_RESERVATIONS -/

/-- A power data object of R515: `slot` 0 to 10, `source` for a source object. An unused slot holds 0. -/
def pdoOk (slot : Nat) (source : Bool) (o : Nat) : Bool :=
  if o = 0 then slot != 0
  else
    let v := fixedV o
    (slot != 0 || (pdoKind o == 0 && v == 100)) &&
      (match pdoKind o with
       | 0 => decide (fixedI o ≤ 500)
          && (!source || (if slot < 7 then v == 100 || v == 180 || v == 300 || v == 400 else v == 560 || v == 720 || v == 960))
       | 1 => decide (bitsOf o 0 7 ≤ 100) && decide (33 ≤ apdoMin o) && decide (apdoMax o ≤ 210)
       | 2 => decide (7 ≤ slot) && decide (150 ≤ apdoMin o) && decide (apdoMax o ≤ 480)
       | _ => o / 2 ^ 30 != 2 || decide (fixedI o ≤ 500))

/-- PD_CAPS of one port (R514, R515). -/
def pdOk (rs : List Rec) (p : Nat) : Bool :=
  let w (i : Nat) : Nat := recWord rs 0x10 p i
  let src (i : Nat) : Nat := w (3 + i)
  let snk (i : Nat) : Nat := w (14 + i)
  let epr := (List.range 11).any (fun i => snk i != 0 && (decide (7 ≤ i) || pdoKind (snk i) == 2))
  let pps := (List.range 11).any (fun i => snk i != 0 && pdoKind (snk i) == 1)
  let kept (n : Nat) : Bool := (choresOf rs).any (fun c => c.kind == 2 && c.arg == p && decide (c.period ≤ n))
  (w 0 &&& (2 ^ 32 - 1 - 0x3FFF)) == 0 && (w 1 &&& (2 ^ 32 - 1 - 0x00FF0F1F)) == 0 && decide (w 2 < 2 ^ 16)
    && bitsOf (w 0) 0 2 != 3
    && inRange 24 (bitsOf (w 1) 0 5) 30 && inRange 1 (bitsOf (w 1) 8 4) 10 && inRange 45 (bitsOf (w 1) 16 8) 55
    && decide (bitsOf (w 2) 0 8 ≤ 240)
    && (List.range 11).all (fun i => pdoOk i true (src i) && pdoOk i false (snk i))
    && (bitsOf (w 0) 0 2 != 0 || (List.range 10).all (fun i => src (i + 1) == 0))
    && (!bitAt (w 0) 8 || (bitAt (w 0) 13 && bitAt (w 0) 10))
    && (if epr then kept 2000 else !pps || kept 8000)

/-- POWER_POLICY (R591). -/
def policyOk (w0 w1 : Nat) : Bool := (w0 &&& (2 ^ 32 - 1 - 0x00FE0F1F)) == 0 && decide (w1 < 2)

/-- LAUNCH_RESERVATIONS (R331, R332). -/
def reservationsOk (rs : List Rec) : Bool :=
  let w (k : Nat) : Nat := recWord rs 0x14 0 k
  (List.range 56).all (fun k => (w k &&& (2 ^ 32 - 1 - 0x007F07FF)) == 0 && decide (bitsOf (w k) 16 7 ≤ 64))
    && decide (((List.range 56).map (fun k => bitsOf (w k) 0 11)).sum ≤ 1024)

/-! ### The whole check -/

/-- The CONTENT check of the records that would be in force, `s` holding their values and `src` the sources of DISC_CTRL
(R61, R84). -/
def State.contentOk (s : State) (rs : List Rec) (src : Nat) : Bool :=
  rs.all (fun r => decide (r.inst ≤ maxInst r.ty))
    && agentsOk (recWord rs 2 0 0) && lanesOk rs
    && (List.range 4).all (fun h => caravanOk (recWord rs 4 h 0) (recWord rs 4 h 1) && tunnelsOk rs h && pdOk rs h)
    && (List.range 56).all (ownOk rs) && queuesOk rs
    && rs.all (fun r => r.ty != 8 || bankOk r)
    && choresOk rs src && timeOk rs && playaOk rs && routesOk rs && pinsOk rs
    && rs.all (fun r => r.ty != 0x0E || timingsOk r.inst (wordAt r.body 0) (wordAt r.body 1))
    && rs.all (fun r => r.ty != 0x0F || efuseOk rs r.inst (wordAt r.body))
    && modulesOk rs && policyOk (recWord rs 0x11 0 0) (recWord rs 0x11 0 1) && reservationsOk rs
    && (List.range 2).all s.overflowOk && s.pirOk && s.macOk

end Sys2Proof.Machine
end

