-- ==== Sys2Proof/Machine/Values.lean ====
section
/-! DEFINITION. Machine/Values.lean: how the records of an image or a patch put their values into registers, each chapter's
record by itself. The same functions build the candidate state that a check works on and the state that an apply leaves
(R58, R95, R102). -/
namespace Sys2Proof.Machine

/-! ### Runs of registers -/

/-- Registers at rising word addresses from `lo` take the values `ws`. -/
def State.setWords (s : State) (lo : Nat) (ws : List Nat) : State :=
  { s with regs := s.regs.filter (fun c => decide (c.1 < lo))
      ++ ws.zipIdx.filterMap (fun p => if w32 p.1 = 0 then none else some (lo + 4 * p.2, w32 p.1))
      ++ s.regs.filter (fun c => decide (lo + 4 * ws.length ≤ c.1)) }

/-- The registers with keys from `lo` to `hi` take their reset values. -/
def State.resetRange (s : State) (lo hi : Nat) : State :=
  { s with regs := s.regs.filter (fun c => decide (c.1 < lo))
      ++ resetRegs.filter (fun c => decide (lo ≤ c.1) && decide (c.1 < hi))
      ++ s.regs.filter (fun c => decide (max lo hi ≤ c.1)) }

/-- Words `i` to `i + n - 1` of a record, 0 where it is absent. -/
def recWords (rs : List Rec) (ty inst i n : Nat) : List Nat := (List.range n).map (fun j => recWord rs ty inst (i + j))

/-! ### Caravan, lanes -/

/-- CARAVAN_PORT and TUNNEL_TABLE of a port (R259, R261, R269, R296). -/
def State.valCaravan (s : State) (rs : List Rec) (h : Nat) : State :=
  let s := s.put (F.CV_CFG0_W h) (recWord rs 4 h 0)
  let s := s.put (F.CV_CFG1_W h) (recWord rs 4 h 1)
  let s := s.setWords (A.CV_TUN_n_W0 h 0) (recWords rs 5 h 0 128)
  s.put (F.LG_CTRL_ROLE h) 4

/-- ROLE of a flex group, and the taps of its Ethernet lanes (R210, R213). -/
def State.valGroup (s : State) (rs : List Rec) (g : Nat) : State :=
  let w := grpW rs (g - 4)
  let s := s.put (F.LG_CTRL_ROLE g) (bitsOf w 0 3)
  s.each (List.range 4) (fun s b =>
    if bitsOf w 0 3 = 3 && ballPort w b < 4 then
      let lw := recWord rs 3 0 (5 + 4 * (g - 4) + b)
      let s := s.put (F.LN_TXEQ_C_M1 g b) (bitsOf lw 0 6)
      let s := s.put (F.LN_TXEQ_C0 g b) (bitsOf lw 8 6)
      s.put (F.LN_TXEQ_C_P1 g b) (bitsOf lw 16 6)
    else s)

/-! ### Barchan -/

/-- BARCHAN_QUEUES (R300). -/
def State.valQueues (s : State) (rs : List Rec) : State :=
  let s := s.setWords (A.QMAP_q 0) (recWords rs 7 0 0 340)
  let s := s.setWords (A.PMAP_p 0) (recWords rs 7 0 340 128)
  { s with bc := { s.bc with
      downMap := Vector.ofFn (fun h => Vector.ofFn (fun n => downByte rs h.val n.val)),
      ethTun := Vector.ofFn (fun h => Vector.ofFn (fun t => ethTunByte rs h.val t.val)) } }

/-- The entries that a BARCHAN_BANK record names take its words (R312). -/
def State.valBank (s : State) (r : Rec) : State :=
  if r.fmt = 1 then s.setWords (A.BANK_b_e_Wn r.inst 0 0) (r.body.map (·.toNat))
  else (bankItems r).foldl (fun s i =>
    s.setWords (A.BANK_b_e_Wn r.inst i.1 0) [i.2.1, i.2.2.1, i.2.2.2.1, i.2.2.2.2]) s

/-- Every entry of a bank reads 0: what a FORMAT 2 record of a full image omits (R312). -/
def State.zeroBank (s : State) (b : Nat) : State := s.setWords (A.BANK_b_e_Wn b 0 0) (List.replicate 1872 0)

/-- A full image sets every selector to 0 (R311). -/
def State.zeroSelectors (s : State) : State :=
  let s := s.each (List.range 340) (fun s q => s.put (F.QSTATE_q_SEL q) 0)
  s.each (List.range 128) (fun s p => s.put (F.PSTATE_p_SEL p) 0)

/-! ### Chores, events, launches -/

/-- CHORE_SCHEDULE fills the chore table (R60, R65). -/
def State.valChores (s : State) (rs : List Rec) : State :=
  let s := s.setWords (A.CHORE_LO 0) (recWords rs 9 0 0 2048)
  let cs := choresOf rs
  (s.put F.CHORE_STATUS_OCCUPIED (choreSlots cs)).put F.CHORE_STATUS_ENTRIES cs.length

/-- EVENT_ROUTING; FEVT_CLASS takes FAST where the record is part of a full image, or where the word changes (R152, R161). -/
def State.valRoutes (s : State) (rs : List Rec) (full : Bool) : State :=
  let old := (List.range 256).map s.route
  let new := recWords rs 0x0C 0 0 256
  let s := s.setWords (A.EVT_ROUTE_s 0) new
  s.each (List.range 40) (fun s i =>
    let a := i / 8
    let n := i % 8
    let cur := s.get (F.FEVT_CLASS_n_FAST a n)
    s.put (F.FEVT_CLASS_n_FAST a n) (maskOf 32 (fun b =>
      let w := new.getD (32 * n + b) 0
      if full || w != old.getD (32 * n + b) 0 then bitAt w (16 + a) else bitAt cur b)))

/-- LAUNCH_RESERVATIONS, zero where the image carries none (R331). -/
def State.valLaunch (s : State) (rs : List Rec) : State := s.setWords (A.SR_RES_k 0) (recWords rs 0x14 0 0 56)

/-- TIME_CONFIG puts its values in force (R58). -/
def State.valTime (s : State) (rs : List Rec) : State :=
  let s := s.setReg A.DISC_CTRL (bitsOf (recWord rs 0x12 0 0) 0 12)
  let s := s.setReg A.REF_ADJ_LIMIT (recWord rs 0x12 0 1)
  let s := s.setReg A.DISC_LOOP (recWord rs 0x12 0 2)
  (s.setReg A.DISC_LIMITS (recWord rs 0x12 0 3)).discWritten

/-! ### Playa -/

/-- Pools, tunnel reservations and the writer's column of PLAYA_PARTITIONS (R357, R386). -/
def State.valPools (s : State) (rs : List Rec) : State :=
  let s := s.each (List.range 2) (fun s x => s.setReg (A.PL_PART_x x) (recWord rs 0x0B 0 (8 * x)))
  let s := s.each (List.range 4) (fun s h => s.setWords (A.PL_WR_h_n h 0) ((List.range 64).map (wrGrains rs h)))
  s.put F.PL_WRITER_BYTES (16384 * ((List.range 256).map (fun i => wrGrains rs (i / 64) (i % 64))).sum)

/-- The head part and the surfaces of one head; ENABLE apart (R357, R387). -/
def State.valHead (s : State) (rs : List Rec) (x : Nat) : State :=
  let w (i : Nat) : Nat := recWord rs 0x0B 0 (8 * x + i)
  let s := s.put (F.HD_CTRL_BPC x) (bitsOf (w 1) 17 1)
  let s := s.setWords (A.HD_PCLK x) [w 2, w 3, w 4, w 5, w 6, w 7]
  let s := { s with pl := { s.pl with shown := vMod s.pl.shown x (fun l => cellSet 0 l (A.HD_BG x) (w32 (w 7))) } }
  s.setWords (A.SURF_W0 x 0) (recWords rs 0x0B 0 (16 + 64 * x) 64)

/-- The value that the image gives HD_CTRL.ENABLE (R357). -/
def headOn (rs : List Rec) (x : Nat) : Bool := bitAt (recWord rs 0x0B 0 (8 * x + 1)) 16

/-! ### Ethernet, USB, Wadi -/

/-- Port word `q` of the switch part, as a FORMAT 1 record implies it (R411). -/
def ethPortWord (rs : List Rec) (q : Nat) : Nat :=
  match findRec rs 3 0 with
  | some r =>
    if r.fmt = 2 then wordAt r.body (25 + q)
    else 1 + (match ethWord rs q with
      | some lw => if q < 4 && bitsOf lw 24 2 = 0 then 2 * 2 ^ 18 else 0
      | none => 0)
  | none => 0

/-- The VLAN words of the switch part, as a FORMAT 1 record implies them (R411). -/
def vlanWords (rs : List Rec) : List Nat :=
  match findRec rs 3 0 with
  | some r =>
    if r.fmt = 2 then recWords rs 3 0 33 128
    else
      let m := maskOf 4 (ethGiven rs)
      (1 + m * (2 ^ 16 + 2 ^ 20 + 2 ^ 24)) :: List.replicate 127 0
  | none => List.replicate 128 0

/-- The switch part and what the registers show of the ports (R411, R432). -/
def State.valEth (s : State) (rs : List Rec) : State :=
  let s := s.setWords (A.VLAN_W0 0) (vlanWords rs)
  let s := s.setWords (A.PORTCFG_q 0) ((List.range 8).map (ethPortWord rs))
  s.each (List.range 4) (fun s p =>
    let w := ethPortWord rs p
    let s := s.put (F.ETH_PSTATUS_TYPE p) (match ethWord rs p with
      | some lw => bitsOf lw 24 2
      | none => 0)
    let s := s.put (F.ETH_PSTATUS_FEC p) (bitsOf w 18 2)
    s.put (F.GP_CTRL_p_EN p) (bitsOf w 20 1))

/-- The USB port words (R437). -/
def State.valUsb (s : State) (rs : List Rec) : State :=
  s.each (List.range 8) (fun s n => s.setReg (A.DS_CFG_n n) (recWord rs 0x0D 0 (5 + n)))

/-- The timing words of a bus without a FIELD_TIMINGS record (R479). -/
def timingDefault (b : Nat) : Nat × Nat :=
  if b < 8 then (100 + 1000 * 2 ^ 16, 0)
  else if b < 12 then (1000, 0x0A0A0A00)
  else if b < 16 then (500, 80 + 80 * 2 ^ 8 + 10000 * 2 ^ 16)
  else (115200, 0)

/-- FIELD_TIMINGS of one bus, or its defaults (R477, R479). -/
def State.valTiming (s : State) (rs : List Rec) (b : Nat) : State :=
  let w := if (findRec rs 0x0E b).isSome then (recWord rs 0x0E b 0, recWord rs 0x0E b 1) else timingDefault b
  (s.put (F.WD_TIMING_W0_V b) w.1).put (F.WD_TIMING_W1_V b) w.2

/-! ### Whole sets -/

/-- The values of a full image's records on which sums and checks rest, in a candidate state (R84, R113). -/
def State.fullValues (s : State) (rs : List Rec) : State :=
  let s := s.each (List.range 4) (fun s h => s.valCaravan rs h)
  let s := (s.valQueues rs).zeroSelectors
  let s := (s.zeroBank 0).zeroBank 1
  let s := (rs.filter (·.ty == 8)).foldl State.valBank s
  let s := (s.valChores rs).valLaunch rs
  let s := s.valPools rs
  let s := s.each (List.range 2) (fun s x => (s.valHead rs x).put (F.HD_CTRL_ENABLE x) (bit1 (headOn rs x)))
  let s := s.each (List.range 20) (fun s b => s.valTiming rs b)
  s.each (List.range 8) (fun s m => s.setWords (A.WD_MOD_CFG m 0) (recWords rs 0x13 0 (4 * m) 4))

/-- The candidate state that an image's checks work on (R84). -/
def State.imageCandidate (s : State) (rs : List Rec) : State :=
  (s.modImg (fun i => { i with recs := rs, phase := .applied })).fullValues rs

/-- The records of an image with a patch's records in their places; a patch's BARCHAN_BANK entries replace those they name
(R106, R312). -/
def mergeRec (rs : List Rec) (r : Rec) : List Rec :=
  let whole (o : Option Rec) : Rec :=
    match o with
    | some old =>
      if r.ty = 8 && r.fmt = 2 then
        let items := (bankItems old).filter (fun i => (bankItems r).all (fun j => j.1 != i.1)) ++ bankItems r
        let at_ (e : Nat) : Nat × Nat × Nat × Nat := ((items.find? (fun i => i.1 == e)).map (·.2)).getD (0, 0, 0, 0)
        { r with fmt := 1, body := (List.range 468).flatMap (fun e =>
            let w := at_ e
            [w32 w.1, w32 w.2.1, w32 w.2.2.1, w32 w.2.2.2]) }
      else r
    | none => r
  let key (r : Rec) : Nat := 256 * r.ty + r.inst
  rs.filter (fun o => decide (key o < key r)) ++ [whole (findRec rs r.ty r.inst)] ++ rs.filter (fun o => decide (key r < key o))

/-- The values of one patch record (R107). -/
def State.patchValues (s : State) (rs : List Rec) (r : Rec) : State :=
  match r.ty with
  | 8 => s.valBank r
  | 9 => s.valChores rs
  | 0x0E => s.valTiming rs r.inst
  | 0x13 => s.each (List.range 8) (fun s m => s.setWords (A.WD_MOD_CFG m 0) (recWords rs 0x13 0 (4 * m) 4))
  | 0x14 => s.valLaunch rs
  | _ => s

/-- The candidate state of a patch: its values on top of `s` (R106). -/
def State.patchCandidate (s : State) (prs : List Rec) : State :=
  let rs := prs.foldl mergeRec s.img.recs
  prs.foldl (fun s r => s.patchValues rs r) (s.modImg (fun i => { i with recs := rs }))

end Sys2Proof.Machine
end

