-- ==== Sys2Proof/Machine/Isolate.lean ====
section
/-! DEFINITION. Machine/Isolate.lean: the isolation reset of one unit (R571 to R574): cutting it off, putting it back to
its reset values and its records, and leaving isolation. -/
namespace Sys2Proof.Machine

/-! ### Cutting off (R572 steps 1 and 2) -/

/-- The block that lane group `g` serves loses its link (R571). -/
def State.groupLinkDown (s : State) (g : Nat) : State :=
  let w := s.groupWord g
  match bitsOf w 0 3 with
  | 1 => if s.dpState (bitsOf w 3 1) = Dp.off then s else s.dpIdle (bitsOf w 3 1) Dp.waitHpd
  | 2 => s.pxDlDown (bitsOf w 3 1)
  | 3 => s.each (List.range 4) (fun s l =>
      let p := bitsOf w (20 + 3 * l) 3
      if p < 4 then (s.ethLink p false).gptpStop p else s)
  | _ => s

/-- LG_CTRL.ENABLE takes a value: a stopped group puts its transmitters in electrical idle (R103, R213). -/
def State.groupEnable (s : State) (g : Nat) (on : Bool) : State :=
  if g < 4 then (if on then s.cvAttach g else s.linkOff g)
  else if on then s
  else (s.groupLinkDown g).each (List.range 4) (fun s b =>
    (s.adaptStop g b).put (F.LN_STATUS_STATE g b) laneOff)

/-- The frames queued in the switch go, their pending time stamps answered as dropped (R571). -/
def State.switchFlush (s : State) : State :=
  s.each (List.range 64) (fun s i =>
    let q := 256 + i
    let s := (s.queue q).items.foldl (fun s it => match it.body with
      | .eth _ st => if i < 32 then s.copyLost (i / 8) st else s
      | _ => s) s
    s.flushQueue q)

/-- What unit `u` has in hand ends (R572 step 1), the wrapper already closed. -/
def State.isoCut (s : State) (u : Nat) : State :=
  if u < 4 then s.linkOff u
  else if u < 9 then s.groupLinkDown u
  else if u < 11 then
    let x := u - 9
    let s := if s.flag (F.HD_CTRL_ENABLE x) then s.headHalt x else s
    let s := { s with pl := { s.pl with aux := vPut s.pl.aux x none, auxOwn := vPut s.pl.auxOwn x [] } }
    (s.quitMsgs (fun m => m.x == x)).dpIdle x Dp.off
  else if u < 13 then
    let p := u - 11
    let s := s.pxContain p 4
    let s := if s.pxOwner p < 4 then s.pxSweep (s.pxOwner p) p 4 else s
    s.pxDlDown p
  else if u = 13 then s.ethInit.switchFlush
  else if u = 14 then s.faces
  else if u = 15 then s.wadiIsolate
  else s.efDown (u - 16) Ef.off

/-! ### Re-initialisation (R572 step 4) -/

/-- Offsets of the CV_ counters, which restart only on cold reset (R261, R296). -/
def cvCounts : List Nat := [0x20, 0x24, 0x28, 0x2C, 0x30, 0x34, 0x38, 0x3C, 0x40, 0x108, 0x10C, 0x110, 0x114]

/-- The registers and the state of a host port. Its CV_ counters stay. Its tunnel generation belongs to ownership (R286), its cable class to the
Type-C attach and its PLLs to the lane group; they stay. -/
def State.isoPort (s : State) (rs : List Rec) (h : Nat) : State :=
  let gen := s.reg (A.CV_TUN_GEN h)
  let cls := s.get (F.CV_STATUS_CABLE_CLASS h)
  let vdo := s.reg (A.CV_MODE_VDO h)
  let lg := s.reg (A.LG_STATUS h)
  let logical := (List.range 4).map (fun b => s.get (F.LN_STATUS_LOGICAL h b))
  let counts := cvCounts.map (fun o => s.reg (A.CV_CTRL h + o))
  let s := s.resetRange (A.CV_CTRL h) (A.CV_CTRL (h + 1))
  let s := s.resetRange (A.LG_CTRL h) (A.LG_CTRL (h + 1))
  let s := (s.setReg (A.CV_TUN_GEN h) gen).put (F.CV_STATUS_CABLE_CLASS h) cls
  let s := (s.setReg (A.CV_MODE_VDO h) vdo).setReg (A.LG_STATUS h) (lg % 2 ^ 20)
  let s := s.each (List.range 4) (fun s b => s.put (F.LN_STATUS_LOGICAL h b) (logical.getD b 0))
  let s := (cvCounts.zip counts).foldl (fun s c => s.setReg (A.CV_CTRL h + c.1) c.2) s
  let s := s.valCaravan rs h
  let s := (s.put (F.CV_CTRL_ENABLE h) (bitsOf (recWord rs 4 h 0) 16 1)).put (F.LG_CTRL_ENABLE h) 1
  let s := { s with eyes := (List.range 4).foldl (fun e b => vPut e (4 * h + b) eye0) s.eyes }
  s.modLink h (fun l => { link0 with downSince := l.downSince, entered := l.entered, refFails := l.refFails, gearCap := l.gearCap })

/-- A flex lane group. -/
def State.isoGroup (s : State) (rs : List Rec) (g : Nat) : State :=
  let lg := s.reg (A.LG_STATUS g)
  let s := s.resetRange (A.LG_CTRL g) (A.LG_CTRL (g + 1))
  let s := s.setReg (A.LG_STATUS g) (lg % 2 ^ 20)
  let s := s.valGroup rs g
  let s := s.put (F.LG_CTRL_ENABLE g) (bit1 (s.get (F.LG_CTRL_ROLE g) != 0))
  { s with eyes := (List.range 4).foldl (fun e b => vPut e (4 * g + b) eye0) s.eyes }

/-- A head; `keep` where its pools and maps stay (R359, R387). HD_FRAMES counts since cold reset. -/
def State.isoHead (s : State) (rs : List Rec) (x : Nat) (keep : Bool) : State :=
  let frames := s.reg (A.HD_FRAMES x)
  let s := (s.resetRange (A.HD_CTRL x) (A.HD_CTRL (x + 1))).setReg (A.HD_FRAMES x) frames
  let s := { s with pl := { s.pl with shown := vPut s.pl.shown x (shown0 x), waits := vPut s.pl.waits x 0,
                                      taken := vPut s.pl.taken x false, glAdj := vPut s.pl.glAdj x (0, 0),
                                      sink := vPut s.pl.sink x [], cand := vPut s.pl.cand x 0,
                                      reads := vPut s.pl.reads x 0, bands := vPut s.pl.bands x [] } }
  let s := (s.valHead rs x).put (F.HD_CTRL_ENABLE x) (bit1 (headOn rs x))
  let s := s.put (F.PL_SCAN_x_BYTES x) (if headOn rs x then s.hdScan x else 0)
  if keep then s.poolRegs x else s.playaInit x

/-- A PCI Express port; the containment, but for a DPC trigger whose status goes, and its deadline outlive the re-initialisation
(R401, R404, R405). -/
def State.isoPcie (s : State) (p : Nat) : State :=
  let here := s.reg (A.PX_STATUS p)
  let left := s.get (F.PX_DEADLINE_TICKS p)
  let s := s.resetRange (A.PX_CTRL p) (A.PX_CTRL (p + 1))
  let s := s.setReg (A.PX_STATUS p) (here &&& 0x600)
  let s := (s.put (F.PX_DEADLINE_TICKS p) left).modPc p (fun c =>
    { pcPort0 p with causes := c.causes.filter (· != 3), deadline := c.deadline, expired := c.expired })
  (s.pxInit p).pxContain p 4

/-- The switch and its ports. -/
def State.isoEth (s : State) (rs : List Rec) : State :=
  let s := s.resetRange A.ETH_SW_STATUS (A.ETH_SW_STATUS + 0x100000)
  let s := ({ s with et := eth0 } : State).valEth rs
  s.each (List.range 4) (fun s p => s.put (F.ETH_PCTRL_ENABLE p) (bit1 (ethGiven rs p)))

/-- The USB hub: DS_n_PPC is held (R571), and so are its PLL and the over-current latches' inputs. -/
def State.isoUsb (s : State) (rs : List Rec) : State :=
  let ppc := (List.range 8).map (fun n => s.get (F.DS_STATUS_n_PPC n))
  let pll := s.get F.USB_STATUS_PLL_LOCK
  let hold := s.get F.USB_STATUS_SPREAD_HOLD
  let s := s.resetRange A.USB_CTRL (A.USB_CTRL + 0x100000)
  let s := (s.put F.USB_STATUS_PLL_LOCK pll).put F.USB_STATUS_SPREAD_HOLD hold
  let s := s.valUsb rs
  let s := s.each (List.range 8) (fun s n =>
    let on := ppc.getD n 0
    let s := (s.put (F.DS_STATUS_n_PPC n) on).put (F.DS_STATUS_n_STATE n) (if on = 0 then Ds.off else Ds.disconnected)
    s.put (F.DS_STATUS_n_CHG n) (if on = 0 then 0 else s.get (F.DS_CFG_n_CHG_MODE n)))
  let s := { s with us := usb0 }
  s.each (List.range 8) (fun s n =>
    let o := s.ownerOf (40 + n)
    if o < 4 && ppc.getD n 0 = 1 then s.modView o n (fun v => v.upd 0x100 0 0) else s)

/-- Wadi: the posted-write error logs stay; the module slots start anew and their clearances are judged again. -/
def State.isoWadi (s : State) (rs : List Rec) : State :=
  let perr := (List.range 4).map (fun h =>
    (A.WD_PERR_STAT_h h, s.reg (A.WD_PERR_STAT_h h)) :: (List.range 4).map (fun i => (A.WD_PERR_E h i, s.reg (A.WD_PERR_E h i))))
  let s := s.resetRange 0x800000 (0x800000 + 0x100000)
  let s := perr.flatten.foldl (fun s e => s.setReg e.1 e.2) s
  let s := { s with wd := { s.wd with
    buses := Vector.map (fun (f : FieldBus) => { fieldBus0 with next := f.next }) s.wd.buses,
    mods := Vector.map (fun (m : ModSlot) => { m with ready := false, piece := 0, fails := 0, confirm := false, waits := [] }) s.wd.mods } }
  let s := s.each (List.range 20) (fun s b => s.valTiming rs b)
  s.mdApply ((List.range 32).map (fun i => w32 (recWord rs 0x13 0 i)))

/-- An e-fuse channel: OFF with its gates off, its record in force and ON at AUTO_ON. ON_CYCLES counts since cold reset. -/
def State.isoEfuse (s : State) (rs : List Rec) (c : Nat) : State :=
  let cycles := s.get (F.EF_COUNT2_ON_CYCLES c)
  let s := (s.resetRange (A.EF_CTRL c) (A.EF_CTRL (c + 1))).put (F.EF_COUNT2_ON_CYCLES c) cycles
  let s := s.modEf c (fun e => { efChan0 with vinOk := e.vinOk, cycle := e.cycle, terms := e.terms, temp := e.temp, stepAt := e.stepAt })
  s.efApply c ((List.range 10).map (fun i => w32 (recWord rs 0x0F c i))) false

/-- The registers of unit `u` take their reset values and then the records `rs` (R572 step 4). -/
def State.isoInit (s : State) (rs : List Rec) (u : Nat) (keep : Bool) : State :=
  if u < 4 then s.isoPort rs u
  else if u < 9 then s.isoGroup rs u
  else if u < 11 then s.isoHead rs (u - 9) keep
  else if u < 13 then s.isoPcie (u - 11)
  else if u = 13 then s.isoEth rs
  else if u = 14 then s.isoUsb rs
  else if u = 15 then s.isoWadi rs
  else s.isoEfuse rs (u - 16)

/-! ### The isolation registers (R573, R574) -/

/-- The wrapper of unit `u` closes for a cause of R574. -/
def State.isoClose (s : State) (u cause : Nat) : State :=
  ((s.put (F.ISO_u_STATE u) 2).put (F.ISO_u_CAUSE u) cause).bump (F.ISO_u_COUNT u) 1

/-- Unit `u` is isolated: steps 1 to 4 at once, with the records in force (R572). -/
def State.isolate (s : State) (u cause : Nat) : State :=
  (((s.isoClose u cause).isoCut u).isoInit s.img.recs u false)

/-- A fatal escalation: a unit that left isolation less than 8,000 ticks ago stays isolated in HELD, with notice HELD (R573, R617). -/
def State.isoEscalate (s : State) (u : Nat) : State :=
  let again := match vAt s.oa.leftAt u with
    | some t => decide (s.tick < t + 8000)
    | none => false
  if again then ((((s.isoClose u 1).put (F.ISO_u_STATE u) 3).isoCut u).notice 17 u) else s.isolate u 1

/-- The unit leaves isolation; its pins pass to it and it starts (R572 steps 5 and 6, R566). -/
def State.isoLeave (s : State) (u : Nat) : State :=
  let before := (List.range 256).map s.srcLevel
  let s := ((s.put (F.ISO_u_STATE u) 0).put (F.ISO_u_ISOLATE u) 0).put (F.ISO_u_RESTART u) 0
  let s := { s with oa := { s.oa with leftAt := vPut s.oa.leftAt u (some s.tick) } }
  let s := s.each (List.range 256) (fun s n => if !before.getD n false && s.srcLevel n then s.noteRise n else s)
  if u < 4 then s.cvAttach u
  else if u < 9 then s
  else if u < 11 then if s.flag (F.HD_CTRL_ENABLE (u - 9)) then s.headStart (u - 9) else s
  else if u < 14 then s
  else if u = 14 then s.faces.each (List.range 8) State.ppc
  else if u = 15 then s
  else (s.clearance (u - 16)).efTry (u - 16)

/-- ISO_ISOLATE (R574): a write of 1 to ISO_u.ISOLATE, in service mode only; the field reads 1 until the unit leaves isolation (R7). -/
def State.isoRequest (s : State) (u : Nat) : State := if s.unitRuns u then (s.isolate u 3).put (F.ISO_u_ISOLATE u) 1 else s

/-- ISO_RESTART (R573): it releases a HELD unit and has no effect on any other. -/
def State.isoRestart (s : State) (u : Nat) : State :=
  if s.get (F.ISO_u_STATE u) = 3 then ((s.put (F.ISO_u_STATE u) 2).isoInit s.img.recs u false).put (F.ISO_u_RESTART u) 1 else s

/-- ISOLATION_EXIT (R572): re-initialisation and, for a unit with lanes, training and qualification have ended. -/
def execIsolationExit (u : Fin 24) (s : State) : Res :=
  .next (if s.get (F.ISO_u_STATE u) = 2 then s.isoLeave u else s)

end Sys2Proof.Machine
end

