-- ==== Sys2Proof/Machine/Commit.lean ====
section
/-! DEFINITION. Machine/Commit.lean: the judgement of a register commit (R100) and step 3 of a tick boundary for patches and
register commits (R32, R33, R102, R107, R314 to R318, R423). -/
namespace Sys2Proof.Machine

/-! ### Candidates and field relations (R100) -/

/-- The staged fields of BANK_CTRL, which act and hold no value. -/
def isBankCtrl (f : FRef) : Bool := f.addr % 2 ^ 32 == 0x300008

/-- The state with staged values in force. -/
def State.overlay (s : State) (ws : List Staged) : State :=
  ws.foldl (fun s w => if isBankCtrl w.f then s else s.put w.f w.v) s

/-- The combination that R100 and R106 judge: every pending patch and commit on the values in force. -/
def State.pendingView (s : State) : State :=
  let s := s.img.patches.foldl (fun s p => s.patchCandidate p.recs) s
  s.img.commits.foldl (fun s c => s.overlay c.writes) s

/-- GL_PHASE lies below GL_PERIOD (R349); both at 0 is the state after reset. -/
def State.phaseOk (s : State) : Bool :=
  (List.range 2).all (fun x =>
    decide (s.get (F.GL_PHASE_x_NS x) < s.get (F.GL_PERIOD_x_NS x)) || (s.get (F.GL_PHASE_x_NS x) == 0 && s.get (F.GL_PERIOD_x_NS x) == 0))

/-- The rules that relate fields of separate words (R100): policer rates, MAC rates, the overflow list, genlock phases. -/
def State.relationsOk (s : State) : Bool :=
  s.pirOk && s.macOk && s.phaseOk && (List.range 2).all s.overflowOk

/-- SR_RES ENTRIES sum to 1,024 at most (R331). -/
def State.entriesOk (s : State) : Bool := decide (((List.range 56).map (fun k => s.get (F.SR_RES_k_ENTRIES k))).sum ≤ 1024)

/-- The verdict on a combination: none, or the cause of R84 with column, case and LARGER. ENTRIES that sum above 1,024 (R331) are
LEDGER_OVER with column 10 and case 0 (DESIGN CHOICE, log entry 117). -/
def State.judgeView (s : State) : Option (Nat × Nat × Nat × Nat) :=
  if !s.relationsOk then some (0x08, 0, 0, 0)
  else match s.ledgerOver with
    | some (c, k, l) => some (0x0A, c, k, bit1 l)
    | none => if s.entriesOk then none else some (0x0A, 10, 0, 0)

/-- IMAGE_RESULT and IMAGE_RESULT_GEN take the outcome of an operation (R114). -/
def State.imageResult (s : State) (cause agent op col case_ larger gen : Nat) : State :=
  let s := s.setReg A.IMAGE_RESULT (cause + 2 ^ 8 * (agent % 8) + 2 ^ 12 * op + 2 ^ 16 * col + 2 ^ 21 * case_ + 2 ^ 24 * larger)
  s.put F.IMAGE_RESULT_GEN_GEN gen

/-- IMAGE_RESULT takes the outcome of a register commit, which offers no generation: GEN is the running image's. -/
def State.commitResult (s : State) (cause agent col case_ larger : Nat) : State :=
  s.imageResult cause agent 3 col case_ larger (s.get F.IMAGE_GEN_GEN)

/-- RESULT of a cause of R84. -/
def causeResult (c : Nat) : Nat :=
  match c with
  | 0x00 => R.ok
  | 0x02 => R.badLen
  | 0x04 => R.auth
  | 0x05 => R.auth
  | 0x06 => R.auth
  | 0x07 => R.badAddr
  | 0x0A => R.busy
  | 0x0B => R.stale
  | 0x0D => R.busy
  | 0x0F => R.busy
  | 0x10 => R.badAddr
  | 0x11 => R.aborted
  | 0x12 => R.busy
  | 0x13 => R.busy
  | 0x14 => R.badLen
  | _ => R.denied

/-- A commit of agent `a` is pending (R101). -/
def State.commitPending (s : State) (a : Nat) : Bool := s.img.commits.any (fun c => c.agent == a)

/-- TICK_COMMIT.COMMIT of agent `a` (R100, R101): the RESULT of the write and the state. The staging set is empty from its acceptance
on, so that TICK_STAGE.COUNT reads 0 while PENDING is 1 (DESIGN CHOICE, log entry 138). -/
def State.tickCommit (s : State) (a : Nat) : Nat × State :=
  if s.commitPending a then (R.busy, s.commitResult 0x13 a 0 0 0)
  else
    let staged := (s.agent a).staged
    match (s.pendingView.overlay staged).judgeView with
    | some (c, col, k, l) => (causeResult c, s.commitResult c a col k l)
    | none =>
      let s := s.modImg (fun i => { i with commits := i.commits ++ [⟨a, staged⟩] })
      let s := s.modAgent a (fun g => { g with staged := [] })
      (R.ok, s)

/-- TICK_COMMIT.DISCARD of agent `a` (R101). -/
def State.tickDiscard (s : State) (a : Nat) : Nat × State :=
  if s.commitPending a then (R.busy, s.commitResult 0x13 a 0 0 0)
  else (R.ok, s.modAgent a (fun g => { g with staged := [] }))

/-! ### Bank generation (R317) -/

/-- The selectors and the words in force of every entry. -/
def State.bankView (s : State) : List (Nat × List Nat) :=
  (List.range 468).map (fun e => (s.selOf e, (List.range 4).map (s.entry e)))

/-- After the values of entries changed from `old`, every queue files anew under its new ones, at the back of its level's lists where
its LEVEL is another, and its sources go on where there is room (R303, R307, R309, R312). -/
def State.refile (s : State) (old : List (Nat × List Nat)) : State :=
  s.each (List.range 340) (fun s q =>
    if (s.queue q).items.isEmpty then s.unhold q
    else
      let was := bitsOf (((old.getD q (0, [])).2).getD 2 0) 16 3
      let s := if was = s.qLevel q then s else s.delist q
      ((s.file q).relist q).unhold q)

/-- BANK_GEN increases where a selector or a value in force changed from `old`, and queues file anew under the new values
(R303, R317). -/
def State.bankGenStep (s : State) (old : List (Nat × List Nat)) : State :=
  if s.bankView == old then s
  else
    let s := (s.put F.BC_STATUS_BANK_GEN (s.get F.BC_STATUS_BANK_GEN + 1)).raise 64 F.BC_EVT_BANK_CHG
    s.refile old

/-- The selector of an entry (R311, R326). -/
def State.setSel (s : State) (e v : Nat) : State :=
  if e < 340 then s.put (F.QSTATE_q_SEL e) v else s.put (F.PSTATE_p_SEL (e - 340)) v

/-- The bank that the image built for the new owner, if it is the image's OWNER or STANDBY of the resource (R314). -/
def State.bankFor (s : State) (c : OwnChange) : Option Nat :=
  let w := s.imgWord 6 0 c.k
  if c.new < 4 && c.new == bitsOf w 0 3 then some 0
  else if c.new < 4 && c.new == bitsOf w 4 3 then some 1
  else none

/-- Step 2 of R31: the bank that the image built for the new owner (R314). -/
def State.bankSelect (s : State) (changes : List OwnChange) : State :=
  if changes.isEmpty then s
  else
    let s := s.accrueAll
    let old := s.bankView
    let s := s.each (List.range 468) (fun s e =>
      match changes.find? (fun c => c.k == s.entryRes e) with
      | some c =>
        match s.bankFor c with
        | some b => s.setSel e b
        | none => s
      | none => s)
    s.bankGenStep old

/-- The resources whose bank a failover of this boundary selected: against it a commit's SWAP does not stand (R33). -/
def State.failedOver (s : State) (changes : List OwnChange) : List Nat :=
  (changes.filter (fun c => (s.bankFor c).isSome
    && (s.get (F.OWN_k_LAST_CAUSE c.k) == 4 || s.get (F.OWN_k_LAST_CAUSE c.k) == 5))).map (·.k)

/-! ### Patches at step 3 (R102, R107) -/

/-- Every record of an accepted patch takes effect (R107). -/
def State.patchApply (s : State) (p : PendPatch) : State :=
  let s := s.accrueAll
  let old := s.bankView
  let rs := p.recs.foldl mergeRec s.img.recs
  let s := s.modImg (fun i => { i with recs := rs })
  let s := p.recs.foldl (fun s r =>
    match r.ty with
    | 0x0C => s.valRoutes rs false
    | 0x0F => s.efApply r.inst r.body false
    | 0x10 => s.tcApply r.inst r.body false
    | 0x12 => s.valTime rs
    | 0x13 => s.mdApply r.body
    | _ => s.patchValues rs r) s
  let s := s.put F.IMAGE_GEN_GEN p.newGen
  let s := s.bump F.IMAGE_GEN_PATCHES 1
  let s := s.bankGenStep old
  let s := s.each (List.range 4) State.splitRegs
  (s.imageResult 0 p.agent 2 0 0 0 p.newGen).complete p.agent p.tag R.ok []

/-- The re-check of one patch, and its application or its discard (R102). -/
def State.patchTurn (s : State) (p : PendPatch) : State :=
  match (s.patchCandidate p.recs).judgeView with
  | none => s.patchApply p
  | some (c, col, k, l) =>
    let s := s.logOp p.agent (causeResult c) 1 37 c
    (s.imageResult c p.agent 2 col k l p.newGen).complete p.agent p.tag (causeResult c) []

/-! ### Register commits at step 3 (R32, R33, R102, R316, R318, R423) -/

/-- What a field's new value sets going beside the register. -/
def State.commitHook (s : State) (w : Staged) : State :=
  match wregAt (w.f.addr % 2 ^ 32) with
  | some .refCtrl => s.refSelect
  | some .discCtrl => s.discWritten
  | some (.gpCtrl p) => if w.f.lsb = 0 && w.v = 0 then s.gptpStop p else s
  | _ => s

/-- An agent may write an entry (R315). -/
def State.mayEntry (s : State) (a e : Nat) : Bool :=
  if s.entryRes e < 56 then s.owns a (s.entryRes e) else s.sharedWriter a

/-- The parts that R32 and R423 remove from a commit: fields of resources that the agent does not own any more, and writes to
a gate list that became operative. -/
def State.keptOf (s : State) (c : PendCommit) : List Staged × Bool × Bool :=
  let view := s.overlay c.writes
  let gone (w : Staged) : Bool :=
    match wregAt (w.f.addr % 2 ^ 32) with
    | some r => decide (view.regRes r < 56) && !s.owns c.agent (view.regRes r)
    | none => false
  let oper (w : Staged) : Bool :=
    match wregAt (w.f.addr % 2 ^ 32) with
    | some (.ethGce p l _) => s.get (F.ETH_PSTATUS_OPER_LIST p) == l + 1
    | some (.ethGcl p) => (w.f.lsb == 0 && s.get (F.ETH_PSTATUS_OPER_LIST p) == 1)
        || (w.f.lsb == 8 && s.get (F.ETH_PSTATUS_OPER_LIST p) == 2)
    | _ => false
  (c.writes.filter (fun w => !gone w && !oper w), c.writes.any gone, c.writes.any (fun w => !gone w && oper w))

/-- The staged value of a BANK_CTRL field, if it is staged. -/
def bankStaged (ws : List Staged) (lsb : Nat) : Nat :=
  ((ws.find? (fun w => isBankCtrl w.f && w.f.lsb == lsb)).map (·.v)).getD 0

/-- The turn of one register commit, whose outcome goes to IMAGE_RESULT; `moved` are the resources whose bank a failover at this
boundary selected (R33, R316). One that R318 discards leaves IMAGE_RESULT as it was (DESIGN CHOICE, log entry 140). -/
def State.commitTurn (s : State) (c : PendCommit) (moved : List Nat) : State :=
  if bankStaged c.writes 8 = 1 && bankStaged c.writes 16 != s.get F.BC_STATUS_BANK_GEN then
    (s.logOp c.agent R.stale 1 33 0).raise 65 F.BC_EVT_STALE_COMMIT
  else
    let k := s.keptOf c
    let kept := k.1
    let s := if k.2.1 then s.logOp c.agent R.stale 1 37 0 else s
    let s := if k.2.2 then s.logOp c.agent R.busy 1 37 0 else s
    match (s.overlay kept).judgeView with
    | some (cause, col, k, l) => (s.logOp c.agent (causeResult cause) 1 37 cause).commitResult cause c.agent col k l
    | none =>
      let s := s.accrueAll
      let old := s.bankView
      let s := s.overlay kept
      let s := if bankStaged kept 0 = 1 then
          s.each (List.range 468) (fun s e =>
            if s.mayEntry c.agent e && !moved.contains (s.entryRes e) then s.setSel e (1 - s.selOf e) else s)
        else s
      let s := kept.foldl State.commitHook s
      (s.bankGenStep old).commitResult 0 c.agent 0 0 0

/-- Step 3 of R31 without an image: patches, then commits (R102). -/
def State.commitStep (s : State) (changes : List OwnChange) : State :=
  let patches := s.img.patches
  let commits := s.img.commits
  let s := s.modImg (fun i => { i with patches := [], commits := [] })
  let s := patches.foldl State.patchTurn s
  commits.foldl (fun s c => s.commitTurn c (s.failedOver changes)) s

end Sys2Proof.Machine
end

