-- ==== Sys2Proof/Machine/Apply.lean ====
section
/-! DEFINITION. Machine/Apply.lean: what a change of owner does to the blocks (R291, R292), and the application of a full
image at step 3 of a tick boundary (R93 to R95, R311, R359, R562, R566, R672). -/
namespace Sys2Proof.Machine

/-! ### Changes of owner (R291 to R294) -/

/-- The TLPs that an old owner's port `k` - 2 holds go on to the drive; what the hub itself would answer them goes upstream after the
boundary and is discarded (R291, R294). -/
def State.pxHandOn (s : State) (k old : Nat) : State :=
  let now := s.get (F.OWN_k_OWNER k)
  ((s.put (F.OWN_k_OWNER k) 7).pxDrain old (k - 2)).put (F.OWN_k_OWNER k) now

/-- A host's link has been out of the up states for more than the 4 us of R401. -/
def State.absent (s : State) (h : Nat) : Bool := !s.linkUp h && (vAt s.own.linkTrig h)

/-- The blocks' part of a change of owner. -/
def State.ownerHook (s : State) (c : OwnChange) : State :=
  if c.k < 2 then s.headOwnerChanged c.k c.old
  else if c.k < 4 then
    let s := if c.old < 4 then s.pxHandOn c.k c.old else s
    let s := s.pxContain (c.k - 2) 1
    -- a new owner whose link has long been out of the up states is absent at once (log entry 150)
    if c.new < 4 && s.absent c.new then s.pxContain (c.k - 2) 2 else s
  else if c.k < 8 then s.ethOwnerChanged (c.k - 4) c.old c.new
  else if c.k < 28 then s.busOwnerChanged (c.k - 8) c.old
  else if 40 ≤ c.k && c.k < 48 then (s.dsOwnerChanged (c.k - 40) c.old c.new).ppc (c.k - 40)
  else s

/-- The OWNERSHIP record replaces owner, standby, CLAIM_MASK and FAILOVER of every resource (R95, R276). The first image
after a reset changes nothing in the sense of R140. -/
def State.ownImage (s : State) (rs : List Rec) (running : Bool) : State :=
  s.each (List.range 56) (fun s k =>
    let w := recWord rs 6 0 k
    let s := s.put (F.OWN_k_CLAIM_MASK k) (bitsOf w 8 4)
    let s := s.put (F.OWN_k_FAILOVER k) (bitsOf w 12 2)
    if running then s.setOwner k (bitsOf w 0 3) (bitsOf w 4 3) 0
    else ((s.put (F.OWN_k_OWNER k) (bitsOf w 0 3)).put (F.OWN_k_STANDBY k) (bitsOf w 4 3)).put (F.OWN_k_LAST_CAUSE k) 0)

/-! ### The units whose QUIET records change (R94) -/

/-- A record is the same in both sets. -/
def sameRec (old new : List Rec) (ty inst : Nat) : Bool := findRec old ty inst == findRec new ty inst

/-- The head part and the surfaces of a head are byte-identical (R359). -/
def sameHead (old new : List Rec) (x : Nat) : Bool :=
  recWords old 0x0B 0 (8 * x) 8 == recWords new 0x0B 0 (8 * x) 8
    && recWords old 0x0B 0 (16 + 64 * x) 64 == recWords new 0x0B 0 (16 + 64 * x) 64

/-- The QUIET fields of an e-fuse channel are the same (R535). -/
def sameQuiet (old new : List Rec) (c : Nat) : Bool :=
  recWord old 0x0F c 0 &&& 0xFFFF000F == recWord new 0x0F c 0 &&& 0xFFFF000F

/-- The records that configure unit `u` as QUIET are byte-identical. -/
def sameUnit (old new : List Rec) (u : Nat) : Bool :=
  if u < 4 then sameRec old new 4 u && sameRec old new 5 u
  else if u < 9 then sameRec old new 3 0
  else if u < 11 then sameRec old new 3 0 && sameRec old new 0x0B 0
  else if u < 14 then sameRec old new 3 0
  else if u < 16 then sameRec old new 0x0D 0
  else sameQuiet old new (u - 16)

/-! ### Applying a full image -/

/-- Every pending commit and patch is discarded and logged (R93); the reply to a discarded patch carries STALE too (DESIGN CHOICE,
log entry 116). -/
def State.discardPending (s : State) : State :=
  let patches := s.img.patches
  let commits := s.img.commits
  let s := s.modImg (fun i => { i with patches := [], commits := [] })
  let s := patches.foldl (fun s p => (s.logOp p.agent R.stale 1 37 0).complete p.agent p.tag R.stale []) s
  commits.foldl (fun s c => s.logOp c.agent R.stale 1 37 0) s

/-- The revoke bits that a committed image sets in service mode, never that of its own slot (R83). They are programmed when the image
is applied (DESIGN CHOICE, log entry 115). -/
def State.revoke (s : State) (p : PendImage) : State :=
  if p.service then
    s.modImg (fun i => { i with revoked := i.revoked ||| (p.erg.revoke &&& (15 - 2 ^ p.keySlot)) })
  else s

/-- The header's registers (R109, R114). -/
def State.imageRegs (s : State) (p : PendImage) : State :=
  let s := s.setReg A.IMAGE_GEN (p.erg.gen + 2 ^ 16 * (p.slot + 1))
  let s := s.put F.IMAGE_KEY_SLOT p.keySlot
  s.setWords (A.IMAGE_HASH_i 0) ((List.range 12).map (fun i => bitsOf p.erg.digest.toNat (32 * i) 32))

/-- The values that every block without a unit of its own takes, and those that each record carries whether or not its block
starts anew (R95). -/
def State.commonValues (s : State) (rs : List Rec) : State :=
  let s := (s.valQueues rs).zeroSelectors
  let s := (s.zeroBank 0).zeroBank 1
  let s := (rs.filter (·.ty == 8)).foldl State.valBank s
  let s := (s.valChores rs).valLaunch rs
  let s := s.valRoutes rs true
  let s := s.valTime rs
  s.valPools rs

/-- What a block that keeps running takes from the new image (R94, R95): the enables and the fields it carries. -/
def State.keptUnit (s : State) (rs : List Rec) (u : Nat) : State :=
  if u < 4 then
    let on := bitsOf (recWord rs 4 u 0) 16 1 == 1
    let was := s.flag (F.CV_CTRL_ENABLE u) && s.flag (F.LG_CTRL_ENABLE u)
    let s := (s.put (F.CV_CTRL_ENABLE u) (bit1 on)).put (F.LG_CTRL_ENABLE u) 1
    if was && !on then s.linkOff u else if !was && on then s.cvAttach u else s
  else if u < 9 then
    let on := s.get (F.LG_CTRL_ROLE u) != 0
    if s.flag (F.LG_CTRL_ENABLE u) == on then s else (s.put (F.LG_CTRL_ENABLE u) (bit1 on)).groupEnable u on
  else if u < 11 then
    let x := u - 9
    let on := headOn rs x
    let was := s.flag (F.HD_CTRL_ENABLE x)
    let s := if was && !on then s.headStop x else s
    let s := s.valHead rs x
    if on && !was then s.headStart x
    else if on then s.put (F.PL_SCAN_x_BYTES x) (s.hdScan x) else s
  else if u < 13 then s.pxCtrl (u - 11) (withBits (s.reg (A.PX_CTRL (u - 11))) 0 1 (bit1 (s.pxGroup (u - 11)).isSome))
  else if u = 13 then
    let s := s.valEth rs
    let s := s.each (List.range 4) (fun s p =>
      if s.flag (F.ETH_PCTRL_ENABLE p) == ethGiven rs p then s else s.ethEnable p (ethGiven rs p))
    s.each (List.range 4) (fun s p => if s.flag (F.GP_CTRL_p_EN p) then s else s.gptpStop p)
  else if u = 14 then s.valUsb rs
  else if u = 15 then
    let s := s.each (List.range 20) (fun s b => s.valTiming rs b)
    s.mdApply ((List.range 32).map (fun i => w32 (recWord rs 0x13 0 i)))
  else
    let c := u - 16
    (s.put (F.EF_CTRL_ENABLE c) (bit1 (bitsOf (recWord rs 0x0F c 0) 0 2 != 0))).efApply c
      ((List.range 10).map (fun i => w32 (recWord rs 0x0F c i))) false

/-- A block starts from its records at the first image after a reset (R566, R569). -/
def State.firstUnit (s : State) (rs : List Rec) (u : Nat) (warm keep : Bool) : State :=
  if u < 4 then
    let s := s.valCaravan rs u
    let on := bitsOf (recWord rs 4 u 0) 16 1
    let s := (s.put (F.CV_CTRL_ENABLE u) on).put (F.LG_CTRL_ENABLE u) 1
    if on = 0 then s.linkOff u
    else if s.cvState u = L.speed then (if (s.link u).ref then s.linkSpeed u else s.linkRef u)
    else s.cvAttach u
  else if u < 9 then
    let s := s.valGroup rs u
    s.put (F.LG_CTRL_ENABLE u) (bit1 (s.get (F.LG_CTRL_ROLE u) != 0))
  else if u < 11 then
    let x := u - 9
    let s := s.valHead rs x
    let s := if keep then s.poolRegs x else s.playaInit x
    if headOn rs x then s.headStart x else s
  else if u < 13 then
    let s := s.pxInit (u - 11)
    if warm then s.pxContain (u - 11) 5 else s
  else if u = 13 then
    let s := s.valEth rs
    s.each (List.range 4) (fun s p => s.put (F.ETH_PCTRL_ENABLE p) (bit1 (ethGiven rs p)))
  else if u = 14 then
    let s := s.valUsb rs
    s.each (List.range 8) (fun s n =>
      let o := s.ownerOf (40 + n)
      let s := s.iff (warm && o < 4) (fun s => s.modView o n (fun v => if s.flag (F.DS_STATUS_n_PPC n) then v.upd 0x100 0 0 else v.upd 0 0x100 0))
      s.ppc n)
  else if u = 15 then
    let s := s.each (List.range 20) (fun s b => s.valTiming rs b)
    s.mdApply ((List.range 32).map (fun i => w32 (recWord rs 0x13 0 i)))
  else
    let c := u - 16
    let quiet := warm && (s.get (F.EF_CFG_w_V c 0) &&& 0xFFFF000F) != (recWord rs 0x0F c 0 &&& 0xFFFF000F)
    s.efApply c ((List.range 10).map (fun i => w32 (recWord rs 0x0F c i))) quiet

/-- A unit at the application of an image to a running hub (R94). -/
def State.runUnit (s : State) (old rs : List Rec) (u : Nat) : State :=
  if sameUnit old rs u then s.keptUnit rs u
  else s.isoInit rs u (9 ≤ u && u < 11 && sameHead old rs (u - 9))

/-- The watch instants after an image applied from LOADING or BARE (R672). -/
def State.startWatch (s : State) : State :=
  s.modOwn (fun o => { o with watch := Vector.ofFn (fun h => if s.linkUp h.val then none else some (s.clock.time + 1000000000)) })

/-- The load session, if any, ends (R91, R92). -/
def State.sessionClose (s : State) : State :=
  ((s.modImg (fun i => { i with session := none })).setReg A.IMAGE_SESSION 0).put F.IMAGE_SESSION_BYTES_COUNT 0

/-- A full image takes effect (R93 to R95): in place of step 3 of R31. -/
def State.applyImage (s : State) (p : PendImage) : State :=
  let running := s.inForce
  let warm := s.img.warm
  let old := if running then s.img.recs else []
  let rs := p.erg.recs
  let owner0 := (List.range 56).map s.ownerOf
  let keep := warm && s.img.keepDigest == some p.erg.digest
  let units := (List.range 24).filter (fun u => !sameUnit old rs u)
  let s := s.discardPending.revoke p
  let s := s.spreadEnd.accrueAll
  let banks := s.bankView
  let s := if running then units.foldl (fun s u => (s.isoClose u 2).isoCut u) s else s
  let s := s.modImg (fun i => { i with recs := rs, phase := .applied, keepDigest := some p.erg.digest, pend := none,
                                       bootSlot := 0, warm := false })
  let s := ((s.sessionClose.imageRegs p).commonValues rs).refile banks
  let s := s.ownImage rs running
  let s := if running then (List.range 24).foldl (fun s u => s.runUnit old rs u) s
    else (List.range 24).foldl (fun s u => s.firstUnit rs u warm keep) s
  let s := s.each (List.range 4) (fun s t =>
    s.tcApply t ((List.range 25).map (fun i => w32 (recWord rs 0x10 t i))) (!running && warm && s.hasContract t))
  let s := if !running && warm then s.tcAfterWarm else s
  let s := if running then
      (List.range 56).foldl (fun s k =>
        let o := owner0.getD k 7
        if o = s.ownerOf k then s else s.ownerHook ⟨k, o, s.ownerOf k⟩) s
    else s.startWatch
  let s := s.iff (p.agent < 5) (fun s => s.each (List.range 4) (fun s h => s.modAgent h (fun g => { g with stale := true })))
  let s := (s.each (List.range 4) State.splitRegs).faces
  let s := s.each (List.range 8) State.ppc
  if p.agent < 5 then (s.imageResult 0 p.agent 1 0 0 0 p.erg.gen).complete p.agent p.tag R.ok []
  else s.imageResult 0 7 0 0 0 0 p.erg.gen

end Sys2Proof.Machine
end

