-- ==== Sys2Proof/Machine/Arbiter.lean ====
section
/-! DEFINITION. Machine/Arbiter.lean: what every management command frame meets before its opcode acts: the transports, the
limits of R17 and R19, the frame checks of R117, R118, R122 and R268, the device state (R128), a power drain (R584) and the
stale mark (R130). -/
namespace Sys2Proof.Machine

/-- LEN that R122 allows an opcode; none where the opcode is not in its table. -/
def opLens (op len : Nat) : Option Bool :=
  match op with
  | 0x01 => some (1 ≤ len && len ≤ 1023)
  | 0x02 => some (1 ≤ len && len ≤ 1023)
  | 0x03 => some (1 ≤ len && len ≤ 1023)
  | 0x05 => some (len ≤ 1)
  | 0x10 => some (len == 1)
  | 0x11 => some (1 ≤ len && len ≤ 1023)
  | 0x12 => some (len == 0)
  | 0x13 => some (1 ≤ len && len ≤ 1023)
  | 0x20 => some (len == 0 || len == 2)
  | 0x21 => some (len == 2)
  | 0x22 => some (len == 2)
  | 0x30 => some (len == 0)
  | 0x31 => some (len == 0)
  | 0x40 => some (len == 0)
  | 0x41 => some (len == 0 || len == 48)
  | _ => none

/-- The addresses of the words of a READ or WRITE (R118). -/
def spanAddrs (fixed : Bool) (addr len : Nat) : List Nat :=
  (List.range len).map (fun i => if fixed then addr else addr + 4 * i)

/-- The addresses of a frame's words. -/
def frameAddrs (f : Frame) : List Nat := spanAddrs (frameFixed f) f.w1.toNat (frameLen f)

/-- Commands that the hub executes while DEV_STATE is LOADING, and those it executes in BARE as well; of REF_CTRL the bits that are
no field are ignored (R48, R128, R628). -/
def State.early (s : State) (a : Nat) (f : Frame) : Bool :=
  let op := frameOp f
  let blocks (l : List Nat) : Bool := (frameAddrs f).all (fun x => l.contains (x / 65536))
  op == 0x05 || op == 0x31 || op == 0x40 || op == 0x41
    || (op == 0x01 && blocks [0, 1, 2, 4])
    || (s.img.phase == .bare && (
      (0x10 ≤ op && op ≤ 0x13) || (op == 0x20 && frameLen f == 0)
        || ((op == 0x02 || op == 0x03) && blocks [0, 4])
        || ((op == 0x02 || op == 0x03) && s.inService a && (frameAddrs f).all (· == A.REF_CTRL)
          && f.payload.all (fun v => bitsOf v.toNat 0 1 == s.get F.REF_CTRL_SEL))))

/-- Commands that a stale agent may send (R130). -/
def staleMay (op : Nat) : Bool := [0x01, 0x05, 0x20, 0x31, 0x10, 0x11, 0x12, 0x13, 0x40, 0x41].contains op

/-- Commands that run while the hub drains for a power state (R584). -/
def drainMay (f : Frame) : Bool :=
  frameOp f == 0x05 || frameOp f == 0x31 || (frameOp f == 0x30 && f.w1 == 0)

/-- The hub drains for a power state (R584 step 3). -/
def State.draining (s : State) : Bool :=
  match s.pwr with
  | some p => p.drain.isSome
  | none => false

/-- The verdict on a frame before its opcode acts: OK, or the RESULT that refuses it. -/
def State.frameJudge (s : State) (a : Nat) (tr : Transport) (f : Frame) : Nat :=
  let op := frameOp f
  if frameTag f = 0 || frameRsv f != 0 then R.denied
  else match opLens op (frameLen f) with
    | none => R.denied
    | some false => R.badLen
    | some true =>
      let field := match tr with
        | .tunnel n => n.val != 0
        | _ => false
      if field && !(op ≤ 3 && inField f.w1.toNat) then R.denied
      else if s.tagOpen a (frameTag f) then R.busy
      else if (s.img.phase != .applied && !s.early a f) || (s.draining && !drainMay f) then R.busy
      else if (s.agent a).stale && !staleMay op then R.stale
      else R.ok

/-- A posted write that fails without a reply is entered in its writer's log (R126). -/
def State.postedFail (s : State) (a addr res : Nat) : State := s.logOp a res 4 36 addr

/-- A frame is refused. A posted write is entered in the agent's log, with a reply where ACK asks for one (R118, R126); the reply to
a CLAIM, a RELEASE or a HANDOVER waits for the boundary, whose owned resources it carries (R122, R131, R133), and a WRITE carries
the count 0 (R124). -/
def State.frameRefuse (s : State) (a : Nat) (tr : Transport) (f : Frame) (res : Nat) : State :=
  let op := frameOp f
  let s := if res = R.busy && s.tagOpen a (frameTag f) then s.bump (F.MGMT_TAG_ERR_COUNT a) 1 else s
  if op = 3 then
    (if frameAck f then s.answer a tr f res [] else s).postedFail a f.w1.toNat res
  else if op = 0x20 || op = 0x21 || op = 0x22 then
    s.modOwn (fun o => { o with reqs := o.reqs ++ [⟨a, tr, frameTag f, op, 0, res, false, false⟩] })
  else s.answer a tr f res (if op = 2 || op = 0x30 then [0] else [])

/-- There is room for another frame of an agent (R17, R19, R121, R449), and no posted write of it waits for a bus (R463). -/
def State.mgmtRoom (s : State) (a : Nat) (tr : Transport) (f : Frame) : Bool :=
  (if frameOp f = 3 then decide ((s.agent a).posted < 128)
    else decide ((s.agent a).openCmds.length < 128) && decide (s.npChip < 512))
    && (match tr with
      | .spi => decide (s.spiQ.length < 8)
      | .usb => decide ((vAt s.usbQ a).length < 16)
      | .tunnel _ => true)

/-- An agent's frame has had its turn; the next turn is the next agent's (R19). -/
def State.passTurn (s : State) (a : Nat) : State := { s with arb := (a + 1) % 5 }

/-- A frame whose turn has come: refused, or carried out by `act`. -/
def State.serve (s : State) (a : Nat) (tr : Transport) (f : Frame) (act : State → State) : State :=
  let r := s.frameJudge a tr f
  if r = R.ok then act (s.passTurn a) else (s.passTurn a).frameRefuse a tr f r

/-- No transport takes frames: during the self-test (R568), in OFF, and on the host side in DORMANT (R575). -/
def State.transportShut (s : State) (tr : Transport) : Bool :=
  s.img.phase == .testing || s.img.phase == .held || s.power == 4 || (s.power == 3 && tr != .spi)

/-- The oldest held frame of an agent can be passed on (R19). -/
def State.heldReady (s : State) (a : Nat) : Bool :=
  match (s.agent a).held with
  | [] => false
  | (tr, f) :: _ => !s.transportShut tr && s.awake && s.mgmtRoom a tr f

/-- Another agent whose turn comes before that of agent `a` has a held frame to pass on (R19). -/
def State.turnBefore (s : State) (a : Nat) : Bool :=
  (List.range ((a + 5 - s.arb % 5) % 5)).any (fun i => s.heldReady ((s.arb + i) % 5))

/-- A frame arrives on a transport: lost while the transports are shut, held while there is no room, others wait before it or
the hub sleeps (R19, R588), else served. -/
def State.arrive (s : State) (a : Nat) (tr : Transport) (f : Frame) (act : State → State) : State :=
  if s.transportShut tr then s
  else if !s.awake || !(s.agent a).held.isEmpty || s.turnBefore a || !s.mgmtRoom a tr f then
    s.modAgent a (fun g => { g with held := g.held ++ [(tr, f)] })
  else s.serve a tr f act

end Sys2Proof.Machine
end

