-- ==== Sys2Proof/Machine/Image.lean ====
section
/-! DEFINITION. Machine/Image.lean: the boot flash, the checks of a full image, boot, load sessions and live patches (R74 to
R92, R104 to R110). -/
namespace Sys2Proof.Machine

/-! ### The boot flash -/

/-- The flash offset of a slot: 0 A, 1 B (R85). -/
def slotBase (slot : Nat) : Nat := slot * 0x01000000

/-- `n` bytes of the flash from an offset. -/
def State.flashBytes (s : State) (lo n : Nat) : List Byte := cellGetAll 0xFF s.img.flash lo n

/-- A 64 KiB sector reads all ones (R89). -/
def State.flashErase (s : State) (sector : Nat) : State :=
  (s.modImg (fun i => { i with flash := cellKeep (fun k => k / 65536 != sector) i.flash })).emit (.flashErase sector)

/-- Bytes are programmed into erased flash (R90). -/
def State.flashProgram (s : State) (lo : Nat) (bs : List Byte) : State :=
  s.modImg (fun i => { i with flash := cellSplice 0xFF i.flash lo bs })

/-! ### The checks of R84 -/

/-- IMAGE_LEN that R74 and R88 allow. -/
def imageLenOk (n : Nat) : Bool := n % 4 == 0 && decide (n ≤ 16777216) && decide (264 ≤ n)

/-- The HEADER check on the 16 header words (R74). -/
def headerOk (w : List Word) : Bool :=
  wordAt w 0 == 0x31475245 && wordAt w 1 == 1 + 64 * 65536 && wordAt w 2 &&& 0xFF0E0000 == 0 && imageLenOk (wordAt w 3)
    && bitsOf (wordAt w 6) 16 16 == 0 && (List.range 6).all (fun i => wordAt w (10 + i) == 0)

/-- The slot that trusts a KEY body (R81). -/
def State.trustedSlot (s : State) (key : List Byte) : Option Nat :=
  firstIx 4 (fun i => vAt s.img.otp i == some (Config.sha384 key) && !bitAt s.img.revoked i)

/-- The slot that enrolment would program: the lowest blank one, in BARE, for an agent in service mode, under ENROL (R82). -/
def State.enrolSlot (s : State) (who : Option Nat) (enrol : Bool) : Option Nat :=
  match who with
  | some a => if enrol && s.img.phase == .bare && s.inService a then firstIx 4 (fun i => vAt s.img.otp i == none) else none
  | none => none

/-- The outcome of R84's checks: the cause, the column, case and LARGER of a ledger failure, the image, the slot that
authenticated it, and whether that slot is to be programmed. -/
structure Verdict where
  cause : Nat
  col : Nat
  kase : Nat
  larger : Nat
  gen : Nat
  good : Option (Erg × Nat × Bool)
deriving DecidableEq, Repr

/-- The checks from RECORD on, over the parsed records (R75 to R77, R84, R110 to R113). -/
def State.recsJudge (s : State) (e : Erg) (slot : Nat) (enrol : Bool) (who : Option Nat) : Verdict :=
  let rs := e.recs
  let cand := s.imageCandidate rs
  let no (c : Nat) : Verdict := ⟨c, 0, 0, 0, e.gen, none⟩
  if !recordsOk rs || !requiredRecs.all (fun k => (findRec rs k.1 k.2).isSome) then no 0x07
  else if !cand.contentOk rs (discSrc rs) then no 0x08
  else match cand.ledgerMismatch ((findRec rs 0x0A 0).elim [] (·.body)) with
    | some (c, k) => ⟨0x09, c, k, 0, e.gen, none⟩
    | none =>
      match cand.ledgerOver with
      | some (c, k, l) => ⟨0x0A, c, k, bit1 l, e.gen, none⟩
      | none =>
        let old := match who with
          | some a => s.inForce && !s.inService a && !newerThan 16 e.gen (s.get F.IMAGE_GEN_GEN)
          | none => false
        if old then no 0x0B else ⟨0, 0, 0, 0, e.gen, some (e, slot, enrol)⟩

/-- Every check of R84 on the bytes of an image; `who` is the committing agent, none at boot (R86). -/
def State.imageJudge (s : State) (bs : List Byte) (who : Option Nat) : Verdict :=
  let w := bytesWords (bs.take 64)
  let stop := wordAt w 3 - 96
  let gen := bitsOf (wordAt w 2) 0 16
  let no (c : Nat) : Verdict := ⟨c, 0, 0, 0, gen, none⟩
  let rev := Config.revMain.toNat
  if !(headerOk w && bs.length == wordAt w 3) then no 0x02
  else if wordAt w 5 != 0x5A489640 || decide (rev < bitsOf (wordAt w 6) 0 8) || decide (bitsOf (wordAt w 6) 8 8 < rev) then no 0x03
  else
    let k := bytesWords ((bs.drop 64).take 8)
    let key := (bs.drop 72).take 96
    let trusted := s.trustedSlot key
    let slot := trusted.or (s.enrolSlot who (bitAt (wordAt w 2) 16))
    if wordAt k 0 != 1 + 65536 || wordAt k 1 != 96 then no 0x04
    else match slot with
      | none => no 0x04
      | some slot =>
        let signed := bs.take stop
        let digest := Config.sha384 signed
        if crc32 (signed.drop 64) != wordAt w 7 then no 0x05
        else if !Config.ecdsaVerify key digest (bs.drop stop) then no 0x06
        else match parseRecs (wordAt w 4) (bytesWords (signed.drop 64)) with
          | none => no 0x07
          | some rs =>
            s.recsJudge ⟨gen, bitAt (wordAt w 2) 16, bitsOf (wordAt w 2) 20 4, rs, digest⟩ slot trusted.isNone who

/-! ### Boot (R85, R86, R567) -/

/-- FLASH_READY (R567): the flash reports no write in progress, or 2 s have passed, and the hub reads slot A. -/
def execFlashReady (s : State) : Res :=
  .next (if s.img.phase == .loading && s.img.bootSlot == 0 then s.modImg (fun i => { i with bootSlot := 1 }) else s)

/-- The checks of the slot being read at boot (R84, R85). -/
def State.bootJudge (s : State) : Verdict :=
  let lo := slotBase (s.img.bootSlot - 1)
  let head := s.flashBytes lo 64
  let n := wordAt (bytesWords head) 3
  if head.all (· == 0xFF) then ⟨0x01, 0, 0, 0, 0, none⟩
  else s.imageJudge (if imageLenOk n then s.flashBytes lo n else head) none

/-- BOOT_SLOT_CHECKED (R85, R569): a slot that passes is applied at the next boundary; A failing leads to B, and B failing
to BARE. IMAGE_RESULT names agent 7, since no agent boots, and RESULT_GEN is 0 for an erased slot (DESIGN CHOICE, log entry
139). -/
def execBootSlotChecked (s : State) : Res :=
  if s.img.phase == .loading && s.img.bootSlot != 0 && s.img.pend.isNone then
    let v := s.bootJudge
    let slot := s.img.bootSlot - 1
    .next (match v.good with
      | some (e, key, _) => s.modImg (fun i => { i with pend := some ⟨e, 7, .spi, 0, slot, key, false⟩ })
      | none =>
        let s := s.imageResult v.cause 7 0 v.col v.kase v.larger v.gen
        if slot = 0 then (s.put F.IMAGE_BOOT_SLOT_A v.cause).modImg (fun i => { i with bootSlot := 2 })
        else (s.put F.IMAGE_BOOT_SLOT_B v.cause).modImg (fun i => { i with phase := .bare, bootSlot := 0 }))
  else .next s

/-! ### Load sessions (R87 to R92) -/

/-- A session command ends with a cause of R84 and its RESULT (R84, R114). -/
def State.imageEnd (s : State) (a : Nat) (tr : Transport) (f : Frame) (cause : Nat) : State :=
  (s.imageResult cause a 1 0 0 0 0).reply a tr (frameTag f) (frameOp f) (causeResult cause) []

/-- What the session registers show. -/
def State.sessionSet (s : State) (x : Session) : State :=
  let s := s.modImg (fun i => { i with session := some x })
  (s.setReg A.IMAGE_SESSION (1 + 2 * x.agent + 16 * x.slot)).put F.IMAGE_SESSION_BYTES_COUNT x.got

/-- IMAGE_BEGIN's judgement (R88). -/
def State.beginJudge (s : State) (a : Nat) (f : Frame) : Nat :=
  let at_ := f.w1.toNat
  if !(s.img.phase == .bare || s.inService a || (s.inForce && bitAt s.agentsWord (8 + a))) then 0x0C
  else if at_ != slotBase 0 && at_ != slotBase 1 then 0x10
  else if s.img.session.isSome || s.get F.IMAGE_GEN_SOURCE == at_ / 0x01000000 + 1 then 0x0F
  else if !imageLenOk (wordAt f.payload 0) then 0x02
  else 0

/-- IMAGE_BEGIN (R88, R89). -/
def State.imageBegin (s : State) (a : Nat) (tr : Transport) (f : Frame) : State :=
  let c := s.beginJudge a f
  if c ≠ 0 then s.imageEnd a tr f c
  else
    let slot := f.w1.toNat / 0x01000000
    let s := s.sessionSet ⟨a, slot, wordAt f.payload 0, 0, s.tick, none⟩
    (s.flashErase (slotBase slot / 65536)).reply a tr (frameTag f) (frameOp f) R.ok []

/-- IMAGE_BEGIN (R88). -/
def execImageBegin (a : Agent) (t : Transport) (tag : Byte) (addr : Word) (data : List Word) (s : State) : Res :=
  let f := mkFrame 0x10 tag.toNat data.length 0 addr.toNat data
  .next (s.arrive a t f (fun s => s.imageBegin a t f))

/-- The session that an agent's IMAGE_DATA or IMAGE_COMMIT belongs to, or the cause that refuses it (R90). While the owner's commit
is being checked or waits for the boundary it is SEQUENCE (DESIGN CHOICE, log entry 113). -/
def State.sessionOf (s : State) (a : Nat) : Except Nat Session :=
  match s.img.session with
  | none => .error 0x10
  | some x => if x.agent ≠ a then .error 0x0F else if x.commit.isSome then .error 0x10 else .ok x

/-- The sectors beyond the first that data of `n` bytes at offset `got` of a slot begins (R89). -/
def newSectors (got n : Nat) : List Nat :=
  (List.range (ceilDiv (got + n) 65536)).filter (fun k => k != 0 && decide (got ≤ 65536 * k))

/-- IMAGE_DATA (R90). -/
def State.imageData (s : State) (a : Nat) (tr : Transport) (f : Frame) : State :=
  match s.sessionOf a with
  | .error c => s.imageEnd a tr f c
  | .ok x =>
    let s := s.sessionSet { x with lastTick := s.tick }
    let bs := wordsBytes f.payload
    if f.w1.toNat ≠ x.got then s.imageEnd a tr f 0x10
    else if x.len < x.got + bs.length then s.imageEnd a tr f 0x14
    else
      let lo := slotBase x.slot
      let s := s.each (newSectors x.got bs.length) (fun s k => s.flashErase (lo / 65536 + k))
      let s := s.flashProgram (lo + x.got) bs
      let s := s.sessionSet { x with got := x.got + bs.length, lastTick := s.tick }
      s.reply a tr (frameTag f) (frameOp f) R.ok []

/-- IMAGE_DATA (R90). -/
def execImageData (a : Agent) (t : Transport) (tag : Byte) (addr : Word) (data : List Word) (s : State) : Res :=
  let f := mkFrame 0x11 tag.toNat data.length 0 addr.toNat data
  .next (s.arrive a t f (fun s => s.imageData a t f))

/-- IMAGE_COMMIT: accepted, it stays open until the image is applied or refused (R91). -/
def State.imageCommit (s : State) (a : Nat) (tr : Transport) (f : Frame) : State :=
  match s.sessionOf a with
  | .error c => s.imageEnd a tr f c
  | .ok x =>
    let s := s.sessionSet { x with lastTick := s.tick }
    if f.w1 ≠ 0 || x.got ≠ x.len then s.imageEnd a tr f 0x10
    else
      (s.openNp a tr (frameTag f) (frameOp f) 0 0).sessionSet { x with lastTick := s.tick, commit := some (tr, frameTag f) }

/-- IMAGE_COMMIT (R91). -/
def execImageCommit (a : Agent) (t : Transport) (tag : Byte) (addr : Word) (data : List Word) (s : State) : Res :=
  let f := mkFrame 0x12 tag.toNat data.length 0 addr.toNat data
  .next (s.arrive a t f (fun s => s.imageCommit a t f))

/-- The checks of a commit have ended: refused, it replies and closes the session; passed, a key to enrol goes into OTP and the
image waits for the boundary (R82, R91, R93). IMAGE_LEN of the header must be the session's, since the checks run over the session's
bytes: one that differs is HEADER (DEDUCED, log entry 114). -/
def State.commitChecked (s : State) (x : Session) (tr : Transport) (tag : Nat) : State :=
  let v := s.imageJudge (s.flashBytes (slotBase x.slot) x.len) (some x.agent)
  match v.good with
  | none =>
    let s := s.sessionClose.imageResult v.cause x.agent 1 v.col v.kase v.larger v.gen
    s.complete x.agent tag (causeResult v.cause) []
  | some (e, slot, enrol) =>
    let key := wordsBytes ((findRec e.recs 1 0).elim [] (·.body))
    s.modImg (fun i => { i with
      otp := if enrol then vPut i.otp slot (some (Config.sha384 key)) else i.otp,
      pend := some ⟨e, x.agent, tr, tag, x.slot, slot, s.inService x.agent⟩ })

/-- IMAGE_CHECK_DONE (R91). -/
def execImageCheckDone (s : State) : Res :=
  .next (match s.img.session with
    | some x =>
      match x.commit with
      | some (tr, tag) => if s.img.pend.isNone then s.commitChecked x tr tag else s
      | none => s
    | none => s)

/-- A session that R92 closes: SESSION_TIMEOUT in its owner's log, and an open commit ends ABORTED; not once its checks have
passed (R91, R607). -/
def State.sessionAbort (s : State) : State :=
  match s.img.session with
  | none => s
  | some x =>
    if s.img.pend.isSome then s
    else
      let s := (s.sessionClose.logOp x.agent R.aborted 2 37 x.got).imageResult 0x11 x.agent 1 0 0 0 0
      match x.commit with
      | some (_, tag) => s.complete x.agent tag R.aborted []
      | none => s

/-- SESSION_TIMEOUT (R92): 8,000 ticks have passed with no IMAGE_DATA or IMAGE_COMMIT. -/
def execSessionTimeout (s : State) : Res :=
  .next (match s.img.session with
    | some x => if x.commit.isSome then s else (s.advanceTo ((x.lastTick + 8000) * 125000)).sessionAbort
    | none => s)

/-! ### Live patches (R104 to R108) -/

/-- A patch's EFUSE records change TOPO of no channel (R106, R537). -/
def State.topoKept (s : State) (prs : List Rec) : Bool :=
  prs.all (fun r => r.ty != 0x0F || bitsOf (wordAt r.body 0) 0 2 == bitsOf (recWord s.img.recs 0x0F r.inst 0) 0 2)

/-- A patch's EFUSE records change no other QUIET field of a channel that is neither disabled nor in isolation (R103, R535,
R537). -/
def State.quietKept (s : State) (prs : List Rec) : Bool :=
  prs.all (fun r => r.ty != 0x0F || decide (8 ≤ r.inst) || !s.flag (F.EF_CTRL_ENABLE r.inst)
    || !s.unitRuns (16 + r.inst) || wordAt r.body 0 &&& 0xFFFF000C == recWord s.img.recs 0x0F r.inst 0 &&& 0xFFFF000C)

/-- The sources of DISC_CTRL by which R61 judges a patch: those of its own TIME_CONFIG record, else those in force (DEDUCED, log
entry 119). -/
def State.patchSrc (s : State) (prs : List Rec) : Nat :=
  if (findRec prs 0x12 0).isSome then discSrc prs else s.reg A.DISC_CTRL % 2 ^ 12

/-- The judgement of a patch from RECORD on (R106). A field relation of R100 that the patch breaks on top of the pending commits is
CONTENT, judged with the ledger (DESIGN CHOICE, log entry 118). -/
def State.patchRecs (s : State) (prs : List Rec) : Nat × Nat × Nat × Nat :=
  let rs := prs.foldl mergeRec s.img.recs
  let cand := s.imageCandidate rs
  if !recordsOk prs then (0x07, 0, 0, 0)
  else if !prs.all (fun r => patchable r.ty) || !s.topoKept prs then (0x0E, 0, 0, 0)
  else if !s.quietKept prs then (0x0D, 0, 0, 0)
  else if !(cand.contentOk rs (s.patchSrc prs) && prs.all (fun r => r.inst ≤ maxInst r.ty && (r.ty != 8 || bankOk r))) then (0x08, 0, 0, 0)
  else match cand.ledgerMismatch ((findRec rs 0x0A 0).elim [] (·.body)) with
    | some (c, k) => (0x09, c, k, 0)
    | none => ((s.pendingView.patchCandidate prs).judgeView).getD (0, 0, 0, 0)

/-- The judgement of a patch (R106): cause, column, case, LARGER, NEW_GEN and the records. -/
def State.patchJudge (s : State) (a : Nat) (ws : List Word) : (Nat × Nat × Nat × Nat) × Nat × List Rec :=
  let bs := wordsBytes ws
  let stop := bs.length - 96
  let gen := bitsOf (wordAt ws 1) 16 16
  let key := wordsBytes ((findRec s.img.recs 1 0).elim [] (·.body))
  let no (c : Nat) : (Nat × Nat × Nat × Nat) × Nat × List Rec := ((c, 0, 0, 0), gen, [])
  if !(s.inForce && bitAt s.agentsWord (16 + a)) then no 0x0C
  else if s.img.session.isSome then no 0x0F
  else if bs.length < 112 || wordAt ws 0 != 0x50475245 then no 0x02
  else if crc32 ((bs.take stop).drop 16) != wordAt ws 3 then no 0x05
  else if !Config.ecdsaVerify key (Config.sha384 (bs.take stop)) (bs.drop stop) then no 0x06
  else if bitsOf (wordAt ws 1) 0 16 != s.get F.IMAGE_GEN_GEN || !newerThan 16 gen (s.get F.IMAGE_GEN_GEN) then no 0x0B
  else match parseRecs (wordAt ws 2) (bytesWords ((bs.take stop).drop 16)) with
    | none => no 0x07
    | some prs => (s.patchRecs prs, gen, prs)

/-- IMAGE_PATCH: refused whole, or accepted for the next boundary (R106, R107). -/
def State.imagePatch (s : State) (a : Nat) (tr : Transport) (f : Frame) : State :=
  let ((c, col, k, l), gen, prs) := s.patchJudge a f.payload
  if c ≠ 0 then
    (s.imageResult c a 2 col k l gen).reply a tr (frameTag f) (frameOp f) (causeResult c) []
  else
    (s.openNp a tr (frameTag f) (frameOp f) 0 0).modImg (fun i =>
      { i with patches := i.patches ++ [⟨a, tr, frameTag f, gen, prs⟩] })

/-- IMAGE_PATCH (R106). -/
def execImagePatch (a : Agent) (t : Transport) (tag : Byte) (addr : Word) (data : List Word) (s : State) : Res :=
  let f := mkFrame 0x13 tag.toNat data.length 0 addr.toNat data
  .next (s.arrive a t f (fun s => s.imagePatch a t f))

end Sys2Proof.Machine
end

