-- ==== Sys2Proof/Machine/Oasis.lean ====
section
/-! DEFINITION. Machine/Oasis.lean: SRAM errors and repair, fatal errors and escalation, the error-log registers' actions, wear
monitors and the wear record (R595 to R620). -/
namespace Sys2Proof.Machine

/-! ### Fatal errors (R611, R612) -/

/-- The owner of the resource that an isolation unit serves, 7 where it serves none or several (R608). -/
def State.unitOwner (s : State) (u : Nat) : Nat :=
  if 9 ≤ u && u < 13 then s.ownerOf (u - 9) else if 16 ≤ u && u < 24 then s.ownerOf (48 + (u - 16)) else 7

/-- What a FATAL error, once logged, does: in a running isolation unit a second one within ESC_WINDOW ticks escalates (R611); in a
unit coded 32 or above it sets CORE_FATAL and raises the notice (R612). -/
def State.fatalMet (s : State) (u : Nat) : State :=
  if 32 ≤ u && u < 42 then (s.put F.OA_STATUS_CORE_FATAL 1).notice 16 u
  else if 24 ≤ u || !s.unitRuns u then s
  else
    let again := match vAt s.oa.fatalAt u with
      | some t => decide (s.tick - t ≤ s.get F.OA_CFG_ESC_WINDOW)
      | none => false
    let s := { s with oa := { s.oa with fatalAt := vPut s.oa.fatalAt u (some s.tick) } }
    if again then (s.logHw (s.unitOwner u) 3 0 0x16 u u).isoEscalate u else s

/-! ### SRAM (R595 to R600) -/

/-- DETAIL of an SRAM error (R607). -/
def rowDetail (array row : Nat) : Nat := array % 65536 + 65536 * (row % 65536)

/-- A row joins the repair queue, at most 8 further rows waiting per array (R598, R599). -/
def State.queueRepair (s : State) (array row : Nat) : State :=
  let q := s.oa.repairQ
  if q.contains (array, row) || s.oa.repairs.any (fun r => r.1 == array && r.2.1 == row)
      || decide (9 ≤ (q.filter (fun r => r.1 == array)).length) then s
  else { s with oa := { s.oa with repairQ := q ++ [(array, row)] } }

/-- An uncorrectable internal error was met while the hub served an agent's open command: the command ends INTERNAL, and the error
is entered in the agent's log as FATAL with the command's ADDRESS (R141, R607). -/
def State.internalError (s : State) (a tag unit : Nat) : State :=
  match s.openCmd a tag with
  | some c => (s.logOp a R.internal 6 unit c.addr).complete a tag R.internal []
  | none => s

/-- The open command that met an error, if there is one (R141, R606). -/
def State.metBy (s : State) (met : EccIn) : Option (Nat × Nat) :=
  match met.serving with
  | some (a, tag) => if (s.openCmd a tag.toNat).isSome then some (a.val, tag.toNat) else none
  | none => none

/-- An uncorrectable word that no second copy restores (R354, R595, R606): the error entry carries the result of the command that met
it, whose own entry stands before it (R609), and that command's FATAL error counts under R611 and R612. -/
def State.eccLost (s : State) (array : BitVec 16) (detail : Nat) (met : EccIn) : State :=
  let unit := (Config.arrayUnit array).toNat
  let s := if Config.arrayPlaya array then s.grainError met.grain else s
  match s.metBy met with
  | some (a, tag) => (((s.internalError a tag unit).logHw (s.unitOwner unit) 2 R.internal 0x11 unit detail)).fatalMet unit
  | none => s.logHw (s.unitOwner unit) 2 0 0x11 unit detail

/-- ECC_ERROR (R354, R595, R597, R598): a single-bit error is corrected; an uncorrectable one is reported and its row queued for
repair; `table` is the word index where the word stands in a core table, whose other copy then restores it. -/
def execEccError (array row : BitVec 16) (double : Bool) (met : EccIn) (s : State) : Res :=
  let unit := (Config.arrayUnit array).toNat
  let detail := rowDetail array.toNat row.toNat
  .next (if !double then (s.bump F.OA_SRAM_CE_COUNT 1).logHw (s.unitOwner unit) 1 0 0x10 unit detail
    else
      let s := match met.table with
        | some w => s.logHw (s.unitOwner unit) 1 0 0x13 unit w.toNat
        | none => s.eccLost array detail met
      s.queueRepair array.toNat row.toNat)

/-- SCRUB (R596, R598): one pass over every word ends; `fixes` are the rows in which it corrected words. A row with corrected
errors on two of the last four passes is queued for repair. -/
def execScrub (fixes : List (BitVec 16 × BitVec 16)) (s : State) : Res :=
  let hits : List (Nat × Nat) := fixes.map (fun f => (f.1.toNat, f.2.toNat))
  let s := fixes.foldl (fun s f =>
    let unit := (Config.arrayUnit f.1).toNat
    (s.bump F.OA_SRAM_CE_COUNT 1).logHw (s.unitOwner unit) 1 0 0x10 unit (rowDetail f.1.toNat f.2.toNat)) s
  let old := s.oa.scrubs.map (fun e => (e.1, 2 * e.2 % 16 + bit1 (hits.contains e.1)))
  let fresh := (hits.eraseDups.filter (fun r => old.all (fun e => e.1 != r))).map (fun r => (r, 1))
  let all := (old ++ fresh).filter (fun e => e.2 != 0)
  let s := { s with oa := { s.oa with scrubs := all } }
  .next ((all.filter (fun e => decide (2 ≤ popCount 4 e.2))).foldl (fun s e => s.queueRepair e.1.1 e.1.2) s)

/-- ROW_REPAIR (R599, R600): the repair of a queued row ends. `spares` is the number of spare rows of the array, and bit i of
`badSpares` says that spare row i failed its march test. -/
def execRowRepair (array row : BitVec 16) (badSpares spares : Nat) (s : State) : Res :=
  let a := array.toNat
  let r := row.toNat
  if !s.oa.repairQ.contains (a, r) then .next s
  else
    let taken (n : Nat) : Bool := s.oa.repairs.any (fun x => x.1 == a && x.2.2 == n) || s.oa.badSpares.contains (a, n)
    let free := (List.range spares).filter (fun n => !taken n)
    let pick := free.find? (fun n => !bitAt badSpares n)
    let tried := match pick with
      | some p => free.filter (fun n => decide (n < p))
      | none => free
    let s := { s with oa := { s.oa with repairQ := s.oa.repairQ.filter (· != (a, r)),
                                        badSpares := s.oa.badSpares ++ tried.map (fun n => (a, n)) } }
    .next (match pick with
      | none => s
      | some p =>
        let s := { s with oa := { s.oa with repairs := s.oa.repairs ++ [(a, r, p)] } }
        let used := (s.oa.repairs.filter (·.1 == a)).length + (s.oa.badSpares.filter (·.1 == a)).length
        let s := s.put F.OA_SRAM_WORST_PCT (max (s.get F.OA_SRAM_WORST_PCT) (min 100 (100 * used / max 1 spares)))
        let s := s.bump F.OA_SRAM_REPAIRS 1
        let unit := (Config.arrayUnit array).toNat
        let s := s.logHw (s.unitOwner unit) 1 0 0x12 unit (rowDetail a r)
        let s := s.raise 2 ⟨A.OA_EVT, 2, 1⟩
        if 75 * spares ≤ 100 * used && !s.oa.crossed.contains (6, a) then
          ({ s with oa := { s.oa with crossed := s.oa.crossed ++ [(6, a)] } } : State).notice 6 a
        else s)

/-! ### The command of a fatal error (R611, R612) -/

/-- FATAL_ERROR (R611, R612): codes 24 to 31 name no unit. -/
def execFatalError (unit : Fin 42) (code : Word) (s : State) : Res :=
  .next (if 24 ≤ unit.val && unit.val < 32 then s
    else (s.logHw (s.unitOwner unit.val) 3 0 0x15 unit.val code.toNat).fatalMet unit.val)

/-! ### The error-log registers (R610) -/

/-- ERR_RING_POP.POP: the oldest ring entry goes. -/
def State.ringPop (s : State) (a : Nat) : State := { s with logs := vMod s.logs a (fun l => { l with ring := l.ring.drop 1 }) }

/-- ERR_FIRST_ACK.ACK: the capture is emptied. -/
def State.firstAck (s : State) (a : Nat) : State := { s with logs := vMod s.logs a (fun l => { l with first := none }) }

/-! ### Wear monitors (R613 to R618) -/

/-- A threshold of an instance is compared: a crossing raises the notice once, and falling below ends the occurrence. -/
def State.threshold (s : State) (n inst : Nat) (above : Bool) : State :=
  let seen := s.oa.crossed.contains (n, inst)
  if above && !seen then ({ s with oa := { s.oa with crossed := s.oa.crossed ++ [(n, inst)] } } : State).notice n inst
  else if !above && seen then { s with oa := { s.oa with crossed := s.oa.crossed.filter (· != (n, inst)) } }
  else s

/-- PERIOD of the WEAR_SAMPLE entry of a monitor in the chore table (R60, R614). -/
def State.wearPeriod (s : State) (m : Nat) : Nat :=
  match firstIx 1024 (fun i => bitsOf (s.get (F.CHORE_LO_W i)) 10 6 == 8 && bitsOf (s.get (F.CHORE_HI_W i)) 16 16 == m
      && bitsOf (s.get (F.CHORE_LO_W i)) 16 16 != 0) with
  | some i => bitsOf (s.get (F.CHORE_LO_W i)) 16 16
  | none => 0

/-- Monitor 0: the hottest junction sample, in 0.25 degC units, and ageing (R615, R622). -/
def State.wearHeat (s : State) (sample : Int) : State :=
  let peak := signedOf 12 (s.get F.OA_TJ_PEAK)
  let s := s.put F.OA_TJ_NOW (toBits 12 (clampSigned 12 sample))
  let s := s.put F.OA_TJ_PEAK (toBits 12 (clampSigned 12 (max peak sample)))
  let period := s.wearPeriod 0
  let age := s.oa.ageFrac.1 + Config.ageStep sample period
  let hot := s.oa.ageFrac.2 + (if sample > 500 then period else 0)
  let s := s.bump F.OA_AGE_EQ (age / 2 ^ 32)
  let s := s.bump F.OA_HOT_H (hot / 1800000)
  let s := { s with oa := { s.oa with ageFrac := (age % 2 ^ 32, hot % 1800000) } }
  let s := s.threshold 13 0 (decide (225000 * 16 ≤ s.get F.OA_AGE_EQ))
  let s := s.threshold 14 0 (decide (1800 * 16 ≤ s.get F.OA_HOT_H))
  let s := if sample > 600 then s.logHw 7 2 0 0x1A 41 (sample / 4).toNat else s
  let s := s.threshold 15 0 (decide (sample > 600))
  let warn : Int := (400 + 40 * s.get F.OA_CFG_TJ_WARN : Nat)
  if sample > warn then s.raise 11 ⟨A.OA_EVT, 6, 1⟩ else s

/-- Monitor 1: the greatest slowdown of a ring oscillator in per mille. As it grows, VDD_CORE goes up within its range, by how
much being open (R615, R645). -/
def State.wearRing (s : State) (slow : Nat) : State :=
  let old := s.get F.OA_RO_SLOW
  let s := s.put F.OA_RO_SLOW (min slow 255)
  let s := if old < min slow 255 then
      ({ s with rails := { s.rails with vid := min 40 (s.rails.vid + s.freeVal 1) } } : State).took else s
  s.threshold 12 0 (decide (40 < slow))

/-- Monitor 3: lifetime attaches of each port. -/
def State.wearAttach (s : State) : State :=
  s.each (List.range 4) (fun s p =>
    let n := s.get (F.TC_COUNT_ATTACHES p)
    let s := s.bump (F.OA_ATTACH_p_V p) (n - vAt s.oa.attSeen p)
    let s := { s with oa := { s.oa with attSeen := vPut s.oa.attSeen p n } }
    s.threshold 9 p (decide (9000 ≤ s.get (F.OA_ATTACH_p_V p))))

/-- Monitor 4: corrected symbols of each port over the last 8,000 ticks. -/
def State.wearBer (s : State) : State :=
  s.each (List.range 4) (fun s h =>
    let n := s.get (F.CV_CORR_SYM_COUNT h)
    let hist := vAt s.oa.symSeen h
    let base := ((hist.find? (fun e => decide (e.1 + 8000 ≤ s.tick))).map (·.2)).getD 0
    let keep := hist.filter (fun e => decide (s.tick < e.1 + 8000)) ++ (hist.filter (fun e => decide (e.1 + 8000 ≤ s.tick))).take 1
    let s := { s with oa := { s.oa with symSeen := vPut s.oa.symSeen h ((s.tick, n) :: keep) } }
    s.threshold 10 h (decide (s.get F.OA_LIMIT2_CORR_SYM < n - base)))

/-- Monitor 5: 64 consecutive low rounds on a lane of a group. -/
def State.wearEyes (s : State) : State :=
  s.each (List.range 9) (fun s g => s.threshold 11 g ((List.range 4).any (fun l => decide (64 ≤ (vAt s.eyes (4 * g + l)).lowRounds))))

/-- Monitor 6: the loopback test of each group's spare slice; a slice that fails is never used (R601). -/
def State.wearSlices (s : State) (bad : Nat) : State :=
  s.each (List.range 9) (fun s g =>
    if bitAt bad g && s.flag (F.LG_STATUS_SPARE_SLICE_FREE g) then (s.put (F.LG_STATUS_SPARE_SLICE_FREE g) 0).notice 2 g else s)

/-- WEAR_SAMPLE (R613): one run of monitor `m`. `sample` is the hottest sensor in 0.25 degC units for monitor 0 and the greatest
slowdown in per mille for monitor 1; bit g of `slices` says that the spare slice of LG_g failed its test (monitor 6). -/
def execWearSample (m : Fin 8) (prevOpen : Bool) (sample : Int) (slices : BitVec 9) (s : State) : Res :=
  .next (s.chore 8 m.val prevOpen (fun s => match m.val with
    | 0 => s.wearHeat sample
    | 1 => s.wearRing sample.toNat
    | 2 => s.each (List.range 8) (fun s c =>
        s.threshold 8 c (decide (s.get F.OA_LIMIT_FET_CYCLES ≤ s.get (F.OA_FET_CYC_c_V c))))
    | 3 => s.wearAttach
    | 4 => s.wearBer
    | 5 => s.wearEyes
    | 6 => s.wearSlices slices.toNat
    | _ => if s.oa.recordAt + 691200000 ≤ s.tick then { s with oa := { s.oa with recordDue := true } } else s))

/-! ### The wear record (R619, R620) -/

/-- The ring's base in the boot flash. -/
def wearBase : Nat := 0x02000000

/-- The bytes of record place `i` of the ring, 0 to 1,023. -/
def State.wearBytes (s : State) (i : Nat) : List Byte := s.flashBytes (wearBase + 256 * i) 256

/-- The words of record place `i`, where it holds a record with a good CRC. -/
def State.wearRecord (s : State) (i : Nat) : Option (List Word) :=
  let bs := s.wearBytes i
  let w := bytesWords bs
  if wordAt w 0 == 0x5257414F && crc32 (bs.take 252) == wordAt w 63 then some w else none

/-- The 63 words of a wear record before its CRC. -/
def State.wearWords (s : State) (seq : Nat) : List Nat :=
  [0x5257414F, seq, s.get F.OA_AGE_EQ, s.get F.OA_HOT_H]
    ++ (List.range 4).map (fun p => s.get (F.OA_ATTACH_p_V p))
    ++ (List.range 8).map (fun c => s.get (F.OA_FET_CYC_c_V c))
    ++ (List.range 47).map (fun i => match s.oa.repairs[i]? with
      | some r => rowDetail r.1 r.2.1
      | none => 0xFFFFFFFF)

/-- The next wear record is written: into the place after the last one, its sector erased where it begins one. -/
def State.wearWrite (s : State) : State :=
  let at_ := match s.oa.recordPos with
    | some i => (i + 1) % 1024
    | none => 0
  let seq := match s.oa.recordPos with
    | some i => (((s.wearRecord i).map (fun w => wordAt w 1)).getD 0 + 1) % 2 ^ 32
    | none => 1
  let s := if at_ % 256 = 0 then s.flashErase (wearBase / 65536 + at_ / 256) else s
  let body := wordsBytes ((s.wearWords seq).map w32)
  let s := s.flashProgram (wearBase + 256 * at_) (body ++ wordBytes (w32 (crc32 body)))
  let s := { s with oa := { s.oa with recordDue := false, recordAt := s.tick, recordPos := some at_ } }
  s.put F.OA_RECORD_SEQ seq

/-- The flash takes the record, or fails: open (log entry 165). A write that fails raises FLASH_RECORD and leaves the record due
(R613). -/
def State.wearPut (s : State) : State := if s.freeVal 1 = 0 then s.took.wearWrite else s.took.notice 18 0

/-- WEAR_RECORD_WRITE (R613, R619): a record that is due is written, deferred while a load session is open or the device is
LOADING. -/
def execWearRecordWrite (s : State) : Res :=
  .next (if s.oa.recordDue && s.img.session.isNone && s.devState != 1 then s.wearPut else s)

/-- The place whose record has a good CRC and the newest SEQ (R71, R620). -/
def State.wearNewest (s : State) : Option (Nat × List Word) :=
  (List.range 1024).foldl (fun (best : Option (Nat × List Word)) i =>
    match s.wearRecord i, best with
    | some w, none => some (i, w)
    | some w, some b => if newerThan 32 (wordAt w 1) (wordAt b.2 1) then some (i, w) else best
    | none, _ => best) none

/-- A cold start loads the newest record, or starts every count at 0 with notice FLASH_RECORD (R620). -/
def State.wearLoad (s : State) : State :=
  match s.wearNewest with
  | none => s.notice 18 0
  | some (i, w) =>
    let s := (s.put F.OA_AGE_EQ (wordAt w 2)).put F.OA_HOT_H (wordAt w 3)
    let s := s.each (List.range 4) (fun s p => s.put (F.OA_ATTACH_p_V p) (wordAt w (4 + p)))
    let s := s.each (List.range 8) (fun s c => s.put (F.OA_FET_CYC_c_V c) (wordAt w (8 + c)))
    let rows := ((List.range 47).map (fun k => wordAt w (16 + k))).filter (· != 0xFFFFFFFF)
    let pairs := rows.map (fun r => (r % 65536, r / 65536))
    let reps := pairs.zipIdx.map (fun e => (e.1.1, e.1.2, ((pairs.take e.2).filter (fun q => q.1 == e.1.1)).length))
    let s := { s with oa := { s.oa with repairs := reps, recordPos := some i, recordAt := s.tick } }
    let s := s.put F.OA_SRAM_REPAIRS rows.length
    (s.put F.OA_STATUS_RECORD_OK 1).put F.OA_RECORD_SEQ (wordAt w 1)

end Sys2Proof.Machine
end

