-- ==== Sys2Proof/Machine/Reset.lean ====
section
/-! DEFINITION. Machine/Reset.lean: cold and warm reset, the rail sequence and the end of the self-test (R556 to R569, R620,
R640, R643 to R645). -/
namespace Sys2Proof.Machine

/-! ### Cold reset (R557, R559, R561) -/

/-- The state after a cold reset recorded with SYS_RESET_CAUSE `code`. The flash, the OTP and the keep domain outlast it, the
keep words but for code 1 (R640), and the module digests while VHAM_IN stays valid (R561). -/
def State.coldState (s : State) (code : Nat) (vham : Bool) : State :=
  let r := { State.reset with pending := s.pending, out := s.out, free := s.free }
  let r := r.modImg (fun i => { i with flash := s.img.flash, otp := s.img.otp, revoked := s.img.revoked, phase := .held })
  let r := r.setReg A.SYS_RESET_CAUSE code
  let r := if code = 1 then r
    else
      let r := r.each (List.range 4) (fun r n => r.put (F.SYS_KEEP_n_DATA n) (s.get (F.SYS_KEEP_n_DATA n)))
      r.setReg A.BROWNOUT_CAUSE (s.reg A.BROWNOUT_CAUSE)
  if vham then
    { r with wd := { r.wd with mods := Vector.map (fun (m : ModSlot) => { vAt wadi0.mods 0 with digest := m.digest }) s.wd.mods } }
  else r

/-- The state with these rails; once every rail is valid, cold reset is released and the self-test begins (R557, R644). -/
def State.railsTo (s : State) (valid en : Nat) : State :=
  let s := { s with rails := { s.rails with valid := valid, en := en } }
  if valid = 127 && s.img.phase == .held then s.modImg (fun i => { i with phase := .testing }) else s

/-- A cold reset: cause 0 VHAM_IN below its threshold, 1 to 6 the rail of PWR_EN_0 to PWR_EN_5 outside its window, 7 brown-out,
8 wake from OFF. -/
def State.coldReset (s : State) (cause : Nat) : State :=
  let r := s.coldState (if cause < 7 then 1 else cause - 5) (cause != 0)
  if cause = 0 then r.railsTo 0 0
  else if cause < 7 then r.railsTo (s.rails.valid &&& (127 - 2 ^ cause)) s.rails.en
  else if s.rails.en = 0 then r.railsTo 1 1
  else if s.rails.en = 63 then r.railsTo s.rails.valid 63
  else r.railsTo s.rails.valid (2 * s.rails.en + 1)

/-- COLD_RESET (R557). -/
def execColdReset (cause : Fin 9) (s : State) : Res := .next (s.coldReset cause)

/-- RAIL_VALID (R643, R644): rail 0 is VHAM_IN, rail 1 + i that of PWR_EN_i. The next enable rises 0.5 ms later. -/
def execRailValid (rail : Fin 7) (s : State) : Res :=
  let r := rail.val
  let v := s.rails.valid
  .next (if !(s.img.phase == .held) || bitAt v r then s
    else if r = 0 then s.railsTo (v ||| 1) (s.rails.en ||| 1)
    else if !bitAt v 0 || !(r = 1 || bitAt s.rails.en (r - 1)) then s
    else s.railsTo (v ||| 2 ^ r) ((s.rails.en ||| 2 ^ (r - 1) ||| 2 ^ r) % 64))

/-- RAIL_SEQUENCE_FAIL (R644): the rail of PWR_EN_i is not valid within 5 ms of its enable; every enable falls, and the sequence
starts again 100 ms later. -/
def execRailSequenceFail (rail : Fin 6) (s : State) : Res :=
  .next (if s.img.phase == .held && bitAt s.rails.en rail && !bitAt s.rails.valid (rail.val + 1) then
      s.railsTo (s.rails.valid % 2) 0
    else s)

/-! ### Warm reset (R558, R559, R561 to R564) -/

/-- The bits of a register that a warm reset leaves as they are (R45, R206, R387, R440, R553, R561, R564, R640). -/
def warmMask (k : Nat) : Nat :=
  let all := 0xFFFFFFFF
  let upper := 0xFFFF0000
  if k = A.SYS_STATE then 0x80
  else if k = A.SYS_RESET_CAUSE || k = A.PWR_WAKE || k = A.DISC_STATUS || k = A.SR_STATUS then upper
  else if A.SYS_KEEP_n 0 ≤ k && k < A.SYS_KEEP_n 4 then all
  else if A.ISO_u 0 ≤ k && k < A.ISO_u 24 then upper
  else if k = A.BROWNOUT_CAUSE then all
  else if k = A.REF_CTRL then 2 ^ F.REF_CTRL_SEL.lsb
  else if k = A.REF_STATUS || k = A.REF_ADJ || k = A.TOD_OFFSET_NS || k = A.TOD_OFFSET_SEC_LO || k = A.TOD_OFFSET_SEC_HI then all
  else if A.EVT_RISE_s 0 ≤ k && k < A.EVT_RISE_s 256 then all
  else if A.OWN_k 0 ≤ k && k < A.OWN_k 56 then 0xFF000000
  else if A.CV_CTRL 0 ≤ k && k < A.CV_CTRL 4 then
    let o := k % 0x10000
    if o = 4 then 0x003F0000
    else if (0x20 ≤ o && o ≤ 0x40) || o = 0x100 || (0x108 ≤ o && o ≤ 0x114) || o = 0x120 then all else 0
  else if A.LG_CTRL 0 ≤ k && k < A.LG_CTRL 9 then
    let o := k % 0x8000
    if o = 4 then 0xFFFFF else if k < A.LG_CTRL 4 && 0x100 ≤ o && o < 0x200 && o % 0x40 < 0x10 then all else 0
  else if A.HD_CTRL 0 ≤ k && k < A.HD_CTRL 2 then
    let o := k % 0x10000
    if o = 0xC || (0x100 ≤ o && o < 0x200) || (0x1000 ≤ o && o < 0x3000) then all else 0
  else if k = A.PX_STATUS 0 || k = A.PX_STATUS 1 then 0x600
  else if k = A.USB_STATUS then 1
  else if A.DS_CFG_n 0 ≤ k && k < A.DS_CFG_n 8 then (if k % 0x40 = 8 then 0x40 else 0)
  else if A.WD_PERR_STAT_h 0 ≤ k && k < A.WD_PERR_E 3 4 then
    (if k % 0x40 = 4 || (0x10 ≤ k % 0x40 && k % 0x40 < 0x20) then all else 0)
  else if 0x900000 ≤ k && k < 0xB00000 then all
  else if k = A.OA_STATUS then 1
  else if k = A.OA_SHED_STATUS || k = A.OA_AGE || k = A.OA_HOT || k = A.OA_SRAM || k = A.OA_SRAM_CE then all
  else if k = A.OA_TJ then 0x0FFF0000
  else if A.OA_ATTACH_p 0 ≤ k && k < A.OA_FET_CYC_c 8 then all
  else if A.OA_NOTICE_DETAIL_n 0 ≤ k && k < A.OA_NOTICE_DETAIL_n 32 then upper
  else 0

/-- The registers after a warm reset: reset values, but for the bits that it leaves. -/
def warmRegs (old : List (Nat × Word)) : List (Nat × Word) :=
  let mix (k : Nat) (new was : Word) : Word := (new &&& ~~~(w32 (warmMask k))) ||| (was &&& w32 (warmMask k))
  let base := resetRegs.foldl (fun l c => cellSet 0 l c.1 (mix c.1 c.2 (cellGet 0 old c.1))) resetRegs
  old.foldl (fun l c => if warmMask c.1 = 0 then l else cellSet 0 l c.1 (mix c.1 (cellGet 0 base c.1) c.2)) base

/-- A link after a warm reset: from REF on it is in SPEED, with its stored sets and alignment, its reference running and no state to
resume; else OFF. Every transmitter is in electrical idle (R45, R187, R561). -/
def State.warmLink (s : State) (old : State) (h : Nat) : State :=
  let st := old.cvState h
  let s := s.put (F.CV_STATUS_STATE h) (if 2 ≤ st then L.speed else L.off)
  let s := (s.lanesIdle h).each (List.range 4) (fun s b => s.put (F.LN_STATUS_GEAR h b) 0)
  let l := old.link h
  s.modLink h (fun n => { link0 with entered := l.entered, refFails := l.refFails, gearCap := l.gearCap, cap := l.cap,
                                     downSince := some (l.downSince.getD old.clock.time), ref := l.ref,
                                     rx := { l.rx with got := 0, tailBad := 0 }, up := l.up, down := n.down,
                                     tx := { stripe0 with count := l.tx.count } })

/-- On return from DORMANT, TIME takes its value at entry plus the elapsed AON cycles (R36). -/
def State.rebuildTime (s : State) (elapsed unc : Nat) : State :=
  let t := (s.clock.time + elapsed * 1000000000 / 32768) / 4 * 4
  let s := s.modClock (fun c => { c with time := t, bound := t / 125000, choreNext := t / 125 })
  (s.put F.TIME_QUAL_RECONSTRUCTED 1).put F.TIME_QUAL_RECON_UNC_US (min unc 65535)

/-- What a warm reset makes of the state; `lost` launches are discarded (R337, R561). -/
def State.warmState (s : State) (lost : Nat) : State :=
  let s := s.quitMsgs (fun _ => true)
  let old := s
  let adj := signedOf 32 (s.get F.REF_ADJ_VALUE)
  let s := { s with
    regs := warmRegs s.regs,
    clock := { clock0 with
      running := s.clock.running, time := s.clock.time, target := adj, disagree := s.clock.disagree,
      bound := s.clock.bound, choreNext := s.clock.choreNext },
    router := ⟨[], [], []⟩,
    img := { img0 with phase := .held, warm := true, flash := s.img.flash, otp := s.img.otp, revoked := s.img.revoked,
                       keepDigest := s.img.keepDigest, keepCheck := s.img.keepCheck },
    mgmt := Vector.replicate 5 agent0, arb := 0, spiQ := [], usbQ := Vector.replicate 4 [],
    own := { own0 with freshLink := s.own.freshLink, noResume := s.own.noResume }, pwr := none,
    eyes := Vector.replicate 36 eye0, bc := barchan0, sr := { sirocco0 with lines := s.sr.lines },
    pl := { playa0 with pixels := s.pl.pixels, tags := s.pl.tags, free := s.pl.free, maps := s.pl.maps, shown := s.pl.shown, bad := s.pl.bad },
    px := Vector.ofFn (fun p => pcPort0 p.val), et := eth0, us := usb0,
    oa := { s.oa with bridge := Vector.replicate 2 0, bridgeAt := none, fatalAt := Vector.replicate 24 none,
                      leftAt := Vector.replicate 24 none, symSeen := Vector.replicate 4 [], scrubs := [], repairQ := [] },
    rails := ⟨127, 63, if s.rails.vid = 0 then 30 else s.rails.vid, 0, s.rails.hamada⟩,
    wd := { s.wd with
      buses := Vector.map (fun (f : FieldBus) => { fieldBus0 with next := f.next }) s.wd.buses,
      mods := Vector.map (fun (m : ModSlot) => { m with ready := false, piece := 0, fails := 0, confirm := true, waits := [] }) s.wd.mods } }
  let s := s.each (List.range 4) (fun s h => s.warmLink old h)
  let s := s.bump F.SR_STATUS_LOST lost
  (s.put F.SYS_RESET_CAUSE_CAUSE 4).bump F.SYS_RESET_CAUSE_WARM_COUNT 1

/-- WARM_RESET (R558, R559, R561): ignored in OFF, absorbed into a cold reset that is asserted or whose reference PLL has not
locked; an open session is closed and logged (R92); from DORMANT, TIME is rebuilt with an elapsed time that this step leaves
open, and the retained state goes. -/
def execWarmReset (s : State) : Res :=
  .next (if s.img.phase == .held || !s.clock.running || s.power == 4 then s
    else
      let dormant := s.power == 3
      let s := s.sessionAbort
      let s := s.warmState s.sr.queue.length
      if dormant then
        ((s.rebuildTime (s.freeVal 32) (s.took.freeVal 16)).took.took).modImg (fun i => { i with keepDigest := none })
      else s)

/-- WARM_RESET_END (R558): the main die is released; agents become stale and generations are bumped at the next boundary (R129,
R286). -/
def execWarmResetEnd (s : State) : Res :=
  .next (if s.img.phase == .held && s.rails.valid == 127 then
      let s := s.modImg (fun i => { i with phase := .testing })
      let s := s.modOwn (fun o => { o with bumpAll := true })
      s.each (List.range 4) (fun s h => s.modAgent h (fun g => { g with stale := true }))
    else s)

/-- What the self-test of a cold start brings: the wear record's counts and repairs, the rows that the test finds bad, queued for
repair, and the spare slices that fail their loopback, bit g for LG_g (R601, R620). What it finds is open (log entry 168). -/
def State.coldTested (s : State) : State :=
  (Config.testRows s.free).foldl (fun s r => s.queueRepair r.1.toNat r.2.toNat) (s.took.wearLoad.wearSlices (s.freeVal 9))

/-- SELF_TEST_END (R568, R569): the self-test of a cold start, with the wear record loaded (R620), or the repair-map check of a warm
one ends; transports open, the faces follow R434 and the device is LOADING. -/
def execSelfTestEnd (s : State) : Res :=
  .next (if s.img.phase == .testing then
      let s := s.modImg (fun i => { i with phase := .loading })
      let s := if s.img.warm then s else s.coldTested
      s.faces
    else s)

end Sys2Proof.Machine
end

