-- ==== Sys2Proof/Machine/Send.lean ====
section
/-! DEFINITION. Machine/Send.lean: what leaves at a send point of a Caravan UP direction, a switch port or a transport of
replies (R116, R120, R140, R145, R236, R237, R298, R306, R307, R449). -/
namespace Sys2Proof.Machine

/-- The head item of an UP queue is dealt into the stripe (R230, R262, R288). -/
def State.dealUp (s : State) (h : Nat) (i : QItem) : State :=
  match i.body with
  | .cv n typ tsf posted last prio echo reply =>
    let r := match reply with
      | some (a, result) =>
        let x := s.replyLeaves a (i.bytes.getD 2 0).toNat (i.bytes.getD 3 0).toNat result
        (toBytesLE 2 x.1 ++ i.bytes.drop 2, x.2)
      | none => (i.bytes, s)
    r.2.sendPacket h n typ tsf posted last prio echo r.1
  | _ => s

/-- The head of an UP queue has credit and room in the replay buffer (R236, R238, R306). -/
def State.upFits (s : State) (h q : Nat) : Bool :=
  match (s.queue q).items with
  | i :: _ =>
    match i.body with
    | .cv n _ _ _ _ _ _ _ => s.upRoom h n i.bytes.length
    | _ => false
  | [] => false

/-- The head of an UP queue can be sent: it has credit and room, and as a TLP it passes none that it must not (R306, R395). -/
def State.upSendable (s : State) (h q : Nat) : Bool :=
  s.upFits h q && !s.tlpWaits h (streamQueues h) (s.upFits h) q

/-- A point at which host port `h` may start a packet in its UP direction: a packet to replay first, else Barchan's choice (R237,
R307). -/
def State.sendUp (s : State) (h : Nat) : State :=
  if !isUpState (s.cvState h) || !s.awake || !s.unitRuns h then s
  else match (s.link h).resend with
    | p :: t => (s.modLink h (fun l => { l with resend := t })).dealPacket h p
    | [] =>
      match s.choose h (s.upSendable h) with
      | none => s
      | some (q, reserved, s) =>
        match (s.queue q).items with
        | i :: _ => (s.takeHead q reserved).dealUp h i
        | [] => s

/-- A point at which switch port `p` may start a frame (R306, R307, R422). -/
def State.sendSwitch (s : State) (p : Nat) : State :=
  if !s.awake then s
  else match s.choose (8 + p) s.ethSendable with
    | none => s
    | some (k, reserved, s) =>
      match (s.queue k).items with
      | i :: _ =>
        let s := s.takeHead k reserved
        if p < 4 then (s.ethTransmit p ((k - 256) % 8) (s.counted k i) i).gateDiscard p else s.ethToHost (p - 4) ((k - 256) % 8) i
      | [] => s

/-- The oldest reply queued for MGMT_SPI leaves (R120, R140). -/
def State.spiLeaves (s : State) : State :=
  match s.spiQ with
  | [] => s.emit (.spi [0])
  | r :: t =>
    let x := s.replyLeaves 4 r.tag r.opcode r.result
    ({ x.2 with spiQ := t } : State).emit (.spi (bytesWords (replyBytes x.1 r.tag r.opcode r.data)))

/-- A reply that was made just now leaves before the hub goes on: it is at the back of its transport's queue (R584). -/
def State.flushReplies (s : State) (a : Nat) (tr : Transport) : State :=
  match tr with
  | .spi => s.each s.spiQ.zipIdx.unzip.2 (fun s _ => s.spiLeaves)
  | .usb => s.each ((vAt s.usbQ a).zipIdx.unzip.2) (fun s _ => s.usbLeaves a)
  | .tunnel n =>
    let q := s.upQueue a n.val false
    s.each ((s.queue q).items.zipIdx.unzip.2) (fun s _ =>
      match (s.queue q).items with
      | i :: _ => if s.upSendable a q then (s.takeHead q true).dealUp a i else s
      | [] => s)

end Sys2Proof.Machine
end

