-- ==== Sys2Proof/Machine/Power.lean ====
section
/-! DEFINITION. Machine/Power.lean: the power states: asking for one, the vetoes, the drain, entry, waking, and brown-out (R575 to
R592). -/
namespace Sys2Proof.Machine

/-! ### Asking for a state (R582 to R586) -/

/-- PWR_STAY.MINE of an agent, each agent's own bit (R593). -/
def stayRef (a : Nat) : FRef := ⟨bankBase a + A.PWR_STAY, 0, 1⟩

/-- A POWER_ENTER is refused for a refuser code: counted, recorded, PWR_EVT.REFUSED set (R586). -/
def State.powerRefused (s : State) (a code target : Nat) : State :=
  let s := s.bump (if code % 2 = 0 then F.PWR_REFUSE_n_LO (code / 2) else F.PWR_REFUSE_n_HI (code / 2)) 1
  let s := s.setReg A.PWR_LAST_REFUSE (code % 16 + 16 * (a % 8) + 256 * (target % 8))
  s.raise 9 F.PWR_EVT_REFUSED

/-- The wake time of a target in ns: 40 µs, 3 ms, and for OFF the time of a cold start (R575, R585). -/
def wakeTime (target : Nat) : Nat := if target = 2 then 40000 else if target = 3 then 3000000 else 39000000

/-- Host `h` keeps the hub awake (R585). -/
def State.stays (s : State) (h : Nat) : Bool := s.flag (stayRef h) && s.ownedMask h != 0

/-- LAUNCH_KEEP of POWER_POLICY (R591). -/
def State.launchKeep (s : State) : Bool := bitAt (s.imgWord 0x11 0 1) 0

/-- A queued launch stands against the target (R585). -/
def State.launchDue (s : State) (target : Nat) : Bool :=
  s.sr.queue.any (fun l => decide (l.at_ ≤ s.clock.time + wakeTime target)) ||
    (3 ≤ target && s.launchKeep && !s.sr.queue.isEmpty)

/-- The vetoes of R585 in their order; `other` says that another request is pending. -/
def State.veto (s : State) (target : Nat) (other : Bool) : Option Nat :=
  match firstIx 4 s.stays with
  | some h => some (h + 1)
  | none =>
    if target < 2 then none
    else if (List.range 8).any (fun c => s.efState c == Ef.delay || s.efState c == Ef.ramp) then some 8
    else if (List.range 4).any s.tcBusy then some 9
    else if s.launchDue target then some 10
    else if target = 4 && decide (1 ≤ s.inputOf) && decide (s.inputOf ≤ 4) then some 11
    else if s.img.session.isSome || s.img.pend.isSome || !s.img.commits.isEmpty || !s.img.patches.isEmpty then some 12
    else if other then some 13
    else none

/-- The pending request goes (R584). -/
def State.powerClear (s : State) : State :=
  ((({ s with pwr := none } : State).put F.PWR_STATE_PEND 0).put F.PWR_STATE_TARGET 0)

/-- The pending request ends with BUSY and a refuser code (R583, R584, R586). -/
def State.powerEnd (s : State) (code : Nat) : State :=
  match s.pwr with
  | some p => ((s.powerClear.powerRefused p.agent code p.target)).complete p.agent p.tag R.busy [w32 code]
  | none => s

/-- A reply to POWER_ENTER at once, a refusal recorded. -/
def State.powerReply (s : State) (a : Nat) (tr : Transport) (f : Frame) (result code : Nat) : State :=
  let s := if result = R.ok then s else s.powerRefused a code f.w1.toNat
  s.reply a tr (frameTag f) (frameOp f) result [w32 code]

/-- POWER_ENTER, the frame in order (R582 to R584). -/
def State.powerEnter (s : State) (a : Nat) (tr : Transport) (f : Frame) : State :=
  let t := f.w1.toNat
  if !bitAt s.enterAgents a || 4 < t || (t != 0 && !bitAt s.allow (t - 1)) then s.powerReply a tr f R.denied 0
  else if t = 0 then ((s.powerEnd 14).put F.PWR_STATE_STATE 0).powerReply a tr f R.ok 0
  else match s.veto t s.pwr.isSome with
    | some c => s.powerReply a tr f R.busy c
    | none =>
      if t = 1 then (s.put F.PWR_STATE_STATE 1).powerReply a tr f R.ok 0
      else
        let s := s.openNp a tr (frameTag f) (frameOp f) t 0
        let s := { s with pwr := some ⟨a, frameTag f, t, none⟩ }
        (s.put F.PWR_STATE_PEND 1).put F.PWR_STATE_TARGET t

/-- POWER_ENTER (R582). -/
def execPowerEnter (a : Agent) (t : Transport) (tag : Byte) (target : Word) (s : State) : Res :=
  let f := mkFrame 0x30 tag.toNat 0 0 target.toNat []
  .next (s.arrive a t f (fun s => s.powerEnter a t f))

/-- POWER_QUERY returns four words (R592). -/
def State.powerQuery (s : State) (a : Nat) (tr : Transport) (f : Frame) : State :=
  s.reply a tr (frameTag f) (frameOp f) R.ok
    [w32 (s.reg A.PWR_STATE), w32 (s.reg A.PWR_LAST_REFUSE), w32 (s.reg A.PWR_WAKE), w32 (s.reg A.BROWNOUT_CAUSE)]

/-- POWER_QUERY (R592). -/
def execPowerQuery (a : Agent) (t : Transport) (tag : Byte) (s : State) : Res :=
  let f := mkFrame 0x31 tag.toNat 0 0 0 []
  .next (s.arrive a t f (fun s => s.powerQuery a t f))

/-- A host's PWR_STAY.MINE takes a value; set by an owner it returns IDLE to RUN (R583, R593). -/
def State.stayWrite (s : State) (a v : Nat) : State :=
  let s := s.put (stayRef a) v
  if s.power = 1 && a < 4 && s.stays a then s.put F.PWR_STATE_STATE 0 else s

/-- The part of a boundary after R31: the vetoes are checked again, and the drain begins (R584 steps 2 and 3). -/
def State.powerTick (s : State) : State :=
  match s.pwr with
  | some p =>
    if p.drain.isSome then s
    else match s.veto p.target false with
      | some c => s.powerEnd c
      | none => { s with pwr := some { p with drain := some s.tick } }
  | none => s

/-! ### Entering a state (R575, R578, R580, R581, R584, R589) -/

/-- The host links that are up, as a mask. -/
def State.upLinks (s : State) : Nat := maskOf 4 s.linkUp

/-- What SLEEP and DORMANT share: heads stopped, Ethernet links down, heartbeat supervision disarmed, failover suspended. -/
def State.quiesce (s : State) : State :=
  let up := s.upLinks
  let s := s.each (List.range 2) (fun s x =>
    if s.flag (F.HD_CTRL_ENABLE x) then
      (if s.dpState x = Dp.off then s.headHalt x else (s.headHalt x).dpIdle x Dp.waitHpd)
    else s)
  let s := s.each (List.range 4) (fun s p => (s.ethLink p false).gptpStop p)
  let s := s.each (List.range 4) State.hbDisarm
  s.modOwn (fun o => { o with suspend := some (up, s.tick) })

/-- Entry to SLEEP: links that are up are parked, and every transmitter is in electrical idle (R187, R580). -/
def State.enterSleep (s : State) : State :=
  let s := s.quiesce.put F.PWR_STATE_STATE 2
  (s.each (List.range 9) State.lanesIdle).each (List.range 4) (fun s h =>
    if isUpState (s.cvState h) then s.modLink h (fun l => { l with parked := some (s.cvState h) }) else s)

/-- What a state's retention check word is taken over: the registers of the main die and the records of the image, by rising
address and in the image's order (R578, log entry 132). -/
def State.retainedBytes (s : State) : List Byte :=
  (s.regs.filter (fun c => !(decide (0x900000 ≤ c.1) && decide (c.1 < 0xB00000)))).flatMap (fun c => wordsBytes [w32 c.1, c.2])
    ++ s.img.recs.flatMap (fun r => wordsBytes r.body)

/-- Field-bus work and grain messages under way are lost, and what the band buffers hold. -/
def State.loseBuffers (s : State) : State :=
  let s := s.quitMsgs (fun _ => true)
  { s with wd := { s.wd with buses := Vector.map (fun (f : FieldBus) => { fieldBus0 with next := f.next }) s.wd.buses },
           pl := { s.pl with bad := [], bands := Vector.replicate 2 [] } }

/-- What the domains lose that DORMANT switches off: packets and frames in buffers, received records, capture stamps, the switch's
table and the launches (R337, R575). -/
def State.loseData (s : State) : State :=
  let s := s.srDiscardAll
  let s := s.each (List.range 4) (fun s g => (s.modCap g (fun _ => ⟨[], false⟩)).capFill g)
  let s := s.ethInit.switchFlush
  (s.each (List.range 340) State.flushQueue).loseBuffers

/-- Entry to DORMANT: references stopped, PERST_N low, faces detached, every main-die rail but VDD_CORE and VDDIO off, and the
retention check word stored (R575, R578). -/
def State.enterDormant (s : State) : State :=
  let s := s.quiesce.loseData
  let s := s.each (List.range 4) (fun s h =>
    if L.ref ≤ s.cvState h then
      (((((s.put (F.CV_STATUS_STATE h) L.ref).put (F.CV_STATUS_LINK_UP h) 0).dropLocks h).setMasks h 0 0).refOff h).modLink h
        (fun l => { l with held := false, replay := [], resend := [], asm := [],
                           downSince := some (l.downSince.getD s.clock.time) })
    else s)
  let s := s.each (List.range 2) (fun s p => (s.put (F.PX_STATUS_PERST p) 1).pxDlDown p)
  let s := s.each (List.range 8) State.dsDisconnect
  let s := ((s.each (List.range 9) State.lanesIdle).put F.PWR_STATE_STATE 3).faces
  let s := s.modImg (fun i => { i with keepCheck := crc32 s.retainedBytes })
  { s with rails := { s.rails with valid := 15, en := 7, vid := 0 } }

/-- Entry to OFF: a wear record is written first where R619 allows; then nothing of the main die is left (R575, R619). -/
def State.enterOff (s : State) : State :=
  let wake := bitsOf (s.imgWord 0x11 0 0) 17 7
  let s := if s.img.session.isNone && s.devState != 1 then s.wearPut else s
  let s := (s.coldState 3 true).put F.PWR_STATE_STATE 4
  { s with rails := ⟨1, 0, 30, wake, 0⟩ }

/-- No open non-posted command but power requests, and no posted write, is left (R584 step 3). -/
def State.drained (s : State) : Bool :=
  (List.range 5).all (fun a => (s.agent a).posted == 0 && (s.agent a).openCmds.all (fun c => c.opcode == 0x30))

/-- POWER_DRAIN_DONE (R584 step 4): OK with refuser code 0 leaves with PWR_PEND still 1, and the hub enters the state, which clears
it. -/
def execPowerDrainDone (s : State) : Res :=
  .next (match s.pwr with
    | some p =>
      if p.drain.isNone || !s.drained then s
      else
        let tr := ((s.openCmd p.agent p.tag).map (·.tr)).getD .spi
        let s := ((s.complete p.agent p.tag R.ok [0]).flushReplies p.agent tr).powerClear
        if p.target = 2 then s.enterSleep else if p.target = 3 then s.enterDormant else s.enterOff
    | none => s)

/-- POWER_DRAIN_TIMEOUT (R584 step 3): work remains after MGMT_NP_TIMEOUT ticks; code 15. -/
def execPowerDrainTimeout (s : State) : Res :=
  .next (match s.pwr with
    | some p =>
      match p.drain with
      | some t => (s.advanceTo ((t + s.get F.MGMT_NP_TIMEOUT_TICKS) * 125000)).powerEnd 15
      | none => s
    | none => s)

/-! ### Waking (R579, R587, R588) -/

/-- A source of R588 fires in a power state. -/
def wakeIn (src power : Nat) : Bool :=
  match src with
  | 1 => true
  | 2 => power == 2
  | 3 => power == 2
  | 4 => power == 2 || power == 3
  | 5 => power == 2
  | 6 => power == 2 || power == 3
  | 7 => power == 2 || power == 3
  | 8 => true
  | _ => false

/-- A source is enabled: WAKE_N always, the others by WAKE_EN (R588). -/
def State.wakeEnabled (s : State) (src : Nat) : Bool :=
  src == 1 || (decide (2 ≤ src) &&
    (if s.power = 4 then bitAt s.rails.wakeEn (src - 2) else bitAt (s.imgWord 0x11 0 0) (15 + src)))

/-- The wake is recorded (R588). -/
def State.wakeRecord (s : State) (src detail from_ : Nat) : State :=
  let s := s.put F.PWR_WAKE_LAST src
  let s := s.put F.PWR_WAKE_DETAIL (if src = 2 || src = 3 || src = 6 || src = 7 then detail else 0)
  let s := (s.put F.PWR_WAKE_FROM from_).bump F.PWR_WAKE_COUNT 1
  let s := s.putPair F.PWR_WAKE_TIME_LO_V F.PWR_WAKE_TIME_HI_V s.clock.time
  s.raise 9 F.PWR_EVT_WAKE

/-- The heads that are enabled start again (R373). -/
def State.wakeHeads (s : State) : State :=
  s.each (List.range 2) (fun s x => if s.flag (F.HD_CTRL_ENABLE x) then s.headStart x else s)

/-- The instant from which the links have 8,000 ticks to come up (R581). -/
def State.wakeSuspend (s : State) : State :=
  s.modOwn (fun o => { o with suspend := o.suspend.map (fun x => (x.1, s.tick)) })

/-- Waking from SLEEP: parked links relock under RECOVERY, heads start (R580). -/
def State.wakeSleep (s : State) : State :=
  let s := s.put F.PWR_STATE_STATE 0
  let s := s.each (List.range 4) (fun s h =>
    if (s.link h).parked.isSome then (s.modLink h (fun l => { l with parked := none })).linkRecovery h else s)
  ((s.each (List.range 9) State.lanesWake).each (List.range 4) State.tryRef).wakeHeads.wakeSuspend

/-- Waking from DORMANT with the retained state intact (R36, R129, R161, R286, R359, R575). -/
def State.wakeDormant (s : State) (elapsed unc : Nat) : State :=
  let was := s.tick
  let s := (s.put F.PWR_STATE_STATE 0).rebuildTime elapsed unc
  let win := s.get F.EVT_STORM_CFG_WINDOW
  let s := if win = 0 || was / win != s.tick / win then s.stormWindow else s
  let s := { s with rails := { s.rails with valid := 127, en := 63, vid := 30 } }
  let s := s.each (List.range 4) (fun s h => s.modAgent h (fun g => { g with stale := true }))
  let s := s.each (List.range 40) (fun s i =>
    ((s.put (F.EVT_MASK_n_MASK (i / 8) (i % 8)) 0).put (F.FEVT_MASK_n_MASK (i / 8) (i % 8)) 0).put
      (F.EVT_STORM_n_STORM (i / 8) (i % 8)) 0)
  let s := s.modOwn (fun o => { o with bumpAll := true })
  let s := (s.playaInit 0).playaInit 1
  let s := s.each (List.range 9) State.lanesWake
  let s := s.each (List.range 4) (fun s h => if s.cvState h = L.ref then s.linkRef h else s.tryRef h)
  let s := s.each (List.range 2) (fun s p => s.pxContain p 5)
  (s.faces.wakeHeads).wakeSuspend

/-- Waking from DORMANT with a check word that differs: the retained state goes, and the image is loaded again (R579). -/
def State.wakeLost (s : State) (elapsed unc : Nat) : State :=
  let cause := s.reg A.SYS_RESET_CAUSE
  let s := (s.warmState 0).setReg A.SYS_RESET_CAUSE cause
  let s := s.rebuildTime elapsed unc
  let s := s.modImg (fun i => { i with phase := .loading, keepDigest := none })
  let s := s.modOwn (fun o => { o with bumpAll := true })
  let s := s.each (List.range 4) (fun s h => s.modAgent h (fun g => { g with stale := true }))
  (s.put F.PWR_STATE_RETAIN_FAIL 1).faces

/-- WAKE (R588): a source fires; `elapsed` AON cycles since entry, `unc` µs of uncertainty and `check`, the retention check word that
the hub computes anew, are for DORMANT (R36, R579). Awake, it only ends a pending request (R584). Source 5 is the hub's own, 80 µs before the earliest launch (R587). -/
def execWake (src : Fin 9) (detail : BitVec 4) (elapsed : Nat) (check : Word) (unc : Nat) (s : State) : Res :=
  let w := src.val
  let p := s.power
  let first := s.sr.queue.foldl (fun (m : Option Nat) l => some (match m with
    | some t => min t l.at_
    | none => l.at_)) none
  .next (if !s.wakeEnabled w || (w = 5 && first.isNone) then s
    else if p ≤ 1 then
      (match s.pwr with
        | some q => if wakeIn w q.target then s.powerEnd 14 else s
        | none => s)
    else if !wakeIn w p then s
    else if p = 4 then s.coldReset 8
    else if p = 3 then (if check.toNat = s.img.keepCheck then s.wakeDormant elapsed unc else s.wakeLost elapsed unc).wakeRecord w detail.toNat 3
    else
      let s := if w = 5 then s.advanceTo (first.getD 0 - 80000) else s
      s.wakeSleep.wakeRecord w detail.toNat 2)

/-- FAILOVER_SUSPEND_END (R581): every link that was up at entry is up again, or 8,000 ticks have passed since the wake. -/
def execFailoverSuspendEnd (s : State) : Res :=
  .next (match s.own.suspend with
    | some (m, t) =>
      if !s.awake then s
      else
        let s := if (List.range 4).all (fun h => !bitAt m h || s.linkUp h) then s else s.advanceTo ((t + 8000) * 125000)
        s.modOwn (fun o => { o with suspend := none })
    | none => s)

/-- BROWN_OUT (R590): the AON regulator was overloaded for 30 µs; a cold reset follows. -/
def execBrownOut (s : State) : Res :=
  let p := s.power
  let s := s.put (if 3 ≤ p then F.BROWNOUT_CAUSE_LP_OVER else F.BROWNOUT_CAUSE_NORM_OVER) 1
  .next ((s.put F.BROWNOUT_CAUSE_STATE p).coldReset 7)

end Sys2Proof.Machine
end

