-- ==== Sys2Proof/Machine/Lanes.lean ====
section
/-! DEFINITION. Machine/Lanes.lean: the lane groups: eye scan and qualification, inversion, spare PLLs and spare slices, and what a
lane that fails does (R176, R194 to R202, R205 to R208, R213). -/
namespace Sys2Proof.Machine

/-! ### Lanes that fail (R206, R208, R255) -/

/-- The flex block whose lane failed (R208). -/
def State.flexLaneFailed (s : State) (g b : Nat) : State :=
  let w := s.groupWord g
  match bitsOf w 0 3 with
  | 1 => s.dpLaneFailed (bitsOf w 3 1)
  | 2 => s.pxLaneFailed (bitsOf w 3 1) g
  | 3 =>
    let p := bitsOf w (20 + 3 * (if bitAt w 10 then 3 - b else b)) 3
    if p < 4 then s.ethLaneFailed p else s
  | _ => s

/-- The owner of the resource that uses lane `b` of group `g`, 7 where none does (R209, R608). -/
def State.laneOwner (s : State) (g b : Nat) : Nat :=
  let w := s.groupWord g
  if g < 4 then 7
  else match bitsOf w 0 3 with
    | 1 => s.ownerOf (bitsOf w 3 1)
    | 2 => s.ownerOf (2 + bitsOf w 3 1)
    | 3 =>
      let p := bitsOf w (20 + 3 * (if bitAt w 10 then 3 - b else b)) 3
      if p < 4 then s.ownerOf (4 + p) else 7
    | _ => 7

/-- Lane `b` of group `g` fails until its link next enters DETECT: a host pair is dropped from its link, or marked failed while it is
down or parked, and is not equalised again, nor does it rejoin; a flex lane narrows or stops its block (R202, R206, R208). -/
def State.laneFail (s : State) (g b : Nat) : State :=
  if g < 4 then
    let p := s.ballPair g b
    let s := { s with eyes := vMod s.eyes (4 * g + b) (fun e => { e with tries := 16 }) }
    if isUpState (s.cvState g) && s.linkRuns g && !bitAt (s.failedMask g) p then s.dropPair g p true
    else (s.markFailed g p).narrowTraining g
  else if s.get (F.LN_STATUS_STATE g b) = laneFailedCode then s
  else
    let s := ((s.adaptStop g b).put (F.LN_STATUS_STATE g b) laneFailedCode).clrBit (F.LG_STATUS_ACTIVE g) b
    let s := s.clrBit (F.LG_STATUS_QUALIFYING g) b
    (s.logHw (s.laneOwner g b) 2 0 0x17 g (g + 256 * b)).flexLaneFailed g b

/-- Every lane of a group fails: both its PLLs are lost (R206). -/
def State.groupFail (s : State) (g : Nat) : State := (s.put (F.LG_STATUS_PLL_LOCK g) 0).each (List.range 4) (fun s b => s.laneFail g b)

/-! ### Spare PLL and spare slice (R205 to R208, R213) -/

/-- Bit `i` of a LANE_EVT field: its first bit `lsb`, its source `n` (R212, R214). -/
def State.laneEvt (s : State) (n lsb g : Nat) : State := s.raise n ⟨A.LANE_EVT, lsb + g, 1⟩

/-- A group's PLL serves up to four Ethernet ports: SPARE_TOOK_OVER in the logs of their other owners (R608). -/
def State.tellOwners (s : State) (g : Nat) : State :=
  let told (a : Nat) : Bool := a == s.laneOwner g 0 || bitAt (s.get F.OA_CFG_HW_AGENTS) a
  if !s.flag F.OA_CFG_LOG_CORR then s
  else s.each (List.range 4) (fun s a =>
    if !told a && (List.range 4).any (fun l => s.laneOwner g l == a) then s.logTo a 1 0 0x14 g 7 g else s)

/-- A group runs on its spare PLL until the next cold start (R205, R206). -/
def State.pllSwitch (s : State) (g : Nat) : State :=
  let s := (s.put (F.LG_STATUS_PLL_SEL g) 1).put (F.LG_STATUS_PLL_LOCK g) 1
  let s := ((s.lgEvt g 0).laneEvt 59 20 g).notice 0 g
  (s.spareTookOver (s.laneOwner g 0) g g).tellOwners g

/-- MAIN_PLL_LOCK_LOSS (R205, R206): the group moves to its spare; without one every lane fails. A group that was moved by
LG_SERVICE stays on the spare. -/
def execMainPllLockLoss (g : Fin 9) (s : State) : Res :=
  let s := { s with mainLost := s.mainLost ||| 2 ^ g.val }
  .next (if s.flag (F.LG_STATUS_SPARE_PLL_OK g) then (if s.flag (F.LG_STATUS_PLL_SEL g) then s else s.pllSwitch g)
    else s.groupFail g)

/-- SPARE_PLL_FAIL (R206): where the main PLL is lost too every lane of the group fails; a group that LG_SERVICE had moved while its
main PLL is locked returns to it (DESIGN CHOICE, log entry 130). -/
def execSparePllFail (g : Fin 9) (s : State) : Res :=
  let s := (s.put (F.LG_STATUS_SPARE_PLL_OK g) 0).lgEvt g 4
  .next (if bitAt s.mainLost g then s.groupFail g else s.put (F.LG_STATUS_PLL_SEL g) 0)

/-- The slice that serves no lane (R170, R213). -/
def State.spareSlice (s : State) (g : Nat) : Nat :=
  let m := s.get (F.LG_STATUS_SLICE_MAP g)
  (firstIx 5 (fun k => (List.range 4).all (fun l => bitsOf m (3 * l) 3 != k))).getD 4

/-- Lane `l` of group `g` has an active receiver: not a pair that the hub transmits on, nor a lane of a head (R200, R379). -/
def State.rxActive (s : State) (g l : Nat) : Bool :=
  s.get (F.LN_STATUS_STATE g l) == laneActive && !(decide (g < 4) && s.flag (F.LN_STATUS_DIR g l))
    && !(decide (4 ≤ g) && s.get (F.LG_CTRL_ROLE g) == 1)

/-- What the swap does to the traffic of its role: a stored pair of sets goes, and an active pair or receiver qualifies anew (R191,
R202, log entry 131); a PCI Express port passes through Recovery and reports a correctable error, a Receiver Error of AER (R207, log
entry 129). -/
def State.swapTraffic (s : State) (g l : Nat) : State :=
  let s := if s.rxActive g l || (decide (g < 4) && s.get (F.LN_STATUS_STATE g l) == laneActive) then
      let s := { s.setBit (F.LG_STATUS_QUALIFYING g) l with eyes := vMod s.eyes (4 * g + l) (fun e => { e with tries := 0 }) }
      if g < 4 then s else s.put (F.LN_STATUS_STATE g l) laneQual
    else s
  if g < 4 then s.setSets g l false
  else match bitsOf (s.groupWord g) 0 3 with
    | 2 =>
      let p := bitsOf (s.groupWord g) 3 1
      if s.flag (F.PX_STATUS_LINK_UP p) then (s.bump (F.PX_LINK_RECOVERIES p) 1).pxCorrectable p 0 else s
    | _ => s

/-- Lane `l` moves to the spare slice (R207). -/
def State.sliceSwap (s : State) (g l : Nat) : State :=
  let s := s.put (F.LG_STATUS_SLICE_MAP g) (withBits (s.get (F.LG_STATUS_SLICE_MAP g)) (3 * l) 3 (s.spareSlice g))
  let s := s.put (F.LG_STATUS_SPARE_SLICE_FREE g) 0
  let s := ((s.lgEvt g 1).laneEvt 59 20 g).notice 1 g
  (s.spareTookOver (s.laneOwner g l) g (g + 256 * l)).swapTraffic g l

/-- PCS_SLICE_PARITY_ERROR (R207, R208). -/
def execPcsSliceParityError (g : Fin 9) (l : Fin 4) (s : State) : Res :=
  .next (if s.flag (F.LG_STATUS_SPARE_SLICE_FREE g) then s.sliceSwap g l else s.laneFail g l)

/-- The action of LG_SERVICE.FORCE_SPARE_PLL (R213). -/
def State.forceSpare (s : State) (g : Nat) : State :=
  if !s.flag (F.LG_STATUS_PLL_SEL g) && s.flag (F.LG_STATUS_SPARE_PLL_OK g) then s.pllSwitch g else s

/-- The action of LG_SERVICE.FORCE_SLICE for the lanes of a mask (R213). -/
def State.forceSlices (s : State) (g m : Nat) : State :=
  s.each (List.range 4) (fun s l => if bitAt m l && s.flag (F.LG_STATUS_SPARE_SLICE_FREE g) then s.sliceSwap g l else s)

/-! ### Eye scan (R194 to R200) -/

/-- The least of one margin over the eyes: 0 left, 1 right, 2 top, 3 bottom. -/
def minMargin (e : EyeScan) (n d : Nat) : Nat := (List.range n).foldl (fun m i => min m (vAt e.margins (4 * i + d))) 127

/-- The figure of merit of one eye (R192). -/
def eyeFom (e : EyeScan) (i : Nat) : Nat :=
  min 255 ((vAt e.margins (4 * i) + vAt e.margins (4 * i + 1)) * (vAt e.margins (4 * i + 2) + vAt e.margins (4 * i + 3)) / 16)

/-- The end of a round of margins (R192, R198, R199). -/
def State.eyeRound (s : State) (g l : Nat) (e : EyeScan) : State :=
  let n := s.eyesOf g l
  let m (d : Nat) : Nat := minMargin e n d
  let worst := (List.range n).foldl (fun w i => if eyeFom e i < eyeFom e w then i else w) 0
  let s := s.setReg (A.LN_MARGIN g l) (m 0 % 64 + 2 ^ 8 * (m 1 % 64) + 2 ^ 16 * (m 2 % 128) + 2 ^ 24 * (m 3 % 128))
  let s := (s.put (F.LN_FOM_FOM g l) (eyeFom e worst)).put (F.LN_FOM_EYE_WORST g l) worst
  let s := s.bump (F.LN_FOM_ROUNDS g l) 1
  let low := decide (min (m 0) (m 1) < s.get (F.LG_QUAL_H_WARN g)) || decide (min (m 2) (m 3) < s.get (F.LG_QUAL_V_WARN g))
  let s := { s with eyes := vPut s.eyes (4 * g + l) { e with lowRounds := if low then min 127 (e.lowRounds + 1) else 0 } }
  if low then s.laneEvt 58 10 g else s

/-- The greatest margin that the sampler's range allows (R194). -/
def marginMax (at_ : Nat) : Nat :=
  match at_ % 4 with
  | 0 => 32
  | 1 => 31
  | _ => 127

/-- One tested point with its mismatch count (R196, R197). -/
def State.eyePoint (s : State) (g l errors : Nat) : State :=
  let e := vAt s.eyes (4 * g + l)
  let n := 4 * s.eyesOf g l
  let at_ := e.at_ % n
  let m := vAt e.margins at_
  let pass := decide (errors ≤ s.get (F.LG_DWELL_MAX_ERR g))
  if !e.retest && !pass then { s with eyes := vPut s.eyes (4 * g + l) { e with at_ := at_, retest := true } }
  else
    let m := if e.retest then (if pass then m else m - 1) else min (marginMax at_) (m + 1)
    let e := { e with margins := vPut e.margins at_ m, retest := false, at_ := (at_ + 1) % n }
    if at_ + 1 = n then s.eyeRound g l e else { s with eyes := vPut s.eyes (4 * g + l) e }

/-- EYE_SAMPLE (R197 to R200): one run on the pair or lane `i` counts `errors` mismatches at its point. -/
def execEyeSample (i : Fin 36) (prevOpen : Bool) (errors : Nat) (s : State) : Res :=
  let g := i.val / 4
  let l := i.val % 4
  .next (s.chore 4 i.val (prevOpen || s.flag (F.LN_EYE_RESULT_BUSY g l)) (fun s =>
    if g < 4 && s.flag (F.LN_STATUS_DIR g l) then s.put (F.LN_MARGIN_AGED g l) 1
    else if s.rxActive g l then s.eyePoint g l errors
    else s))

/-- An eye point ends: DONE and EYE_DONE are set, and START reads 0 again (R200). -/
def State.eyeDone (s : State) (g l : Nat) : State :=
  (((s.put (F.LN_EYE_RESULT_BUSY g l) 0).put (F.LN_EYE_RESULT_DONE g l) 1).put (F.LN_EYE_CTRL_START g l) 0).laneEvt 57 0 g

/-- The action of LN_EYE_CTRL.START (R200); one that is running goes on. -/
def State.eyeStart (s : State) (g l : Nat) : State :=
  if s.flag (F.LN_EYE_RESULT_BUSY g l) then s
  else
    let s := (s.setReg (A.LN_EYE_RESULT g l) 0).put (F.LN_EYE_CTRL_START g l) 1
    if s.rxActive g l then s.put (F.LN_EYE_RESULT_BUSY g l) 1
    else (s.put (F.LN_EYE_RESULT_ABORTED g l) 1).eyeDone g l

/-- EYE_POINT_DONE (R200). -/
def execEyePointDone (g : Fin 9) (l : Fin 4) (errors : Nat) (s : State) : Res :=
  .next (if s.flag (F.LN_EYE_RESULT_BUSY g l) then
      (s.put (F.LN_EYE_RESULT_ERRORS g l) (min errors (2 ^ 24 - 1))).eyeDone g l
    else s)

/-! ### Qualification (R201, R202, R257) -/

/-- The points at which a lane qualifies, each with its eye, its phase and voltage steps and its dwell exponent: H_MIN left and right
and V_MIN above and below, in every eye (R201). -/
def State.qualPoints (s : State) (g l : Nat) : List (Nat × Int × Int × Nat) :=
  let hm : Int := s.get (F.LG_QUAL_H_MIN g)
  let vm : Int := s.get (F.LG_QUAL_V_MIN g)
  let d := s.get (F.LG_DWELL_QUAL_EXP g)
  (List.range (s.eyesOf g l)).flatMap (fun e => [(e, -hm, 0, d), (e, hm, 0, d), (e, 0, vm, d), (e, 0, -vm, d)])

/-- The verdict on a pair or lane: where the hub receives, every point passes with its mismatches; where it sends, the host's QUAL
block says so (R196, R201, R244). -/
def State.qualVerdict (s : State) (g l : Nat) (q : Qual) : Option Bool :=
  let told := decide (g < 4) && s.flag (F.LN_STATUS_DIR g l)
  match q with
  | .counted es =>
    if told || es.length != (s.qualPoints g l).length then none
    else some (es.all (fun n => decide (n ≤ s.get (F.LG_DWELL_MAX_ERR g))))
  | .told b =>
    if !told || trainSub b.toNat != 3 then none
    else if bitAt b.toNat 29 then some true
    else if bitAt b.toNat 30 then some false
    else none

/-- Qualification fails: QUAL_FAIL, and after the sixteenth failure the lane is marked failed (R202). -/
def State.qualFail (s : State) (g l : Nat) : State :=
  let n := (vAt s.eyes (4 * g + l)).tries + 1
  let s := { s.lgEvt g 2 with eyes := vMod s.eyes (4 * g + l) (fun e => { e with tries := min n 16 }) }
  if 16 ≤ n then s.laneFail g l
  else if g < 4 then s
  else s.put (F.LN_STATUS_STATE g l) laneTraining

/-- Qualification passes: a pair in FEC may lead to ACTIVE, a dropped pair waits for its rejoin, a flex lane may carry its block
again. -/
def State.qualPass (s : State) (g l : Nat) : State :=
  let s := { s with eyes := vMod s.eyes (4 * g + l) (fun e => { e with tries := 0 }) }
  if g < 4 then
    let p := s.ballPair g l
    (s.modLink g (fun k => { k with qualified := k.qualified ||| 2 ^ p })).tryFec g
  else (s.put (F.LN_STATUS_STATE g l) laneActive).put (F.LN_RXEQ_ADAPTING g l) 1

/-- A pair or lane may be under qualification: a pair in FEC, in its stripe, or dropped and equalised again; a flex lane of an enabled
group that stands in its link (R201, R202, R257). -/
def State.qualMay (s : State) (g l : Nat) : Bool :=
  let p := s.ballPair g l
  decide ((vAt s.eyes (4 * g + l)).tries < 16) &&
    (if g < 4 then
      (s.cvState g == L.fec && !bitAt (s.failedMask g) p)
        || (isUpState (s.cvState g) && (!bitAt (s.failedMask g) p || vAt (s.link g).reEq p == 3))
    else s.flag (F.LG_CTRL_ENABLE g) && bitAt (s.get (F.LG_STATUS_ACTIVE g)) l)

/-- A pair or lane is under qualification (R201, R213). -/
def State.qualRuns (s : State) (g l : Nat) : Bool := s.qualMay g l && bitAt (s.get (F.LG_STATUS_QUALIFYING g)) l

/-- The hub tells the host its verdict on a pair that it receives (R244). -/
def State.qualTell (s : State) (h l : Nat) (pass : Bool) : State :=
  let p := s.ballPair h l
  s.sendTrain h (s.returnPair h p) p 3 (s.qualMins h + if pass then 2 ^ 29 else 2 ^ 30)

/-- QUALIFICATION_DONE (R201, R202): `l` is the ball pair or ball lane. -/
def execQualificationDone (g : Fin 9) (l : Fin 4) (q : Qual) (s : State) : Res :=
  .next (if !s.qualRuns g l then s
    else match s.qualVerdict g l q with
      | none => s
      | some pass =>
        let s := s.clrBit (F.LG_STATUS_QUALIFYING g) l
        let s := s.iff (decide (g.val < 4) && !s.flag (F.LN_STATUS_DIR g l)) (fun s => s.qualTell g l pass)
        if pass then s.qualPass g l else s.qualFail g l)

/-- QUAL_RETRY (R202): 8,000 ticks after a failure the lane is qualified again. -/
def execQualRetry (g : Fin 9) (l : Fin 4) (s : State) : Res :=
  .next (if s.qualMay g l && decide (1 ≤ (vAt s.eyes (4 * g.val + l.val)).tries) then
      (s.setBit (F.LG_STATUS_QUALIFYING g) l).iff (decide (4 ≤ g.val)) (fun s => s.put (F.LN_STATUS_STATE g l) laneQual)
    else s)

/-! ### Inversion (R176) -/

/-- PAIR_INVERTED (R176): in REF or SPEED, a received pair. -/
def execPairInverted (h : Hp) (pair : Fin 4) (s : State) : Res :=
  let b := s.ballPair h pair
  s.onLink h (fun s => if (s.cvState h = L.ref || s.cvState h = L.speed) && !s.flag (F.LN_STATUS_DIR h b) then s.put (F.LN_STATUS_RX_INV h b) 1
    else s)

end Sys2Proof.Machine
end

