-- ==== Sys2Proof/Machine/Launches.lean ====
section
/-! DEFINITION. Machine/Launches.lean: a queued launch reaches its time and fires its action (R327, R333 to R336, R347, R374,
R421, R468, R539). -/
namespace Sys2Proof.Machine

/-- The launch that fires first: the earliest, and of those due together the one accepted first (R335). -/
def State.nextLaunch (s : State) : Option Launch :=
  s.sr.queue.foldl (fun (m : Option Launch) l =>
    match m with
    | none => some l
    | some x => if l.at_ < x.at_ || (l.at_ == x.at_ && decide (l.order < x.order)) then some l else some x) none

/-- The block that a launch acts on is stopped or isolated, or is no longer there: REASON 8, 9 or 11 (R334). The image's records
say what is there: LANE_ROLES a port and a head, EFUSE a channel (DEDUCED, log entry 112); a field bus is always there (R479). Launch lines belong to
Sirocco, which never stops. -/
def State.launchBar (s : State) (l : Launch) : Option Nat :=
  let bar (target runs enabled : Bool) : Option Nat :=
    if !target then some 11 else if !runs then some 9 else if !enabled then some 8 else none
  match l.action with
  | 0x10 =>
    let b := bitsOf l.arg 0 5
    bar true (s.unitRuns 15) (s.flag (F.WD_BUS_CTRL_ENABLE b))
  | 0x20 =>
    let p := bitsOf l.arg 0 2
    bar (s.ethLane p).isSome (s.unitRuns 13) (s.flag (F.ETH_PCTRL_ENABLE p))
  | 0x30 => bar (s.groupOf 1 (l.arg % 2)).isSome (s.unitRuns (9 + l.arg % 2)) (s.flag (F.HD_CTRL_ENABLE (l.arg % 2)))
  | 0x31 => bar (s.groupOf 1 (l.arg % 2)).isSome (s.unitRuns (9 + l.arg % 2)) (s.flag (F.HD_CTRL_ENABLE (l.arg % 2)))
  | 0x40 =>
    let c := l.arg % 8
    bar (s.efTopo c != 0) (s.unitRuns (16 + c)) (s.flag (F.EF_CTRL_ENABLE c))
  | _ => none

/-- GENLOCK_SET (R347): T mod GL_PERIOD; with GL_PERIOD 0 the rule states no value and a free one is stored. -/
def State.genlockSet (s : State) (x t : Nat) : State :=
  let per := s.get (F.GL_PERIOD_x_NS x)
  if per = 0 then s.took.put (F.GL_PHASE_x_NS x) (s.freeVal 32) else s.put (F.GL_PHASE_x_NS x) (t % per)

/-- The action of a launch on its block: the state after it, none where it ends NO_EFFECT with NOT_READY (R334, R421, R468,
R539). -/
def State.launchAct (s : State) (l : Launch) : Option State :=
  match l.action with
  | 0x10 => s.fieldRelease (bitsOf l.arg 0 5) (bitsOf l.arg 8 8)
  | 0x20 =>
    let r := s.gateSwitch (bitsOf l.arg 0 2) (bitsOf l.arg 4 1) l.at_
    if r.1 then some r.2 else none
  | 0x30 => some (s.hdSetCommit (l.arg % 2))
  | 0x31 => some (s.genlockSet (l.arg % 2) l.due)
  | 0x40 => if s.efState (l.arg % 8) = Ef.fault then none else some (s.efOn (l.arg % 8) true)
  | _ => none

/-- A launch ends with an outcome (R338, R339). -/
def State.launchEnds (s : State) (l : Launch) (outcome reason late : Nat) : State :=
  s.srResult l.agent l.tun l.id outcome reason l.res late l.report

/-- A launch fires. A pulse whose first edge fired waits for its second edge, WIDTH after the first with the same lateness; its
result leaves then (R333, R335). -/
def State.launchFires (s : State) (l : Launch) : State :=
  if l.action ≤ 2 then
    let level := bitAt l.arg 8
    let r := s.lineEdge l level
    let delay := r.1.2.2.2
    let worst := r.1.2.2.1
    if l.action = 2 && (r.1.1 = Out.fired || r.1.1 = Out.late) then
      let second := (l.at_ + delay + bitsOf l.arg 12 20, { l with lateBy := l.lateBy + delay, worst := worst })
      { r.2 with sr := { r.2.sr with seconds := r.2.sr.seconds ++ [second] } }
    else r.2.launchEnds l r.1.1 r.1.2.1 worst
  else match s.launchBar l with
    | some reason => s.launchEnds l Out.noEffect reason l.lateBy
    | none =>
      match s.launchAct l with
      | none => s.launchEnds l Out.noEffect 10 l.lateBy
      | some t => t.launchEnds l (if l.late then Out.late else Out.fired) 0 l.lateBy

/-- An event of a launch: its time and the launch. -/
abbrev Firing := Nat × Launch

/-- One event comes before another: by time, and at one time by order of acceptance (R335). -/
def Firing.before (x y : Firing) : Bool := x.1 < y.1 || (x.1 == y.1 && decide (x.2.order < y.2.order))

/-- The second edge that is due first (R333, R335). -/
def State.nextSecond (s : State) : Option Firing :=
  s.sr.seconds.foldl (fun (m : Option Firing) p =>
    match m with
    | none => some p
    | some q => if Firing.before p q then some p else some q) none

/-- A queued launch leaves the queue and fires at its time (R333). -/
def State.fireLaunch (s : State) (l : Launch) : State :=
  let s := s.advanceTo l.at_
  (({ s with sr := { s.sr with queue := s.sr.queue.erase l } } : State).srCount l.res).launchFires l

/-- The second edge of a pulse fires at its time; the pulse's result leaves with it (R327, R333). -/
def State.fireSecond (s : State) (p : Firing) : State :=
  let s := s.advanceTo p.1
  let r := ({ s with sr := { s.sr with seconds := s.sr.seconds.filter (· != p) } } : State).lineEdge { p.2 with at_ := p.1 }
    (!bitAt p.2.arg 8)
  r.2.launchEnds p.2 r.1.1 r.1.2.1 r.1.2.2.1

/-- The event that fires first of those before `last`: a queued launch on the left, a second edge on the right (R335). -/
def State.nextFiring (s : State) (last : Firing → Bool) : Option (Launch ⊕ Firing) :=
  match s.nextLaunch, s.nextSecond with
  | none, none => none
  | some l, none => if last (l.at_, l) then some (.inl l) else none
  | none, some p => if last p then some (.inr p) else none
  | some l, some p =>
    if Firing.before p (l.at_, l) then (if last p then some (.inr p) else none)
    else if last (l.at_, l) then some (.inl l) else none

/-- The launches and second edges that `last` takes in fire in the order of their times and of their acceptance, at most `n` of
them (R335). -/
def State.fireWhile (s : State) (last : Firing → Bool) : Nat → State
  | 0 => s
  | n + 1 =>
    match s.nextFiring last with
    | some (.inl l) => (s.fireLaunch l).fireWhile last n
    | some (.inr p) => (s.fireSecond p).fireWhile last n
    | none => s

/-- The number of edges and actions still to come. -/
def State.firings (s : State) : Nat := 2 * s.sr.queue.length + s.sr.seconds.length

/-- What is due before `e` has fired (R335). -/
def State.fireBefore (s : State) (e : Firing) : State := s.fireWhile (fun x => Firing.before x e) s.firings

/-- What is due at `t` or before has fired: a launch due at a tick boundary fires on the state before the boundary (R33). -/
def State.fireUpTo (s : State) (t : Nat) : State := s.fireWhile (fun x => decide (x.1 ≤ t)) s.firings

/-- Launches fire: TIME counts, and the hub is awake (R333, R587). -/
def State.launching (s : State) (t : Nat) : Bool := s.awake && s.counting && decide (t ≤ s.nextBoundary)

/-- LAUNCH_FIRE (R333, R335): the launch that is due next fires, after the second edges due before it; one due beyond the next
tick boundary waits for it. -/
def execLaunchFire (s : State) : Res :=
  .next (match s.nextLaunch with
    | none => s
    | some l => if s.launching l.at_ then (s.fireBefore (l.at_, l)).fireLaunch l else s)

/-- LINE_PULSE_SECOND_EDGE (R327, R333, R335): the second edge that is due first fires, after the launches due before it. -/
def execLinePulseSecondEdge (s : State) : Res :=
  .next (match s.nextSecond with
    | none => s
    | some p => if s.launching p.1 then (s.fireBefore p).fireSecond p else s)

end Sys2Proof.Machine
end

