-- ==== Sys2Proof/Machine/RegWrite.lean ====
section
/-! DEFINITION. Machine/RegWrite.lean: what a word written to a register does (R7 to R9, R97 to R103, R634 to R638, R671):
which fields it writes, who may write them, which values are refused, and the effect of each field. -/
namespace Sys2Proof.Machine

/-! ### The fields that a word writes (R634) -/

/-- A field that a word writes, with the value. -/
structure Wr where
  f : FRef
  acc : Acc
  cls : Cls
  v : Nat
deriving DecidableEq, Repr

/-- The bits of a bank entry's word that R312 names. -/
def bankBits (e n : Nat) : Nat :=
  if e < 340 then
    (match n with
     | 0 => if e < 256 then 0x8FFFFFFF else 0x8CFFFFFF
     | 1 => 0x00FFFFFF
     | 2 => 0x0007FFFF
     | _ => if e < 256 then 0xFF else 0x7F)
  else
    (match n with
     | 0 => 0x80FFFFFF
     | 1 => 0x3FFFFFFF
     | _ => 0x00FFFFFF)

/-- The word as the register takes it: bits of a bank word outside R312's fields are not stored. -/
def WReg.word (r : WReg) (v : Nat) : Nat :=
  match r with
  | .bankW _ e n => v &&& bankBits e n
  | _ => v

/-- The place of a field: PWR_STAY.MINE is the writer's own flag (R593). -/
def WReg.fref (r : WReg) (a : Nat) (w : WField) : FRef :=
  match r with
  | .pwrStay => stayRef a
  | _ => ⟨r.key a, w.lsb, w.width⟩

/-- The value that an agent has staged for a field, else the value in force. -/
def State.stagedOr (s : State) (a : Nat) (f : FRef) : Nat :=
  (((s.agent a).staged.find? (fun w => w.f == f)).map (·.v)).getD (s.get f)

/-- The word of a submission or a cancel counts as written whatever its value (R634). -/
def WReg.always (r : WReg) : Bool :=
  match r with
  | .srSubmitW _ => true
  | .srCancelW _ => true
  | _ => false

/-- The fields of a register that word `v` of agent `a` writes (R634). -/
def State.written (s : State) (a : Nat) (r : WReg) (v : Nat) : List Wr :=
  r.fields.filterMap (fun w =>
    let f := r.fref a w
    let x := bitsOf (r.word v) w.lsb w.width
    let hit : Bool := match w.acc with
      | .rw => x != (if w.cls == .tick then s.stagedOr a f else s.get f)
      | _ => x != 0 || r.always
    if hit then some ⟨f, w.acc, w.cls, x⟩ else none)

/-! ### Permission (R44, R48, R638, R671 and the defining rules) -/

/-- Some source that bit `bit` of a register keeps high is routed to agent `a` (R671). -/
def State.servesBit (s : State) (a key bit : Nat) : Bool :=
  (List.range 256).any (fun n => s.routed n a
    && (srcFields n).any (fun f => f.addr == key && decide (f.lsb ≤ bit) && decide (bit < f.lsb + f.width)))

/-- Every bit that a W1C write clears drives a source routed to the writer (R671). -/
def State.servesAll (s : State) (a : Nat) (w : Wr) : Bool :=
  w.acc == .w1c && (List.range w.f.width).all (fun i => !bitAt w.v i || s.servesBit a w.f.addr (w.f.lsb + i))

/-- Filter `i` of the switch as word `j` with value `v` would leave it: PORT and POLICER (R420). -/
def State.filterLeft (s : State) (a i j v : Nat) : Nat × Nat :=
  if j = 0 then (bitsOf v 0 3, bitsOf v 21 7) else (s.stagedOr a (F.SF_i_W0_PORT i), s.stagedOr a (F.SF_i_W0_POLICER i))

/-- Agent `a` may write a filter that it leaves with this PORT and POLICER (R420). -/
def State.mayFilter (s : State) (a : Nat) (pp : Nat × Nat) : Bool :=
  let res := s.entryRes (340 + pp.2)
  (if pp.1 < 4 then s.owns a (4 + pp.1) else a == pp.1 - 4) && (decide (56 ≤ res) || s.owns a res)

/-- Agent `a` may write the field at `lsb` of register `r` with word `v` by the rule of its chapter or R638. -/
def State.mayWrite (s : State) (a : Nat) (r : WReg) (lsb v : Nat) : Bool :=
  match r with
  | .sysKeep _ => s.boardOrService a
  | .iso _ => if lsb = 8 then s.inService a else s.boardOrService a
  | .pwrStay => decide (a < 4)
  | .pwrTimer => bitAt s.enterAgents a
  | .refCtrl => if lsb = 1 then s.img.phase == .bare && s.inService a else s.isTimeAgent a
  | .refAdjLimit => s.isTimeAgent a
  | .discCtrl => s.isTimeAgent a
  | .discLoop => s.isTimeAgent a
  | .discLimits => s.isTimeAgent a
  | .todOffsetNs => s.isTimeAgent a
  | .todOffsetSecLo => s.isTimeAgent a
  | .todOffsetSecHi => s.isTimeAgent a
  | .timeEvt => s.isTimeAgent a
  | .tickCommit => true
  | .evtMask _ => true
  | .fevtMask _ => true
  | .fevtClass _ => true
  | .evtStorm _ => true
  | .mgmtOwnChg => true
  | .cvCtrl h => s.boardOrService a || (lsb == 1 && a == h)
  | .lgCtrl _ => s.boardOrService a
  | .lgService _ => s.inService a
  | .lnEyeCtrl g l => s.sharedWriter a || (if g < 4 then a == g else s.owns a (s.laneRes g l))
  | .bankCtrl => true
  | .portSplit h => a == h || s.sharedWriter a
  | .srSubmitW _ => true
  | .srCancelW _ => true
  | .pxCtrl p => if lsb = 0 then s.boardOrService a else s.owns a (2 + p)
  | .sfW0 i => s.mayFilter a (s.filterLeft a i 0 v)
  | .sfW1 i => s.mayFilter a (s.filterLeft a i 1 v)
  | .sfW2 i => s.mayFilter a (s.filterLeft a i 2 v)
  | .gpCtrl _ => s.isTimeAgent a
  | .usbCtrl => s.boardOrService a
  | .ufCtrl h => a == h || a == 4
  | .ufEvt h => a == h || a == 4
  | .wdArm h => a == h
  | .wdPerrPop h => a == h
  | .wdModEvt => false
  | .wdBusCtrl _ => s.boardOrService a
  | .wdBusEvt _ => false
  | .wdModCtrl m => s.approver m == a && decide (a < 4)
  | .tcCtrl p =>
    if lsb = 0 then s.boardOrService a
    else (a == p || a == 4 || s.sharedWriter a) && (lsb != 8 || s.inService a)
  | .tcEvt _ => false
  | .tcFlt _ => false
  | .efCtrl c =>
    if lsb = 0 then s.boardOrService a
    else s.owns a (48 + c) && (lsb != 2 || s.get (F.EF_STATUS_CAUSE c) != EfCause.shortedFet || s.inService a)
  | .efEvt _ => false
  | .oaNotice => s.boardOrService a || s.sharedWriter a
  | .errFirstAck => true
  | .errRingPop => true
  | _ => if s.regRes r < 56 then s.owns a (s.regRes r) else s.sharedWriter a

/-- BOARD writes the SYS and MGMT blocks in BARE (R128, R638), but for what is service only (R574). -/
def State.boardBare (s : State) (a : Nat) (r : WReg) (lsb : Nat) : Bool :=
  let b := r.key a % 2 ^ 32 / 65536
  s.img.phase == .bare && a == 4 && (b == 0 || b == 4) && (match r with
    | .iso _ => lsb != 8
    | _ => true)

/-- Agent `a` may write a written field (R22, R638, R671). -/
def State.mayField (s : State) (a : Nat) (r : WReg) (v : Nat) (w : Wr) : Bool :=
  s.mayWrite a r w.f.lsb v || s.boardBare a r w.f.lsb || s.servesAll a w

/-! ### Refused values (R635 and the field descriptions) -/

/-- A value that a field's description refuses: the interval of each field that has one. -/
def valueOk (r : WReg) (lsb x : Nat) : Bool :=
  match r with
  | .refAdjLimit => decide (x ≤ 219902325)
  | .discCtrl => decide (x ≤ 8)
  | .discLoop => lsb != 16 || decide (1 ≤ x)
  | .discLimits => decide (1 ≤ x)
  | .todOffsetNs => decide (x ≤ 999999999)
  | .mgmtNpTimeout => decide (8 ≤ x)
  | .evtStormCfg => if lsb = 0 then decide (1 ≤ x) else decide (16 ≤ x)
  | .lgDwell _ => if lsb = 0 then decide (16 ≤ x) && decide (x ≤ 30)
      else if lsb = 8 then decide (16 ≤ x) && decide (x ≤ 24) else true
  | .lnEyeCtrl _ _ => if lsb = 1 then decide (x ≤ 2) else if lsb = 16 then x != 0x80
      else if lsb = 24 then decide (16 ≤ x) && decide (x ≤ 30) else true
  | .statCfg => lsb != 0 || decide (1 ≤ x)
  | .bankW _ e n =>
    if e < 340 then n != 2 || x == 0 || decide (64 ≤ x % 65536) else n ≤ 1 || x == 0 || decide (1111 ≤ x)
  | .srRes _ => lsb != 16 || decide (x ≤ 64)
  | .capCtrl _ => lsb != 8 || (decide (1 ≤ x) && decide (x ≤ 128))
  | .glCtrl _ => lsb == 0 || decide (1 ≤ x)
  | .hdPclk _ => lsb != 16 || decide (1 ≤ x)
  | .hdLinkCfg _ => lsb != 4 || x == 1 || x == 2 || x == 4
  | .pxCtrl _ => if lsb = 8 then decide (x ≤ 7) || x == 15 else lsb != 16 || decide (1 ≤ x)
  | .ethGcl _ => decide (x ≤ 64)
  | .ethGce _ _ _ => decide (32 ≤ x / 256)
  | .gpCtrl _ => lsb != 8 || decide (x ≤ 5) || decide (13 ≤ x)
  | .usbCfg => decide (1 ≤ x)
  | .wdRxCtrl b => lsb != 16 || (decide (1 ≤ x) && decide (x ≤ (if b < 16 then 64 else 1024)))
  | .oaCfg => lsb != 12 || decide (1 ≤ x)
  | .oaShed => lsb != 16 || decide (1 ≤ x)
  | _ => true

/-- A word that the register's rule refuses with DENIED for what it asks: COMMIT with DISCARD, an AUX START to the link
configuration, an ENABLE of a head outside R370. -/
def State.wordDenied (s : State) (r : WReg) (ws : List Wr) : Bool :=
  match r with
  | .tickCommit => decide (2 ≤ ws.length)
  | .hdAuxCtrl x => auxDenied (s.get (F.HD_AUX_REQ_CMD x)) (s.get (F.HD_AUX_REQ_ADDR x)) (s.get (F.HD_AUX_REQ_LEN_M1 x) + 1)
  | .hdCtrl x => ws.any (fun w => w.f.lsb == 0 && w.v == 1) && !s.hdTimingOk x
  | _ => false

/-- The QUIET fields of the register's block may not change now: it runs (R9, R103). -/
def State.blockRuns (s : State) (r : WReg) : Bool :=
  match r with
  | .hdCtrl x => s.flag (F.HD_CTRL_ENABLE x)
  | .hdPclk x => s.flag (F.HD_CTRL_ENABLE x)
  | .hdHtim x => s.flag (F.HD_CTRL_ENABLE x)
  | .hdHsync x => s.flag (F.HD_CTRL_ENABLE x)
  | .hdVtim x => s.flag (F.HD_CTRL_ENABLE x)
  | .hdVsync x => s.flag (F.HD_CTRL_ENABLE x)
  | .pxCtrl p => s.flag (F.PX_CTRL_ENABLE p)
  | _ => false

/-- A written value that the present state refuses with BUSY: a time of day under discipline (R55), the PLAYA column (R69,
R373), a pending commit of the head (R375), the operative gate list (R423), the system input (R531). -/
def State.wordBusy (s : State) (r : WReg) (ws : List Wr) : Bool :=
  let tod : Bool := s.get F.DISC_STATUS_STATE == Disc.acquire || s.get F.DISC_STATUS_STATE == Disc.locked
  let framed (x : Nat) : Bool := s.flag (F.HD_STATUS_PENDING x)
  match r with
  | .todOffsetNs => tod
  | .todOffsetSecLo => tod
  | .todOffsetSecHi => tod
  | .hdCtrl x =>
    let c := s.put (F.HD_CTRL_ENABLE x) 1
    ws.any (fun w => w.f.lsb == 0 && w.v == 1) && decide (c.ledgerLimitNow 8 < c.ledgerSumNow 8)
  | .hdBg x => framed x
  | .lyCtrl x _ => framed x
  | .lyPos x _ => framed x
  | .lySize x _ => framed x
  | .lySrc x _ => framed x
  | .lyPal x _ _ => framed x
  | .ethGce p l _ => s.get (F.ETH_PSTATUS_OPER_LIST p) == l + 1
  | .ethGcl p => ws.any (fun w => s.get (F.ETH_PSTATUS_OPER_LIST p) == (if w.f.lsb = 0 then 1 else 2))
  | .tcCtrl p => ws.any (fun w => w.f.lsb == 0 && w.v == 0) && s.flag (F.TC_STATUS_SYS_INPUT p)
  | _ => false

/-- The staging set of agent `a` after a word (R97, R98): a later write of a staged field takes its place. -/
def State.staging (s : State) (a : Nat) (ws : List Wr) : List Staged :=
  (ws.filter (·.cls == .tick)).foldl (fun l w =>
    if l.any (fun x => x.f == w.f) then l.map (fun x => if x.f == w.f then { x with v := w.v } else x)
    else l ++ [⟨w.f, w.v⟩]) (s.agent a).staged

/-- The written QUIET fields in force, which a word's other fields are judged with (R636). -/
def State.quietPut (s : State) (ws : List Wr) : State :=
  ws.foldl (fun s w => if w.cls == .quiet then s.put w.f w.v else s) s

/-- The cause of R84 that refuses the TICK fields of a word: PENDING while a commit of the agent is pending (R101), STAGE_FULL
where they would need a 257th entry (R98). -/
def State.stageBar (s : State) (a : Nat) (ws : List Wr) : Option Nat :=
  if !ws.any (·.cls == .tick) then none
  else if s.commitPending a then some 0x13
  else if 256 < (s.staging a ws).length then some 0x12
  else none

/-- The RESULT of a word by R635, but for what the staging set refuses: who may write, QUIET fields, values, then what the state
refuses. -/
def State.wordJudge (s : State) (a : Nat) (r : WReg) (v : Nat) (ws : List Wr) : Nat :=
  if !ws.all (s.mayField a r (r.word v)) then R.denied
  else if ws.any (·.cls == .quiet) && s.blockRuns r then R.busy
  else if !ws.all (fun w => valueOk r w.f.lsb w.v) || (s.quietPut ws).wordDenied r ws then R.denied
  else if (s.quietPut ws).wordBusy r ws then R.busy
  else R.ok

/-! ### The effect of a word (R636) -/

/-- The value written to the field at `lsb`, if it is written. -/
def wrAt (ws : List Wr) (lsb : Nat) : Option Nat := (ws.find? (fun w => w.f.lsb == lsb)).map (·.v)

/-- The field at `lsb` is written with 1. -/
def wrOne (ws : List Wr) (lsb : Nat) : Bool := wrAt ws lsb == some 1

/-- The field at `lsb` is written with 0. -/
def wrZero (ws : List Wr) (lsb : Nat) : Bool := wrAt ws lsb == some 0

/-- LIVE, QUIET and FRAME values stored, W1C bits cleared, TICK values staged (R97, R636). -/
def State.storeWord (s : State) (a : Nat) (ws : List Wr) : State :=
  let s := if ws.any (·.cls == .tick) then s.modAgent a (fun g => { g with staged := s.staging a ws }) else s
  ws.foldl (fun s w =>
    match w.acc with
    | .rw => if w.cls == .tick then s else s.put w.f w.v
    | .w1c => s.put w.f (s.get w.f &&& (2 ^ w.f.width - 1 - w.v))
    | _ => s) s

/-- USB_CTRL.ENABLE takes a value: the hub stops with every face and port, PPC held, or starts (R103, R455). -/
def State.usbEnable (s : State) (on : Bool) : State :=
  if on then s.faces.each (List.range 8) State.ppc else (s.each (List.range 8) State.dsDisconnect).faces

/-- The down-spread that SSC_DEPTH asks for starts or ends (R48). -/
def State.spreadWrite (s : State) (a : Nat) : State :=
  if s.flag F.REF_CTRL_SSC_DEPTH then
    ((s.put F.TIME_QUAL_UNTRACEABLE 1).modClock (fun c => { c with sscBy := some a })).usbSpread true
  else ((s.put F.TIME_QUAL_UNTRACEABLE 0).modClock (fun c => { c with sscBy := none })).usbSpread false

/-- What the written fields of a register set going beside the register itself. -/
def State.wordAction (s : State) (a : Nat) (r : WReg) (ws : List Wr) : State :=
  match r with
  | .timeEvt => s.xtalKeep
  | .iso u => (s.iff (wrOne ws 9) (fun s => s.isoRestart u)).iff (wrOne ws 8) (fun s => s.isoRequest u)
  | .refCtrl => s.iff (wrAt ws 1).isSome (fun s => s.spreadWrite a)
  | .cvCtrl h =>
    let s := (s.iff (wrZero ws 0) (fun s => s.linkOff h)).iff (wrOne ws 0) (fun s => s.cvAttach h)
    s.iff (wrOne ws 1) (fun s => s.retrain h)
  | .lgCtrl g => s.groupEnable g (wrOne ws 0)
  | .lgService g => (s.iff (wrOne ws 0) (fun s => s.forceSpare g)).iff ((wrAt ws 1).isSome) (fun s => s.forceSlices g ((wrAt ws 1).getD 0))
  | .lnEyeCtrl g l => s.iff (wrOne ws 0) (fun s => s.eyeStart g l)
  | .srSubmitW i =>
    if i = 3 then
      let w (j : Nat) : Nat := s.get (F.SR_SUBMIT_W_V j)
      (s.each (List.range 4) (fun s j => s.put (F.SR_SUBMIT_W_V j) 0)).srSubmit a none (w 0) (w 1) (w 2) ((wrAt ws 0).getD 0)
    else s.put (F.SR_SUBMIT_W_V i) ((wrAt ws 0).getD 0)
  | .srCancelW i =>
    if i = 1 then (s.put (F.SR_CANCEL_W_V 0) 0).srCancel a none (s.get (F.SR_CANCEL_W_V 0)) ((wrAt ws 0).getD 0)
    else s.put (F.SR_CANCEL_W_V i) ((wrAt ws 0).getD 0)
  | .hdCtrl x => (s.iff (wrZero ws 0) (fun s => s.headStop x)).iff (wrOne ws 0) (fun s => s.headStart x)
  | .hdWait x => s.hdIdleApply x
  | .hdCommit x => (s.iff (wrOne ws 1) (fun s => s.hdCancel x)).iff (wrOne ws 0) (fun s => s.hdSetCommit x)
  | .hdPoolWm x => s.poolLow x
  | .hdEvt x => s.poolLow x
  | .hdLinkCfg x => s.iff (wrOne ws 8) (fun s => s.dpRetrain x)
  | .hdAuxCtrl x => s.auxStart x
  | .ethPctrl p => (s.iff (wrZero ws 0) (fun s => s.ethEnable p false)).iff (wrOne ws 0) (fun s => s.ethEnable p true)
  | .ethFdbFlush => s.fdbFlush ((wrAt ws 0).getD 0 + 2 ^ 16 * (wrAt ws 16).getD 0)
  | .usbCtrl => s.usbEnable (wrOne ws 0)
  | .ufCtrl h => s.iff ((wrAt ws 0).isSome && bitAt (s.get F.USB_STATUS_ATTACHED) h) (fun s => s.mfConnect h (s.mfConnected h))
  | .dsCtrl n => s.powerCycle n
  | .wdPerrPop h => s.perrPop h
  | .wdBusCtrl b => s.iff (wrZero ws 0) (fun s => s.busStop b)
  | .wdModCtrl m =>
    let s := (s.iff (wrOne ws 0) (fun s => s.mdApprove m)).iff (wrOne ws 1) (fun s => s.mdRefuse m)
    s.iff (wrOne ws 2) (fun s => s.mdRecheck m)
  | .tcCtrl p =>
    let s := s.iff (wrAt ws 0).isSome (fun s => s.tcEnable p (wrOne ws 0))
    let s := s.iff (wrOne ws 1) (fun s => s.tcRearm p)
    let s := s.iff (wrOne ws 4) (fun s => s.tcAsk p (.pr false))
    let s := s.iff (wrOne ws 5) (fun s => s.tcAsk p .dr)
    let s := s.iff (wrOne ws 6) (fun s => s.tcAsk p .vconn)
    let s := s.iff (wrOne ws 7 && s.pdOn p) (fun s => (s.softReset p).put (F.TC_CTRL_SOFT_RESET p) 1)
    s.iff (wrOne ws 8 && s.pdOn p) (fun s => (s.hardReset p true).tcAsked p)
  | .efCtrl c =>
    let s := s.iff (wrAt ws 0).isSome (fun s => s.efEnable c (wrOne ws 0))
    let s := s.iff (wrAt ws 1).isSome (fun s => s.efOn c (wrOne ws 1))
    s.iff (wrOne ws 2) (fun s => s.efClear c)
  | .errFirstAck => s.firstAck a
  | .errRingPop => s.ringPop a
  | _ => s

/-- The source whose level follows a writable field by a comparison (R345, R494). -/
def WReg.source (r : WReg) : Option Nat :=
  match r with
  | .capCtrl g => some (84 + g)
  | .wdRxCtrl b => if 12 ≤ b then some (152 + b) else none
  | _ => none

/-- A word that is not refused takes effect (R636): the RESULT, which for TICK_COMMIT is the judgement's (R100). -/
def State.wordEffect (s : State) (a : Nat) (r : WReg) (ws : List Wr) : Nat × State :=
  match r with
  | .tickCommit => if wrOne ws 0 then s.tickCommit a else s.tickDiscard a
  | .pxCtrl p => (R.ok, s.pxCtrl p (ws.foldl (fun x w => withBits x w.f.lsb w.f.width w.v) (s.reg (A.PX_CTRL p))))
  | .pwrStay => (R.ok, s.stayWrite a ((wrAt ws 0).getD 0))
  | _ =>
    let go (s : State) : State := (s.storeWord a ws).wordAction a r ws
    (R.ok, match r.source with
      | some n => s.watching n go
      | none => go s)

/-- Agent `a` writes word `v` at an address outside the windows (R634 to R636): the RESULT and the state. -/
def State.writeWord (s : State) (a addr v : Nat) : Nat × State :=
  match wregAt addr with
  | none => (R.ok, s)
  | some r =>
    let ws := s.written a r v
    if ws.isEmpty then (R.ok, s)
    else
      let res := s.wordJudge a r v ws
      if res ≠ R.ok then (res, s)
      else match s.stageBar a ws with
        | some c => (R.busy, s.commitResult c a 0 0 0)
        | none => s.wordEffect a r ws

end Sys2Proof.Machine
end

