-- ==== Sys2Proof/Machine/Mgmt.lean ====
section
/-! DEFINITION. Machine/Mgmt.lean: the management commands: READ, WRITE and WRITE_POSTED over the address map (R123 to R127,
R625, R630 to R633), heartbeats (R143), ownership commands (R131 to R133), service mode (R134 to R138), and the transports'
own steps: MGMT_SPI (R120, R121), EP1 (R448), malformed and held frames (R19, R673). -/
namespace Sys2Proof.Machine

/-! ### The address map (R625) -/

/-- The blocks of R625 by first and last byte. -/
def blockRows : List (Nat × Nat) :=
  [(0x00000000, 0x0000FFFF), (0x00010000, 0x0001FFFF), (0x00020000, 0x0002FFFF), (0x00030000, 0x0003FFFF),
   (0x00040000, 0x0004FFFF), (0x00100000, 0x0013FFFF), (0x00200000, 0x0027FFFF), (0x00300000, 0x0033FFFF),
   (0x00340000, 0x003FFFFF), (0x00400000, 0x004FFFFF), (0x00500000, 0x005FFFFF), (0x00600000, 0x006FFFFF),
   (0x00700000, 0x007FFFFF), (0x00800000, 0x008FFFFF), (0x00900000, 0x009FFFFF), (0x00A00000, 0x00AFFFFF),
   (0x00B00000, 0x00BFFFFF), (0x00C00000, 0x00CFFFFF), (0x40000000, 0x7FFFFFFF), (0x80000000, 0x85FFFFFF)]

/-- The block that an address lies in, if any. -/
def blockOf (addr : Nat) : Option Nat := blockRows.findIdx? (fun r => decide (r.1 ≤ addr) && decide (addr ≤ r.2))

/-- ADDRESS is aligned and every word of a span lies in one block (R123). -/
def spanOk (addrs : List Nat) : Bool :=
  match addrs with
  | [] => false
  | x :: _ => x % 4 == 0 && (blockOf x).isSome && addrs.all (fun y => blockOf y == blockOf x)

/-- The words of SR_SUBMIT and of SR_CANCEL are covered whole and without FIXED, or not at all (R123, R329, R340). -/
def submitOk (fixed : Bool) (addrs : List Nat) : Bool :=
  [(0x340010, 4), (0x340028, 2)].all (fun b =>
    let ws := (List.range b.2).map (fun i => b.1 + 4 * i)
    !ws.any addrs.contains || (!fixed && ws.all addrs.contains))

/-! ### Reading (R630 to R633) -/

/-- A register of which each agent has its own copy (R631). -/
def perAgent (addr : Nat) : Bool :=
  let x (lo hi : Nat) : Bool := decide (lo ≤ addr) && decide (addr ≤ hi)
  x 0x10004 0x10010 || x 0x30040 0x3005C || x 0x30080 0x300DC || addr == 0x40008 || addr == 0x40048 || addr == 0x40050
    || x 0x340020 0x340024

/-- Word `i` of an error-log entry (R606). -/
def ErrEntry.word (e : ErrEntry) (i : Nat) : Nat :=
  if i = 0 then e.w0 else if i = 1 then e.w1 else if i = 2 then e.time % 2 ^ 32 else e.time / 2 ^ 32

/-- TIMING of a queue (R326): E - TIME in ns for CAL, the credit in bytes for CREDIT, as a signed saturating word. -/
def State.qTiming (s : State) (q : Nat) : Nat :=
  toBits 32 (clampSigned 32
    (if s.qIsCredit q then s.qCredit q / 125000
     else (((s.queue q).e : Int) - ((s.clock.time * 65536 : Nat) : Int)) / 65536))

/-- The words that report the accessing agent's own part of the management block (R149, R297). -/
def State.readMgmt (s : State) (a addr : Nat) : Nat :=
  let g := s.agent a
  if addr = 0x40000 then a + 8 * bit1 g.service + 16 * bit1 g.stale
  else if addr = 0x40040 then s.npChip
  else if addr = 0x40044 then
    maskOf 5 s.inService + 2 ^ 8 * min g.fails 15
      + 2 ^ 16 * bit1 (match g.lockout with
          | some t => decide (s.tick < t + 80000)
          | none => false)
  else if 0x40020 ≤ addr && addr < 0x40034 then
    let b := s.agent ((addr - 0x40020) / 4)
    b.openCmds.length + 2 ^ 8 * b.posted + 2 ^ 16 * min b.held.length 65535
  else if addr = 0x40200 then s.ownedMask a % 2 ^ 32
  else if addr = 0x40204 then s.ownedMask a / 2 ^ 32
  else if addr = 0x40208 then s.standbyMask a % 2 ^ 32
  else if addr = 0x4020C then s.standbyMask a / 2 ^ 32
  else s.reg addr

/-- The words of the error block, which act on the accessing agent's own log (R624). -/
def State.readErr (s : State) (a off : Nat) : Nat :=
  let l := vAt s.logs a
  if off < 0x10 then
    (match l.first with
     | some e => e.word (off / 4)
     | none => 0)
  else if 0x20 ≤ off && off < 0x30 then
    (match l.ring with
     | e :: _ => e.word ((off - 0x20) / 4)
     | [] => 0)
  else if off = 0x34 then l.ring.length + 2 ^ 8 * bit1 l.first.isSome + 2 ^ 16 * l.ovf
  else 0

/-- The word at an aligned address outside the windows, as agent `a` reads it: the register's stored word, or the view that its
description gives of the hub's state. -/
def State.readView (s : State) (a addr : Nat) : Nat :=
  if perAgent addr then s.reg (bankBase a + addr)
  else match addr / 65536 with
  | 0 =>
    if addr = A.SYS_REV then Config.revMain.toNat + 2 ^ 8 * Config.revHamada.toNat
    else if addr = A.SYS_DIE_ID_LO then Config.dieId.toNat % 2 ^ 32
    else if addr = A.SYS_DIE_ID_HI then Config.dieId.toNat / 2 ^ 32
    else if addr = A.SYS_STATE then s.sysState
    else if addr = A.PWR_STAY then s.get (stayRef a) + 2 ^ 8 * maskOf 4 (fun h => s.flag (stayRef h))
    else s.reg addr
  | 1 => if addr = A.TIME_LO then s.clock.time % 2 ^ 32 else s.reg addr
  | 2 =>
    if addr = A.IMAGE_KEY then
      s.get F.IMAGE_KEY_SLOT + 2 ^ 4 * maskOf 4 (fun i => (vAt s.img.otp i).isNone) + 2 ^ 8 * s.img.revoked
    else if addr = 0x20104 then (s.agent a).staged.length + 2 ^ 16 * bit1 (s.commitPending a)
    else if 0x20400 ≤ addr && addr < 0x204F8 then
      (if addr % 8 = 0 then s.ledgerSumNow ((addr - 0x20400) / 8) else s.ledgerLimitNow ((addr - 0x20400) / 8)) % 2 ^ 32
    else s.reg addr
  | 3 =>
    if addr < 0x30020 then s.evtLevel ((addr - 0x30000) / 4)
    else if addr < 0x30040 then s.evtPend a ((addr - 0x30020) / 4) false
    else if 0x30060 ≤ addr && addr < 0x30080 then s.evtPend a ((addr - 0x30060) / 4) true
    else s.reg addr
  | 4 => s.readMgmt a addr
  | 0x30 =>
    let q := (addr - 0x308000) / 32
    if 0x308000 ≤ addr && q < 340 && addr % 32 = 0 then
      min (s.qDepth q) (2 ^ 24 - 1) + 2 ^ 24 * s.get (F.QSTATE_q_SEL q) + 2 ^ 25 * bit1 (s.qShed q) + 2 ^ 26 * bit1 (s.qEligible q)
    else if 0x308000 ≤ addr && q < 340 && addr % 32 = 4 then s.qTiming q
    else if 0x300010 ≤ addr && addr < 0x300020 then
      withBits (s.reg addr) 16 16 (s.headroomNow ((addr - 0x300010) / 4))
    else s.reg addr
  | 0x34 =>
    if 0x340410 ≤ addr && addr < 0x340500 && addr % 64 / 16 = 1 then s.capRec ((addr - 0x340400) / 64) (addr % 16 / 4)
    else s.reg addr
  | 0x41 =>
    if 0x418000 ≤ addr then s.mapWord 0 ((addr - 0x418000) / 4)
    else if addr = A.HD_STATUS 0 then s.reg addr / 2 ^ 14 * 2 ^ 14 + s.hdLine 0 + 2 ^ 13 * bit1 (s.hdInVb 0)
    else s.reg addr
  | 0x42 =>
    if 0x428000 ≤ addr then s.mapWord 1 ((addr - 0x428000) / 4)
    else if addr = A.HD_STATUS 1 then s.reg addr / 2 ^ 14 * 2 ^ 14 + s.hdLine 1 + 2 ^ 13 * bit1 (s.hdInVb 1)
    else s.reg addr
  | 0x70 =>
    let h := (addr - 0x700100) / 64
    if 0x700100 ≤ addr && h < 4 && addr % 64 = 0x14 then
      s.usbQueued h + 2 ^ 8 * bit1 (!(vAt s.us.part h).isEmpty)
    else s.reg addr
  | 0xC0 => s.readErr a (addr - 0xC00000)
  | _ => s.reg addr

/-- A read of one word: TIME_LO latches (R37), the grain window answers by R353, every other address by its view. -/
def State.readWord (s : State) (a addr : Nat) : Nat × State :=
  if addr = A.TIME_LO then (s.readView a addr, s.timeLatch a)
  else if 0x80000000 ≤ addr then
    (match s.grainRead a (addr - 0x80000000) with
     | .ok v => (v, s)
     | .error _ => (0, s))
  else (s.readView a addr, s)

/-- The words of a span, read in order. -/
def State.readWords (s : State) (a : Nat) : List Nat → List Word × State
  | [] => ([], s)
  | x :: t =>
    let r := s.readWord a x
    let rest := r.2.readWords a t
    (w32 r.1 :: rest.1, rest.2)

/-- The RESULT that bars a word to a reading agent, OK where it may read it: the grain window, MAP_e and WD_MOD_REC (R22, R353,
R387, R493, R631). -/
def State.readBar (s : State) (a addr : Nat) : Nat :=
  if 0x80000000 ≤ addr then
    (match s.grainRead a (addr - 0x80000000) with
     | .ok _ => R.ok
     | .error r => r)
  else if 0x418000 ≤ addr && addr < 0x420000 then (if a == 4 || s.owns a 0 then R.ok else R.denied)
  else if 0x428000 ≤ addr && addr < 0x430000 then (if a == 4 || s.owns a 1 then R.ok else R.denied)
  else if 0x803000 ≤ addr && addr < 0x803800 && 0x80 ≤ addr % 256 then
    (let m := (addr - 0x803000) / 256
     if a == 4 || (s.approver m == a) || s.owns a (8 + m) then R.ok else R.denied)
  else R.ok

/-- Word `v` would write a field of a resource that host `a` does not own, and no rule lets it (R22, R634, R638, R671; DEDUCED,
log entry 111). -/
def State.notMine (s : State) (a addr v : Nat) : Bool :=
  match wregAt addr with
  | some r => decide (a < 4) && decide (s.regRes r < 56) && !s.owns a (s.regRes r)
      && (s.written a r v).any (fun w => !s.mayField a r (r.word v) w)
  | none => false

/-- The RESULT that bars a word of a WRITE to an agent: in the grain window, or in a register of a resource that is not its own
(R22, R353). -/
def State.writeBar (s : State) (a : Nat) (w : Nat × Word) : Nat :=
  if 0x80000000 ≤ w.1 then
    (match s.grainWrite a (w.1 - 0x80000000) 0 with
     | .ok _ => R.ok
     | .error r => r)
  else if s.notMine a w.1 w.2.toNat then R.denied
  else R.ok

/-- The first of the RESULTs of R123 that words give: BAD_ADDR, then DENIED; ISOLATED where a word lies in a unit that does not
run (R572). -/
def State.spanJudge (s : State) (bars : List Nat) (addrs : List Nat) : Nat :=
  if bars.contains R.badAddr then R.badAddr
  else if bars.any (· != R.ok) then R.denied
  else if addrs.any (fun x => match addrUnit x with
    | some u => !s.unitRuns u
    | none => false) then R.isolated
  else R.ok

/-- The whole check of a READ outside the field window (R123). -/
def State.readJudge (s : State) (a : Nat) (f : Frame) : Nat :=
  let addrs := frameAddrs f
  if !spanOk addrs then R.badAddr else s.spanJudge (addrs.map (s.readBar a)) addrs

/-- The words of a WRITE with their addresses. -/
def frameWrites (f : Frame) : List (Nat × Word) := (frameAddrs f).zip f.payload

/-- The whole check of a WRITE or WRITE_POSTED outside the field window (R123). -/
def State.writeJudge (s : State) (a : Nat) (f : Frame) : Nat :=
  let addrs := frameAddrs f
  if !spanOk addrs || !submitOk (frameFixed f) addrs then R.badAddr
  else s.spanJudge ((frameWrites f).map (s.writeBar a)) addrs

/-- A READ whose words include all four words of CAP_REC_g, without FIXED, pops a record (R345, R632). -/
def State.capPops (s : State) (f : Frame) : State :=
  s.each (List.range 4) (fun s g =>
    if !frameFixed f && (List.range 4).all (fun i => (frameAddrs f).contains (A.CAP_REC_W g i)) then s.capPop g else s)

/-- READ of a field bus or of the field lines (R457 to R464, R476). -/
def State.fieldRead (s : State) (a : Nat) (tr : Transport) (f : Frame) : State :=
  let addr := f.w1.toNat
  let r := s.fieldJudge a false false addr (frameLen f) []
  if r ≠ R.ok then s.answer a tr f r []
  else match fieldAsk addr false with
    | some (.line off) => s.took.answer a tr f R.ok [w32 (s.lineRead off)]
    | _ => (s.openNp a tr (frameTag f) (frameOp f) addr (frameLen f)).fieldAccept a (frameTag f) false false addr []

/-- READ (R123, R631 to R633). -/
def State.readBody (s : State) (a : Nat) (tr : Transport) (f : Frame) : State :=
  if inField f.w1.toNat then s.fieldRead a tr f
  else
    let r := s.readJudge a f
    if r ≠ R.ok then s.answer a tr f r []
    else
      let p := s.readWords a (frameAddrs f)
      (p.2.capPops f).answer a tr f R.ok p.1

/-- READ (R123). -/
def execRead (a : Agent) (t : Transport) (tag : Byte) (fixed : Bool) (addr : Word) (len : BitVec 12) (s : State) : Res :=
  let f := mkFrame 1 tag.toNat len.toNat (bit1 fixed) addr.toNat []
  .next (s.arrive a t f (fun s => s.readBody a t f))

/-- CAP_REC_READ (R345): a READ of the four words of CAP_REC_g. -/
def execCapRecRead (a : Agent) (t : Transport) (tag : Byte) (g : Fin 4) (s : State) : Res :=
  let f := mkFrame 1 tag.toNat 4 0 (A.CAP_REC_W g 0) []
  .next (s.arrive a t f (fun s => s.readBody a t f))

/-! ### Writing (R123, R124, R126, R634 to R637) -/

/-- One word of a span is written. -/
def State.putWord (s : State) (a addr v : Nat) : Nat × State :=
  if 0x80000000 ≤ addr then
    (match s.grainWrite a (addr - 0x80000000) v with
     | .ok s' => (R.ok, s')
     | .error r => (r, s))
  else s.writeWord a addr v

/-- Words are written in order up to the first that is refused: its RESULT, the words written before it, its address and the
state (R124). -/
def State.putWords (s : State) (a n : Nat) : List (Nat × Word) → Nat × Nat × Nat × State
  | [] => (R.ok, n, 0, s)
  | (x, v) :: t =>
    let r := s.putWord a x v.toNat
    if r.1 = R.ok then r.2.putWords a (n + 1) t else (r.1, n, x, r.2)

/-- WRITE to a field bus or to the field lines (R457 to R464). -/
def State.fieldWrite (s : State) (a : Nat) (tr : Transport) (f : Frame) : State :=
  let addr := f.w1.toNat
  let r := s.fieldJudge a true false addr (frameLen f) f.payload
  if r ≠ R.ok then s.answer a tr f r [0]
  else match fieldAsk addr true with
    | some (.line off) => (s.lineWrite a off (wordAt f.payload 0)).answer a tr f R.ok [1]
    | _ =>
      (s.openNp a tr (frameTag f) (frameOp f) addr (frameLen f)).fieldAccept a (frameTag f) true false addr
        (wordsBytes f.payload)

/-- WRITE (R123, R124). -/
def State.writeBody (s : State) (a : Nat) (tr : Transport) (f : Frame) : State :=
  if inField f.w1.toNat then s.fieldWrite a tr f
  else
    let r := s.writeJudge a f
    if r ≠ R.ok then s.answer a tr f r [0]
    else
      let p := s.putWords a 0 (frameWrites f)
      p.2.2.2.answer a tr f p.1 [w32 p.2.1]

/-- WRITE (R124). -/
def execWrite (a : Agent) (t : Transport) (tag : Byte) (fixed : Bool) (addr : Word) (data : List Word) (s : State) : Res :=
  let f := mkFrame 2 tag.toNat data.length (bit1 fixed) addr.toNat data
  .next (s.arrive a t f (fun s => s.writeBody a t f))

/-- The reply that ACK asks for of a posted write that is refused (R118). -/
def State.postedAck (s : State) (a : Nat) (tr : Transport) (f : Frame) (r : Nat) : State :=
  if frameAck f then s.answer a tr f r [] else s

/-- A posted write that is refused before it is accepted: the reply that ACK asks for, and an entry in the agent's log (R118,
R126). -/
def State.postedRefused (s : State) (a : Nat) (tr : Transport) (f : Frame) (r : Nat) : State :=
  (s.postedAck a tr f r).postedFail a f.w1.toNat r

/-- A posted write is accepted: the reply that ACK asks for (R118). -/
def State.postedAccepted (s : State) (a : Nat) (tr : Transport) (f : Frame) : State :=
  if frameAck f then s.answer a tr f R.ok [] else s

/-- WRITE_POSTED to a field bus or to the field lines (R463, R467, R468, R472); one that comes after the agent lost the bus is
logged with NOT_OWNER (R293). -/
def State.fieldPosted (s : State) (a : Nat) (tr : Transport) (f : Frame) : State :=
  let addr := f.w1.toNat
  let b := fieldBusOf addr
  let r := s.fieldJudge a true true addr (frameLen f) f.payload
  if r ≠ R.ok then
    (let s := s.postedAck a tr f r
     if r = R.denied && b < 20 && a < 4 && !s.owns a (busRes b) then s.postedFailed a (frameTag f) addr Cause.notOwner
     else s.postedFail a addr r)
  else match fieldAsk addr true with
    | some (.line off) => (s.postedAccepted a tr f).lineWrite a off (wordAt f.payload 0)
    | _ =>
      let s := (s.postedAccepted a tr f).modAgent a (fun g => { g with posted := g.posted + 1 })
      s.fieldAccept a (frameTag f) true true addr (wordsBytes f.payload)

/-- WRITE_POSTED (R118, R123, R124, R126): a word refused after acceptance is entered in the agent's log. -/
def State.postedBody (s : State) (a : Nat) (tr : Transport) (f : Frame) : State :=
  if inField f.w1.toNat then s.fieldPosted a tr f
  else
    let r := s.writeJudge a f
    if r ≠ R.ok then s.postedRefused a tr f r
    else
      let p := (s.postedAccepted a tr f).putWords a 0 (frameWrites f)
      if p.1 = R.ok then p.2.2.2 else p.2.2.2.postedFail a p.2.2.1 p.1

/-- WRITE_POSTED (R126). -/
def execWritePosted (a : Agent) (t : Transport) (tag : Byte) (fixed ack : Bool) (addr : Word) (data : List Word) (s : State) :
    Res :=
  let f := mkFrame 3 tag.toNat data.length (bit1 fixed + 2 * bit1 ack) addr.toNat data
  .next (s.arrive a t f (fun s => s.postedBody a t f))

/-! ### HEARTBEAT (R143, R144) -/

/-- HEARTBEAT: supervision of a host is armed, or with DISARM disarmed; the reply carries the tick number. -/
def State.heartbeatBody (s : State) (a : Nat) (tr : Transport) (f : Frame) : State :=
  let off := bitAt (wordAt f.payload 0) 0
  let s := if 4 ≤ a then s
    else if off then s.hbDisarm a
    else
      let s := s.modAgent a (fun g => { g with hbSeen := true })
      if !s.flag (F.MGMT_HB_h_ARMED a) && s.linkUp a then
        (s.put (F.MGMT_HB_h_ARMED a) 1).modAgent a (fun g => { g with misses := 0 }) else s
  s.answer a tr f R.ok [w32 s.tick]

/-- HEARTBEAT (R143). -/
def execHeartbeat (a : Agent) (t : Transport) (tag : Byte) (data : List Word) (s : State) : Res :=
  let f := mkFrame 5 tag.toNat data.length 0 0 data
  .next (s.arrive a t f (fun s => s.heartbeatBody a t f))

/-! ### CLAIM, RELEASE, HANDOVER (R131 to R133, R278 to R280) -/

/-- The verdict on one resource of an ownership command. -/
def State.ownJudge (s : State) (a op k : Nat) : Option Nat :=
  if op = 0x20 then s.claimJudge a k else if op = 0x21 then s.releaseJudge a k else s.handoverJudge a k

/-- An ownership command is recorded with its verdict for the next boundary, and stays open until its reply after it
(R133). -/
def State.ownBody (s : State) (a : Nat) (tr : Transport) (f : Frame) : State :=
  let op := frameOp f
  let mask := maskOfWords f.payload
  let res := if op = 0x20 && a = 4 then R.denied else judgeMask mask (s.ownJudge a op)
  (s.openNp a tr (frameTag f) op 0 0).recordOwn a tr (frameTag f) op mask res

/-- CLAIM (R278). -/
def execClaim (a : Agent) (t : Transport) (tag : Byte) (data : List Word) (s : State) : Res :=
  let f := mkFrame 0x20 tag.toNat data.length 0 0 data
  .next (s.arrive a t f (fun s => s.ownBody a t f))

/-- RELEASE (R279). -/
def execRelease (a : Agent) (t : Transport) (tag : Byte) (data : List Word) (s : State) : Res :=
  let f := mkFrame 0x21 tag.toNat data.length 0 0 data
  .next (s.arrive a t f (fun s => s.ownBody a t f))

/-- HANDOVER (R280). -/
def execHandover (a : Agent) (t : Transport) (tag : Byte) (data : List Word) (s : State) : Res :=
  let f := mkFrame 0x22 tag.toNat data.length 0 0 data
  .next (s.arrive a t f (fun s => s.ownBody a t f))

/-! ### Service mode (R134 to R138) -/

/-- An agent may ask for service mode: BOARD, or a host whose receptacle holds a debug accessory (R134). -/
def State.mayService (s : State) (a : Nat) : Bool := a == 4 || s.tcState a == Tc.debug

/-- An agent is locked out (R137). -/
def State.lockedOut (s : State) (a : Nat) : Bool :=
  match (s.agent a).lockout with
  | some t => decide (s.tick < t + 80000)
  | none => false

/-- SERVICE_CHALLENGE: a nonce from the hub's random source (R134, R135, R137). -/
def State.challengeBody (s : State) (a : Nat) (tr : Transport) (f : Frame) : State :=
  if !s.mayService a then s.answer a tr f R.denied []
  else if s.lockedOut a then s.answer a tr f R.busy []
  else
    let n := Config.nonce s.free
    (s.took.modAgent a (fun g => { g with nonce := some (n, s.tick) })).answer a tr f R.ok (bytesWords (toBytesLE 48 n.toNat))

/-- The bytes that a service response signs (R136). -/
def serviceText (n : BitVec 384) (a : Nat) : List Byte :=
  toBytesLE 48 n.toNat ++ (toBytesLE 8 Config.dieId.toNat).reverse ++ [BitVec.ofNat 8 a]

/-- SERVICE_RESPONSE: service mode is granted, refused with AUTH, or with LEN 0 ended (R136 to R138). -/
def State.responseBody (s : State) (a : Nat) (tr : Transport) (f : Frame) : State :=
  if frameLen f = 0 then (s.serviceEnd a).answer a tr f R.ok []
  else match (s.agent a).nonce with
    | none => s.answer a tr f R.denied []
    | some (n, t) =>
      let s := s.modAgent a (fun g => { g with nonce := none })
      if !s.mayService a || decide (t + 8000 ≤ s.tick) then s.answer a tr f R.denied []
      else
        let bs := wordsBytes f.payload
        let key := bs.take 96
        if (s.trustedSlot key).isSome && Config.ecdsaVerify key (Config.sha384 (serviceText n a)) (bs.drop 96) then
          (s.modAgent a (fun g => { g with service := true, fails := 0 })).answer a tr f R.ok []
        else
          let fails := satAdd 4 (s.agent a).fails 1
          (s.modAgent a (fun g => { g with fails := fails, lockout := if 3 ≤ fails then some s.tick else g.lockout })).answer
            a tr f R.auth []

/-- SERVICE_CHALLENGE (R135). -/
def execServiceChallenge (a : Agent) (t : Transport) (tag : Byte) (s : State) : Res :=
  let f := mkFrame 0x40 tag.toNat 0 0 0 []
  .next (s.arrive a t f (fun s => s.challengeBody a t f))

/-- SERVICE_RESPONSE (R136). -/
def execServiceResponse (a : Agent) (t : Transport) (tag : Byte) (data : List Word) (s : State) : Res :=
  let f := mkFrame 0x41 tag.toNat data.length 0 0 data
  .next (s.arrive a t f (fun s => s.responseBody a t f))

/-- NONCE_EXPIRY (R135): 8,000 ticks have passed since the challenge. -/
def execNonceExpiry (a : Agent) (s : State) : Res :=
  .next (match (s.agent a).nonce with
    | some (_, t) => (s.advanceTo ((t + 8000) * 125000)).modAgent a (fun g => { g with nonce := none })
    | none => s)

/-- SERVICE_LOCKOUT_END (R137): 80,000 ticks have passed since the AUTH reply; the count of replies stays. -/
def execServiceLockoutEnd (a : Agent) (s : State) : Res :=
  .next (match (s.agent a).lockout with
    | some t => (s.advanceTo ((t + 80000) * 125000)).modAgent a (fun g => { g with lockout := none })
    | none => s)

/-! ### Frames as they come from the transports -/

/-- What a frame does once R122's checks have passed, by its opcode. -/
def State.frameAct (s : State) (a : Nat) (tr : Transport) (f : Frame) : State :=
  match frameOp f with
  | 0x01 => s.readBody a tr f
  | 0x02 => s.writeBody a tr f
  | 0x03 => s.postedBody a tr f
  | 0x05 => s.heartbeatBody a tr f
  | 0x10 => s.imageBegin a tr f
  | 0x11 => s.imageData a tr f
  | 0x12 => s.imageCommit a tr f
  | 0x13 => s.imagePatch a tr f
  | 0x20 => s.ownBody a tr f
  | 0x21 => s.ownBody a tr f
  | 0x22 => s.ownBody a tr f
  | 0x30 => s.powerEnter a tr f
  | 0x31 => s.powerQuery a tr f
  | 0x40 => s.challengeBody a tr f
  | 0x41 => s.responseBody a tr f
  | _ => s

/-- A whole frame arrives on a transport. -/
def State.frameArrives (s : State) (a : Nat) (tr : Transport) (f : Frame) : State :=
  s.arrive a tr f (fun s => s.frameAct a tr f)

/-- The agent whose held frame the arbiter passes on next: the first in round-robin order from its turn that has one to pass on
(R19). -/
def State.heldTurn (s : State) : Option Nat :=
  ((List.range 5).map (fun i => (s.arb + i) % 5)).find? s.heldReady

/-- EP1's buffer holds a packet (R447). -/
def State.ep1Put (s : State) (h : Nat) (bytes : List Byte) : State :=
  { s with us := { s.us with bufs := vMod s.us.bufs h (fun b => { b with ep1 := bytes }) } }

/-- EP1's buffer is free again once its frame has been passed; it stays full while the arbiter holds the frame (R448). -/
def State.ep1Free (s : State) (h : Nat) : State :=
  if h < 4 && !(s.agent h).held.any (fun x => x.1 == .usb) then s.ep1Put h [] else s

/-- HELD_FRAME_RELEASE (R19): the oldest held frame of an agent is passed on once there is room for it and the agent's turn has
come. -/
def execHeldFrameRelease (a : Agent) (s : State) : Res :=
  .next (match (s.agent a).held with
    | [] => s
    | (tr, f) :: t =>
      if s.heldTurn != some a.val then s
      else ((s.modAgent a (fun g => { g with held := t })).serve a tr f (fun s => s.frameAct a tr f)).ep1Free a)

/-- A malformed frame is discarded without reply and counted (R448, R673). -/
def State.malformed (s : State) (a : Nat) (tr : Transport) : State :=
  match tr with
  | .spi => s.bump F.MGMT_SPI_ERR_COUNT 1
  | .usb => if a < 4 then (s.bump (F.UF_MF_ERR_LEN_ERR a) 1).ufEvt a 4 else s
  | .tunnel _ => s.bump (F.MGMT_LEN_ERR_COUNT a) 1

/-- MALFORMED_FRAME (R673). -/
def execMalformedFrame (a : Agent) (t : Transport) (s : State) : Res :=
  .next (if s.transportShut t then s else s.malformed a t)

/-- FRAME_IN (R120, R121): BOARD delivers one frame over MGMT_SPI; bytes that are no whole frame are discarded. -/
def execFrameIn (bytes : List Byte) (s : State) : Res :=
  .next (if s.transportShut .spi then s
    else match frameOfBytes bytes with
      | some f => s.frameArrives 4 .spi f
      | none => s.malformed 4 .spi)

/-- FRAME_OUT (R120): the oldest queued reply, or a W0 of zero; during a self-test a W0 of zero (R568). In OFF and while a reset
is asserted the port is not driven. -/
def execFrameOut (s : State) : Res :=
  .next (if s.transportShut .spi then (if s.img.phase == .testing && s.power != 4 then s.emit (.spi [0]) else s)
    else s.spiLeaves)

/-- A FRAME_IN would be accepted now: nothing of BOARD is held and a reply has room (R19, R121). -/
def State.spiReady (s : State) : Bool :=
  s.awake && (s.agent 4).held.isEmpty && !s.turnBefore 4 && decide (s.spiQ.length < 8) && decide ((s.agent 4).openCmds.length < 128)
    && decide (s.npChip < 512)

/-- READ_STATUS (R120); zero during a self-test (R568). -/
def execReadStatus (s : State) : Res :=
  .next (if s.transportShut .spi then (if s.img.phase == .testing && s.power != 4 then s.emit (.spi [0]) else s)
    else (s.emit (.spi [w32 (s.statusWord 4 R.ok + 2 ^ 16 * s.spiQueued + 2 ^ 24 * bit1 s.spiReady)])).statusSent 4)

/-- NP_TIMEOUT (R127): a READ, WRITE or field-window command has had no completion for MGMT_NP_TIMEOUT ticks; its reply carries no
data word (DESIGN CHOICE, log entry 135). -/
def execNpTimeout (a : Agent) (tag : Byte) (s : State) : Res :=
  .next (match s.openCmd a tag.toNat with
    | some c =>
      if 3 < c.opcode then s
      else
        let s := s.advanceTo ((c.tick + s.get F.MGMT_NP_TIMEOUT_TICKS) * 125000)
        (s.fieldForget a tag.toNat).complete a tag.toNat R.timeout []
    | none => s)

/-- EP1_PACKET (R448): a bulk OUT packet of a face's management function. -/
def execEp1Packet (h : Hp) (bytes : List Byte) (s : State) : Res :=
  let part := vAt s.us.part h
  let setPart (s : State) (l : List Byte) : State := { s with us := { s.us with part := vPut s.us.part h l } }
  let bs := part ++ bytes
  let need := 8 + 4 * frameWords (w32 (ofBytesLE (bs.take 4)))
  let room := s.bulkSize h
  .next (if !s.mfReady h || s.transportShut .usb then s
    else if (s.agent h).held.any (fun x => x.1 == .usb) then s.mfSays h (if s.faceHigh h then 3 else 4)
    else if bs.isEmpty then s
    else if bs.length < need then
      (if bytes.length < room then (setPart s []).malformed h .usb else setPart s bs)
    else if need < bs.length then (setPart s []).malformed h .usb
    else match frameOfBytes bs with
      | some f => (((setPart s []).ep1Put h bytes).bump (F.UF_MF_COUNT_FRAMES_IN h) 1 |>.frameArrives h .usb f).ep1Free h
      | none => setPart s [])

end Sys2Proof.Machine
end

