-- ==== Sys2Proof/Machine/Receive.lean ====
section
/-! DEFINITION. Machine/Receive.lean: a packet received from a host (R221, R233 to R240, R264 to R267, R272, R287, R321, R322),
and each point at which a stream can send (R299, R306, R307): the DOWN delivery of packets to their blocks, frames assembled
(R119, R409, R461, R673). -/
namespace Sys2Proof.Machine

/-! ### Messages (R264, R265) -/

/-- No message is being assembled. -/
def noAssembly : Assembly := ⟨false, 0, false, []⟩

/-- What is being assembled on tunnel `n` of host `h`. -/
def State.asmOf (s : State) (h n : Nat) : Assembly :=
  (((s.link h).asm.find? (fun x => x.1 == n)).map (·.2)).getD noAssembly

/-- The assembly on tunnel `n` of host `h` changes. -/
def State.setAsm (s : State) (h n : Nat) (m : Assembly) : State :=
  s.modLink h (fun l =>
    let rest := l.asm.filter (fun x => x.1 != n)
    { l with asm := if m == noAssembly then rest else (n, m) :: rest })

/-- The DOWN queue of a tunnel (R300). -/
def State.downQueue (s : State) (h n : Nat) : Nat := 64 * h + vAt (vAt s.bc.downMap h) n % 32

/-- An item of tunnel `n`, and whether it carries LAST. -/
def itemOf (n : Nat) (i : QItem) : Option Bool :=
  match i.body with
  | .cv m _ _ _ last _ _ _ => if m = n then some last else none
  | _ => none

/-- A queue, newest item first, without the newest message of tunnel `n` where its LAST is not there yet, and the items taken
out. -/
def cutMessage (n : Nat) : List QItem → List QItem × List QItem
  | [] => ([], [])
  | i :: t =>
    match itemOf n i with
    | some true => (i :: t, [])
    | some false =>
      let r := cutMessage n t
      (r.1, i :: r.2)
    | none =>
      let r := cutMessage n t
      (i :: r.1, r.2)

/-- The credits of a packet return to the sender, on a tunnel that takes packets from the host (R239, R272). -/
def State.creditBack (s : State) (h n units : Nat) : State :=
  if s.tunDown h n && s.tunType h n != 15 then s.freeUnits h n units else s

/-- A packet of a message is discarded: the packets accepted before it go with it, and those that follow it up to LAST (R265). -/
def State.loseMessage (s : State) (h n : Nat) (last : Bool) : State :=
  let q := s.downQueue h n
  let cut := cutMessage n (s.queue q).items.reverse
  let head := match (s.queue q).items with
    | i :: _ => (itemOf n i).isSome && !cut.1.any (fun i => (itemOf n i).isSome)
    | [] => false
  let s := if cut.2.isEmpty then s else s.setItems q cut.1.reverse head
  let s := s.creditBack h n ((cut.2.map (fun i => unitsOf i.bytes.length)).sum)
  if cut.1.any (fun i => itemOf n i == some true) then s.setAsm h n { s.asmOf h n with drop := !last }
  else (s.grainLost h n true).setAsm h n { noAssembly with drop := !last }

/-! ### The checks on an accepted packet (R240, R272) -/

/-- Check 1 of R272 and R266: the packet is a bad tunnel packet. -/
def State.badTunnel (s : State) (h : Nat) (p : Packet) : Bool :=
  let n := pktTun p
  decide (6 ≤ pktType p) || s.tunType h n == 15 || s.tunType h n != pktType p || !s.tunDown h n
    || (pktEcho p && !s.tunUp h n)

/-- The packet exceeds the credit that the hub advertised (R240). -/
def State.overCredit (s : State) (h : Nat) (p : Packet) : Bool :=
  let n := pktTun p
  let used := vAt (s.link h).received n % 65536 + unitsOf p.payload.length
  decide (32768 ≤ (s.get (F.CV_TUN_n_CRED_RX_LIMIT h n) + 3 * 65536 - used) % 65536)

/-- Check 2 of R272: LEN, TSF, CLASS, and the kinds and counts of FIELD and TIME packets (R267, R329, R340). -/
def State.badForm (s : State) (h : Nat) (p : Packet) : Bool :=
  let tsf (lo w : Nat) : Nat := bitsOf (pktTsf p) lo w
  decide (1024 < pktLen p) || (match pktType p with
    | 0 => tsf 11 12 != 0 || decide (4 < tsf 8 3)
    | 1 => tsf 17 2 == 3
    | 2 => tsf 2 21 != 0 || tsf 0 2 == 3 || tsf 0 2 != bitsOf (s.tunW0 h (pktTun p)) 9 2
    | 3 => tsf 16 7 != 0 || decide (8 < tsf 0 4)
    | 4 => tsf 18 5 != 0 || (decide (20 ≤ tsf 0 5) && tsf 0 5 != 31) || tsf 5 2 == 3 || decide (4 < tsf 15 3)
        || (!pktEcho p && tsf 5 2 != 0)
    | 5 =>
      let kind := tsf 0 3
      let cnt := tsf 3 8
      tsf 11 12 != 0 || decide (4 ≤ kind) || cnt == 0 || (!pktEcho p && (kind == 1 || kind == 2))
        || (kind == 0 && (decide (64 < cnt) || pktLen p != 16 * cnt))
        || (kind == 3 && (decide (128 < cnt) || pktLen p != 8 * cnt))
    | _ => true)

/-- Check 4 of R272: the TARGET of a DISPLAY or PCIE tunnel is not the host's. -/
def State.notOwned (s : State) (h : Nat) (p : Packet) : Bool :=
  let t := bitsOf (s.tunW0 h (pktTun p)) 6 3
  (pktType p == 1 && !s.owns h t) || (pktType p == 2 && !s.owns h (2 + t))

/-- The counter of the first check of R272 that fails. -/
def State.rxFail (s : State) (h : Nat) (p : Packet) : Option FRef :=
  if s.badTunnel h p || s.badForm h p then some (F.CV_TUN_BADTUN_COUNT h)
  else if pktTun p != 0 && pktGen p != s.get (F.CV_TUN_GEN_GEN h) then some (F.CV_TUN_STALE_COUNT h)
  else if s.notOwned h p then some (F.CV_TUN_NOTOWN_COUNT h)
  else none

/-- A packet is discarded after acceptance: its credits return and the rest of its message goes too (R265, R272). -/
def State.rxDiscard (s : State) (h : Nat) (p : Packet) : State :=
  let s := s.creditBack h (pktTun p) (unitsOf p.payload.length)
  if pktEcho p then s else s.loseMessage h (pktTun p) (pktLast p)

/-- A packet goes back to the host on its tunnel, by the tunnel's QUEUE (R263, R266, log entry 120). -/
def State.rxEcho (s : State) (h : Nat) (p : Packet) : State :=
  let n := pktTun p
  let s := (s.creditBack h n (unitsOf p.payload.length)).bump (F.CV_TUN_ECHO_COUNT h) 1
  s.enqueue (s.upQueue h n false)
    ⟨.cv n (pktType p) (pktTsf p) false (pktLast p) false true none, p.payload, 8 * ceilDiv p.payload.length 8, false, 0⟩

/-- A packet that passed the checks joins its DOWN queue, after the meter of R321; a disabled queue discards it (R312). -/
def State.rxQueue (s : State) (h : Nat) (p : Packet) : State :=
  let n := pktTun p
  let q := s.downQueue h n
  let i : QItem := ⟨.cv n (pktType p) (pktTsf p) (bitAt p.hdr.toNat 37) (pktLast p) (bitAt p.hdr.toNat 39) false none, p.payload,
    8 * ceilDiv p.payload.length 8, false, 0⟩
  let w3 := s.entry q 3
  let r := if bitAt w3 7 then s.police (bitsOf w3 0 7) (s.counted q i) 0 true else (0, s)
  if r.1 = 2 then r.2.rxDiscard h p
  else if !r.2.qEnabled q then (r.2.bump (F.QSTATE_DROPS_V q) 1).rxDiscard h p
  else r.2.enqueue q { i with marked := r.1 == 1 }

/-- A packet accepted under R233 is checked and goes to its block (R240, R265, R272). -/
def State.rxAccept (s : State) (h : Nat) (p : Packet) : State :=
  let n := pktTun p
  let s := if pktGen p = s.get (F.CV_TUN_GEN_GEN h) then s.put (F.CV_TUN_GEN_SEEN h) 1 else s
  let above := !s.badTunnel h p && s.overCredit h p
  let s := s.modLink h (fun l => { l with received := vMod l.received n (· + unitsOf p.payload.length) })
  if above then (s.raise (18 + 8 * h) (F.CV_EVT_PROTOCOL h)).rxDiscard h p
  else match s.rxFail h p with
    | some c => ((s.bump c 1).raise (21 + 8 * h) (F.CV_TUN_EVT_DISCARD h)).rxDiscard h p
    | none =>
      if pktEcho p then s.rxEcho h p
      else if (s.asmOf h n).drop then
        (s.creditBack h n (unitsOf p.payload.length)).setAsm h n { s.asmOf h n with drop := !pktLast p }
      else s.rxQueue h p

/-- A codeword of the DOWN direction is corrected, and its symbols counted, or is uncorrectable, and its pair's last codeword is
marked as it is (R221). -/
def State.cwTaken (s : State) (h : Nat) (c : CwIn) : State :=
  let bad := !cwCorrects c.errors
  let s := s.modLink h (fun l => { l with rx := { l.rx with tailBad :=
    (l.rx.tailBad &&& (15 - 2 ^ c.pair.val)) ||| (if bad then 2 ^ c.pair.val else 0) } })
  if cwCorrects c.errors then s.bump (F.CV_CORR_SYM_COUNT h) c.errors
  else (s.bump (F.CV_UNCORR_COUNT h) 1).raise (18 + 8 * h) (F.CV_EVT_UNCORR h)

/-- What an arrival is: a packet with a block in an uncorrectable codeword, those of the packets before it included on the pairs of
`shared`, where it has a block in the last one, else what its blocks show (R221, R230, R233). -/
def State.arrival (s : State) (h : Nat) (shared : BitVec 4) (cws : List CwIn) (blocks : List Blk) : Arrival × Packet :=
  if (shared.toNat &&& (s.link h).rx.tailBad) != 0 || cws.any (fun c => c.mine && !cwCorrects c.errors) then (.uncorrectable, ⟨0, []⟩)
  else judgeBlks blocks

/-- A packet has arrived, accepted or not: 128 since the last ACK call for one (R235). -/
def State.countArrival (s : State) (h : Nat) : State :=
  let s := s.modLink h (fun l => { l with arrived := l.arrived + 1 })
  if 128 ≤ (s.link h).arrived then s.sendAck h else s

/-- What becomes of an arrival by its SEQ (R233, R235). -/
def State.judgePacket (s : State) (h : Nat) (got : Arrival × Packet) : State :=
  let pkt := got.2
  let x := s.get (F.CV_SEQ_RX_EXPECT h)
  let d := (pktSeq pkt + 4096 - x) % 4096
  match got.1 with
  | .uncorrectable => (s.sendNak h 1).countArrival h
  | .badCrc => ((s.bump (F.CV_CRC_ERR_COUNT h) 1).sendNak h 2).countArrival h
  | .framing => ((s.raise (18 + 8 * h) (F.CV_EVT_PROTOCOL h)).sendNak h 4).countArrival h
  | .good =>
    if 2048 ≤ d then s.sendAck h
    else if d ≠ 0 then (s.sendNak h 3).countArrival h
    else
      let s := s.put (F.CV_SEQ_RX_EXPECT h) (x + 1)
      let now := s.clock.time
      let s := s.modLink h (fun l => { l with unacked := l.unacked + 1, nakFor := none,
                                              oldest := if l.unacked = 0 then now else l.oldest })
      (s.countArrival h).rxAccept h pkt

/-- PACKET_RECEIVE (R221, R230, R233 to R235): the blocks from a PKT_START on, with the codewords decoded since the last arrival;
`shared` names the pairs on which a block of it lies in the codeword that was their last. From BLOCK on codewords count, and a packet
counts while the link is up. -/
def execPacketReceive (h : Hp) (shared : BitVec 4) (cws : List CwIn) (blocks : List Blk) (s : State) : Res :=
  s.onLink h (fun s =>
    if s.cvState h < L.block then s
    else
      let got := s.arrival h shared cws blocks
      let s := cws.foldl (fun s c => s.cwTaken h c) s
      if isUpState (s.cvState h) then s.judgePacket h got else s)

/-! ### Delivery (R119, R299, R409, R461, R673) -/

/-- A whole frame that came on a tunnel; on a FIELD tunnel the TSF names the bus of its ADDRESS (R461). -/
def State.tunnelFrame (s : State) (h n bus : Nat) (f : Frame) : State :=
  let tr : Transport := .tunnel (Fin.ofNat 64 n)
  if s.tunType h n == 4 && inField f.w1.toNat && fieldIx f.w1.toNat != bus && !s.transportShut tr then
    s.serve h tr f (fun s => s.frameRefuse h tr f R.badAddr)
  else s.frameArrives h tr f

/-- A packet of a management frame reaches the arbiter: the frame acts with its LAST packet, unless it is malformed (R119, R264,
R673). -/
def State.framePiece (s : State) (h n part bus : Nat) (last : Bool) (bs : List Byte) : State :=
  let m := s.asmOf h n
  let bad := m.bad || part != m.part || bs.length % 4 != 0 || (!last && bs.length != 1024)
  let all := m.bytes ++ bs
  if !last then s.setAsm h n { m with part := m.part + 1, bad := bad, bytes := all }
  else
    let s := s.setAsm h n { noAssembly with drop := m.drop }
    match (if bad then none else frameOfBytes all) with
    | some f => s.tunnelFrame h n bus f
    | none => s.malformed h (.tunnel (Fin.ofNat 64 n))

/-- A fragment of an Ethernet frame: the frame enters the switch with its LAST fragment (R264, R409). -/
def State.ethPiece (s : State) (h n tsf : Nat) (last : Bool) (bs : List Byte) : State :=
  let m := s.asmOf h n
  let all := m.bytes ++ bs
  if !last then s.setAsm h n { m with bytes := all }
  else (s.setAsm h n { noAssembly with drop := m.drop }).ethFromHost h n (bitsOf tsf 4 3) (bitsOf tsf 8 8) (bitAt tsf 7) all

/-- A packet that the DOWN engine delivers reaches its block (R264, R267, R299). -/
def State.deliver (s : State) (h : Nat) (i : QItem) : State :=
  match i.body with
  | .cv n typ tsf posted last prio _ _ =>
    let s := s.creditBack h n (unitsOf i.bytes.length)
    let t := bitsOf (s.tunW0 h n) 6 3 % 2
    (match typ with
     | 0 => s.framePiece h n (bitsOf tsf 8 3) 31 last i.bytes
     | 1 =>
       if s.unitRuns (9 + t) then s.grainPacket h n ⟨mkHdr n 1 i.bytes.length 0 0 posted last prio false tsf, i.bytes⟩ else s
     | 2 =>
       s.pxArrive h t (bitsOf tsf 0 2) i.bytes
     | 3 => s.ethPiece h n tsf last i.bytes
     | 4 => s.framePiece h n (bitsOf tsf 15 3) (bitsOf tsf 0 5) last i.bytes
     | _ =>
       if bitsOf tsf 0 3 = 0 then s.srDescriptors h n (bytesWords i.bytes)
       else s.srCancels h n (bytesWords i.bytes))
  | _ => s

/-- The block that a DOWN queue's head goes to can take it: a grain message waits where its tunnel has started its count in this
tick (R306, R362). -/
def State.downFits (s : State) (h q : Nat) : Bool :=
  match (s.queue q).items with
  | i :: _ =>
    match i.body with
    | .cv n 1 _ _ _ _ _ _ => s.grainMayStart h n
    | _ => true
  | [] => false

/-- The head of a DOWN queue can be delivered: its block takes it, and as a TLP it passes none that it must not (R306, R395). -/
def State.downSendable (s : State) (h q : Nat) : Bool :=
  s.downFits h q && !s.tlpWaits h (streamQueues (4 + h)) (s.downFits h) q

/-- A free step of host port `h`'s DOWN delivery engine (R299, R307). -/
def State.sendDown (s : State) (h : Nat) : State :=
  if !s.awake then s
  else match s.choose (4 + h) (s.downSendable h) with
    | none => s
    | some (q, reserved, s) =>
      match (s.queue q).items with
      | i :: _ => (s.takeHead q reserved).deliver h i
      | [] => s

/-- SEND_OPPORTUNITY (R307): stream 0 to 3 is the UP direction of a host port, 4 to 7 its DOWN engine, 8 to 15 a switch port,
16 to 35 a field bus. -/
def execSendOpportunity (stream : Fin 36) (s : State) : Res :=
  .next (if stream.val < 4 then s.sendUp stream.val
    else if stream.val < 8 then s.sendDown (stream.val - 4)
    else if stream.val < 16 then s.sendSwitch (stream.val - 8)
    else s.fieldStart (stream.val - 16) true 16)

end Sys2Proof.Machine
end

