-- ==== Sys2Proof/Machine/Tick.lean ====
section
/-! DEFINITION. Machine/Tick.lean: the tick boundary (R31 to R33, R241) with all that falls at one, and the trigger of a link
that is down (R282, R401). -/
namespace Sys2Proof.Machine

/-- A host whose link failed over at this boundary loses its load session, unless its checks have passed (R92). -/
def State.sessionFailover (s : State) (changes : List OwnChange) : State :=
  match s.img.session with
  | some x =>
    if changes.any (fun c => c.old == x.agent && s.get (F.OWN_k_LAST_CAUSE c.k) == 4) then s.sessionAbort else s
  | none => s

/-- Step 5 of R31: TIME_BEACON on the lowest active pair of every active UP direction; OFFSET is the transmitter's delay, which
the spec gives no value (R241). -/
def State.beacons (s : State) : State :=
  s.each (List.range 4) (fun s h =>
    if isUpState (s.cvState h) && (s.link h).parked.isNone then
      (s.sendBeacon h (BT.beacon + 2 ^ 8 * (s.tick % 2 ^ 44) + 2 ^ 52 * s.freeVal 12)).took
    else s)

/-- The widths that shedding goes by, DOWN and UP of each port, follow the stripes (R256, R319). -/
def State.shedWidths (s : State) : State :=
  let w : Vector Nat 8 := Vector.ofFn (fun i =>
    width4 (if i.val % 2 = 1 then s.upMask (i.val / 2) else s.downMask (i.val / 2)))
  if w == s.bc.width then s
  else ({ s with bc := { s.bc with width := w } } : State).each (List.range 256) State.relist

/-- Steps 1 to 3 of R31: ownership, bank selection, and commits or a full image. -/
def State.boundaryCommits (s : State) : State :=
  let (changes, s) := s.ownStep
  let s := s.sessionFailover changes
  let s := changes.foldl State.ownerHook s
  let s := s.bankSelect changes
  match s.img.pend with
  | some p => s.applyImage p
  | none => s.commitStep changes

/-- A tick boundary of the main die while it runs: R31, the replies and what each block does at a boundary. -/
def State.boundary (s : State) : State :=
  let s := (s.each (List.range 2) State.pxTick).boundaryCommits
  let s := (s.each (List.range 4) State.turnBoundary).beacons
  let s := s.ownReplies
  let s := if s.inForce then s.refRamp else s
  let s := s.todStep.bridgeTick.grainTick
  let s := s.adaptAll.shedWidths.overflowFile
  s.powerTick

/-- TIME reaches the next boundary. What is due until then has fired on the state before it (R33), and lines that were to move by
then have moved (R335). -/
def State.reachBoundary (s : State) : State :=
  let b := s.nextBoundary
  let s := (s.iff s.awake (fun s => s.fireUpTo b)).advanceTo b
  s.settleLines.modClock (fun c => { c with bound := c.time / 125000 })

/-- The boundary of the main die: TIME reaches it, and awake the hub carries out its steps. In SLEEP boundaries pass with no commits
and no change of ownership (R31, R581). -/
def State.passBoundary (s : State) : State :=
  if s.counting then s.reachBoundary.iff s.awake State.boundary else s

/-- A tick of the PDA domain: power delivery, e-fuses and shedding go by the Hamada die's own count of ticks, which runs whether or not
the main die does (R10, log entry 146). -/
def State.hamadaTick (s : State) (meas : List EfMeas) : State :=
  ((({ s with rails := { s.rails with hamada := s.rails.hamada + 1 } } : State).tcTick).efTicks meas).shedTick

/-- TICK_BOUNDARY (R31): the next boundary with its steps. `meas` holds the Hamada die's measurements of channels 0 to 7 in the
tick that ends: the PDA domain's ticks go on without the main die, but not in OFF (R10, R575). -/
def execTickBoundary (meas : List EfMeas) (s : State) : Res :=
  .next (s.passBoundary.pda (fun s => s.hamadaTick meas))

/-- A cycle of the TIME domain with no command: TIME moves on by 4 ns (R34); at a boundary whose steps are still to come they are
carried out (R31, log entry 1). -/
def State.idle (s : State) : State :=
  if s.counting && s.clock.time == s.nextBoundary then s.passBoundary.pda (fun s => s.hamadaTick [])
  else s.advanceTo (s.clock.time + 4)

/-- A host's link has been out of the up states for more than 4 µs: its PCI Express ports are contained with cause 2, after
what they hold has gone to the drives (R401, R403). -/
def State.linkAbsent (s : State) (h : Nat) : State :=
  s.each (List.range 2) (fun s p => if s.owns h (2 + p) then (s.pxDrain h p).pxContain p 2 else s)

/-- LINK_DOWN_TRIGGER (R249, R282, R401, R672): the owner's link has been out of the up states for more than 4 us that count. -/
def execLinkDownTrigger (h : Hp) (s : State) : Res :=
  .next (match (s.link h).downSince with
    | some t =>
      if s.linkUp h || (vAt s.own.watch h).isSome || !s.inForce then s
      else
        let s := s.advanceTo (t + 4004)
        let s := s.iff (!vAt s.own.linkTrig h) (fun s => s.linkAbsent h)
        (s.modOwn (fun o => { o with linkTrig := vPut o.linkTrig h true })).recordTrigger h false
    | none => s)

end Sys2Proof.Machine
end

