-- ==== Sys2Proof/Machine/UsbDescr.lean ====
section
/-! DEFINITION. Machine/UsbDescr.lean: EP0 of each face's hub device and of its management function: the descriptors (R446, R447), the
standard and hub-class requests, and GET_REPORT (R451). The layouts of the descriptors and the effects of the standard requests are those of
USB 2.0 (PRESUMED, log entries 124 and 158). -/
namespace Sys2Proof.Machine

/-- Bytes of a descriptor. -/
def usbBytes (l : List Nat) : List Byte := l.map (BitVec.ofNat 8)

/-- A 16-bit field of a descriptor. -/
def usb16 (n : Nat) : List Nat := [n % 256, n / 256 % 256]

/-- The device descriptor (R446). -/
def State.deviceDescr (s : State) (h : Nat) (d : UsbDev) : List Byte :=
  let cls := match d with
    | .function => [0, 0, 0]
    | .hub => [9, 0, if s.faceHigh h then 2 else 0]
  usbBytes ([18, 1] ++ usb16 0x0210 ++ cls ++ [64] ++ usb16 (s.get (F.PX_IDS_VENDOR 0))
    ++ usb16 (match d with
      | .function => 0x9642
      | .hub => 0x9640)
    ++ usb16 (0x0100 + Config.revMain.toNat) ++ [1, 2, 3, 1])

/-- The BOS with its USB 2.0 Extension descriptor (R446). -/
def bosDescr : List Byte := usbBytes [5, 15, 12, 0, 1, 7, 16, 2, 6, 0, 0, 0]

/-- A character as a string descriptor holds it. -/
def usbChar (c : Char) : List Nat := usb16 c.toNat

/-- A string descriptor. -/
def stringDescr (t : List Char) : List Byte := usbBytes ([2 + 2 * t.length, 3] ++ t.flatMap usbChar)

/-- Hex digit `n` in upper case. -/
def hexDigit (n : Nat) : Char := Char.ofNat (if n < 10 then 48 + n else 55 + n)

/-- The die identifier as 16 upper-case hex digits (R446). -/
def dieDigits : List Char := (List.range 16).map (fun i => hexDigit (Config.dieId.toNat / 16 ^ (15 - i) % 16))

/-- Strings 1 to 3, and the language table as string 0 (R446). -/
def usbString (h : Nat) (d : UsbDev) (i : Nat) : Option (List Byte) :=
  match i with
  | 0 => some (usbBytes [4, 3, 0x09, 0x04])
  | 1 => some (stringDescr "Zhepol Semiconductor".toList)
  | 2 => some (stringDescr (match d with
    | .function => "Drethaim DT-9640 management".toList
    | .hub => "Drethaim DT-9640 hub".toList))
  | 3 => some (stringDescr (match d with
    | .function => dieDigits
    | .hub => dieDigits ++ ['-', hexDigit h]))
  | _ => none

/-- An endpoint descriptor: address, attributes, wMaxPacketSize, bInterval. -/
def endpointDescr (addr attr size interval : Nat) : List Nat := [7, 5, addr, attr] ++ usb16 size ++ [interval]

/-- The interfaces and endpoints of a configuration (R446, R447). -/
def State.interfaceDescr (s : State) (h : Nat) (d : UsbDev) : List Nat :=
  match d with
  | .function =>
    let bulk := if s.faceHigh h then 512 else 64
    [9, 4, 0, 0, 3, 0xFF, 0x5A, 1, 0] ++ endpointDescr 0x01 2 bulk 0 ++ endpointDescr 0x82 2 bulk 0 ++ endpointDescr 0x83 3 16 1
  | .hub =>
    if s.faceHigh h then
      [9, 4, 0, 0, 1, 9, 0, 1, 0] ++ endpointDescr 0x81 3 2 12 ++ [9, 4, 0, 1, 1, 9, 0, 2, 0] ++ endpointDescr 0x81 3 2 12
    else [9, 4, 0, 0, 1, 9, 0, 0, 0] ++ endpointDescr 0x81 3 2 255

/-- The one configuration: self-powered, remote wake, bMaxPower 0 (R446). -/
def State.configDescr (s : State) (h : Nat) (d : UsbDev) : List Byte :=
  let rest := s.interfaceDescr h d
  usbBytes ([9, 2] ++ usb16 (9 + rest.length) ++ [1, 1, 0, 0xE0, 0] ++ rest)

/-- The hub descriptor: nine ports, port 9 and each port with FIXED not removable (R446). -/
def State.hubDescr (s : State) : List Byte :=
  let fixed := maskOf 10 (fun n => n == 9 || (decide (1 ≤ n) && s.flag (F.DS_CFG_n_FIXED (n - 1))))
  usbBytes ([11, 0x29, 9] ++ usb16 0x000D ++ [s.get F.USB_CFG_PWR2GOOD, 0] ++ usb16 fixed ++ [0xFF, 0xFF])

/-- What a device of face `h` returns to GET_DESCRIPTOR for a type and index; none where it has no such descriptor, and stalls. -/
def State.descriptor (s : State) (h : Nat) (d : UsbDev) (ty ix : Nat) : Option (List Byte) :=
  match ty with
  | 1 => some (s.deviceDescr h d)
  | 2 => if ix = 0 then some (s.configDescr h d) else none
  | 3 => usbString h d ix
  | 15 => some bosDescr
  | 0x29 => match d with
    | .hub => some s.hubDescr
    | .function => none
  | _ => none

/-! ### Requests on EP0 (R435, R446, R451, R452, R455) -/

/-- The STATE field of a device. -/
def devField (h : Nat) : UsbDev → FRef
  | .function => F.UF_STATUS_MF_STATE h
  | .hub => F.UF_STATUS_STATE h

/-- The address field of a device. -/
def devAddr (h : Nat) : UsbDev → FRef
  | .function => F.UF_STATUS_MF_ADDRESS h
  | .hub => F.UF_STATUS_ADDRESS h

/-- A device of face `h` takes control requests: connected, in default, addressed or configured state. -/
def State.ep0Runs (s : State) (h : Nat) (d : UsbDev) : Bool :=
  let st := s.get (devField h d)
  (match d with
    | .function => s.mfConnected h
    | .hub => bitAt (s.get F.USB_STATUS_ATTACHED) h) && decide (1 ≤ st) && decide (st ≤ 3)

/-- Data goes out on EP0 of a device, in packets of 64 bytes; a transfer shorter than asked for ends in a short packet. -/
def State.ep0Send (s : State) (h : Nat) (d : UsbDev) (bytes : List Byte) (len : Nat) : State :=
  let sent := bytes.take len
  let ps := if sent.length = len && len % 64 = 0 then (usbPackets 64 sent).dropLast else usbPackets 64 sent
  match d with
  | .function =>
    ps.foldl (fun s p => s.emit (.usb h 0 p))
      { s with us := { s.us with bufs := vMod s.us.bufs h (fun b => { b with ep0 := ps.getLastD [] }) } }
  | .hub => ps.foldl (fun s p => s.emit (.usb h 4 p)) s

/-- STALL on EP0 of a device. -/
def State.ep0Stall (s : State) (h : Nat) (d : UsbDev) : State :=
  match d with
  | .function => s.mfSays h 5
  | .hub => s.emit (.usbSignal h 5)

/-- The configuration of a device is selected or dropped; a function just configured has no report delivered (R450). -/
def State.configure (s : State) (h : Nat) (d : UsbDev) (on : Bool) : State :=
  if s.get (devField h d) < 2 then s.ep0Stall h d
  else
    let s := s.put (devField h d) (if on then 3 else 2)
    match d with
    | .function => { s with us := { s.us with ep3 := vMod s.us.ep3 h (fun e => { e with last := none }) } }
    | .hub => s.put (F.UF_STATUS_ALT_TT h) 0

/-- A control request on EP0 of a device that takes it. -/
def State.ep0Request (s : State) (h : Nat) : Ep0Req → State
  | .report => s.ep3Send h 0
  | .vendor => s.ep0Stall h .function
  | .descriptor d ty ix len =>
    match s.descriptor h d ty.toNat ix.toNat with
    | some b => s.ep0Send h d b len.toNat
    | none => s.ep0Stall h d
  | .address d a =>
    if s.get (devField h d) = 3 then s
    else (s.put (devAddr h d) a.toNat).put (devField h d) (if a.toNat = 0 then 1 else 2)
  | .configure d on => s.configure h d on
  | .altTt on =>
    if s.get (F.UF_STATUS_STATE h) = 3 && (s.faceHigh h || !on) then s.put (F.UF_STATUS_ALT_TT h) (bit1 on) else s.ep0Stall h .hub
  | .remoteWake d on =>
    { s with us := { s.us with wakeEn := vMod s.us.wakeEn h (fun w => match d with
      | .function => (on, w.2)
      | .hub => (w.1, on)) } }
  | .portStatus n => let v := s.view h n; s.ep0Send h .hub (usbBytes (usb16 v.st ++ usb16 v.chg)) 4
  | .clearChange n i => s.modView h n (fun v => ⟨v.st, clrBits v.chg (2 ^ i.val)⟩)

/-- The device that a request is for. -/
def ep0Dev : Ep0Req → UsbDev
  | .report | .vendor => .function
  | .descriptor d _ _ _ | .address d _ | .configure d _ | .remoteWake d _ => d
  | .altTt _ | .portStatus _ | .clearChange _ _ => .hub

/-- GET_REPORT (R451): a control request completes on EP0: GET_REPORT itself, or one that the command table gives no row (log entry
158). -/
def execGetReport (q : Ep0In) (s : State) : Res :=
  .next (s.iff (s.ep0Runs q.face (ep0Dev q.req)) (fun s => s.ep0Request q.face q.req))

end Sys2Proof.Machine
end

