-- ==== Sys2Proof/Machine/Writes.lean ====
section
/-! DEFINITION. Machine/Writes.lean: the commands that are one write of a register (R99 to R101, R160, R200, R213, R261, R329,
R340, R373 to R384, R432, R445, R455, R470, R472, R491, R500, R519, R531, R539, R540, R549, R573, R574, R583, R610, R636), and
the event storms of R165 to R167. -/
namespace Sys2Proof.Machine

/-! ### Words that reach the hub -/

/-- The hub takes a write of agent `a` now: it is awake and not draining, its image state allows the write, and the agent is
not stale (R128, R130, R584, R588). -/
def State.takesWrite (s : State) (a : Nat) (f : Frame) : Bool :=
  s.awake && (s.img.phase == .applied || s.early a f) && !s.draining && !(s.agent a).stale

/-- Words that agent `a` writes from an address on, as a WRITE does (R123, R124, R636); a write that the hub refuses changes
nothing. -/
def State.wordsArrive (s : State) (a addr : Nat) (ws : List Word) : State :=
  let f := mkFrame 2 1 ws.length 0 addr ws
  if !s.takesWrite a f || inField addr || s.writeJudge a f != R.ok then s
  else (s.putWords a 0 (frameWrites f)).2.2.2

/-- The word that changes one field of a register and writes every other RW field with the value that agent `a` has staged or
that is in force, and every other bit with 0. -/
def State.wordWith (s : State) (a addr lsb width v : Nat) : Nat :=
  match wregAt addr with
  | none => v * 2 ^ lsb
  | some r =>
    let w := r.fields.foldl (fun x w =>
      if w.acc == .rw then
        withBits x w.lsb w.width (if w.cls == .tick then s.stagedOr a (r.fref a w) else s.get (r.fref a w))
      else x) 0
    withBits w lsb width v

/-- Agent `a` writes one field of the register at an address. -/
def State.fieldArrives (s : State) (a addr lsb width v : Nat) : State :=
  s.wordsArrive a addr [w32 (s.wordWith a addr lsb width v)]

/-- REGISTER_WRITE (R636). -/
def execRegisterWrite (a : Agent) (addr : Word) (v : Word) (s : State) : Res := .next (s.wordsArrive a addr.toNat [v])

/-! ### Tick commits (R100, R101) -/

/-- TICK_COMMIT (R100): a write of TICK_COMMIT.COMMIT. -/
def execTickCommit (a : Agent) (s : State) : Res := .next (s.wordsArrive a 0x20100 [1])

/-- TICK_DISCARD (R101): a write of TICK_COMMIT.DISCARD. -/
def execTickDiscard (a : Agent) (s : State) : Res := .next (s.wordsArrive a 0x20100 [2])

/-! ### Events (R160, R165 to R167) -/

/-- FEVT_CLASS_WRITE (R160). -/
def execFevtClassWrite (a : Agent) (n : Fin 8) (v : Word) (s : State) : Res := .next (s.wordsArrive a (0x300A0 + 4 * n) [v])

/-- Source `n` is routed to agent `a` and not masked in the bank it is in (R165). -/
def State.stormHits (s : State) (a n : Nat) : Bool :=
  s.routed n a && !bitAt (if bitAt (s.get (F.FEVT_CLASS_n_FAST a (n / 32))) (n % 32) then s.get (F.FEVT_MASK_n_MASK a (n / 32))
    else s.get (F.EVT_MASK_n_MASK a (n / 32))) (n % 32)

/-- The auto-mask of source `n` for agent `a` (R165): mask bit, EVT_STORM bit, ring entry. -/
def State.stormMask (s : State) (a n : Nat) : State :=
  let s := if bitAt (s.get (F.FEVT_CLASS_n_FAST a (n / 32))) (n % 32) then s.setBit (F.FEVT_MASK_n_MASK a (n / 32)) (n % 32)
    else s.setBit (F.EVT_MASK_n_MASK a (n / 32)) (n % 32)
  ((s.setBit (F.EVT_STORM_n_STORM a (n / 32)) (n % 32)).bump F.EVT_STORM_COUNT_COUNT 1).logOp a 0 5 36 n

/-- EVT_STORM_AUTOMASK (R165): the auto-mask that fell due at the rise that exceeded LIMIT. -/
def execEvtStormAutomask (src : Fin 256) (s : State) : Res :=
  .next (if s.router.due.contains src.val then
      ({ s with router := { s.router with due := s.router.due.filter (· != src.val) } } : State).each (List.range 5)
        (fun t a => t.iff (s.stormHits a src) (fun t => t.stormMask a src))
    else s)

/-- STORM_WINDOW_START (R165): at a boundary whose tick number is a multiple of WINDOW the rise counts start again. -/
def execStormWindowStart (s : State) : Res :=
  .next (if s.clock.time % 125000 == 0 && s.tick % s.get F.EVT_STORM_CFG_WINDOW == 0 then s.stormWindow else s)

/-! ### Links and lanes (R200, R213, R261) -/

/-- CV_RETRAIN (R261). -/
def execCvRetrain (a : Agent) (h : Hp) (s : State) : Res := .next (s.fieldArrives a (A.CV_CTRL h) 1 1 1)

/-- FORCE_SPARE_PLL (R213). -/
def execForceSparePll (a : Agent) (g : Fin 9) (s : State) : Res := .next (s.fieldArrives a (A.LG_SERVICE g) 0 1 1)

/-- FORCE_SLICE (R213). -/
def execForceSlice (a : Agent) (g : Fin 9) (l : Fin 4) (s : State) : Res :=
  .next (s.fieldArrives a (A.LG_SERVICE g) 1 4 (2 ^ l.val))

/-- LN_EYE_START (R200). -/
def execLnEyeStart (a : Agent) (g : Fin 9) (l : Fin 4) (s : State) : Res := .next (s.fieldArrives a (A.LN_EYE_CTRL g l) 0 1 1)

/-! ### Launches (R329, R340) -/

/-- SR_SUBMIT (R329): a WRITE of all four words. -/
def execSrSubmit (a : Agent) (w0 w1 w2 w3 : Word) (s : State) : Res :=
  .next (s.wordsArrive a (A.SR_SUBMIT_W 0) [w0, w1, w2, w3])

/-- SR_CANCEL (R340): a WRITE of both words. -/
def execSrCancel (a : Agent) (w0 w1 : Word) (s : State) : Res := .next (s.wordsArrive a (A.SR_CANCEL_W 0) [w0, w1])

/-! ### Display heads (R373 to R384) -/

/-- HEAD_ENABLE (R373). -/
def execHeadEnable (a : Agent) (x : Fin 2) (on : Bool) (s : State) : Res :=
  .next (s.fieldArrives a (A.HD_CTRL x) 0 1 (bit1 on))

/-- HD_COMMIT (R374). -/
def execHdCommit (a : Agent) (x : Fin 2) (s : State) : Res := .next (s.fieldArrives a (A.HD_COMMIT x) 0 1 1)

/-- HD_CANCEL (R377). -/
def execHdCancel (a : Agent) (x : Fin 2) (s : State) : Res := .next (s.fieldArrives a (A.HD_COMMIT x) 1 1 1)

/-- DP_RETRAIN (R383). -/
def execDpRetrain (a : Agent) (x : Fin 2) (s : State) : Res := .next (s.fieldArrives a (A.HD_LINK_CFG x) 8 1 1)

/-- AUX_START (R384). -/
def execAuxStart (a : Agent) (x : Fin 2) (s : State) : Res := .next (s.fieldArrives a (A.HD_AUX_CTRL x) 0 1 1)

/-! ### Switch, USB, field buses (R432, R445, R455, R470, R472) -/

/-- ETH_FDB_FLUSH (R432). -/
def execEthFdbFlush (a : Agent) (v : Word) (s : State) : Res := .next (s.wordsArrive a A.ETH_FDB_FLUSH [v])

/-- DS_POWER_CYCLE (R455). -/
def execDsPowerCycle (a : Agent) (n : Fin 8) (s : State) : Res := .next (s.fieldArrives a (A.DS_CTRL_n n) 0 1 1)

/-- MF_CONNECT_WRITE (R445). -/
def execMfConnectWrite (a : Agent) (h : Hp) (on : Bool) (s : State) : Res :=
  .next (s.fieldArrives a (A.UF_CTRL h) 0 1 (bit1 on))

/-- BUS_DISABLE (R470). -/
def execBusDisable (a : Agent) (b : Fin 20) (s : State) : Res := .next (s.fieldArrives a (A.WD_BUS_CTRL b) 0 1 0)

/-- WD_PERR_POP (R472). -/
def execWdPerrPop (a : Agent) (h : Hp) (s : State) : Res := .next (s.fieldArrives a (A.WD_PERR_POP_h h) 0 1 1)

/-! ### Modules (R491) -/

/-- MODULE_APPROVE (R491). -/
def execModuleApprove (a : Agent) (m : Fin 8) (s : State) : Res := .next (s.fieldArrives a (A.WD_MOD_CTRL m) 0 1 1)

/-- MODULE_REJECT (R491). -/
def execModuleReject (a : Agent) (m : Fin 8) (s : State) : Res := .next (s.fieldArrives a (A.WD_MOD_CTRL m) 1 1 1)

/-- MODULE_RECHECK (R491). -/
def execModuleRecheck (a : Agent) (m : Fin 8) (s : State) : Res := .next (s.fieldArrives a (A.WD_MOD_CTRL m) 2 1 1)

/-! ### Type-C ports (R500, R519, R531) -/

/-- TC_ENABLE (R531). -/
def execTcEnable (a : Agent) (p : Fin 4) (on : Bool) (s : State) : Res := .next (s.fieldArrives a (A.TC_CTRL p) 0 1 (bit1 on))

/-- TC_REARM (R500). -/
def execTcRearm (a : Agent) (p : Fin 4) (s : State) : Res := .next (s.fieldArrives a (A.TC_CTRL p) 1 1 1)

/-- TC_SWAP_PR (R519). -/
def execTcSwapPr (a : Agent) (p : Fin 4) (s : State) : Res := .next (s.fieldArrives a (A.TC_CTRL p) 4 1 1)

/-- TC_SWAP_DR (R519). -/
def execTcSwapDr (a : Agent) (p : Fin 4) (s : State) : Res := .next (s.fieldArrives a (A.TC_CTRL p) 5 1 1)

/-- TC_SWAP_VCONN (R519). -/
def execTcSwapVconn (a : Agent) (p : Fin 4) (s : State) : Res := .next (s.fieldArrives a (A.TC_CTRL p) 6 1 1)

/-- TC_SOFT_RESET (R531). -/
def execTcSoftReset (a : Agent) (p : Fin 4) (s : State) : Res := .next (s.fieldArrives a (A.TC_CTRL p) 7 1 1)

/-- TC_HARD_RESET (R531). -/
def execTcHardReset (a : Agent) (p : Fin 4) (s : State) : Res := .next (s.fieldArrives a (A.TC_CTRL p) 8 1 1)

/-! ### E-fuse channels (R539, R540, R549) -/

/-- EF_ENABLE (R540). -/
def execEfEnable (a : Agent) (c : Fin 8) (on : Bool) (s : State) : Res := .next (s.fieldArrives a (A.EF_CTRL c) 0 1 (bit1 on))

/-- EF_CTRL_ON (R539). -/
def execEfCtrlOn (a : Agent) (c : Fin 8) (on : Bool) (s : State) : Res := .next (s.fieldArrives a (A.EF_CTRL c) 1 1 (bit1 on))

/-- EF_CLEAR (R549). -/
def execEfClear (a : Agent) (c : Fin 8) (s : State) : Res := .next (s.fieldArrives a (A.EF_CTRL c) 2 1 1)

/-! ### Isolation, power, error logs (R573, R574, R583, R610) -/

/-- ISO_ISOLATE (R574). -/
def execIsoIsolate (a : Agent) (u : Fin 24) (s : State) : Res := .next (s.fieldArrives a (A.ISO_u u) 8 1 1)

/-- ISO_RESTART (R573). -/
def execIsoRestart (a : Agent) (u : Fin 24) (s : State) : Res := .next (s.fieldArrives a (A.ISO_u u) 9 1 1)

/-- PWR_STAY_WRITE (R583). -/
def execPwrStayWrite (a : Agent) (on : Bool) (s : State) : Res := .next (s.fieldArrives a A.PWR_STAY 0 1 (bit1 on))

/-- ERR_FIRST_ACK (R610). -/
def execErrFirstAck (a : Agent) (s : State) : Res := .next (s.wordsArrive a 0xC00010 [1])

/-- ERR_RING_POP (R610). -/
def execErrRingPop (a : Agent) (s : State) : Res := .next (s.wordsArrive a 0xC00030 [1])

end Sys2Proof.Machine
end

