-- ==== Sys2Proof/Machine/Dispatch.lean ====
section
/-! DEFINITION. Machine/Dispatch.lean: the one match over all commands. Every arm is one direct call of the command's
meaning. -/
namespace Sys2Proof.Machine

/-- The effect of a command on everything but the queue. -/
def exec (i : Instr) (s : State) : Host.Outcome State Fault Refusal :=
  match i with
  | .tickBoundary meas => Sys2Proof.Machine.execTickBoundary meas s
  | .wheelSlot slot => Sys2Proof.Machine.execWheelSlot slot s
  | .sidebandPoll m prevOpen lines piece => Sys2Proof.Machine.execSidebandPoll m prevOpen lines piece s
  | .pdKeepalive p prevOpen => Sys2Proof.Machine.execPdKeepalive p prevOpen s
  | .efuseThermal c prevOpen => Sys2Proof.Machine.execEfuseThermal c prevOpen s
  | .eyeSample lane prevOpen errors => Sys2Proof.Machine.execEyeSample lane prevOpen errors s
  | .queueStats set prevOpen => Sys2Proof.Machine.execQueueStats set prevOpen s
  | .heartbeatChore prevOpen => Sys2Proof.Machine.execHeartbeatChore prevOpen s
  | .discServo prevOpen => Sys2Proof.Machine.execDiscServo prevOpen s
  | .wearSample m prevOpen sample slices => Sys2Proof.Machine.execWearSample m prevOpen sample slices s
  | .refPllLock => Sys2Proof.Machine.execRefPllLock s
  | .refPllLockLoss => Sys2Proof.Machine.execRefPllLockLoss s
  | .xtalAStopped => Sys2Proof.Machine.execXtalAStopped s
  | .xtalCompare ppm => Sys2Proof.Machine.execXtalCompare ppm s
  | .timeLoRead a => Sys2Proof.Machine.execTimeLoRead a s
  | .dieBridgeWordFail dir again => Sys2Proof.Machine.execDieBridgeWordFail dir again s
  | .hostTimeBeacon h block => Sys2Proof.Machine.execHostTimeBeacon h block s
  | .selfTestEnd => Sys2Proof.Machine.execSelfTestEnd s
  | .flashReady => Sys2Proof.Machine.execFlashReady s
  | .bootSlotChecked => Sys2Proof.Machine.execBootSlotChecked s
  | .imageBegin a t tag addr data => Sys2Proof.Machine.execImageBegin a t tag addr data s
  | .imageData a t tag addr data => Sys2Proof.Machine.execImageData a t tag addr data s
  | .imageCommit a t tag addr data => Sys2Proof.Machine.execImageCommit a t tag addr data s
  | .imageCheckDone => Sys2Proof.Machine.execImageCheckDone s
  | .imagePatch a t tag addr data => Sys2Proof.Machine.execImagePatch a t tag addr data s
  | .sessionTimeout => Sys2Proof.Machine.execSessionTimeout s
  | .tickCommit a => Sys2Proof.Machine.execTickCommit a s
  | .tickDiscard a => Sys2Proof.Machine.execTickDiscard a s
  | .read a t tag fixed addr len => Sys2Proof.Machine.execRead a t tag fixed addr len s
  | .capRecRead a t tag g => Sys2Proof.Machine.execCapRecRead a t tag g s
  | .write a t tag fixed addr data => Sys2Proof.Machine.execWrite a t tag fixed addr data s
  | .registerWrite a addr v => Sys2Proof.Machine.execRegisterWrite a addr v s
  | .writePosted a t tag fixed ack addr data => Sys2Proof.Machine.execWritePosted a t tag fixed ack addr data s
  | .heartbeat a t tag data => Sys2Proof.Machine.execHeartbeat a t tag data s
  | .claim a t tag data => Sys2Proof.Machine.execClaim a t tag data s
  | .release a t tag data => Sys2Proof.Machine.execRelease a t tag data s
  | .handover a t tag data => Sys2Proof.Machine.execHandover a t tag data s
  | .powerEnter a t tag target => Sys2Proof.Machine.execPowerEnter a t tag target s
  | .powerQuery a t tag => Sys2Proof.Machine.execPowerQuery a t tag s
  | .serviceChallenge a t tag => Sys2Proof.Machine.execServiceChallenge a t tag s
  | .serviceResponse a t tag data => Sys2Proof.Machine.execServiceResponse a t tag data s
  | .nonceExpiry a => Sys2Proof.Machine.execNonceExpiry a s
  | .serviceLockoutEnd a => Sys2Proof.Machine.execServiceLockoutEnd a s
  | .malformedFrame a t => Sys2Proof.Machine.execMalformedFrame a t s
  | .heldFrameRelease a => Sys2Proof.Machine.execHeldFrameRelease a s
  | .frameIn bytes => Sys2Proof.Machine.execFrameIn bytes s
  | .frameOut => Sys2Proof.Machine.execFrameOut s
  | .readStatus => Sys2Proof.Machine.execReadStatus s
  | .npTimeout a tag => Sys2Proof.Machine.execNpTimeout a tag s
  | .statusEcho h => Sys2Proof.Machine.execStatusEcho h s
  | .evtStormAutomask src => Sys2Proof.Machine.execEvtStormAutomask src s
  | .stormWindowStart => Sys2Proof.Machine.execStormWindowStart s
  | .fevtClassWrite a n v => Sys2Proof.Machine.execFevtClassWrite a n v s
  | .mainPllLockLoss g => Sys2Proof.Machine.execMainPllLockLoss g s
  | .sparePllFail g => Sys2Proof.Machine.execSparePllFail g s
  | .pcsSliceParityError g l => Sys2Proof.Machine.execPcsSliceParityError g l s
  | .forceSparePll a g => Sys2Proof.Machine.execForceSparePll a g s
  | .forceSlice a g l => Sys2Proof.Machine.execForceSlice a g l s
  | .lnEyeStart a g l => Sys2Proof.Machine.execLnEyeStart a g l s
  | .eyePointDone g l errors => Sys2Proof.Machine.execEyePointDone g l errors s
  | .qualificationDone g l q => Sys2Proof.Machine.execQualificationDone g l q s
  | .qualRetry g l => Sys2Proof.Machine.execQualRetry g l s
  | .coeffRequest h pair ask => Sys2Proof.Machine.execCoeffRequest h pair ask s
  | .turnIdleDetected h => Sys2Proof.Machine.execTurnIdleDetected h s
  | .turnAbort h => Sys2Proof.Machine.execTurnAbort h s
  | .blockLockAcquired h seen => Sys2Proof.Machine.execBlockLockAcquired h seen s
  | .blockLockLost h seen => Sys2Proof.Machine.execBlockLockLost h seen s
  | .codewordLock h seen => Sys2Proof.Machine.execCodewordLock h seen s
  | .codewordLockLost h seen => Sys2Proof.Machine.execCodewordLockLost h seen s
  | .alignMarker h pair marker => Sys2Proof.Machine.execAlignMarker h pair marker s
  | .packetReceive h shared cws blocks => Sys2Proof.Machine.execPacketReceive h shared cws blocks s
  | .ackNakReceive h block => Sys2Proof.Machine.execAckNakReceive h block s
  | .ackSend run => Sys2Proof.Machine.execAckSend run s
  | .replayTimeout h => Sys2Proof.Machine.execReplayTimeout h s
  | .creditReceive h block => Sys2Proof.Machine.execCreditReceive h block s
  | .creditSend run => Sys2Proof.Machine.execCreditSend run s
  | .controlBlockUnknown h ctl => Sys2Proof.Machine.execControlBlockUnknown h ctl s
  | .speedCap h block => Sys2Proof.Machine.execSpeedCap h block s
  | .speedSel h block => Sys2Proof.Machine.execSpeedSel h block s
  | .eqDone h pair => Sys2Proof.Machine.execEqDone h pair s
  | .latBlock h arrival block => Sys2Proof.Machine.execLatBlock h arrival block s
  | .recoverBlock h pair => Sys2Proof.Machine.execRecoverBlock h pair s
  | .refTimer h => Sys2Proof.Machine.execRefTimer h s
  | .refTimeout h => Sys2Proof.Machine.execRefTimeout h s
  | .speedTimeout h => Sys2Proof.Machine.execSpeedTimeout h s
  | .eqTimeout h => Sys2Proof.Machine.execEqTimeout h s
  | .blockTimeout h => Sys2Proof.Machine.execBlockTimeout h s
  | .fecTimeout h => Sys2Proof.Machine.execFecTimeout h s
  | .recoveryRelock h => Sys2Proof.Machine.execRecoveryRelock h s
  | .recoveryTimeout h => Sys2Proof.Machine.execRecoveryTimeout h s
  | .cvRetrain a h => Sys2Proof.Machine.execCvRetrain a h s
  | .splitEvaluation h => Sys2Proof.Machine.execSplitEvaluation h s
  | .turnAck h block => Sys2Proof.Machine.execTurnAck h block s
  | .turnCancel h => Sys2Proof.Machine.execTurnCancel h s
  | .turnJoin h seen => Sys2Proof.Machine.execTurnJoin h seen s
  | .pairFailed h pair => Sys2Proof.Machine.execPairFailed h pair s
  | .turnDrop h block => Sys2Proof.Machine.execTurnDrop h block s
  | .sendOpportunity stream => Sys2Proof.Machine.execSendOpportunity stream s
  | .launchDescriptors h words => Sys2Proof.Machine.execLaunchDescriptors h words s
  | .srSubmit a w0 w1 w2 w3 => Sys2Proof.Machine.execSrSubmit a w0 w1 w2 w3 s
  | .launchCancel h words => Sys2Proof.Machine.execLaunchCancel h words s
  | .srCancel a w0 w1 => Sys2Proof.Machine.execSrCancel a w0 w1 s
  | .launchFire => Sys2Proof.Machine.execLaunchFire s
  | .linePulseSecondEdge => Sys2Proof.Machine.execLinePulseSecondEdge s
  | .delayCalibration => Sys2Proof.Machine.execDelayCalibration s
  | .captureEdge c rising edge => Sys2Proof.Machine.execCaptureEdge c rising edge s
  | .capturePacket g => Sys2Proof.Machine.execCapturePacket g s
  | .grainPiece h pkt => Sys2Proof.Machine.execGrainPiece h pkt s
  | .hdCommit a x => Sys2Proof.Machine.execHdCommit a x s
  | .coverageCheckDone x => Sys2Proof.Machine.execCoverageCheckDone x s
  | .hdCancel a x => Sys2Proof.Machine.execHdCancel a x s
  | .commitPoint x => Sys2Proof.Machine.execCommitPoint x s
  | .verticalBlanking x => Sys2Proof.Machine.execVerticalBlanking x s
  | .headEnable a x on => Sys2Proof.Machine.execHeadEnable a x on s
  | .hpdHigh x dpcd => Sys2Proof.Machine.execHpdHigh x dpcd s
  | .hpdLow x => Sys2Proof.Machine.execHpdLow x s
  | .irqHpd x lost => Sys2Proof.Machine.execIrqHpd x lost s
  | .crWait x done adjust => Sys2Proof.Machine.execCrWait x done adjust s
  | .eqWait x crOk eqOk => Sys2Proof.Machine.execEqWait x crOk eqOk s
  | .dpRetrain a x => Sys2Proof.Machine.execDpRetrain a x s
  | .auxStart a x => Sys2Proof.Machine.execAuxStart a x s
  | .auxReply x kind data => Sys2Proof.Machine.execAuxReply x kind data s
  | .downstreamTlp h p cls tlp => Sys2Proof.Machine.execDownstreamTlp h p cls tlp s
  | .upstreamTlp p tlp => Sys2Proof.Machine.execUpstreamTlp p tlp s
  | .surpriseRemoval p => Sys2Proof.Machine.execSurpriseRemoval p s
  | .dpcTrigger p fatal source => Sys2Proof.Machine.execDpcTrigger p fatal source s
  | .portResetComplete p speed width => Sys2Proof.Machine.execPortResetComplete p speed width s
  | .resetDeadlineExpiry p => Sys2Proof.Machine.execResetDeadlineExpiry p s
  | .perstRelease p => Sys2Proof.Machine.execPerstRelease p s
  | .clkreqChange p high => Sys2Proof.Machine.execClkreqChange p high s
  | .linkDownTrigger h => Sys2Proof.Machine.execLinkDownTrigger h s
  | .watchInstant h => Sys2Proof.Machine.execWatchInstant h s
  | .ethFrameReceive q frame fcsOk tunnel tsReq tsId tc => Sys2Proof.Machine.execEthFrameReceive q frame fcsOk tunnel tsReq tsId tc s
  | .fdbAgeOut => Sys2Proof.Machine.execFdbAgeOut s
  | .ethFdbFlush a v => Sys2Proof.Machine.execEthFdbFlush a v s
  | .gateEntryStart p => Sys2Proof.Machine.execGateEntryStart p s
  | .pdelayExchange p good delay ppb => Sys2Proof.Machine.execPdelayExchange p good delay ppb s
  | .syncReceive p origin correction => Sys2Proof.Machine.execSyncReceive p origin correction s
  | .syncTimeout p => Sys2Proof.Machine.execSyncTimeout p s
  | .ethLinkChange p up => Sys2Proof.Machine.execEthLinkChange p up s
  | .faceAttachChange h => Sys2Proof.Machine.execFaceAttachChange h s
  | .faceBusReset h high => Sys2Proof.Machine.execFaceBusReset h high s
  | .setPortReset h n => Sys2Proof.Machine.execSetPortReset h n s
  | .setPortPower h n => Sys2Proof.Machine.execSetPortPower h n s
  | .clearPortPower h n => Sys2Proof.Machine.execClearPortPower h n s
  | .clearPortEnable h n => Sys2Proof.Machine.execClearPortEnable h n s
  | .setPortSuspend h n => Sys2Proof.Machine.execSetPortSuspend h n s
  | .clearPortSuspend h n => Sys2Proof.Machine.execClearPortSuspend h n s
  | .setPortL1 h n ack => Sys2Proof.Machine.execSetPortL1 h n ack s
  | .portConnectDetect n dev => Sys2Proof.Machine.execPortConnectDetect n dev s
  | .portDisconnect n => Sys2Proof.Machine.execPortDisconnect n s
  | .portResetDone n high => Sys2Proof.Machine.execPortResetDone n high s
  | .portResumeDone n => Sys2Proof.Machine.execPortResumeDone n s
  | .portBabble n => Sys2Proof.Machine.execPortBabble n s
  | .deviceRemoteWake k => Sys2Proof.Machine.execDeviceRemoteWake k s
  | .pwr2goodElapsed n => Sys2Proof.Machine.execPwr2goodElapsed n s
  | .overCurrent n => Sys2Proof.Machine.execOverCurrent n s
  | .overCurrentClear n => Sys2Proof.Machine.execOverCurrentClear n s
  | .ocRetry n => Sys2Proof.Machine.execOcRetry n s
  | .dsPowerCycle a n => Sys2Proof.Machine.execDsPowerCycle a n s
  | .ep1Packet h bytes => Sys2Proof.Machine.execEp1Packet h bytes s
  | .ep2Reply h => Sys2Proof.Machine.execEp2Reply h s
  | .ep3Poll h => Sys2Proof.Machine.execEp3Poll h s
  | .getReport q => Sys2Proof.Machine.execGetReport q s
  | .mfAbort h => Sys2Proof.Machine.execMfAbort h s
  | .lpmL1Request l => Sys2Proof.Machine.execLpmL1Request l s
  | .mfRemoteWake h => Sys2Proof.Machine.execMfRemoteWake h s
  | .mfConnectWrite a h on => Sys2Proof.Machine.execMfConnectWrite a h on s
  | .fieldTransactionStart b => Sys2Proof.Machine.execFieldTransactionStart b s
  | .fieldTransactionEnd b cause done data => Sys2Proof.Machine.execFieldTransactionEnd b cause done data s
  | .keepTimeout b => Sys2Proof.Machine.execKeepTimeout b s
  | .busDisable a b => Sys2Proof.Machine.execBusDisable a b s
  | .canFrameReceive c w0 w1 data => Sys2Proof.Machine.execCanFrameReceive c w0 w1 data s
  | .uartRecordClose u bytes errors => Sys2Proof.Machine.execUartRecordClose u bytes errors s
  | .fieldRxDelivery b => Sys2Proof.Machine.execFieldRxDelivery b s
  | .wdPerrPop a h => Sys2Proof.Machine.execWdPerrPop a h s
  | .moduleApprove a m => Sys2Proof.Machine.execModuleApprove a m s
  | .moduleReject a m => Sys2Proof.Machine.execModuleReject a m s
  | .moduleRecheck a m => Sys2Proof.Machine.execModuleRecheck a m s
  | .drpToggle p => Sys2Proof.Machine.execDrpToggle p s
  | .ccTerminationChange p cc1 cc2 seen => Sys2Proof.Machine.execCcTerminationChange p cc1 cc2 seen s
  | .ccDebounce p rp => Sys2Proof.Machine.execCcDebounce p rp s
  | .tryCcDebounce p cc2 => Sys2Proof.Machine.execTryCcDebounce p cc2 s
  | .drpTryTimeout p => Sys2Proof.Machine.execDrpTryTimeout p s
  | .ccOpen p => Sys2Proof.Machine.execCcOpen p s
  | .vbusLoss p => Sys2Proof.Machine.execVbusLoss p s
  | .accessoryDetach p => Sys2Proof.Machine.execAccessoryDetach p s
  | .errorRecoveryEnd p => Sys2Proof.Machine.execErrorRecoveryEnd p s
  | .tcEnable a p on => Sys2Proof.Machine.execTcEnable a p on s
  | .tcRearm a p => Sys2Proof.Machine.execTcRearm a p s
  | .moistureTest p kohm => Sys2Proof.Machine.execMoistureTest p kohm s
  | .sourceCapabilities p epr objs => Sys2Proof.Machine.execSourceCapabilities p epr objs s
  | .request p rdo => Sys2Proof.Machine.execRequest p rdo s
  | .eprRequest p rdo pdo => Sys2Proof.Machine.execEprRequest p rdo pdo s
  | .accept p => Sys2Proof.Machine.execAccept p s
  | .reject p => Sys2Proof.Machine.execReject p s
  | .wait p => Sys2Proof.Machine.execWait p s
  | .psRdy p => Sys2Proof.Machine.execPsRdy p s
  | .cableIdentityResponse p answered active vdo => Sys2Proof.Machine.execCableIdentityResponse p answered active vdo s
  | .getSourceCap p => Sys2Proof.Machine.execGetSourceCap p s
  | .getSinkCap p => Sys2Proof.Machine.execGetSinkCap p s
  | .sinkCapabilities p objs => Sys2Proof.Machine.execSinkCapabilities p objs s
  | .prSwap p => Sys2Proof.Machine.execPrSwap p s
  | .drSwap p => Sys2Proof.Machine.execDrSwap p s
  | .vconnSwap p => Sys2Proof.Machine.execVconnSwap p s
  | .frSwap p => Sys2Proof.Machine.execFrSwap p s
  | .softReset p => Sys2Proof.Machine.execSoftReset p s
  | .hardResetReceived p => Sys2Proof.Machine.execHardResetReceived p s
  | .eprMode p obj => Sys2Proof.Machine.execEprMode p obj s
  | .eprKeepalive p => Sys2Proof.Machine.execEprKeepalive p s
  | .alert p ado => Sys2Proof.Machine.execAlert p ado s
  | .unsupportedMessage m => Sys2Proof.Machine.execUnsupportedMessage m s
  | .discoverIdentity p => Sys2Proof.Machine.execDiscoverIdentity p s
  | .discoverSvids p => Sys2Proof.Machine.execDiscoverSvids p s
  | .discoverModes p svid => Sys2Proof.Machine.execDiscoverModes p svid s
  | .enterMode p svid mode vdo => Sys2Proof.Machine.execEnterMode p svid mode vdo s
  | .exitMode p svid => Sys2Proof.Machine.execExitMode p svid s
  | .senderResponseTimeout p => Sys2Proof.Machine.execSenderResponseTimeout p s
  | .noResponseTimeout p => Sys2Proof.Machine.execNoResponseTimeout p s
  | .psTransitionTimeout p => Sys2Proof.Machine.execPsTransitionTimeout p s
  | .ppsTimeout p => Sys2Proof.Machine.execPpsTimeout p s
  | .eprKeepaliveTimeout p => Sys2Proof.Machine.execEprKeepaliveTimeout p s
  | .vbusOcp p => Sys2Proof.Machine.execVbusOcp p s
  | .vconnOcp p => Sys2Proof.Machine.execVconnOcp p s
  | .ccOpenInTransition p => Sys2Proof.Machine.execCcOpenInTransition p s
  | .hamadaThermalLimit p => Sys2Proof.Machine.execHamadaThermalLimit p s
  | .localSupplyTrip => Sys2Proof.Machine.execLocalSupplyTrip s
  | .shedEnd => Sys2Proof.Machine.execShedEnd s
  | .systemInputChange localOk => Sys2Proof.Machine.execSystemInputChange localOk s
  | .tcSwapPr a p => Sys2Proof.Machine.execTcSwapPr a p s
  | .tcSwapDr a p => Sys2Proof.Machine.execTcSwapDr a p s
  | .tcSwapVconn a p => Sys2Proof.Machine.execTcSwapVconn a p s
  | .tcSoftReset a p => Sys2Proof.Machine.execTcSoftReset a p s
  | .tcHardReset a p => Sys2Proof.Machine.execTcHardReset a p s
  | .efCtrlOn a c on => Sys2Proof.Machine.execEfCtrlOn a c on s
  | .efClear a c => Sys2Proof.Machine.execEfClear a c s
  | .efEnable a c on => Sys2Proof.Machine.execEfEnable a c on s
  | .insertionDelayEnd c => Sys2Proof.Machine.execInsertionDelayEnd c s
  | .slewEnd c => Sys2Proof.Machine.execSlewEnd c s
  | .shortedBSample c mv => Sys2Proof.Machine.execShortedBSample c mv s
  | .powerGoodAssert c => Sys2Proof.Machine.execPowerGoodAssert c s
  | .pgLost c => Sys2Proof.Machine.execPgLost c s
  | .rampTimeout c fullDrive => Sys2Proof.Machine.execRampTimeout c fullDrive s
  | .gateRiseTimeout c => Sys2Proof.Machine.execGateRiseTimeout c s
  | .limitEpisodeStart c => Sys2Proof.Machine.execLimitEpisodeStart c s
  | .limitEpisodeEnd c => Sys2Proof.Machine.execLimitEpisodeEnd c s
  | .faultTimerExpiry c => Sys2Proof.Machine.execFaultTimerExpiry c s
  | .fastTrip c => Sys2Proof.Machine.execFastTrip c s
  | .vinOvervoltage c => Sys2Proof.Machine.execVinOvervoltage c s
  | .vinUndervoltage c => Sys2Proof.Machine.execVinUndervoltage c s
  | .shortedFetDetect c => Sys2Proof.Machine.execShortedFetDetect c s
  | .degradedFet c => Sys2Proof.Machine.execDegradedFet c s
  | .reverseCurrent c => Sys2Proof.Machine.execReverseCurrent c s
  | .reverseEnd c => Sys2Proof.Machine.execReverseEnd c s
  | .retryDelayEnd c => Sys2Proof.Machine.execRetryDelayEnd c s
  | .retriesClear c => Sys2Proof.Machine.execRetriesClear c s
  | .thermalSelfStep c => Sys2Proof.Machine.execThermalSelfStep c s
  | .coldReset cause => Sys2Proof.Machine.execColdReset cause s
  | .railSequenceFail rail => Sys2Proof.Machine.execRailSequenceFail rail s
  | .warmReset => Sys2Proof.Machine.execWarmReset s
  | .warmResetEnd => Sys2Proof.Machine.execWarmResetEnd s
  | .fatalError unit code => Sys2Proof.Machine.execFatalError unit code s
  | .isoIsolate a u => Sys2Proof.Machine.execIsoIsolate a u s
  | .isoRestart a u => Sys2Proof.Machine.execIsoRestart a u s
  | .isolationExit u => Sys2Proof.Machine.execIsolationExit u s
  | .powerDrainDone => Sys2Proof.Machine.execPowerDrainDone s
  | .powerDrainTimeout => Sys2Proof.Machine.execPowerDrainTimeout s
  | .wake src detail elapsed check unc => Sys2Proof.Machine.execWake src detail elapsed check unc s
  | .pwrStayWrite a on => Sys2Proof.Machine.execPwrStayWrite a on s
  | .failoverSuspendEnd => Sys2Proof.Machine.execFailoverSuspendEnd s
  | .brownOut => Sys2Proof.Machine.execBrownOut s
  | .eccError array row double met => Sys2Proof.Machine.execEccError array row double met s
  | .scrub fixes => Sys2Proof.Machine.execScrub fixes s
  | .rowRepair array row badSpares spares => Sys2Proof.Machine.execRowRepair array row badSpares spares s
  | .wearRecordWrite => Sys2Proof.Machine.execWearRecordWrite s
  | .errRingPop a => Sys2Proof.Machine.execErrRingPop a s
  | .errFirstAck a => Sys2Proof.Machine.execErrFirstAck a s
  | .pairInverted h pair => Sys2Proof.Machine.execPairInverted h pair s
  | .driveInsertion p => Sys2Proof.Machine.execDriveInsertion p s
  | .driveLinkChange p up speed link => Sys2Proof.Machine.execDriveLinkChange p up speed link s
  | .faceSuspend h => Sys2Proof.Machine.execFaceSuspend h s
  | .faceResume h => Sys2Proof.Machine.execFaceResume h s
  | .canStateChange c st => Sys2Proof.Machine.execCanStateChange c st s
  | .frSwapSignal p => Sys2Proof.Machine.execFrSwapSignal p s
  | .vinWithinRange c => Sys2Proof.Machine.execVinWithinRange c s
  | .voutLeavesWindow c => Sys2Proof.Machine.execVoutLeavesWindow c s
  | .voltageTransitionDone p => Sys2Proof.Machine.execVoltageTransitionDone p s
  | .railValid rail => Sys2Proof.Machine.execRailValid rail s
  | .sleepPdKeepalive => Sys2Proof.Machine.execSleepPdKeepalive s

end Sys2Proof.Machine
end

