-- ==== Sys2Proof/Safety.lean ====
section
/-! DEFINITION. Safety.lean: what holds of every state that a run can reach: the stored cells are in their one canonical
form, TIME is a whole number of its units, and an error ring keeps its depth. -/
namespace Sys2Proof.Machine

/-- The stored cells are in canonical form: the registers, the boot flash (erased bytes are not listed), and the pixels
and owner tags of Playa's SRAM. -/
def Memory.wf (s : State) : Bool :=
  cellsWf 0 s.regs && cellsWf 0xFF s.img.flash && cellsWf 0 s.pl.pixels && cellsWf 7 s.pl.tags

/-- The invariant of a run: the cells are canonical, TIME is a multiple of 4 ns (R34), no agent's error ring holds more
than 32 entries (R609), no capture FIFO more than 128 records (R344), no posted-write error log more than 16 entries
(R472), and the forwarding table no more than 4,096 (R416). -/
structure State.Sound (s : State) : Prop where
  cells : Memory.wf s = true
  time : s.clock.time % 4 = 0
  rings : s.logs.all (fun l => decide (l.ring.length ≤ 32)) = true
  caps : s.sr.caps.all (fun f => decide (f.recs.length ≤ 128)) = true
  perr : s.wd.perr.all (fun l => decide (l.length ≤ 16)) = true
  fdb : s.et.fdb.length ≤ 4096

/-- Every register outside a list of addresses reads in `t` as it does in `s`. -/
def State.SameRegs (s t : State) (but : List Nat) : Prop := ∀ g : FRef, g.addr ∉ but → t.get g = s.get g

/-- A frame of agent `a` that arrives on transport `tr` is carried out at once: the transport is open (R568, R575), the hub
is awake (R588), nothing of the agent waits before it, no agent whose turn comes first has a held frame to pass on, there is
room for it (R19), and the checks of R122 pass. -/
structure State.Admits (s : State) (a : Nat) (tr : Transport) (f : Frame) : Prop where
  opened : s.transportShut tr = false
  awake : s.awake = true
  first : (s.agent a).held = []
  turn : s.turnBefore a = false
  room : s.mgmtRoom a tr f = true
  judged : s.frameJudge a tr f = R.ok

/-- The hub takes words that agent `a` writes from an address on: it is awake with an image in force (or the write is one
that R128 allows before), it does not drain, the agent is not stale, and the checks of R123 on the span pass. -/
structure State.TakesWords (s : State) (a addr : Nat) (ws : List Word) : Prop where
  takes : s.takesWrite a (mkFrame 2 1 ws.length 0 addr ws) = true
  outside : inField addr = false
  judged : s.writeJudge a (mkFrame 2 1 ws.length 0 addr ws) = R.ok

/-- The hub takes a word that agent `a` writes to change one field of a register. -/
def State.TakesField (s : State) (a addr lsb width v : Nat) : Prop :=
  s.TakesWords a addr [w32 (s.wordWith a addr lsb width v)]

/-- From `s` to `t` nothing changed but that more went out and that the transmitter of host port `h` moved on (R215 to R231). -/
structure State.SendsOnly (s t : State) (h : Nat) : Prop where
  same : t = { s with out := t.out, links := t.links }
  sent : ∃ l, t.out = l ++ s.out
  link : t.link h = { s.link h with tx := (t.link h).tx }
  others : ∀ k, k % 4 ≠ h % 4 → t.link k = s.link k

end Sys2Proof.Machine
end

