-- ==== Sys2Proof/Certificates/Slice0/Obligations.lean ====
section
/-! DEFINITION. Certificates/Slice0/Obligations.lean: the statements about this model, each one
a proposition; OBLIGATIONS.json says what each one claims and which rules it rests on. -/

open Sys2Proof Sys2Proof.Machine

/-- A step carries out the command at the front of the queue with the queue's rest. Rests on
01_architecture.md, 02_time.md. -/
def Obligations.StepRunsTheFrontCommand : Prop :=
  ∀ (c : Instr) (rest : List Instr) (s : State), s.pending = c :: rest →
    step s = exec c { s with pending := rest }

/-- With nothing queued a step lets TIME count one cycle of 4 ns, or carries out the boundary that
TIME has reached. Rests on R31, R34, R35. -/
def Obligations.EmptyQueueCountsOneCycle : Prop :=
  ∀ s : State, s.Sound → s.pending = [] →
    (s.counting = false → step s = .next s)
    ∧ (s.counting = true → s.clock.time < s.nextBoundary →
      step s = .next { s with clock := { s.clock with time := s.clock.time + 4 } })
    ∧ (s.counting = true → s.clock.time = s.nextBoundary → step s = exec (.tickBoundary []) s)

/-- The state after reset satisfies the invariant. Rests on 18_reset.md, R34, R609, R416. -/
def Obligations.ResetIsSound : Prop := State.reset.Sound

/-- Every step from a sound state leads to a sound state. Rests on R34, R344, R416, R472, R609. -/
def Obligations.EveryStepKeepsTheInvariant : Prop :=
  ∀ s t : State, s.Sound → step s = .next t → t.Sound

/-- No command takes back what OTP holds. Rests on R81, R82, R83. -/
def Obligations.NoCommandUndoesOtp : Prop :=
  ∀ (c : Instr) (s t : State), s.Sound → exec c s = .next t →
    (∀ i, vAt s.img.otp i = none ∨ vAt t.img.otp i = vAt s.img.otp i)
      ∧ s.img.revoked &&& t.img.revoked = s.img.revoked

/-- No command changes the queue of waiting commands, and none stops. Rests on 01_architecture.md. -/
def Obligations.NoCommandTouchesTheQueue : Prop :=
  ∀ (c : Instr) (s : State), s.Sound → ∃ t, exec c s = .next t ∧ t.pending = s.pending

/-- The end of a commit's checks programs a blank slot only in BARE, for an agent in service mode.
Rests on R82, R91. -/
def Obligations.SlotsAreProgrammedOnlyInBare : Prop :=
  ∀ s : State, s.Sound → ∃ t, exec .imageCheckDone s = .next t
    ∧ (∀ i, vAt s.img.otp i ≠ none → vAt t.img.otp i = vAt s.img.otp i)
    ∧ (s.img.phase ≠ .bare ∨ (∀ x, s.img.session = some x → s.inService x.agent = false) → t.img.otp = s.img.otp)

/-- A loss of the REF PLL and a stopped XTAL_A switch the reference to XTAL_B. Rests on R30, R42,
R607, R617, R639. -/
def Obligations.ReferenceSwitches : Prop :=
  ∀ s : State, s.Sound →
    (s.get F.REF_STATUS_ACTIVE = 0 → ∃ t, exec .refPllLockLoss s = .next t
      ∧ t.get F.REF_STATUS_ACTIVE = 1 ∧ t.get F.REF_CTRL_SEL = 1 ∧ t.get F.REF_STATUS_PLL_LOCK = 0
      ∧ t.get F.SYS_STATE_REF_SPARE = 1 ∧ t.get ⟨A.OA_EVT, 4, 1⟩ = 1
      ∧ t = { s with regs := t.regs, router := t.router, logs := t.logs, oa := t.oa }
      ∧ s.SameRegs t [A.REF_STATUS, A.REF_CTRL, A.SYS_STATE, A.OA_EVT, A.OA_NOTICE, A.OA_NOTICE_DETAIL_n 4,
          A.EVT_RISE_s 0, A.EVT_RISE_s 1, A.EVT_RISE_s 2, A.EVT_RISE_s 4])
    ∧ (s.get F.REF_STATUS_ACTIVE = 0 → ∃ t, exec .xtalAStopped s = .next t
      ∧ t.get F.REF_STATUS_ACTIVE = 1 ∧ t.get F.REF_CTRL_SEL = 1 ∧ t.get F.REF_STATUS_XTAL_A_OK = 0
      ∧ t.get F.SYS_STATE_REF_SPARE = 1 ∧ t.get ⟨A.OA_EVT, 4, 1⟩ = 1
      ∧ t = { s with regs := t.regs, router := t.router, logs := t.logs, oa := t.oa }
      ∧ s.SameRegs t [A.REF_STATUS, A.REF_CTRL, A.SYS_STATE, A.OA_EVT, A.OA_NOTICE, A.OA_NOTICE_DETAIL_n 4,
          A.EVT_RISE_s 0, A.EVT_RISE_s 1, A.EVT_RISE_s 2, A.EVT_RISE_s 4])
    ∧ (s.get F.REF_STATUS_ACTIVE = 1 → exec .refPllLockLoss s = .next (s.put F.REF_STATUS_PLL_LOCK 0)
      ∧ exec .xtalAStopped s = .next (s.put F.REF_STATUS_XTAL_A_OK 0))

/-- PLL lock starts TIME, a TIME_LO read latches, a crystal disagreement is reported, a host beacon is
measured. Rests on R35, R37, R43, R49, R51, R59. -/
def Obligations.TimebaseCommands : Prop :=
  ∀ s : State, s.Sound →
    (∃ t, exec .refPllLock s = .next t ∧ t.clock.running = true ∧ t.clock.time = s.clock.time
      ∧ t.get F.REF_STATUS_PLL_LOCK = 1 ∧ t.get F.USB_STATUS_PLL_LOCK = 1
      ∧ t = { s with regs := t.regs, clock := { s.clock with running := true } }
      ∧ s.SameRegs t (A.REF_STATUS :: A.USB_STATUS :: (List.range 9).map A.LG_STATUS))
    ∧ (∀ a : Agent, ∃ t, exec (.timeLoRead a) s = .next t
      ∧ t.get (F.TIME_HI_VALUE a) = s.clock.time / 2 ^ 32 % 2 ^ 32
      ∧ t.get (F.TOD_NS_NS a) = s.todAt s.clock.time % 1000000000
      ∧ t.get (F.TOD_SEC_LO_SEC a) = s.todAt s.clock.time / 1000000000 % 2 ^ 32
      ∧ t.get (F.TOD_SEC_HI_SEC a) = s.todAt s.clock.time / 1000000000 / 2 ^ 32 % 2 ^ 16
      ∧ t = { s with regs := t.regs }
      ∧ s.SameRegs t [A.TIME_HI a, A.TOD_NS a, A.TOD_SEC_LO a, A.TOD_SEC_HI a])
    ∧ (∀ ppm : Int, 250 < ppm.natAbs → ∃ t, exec (.xtalCompare ppm) s = .next t ∧ t.get F.TIME_EVT_XTAL_DISAGREE = 1
      ∧ t.clock = { s.clock with disagree := true } ∧ t = { s with regs := t.regs, router := t.router, clock := t.clock }
      ∧ s.SameRegs t [A.TIME_EVT, A.EVT_RISE_s 8])
    ∧ (∀ ppm : Int, ppm.natAbs ≤ 250 →
      exec (.xtalCompare ppm) s = .next { s with clock := { s.clock with disagree := false } })
    ∧ (∀ (h : Hp) (b : BitVec 64), s.hears h = true → s.discSources.contains (5 + h.val) = true →
      let k := s.tick - (s.tick + 256 - bitsOf b.toNat 8 8) % 256
      let mine : Int := (s.todAt (k * 125000) : Nat)
      let sec := mine / 1000000000 + (((bitsOf b.toNat 16 16 : Nat) : Int) - mine / 1000000000 + 32768) % 65536 - 32768
      let e := sec * 1000000000 + ((bitsOf b.toNat 32 30 : Nat) : Int) - mine
      exec (.hostTimeBeacon h b) s
        = .next { s with clock := { s.clock with phases := vPut s.clock.phases (5 + h.val) (some ⟨e, s.tick⟩) } })

/-- A tick boundary does the five steps of R31 in their order. Rests on R31, R32, R33, R581,
02_time.md. -/
def Obligations.BoundaryOrder : Prop :=
  (∀ (m : List EfMeas) (s : State), s.counting = true → s.awake = true →
    let b := s.reachBoundary.each (List.range 2) State.pxTick
    let r := b.ownStep
    let s1 := r.1.foldl State.ownerHook (r.2.sessionFailover r.1)
    let s2 := s1.bankSelect r.1
    let s3 := match s2.img.pend with
      | some p => s2.applyImage p
      | none => s2.commitStep r.1
    let s4 := s3.each (List.range 4) State.turnBoundary
    let s5 := s4.beacons.ownReplies
    let s6 := if s5.inForce then s5.refRamp else s5
    let s7 := s6.todStep.bridgeTick.grainTick
    let s8 := s7.adaptAll.shedWidths.overflowFile.powerTick
    exec (.tickBoundary m) s = .next (if s8.power = 4 then s8 else s8.hamadaTick m))
  ∧ (∀ (m : List EfMeas) (s : State), s.counting = true → s.awake = false → s.reachBoundary.power ≠ 4 →
    exec (.tickBoundary m) s = .next (s.reachBoundary.hamadaTick m))
  ∧ (∀ s : State, s.counting = true → s.clock.time ≤ s.nextBoundary → s.sr.queue = [] → s.sr.seconds = [] →
    s.reachBoundary.clock.time = (s.clock.bound + 1) * 125000 ∧ s.reachBoundary.clock.bound = s.clock.bound + 1)
  ∧ (∀ (n : Fin 1000) (s : State), s.awake = true → s.counting = true → s.tick = s.clock.bound →
    exec (.wheelSlot n) s = .next (s.advanceTo (s.tick * 125000 + n.val * 125)).wheelDue
      ∧ s.tick * 125000 + n.val * 125 ≤ (s.advanceTo (s.tick * 125000 + n.val * 125)).clock.time)

/-- A chore whose previous run is still open is skipped, counted and reported. Rests on R59, R60, R63. -/
def Obligations.ChoreSkips : Prop :=
  ∀ (c : Instr) (kind arg slot : Nat) (s : State), s.Sound → s.choreDue kind arg = some slot → slot < 1024 →
    ((∃ m l p, c = .sidebandPoll m true l p ∧ kind = 1 ∧ arg = 257 * m.val) ∨ (∃ p, c = .pdKeepalive p true ∧ kind = 2 ∧ arg = p.val)
      ∨ (∃ x, c = .efuseThermal x true ∧ kind = 3 ∧ arg = x.val) ∨ (∃ i e, c = .eyeSample i true e ∧ kind = 4 ∧ arg = i.val)
      ∨ (∃ n, c = .queueStats n true ∧ kind = 5 ∧ arg = n.val) ∨ (c = .heartbeatChore true ∧ kind = 6 ∧ arg = 0)
      ∨ (c = .discServo true ∧ kind = 7 ∧ arg = 0) ∨ (∃ m x g, c = .wearSample m true x g ∧ kind = 8 ∧ arg = m.val)) →
    let u := s.choreTurn slot
    ∃ t, exec c s = .next t
      ∧ t.get F.CHORE_SKIP_COUNT = satAdd 32 (s.get F.CHORE_SKIP_COUNT) 1
      ∧ t.get F.CHORE_LAST_SKIP_KIND = kind ∧ t.get F.CHORE_LAST_SKIP_SLOT = slot ∧ t.get F.TIME_EVT_CHORE_SKIP = 1
      ∧ t = { u with regs := t.regs, router := t.router }
      ∧ s.SameRegs t [A.CHORE_SKIP, A.CHORE_LAST_SKIP, A.TIME_EVT, A.EVT_RISE_s 6]

/-- What a run of each chore does when its previous run has ended. Rests on R60, R63, R142, R144,
R197, R323, R482, R488, R491, R516, R552. -/
def Obligations.ChoreRuns : Prop :=
  ∀ (s : State) (slot : Nat),
    let u := s.choreTurn slot
    (∀ (m : Fin 8) (v : BitVec 8) (p : Option (BitVec 128)), s.choreDue 1 (257 * m.val) = some slot →
      u.mdPolled m = true → u.unitRuns 15 = true → (bitsOf (u.mdCfg m 0) 1 2 ≠ 1 → u.busRuns m = true) →
      (u.fb m).cur = none → (u.fb m).keep = none →
      let gp := bitsOf (u.mdCfg m 0) 1 2 = 1
      let read := if gp then u.mdGroup m v else v
      let u1 := if gp then u.took else u.mdAsk m (bitsOf (u.mdCfg m 1) 0 7) (bitsOf (u.mdCfg m 1) 8 8) 1
      let s1 := u1.mdLines m (read.toNat ^^^ bitsOf (u.mdCfg m 0) 24 8)
      (bitAt (u.mdCfg m 0) 3 = false → exec (.sidebandPoll m false (some v) p) s
          = .next ((s1.setSlot m (fun d => { d with confirm := false })).mdClear m))
        ∧ (bitAt (u.mdCfg m 0) 3 = true → u.mdState m = Md.empty → s1.present m = true → s1.mdState m = Md.empty →
          exec (.sidebandPoll m false (some v) p) s
            = .next (((s1.bump (F.WD_MOD_COUNT_INSERTS m) 1).mdRead m true).mdClear m))
        ∧ (bitAt (u.mdCfg m 0) 3 = true → u.mdState m ≠ Md.reading → s1.present m = false →
          exec (.sidebandPoll m false (some v) p) s
            = .next ((((s1.setSlot m (fun d => { d with confirm := false, ready := false, piece := 0, fails := 0 })).put
                (F.WD_MOD_STATUS_VALID m) 0).mdTo m Md.empty).mdClear m)))
    ∧ (∀ p : Fin 4, s.choreDue 2 p.val = some slot → u.pdOn p = true → u.isSrc p = false → u.hasContract p = true →
      (u.get (F.TC_STATUS_EPR p) = 1 → u.get (F.PD_CONTRACT_TYPE p) = 0 → exec (.pdKeepalive p false) s = .next (u.pdExt p Msg.extControl [3, 0]))
        ∧ (u.get (F.TC_STATUS_EPR p) = 0 → u.get (F.PD_CONTRACT_TYPE p) = 1 ∨ u.get (F.PD_CONTRACT_TYPE p) = 2 →
          (u.tcp p).wait = .nothing →
          (u.tcp p).reqTick + 8000 * bitsOf (u.get (F.TC_CFG_w_V p 1)) 8 4 ≤ u.rails.hamada →
          exec (.pdKeepalive p false) s = .next (u.sendRequest p (u.get (F.PD_RDO_V p)))))
    ∧ (∀ c : Fin 8, s.choreDue 3 c.val = some slot → u.efTopo c ≠ 0 →
      exec (.efuseThermal c false) s
        = .next (((u.modEf c (fun e => { e with stepAt := u.rails.hamada })).put (F.EF_STATUS_SELF_STEP c) 0).efModel c))
    ∧ (∀ (i : Fin 36) (errors : Nat), s.choreDue 4 i.val = some slot → let g := i.val / 4
      let l := i.val % 4
      let e := vAt s.eyes (4 * g + l)
      s.get (F.LN_EYE_RESULT_BUSY g l) = 0 → (g < 4 → u.get (F.LN_STATUS_DIR g l) = 0) → u.rxActive g l = true →
      e.at_ + 1 < 4 * u.eyesOf g l → e.retest = false →
      (errors ≤ u.get (F.LG_DWELL_MAX_ERR g) → exec (.eyeSample i false errors) s = .next { u with
          eyes := vPut s.eyes (4 * g + l) { e with
              at_ := e.at_ + 1, margins := vPut e.margins e.at_ (min (marginMax e.at_) (vAt e.margins e.at_ + 1)) } })
        ∧ (u.get (F.LG_DWELL_MAX_ERR g) < errors → exec (.eyeSample i false errors) s = .next { u with
              eyes := vPut s.eyes (4 * g + l) { e with retest := true } }))
    ∧ (∀ n : Fin 17, s.choreDue 5 n.val = some slot →
      exec (.queueStats n false) s = .next (u.each (statQueues n.val) State.sampleQueue))
    ∧ (s.choreDue 6 0 = some slot → exec (.heartbeatChore false) s = .next (u.each (List.range 4) (fun s h =>
        if (s.heartbeatJudge h).cvState h = L.active then (s.heartbeatJudge h).replyUp h 0 0 5 R.ok 31
          [w32 (s.heartbeatJudge h).tick] else s.heartbeatJudge h)))

/-- What a run of DISC_SERVO does without a source, without a qualified source, and with one. Rests on
R40, R50, R52, R53. -/
def Obligations.DisciplineServo : Prop :=
  ∀ (s : State) (slot : Nat), s.Sound → s.choreDue 7 0 = some slot →
    let u := s.choreTurn slot
    (u.discSources = [] → ∃ t, exec (.discServo false) s = .next t ∧ t.get F.DISC_STATUS_STATE = Disc.free
      ∧ t.get F.DISC_STATUS_ACTIVE_SRC = 0 ∧ t.clock = { u.clock with target := 0, integ := 0 }
      ∧ t = { u with regs := t.regs, router := t.router, clock := t.clock }
      ∧ u.SameRegs t [A.DISC_STATUS, A.TIME_EVT, A.EVT_RISE_s 5])
    ∧ (u.discSources ≠ [] → u.discSources.find? u.discQualified = none → u.get F.DISC_STATUS_STATE ≠ Disc.holdover →
      ∃ t, exec (.discServo false) s = .next t ∧ t.get F.DISC_STATUS_STATE = Disc.holdover
        ∧ t.get F.DISC_STATUS_ACTIVE_SRC = 0
        ∧ t.clock.target = (if 16 ≤ u.clock.targets.length then u.clock.targets.sum / (16 : Int)
            else signedOf 32 (u.get F.REF_ADJ_VALUE))
        ∧ t = { u with regs := t.regs, router := t.router, clock := { u.clock with target := t.clock.target } }
        ∧ u.SameRegs t [A.DISC_STATUS, A.TIME_EVT, A.EVT_RISE_s 5])
    ∧ (∀ (src : Nat) (e : Int) (at_ : Nat), u.discSources.find? u.discQualified = some src →
      vAt u.clock.phases src = some ⟨e, at_⟩ → u.get F.DISC_STATUS_ACTIVE_SRC = src →
      u.get F.DISC_STATUS_STATE = Disc.locked ∨ u.get F.DISC_STATUS_STATE = Disc.acquire →
      let step := u.get F.DISC_STATUS_STATE = Disc.acquire ∧ u.get F.DISC_LIMITS_STEP_US * 1000 < e.natAbs
      ∃ t, exec (.discServo false) s = .next t
        ∧ t.get F.DISC_PHASE_E = toBits 32 (clampSigned 32 e) % 2 ^ 32
        ∧ t.get F.DISC_STATUS_LOCK_RUN
            = (if e.natAbs < u.get F.DISC_LOOP_LOCK_NS then min 255 (u.get F.DISC_STATUS_LOCK_RUN + 1) else 0)
        ∧ (step → t.clock = { u.clock with step := some e, integ := 0 })
        ∧ (¬ step → t.clock.integ = u.clock.integ + e
          ∧ t.clock.target = (e / (2 ^ u.get F.DISC_LOOP_KP_SHIFT : Nat)
              + (u.clock.integ + e) / (2 ^ u.get F.DISC_LOOP_KI_SHIFT : Nat)) * 1100
          ∧ t.clock = { u.clock with integ := t.clock.integ, target := t.clock.target, targets := t.clock.targets })
        ∧ t = { u with regs := t.regs, router := t.router, clock := t.clock }
        ∧ u.SameRegs t [A.DISC_STATUS, A.DISC_PHASE, A.TIME_EVT, A.EVT_RISE_s 5])

/-- What each wear monitor's run does. Rests on R60, R613, R614, R615, R616, R617, R618, R619. -/
def Obligations.WearMonitors : Prop :=
  ∀ (s : State) (slot : Nat) (x : Int) (g : BitVec 9), s.Sound →
    let u := s.choreTurn slot
    (s.choreDue 8 0 = some slot → ∃ t, exec (.wearSample 0 false x g) s = .next t
      ∧ t.get F.OA_TJ_NOW = toBits 12 (clampSigned 12 x) % 2 ^ 12
      ∧ t.get F.OA_TJ_PEAK = toBits 12 (clampSigned 12 (max (signedOf 12 (s.get F.OA_TJ_PEAK)) x)) % 2 ^ 12)
    ∧ (s.choreDue 8 1 = some slot → ∃ t, exec (.wearSample 1 false x g) s = .next t ∧ t.get F.OA_RO_SLOW = min x.toNat 255)
    ∧ (s.choreDue 8 2 = some slot → exec (.wearSample 2 false x g) s = .next (u.each (List.range 8) (fun s c =>
        s.threshold 8 c (decide (s.get F.OA_LIMIT_FET_CYCLES ≤ s.get (F.OA_FET_CYC_c_V c))))))
    ∧ (s.choreDue 8 3 = some slot → exec (.wearSample 3 false x g) s = .next (u.each (List.range 4) (fun s p =>
        let n := s.get (F.TC_COUNT_ATTACHES p)
        let b := s.bump (F.OA_ATTACH_p_V p) (n - vAt s.oa.attSeen p)
        let c : State := { b with oa := { b.oa with attSeen := vPut b.oa.attSeen p n } }
        c.threshold 9 p (decide (9000 ≤ c.get (F.OA_ATTACH_p_V p))))))
    ∧ (s.choreDue 8 4 = some slot → exec (.wearSample 4 false x g) s = .next (u.each (List.range 4) (fun s h =>
        let n := s.get (F.CV_CORR_SYM_COUNT h)
        let old := (vAt s.oa.symSeen h).filter (fun e => decide (e.1 + 8000 ≤ s.tick))
        let young := (vAt s.oa.symSeen h).filter (fun e => decide (s.tick < e.1 + 8000))
        let b : State := { s with oa := { s.oa with symSeen := vPut s.oa.symSeen h ((s.tick, n) :: (young ++ old.take 1)) } }
        b.threshold 10 h (decide (b.get F.OA_LIMIT2_CORR_SYM < n - (old.head?.map (·.2)).getD 0)))))
    ∧ (s.choreDue 8 5 = some slot → exec (.wearSample 5 false x g) s = .next (u.each (List.range 9) (fun s k =>
        s.threshold 11 k ((List.range 4).any (fun l => decide (64 ≤ (vAt s.eyes (4 * k + l)).lowRounds))))))
    ∧ (s.choreDue 8 6 = some slot → exec (.wearSample 6 false x g) s = .next (u.each (List.range 9) (fun s k =>
        if bitAt g.toNat k && s.flag (F.LG_STATUS_SPARE_SLICE_FREE k) then
          (s.put (F.LG_STATUS_SPARE_SLICE_FREE k) 0).notice 2 k else s)))
    ∧ (s.choreDue 8 7 = some slot → exec (.wearSample 7 false x g) s
        = .next (if u.oa.recordAt + 691200000 ≤ u.tick then { u with oa := { u.oa with recordDue := true } } else u))

/-- The self-test's end opens the transports, the flash is read, a slot is applied or passed over.
Rests on R85, R567, R568, R569. -/
def Obligations.BootSteps : Prop :=
  ∀ s : State, s.Sound →
    (s.img.phase = .testing →
      let u := s.modImg (fun i => { i with phase := .loading })
      (s.img.warm = true → exec .selfTestEnd s = .next u.faces)
      ∧ (s.img.warm = false → exec .selfTestEnd s = .next ((Config.testRows s.free).foldl
          (fun s r => s.queueRepair r.1.toNat r.2.toNat) (u.took.wearLoad.wearSlices (s.freeVal 9))).faces))
    ∧ (s.img.phase = .loading → s.img.bootSlot = 0 →
      exec .flashReady s = .next { s with img := { s.img with bootSlot := 1 } })
    ∧ (s.img.phase = .loading → s.img.pend = none →
      (∀ (e : Erg) (key : Nat) (b : Bool), s.img.bootSlot = 1 ∨ s.img.bootSlot = 2 → s.bootJudge.good = some (e, key, b) →
        exec .bootSlotChecked s
          = .next { s with img := { s.img with pend := some ⟨e, 7, .spi, 0, s.img.bootSlot - 1, key, false⟩ } })
      ∧ (s.img.bootSlot = 1 → s.bootJudge.good = none → ∃ t, exec .bootSlotChecked s = .next t
        ∧ t.get F.IMAGE_BOOT_SLOT_A = s.bootJudge.cause % 256 ∧ t.get F.IMAGE_RESULT_CAUSE = s.bootJudge.cause % 256
        ∧ t = { s with regs := t.regs, img := { s.img with bootSlot := 2 } }
        ∧ s.SameRegs t [A.IMAGE_RESULT, A.IMAGE_RESULT_GEN, A.IMAGE_BOOT])
      ∧ (s.img.bootSlot = 2 → s.bootJudge.good = none → ∃ t, exec .bootSlotChecked s = .next t
        ∧ t.get F.IMAGE_BOOT_SLOT_B = s.bootJudge.cause % 256 ∧ t.get F.IMAGE_RESULT_CAUSE = s.bootJudge.cause % 256
        ∧ t = { s with regs := t.regs, img := { s.img with phase := .bare, bootSlot := 0 } }
        ∧ s.SameRegs t [A.IMAGE_RESULT, A.IMAGE_RESULT_GEN, A.IMAGE_BOOT]))

/-- A load session: begun, filled, committed, judged, and closed by its timeout. Rests on R82, R88,
R89, R90, R91, R92. -/
def Obligations.LoadSessions : Prop :=
  ∀ s : State, s.Sound →
    (∀ (a : Agent) (tr : Transport) (tag : Byte) (addr len : Word) (k : Fin 2),
      s.Admits a tr (mkFrame 0x10 tag.toNat 1 0 addr.toNat [len]) → addr.toNat = slotBase k → imageLenOk len.toNat = true →
      s.img.phase = .bare ∨ s.inService a = true ∨ (s.inForce = true ∧ bitAt s.agentsWord (8 + a) = true) →
      s.img.session = none → s.get F.IMAGE_GEN_SOURCE ≠ k + 1 → ∃ t, exec (.imageBegin a tr tag addr [len]) s = .next t
        ∧ t = (((s.passTurn a).sessionSet ⟨a, k, len.toNat, 0, s.tick, none⟩).flashErase (slotBase k / 65536)).reply a tr tag.toNat
            0x10 R.ok []
        ∧ ((s.passTurn a).sessionSet ⟨a, k, len.toNat, 0, s.tick, none⟩).get F.IMAGE_SESSION_OPEN = 1
        ∧ ((s.passTurn a).sessionSet ⟨a, k, len.toNat, 0, s.tick, none⟩).get F.IMAGE_SESSION_AGENT = a)
    ∧ (∀ (a : Agent) (tr : Transport) (tag : Byte) (addr : Word) (data : List Word) (x : Session),
      s.Admits a tr (mkFrame 0x11 tag.toNat data.length 0 addr.toNat data) → s.img.session = some x → x.agent = a →
      x.commit = none → addr.toNat = x.got → x.got + (wordsBytes data).length ≤ x.len →
      exec (.imageData a tr tag addr data) s = .next ((((((s.passTurn a).sessionSet { x with lastTick := s.tick }).each
        (newSectors x.got (wordsBytes data).length) (fun s k => s.flashErase (slotBase x.slot / 65536 + k))).flashProgram
        (slotBase x.slot + x.got) (wordsBytes data)).sessionSet
          { x with got := x.got + (wordsBytes data).length, lastTick := s.tick }).reply a tr tag.toNat 0x11 R.ok []))
    ∧ (∀ (a : Agent) (tr : Transport) (tag : Byte) (x : Session),
      s.Admits a tr (mkFrame 0x12 tag.toNat 0 0 0 []) → s.img.session = some x → x.agent = a → x.commit = none →
      x.got = x.len → exec (.imageCommit a tr tag 0 []) s
        = .next ((((s.passTurn a).sessionSet { x with lastTick := s.tick }).openNp a tr tag.toNat 0x12 0 0).sessionSet
            { x with lastTick := s.tick, commit := some (tr, tag.toNat) }))
    ∧ (∀ (x : Session) (tr : Transport) (tag : Nat), s.img.session = some x → x.commit = some (tr, tag) → s.img.pend = none →
      let v := s.imageJudge (s.flashBytes (slotBase x.slot) x.len) (some x.agent)
      (v.good = none → exec .imageCheckDone s = .next ((s.sessionClose.imageResult v.cause x.agent 1 v.col v.kase v.larger
          v.gen).complete x.agent tag (causeResult v.cause) []))
        ∧ (∀ (e : Erg) (slot : Nat) (enrol : Bool), v.good = some (e, slot, enrol) →
          exec .imageCheckDone s = .next { s with img := { s.img with
              otp := if enrol then vPut s.img.otp slot (some (Config.sha384 (wordsBytes ((findRec e.recs 1 0).elim [] (·.body)))))
                else s.img.otp,
              pend := some ⟨e, x.agent, tr, tag, x.slot, slot, s.inService x.agent⟩ } }))
    ∧ (∀ x : Session, s.img.session = some x → x.commit = none → s.img.pend = none → ∃ t, exec .sessionTimeout s = .next t
        ∧ t = (((s.advanceTo ((x.lastTick + 8000) * 125000)).sessionClose.logOp x.agent R.aborted 2 37 x.got).imageResult
            0x11 x.agent 1 0 0 0 0)
        ∧ t.img = { s.img with session := none } ∧ t.get F.IMAGE_RESULT_CAUSE = 0x11)

/-- READ replies the words of its span as they stand, and only TIME_LO and CAP_REC act. Rests on R116,
R123, R345, R630, R631, R632. -/
def Obligations.RegisterReads : Prop :=
  ∀ s : State, s.Sound →
    (∀ (a : Agent) (tr : Transport) (tag : Byte) (fixed : Bool) (addr : Word) (len : BitVec 12),
      let f := mkFrame 1 tag.toNat len.toNat (bit1 fixed) addr.toNat []
      s.Admits a tr f → inField addr.toNat = false → (s.passTurn a).readJudge a f = R.ok →
      exec (.read a tr tag fixed addr len) s
        = .next ((((s.passTurn a).readWords a (frameAddrs f)).2.capPops f).reply a tr tag.toNat 1 R.ok
            ((s.passTurn a).readWords a (frameAddrs f)).1))
    ∧ (∀ (a : Agent) (tr : Transport) (tag : Byte) (addr : Word),
      s.Admits a tr (mkFrame 1 tag.toNat 1 0 addr.toNat []) → inField addr.toNat = false →
      (s.passTurn a).readJudge a (mkFrame 1 tag.toNat 1 0 addr.toNat []) = R.ok → addr.toNat < 0x80000000 → addr.toNat ≠ A.TIME_LO →
      exec (.read a tr tag false addr 1) s
        = .next ((s.passTurn a).reply a tr tag.toNat 1 R.ok [w32 ((s.passTurn a).readView a addr.toNat)]))
    ∧ (∀ (a : Agent) (tr : Transport) (tag : Byte) (g : Fin 4) (r : Nat × Nat × Nat) (rest : List (Nat × Nat × Nat)),
      s.Admits a tr (mkFrame 1 tag.toNat 4 0 (A.CAP_REC_W g 0) []) →
      (s.passTurn a).readJudge a (mkFrame 1 tag.toNat 4 0 (A.CAP_REC_W g 0) []) = R.ok →
      (vAt s.sr.caps g).recs = r :: rest → s.get (F.CAP_CTRL_g_DELIVERY g) = 1 →
      exec (.capRecRead a tr tag g) s = .next (((s.passTurn a).modCap g (fun c => { c with recs := rest })).reply a tr tag.toNat 1
        R.ok [w32 r.1, w32 r.2.1, w32 r.2.2, w32 0]))

/-- WRITE, WRITE_POSTED and a register write carry out the write of the word that R634 to R636
describe. Rests on R98, R101, R118, R123, R124, R126, R634, R635, R636. -/
def Obligations.RegisterWrites : Prop :=
  ∀ (s : State) (a : Agent) (addr v : Word), s.Sound → inField addr.toNat = false → addr.toNat < 2 ^ 31 →
    let u := s.passTurn a
    let w := u.writeWord a addr.toNat v.toNat
    (∀ r, wregAt addr.toNat = some r → u.written a r v.toNat = [] → w = (R.ok, u))
    ∧ (w.1 ≠ R.ok → wregAt addr.toNat ≠ some .tickCommit →
      w.2 = u ∨ ∃ c, (c = 0x12 ∨ c = 0x13) ∧ w.2 = u.commitResult c a 0 0 0)
    ∧ (∀ (tr : Transport) (tag : Byte), s.Admits a tr (mkFrame 2 tag.toNat 1 0 addr.toNat [v]) →
      u.writeJudge a (mkFrame 2 tag.toNat 1 0 addr.toNat [v]) = R.ok →
      exec (.write a tr tag false addr [v]) s
        = .next (w.2.reply a tr tag.toNat 2 w.1 [w32 (if w.1 = R.ok then 1 else 0)]))
    ∧ (∀ (tr : Transport) (tag : Byte), s.Admits a tr (mkFrame 3 tag.toNat 1 0 addr.toNat [v]) →
      u.writeJudge a (mkFrame 3 tag.toNat 1 0 addr.toNat [v]) = R.ok →
      exec (.writePosted a tr tag false false addr [v]) s
        = .next (if w.1 = R.ok then w.2 else w.2.logOp a w.1 4 36 addr.toNat))
    ∧ (∀ (tr : Transport) (tag : Byte), s.Admits a tr (mkFrame 3 tag.toNat 1 2 addr.toNat [v]) →
      u.writeJudge a (mkFrame 3 tag.toNat 1 2 addr.toNat [v]) = R.ok →
      exec (.writePosted a tr tag false true addr [v]) s = .next
        (let w := (u.reply a tr tag.toNat 3 R.ok []).writeWord a addr.toNat v.toNat
         if w.1 = R.ok then w.2 else w.2.logOp a w.1 4 36 addr.toNat))
    ∧ (s.TakesWords a addr.toNat [v] → exec (.registerWrite a addr v) s = .next (s.writeWord a addr.toNat v.toNat).2)

/-- TICK_COMMIT queues the staging set, TICK_DISCARD empties it, IMAGE_PATCH queues its records, each
for the next boundary. Rests on R97, R99, R100, R101, R106, R107. -/
def Obligations.CommitsAndPatches : Prop :=
  ∀ (s : State) (a : Agent), s.Sound →
    (s.commitPending a = false → s.TakesWords a 0x20100 [1] →
      (s.pendingView.overlay (s.agent a).staged).judgeView = none →
      ∃ t, exec (.tickCommit a) s = .next t ∧ t.img = { s.img with commits := s.img.commits ++ [⟨a, (s.agent a).staged⟩] }
        ∧ t.mgmt = vPut s.mgmt a { s.agent a with staged := [] } ∧ t = { s with img := t.img, mgmt := t.mgmt })
    ∧ (∀ (c col k l : Nat), s.commitPending a = false → s.TakesWords a 0x20100 [1] →
      (s.pendingView.overlay (s.agent a).staged).judgeView = some (c, col, k, l) →
      ∃ t, exec (.tickCommit a) s = .next t ∧ t.get F.IMAGE_RESULT_CAUSE = c % 256
        ∧ t = { s with regs := t.regs } ∧ s.SameRegs t [A.IMAGE_RESULT, A.IMAGE_RESULT_GEN])
    ∧ (s.commitPending a = false → s.TakesWords a 0x20100 [2] →
      exec (.tickDiscard a) s = .next { s with mgmt := vPut s.mgmt a { s.agent a with staged := [] } })
    ∧ (∀ (tr : Transport) (tag : Byte) (addr : Word) (data : List Word) (c col k l gen : Nat) (prs : List Rec),
      s.Admits a tr (mkFrame 0x13 tag.toNat data.length 0 addr.toNat data) →
      (s.passTurn a).patchJudge a data = ((c, col, k, l), gen, prs) →
      (c = 0 → exec (.imagePatch a tr tag addr data) s = .next (((s.passTurn a).openNp a tr tag.toNat 0x13 0 0).modImg (fun i =>
          { i with patches := i.patches ++ [⟨a, tr, tag.toNat, gen, prs⟩] })))
        ∧ (c ≠ 0 → exec (.imagePatch a tr tag addr data) s
          = .next (((s.passTurn a).imageResult c a 2 col k l gen).reply a tr tag.toNat 0x13 (causeResult c) [])))

/-- HEARTBEAT, CLAIM, RELEASE, HANDOVER, POWER_ENTER and POWER_QUERY. Rests on R24, R131, R133, R143,
R278, R279, R280, R582, R592. -/
def Obligations.HeartbeatsAndOwnership : Prop :=
  ∀ (s : State) (a : Agent) (tr : Transport) (tag : Byte), s.Sound →
    let u := s.passTurn a
    let recorded := fun (op : Nat) (data : List Word) (res : Nat) =>
      (u.openNp a tr tag.toNat op 0 0).modOwn (fun o => { o with
        reqs := o.reqs ++ [⟨a, tr, tag.toNat, op, maskOfWords data, res, true, false⟩] })
    (∀ h : Hp, s.linkUp h = true → s.get (F.MGMT_HB_h_ARMED h) = 0 →
      s.Admits h tr (mkFrame 5 tag.toNat 0 0 0 []) → exec (.heartbeat h.castSucc tr tag []) s
        = .next (((((s.passTurn h).modAgent h (fun g => { g with hbSeen := true })).put (F.MGMT_HB_h_ARMED h) 1).modAgent h
            (fun g => { g with misses := 0 })).reply h tr tag.toNat 5 R.ok [w32 s.tick]))
    ∧ (∀ h : Hp, s.Admits h tr (mkFrame 5 tag.toNat 1 0 0 [1]) → exec (.heartbeat h.castSucc tr tag [1]) s
        = .next ((((s.passTurn h).put (F.MGMT_HB_h_ARMED h) 0).modAgent h (fun g => { g with misses := 0 })).reply h tr
            tag.toNat 5 R.ok [w32 s.tick]))
    ∧ (∀ (data : List Word), s.Admits a tr (mkFrame 0x20 tag.toNat data.length 0 0 data) →
      let res := if a.val = 4 then R.denied else judgeMask (maskOfWords data) (u.claimJudge a)
      exec (.claim a tr tag data) s = .next (if res = R.ok then
          (recorded 0x20 data res).each ((maskList (maskOfWords data)).filter (fun k => !(recorded 0x20 data res).owns a k))
            (fun s k => s.put (F.OWN_k_PENDING k) 1)
        else recorded 0x20 data res))
    ∧ (∀ (data : List Word), s.Admits a tr (mkFrame 0x21 tag.toNat data.length 0 0 data) →
      let res := judgeMask (maskOfWords data) (u.releaseJudge a)
      exec (.release a tr tag data) s = .next (if res = R.ok then
          (recorded 0x21 data res).each (maskList (maskOfWords data)) (fun s k => s.put (F.OWN_k_PENDING k) 1)
        else recorded 0x21 data res))
    ∧ (∀ (data : List Word), s.Admits a tr (mkFrame 0x22 tag.toNat data.length 0 0 data) →
      let res := judgeMask (maskOfWords data) (u.handoverJudge a)
      exec (.handover a tr tag data) s = .next (if res = R.ok then
          (recorded 0x22 data res).each (maskList (maskOfWords data)) (fun s k => s.put (F.OWN_k_PENDING k) 1)
        else recorded 0x22 data res))
    ∧ (s.Admits a tr (mkFrame 0x31 tag.toNat 0 0 0 []) → exec (.powerQuery a tr tag) s = .next (u.reply a tr tag.toNat 0x31 R.ok
        [w32 (s.reg A.PWR_STATE), w32 (s.reg A.PWR_LAST_REFUSE), w32 (s.reg A.PWR_WAKE), w32 (s.reg A.BROWNOUT_CAUSE)]))
    ∧ (∀ target : Word, s.Admits a tr (mkFrame 0x30 tag.toNat 0 0 target.toNat []) → bitAt u.enterAgents a = true →
      bitAt u.allow (target.toNat - 1) = true → u.veto target.toNat u.pwr.isSome = none →
      (2 ≤ target.toNat ∧ target.toNat ≤ 4 → ∃ t, exec (.powerEnter a tr tag target) s = .next t
        ∧ t.get F.PWR_STATE_PEND = 1 ∧ t.get F.PWR_STATE_TARGET = target.toNat
        ∧ t.pwr = some ⟨a, tag.toNat, target.toNat, none⟩
        ∧ t = { u with regs := t.regs, pwr := t.pwr, mgmt := (u.openNp a tr tag.toNat 0x30 target.toNat 0).mgmt }
        ∧ s.SameRegs t [A.PWR_STATE])
      ∧ (target = 1 → exec (.powerEnter a tr tag target) s
        = .next ((u.put F.PWR_STATE_STATE 1).powerReply a tr (mkFrame 0x30 tag.toNat 0 0 1 []) R.ok 0)))

/-- Service mode: challenge, response, the nonce's expiry and the lockout's end. Rests on R134, R135,
R136, R137, R138. -/
def Obligations.ServiceMode : Prop :=
  ∀ (s : State) (a : Agent) (tr : Transport) (tag : Byte), s.Sound →
    (s.Admits a tr (mkFrame 0x40 tag.toNat 0 0 0 []) → s.mayService a = true → s.lockedOut a = false →
      exec (.serviceChallenge a tr tag) s = .next (((s.passTurn a).took.modAgent a (fun g => { g with
          nonce := some (Config.nonce s.free, s.tick) })).reply a tr tag.toNat 0x40 R.ok
        (bytesWords (toBytesLE 48 (Config.nonce s.free).toNat))))
    ∧ (s.Admits a tr (mkFrame 0x41 tag.toNat 0 0 0 []) →
      exec (.serviceResponse a tr tag []) s = .next (((s.passTurn a).serviceEnd a).reply a tr tag.toNat 0x41 R.ok []))
    ∧ (∀ (data : List Word) (n : BitVec 384) (t : Nat), data.length = 48 →
      s.Admits a tr (mkFrame 0x41 tag.toNat data.length 0 0 data) → (s.agent a).nonce = some (n, t) → s.tick < t + 8000 →
      s.mayService a = true →
      let key := (wordsBytes data).take 96
      let u := (s.passTurn a).modAgent a (fun g => { g with nonce := none })
      let good := (u.trustedSlot key).isSome && Config.ecdsaVerify key (Config.sha384 (serviceText n a)) ((wordsBytes data).drop 96)
      (good = true → exec (.serviceResponse a tr tag data) s = .next ((u.modAgent a (fun g => { g with
          service := true, fails := 0 })).reply a tr tag.toNat 0x41 R.ok []))
        ∧ (good = false → exec (.serviceResponse a tr tag data) s = .next ((u.modAgent a (fun g => { g with
            fails := satAdd 4 (u.agent a).fails 1,
            lockout := if 3 ≤ satAdd 4 (u.agent a).fails 1 then some u.tick else g.lockout })).reply
              a tr tag.toNat 0x41 R.auth [])))
    ∧ (∀ (n : BitVec 384) (t : Nat), (s.agent a).nonce = some (n, t) → exec (.nonceExpiry a) s
        = .next ((s.advanceTo ((t + 8000) * 125000)).modAgent a (fun g => { g with nonce := none })))
    ∧ (∀ t : Nat, (s.agent a).lockout = some t → exec (.serviceLockoutEnd a) s
        = .next ((s.advanceTo ((t + 80000) * 125000)).modAgent a (fun g => { g with lockout := none })))

/-- Frames in and out of the transports, held frames, timeouts and the status echo. Rests on R19,
R116, R120, R121, R127, R140, R145, R448, R673. -/
def Obligations.TransportSteps : Prop :=
  ∀ s : State, s.Sound →
    (s.transportShut .spi = false → ∀ a : Agent, exec (.malformedFrame a .spi) s = .next (s.bump F.MGMT_SPI_ERR_COUNT 1))
    ∧ (∀ h : Hp, s.transportShut .usb = false →
      exec (.malformedFrame h.castSucc .usb) s = .next ((s.bump (F.UF_MF_ERR_LEN_ERR h) 1).ufEvt h 4))
    ∧ (∀ (a : Agent) (n : Fin 64), s.transportShut (.tunnel n) = false →
      exec (.malformedFrame a (.tunnel n)) s = .next (s.bump (F.MGMT_LEN_ERR_COUNT a) 1))
    ∧ (∀ (a : Agent) (tr : Transport) (f : Frame) (rest : List (Transport × Frame)), (s.agent a).held = (tr, f) :: rest →
      s.heldTurn = some a.val →
      exec (.heldFrameRelease a) s
        = .next (((s.modAgent a (fun g => { g with held := rest })).serve a tr f (fun s => s.frameAct a tr f)).ep1Free a))
    ∧ (∀ (bytes : List Byte) (f : Frame), frameOfBytes bytes = some f → s.Admits 4 .spi f →
      exec (.frameIn bytes) s = .next ((s.passTurn 4).frameAct 4 .spi f))
    ∧ (s.transportShut .spi = false → s.spiQ = [] → exec .frameOut s = .next (s.emit (.spi [0])))
    ∧ (∀ (r : Reply) (rest : List Reply), s.transportShut .spi = false → s.spiQ = r :: rest →
      ∃ t, exec .frameOut s = .next t ∧ t.spiQ = rest
        ∧ t.out = .spi (bytesWords (replyBytes (s.statusWord 4 r.result) r.tag r.opcode r.data)) :: s.out)
    ∧ (s.transportShut .spi = false → ∃ t, exec .readStatus s = .next t
      ∧ t.out = .spi [w32 (s.statusWord 4 R.ok + 2 ^ 16 * min s.spiQ.length 8 + 2 ^ 24 * bit1 s.spiReady)] :: s.out
      ∧ t.mgmt = vPut s.mgmt 4 { s.agent 4 with ownChg := false } ∧ t = { s with out := t.out, mgmt := t.mgmt })
    ∧ (∀ (a : Agent) (tag : Byte) (c : OpenCmd), s.openCmd a tag.toNat = some c → c.opcode ≤ 3 →
      exec (.npTimeout a tag) s = .next (((s.advanceTo ((c.tick + s.get F.MGMT_NP_TIMEOUT_TICKS) * 125000)).fieldForget a
        tag.toNat).complete a tag.toNat R.timeout []))
    ∧ (∀ h : Hp, s.attnF h = true ∨ (s.agent h).ownChg = true → (s.link h).parked = none →
      (∀ t, (s.agent h).lastEcho = some t → t + 250 ≤ s.clock.time) →
      s.statusWord h (s.agent h).lastResult ≠ (s.agent h).lastStatus →
      isUpState (s.cvState h) = true → s.ownRoom h = true → ∃ t, exec (.statusEcho h) s = .next t
        ∧ .ctl h (s.nextPair h) ((0x6A + 2 ^ 8 * (s.agent h).lastTag + 2 ^ 16 * (s.agent h).lastOp
            + 2 ^ 24 * s.statusWord h (s.agent h).lastResult) % 2 ^ 64) ∈ t.out
        ∧ (t.agent h).lastStatus = s.statusWord h (s.agent h).lastResult
        ∧ (t.agent h).lastEcho = some s.clock.time ∧ (t.agent h).ownChg = false
        ∧ s.SendsOnly { t with mgmt := s.mgmt } h)

/-- The die bridge's third failure in a row, the auto-mask of a storm, the storm window, and the class
of a source. Rests on R12, R160, R165, R166, R167, R617. -/
def Obligations.BridgeAndStorms : Prop :=
  ∀ s : State, s.Sound →
    (∀ dir : Fin 2, vAt s.oa.bridge dir = 2 → ∃ t, exec (.dieBridgeWordFail dir true) s = .next t
      ∧ t.get F.SYS_STATE_BRIDGE_DEGRADED = 1 ∧ t.get ⟨A.OA_EVT, 3, 1⟩ = 1
      ∧ t = { s with regs := t.regs, router := t.router, logs := t.logs, oa := t.oa }
      ∧ s.SameRegs t [A.SYS_STATE, A.OA_EVT, A.OA_NOTICE, A.OA_NOTICE_DETAIL_n 5, A.EVT_RISE_s 0, A.EVT_RISE_s 1,
          A.EVT_RISE_s 2, A.EVT_RISE_s 3])
    ∧ (∀ dir : Fin 2, exec (.dieBridgeWordFail dir false) s
        = .next { s with oa := { s.oa with bridge := vPut s.oa.bridge dir 1 } })
    ∧ (∀ src : Fin 256, s.router.due.contains src.val = true → exec (.evtStormAutomask src) s
        = .next (({ s with router := { s.router with due := s.router.due.filter (· != src.val) } } : State).each (List.range 5)
            (fun t a => if s.stormHits a src then t.stormMask a src else t)))
    ∧ (s.clock.time % 125000 = 0 → s.tick % s.get F.EVT_STORM_CFG_WINDOW = 0 →
      exec .stormWindowStart s = .next { s with router := { s.router with win := [], fired := [] } })
    ∧ (∀ (a : Agent) (n : Fin 8) (v : Word), s.TakesWords a (0x300A0 + 4 * n) [v] →
      ∃ t, exec (.fevtClassWrite a n v) s = .next t ∧ t.get (F.FEVT_CLASS_n_FAST a n) = v.toNat
        ∧ t = { s with regs := t.regs } ∧ s.SameRegs t [A.FEVT_CLASS_n a n])

/-- A lane group goes over to its spare PLL and its spare slice. Rests on R205, R206, R207, R208,
R213, R617. -/
def Obligations.LaneSpares : Prop :=
  ∀ (s : State) (g : Fin 9), s.Sound →
    let kept (t : State) (l : List FRef) : Prop := ∀ f ∈ l, t.get f = s.get f
    let onSpare (t : State) : Prop := t.get (F.LG_STATUS_PLL_SEL g) = 1 ∧ t.get (F.LG_STATUS_PLL_LOCK g) = 1
      ∧ t.get ⟨A.LG_EVT g, 0, 1⟩ = 1 ∧ t.get ⟨A.LANE_EVT, 20 + g, 1⟩ = 1 ∧ t.get ⟨A.OA_NOTICE, 0, 1⟩ = 1
      ∧ t.get (F.OA_NOTICE_DETAIL_n_INSTANCE 0) = g
      ∧ kept t [F.LG_STATUS_SPARE_PLL_OK g, F.LG_STATUS_SPARE_SLICE_FREE g, F.LG_STATUS_SLICE_MAP g, F.LG_STATUS_ACTIVE g,
          F.LG_STATUS_QUALIFYING g]
      ∧ s.SameRegs t [A.LG_STATUS g, A.LG_EVT g, A.LANE_EVT, A.OA_NOTICE, A.OA_NOTICE_DETAIL_n 0, A.OA_EVT, A.EVT_RISE_s 0,
          A.EVT_RISE_s 1, A.EVT_RISE_s 2, A.EVT_RISE_s (48 + g), A.EVT_RISE_s 59]
    let moved (l : Fin 4) (u : State) : Prop :=
      u.get (F.LG_STATUS_SLICE_MAP g) = withBits (s.get (F.LG_STATUS_SLICE_MAP g)) (3 * l) 3 (s.spareSlice g)
      ∧ u.get (F.LG_STATUS_SPARE_SLICE_FREE g) = 0 ∧ u.get ⟨A.LG_EVT g, 1, 1⟩ = 1
      ∧ u.get ⟨A.LANE_EVT, 20 + g, 1⟩ = 1 ∧ u.get ⟨A.OA_NOTICE, 1, 1⟩ = 1
    (s.get (F.LG_STATUS_PLL_SEL g) = 0 → s.get (F.LG_STATUS_SPARE_PLL_OK g) = 1 →
      ∃ t, exec (.mainPllLockLoss g) s = .next t ∧ onSpare t ∧ t.mainLost = s.mainLost ||| 2 ^ g.val
        ∧ t.oa = { s.oa with recordDue := true }
        ∧ t = { s with regs := t.regs, router := t.router, logs := t.logs, oa := t.oa, mainLost := t.mainLost })
    ∧ (∀ a : Agent, s.get (F.LG_STATUS_PLL_SEL g) = 0 → s.get (F.LG_STATUS_SPARE_PLL_OK g) = 1 →
      s.TakesField a (A.LG_SERVICE g) 0 1 1 → s.inService a = true →
      ∃ t, exec (.forceSparePll a g) s = .next t ∧ onSpare t
        ∧ t.oa = { s.oa with recordDue := true }
        ∧ t = { s with regs := t.regs, router := t.router, logs := t.logs, oa := t.oa })
    ∧ (s.get (F.LG_STATUS_SPARE_PLL_OK g) = 0 →
      exec (.mainPllLockLoss g) s
        = .next ((({ s with mainLost := s.mainLost ||| 2 ^ g.val } : State).put (F.LG_STATUS_PLL_LOCK g) 0).each (List.range 4)
            (fun s b => s.laneFail g b)))
    ∧ (bitAt s.mainLost g = false → ∃ t, exec (.sparePllFail g) s = .next t
      ∧ t.get (F.LG_STATUS_SPARE_PLL_OK g) = 0 ∧ t.get (F.LG_STATUS_PLL_SEL g) = 0 ∧ t.get ⟨A.LG_EVT g, 4, 1⟩ = 1
      ∧ kept t [F.LG_STATUS_PLL_LOCK g, F.LG_STATUS_SPARE_SLICE_FREE g, F.LG_STATUS_SLICE_MAP g, F.LG_STATUS_ACTIVE g,
          F.LG_STATUS_QUALIFYING g]
      ∧ t = { s with regs := t.regs, router := t.router }
      ∧ s.SameRegs t [A.LG_STATUS g, A.LG_EVT g, A.EVT_RISE_s (48 + g)])
    ∧ (bitAt s.mainLost g = true → exec (.sparePllFail g) s
      = .next (((s.put (F.LG_STATUS_SPARE_PLL_OK g) 0).lgEvt g 4).groupFail g))
    ∧ (∀ l : Fin 4, s.get (F.LG_STATUS_SPARE_SLICE_FREE g) = 1 →
      (∃ u, exec (.pcsSliceParityError g l) s = .next (u.swapTraffic g l) ∧ moved l u)
      ∧ ∀ a : Agent, s.TakesField a (A.LG_SERVICE g) 1 4 (2 ^ l.val) → s.inService a = true →
        ∃ u, exec (.forceSlice a g l) s = .next (u.swapTraffic g l) ∧ moved l u)
    ∧ (∀ l : Fin 4, s.get (F.LG_STATUS_SPARE_SLICE_FREE g) = 0 →
      exec (.pcsSliceParityError g l) s = .next (s.laneFail g l))

/-- Eye points, qualification and coefficient requests of a lane. Rests on R176, R182, R183, R184,
R190, R200, R202, R245. -/
def Obligations.EyesAndQualification : Prop :=
  ∀ (s : State), s.Sound →
    let eyeKept (g l : Nat) (t : State) : Prop := t.get (F.LN_EYE_CTRL_EYE g l) = s.get (F.LN_EYE_CTRL_EYE g l)
      ∧ t.get (F.LN_EYE_CTRL_PHASE g l) = s.get (F.LN_EYE_CTRL_PHASE g l) ∧ t.get (F.LN_EYE_CTRL_VOLT g l) = s.get (F.LN_EYE_CTRL_VOLT g l)
      ∧ t.get (F.LN_EYE_CTRL_DWELL_EXP g l) = s.get (F.LN_EYE_CTRL_DWELL_EXP g l)
    (∀ (a : Agent) (g : Fin 9) (l : Fin 4), s.TakesField a (A.LN_EYE_CTRL g l) 0 1 1 →
      s.mayWrite a (.lnEyeCtrl g l) 0 0 = true → s.get (F.LN_EYE_RESULT_BUSY g l) = 0 →
      (s.rxActive g l = true → ∃ t, exec (.lnEyeStart a g l) s = .next t ∧ t.get (F.LN_EYE_RESULT_BUSY g l) = 1
        ∧ t.get (F.LN_EYE_RESULT_ERRORS g l) = 0 ∧ t.get (F.LN_EYE_RESULT_ABORTED g l) = 0
        ∧ t.get (F.LN_EYE_RESULT_DONE g l) = 0 ∧ t.get (F.LN_EYE_CTRL_START g l) = 1 ∧ eyeKept g l t
        ∧ t = { s with regs := t.regs } ∧ s.SameRegs t [A.LN_EYE_RESULT g l, A.LN_EYE_CTRL g l])
      ∧ (s.rxActive g l = false → ∃ t, exec (.lnEyeStart a g l) s = .next t ∧ t.get (F.LN_EYE_RESULT_ABORTED g l) = 1
        ∧ t.get (F.LN_EYE_RESULT_DONE g l) = 1 ∧ t.get (F.LN_EYE_RESULT_BUSY g l) = 0
        ∧ t.get (F.LN_EYE_RESULT_ERRORS g l) = 0 ∧ t.get (F.LN_EYE_CTRL_START g l) = 0 ∧ eyeKept g l t
        ∧ t.get ⟨A.LANE_EVT, g, 1⟩ = 1 ∧ t = { s with regs := t.regs, router := t.router }
        ∧ s.SameRegs t [A.LN_EYE_RESULT g l, A.LN_EYE_CTRL g l, A.LANE_EVT, A.EVT_RISE_s 57]))
    ∧ (∀ (g : Fin 9) (l : Fin 4) (errors : Nat), s.get (F.LN_EYE_RESULT_BUSY g l) = 1 →
      ∃ t, exec (.eyePointDone g l errors) s = .next t ∧ t.get (F.LN_EYE_RESULT_ERRORS g l) = min errors (2 ^ 24 - 1)
        ∧ t.get (F.LN_EYE_RESULT_DONE g l) = 1 ∧ t.get (F.LN_EYE_RESULT_BUSY g l) = 0 ∧ t.get (F.LN_EYE_CTRL_START g l) = 0
        ∧ eyeKept g l t ∧ t.get ⟨A.LANE_EVT, g, 1⟩ = 1 ∧ t = { s with regs := t.regs, router := t.router }
        ∧ s.SameRegs t [A.LN_EYE_RESULT g l, A.LN_EYE_CTRL g l, A.LANE_EVT, A.EVT_RISE_s 57])
    ∧ (∀ (g : Fin 9) (l : Fin 4) (q : Qual), s.qualRuns g l = true →
      let u := (s.clrBit (F.LG_STATUS_QUALIFYING g) l)
      let tells : Bool := decide (g.val < 4) && !u.flag (F.LN_STATUS_DIR g l)
      (s.qualVerdict g l q = some true →
        exec (.qualificationDone g l q) s = .next ((u.iff tells (fun s => s.qualTell g l true)).qualPass g l))
      ∧ (s.qualVerdict g l q = some true → 4 ≤ g.val → ∃ t, exec (.qualificationDone g l q) s = .next t
        ∧ t.get (F.LG_STATUS_QUALIFYING g) = s.get (F.LG_STATUS_QUALIFYING g) &&& (15 - 2 ^ l.val)
        ∧ t.get (F.LN_STATUS_STATE g l) = 3 ∧ t.get (F.LN_RXEQ_ADAPTING g l) = 1
        ∧ t.eyes = vMod s.eyes (4 * g + l) (fun e => { e with tries := 0 })
        ∧ t = { s with regs := t.regs, eyes := t.eyes } ∧ s.SameRegs t [A.LG_STATUS g, A.LN_STATUS g l, A.LN_RXEQ g l])
      ∧ (s.qualVerdict g l q = some false →
        exec (.qualificationDone g l q) s = .next ((u.iff tells (fun s => s.qualTell g l false)).qualFail g l))
      ∧ (s.qualVerdict g l q = some false → (vAt s.eyes (4 * g + l)).tries < 15 → tells = false →
        ∃ t, exec (.qualificationDone g l q) s = .next t
        ∧ t.get ⟨A.LG_EVT g, 2, 1⟩ = 1 ∧ t.get (F.LG_STATUS_QUALIFYING g) = s.get (F.LG_STATUS_QUALIFYING g) &&& (15 - 2 ^ l.val)
        ∧ t.get (F.LN_STATUS_STATE g l) = (if 4 ≤ g.val then 1 else s.get (F.LN_STATUS_STATE g l))
        ∧ t.eyes = vMod s.eyes (4 * g + l) (fun e => { e with tries := (vAt s.eyes (4 * g + l)).tries + 1 })
        ∧ t = { s with regs := t.regs, router := t.router, eyes := t.eyes }
        ∧ s.SameRegs t [A.LG_STATUS g, A.LG_EVT g, A.LN_STATUS g l, A.EVT_RISE_s (48 + g)]))
    ∧ (∀ (g : Fin 9) (l : Fin 4), s.qualMay g l = true → 1 ≤ (vAt s.eyes (4 * g + l)).tries →
      ∃ t, exec (.qualRetry g l) s = .next t
        ∧ t.get (F.LG_STATUS_QUALIFYING g) = s.get (F.LG_STATUS_QUALIFYING g) ||| 2 ^ l.val
        ∧ t.get (F.LN_STATUS_STATE g l) = (if 4 ≤ g.val then 2 else s.get (F.LN_STATUS_STATE g l))
        ∧ t = { s with regs := t.regs } ∧ s.SameRegs t [A.LG_STATUS g, A.LN_STATUS g l])
    ∧ (∀ (h : Hp) (pair : Fin 4) (block : BitVec 64) (eyes : List (Nat × Nat)) (n : Fin 10), s.linkRuns h = true →
      s.cvState h = L.eq → bitAt (s.failedMask h) pair = false → s.sends h pair = true → trainSub block.toNat = 2 →
      bitsOf block.toNat 20 4 = n → vAt (s.link h).reqId pair ≠ some (bitsOf block.toNat 24 4) →
      let b := s.ballPair h pair
      ∃ t, exec (.coeffRequest h pair ⟨block, eyes⟩) s = .next t ∧ t.get (F.LN_TXEQ_PRESET h b) = n
        ∧ t.get (F.LN_TXEQ_C_M1 h b) = (64 - (presetTaps n).1) % 64
        ∧ t.get (F.LN_TXEQ_C0 h b) = 48 - (presetTaps n).1 - (presetTaps n).2
        ∧ t.get (F.LN_TXEQ_C_P1 h b) = (64 - (presetTaps n).2) % 64
        ∧ t.link h = { s.link h with
            up := vPut (s.link h).up b ⟨(64 - (presetTaps n).1) % 64, 48 - (presetTaps n).1 - (presetTaps n).2,
              (64 - (presetTaps n).2) % 64, n⟩
            reqId := vPut (s.link h).reqId pair (some (bitsOf block.toNat 24 4)), tx := (t.link h).tx }
        ∧ (∀ k, k % 4 ≠ h.val → t.link k = s.link k)
        ∧ t = { s with regs := t.regs, links := t.links, out := t.out, free := t.free }
        ∧ s.SameRegs t [A.LN_TXEQ h b])
    ∧ (∀ (h : Hp) (pair : Fin 4), s.linkRuns h = true → s.cvState h = L.ref ∨ s.cvState h = L.speed →
      s.get (F.LN_STATUS_DIR h (s.ballPair h pair)) = 0 →
      exec (.pairInverted h pair) s = .next (s.put (F.LN_STATUS_RX_INV h (s.ballPair h pair)) 1))

/-- SPEED_CAP, SPEED_SEL, EQ_DONE, the latency blocks and CV_RETRAIN as they act on a link that
trains. Rests on R244, R246, R247, R248. -/
def Obligations.LinkTraining : Prop :=
  ∀ (s : State) (h : Hp), s.Sound → s.linkRuns h = true →
    (s.cvState h = L.ref →
      let f := 2 ^ 16 * s.ownGears h + 2 ^ 20 * bitsOf (s.get (F.CV_CFG0_W h)) 2 1
        + 2 ^ 21 * bitsOf (s.get (F.CV_CFG0_W h)) 3 1 + 2 ^ 22 * bitsOf (s.get (F.CV_CFG0_W h)) 4 3 + 2 ^ 25
      exec (.refTimer h) s = .next ((s.sendTrain h 0 0 0 f).sendTrain h 2 2 0 f))
    ∧ (∀ b : BitVec 64, trainSub b.toNat = 0 →
      let t := s.modLink h (fun l => { l with cap := some b.toNat })
      (s.cvState h = L.speed → exec (.speedCap h b) s = .next (t.speedOffer h))
      ∧ (s.cvState h = L.ref → (s.link h).blockLock &&& 10 ≠ 0 → exec (.speedCap h b) s = .next (t.linkSpeed h)))
    ∧ (∀ b : BitVec 64, trainSub b.toNat = 1 → s.cvState h = L.speed → (s.pickGear h).isSome = true →
      ((s.link h).echoed = false → bitAt b.toNat 20 = false → exec (.speedSel h b) s = .next (s.speedSel h false))
      ∧ ((s.link h).echoed = false → bitAt b.toNat 20 = true → bitAt b.toNat 21 = false → (s.link h).goSeen < 16 →
        exec (.speedSel h b) s
          = .next ((s.modLink h (fun l => { l with echoed := true, echoResume := bitAt b.toNat 19 })).speedSel h true))
      ∧ ((s.link h).echoed = true → bitAt b.toNat 21 = true → (s.link h).goSeen = 15 → exec (.speedSel h b) s
        = .next (((s.speedSel h true).modLink h (fun l => { l with goSeen := l.goSeen + 1 })).linkEq h)))
    ∧ (∀ pair : Fin 4, s.cvState h = L.eq → s.equalising h pair = true → s.eqReady h pair = true →
      let on := if bitAt (s.txMask h) pair then pair.val else s.returnPair h pair
      let u := (s.sendTrain h on pair 2 (2 ^ 20 * 15 + 2 ^ 38 + s.eqTaps h (s.ballPair h on))).modLink h
        (fun l => { l with eqCount := vMod l.eqCount pair (· + 1) })
      (∀ q : Fin 4, bitAt (15 - s.failedMask h) q = true → vAt (s.link h).eqCount q < 15 →
        exec (.eqDone h pair) s = .next u ∧ u = { s with links := u.links, out := u.out, free := u.free }
          ∧ u.link h = { s.link h with eqCount := vMod (s.link h).eqCount pair (· + 1), tx := (u.link h).tx })
      ∧ ((∀ q : Fin 4, bitAt (15 - s.failedMask h) q = true → 16 ≤ vAt (u.link h).eqCount q) →
        exec (.eqDone h pair) s = .next (u.eqPhaseEnds h)))
    ∧ (∀ (arrival : Nat) (b : BitVec 64) (i sent : Nat), s.cvState h = L.block → trainSub b.toNat = 4 →
      bitsOf b.toNat 16 2 = 1 → (s.link h).pings.find? (fun x => x.1 == bitsOf b.toNat 18 4) = some (i, sent) →
      let flight := (arrival + 2 ^ 40 - sent) % 2 ^ 40 - bitsOf b.toNat 24 40
      let sum := (s.link h).latSum + flight
      let u := s.modLink h (fun l => { l with
        pings := l.pings.filter (fun y => y.1 != i), latCount := l.latCount + 1, latSum := l.latSum + flight })
      ((s.link h).latCount < 15 → exec (.latBlock h arrival b) s = .next u)
      ∧ (15 ≤ (s.link h).latCount → exec (.latBlock h arrival b) s
        = .next ((((u.put (F.CV_LAT_ONE_WAY h) (sum / 16 / 2)).modLink h (fun l => { l with latDone := true })).sendTrain h 0 0 4
            (2 ^ 16 * 2 + 2 ^ 24 * (sum / 16 / 2))).tryBlock h)))
    ∧ (∀ a : Agent, s.TakesField a (A.CV_CTRL h) 1 1 1 → s.boardOrService a = true ∨ a.val = h.val →
      exec (.cvRetrain a h) s = .next (s.retrain h))

/-- Block, codeword and alignment locks of a port's pairs, and unknown control blocks. Rests on R216,
R222, R223, R224, R225, R230, R248. -/
def Obligations.LinkLocks : Prop :=
  ∀ (s : State) (h : Hp) (pair : Fin 4) (hs : List (BitVec 2)), s.Sound → 2 ≤ s.cvState h → s.linkRuns h = true →
    (s.regaining h pair = false → ∀ f, huntLock (s.fecOn h) (vAt (s.link h).rx.phase pair) hs = some f →
     let u := s.modLink h (fun l => { l with blockLock := l.blockLock ||| 2 ^ pair.val,
                                             rx := { l.rx with phase := vPut l.rx.phase pair f } })
     exec (.blockLockAcquired h ⟨pair, hs⟩) s = .next (u.tryBlock h))
    ∧ (s.regaining h pair = false → huntLock (s.fecOn h) (vAt (s.link h).rx.phase pair) hs = none →
      exec (.blockLockAcquired h ⟨pair, hs⟩) s = .next s)
    ∧ (s.regaining h pair = true →
      (regains (s.fecOn h) (vAt (s.link h).rx.place pair) hs = true → exec (.blockLockAcquired h ⟨pair, hs⟩) s
        = .next (s.modLink h (fun l => { l with blockLock := l.blockLock ||| 2 ^ pair.val,
                                                cwLock := if s.fecOn h then l.cwLock ||| 2 ^ pair.val else l.cwLock })))
      ∧ (regains (s.fecOn h) (vAt (s.link h).rx.place pair) hs = false → exec (.blockLockAcquired h ⟨pair, hs⟩) s = .next s))
    ∧ (s.fecOn h = true → ∀ k, cwFound hs = some k → exec (.codewordLock h ⟨pair, hs⟩) s
        = .next ((s.modLink h (fun l => { l with cwLock := l.cwLock ||| 2 ^ pair.val,
                                                 rx := { l.rx with place := vPut l.rx.place pair k } })).tryFec h))
    ∧ (let n := fun m : Nat => m &&& (15 - 2 ^ pair.val)
       let u := (s.bump (F.CV_LOCK_LOSS_COUNT h) 1).modLink h (fun l => { l with
         blockLock := n l.blockLock, cwLock := n l.cwLock, aligned := n l.aligned, rx := { l.rx with got := n l.rx.got } })
       (isUpState (s.cvState h) = true → n (s.link h).blockLock &&& s.downMask h ≠ 0 →
          (lockGone (s.fecOn h) hs = true → exec (.blockLockLost h ⟨pair, hs⟩) s = .next u)
          ∧ (s.fecOn h = true → cwGone hs (vAt (s.link h).rx.place pair) = true →
            exec (.codewordLockLost h ⟨pair, hs⟩) s = .next u))
       ∧ (isUpState (s.cvState h) = true → n (s.link h).blockLock &&& s.downMask h = 0 →
          (lockGone (s.fecOn h) hs = true → exec (.blockLockLost h ⟨pair, hs⟩) s = .next (u.linkRecovery h))
          ∧ (s.fecOn h = true → cwGone hs (vAt (s.link h).rx.place pair) = true →
            exec (.codewordLockLost h ⟨pair, hs⟩) s = .next (u.linkRecovery h))))
    ∧ (∀ (b : BitVec 64) (skew pos : Nat), bitAt b.toNat 15 = false →
      let m := bitsOf b.toNat 16 48
      (((s.link h).marker = none ∨ 8 < skew ∨ (s.link h).marker = some m) →
        let got := (if (s.link h).marker = none ∨ 8 < skew then 0 else (s.link h).rx.got) ||| 2 ^ pair.val
        exec (.alignMarker h pair ⟨b, skew, pos⟩) s = .next ((s.modLink h (fun l => { l with
          marker := some m, rx := { l.rx with got := got },
          aligned := if got &&& s.rxMask h = s.rxMask h then l.aligned ||| got else l.aligned })).tryBlock h))
      ∧ ((s.link h).marker ≠ none → skew ≤ 8 → (s.link h).marker ≠ some m →
        exec (.alignMarker h pair ⟨b, skew, pos⟩) s = .next (s.lockLost h pair)))
    ∧ (∀ (b : BitVec 64) (skew pos : Nat), bitAt b.toNat 15 = true →
      (∀ (t : Turn) (m : Nat), (s.link h).turn = some t → t.started = true → t.pair = pair → t.dir = 0 →
        (s.link h).marker = some m → m % 2 ^ 32 = bitsOf b.toNat 16 32 → bitsOf b.toNat 48 16 = pos →
        exec (.alignMarker h pair ⟨b, skew, pos⟩) s = .next (s.modLink h (fun l => { l with aligned := l.aligned ||| 2 ^ pair.val })))
      ∧ ((∀ t : Turn, (s.link h).turn = some t → t.pair ≠ pair) → exec (.alignMarker h pair ⟨b, skew, pos⟩) s = .next s))
    ∧ (isUpState (s.cvState h) = true →
      let u := s.modLink h (fun l => { l with recovering := l.recovering ||| 2 ^ pair.val })
      (((s.link h).recovering ||| 2 ^ pair.val) &&& s.downMask h ≠ s.downMask h → exec (.recoverBlock h pair) s = .next u)
      ∧ (((s.link h).recovering ||| 2 ^ pair.val) &&& s.downMask h = s.downMask h →
        exec (.recoverBlock h pair) s = .next (u.linkRecovery h)))
    ∧ (∀ b : BitVec 64, knownType (blkType ⟨0b10, b⟩) = false →
      exec (.controlBlockUnknown h ⟨b, false⟩) s = .next (s.bump (F.CV_UNKNOWN_CTL_COUNT h) 1)
      ∧ (isUpState (s.cvState h) = true → exec (.controlBlockUnknown h ⟨b, true⟩) s
        = .next (((s.bump (F.CV_UNKNOWN_CTL_COUNT h) 1).raise (18 + 8 * h) (F.CV_EVT_PROTOCOL h)).sendNak h 4)))
    ∧ (∀ (b : BitVec 64) (inPacket : Bool), knownType (blkType ⟨0b10, b⟩) = true →
      exec (.controlBlockUnknown h ⟨b, inPacket⟩) s = .next s)

/-- What each training state's timeout and the recovery blocks do. Rests on R248. -/
def Obligations.LinkTimeouts : Prop :=
  ∀ (s : State) (h : Hp), s.Sound → s.linkRuns h = true →
    (s.cvState h = L.ref → exec (.refTimeout h) s
      = .next ((((s.raise (20 + 8 * h) (F.CV_EVT_REF_FAIL h)).refFail h).refOff h).linkDetect h))
    ∧ (s.cvState h = L.speed → exec (.speedTimeout h) s
      = .next (if ((s.refFail h).link h).refFails < 3 then (s.refFail h).linkRef h
          else (((s.refFail h).raise (20 + 8 * h) (F.CV_EVT_REF_FAIL h)).refOff h).linkDetect h))
    ∧ (s.cvState h = L.eq → exec (.eqTimeout h) s = .next (s.lowerGear h))
    ∧ (s.cvState h = L.fec → exec (.fecTimeout h) s = .next (s.lowerGear h))
    ∧ (s.cvState h = L.block →
      let u := s.each (pairsIn (s.rxMask h)) (fun s l =>
        if bitAt ((s.link h).blockLock &&& ((s.link h).aligned ||| (s.link h).rx.got)) l then s else s.markFailed h l)
      exec (.blockTimeout h) s = .next (if u.minWidth h 1 ≤ width4 (u.txMask h) ∧ u.minWidth h 0 ≤ width4 (u.rxMask h) then
        (u.modLink h (fun l => { l with aligned := l.aligned ||| l.rx.got })).tryBlock h else u.lowerGear h))
    ∧ (s.cvState h = L.recovery →
      ((s.link h).blockLock &&& (s.link h).aligned &&& s.downMask h = s.downMask h →
        (∀ p ∈ pairsIn (s.downMask h), s.get (F.LN_STATUS_DOWN_VALID h (s.ballPair h p)) = 1) →
        exec (.recoveryRelock h) s = .next (s.relocked h))
      ∧ ((s.link h).blockLock &&& (s.link h).aligned &&& s.downMask h ≠ s.downMask h
          ∨ (∃ p ∈ pairsIn (s.downMask h), s.get (F.LN_STATUS_DOWN_VALID h (s.ballPair h p)) = 0) →
        exec (.recoveryRelock h) s = .next s)
      ∧ exec (.recoveryTimeout h) s = .next ((s.each (pairsIn
          (s.downMask h &&& (15 - ((s.link h).blockLock &&& (s.link h).aligned)))) (fun s l => (s.markFailed h l).widthChg h)).linkSpeed h))

/-- A packet of each arrival, acknowledgements, replays and credits. Rests on R221, R230, R233, R234,
R235, R236, R237, R239. -/
def Obligations.PacketsAndCredits : Prop :=
  ∀ (s : State) (h : Hp), s.Sound → isUpState (s.cvState h) = true → s.linkRuns h = true →
    (∀ c : CwIn, (c.errors ≤ 16 → (s.cwTaken h c).get (F.CV_CORR_SYM_COUNT h)
        = satAdd 32 (s.get (F.CV_CORR_SYM_COUNT h)) c.errors)
      ∧ (16 < c.errors → (s.cwTaken h c).get (F.CV_UNCORR_COUNT h) = satAdd 32 (s.get (F.CV_UNCORR_COUNT h)) 1
        ∧ (s.cwTaken h c).get (F.CV_EVT_UNCORR h) = 1))
    ∧ (∀ (shared : BitVec 4) (cws : List CwIn) (bs : List Blk),
      let u := cws.foldl (fun s c => s.cwTaken h c) s
      let pkt := (s.arrival h shared cws bs).2
      let x := u.get (F.CV_SEQ_RX_EXPECT h)
      let d := (pktSeq pkt + 4096 - x) % 4096
      let ex := exec (.packetReceive h shared cws bs) s
      ((s.arrival h shared cws bs).1 = .uncorrectable → ex = .next ((u.sendNak h 1).countArrival h))
      ∧ ((s.arrival h shared cws bs).1 = .badCrc → ex = .next (((u.bump (F.CV_CRC_ERR_COUNT h) 1).sendNak h 2).countArrival h))
      ∧ ((s.arrival h shared cws bs).1 = .framing →
        ex = .next (((u.raise (18 + 8 * h) (F.CV_EVT_PROTOCOL h)).sendNak h 4).countArrival h))
      ∧ ((s.arrival h shared cws bs).1 = .good →
        (2048 ≤ d → ex = .next (u.sendAck h))
        ∧ (d ≠ 0 → d < 2048 → ex = .next ((u.sendNak h 3).countArrival h))
        ∧ (d = 0 → ex = .next ((((u.put (F.CV_SEQ_RX_EXPECT h) (x + 1)).modLink h (fun l => { l with
              unacked := l.unacked + 1, nakFor := none,
              oldest := if l.unacked = 0 then u.clock.time else l.oldest })).countArrival h).rxAccept h pkt))))
    ∧ (∀ b : BitVec 64, exec (.ackNakReceive h b) s = .next (if bitAt b.toNat 20 then
        ((s.ackUpTo h (bitsOf b.toNat 8 12)).bump (F.CV_NAK_RCVD_COUNT h) 1).replayDue h
        else s.ackUpTo h (bitsOf b.toNat 8 12)))
    ∧ (∀ idle : Nat, let u := s.idleBlocks h idle
      ((u.link h).unacked ≠ 0 → exec (.ackSend ⟨h, idle⟩) s = .next ((u.advanceTo ((u.link h).oldest + u.ackMax h)).sendAck h))
      ∧ ((u.link h).unacked = 0 → exec (.ackSend ⟨h, idle⟩) s = .next u)
      ∧ exec (.creditSend ⟨h, idle⟩) s = .next (u.sendCredits h))
    ∧ s.idleBlocks h 0 = s
    ∧ ((s.link h).replay ≠ [] → (s.link h).replays < bitsOf (s.get (F.CV_CFG1_W h)) 16 4 →
      exec (.replayTimeout h) s = .next (s.startReplay h))
    ∧ (∀ b : BitVec 64, bitAt b.toNat 15 = true → bitAt b.toNat 39 = true → bitsOf b.toNat 8 6 ≠ bitsOf b.toNat 32 6 →
      ∃ t, exec (.creditReceive h b) s = .next t
        ∧ t.get (F.CV_TUN_n_CRED_TX_LIMIT h (bitsOf b.toNat 8 6)) = bitsOf b.toNat 16 16
        ∧ t.get (F.CV_TUN_n_CRED_TX_LIMIT h (bitsOf b.toNat 32 6)) = bitsOf b.toNat 40 16
        ∧ t = { s with regs := t.regs }
        ∧ s.SameRegs t [A.CV_TUN_n_CRED h (bitsOf b.toNat 8 6), A.CV_TUN_n_CRED h (bitsOf b.toNat 32 6)])

/-- A split turn from its evaluation to its join or abort, pair failures, and the send opportunities.
Rests on R203, R204, R250, R251, R252, R253, R254, R255, R257, R307, R320. -/
def Obligations.Turns : Prop :=
  ∀ (s : State) (h : Hp), s.Sound → s.linkRuns h = true →
    (s.cvState h = L.active → width4 (s.upMask h) + width4 (s.downMask h) = 4 →
      let u := s.advanceTo (s.tick * 125000 + 50000)
      let v := u.splitRegs h
      let t := v.get (F.PORT_SPLIT_h_TARGET h)
      let cur := width4 (s.upMask h)
      let pair := (((List.range 4).filter (fun l => bitAt (if t < cur then s.upMask h else s.downMask h) l)).getLast?).getD 0
      exec (.splitEvaluation h) s = .next (if t = cur ∨ t = 0 ∨ (v.link h).turn.isSome = true ∨ v.setsValid h pair = false then v
        else v.requestTurn h pair (if t < cur then 0 else 1) false (v.tick + 1)))
    ∧ (∀ (t : Turn) (b : BitVec 64), (s.link h).turn = some t → t.started = false → t.cancelled = false →
      bitsOf b.toNat 8 2 = 1 →
      bitsOf b.toNat 10 2 = t.pair → bitsOf b.toNat 16 48 = t.tick % 2 ^ 48 →
      exec (.turnAck h b) s = .next (s.modLink h (fun l => { l with turn := some { t with acked := true } })))
    ∧ (∀ t : Turn, (s.link h).turn = some t → t.acked = false → t.started = false → t.cancelled = false →
      let u := (s.sendOwn h (turnBlock 2 t.pair t.dir t.rejoin t.tick)).bump (F.CV_TURNS_CANCELLED h) 1
      ((s.link h).turnTries + 1 ≤ bitsOf (s.get (F.CV_CFG1_W h)) 24 4 →
        exec (.turnCancel h) s = .next (u.modLink h (fun l => { l with turn := some { t with cancelled := true }, turnTries := (s.link h).turnTries + 1 })))
      ∧ (bitsOf (s.get (F.CV_CFG1_W h)) 24 4 < (s.link h).turnTries + 1 →
        exec (.turnCancel h) s = .next ((u.modLink h (fun l => { l with turn := none, turnTries := 0 })).raise (19 + 8 * h)
          (F.CV_EVT_TURN_FAIL h))))
    ∧ (∀ t : Turn, (s.link h).turn = some t → t.started = true →
      let u := (s.modLink h (fun l => { l with turn := some { t with idleSeen := true } })).put
        (F.LN_STATUS_DIR h (s.ballPair h t.pair)) t.dir
      (t.idleSeen = false → exec (.turnIdleDetected h) s
        = .next (if t.dir = 1 then (u.loadTx h (u.ballPair h t.pair)).sendTrain h t.pair t.pair 5 0 else u))
      ∧ exec (.turnAbort h) s = .next (s.turnAborted h t)
      ∧ (∀ (n : Nat) (hd : List (BitVec 2)),
        ((t.dir = 1 ∧ t.idleSeen = false) ∨ (t.dir ≠ 1 ∧ ¬ (s.regaining h t.pair = true ∧ regains (s.fecOn h) (vAt (s.link h).rx.place t.pair) hd = true)) →
          exec (.turnJoin h ⟨n, hd⟩) s = .next (s.turnAborted h t))
        ∧ ((t.dir = 1 ∧ t.idleSeen = true) ∨ (t.dir ≠ 1 ∧ s.regaining h t.pair = true ∧ regains (s.fecOn h) (vAt (s.link h).rx.place t.pair) hd = true) →
          let u := s.advanceTo (t.tick * 125000 + 1240)
          let b := u.ballPair h t.pair
          let v := if t.dir = 1 then (u.each (List.range n) (fun s _ => s.sendTrain h t.pair t.pair 5 0)).joinUp h t.pair
            else ((u.setMasks h (u.upMask h) (u.downMask h ||| 2 ^ t.pair)).regain h t.pair).modLink h
              (fun l => { l with aligned := l.aligned ||| 2 ^ t.pair })
          let w := ((((v.put (F.LN_STATUS_DIR h b) t.dir).put (F.LN_STATUS_STATE h b) 3).put
            (F.LN_RXEQ_ADAPTING h b) (1 - t.dir)).bump (F.CV_TURNS_DONE h) 1).modLink h (fun l => { l with
              turn := none, reEq := vPut l.reEq t.pair 0, qualified := l.qualified &&& (15 - 2 ^ t.pair) })
          let x := if t.rejoin then
              (w.put (F.CV_STATUS_FAILED h) (w.failedMask h &&& (15 - 2 ^ t.pair))).widthChg h
            else w.raise 69 ⟨A.BC_EVT, 5, 1⟩
          exec (.turnJoin h ⟨n, hd⟩) s = .next (x.setCv h (if x.failedMask h = 0 then L.active else L.degraded)))))
    ∧ (isUpState (s.cvState h) = true → (∀ pair : Fin 4, bitAt (s.failedMask h) pair = false →
        exec (.pairFailed h pair) s = .next (s.dropPair h pair true))
      ∧ (∀ b : BitVec 64, bitAt (s.failedMask h) (bitsOf b.toNat 10 2) = false →
        exec (.turnDrop h b) s = .next (s.dropPair h (bitsOf b.toNat 10 2) false)))
    ∧ (∀ k : Fin 36, (k.val < 4 → exec (.sendOpportunity k) s = .next (s.sendUp k))
      ∧ (4 ≤ k.val → k.val < 8 → exec (.sendOpportunity k) s = .next (s.sendDown (k.val - 4)))
      ∧ (8 ≤ k.val → k.val < 16 → exec (.sendOpportunity k) s = .next (s.sendSwitch (k.val - 8)))
      ∧ (16 ≤ k.val → exec (.sendOpportunity k) s = .next (s.fieldStart (k.val - 16) true 16)))

/-- Launch descriptors and cancels on both paths, a launch that fires, and a pulse's second edge.
Rests on R327, R329, R330, R333, R335, R338, R340, R341. -/
def Obligations.Launches : Prop :=
  ∀ s : State, s.Sound →
    (∀ (h : Hp) (words : List Word) (n : Nat), s.hears h = true → s.findTun h 5 (fun _ => true) = some n →
      (words.length % 4 = 0 → 0 < words.length → words.length ≤ 256 → exec (.launchDescriptors h words) s
        = .next ((quads words).foldl (fun s q => s.srSubmit h (some n) q.1 q.2.1 q.2.2.1 q.2.2.2) s))
      ∧ (words.length % 2 = 0 → 0 < words.length → words.length ≤ 256 →
        exec (.launchCancel h words) s = .next ((pairsOf words).foldl (fun s q => s.srCancel h (some n) q.1 q.2) s))
      ∧ (words.length % 2 ≠ 0 ∨ words.length = 0 ∨ 256 < words.length →
        exec (.launchDescriptors h words) s
          = .next ((s.bump (F.CV_TUN_BADTUN_COUNT h) 1).raise (21 + 8 * h) (F.CV_TUN_EVT_DISCARD h))
        ∧ exec (.launchCancel h words) s
          = .next ((s.bump (F.CV_TUN_BADTUN_COUNT h) 1).raise (21 + 8 * h) (F.CV_TUN_EVT_DISCARD h))))
    ∧ (∀ (a : Agent) (w0 w1 w2 w3 : Word), s.TakesWords a (A.SR_SUBMIT_W 0) [w0, w1, w2, w3] →
      ∃ u, exec (.srSubmit a w0 w1 w2 w3) s = .next (u.srSubmit a none w0.toNat w1.toNat w2.toNat w3.toNat)
        ∧ u = { s with regs := u.regs }
        ∧ s.SameRegs u [A.SR_SUBMIT_W 0, A.SR_SUBMIT_W 1, A.SR_SUBMIT_W 2, A.SR_SUBMIT_W 3])
    ∧ (∀ (a : Agent) (w0 w1 : Word), s.TakesWords a (A.SR_CANCEL_W 0) [w0, w1] →
      ∃ u, exec (.srCancel a w0 w1) s = .next (u.srCancel a none w0.toNat w1.toNat)
        ∧ u = { s with regs := u.regs } ∧ s.SameRegs u [A.SR_CANCEL_W 0, A.SR_CANCEL_W 1])
    ∧ (∀ l : Launch, s.nextLaunch = some l → s.awake = true → s.counting = true → l.at_ ≤ s.nextBoundary →
      let v := s.fireBefore (l.at_, l)
      let u := v.advanceTo l.at_
      exec .launchFire s
        = .next ((({ u with sr := { u.sr with queue := u.sr.queue.erase l } } : State).srCount l.res).launchFires l)
      ∧ (s.sr.seconds = [] → v = s))
    ∧ (∀ p : Firing, s.nextSecond = some p → s.awake = true → s.counting = true → p.1 ≤ s.nextBoundary →
      let v := s.fireBefore p
      let u := v.advanceTo p.1
      let r := ({ u with sr := { u.sr with seconds := u.sr.seconds.filter (· != p) } } : State).lineEdge
        { p.2 with at_ := p.1 } (!bitAt p.2.arg 8)
      exec .linePulseSecondEdge s
        = .next (r.2.srResult p.2.agent p.2.tun p.2.id r.1.1 r.1.2.1 p.2.res r.1.2.2.1 p.2.report)
      ∧ (s.sr.queue = [] → v = s))
    ∧ exec .delayCalibration s = .next s

/-- A captured edge, a capture packet, and a grain piece that reaches the writer or waits. Rests on
R342, R343, R344, R345, R360, R361, R362. -/
def Obligations.CapturesAndGrains : Prop :=
  ∀ s : State, s.Sound →
    (∀ (c : Fin 32) (rising : Bool) (half : Fin 8) (width : Nat), let g := c.val / 8
      let stamp := 2 * s.clock.time + half.val
      let f := vAt s.sr.caps g
      let u : State := { s with sr := { s.sr with levels := vPut s.sr.levels c (some rising), lastStamp := vPut s.sr.lastStamp c (some stamp) } }
      s.get (F.CAP_LINE_c_EDGE c) = 3 ∨ s.get (F.CAP_LINE_c_EDGE c) = (if rising then 1 else 2) →
      (∀ l, vAt s.sr.lastStamp c = some l → l + 16 ≤ stamp) → s.counting = true →
      4 * s.get (F.CAP_LINE_c_FILTER c) ≤ width → vAt s.sr.levels c ≠ some rising →
      (f.recs.length < 128 → exec (.captureEdge c rising ⟨half, width⟩) s
        = .next (u.modCap g (fun f => ⟨f.recs ++ [(stamp / 2 % 2 ^ 32, stamp / 2 / 2 ^ 32,
            stamp % 2 + 2 ^ 8 * c.val + 2 ^ 16 * bit1 rising + 2 ^ 17 * bit1 f.ovf)], false⟩)))
      ∧ (128 ≤ f.recs.length → ∃ t, exec (.captureEdge c rising ⟨half, width⟩) s = .next t
        ∧ t.sr.caps = vMod s.sr.caps g (fun f => { f with ovf := true }) ∧ t.get (F.CAP_EVT_g_OVERFLOW g) = 1
        ∧ t.get (F.CAP_STAT_g_LOST g) = satAdd 16 (s.get (F.CAP_STAT_g_LOST g)) 1
        ∧ t.sr = { u.sr with caps := t.sr.caps } ∧ t = { s with regs := t.regs, router := t.router, sr := t.sr }
        ∧ s.SameRegs t [A.CAP_STAT_g g, A.CAP_EVT_g g, A.EVT_RISE_s (88 + g)]))
    ∧ (∀ (g : Fin 4) (h n : Nat), s.ownerOf (32 + g) = h → h < 4 → s.get (F.CAP_CTRL_g_DELIVERY g) = 0 → s.linkUp h = true →
      s.awake = true → (vAt s.sr.caps g).recs ≠ [] → s.findTun h 5 (fun n => s.tunUp h n) = some n →
      let full := 64 ≤ (vAt s.sr.caps g).recs.length
      let u := if full then s else s.advanceTo (s.capFlushAt g)
      let out := (vAt s.sr.caps g).recs.take 64
      full ∨ u.capFlushAt g ≤ u.clock.time → u.qTakes (u.upQueue h n false) = true →
      exec (.capturePacket g) s
        = .next ((u.queueUp h n (2 + 2 ^ 3 * out.length) true none
            (wordsBytes (out.flatMap (fun r => [w32 r.1, w32 r.2.1, w32 r.2.2, w32 0])))).modCap g
            (fun f => { f with recs := f.recs.drop 64 })))
    ∧ (∀ (h : Hp) (p : Packet), let n := pktTun p
      let q := vAt (vAt s.bc.downMap h) n
      let waits := ∃ i ∈ (s.queue q).items, ∃ b l y d e z, i.body = .cv n 1 b l y d e z
      s.tunType h n = 1 → s.unitRuns (9 + bitsOf (s.tunW0 h n) 6 3 % 2) = true →
      (s.grainMayStart h n = true → ¬ waits → exec (.grainPiece h p) s = .next (s.grainPacket h n p))
      ∧ (s.grainMayStart h n = false ∨ waits → exec (.grainPiece h p) s
        = .next (s.enqueue q ⟨.cv n 1 (pktTsf p) false (pktLast p) false false none, p.payload,
            8 * ceilDiv p.payload.length 8, false, 0⟩)))

/-- A head's commit from its write to its end, a frame's end, and ENABLE. Rests on R103, R368, R369,
R370, R373, R374, R375, R376, R377, R378. -/
def Obligations.HeadCommits : Prop :=
  ∀ (s : State) (x : Fin 2), s.Sound →
    (∀ a : Agent, s.owns a x = true →
      (s.TakesField a (A.HD_COMMIT x) 0 1 1 → s.get (F.HD_STATUS_PENDING x) = 0 → ∃ t, exec (.hdCommit a x) s = .next t
        ∧ t.get (F.HD_COMMIT_COMMIT x) = 1 ∧ t.get (F.HD_STATUS_PENDING x) = 1 ∧ t.get (F.HD_STATUS_CHECKED x) = 0
        ∧ t.pl = { s.pl with taken := vPut s.pl.taken x false, waits := vPut s.pl.waits x 0 }
        ∧ t = { s with regs := t.regs, pl := t.pl } ∧ s.SameRegs t [A.HD_COMMIT x, A.HD_STATUS x])
      ∧ (s.TakesField a (A.HD_COMMIT x) 1 1 1 → s.get (F.HD_STATUS_PENDING x) = 1 → vAt s.pl.taken x = false →
        exec (.hdCancel a x) s = .next (s.hdEndCommit x 5)))
    ∧ (s.get (F.HD_STATUS_PENDING x) = 1 → s.get (F.HD_STATUS_CHECKED x) = 0 →
      (s.geometryOk x = false → exec (.coverageCheckDone x) s = .next (s.hdEndCommit x 2))
      ∧ (s.geometryOk x = true →
        let m := fetchMax (s.shadowLayers x) (s.get (F.HD_HTIM_H_ACTIVE x)) (s.get (F.HD_VTIM_V_ACTIVE x))
        let u := s.put (F.HD_COMMIT_STATUS_FETCH_MAX x) (min m 4095)
        exec (.coverageCheckDone x) s
          = .next (if u.bandGrains x < m then u.hdEndCommit x 3 else (u.put (F.HD_STATUS_CHECKED x) 1).hdIdleApply x)))
    ∧ (s.get (F.HD_STATUS_RUNNING x) = 1 → s.get (F.HD_STATUS_PENDING x) = 1 →
      (s.hdWaitMet x = true → s.get (F.HD_STATUS_CHECKED x) = 1 →
        exec (.commitPoint x) s = .next { s with pl := { s.pl with taken := vPut s.pl.taken x true } })
      ∧ (s.hdWaitMet x = false → let n := vAt s.pl.waits x + 1
        let max := s.get (F.HD_WAIT_MAX_FRAMES x)
        (max = 0 ∨ n < max → exec (.commitPoint x) s = .next { s with pl := { s.pl with waits := vPut s.pl.waits x n } })
        ∧ (max ≠ 0 → max ≤ n → exec (.commitPoint x) s = .next (s.hdEndCommit x 4))))
    ∧ (∀ r : Fin 8, 2 ≤ r.val → r.val ≤ 4 → let t := s.hdEndCommit x r
      t.get (F.HD_COMMIT_COMMIT x) = 0 ∧ t.get (F.HD_STATUS_PENDING x) = 0 ∧ t.get (F.HD_STATUS_CHECKED x) = 0
      ∧ t.get (F.HD_COMMIT_STATUS_RESULT x) = r ∧ t.get ⟨A.HD_EVT x, 2, 1⟩ = 1
      ∧ t = { s with regs := t.regs, router := t.router, pl := t.pl }
      ∧ s.SameRegs t [A.HD_COMMIT x, A.HD_STATUS x, A.HD_COMMIT_STATUS x, A.HD_EVT x, A.EVT_RISE_s (96 + 8 * x + 2)])
    ∧ (let t := s.hdEndCommit x 5
      t.get (F.HD_COMMIT_COMMIT x) = 0 ∧ t.get (F.HD_STATUS_PENDING x) = 0 ∧ t.get (F.HD_STATUS_CHECKED x) = 0
      ∧ t.get (F.HD_COMMIT_STATUS_RESULT x) = 5 ∧ t = { s with regs := t.regs, pl := t.pl }
      ∧ s.SameRegs t [A.HD_COMMIT x, A.HD_STATUS x, A.HD_COMMIT_STATUS x])
    ∧ (s.get (F.HD_STATUS_RUNNING x) = 1 →
      let u := (s.composeTo x (s.bandCount x)).bump (F.HD_FRAMES_COUNT x) 1
      let u : State := { u with pl := { u.pl with vbAt := vPut u.pl.vbAt x u.clock.time } }
      let v := if u.flag (F.HD_CTRL_VBLANK_EVT x) then u.hdEvt x 0 else u
      exec (.verticalBlanking x) s = .next ((((if vAt v.pl.taken x then v.hdApply x else v).newFrame x).mainStream x).genlock x))
    ∧ (∀ a : Agent, s.owns a x = true →
      (s.TakesField a (A.HD_CTRL x) 0 1 1 → s.get (F.HD_CTRL_ENABLE x) = 0 → s.hdTimingOk x = true →
        let u := s.put (F.HD_CTRL_ENABLE x) 1
        u.ledgerSumNow 8 ≤ u.ledgerLimitNow 8 → exec (.headEnable a x true) s = .next (u.headStart x))
      ∧ (s.TakesField a (A.HD_CTRL x) 0 1 0 → s.get (F.HD_CTRL_ENABLE x) = 1 →
        exec (.headEnable a x false) s = .next ((s.put (F.HD_CTRL_ENABLE x) 0).headStop x)))

/-- A DisplayPort link's plug events, its training steps and retrain, and an AUX transaction. Rests on
R382, R383, R384, R385. -/
def Obligations.DisplayLinks : Prop :=
  ∀ (s : State) (x : Fin 2), s.Sound →
    (s.unitRuns (9 + x) = true →
      (∀ dpcd : List Byte,
        let u := if s.get (F.HD_LINK_STATUS_HPD x) = 0 then (s.put (F.HD_LINK_STATUS_HPD x) 1).hdEvt x 3 else s
        (s.dpState x ≠ Dp.waitHpd ∨ s.awake = false ∨ s.groupOn (s.groupOf 1 x) = false → exec (.hpdHigh x dpcd) s = .next u)
        ∧ (∀ g : Fin 9, s.dpState x = Dp.waitHpd → s.awake = true → s.groupOf 1 x = some g.val → s.get (F.LG_CTRL_ENABLE g) = 1 →
          exec (.hpdHigh x dpcd) s = .next ((u.flexForget g).dpCaps x dpcd)))
      ∧ (let u := (s.put (F.HD_LINK_STATUS_HPD x) 0).hdEvt x 3
        exec (.hpdLow x) s = .next (if s.dpState x = Dp.off then u else u.dpIdle x Dp.waitHpd))
      ∧ (∀ lost, lost = false ∨ s.dpState x ≠ Dp.active → exec (.irqHpd x lost) s = .next (s.hdEvt x 4))
      ∧ (s.dpState x = Dp.active →
        exec (.irqHpd x true) s = .next (((s.hdEvt x 4).hdEvt x 5).dpTrain x (vAt s.pl.cand x))))
    ∧ (s.dpState x = Dp.cr → ∀ adj : BitVec 16, let n := s.get (F.HD_LINK_STATUS_LANES x)
      let reads := vAt s.pl.reads x + 1
      let asked (l : Nat) : Nat := bitsOf adj.toNat (4 * l) 2
      (∃ t, exec (.crWait x true adj) s = .next t ∧ t.get (F.HD_LINK_STATUS_STATE x) = Dp.eq
        ∧ (vAt s.pl.aux x = none → t.out = .aux x 8 0x102 1 [BitVec.ofNat 8 (s.dpPattern x)] :: s.out
          ∧ t.pl = { s.pl with reads := vPut s.pl.reads x 0 })
        ∧ (vAt s.pl.aux x ≠ none → t.out = s.out ∧ t.pl = { s.pl with
            reads := vPut s.pl.reads x 0, auxOwn := vMod s.pl.auxOwn x (· ++ [(0x102, [s.dpPattern x])]) })
        ∧ t = { s with regs := t.regs, out := t.out, pl := t.pl } ∧ s.SameRegs t [A.HD_LINK_STATUS x])
      ∧ ((∃ l < n, s.dpSwing x l = 3) ∨ 5 ≤ reads →
        exec (.crWait x false adj) s = .next (s.dpTrain x (vAt s.pl.cand x + 1)))
      ∧ ((∀ l < n, s.dpSwing x l ≠ 3) → reads < 5 → let same := (List.range n).all (fun l => s.dpSwing x l == asked l)
        let u : State := { s with pl := { s.pl with reads := vPut s.pl.reads x (if same then reads else 0) } }
        exec (.crWait x false adj) s = .next (u.dpLevels x asked (fun l => bitsOf adj.toNat (4 * l + 2) 2))))
    ∧ (s.dpState x = Dp.eq → let reads := vAt s.pl.reads x + 1
      (exec (.eqWait x true true) s
        = .next ((((s.auxWrite x 0x102 [0]).put (F.HD_LINK_STATUS_STATE x) Dp.active).dpLanes x laneActive).hdEvt x 5))
      ∧ (∀ ok, exec (.eqWait x false ok) s = .next (s.dpTrain x (vAt s.pl.cand x + 1)))
      ∧ (6 ≤ reads → exec (.eqWait x true false) s = .next (s.dpTrain x (vAt s.pl.cand x + 1)))
      ∧ (reads < 6 → exec (.eqWait x true false) s = .next { s with pl := { s.pl with reads := vPut s.pl.reads x reads } }))
    ∧ (∀ a : Agent, s.owns a x = true →
      (s.TakesField a (A.HD_LINK_CFG x) 8 1 1 → s.dpState x = Dp.fail →
        exec (.dpRetrain a x) s = .next (s.dpIdle x Dp.waitHpd))
      ∧ (s.TakesField a (A.HD_AUX_CTRL x) 0 1 1 → vAt s.pl.aux x = none →
        let r : AuxReq := ⟨s.get (F.HD_AUX_REQ_CMD x), s.get (F.HD_AUX_REQ_ADDR x), s.get (F.HD_AUX_REQ_LEN_M1 x) + 1, 0, 0⟩
        auxDenied r.cmd r.addr r.len = false → ∃ u, exec (.auxStart a x) s = .next (u.auxSend x r)
          ∧ u.get (F.HD_AUX_CTRL_START x) = 1 ∧ u.get (F.HD_AUX_STATUS_DONE x) = 0
          ∧ u.pl = { s.pl with aux := vPut s.pl.aux x (some r) } ∧ u = { s with regs := u.regs, pl := u.pl }
          ∧ s.SameRegs u [A.HD_AUX_CTRL x, A.HD_AUX_STATUS x]))
    ∧ (∀ (r : AuxReq) (data : List Byte), vAt s.pl.aux x = some r →
      let again (r : AuxReq) : State := ({ s with pl := { s.pl with aux := vPut s.pl.aux x (some r) } } : State).auxSend x r
      exec (.auxReply x 0 data) s = .next (s.auxEnd x 0 (data.take 16))
      ∧ exec (.auxReply x 1 data) s = .next (s.auxEnd x 1 [])
      ∧ exec (.auxReply x 4 data) s = .next (s.auxEnd x 4 [])
      ∧ exec (.auxReply x 2 data) s = .next (if r.defers < 7 then again { r with defers := r.defers + 1 } else s.auxEnd x 2 [])
      ∧ exec (.auxReply x 5 data) s = .next (if r.defers < 7 then again { r with defers := r.defers + 1 } else s.auxEnd x 5 [])
      ∧ exec (.auxReply x 3 data) s = .next (if r.misses < 2 then again { r with misses := r.misses + 1 } else s.auxEnd x 3 []))

/-- PCIe TLPs of both directions, a port's reset, clock and removal, and its containment. Rests on
R249, R282, R294, R389, R396, R397, R398, R399, R400, R401, R402, R403. -/
def Obligations.DrivePorts : Prop :=
  ∀ (s : State) (p : Fin 2), s.Sound →
    (s.unitRuns (11 + p) = true →
      (∀ (h : Hp) (cls : Fin 3) (tlp : List Byte), s.owns h (2 + p) = true → s.awake = true →
        exec (.downstreamTlp h p cls tlp) s = .next (s.pxDown p cls tlp))
      ∧ (∀ tlp : List Byte, s.get (F.PX_STATUS_LINK_UP p) = 1 →
        ((s.pxContained p = true ∨ 4 ≤ s.pxOwner p) →
          exec (.upstreamTlp p tlp) s = .next (s.bump (F.PX_UP_DISCARD_COUNT p) 1))
        ∧ (s.pxContained p = false → s.pxOwner p < 4 → s.tlpFormOk p tlp = false →
          exec (.upstreamTlp p tlp) s = .next (s.pxMalformed p tlp))
        ∧ (s.pxContained p = false → s.pxOwner p < 4 → s.tlpFormOk p tlp = true → s.acsBad p tlp = true →
          exec (.upstreamTlp p tlp) s = .next (if tlpClass (tlpKind tlp) = 1
            then (s.pxError p 21 tlp).emit (.tlp p ((s.pxError p 21 tlp).cplOf p 4 tlp none)) else s.pxError p 21 tlp))
        ∧ (s.pxContained p = false → s.pxOwner p < 4 → s.tlpFormOk p tlp = true → s.acsBad p tlp = false → tlpKind tlp ≠ .msg →
          let u := if s.cfgF p 0x46 8 1 = 1 ∧ ecrcOk tlp = false then (s.bump (F.PX_ECRC_ERR_COUNT p) 1).pxError p 19 tlp else s
          exec (.upstreamTlp p tlp) s = .next (u.pxUp p (tlpClass (tlpKind tlp)) tlp)))
      ∧ (∀ (speed width : Fin 5) (l : DriveIn), exec (.portResetComplete p speed width) s = .next (s.pxDlUp p speed width)
        ∧ (let u := (s.bump (F.PX_REPLAYS_COUNT p) l.replays).bump (F.PX_LINK_RECOVERIES p) l.recoveries
          exec (.driveLinkChange p true speed l) s = .next ((u.pxEqualise p speed l.eq).pxDlUp p speed l.width)
          ∧ (s.get (F.PX_STATUS_PRESENT p) = 1 → exec (.driveLinkChange p false speed l) s = .next (u.pxDlDown p))))
      ∧ (s.get (F.PX_STATUS_PRESENT p) = 1 →
        let u := ((s.put (F.PX_STATUS_PRESENT p) 0).pxEvt p 1).cfgSet p 0x1E (2 ^ 19)
        let v := (if u.cfgF p 0x1E 5 1 = 1 ∧ u.cfgF p 0x1E 3 1 = 1 then u.pxNotify p else u).modPc p
          (fun c => { c with begun := (c.begun.1, c.begun.2.1, c.begun.2.2.1, true) })
        let w := (if v.get (F.PX_STATUS_LINK_UP p) = 0 then v else v.pxError p 5 []).pxDlDown p
        exec (.surpriseRemoval p) s = .next (if w.pxOwner p < 4 then w.pxSweep (w.pxOwner p) p 1 else w))
      ∧ (s.get (F.PX_STATUS_PRESENT p) = 0 → s.get (F.PX_STATUS_LINK_UP p) = 0 →
        let u := ((s.put (F.PX_STATUS_PRESENT p) 0).modPc p
          (fun c => { c with begun := (c.begun.1, c.begun.2.1, c.begun.2.2.1, true) })).pxDlDown p
        exec (.surpriseRemoval p) s = .next (if u.pxOwner p < 4 then u.pxSweep (u.pxOwner p) p 1 else u))
      ∧ (s.get (F.PX_STATUS_PRESENT p) = 0 →
        let u := ((s.put (F.PX_STATUS_PRESENT p) 1).pxEvt p 1).cfgSet p 0x1E (2 ^ 19)
        let v := if u.cfgF p 0x1E 5 1 = 1 ∧ u.cfgF p 0x1E 3 1 = 1 then u.pxNotify p else u
        exec (.driveInsertion p) s = .next (if (v.pc p).begun.2.2.2
          then (v.modPc p (fun c => { c with begun := (c.begun.1, c.begun.2.1, c.begun.2.2.1, false) })).pxResetMade p else v))
      ∧ (∀ (fatal : Bool) (source : BitVec 16), s.dpcTakes p fatal = true →
        exec (.dpcTrigger p fatal source) s
          = .next ((s.pxEvt p (if fatal then 4 else 5)).pxDpc p (if fatal then 2 else 1) source.toNat)))
    ∧ ((s.pc p).deadline = true → s.get (F.PX_DEADLINE_TICKS p) = 0 →
      exec (.resetDeadlineExpiry p) s = .next (((s.modPc p
        (fun c => { c with deadline := false, expired := true })).pxEvt p 3).pxPerst p))
    ∧ (s.perstHeld p = false → s.get (F.PX_STATUS_REFCLK_ON p) = 1 → s.awake = true → ∃ t, exec (.perstRelease p) s = .next t
      ∧ t.get (F.PX_STATUS_PERST p) = 0 ∧ t = { s with regs := t.regs } ∧ s.SameRegs t [A.PX_STATUS p])
    ∧ (s.get (F.PX_CTRL_ENABLE p) = 1 → s.get (F.PX_CTRL_CLKREQ_EN p) = 1 → ∀ high : Bool, ∃ t,
      exec (.clkreqChange p high) s = .next t ∧ t.get (F.PX_STATUS_REFCLK_ON p) = (if high then 0 else 1)
      ∧ t = { s with regs := t.regs } ∧ s.SameRegs t [A.PX_STATUS p])
    ∧ (∀ (h : Hp) (n : Nat), (s.link h).downSince = some n → s.linkUp h = false → vAt s.own.watch h = none → s.inForce = true →
      let u := s.advanceTo (n + 4004)
      let v := if vAt u.own.linkTrig h = true then u else u.linkAbsent h
      exec (.linkDownTrigger h) s
        = .next ((v.modOwn (fun o => { o with linkTrig := vPut o.linkTrig h true })).recordTrigger h false))
    ∧ (∀ (h : Hp) (n : Nat), vAt s.own.watch h = some n → s.linkUp h = false →
      exec (.watchInstant h) s = .next (((s.advanceTo n).modOwn (fun o => { o with watch := vPut o.watch h none })).modLink h
        (fun l => { l with downSince := some n })))

/-- A frame on a switch port, the forwarding table, the gates, and the gPTP exchanges. Rests on R408,
R415, R416, R421, R426, R428, R429, R432, R638. -/
def Obligations.SwitchAndGptp : Prop :=
  ∀ s : State, s.Sound →
    (∀ (q : Fin 8) (frame : List Byte) (ok : EthIn) (n : Fin 64) (req : Bool) (i : Byte) (tc : Fin 8), s.awake = true →
      (q.val < 4 → exec (.ethFrameReceive q frame ok n req i tc) s = .next (s.ethFromWire q frame ok))
      ∧ (4 ≤ q.val → exec (.ethFrameReceive q frame ok n req i tc) s
        = .next (s.ethFromHost (q.val - 4) n tc i.toNat req frame)))
    ∧ (s.get F.ETH_AGE_SEC ≠ 0 → exec .fdbAgeOut s
        = .next (s.fdbPut (s.et.fdb.filter (fun e => decide (s.clock.time < e.time + s.get F.ETH_AGE_SEC * 1000000000)))))
    ∧ (∀ (a : Agent) (v : Word), s.TakesWords a A.ETH_FDB_FLUSH [v] → s.sharedWriter a = true →
      bitsOf v.toNat 0 12 ≠ 0 ∨ bitsOf v.toNat 16 1 = 1 →
      exec (.ethFdbFlush a v) s = .next (s.fdbFlush (bitsOf v.toNat 0 12 + 2 ^ 16 * bitsOf v.toNat 16 1)))
    ∧ (∀ p : Fin 4,
      (∀ l t0 e : Nat, vAt s.et.oper p = some (l, t0) → let es := s.gclEntries p l
        let cycle := (es.map (·.2)).sum
        let pos := (s.clock.time - t0) % cycle
        cycle ≠ 0 → t0 ≤ s.clock.time →
        ((List.range es.length).map (fun i => ((es.take (i + 1)).map (·.2)).sum)).find? (fun e => decide (pos < e)) = some e →
        exec (.gateEntryStart p) s = .next (s.advanceTo (s.clock.time + (e - pos))))
      ∧ (s.get (F.GP_CTRL_p_EN p) = 1 → s.unitRuns 13 = true → s.get (F.ETH_PSTATUS_LINK p) = 1 → s.awake = true →
        ∀ (d : Nat) (ppb : Int), let r := (s.advanceTo (vAt s.et.pdNext p)).pdRequest p
        let u := (r.put (F.GP_DELAY_p_NS p) (min d (2 ^ 32 - 1))).put (F.GP_RATIO_p_PPB p) (toBits 32 (clampSigned 32 ppb))
        let n := min 3 (vAt r.et.good p + 1)
        let v : State := { u with et := { u.et with good := vPut u.et.good p n } }
        exec (.pdelayExchange p true d ppb) s
          = .next (if d ≤ 16 * u.get (F.GP_CTRL_p_THRESH p) then (if n = 3 then v.asCapable p true else v)
            else ({ u with et := { u.et with good := vPut u.et.good p 0 } } : State).asCapable p false)
        ∧ exec (.pdelayExchange p false d ppb) s
          = .next (({ r with et := { r.et with good := vPut r.et.good p 0 } } : State).asCapable p false))
      ∧ (s.get (F.GP_CTRL_p_EN p) = 1 → s.get (F.GP_STATUS_p_AS_CAPABLE p) = 1 → ∀ (o : SyncIn) (c : Int),
        exec (.syncReceive p o c) s = .next ((s.put (F.GP_STATUS_p_SYNC_OK p) 1).measured (1 + p)
          ((o.origin : Int) + c + (((s.get (F.GP_DELAY_p_NS p) : Nat) : Int) * (1000000000 + signedOf 32 (s.get (F.GP_RATIO_p_PPB p))))
            / 16000000000 - ((s.todAt (s.clock.time + o.fine) : Nat) : Int))))
      ∧ (s.get (F.GP_CTRL_p_EN p) = 1 → s.unitRuns 13 = true → s.awake = true → exec (.syncTimeout p) s = .next ((s.put (F.GP_STATUS_p_SYNC_OK p) 0).gptpChg p))
      ∧ (s.unitRuns 13 = true → s.ethLane p ≠ none →
        (s.get (F.ETH_PCTRL_ENABLE p) = 1 → s.ethGroupOn p = true → s.awake = true → exec (.ethLinkChange p true) s = .next ((s.ethFresh p).ethLink p true))
        ∧ exec (.ethLinkChange p false) s = .next ((s.ethLink p false).gptpStop p)))

/-- A face's attach, reset, suspend, resume and L1, and its management function's transfers. Rests on
R434, R440, R445, R448, R449, R450, R451, R452, R453. -/
def Obligations.UsbFaces : Prop :=
  ∀ (s : State) (h : Hp), s.Sound →
    exec (.faceAttachChange h) s = .next (s.face h)
    ∧ (∀ st : Fin 8, let t := s.faceFall h st
      t.get (F.UF_STATUS_STATE h) = st ∧ t.get (F.UF_STATUS_ADDRESS h) = 0 ∧ t.get (F.UF_STATUS_ALT_TT h) = 0
      ∧ vAt t.us.tt h = Vector.replicate 8 (0, 0))
    ∧ (∀ high : Bool, bitAt (s.get F.USB_STATUS_ATTACHED) h = true →
      let u := ((s.ufEvt h 0).faceFall h 1).put (F.UF_STATUS_SPEED h) (if high then 2 else 1)
      exec (.faceBusReset h high) s = .next ((((u.each (List.range 8) (fun s n =>
          let s := s.modView h n (fun v => v.upd 0 0x100 0)
          if s.visible h n then s.ppc n else s)).modView h 8 (fun v => v.upd 0 0x736 0)).mfFall h 0).mfReset h))
    ∧ (∀ st mf : Nat, s.get (F.UF_STATUS_STATE h) = st → s.get (F.UF_STATUS_MF_STATE h) = mf →
      (1 ≤ st → st ≤ 3 →
        ∃ t, exec (.faceSuspend h) s = .next t ∧ t.get (F.UF_STATUS_STATE h) = 4
          ∧ t.get (F.UF_STATUS_MF_STATE h) = (if 1 ≤ mf ∧ mf ≤ 3 then 4 else mf)
          ∧ t.us = { s.us with before := vMod s.us.before h (fun b => (st, if mf ≤ 3 then mf else b.2)) }
          ∧ t.get ⟨A.UF_EVT h, 3, 1⟩ = 1 ∧ t = { s with regs := t.regs, router := t.router, us := t.us }
          ∧ s.SameRegs t [A.UF_STATUS h, A.UF_EVT h, A.EVT_RISE_s (152 + h)])
      ∧ (st = 4 ∨ st = 5 → let b := vAt s.us.before h
        let u := (s.resumeMeets h).put (F.UF_STATUS_STATE h) b.1
        exec (.faceResume h) s = .next ((if bitAt (u.view h 8).st 2 = false ∧ bitAt (u.view h 8).st 5 = false
            then u.put (F.UF_STATUS_MF_STATE h) b.2 else u).ufEvt h 3)
        ∧ (s.mfConnected h = true → (vAt s.us.wakeEn h).1 = true → vAt s.us.driven h = none →
          s.attnF h = true ∨ s.attnN h = true ∨ (s.agent h).ownChg = true →
          exec (.mfRemoteWake h) s = .next (s.faceDrives h 8))))
    ∧ (∀ splits : List Split, let u := splits.foldl (fun s x => s.takeSplit h x) s
      1 ≤ u.get (F.UF_STATUS_STATE h) → u.get (F.UF_STATUS_STATE h) ≤ 3 →
      let idle := u.get (F.UF_CTRL_LPM_EN h) = 1 ∧ vAt u.usbQ h = [] ∧ u.ep3Due h = false
          ∧ ∀ n < 8, u.visible h n = true → u.get (F.DS_STATUS_n_TT_BUSY n) = 0
      (idle → exec (.lpmL1Request ⟨h, splits⟩) s = .next ((u.faceSleeps h 5).emit (.usbSignal h 2)))
      ∧ (¬ idle → exec (.lpmL1Request ⟨h, splits⟩) s = .next (u.emit (.usbSignal h 3))))
    ∧ (s.mfConnected h = true → exec (.mfAbort h) s = .next (s.mfReset h)
      ∧ (1 ≤ s.get (F.UF_STATUS_MF_STATE h) → s.get (F.UF_STATUS_MF_STATE h) ≤ 3 →
        exec (.getReport ⟨h, .report⟩) s = .next (s.ep3Send h 0)))
    ∧ (s.mfConnected h = true → s.get (F.UF_STATUS_MF_STATE h) = 3 →
      exec (.ep3Poll h) s = .next (if s.ep3Due h then s.ep3Send h 3 else s.mfSays h 4)
      ∧ (∀ (r : Reply) (rest : List Reply), vAt s.usbQ h = r :: rest →
        let st := s.statusWord h r.result
        let u := (s.modAgent h (fun g => { g with
          lastTag := r.tag, lastOp := r.opcode, lastResult := r.result, lastStatus := st })).statusSent h
        let ps := usbPackets (s.bulkSize h) (replyBytes st r.tag r.opcode r.data)
        let v : State := { u with usbQ := vPut u.usbQ h rest,
                                  us := { u.us with bufs := vMod u.us.bufs h (fun b => { b with ep2 := ps.getLastD [] }) } }
        exec (.ep2Reply h) s = .next ((ps.foldl (fun s p => s.emit (.usb h 2 p)) v).bump (F.UF_MF_COUNT_REPLIES_OUT h) 1))
      ∧ (s.transportShut .usb = false → ∀ bytes : List Byte,
        let bs := vAt s.us.part h ++ bytes
        let need := 8 + 4 * frameWords (w32 (ofBytesLE (bs.take 4)))
        let u : State := { s with us := { s.us with part := vPut s.us.part h [] } }
        ((∃ x ∈ (s.agent h).held, x.1 = .usb) →
          exec (.ep1Packet h bytes) s = .next (s.mfSays h (if s.get (F.UF_STATUS_SPEED h) = 2 then 3 else 4)))
        ∧ ((∀ x ∈ (s.agent h).held, x.1 ≠ .usb) → bs ≠ [] →
          (∀ f, bs.length = need → frameOfBytes bs = some f → exec (.ep1Packet h bytes) s
            = .next ((((u.ep1Put h bytes).bump (F.UF_MF_COUNT_FRAMES_IN h) 1).frameArrives h .usb f).ep1Free h))
          ∧ (bs.length < need → exec (.ep1Packet h bytes) s
            = .next (if bytes.length < (if s.get (F.UF_STATUS_SPEED h) = 2 then 512 else 64) then u.malformed h .usb
              else { s with us := { s.us with part := vPut s.us.part h bs } }))
          ∧ (need < bs.length → exec (.ep1Packet h bytes) s = .next (u.malformed h .usb)))))
    ∧ (∀ (a : Agent) (on : Bool), (a.val = h.val ∨ a.val = 4) → s.TakesField a (A.UF_CTRL h) 0 1 (bit1 on) →
      s.get (F.UF_CTRL_MF_CONNECT h) ≠ bit1 on →
      let u := s.put (F.UF_CTRL_MF_CONNECT h) (bit1 on)
      exec (.mfConnectWrite a h on) s
        = .next (if bitAt (u.get F.USB_STATUS_ATTACHED) h then u.mfConnect h (u.mfConnected h) else u))

/-- The hub requests that a face sends to a port it sees and to port 9. Rests on R438, R441, R442,
R444, R445, R447, R453. -/
def Obligations.PortRequests : Prop :=
  ∀ (s : State) (h : Hp), s.Sound →
    (∀ (n : Fin 9), n ≠ 8 → s.reaches h n = true →
      (s.dsState n = Ds.disabled ∨ s.dsState n = Ds.enabled → exec (.setPortReset h n) s
        = .next ((s.dsTo n Ds.resetting).modView h n (fun v => v.upd 0x10 2 0)))
      ∧ (s.dsState n = Ds.enabled →
        exec (.clearPortEnable h n) s = .next ((s.dsTo n Ds.disabled).modView h n (fun v => v.upd 0 2 0))
        ∧ exec (.setPortSuspend h n) s = .next ((s.dsTo n Ds.suspended).modView h n (fun v => v.upd 4 0 0))
        ∧ exec (.setPortL1 h n true) s = .next ((s.dsTo n Ds.l1).modView h n (fun v => v.upd 0x20 0 0)))
      ∧ (s.dsState n = Ds.suspended → exec (.clearPortSuspend h n) s = .next (s.dsTo n Ds.resuming))
      ∧ (s.dsState n = Ds.l1 →
        exec (.clearPortSuspend h n) s = .next ((s.dsTo n Ds.enabled).modView h n (fun v => v.upd 0 0x20 0)))
      ∧ (s.dsState n = Ds.resuming → exec (.clearPortSuspend h n) s = .next (s.bump (F.DS_WAKE_n_COLLISIONS n) 1)))
    ∧ (∀ (n : Fin 9) (st : Fin 8) (f : View → View),
      let t := (s.dsTo n st).modView h n f
      t.dsState n = st ∧ t.us = { s.us with views := vMod s.us.views h (fun v => vMod v n f) }
      ∧ t = { s with regs := t.regs, us := t.us } ∧ s.SameRegs t [A.DS_STATUS_n n]
      ∧ ∀ m : Fin 9, m ≠ n → t.dsState m = s.dsState m)
    ∧ (∀ n : Fin 9, n ≠ 8 → bitAt (s.get F.USB_STATUS_ATTACHED) h = true →
      (let u := s.modView h n (fun v => v.upd 0x100 0 0)
       exec (.setPortPower h n) s = .next (if u.visible h n then u.ppc n else u))
      ∧ (let u := s.modView h n (fun v => v.upd 0 0x100 0)
        exec (.clearPortPower h n) s = .next (if u.visible h n then u.ppc n else u)))
    ∧ (s.mfConnected h = true →
      exec (.setPortReset h 8) s = .next (((s.modView h 8 (fun v =>
        v.upd (if s.get (F.UF_STATUS_SPEED h) = 2 then 0x402 else 2) 0x424 0x10)).mfFall h 1).mfReset h)
      ∧ exec (.clearPortEnable h 8) s = .next (s.modView h 8 (fun v => v.upd 0 2 0))
      ∧ (bitAt (s.view h 8).st 1 = true →
        exec (.setPortSuspend h 8) s = .next ((s.modView h 8 (fun v => v.upd 4 0 0)).mfSleeps h 4)
        ∧ exec (.setPortL1 h 8 true) s = .next ((s.modView h 8 (fun v => v.upd 0x20 0 0)).mfSleeps h 5))
      ∧ (bitAt (s.view h 8).st 2 = true ∨ bitAt (s.view h 8).st 5 = true → exec (.clearPortSuspend h 8) s
        = .next ((s.modView h 8 (fun v => v.upd 0 0x24 (if bitAt v.st 2 then 4 else 0))).put (F.UF_STATUS_MF_STATE h)
          (vAt s.us.before h).2)))

/-- What happens on a downstream port: connects, resets, resumes, wakes, power and over-current. Rests
on R438, R439, R442, R443, R444, R455. -/
def Obligations.PortEvents : Prop :=
  ∀ (s : State) (n : Fin 8), s.Sound →
    (s.usbRuns = true →
      (∀ d : ConnIn, s.dsState n = Ds.disconnected → s.spreadHold = false → s.get (F.DS_STATUS_n_CHG n) ≠ 2 →
        let u := if d.vdp = true ∧ s.get (F.DS_STATUS_n_CHG n) = 1 then s.emit (.usbSignal (4 + n.val) 6) else s
        exec (.portConnectDetect n d) s = .next ((((u.dsTo n Ds.disabled).ownView n (if d.low then 0x201 else 1)
          (if d.low then 0x400 else 0x600) 1).put (F.DS_STATUS_n_SPEED n) (if d.low then 1 else 2)).bump (F.DS_COUNT_n_CONNECTS n) 1))
      ∧ exec (.portDisconnect n) s = .next (s.dsDisconnect n)
      ∧ (s.dsState n = Ds.resetting → let low := s.get (F.DS_STATUS_n_SPEED n) = 1
        exec (.portResetDone n true) s = .next (if low
          then ((s.dsTo n Ds.enabled).ownView n 2 0x410 0x10).put (F.DS_STATUS_n_SPEED n) 1
          else ((s.dsTo n Ds.enabled).ownView n 0x402 0x410 0x10).put (F.DS_STATUS_n_SPEED n) 3)
        ∧ exec (.portResetDone n false) s
          = .next (((s.dsTo n Ds.enabled).ownView n 2 0x410 0x10).put (F.DS_STATUS_n_SPEED n) (if low then 1 else 2)))
      ∧ (s.dsState n = Ds.resuming → exec (.portResumeDone n) s = .next ((s.dsTo n Ds.enabled).ownView n 0 4 4))
      ∧ (s.dsState n = Ds.enabled →
        exec (.portBabble n) s = .next (((s.dsTo n Ds.disabled).ownView n 0 2 2).dsEvt n 3))
      ∧ (∀ k : WakeIn, k.port = n →
        (s.dsState n = Ds.resuming → exec (.deviceRemoteWake k) s = .next (s.bump (F.DS_WAKE_n_COLLISIONS n) 1))
        ∧ (s.dsState n = Ds.l1 → exec (.deviceRemoteWake k) s = .next (((s.dsTo n Ds.enabled).ownView n 0 0x20 0).wakeUp k))
        ∧ (s.dsState n = Ds.suspended → exec (.deviceRemoteWake k) s = .next ((s.dsTo n Ds.resuming).wakeUp k))
        ∧ (s.dsState n = Ds.disabled → 4 ≤ s.ownerOf (40 + n) → exec (.deviceRemoteWake k) s = .next (s.wakeUp k)))
      ∧ (s.get (F.DS_STATUS_n_PPC n) = 1 → s.dsState n = Ds.off → s.get (F.DS_CTRL_n_POWER_CYCLE n) = 0 →
        ∃ t, exec (.pwr2goodElapsed n) s = .next t ∧ t.dsState n = Ds.disconnected ∧ t = { s with regs := t.regs }
          ∧ s.SameRegs t [A.DS_STATUS_n n]))
    ∧ (s.get (F.DS_CTRL_n_POWER_CYCLE n) = 1 →
      exec (.pwr2goodElapsed n) s = .next ((s.put (F.DS_CTRL_n_POWER_CYCLE n) 0).ppc n))
    ∧ (s.get (F.DS_CFG_n_PWR_MODE n) ≠ 2 → s.get (F.DS_STATUS_n_OC n) = 0 → s.unitRuns 14 = true →
      let u := (s.put (F.DS_STATUS_n_OC n) 1).ownView n 8 0x100 8
      let v : State := { u with us := { u.us with ocWait := vPut u.us.ocWait n (u.get (F.DS_CFG_n_PWR_MODE n) == 1) } }
      exec (.overCurrent n) s = .next (((v.bump (F.DS_COUNT_n_OC n) 1).dsEvt n 0).ppc n))
    ∧ (s.get (F.DS_STATUS_n_OC n) = 1 →
      exec (.overCurrentClear n) s = .next (((s.put (F.DS_STATUS_n_OC n) 0).ownView n 0 8 0).ppc n))
    ∧ (vAt s.us.ocWait n = true → s.get (F.DS_STATUS_n_OC n) = 0 →
      let u : State := { s with us := { s.us with ocWait := vPut s.us.ocWait n false } }
      exec (.ocRetry n) s = .next ((u.bump (F.DS_COUNT_n_OC n) 1).ppc n))
    ∧ (∀ a : Agent, s.owns a (40 + n) = true → s.TakesField a (A.DS_CTRL_n n) 0 1 1 →
      exec (.dsPowerCycle a n) s = .next ((s.put (F.DS_CTRL_n_POWER_CYCLE n) 1).ppc n))

/-- A field bus's transactions, its keep, its receivers and its posted-write errors. Rests on R457,
R462, R463, R464, R465, R466, R470, R472, R474, R475, R476, R495. -/
def Obligations.FieldBuses : Prop :=
  ∀ (s : State) (b : Fin 20), s.Sound →
    exec (.fieldTransactionStart b) s = .next (s.fieldStart b true 16)
    ∧ (∀ (t : FieldTxn) (l : List FieldTxn), s.busRuns b = true → (s.fb b).cur = none → (s.fb b).keep = none →
      (s.fb b).launched = t :: l →
      exec (.fieldTransactionStart b) s = .next ((s.modFb b (fun f => { f with launched := l })).fieldBegin b t true))
    ∧ (∀ (t : FieldTxn) (done : BitVec 16) (data : List Byte), (s.fb b).cur = some t →
      let u := (s.modFb b (fun f => { f with cur := none })).bump (F.WD_TX_COUNT_COUNT b) 1
      let cnt := fieldCnt t.addr t.write
      let v := if t.posted then u.postedDone t.agent else if t.orphan then u
        else if t.write then u.complete t.agent t.tag R.ok [w32 (ceilDiv t.bytes.length 4)]
        else u.complete t.agent t.tag R.ok (bytesWords ((data ++ List.replicate cnt 0).take cnt ++ [0, 0, 0]))
      (exec (.fieldTransactionEnd b 0 done data) s = .next ((if fieldKeep t.addr t.write
        then v.modFb b (fun f => { f with keep := some ⟨t.id, t.agent, bitsOf t.addr 23 2, v.clock.time⟩ }) else v).busRegs b
          |>.mdWaiting b |>.fieldStart b false 16))
      ∧ (∀ c : Fin 8, c ≠ 0 → let w := if c = 3 then u.busEvt b 0 else if c = 4 then u.busEvt b 1 else u
        exec (.fieldTransactionEnd b c done data) s = .next ((((w.fieldFail b t c done.toNat).busRegs b).mdWaiting b).fieldStart b false 16)))
    ∧ (∀ k : FieldKeep, (s.fb b).keep = some k → (∀ t ∈ (s.fb b).queue, t.follower ≠ some k.id) →
      exec (.keepTimeout b) s
        = .next ((((s.advanceTo (k.at_ + 20000)).modFb b (fun f => { f with keep := none })).mdWaiting b).fieldStart b false 16))
    ∧ (∀ a : Agent, s.boardOrService a = true → s.TakesField a (A.WD_BUS_CTRL b) 0 1 0 → s.get (F.WD_BUS_CTRL_ENABLE b) = 1 →
      exec (.busDisable a b) s = .next ((s.put (F.WD_BUS_CTRL_ENABLE b) 0).busStop b))
    ∧ (∀ (c : Fin 4) (w0 w1 : Word) (data : RxIn), let b := 12 + c.val
      let n := bitsOf w1.toNat 0 7
      s.busRuns b = true → (∀ i < 8, s.get (F.WD_CAN_FILT_i_EN b i) = 0) ∨ (∃ i < 8, s.canMatch b i w0.toNat = true) →
      exec (.canFrameReceive c w0 w1 data) s
        = .next (s.rxStore b 64 ⟨[w0, w1, w32 (data.start % 2 ^ 32), w32 (data.start / 2 ^ 32)]
            ++ padWords ((data.bytes ++ List.replicate n 0).take n), 1, s.clock.time⟩))
    ∧ (∀ (c : Fin 4) (st : Fin 3), let b := 12 + c.val
      s.get (F.WD_BUS_STATUS_CAN_STATE b) ≠ st → s.unitRuns 15 = true →
      ∃ t, exec (.canStateChange c st) s = .next t ∧ t.get (F.WD_BUS_STATUS_CAN_STATE b) = st
        ∧ (st = 1 → t.get ⟨A.WD_BUS_EVT b, 3, 1⟩ = 1) ∧ (st = 2 → t.get ⟨A.WD_BUS_EVT b, 2, 1⟩ = 1)
        ∧ t = { s with regs := t.regs, router := t.router }
        ∧ s.SameRegs t [A.WD_BUS_STATUS b, A.WD_BUS_EVT b, A.EVT_RISE_s 172])
    ∧ (∀ (u : Fin 4) (bytes : RxIn) (errors : BitVec 4), let bs := bytes.bytes.take 64
      s.busRuns (16 + u.val) = true → bytes.bytes ≠ [] →
      exec (.uartRecordClose u bytes errors) s
        = .next (s.rxStore (16 + u.val) 1024 ⟨[w32 (bs.length + 65536 * errors.toNat), w32 (bytes.start % 2 ^ 32),
            w32 (bytes.start / 2 ^ 32)] ++ padWords bs, bs.length, s.clock.time⟩))
    ∧ (∀ (h n : Nat) (r : RxRec) (l : List RxRec), s.ownerOf (busRes b) = h → h < 4 → (s.fb b).rx = r :: l →
      s.get (F.WD_RX_CTRL_DELIVERY b) = 0 → s.linkUp h = true → s.busRuns b = true → s.findTun h 4 (s.tunUp h) = some n →
      exec (.fieldRxDelivery b) s = .next (if s.get (F.WD_RX_CTRL_WATERMARK b) ≤ s.get (F.WD_RX_STAT_FILL b) then s.rxSend h n b 64
        else (s.advanceTo (r.at_ + 125 * s.get (F.WD_RX_CTRL_FLUSH b))).rxSend h n b 64))
    ∧ (∀ (a : Agent) (h : Hp), a.val = h.val → s.TakesField a (A.WD_PERR_POP_h h) 0 1 1 →
      exec (.wdPerrPop a h) s = .next (s.perrPop h))

/-- A module's approver host accepts, rejects or rechecks it. Rests on R485, R489, R491, R638. -/
def Obligations.ModuleDecisions : Prop :=
  ∀ (s : State) (a : Agent) (m : Fin 8), s.approver m = a → a.val < 4 →
    (s.TakesField a (A.WD_MOD_CTRL m) 0 1 1 →
      (s.mdState m = Md.await → exec (.moduleApprove a m) s
        = .next (((s.setSlot m (fun d => { d with digest := some (s.mdDigest m) })).mdTo m Md.accepted).mdClear m))
      ∧ (s.mdState m ≠ Md.await → exec (.moduleApprove a m) s = .next s))
    ∧ (s.TakesField a (A.WD_MOD_CTRL m) 1 1 1 →
      (s.mdState m = Md.await → exec (.moduleReject a m) s = .next ((s.mdReject m 8).mdClear m))
      ∧ (s.mdState m ≠ Md.await → exec (.moduleReject a m) s = .next s))
    ∧ (s.TakesField a (A.WD_MOD_CTRL m) 2 1 1 → s.mdState m = Md.accepted ∨ s.mdState m = Md.rejected ∨ s.mdState m = Md.fault →
      exec (.moduleRecheck a m) s = .next ((s.mdRead m true).mdClear m))

/-- A Type-C port from its terminations to attach and detach, ENABLE, REARM and moisture. Rests on
R500, R504, R505, R506, R526, R530, R531. -/
def Obligations.PortAttach : Prop :=
  ∀ (s : State) (p : Fin 4), s.Sound → s.power ≠ 4 →
    (s.tcState p = Tc.unattached → s.tcMode p = 2 → exec (.drpToggle p) s
      = .next ((s.modTc p (fun t => { t with rp := !t.rp })).rpFollow p))
    ∧ (∀ (c1 c2 : Fin 4) (seen : CcIn),
      let u0 := s.modTc p (fun t => { t with cc := (c1.val, c2.val) })
      let u := if s.isSrc p then u0 else u0.modTc p (fun t => { t with seen := seen.rp.val })
      (s.tcState p = Tc.snk → s.isSrc p = false →
        exec (.ccTerminationChange p c1 c2 seen) s = .next ((u.rpFollow p).tcSettle p))
      ∧ (s.tcState p = Tc.unattached ∨ s.tcState p = Tc.waitSrc ∨ s.tcState p = Tc.waitSnk → s.tcRuns p = true →
        let rp := if s.tcState p = Tc.waitSrc then true else if s.tcState p = Tc.waitSnk then false
          else (s.tcp p).rp || s.tcMode p == 1
        (∀ n : Nat, tcTarget rp c1 c2 seen.vbus = n → n ≠ Tc.audio → n ≠ Tc.debug →
          exec (.ccTerminationChange p c1 c2 seen) s = .next ((u.tcTo p n).rpFollow p))
        ∧ (tcTarget rp c1 c2 seen.vbus = Tc.audio →
          exec (.ccTerminationChange p c1 c2 seen) s = .next ((((u.tcTo p Tc.audio).tcEvt p 4).tcEvt p 0).rpFollow p))
        ∧ (tcTarget rp c1 c2 seen.vbus = Tc.debug →
          exec (.ccTerminationChange p c1 c2 seen) s = .next (((((((u.tcEnter p Tc.debug).modTc p (fun t => { t with srcEn := u.dryPort p })).setRole p
              (F.TC_STATUS_PR p) true).tcEvt p 4).tcEvt p 0).rpFollow p).faces))))
    ∧ (∀ rp : Fin 4,
      (s.tcState p = Tc.waitSrc → s.get (F.TC_STATUS_WET p) = 0 →
        exec (.ccDebounce p rp) s = .next ((s.attachSrc p ((s.tcp p).cc.2 == 2)).tcSettle p))
      ∧ (s.tcState p = Tc.waitSrc → s.get (F.TC_STATUS_WET p) = 1 →
        exec (.ccDebounce p rp) s = .next (((s.tcTo p Tc.unattached).tcFlt p 0).rpFollow p))
      ∧ (s.tcState p = Tc.waitSnk →
        let u := (s.put (F.TC_STATUS_ORIENT p) (bit1 ((s.tcp p).cc.2 == 3))).modTc p (fun t => { t with seen := rp.val })
        exec (.ccDebounce p rp) s = .next (if bitAt (u.tcConfig p) 2 = true ∧ s.get (F.TC_STATUS_WET p) = 0
          then ((u.tcTo p Tc.trySrc).modTc p (fun t => { t with rp := true })).rpFollow p else (u.attachSnk p).tcSettle p)))
    ∧ (s.tcState p = Tc.trySrc →
      (∀ cc2 : Bool, exec (.tryCcDebounce p cc2) s = .next (if s.get (F.TC_STATUS_WET p) = 0 then (s.attachSrc p cc2).tcSettle p
        else (((s.tcTo p Tc.unattached).modTc p (fun t => { t with rp := s.tcMode p == 1 })).tcFlt p 0).rpFollow p))
      ∧ exec (.drpTryTimeout p) s = .next (((s.modTc p (fun t => { t with rp := false })).attachSnk p).tcSettle p))
    ∧ (s.tcState p = Tc.src ∨ (s.tcState p = Tc.snk ∧ s.tcBusy p = true) ∨ s.tcState p = Tc.waitSrc ∨ s.tcState p = Tc.waitSnk →
      exec (.ccOpen p) s = .next (s.tcLeave p Tc.unattached))
    ∧ (s.tcState p = Tc.snk → s.tcBusy p = false → exec (.vbusLoss p) s = .next (s.tcLeave p Tc.unattached))
    ∧ (s.tcState p = Tc.snk → (s.tcp p).wait = .psRdy → exec (.vbusLoss p) s
      = .next ((s.modTc p (fun t => { t with lost := true })).sysInput))
    ∧ (s.tcState p = Tc.audio ∨ s.tcState p = Tc.debug → exec (.accessoryDetach p) s = .next (s.tcLeave p Tc.unattached))
    ∧ (s.tcState p = Tc.recovery → ∃ t, exec (.errorRecoveryEnd p) s = .next t ∧ t.tcState p = Tc.disabled
      ∧ t.get ⟨A.TC_FLT p, 2, 1⟩ = 1 ∧ t = { s with regs := t.regs, router := t.router }
      ∧ s.SameRegs t [A.TC_STATUS p, A.TC_FLT p, A.EVT_RISE_s (241 + 2 * p)])
    ∧ (∀ (a : Agent) (on : Bool), s.boardOrService a = true → s.TakesField a (A.TC_CTRL p) 0 1 (bit1 on) →
      s.get (F.TC_CTRL_ENABLE p) ≠ bit1 on → on = true ∨ s.get (F.TC_STATUS_SYS_INPUT p) = 0 →
      exec (.tcEnable a p on) s = .next ((s.put (F.TC_CTRL_ENABLE p) (bit1 on)).tcEnable p on))
    ∧ (∀ a : Agent, a.val = p.val ∨ a.val = 4 ∨ s.sharedWriter a = true → s.TakesField a (A.TC_CTRL p) 1 1 1 →
      s.tcState p = Tc.disabled → s.tcRuns p = true →
      exec (.tcRearm a p) s = .next (((s.tcTo p Tc.unattached).modTc p (fun t => { t with rp := s.tcMode p == 1 })).rpFollow p))
    ∧ (∀ kohm : Nat, bitAt (s.tcConfig p) 9 = true → let u := s.put (F.TC_MOIST_LEAK_KOHM p) (min kohm 65535)
      (kohm < 500 → let v := (((u.modTc p (fun t => { t with dry := 0 })).put (F.TC_STATUS_WET p) 1).bump
          (F.TC_MOIST_WET_COUNT p) 1).tcFlt p 0
        exec (.moistureTest p kohm) s = .next (if v.tcState p = Tc.src then v.tcLeave p Tc.unattached
          else if v.tcState p = Tc.debug then v.modTc p (fun t => { t with srcEn := false }) else v))
      ∧ (500 ≤ kohm → let n := (u.tcp p).dry + 1
        let v := u.modTc p (fun t => { t with dry := min n 2 })
        exec (.moistureTest p kohm) s = .next (if 2 ≤ n then (v.put (F.TC_STATUS_WET p) 0).modTc p
          (fun t => { t with srcEn := t.srcEn || (v.flag (F.TC_STATUS_WET p) && v.tcState p == Tc.debug) }) else v)))

/-- The messages that make a power contract, and the cable's identity. Rests on R507, R508, R510,
R511, R516, R517, R519, R522, R528. -/
def Obligations.PowerContracts : Prop :=
  ∀ (s : State) (p : Fin 4), s.Sound → s.pdOn p = true → let w := (s.tcp p).wait
    (∀ (rev epr : Bool) (objs : List Word), (epr = true → s.get (F.TC_STATUS_EPR p) = 1) →
      let u := (s.each (List.range 11) (fun s i => s.put (F.PD_PARTNER_i_V p i) (wordAt objs i))).modTc p
        (fun t => { t with rev2 := rev, dual := bitAt (wordAt objs 0) 29 })
      let v := if epr then u.pdChunkAsk p Msg.eprSourceCaps (4 * objs.length) else u
      exec (.sourceCapabilities ⟨p, rev⟩ epr objs) s = .next (if v.isSrc p then v
        else ((v.pdAwait p .nothing).sendRequest p (v.sinkRdo p objs)).tcSettle p))
    ∧ (s.isSrc p = true → ∀ (rev : Bool) (rdo pdo : Word), let o := askedObj (s.tcp p).offered rdo.toNat
      let ok := requestOk (s.cableI p) o rdo.toNat
      exec (.request ⟨p, rev⟩ rdo) s = .next (((s.modTc p (fun t => { t with rev2 := rev })).answerRequest p rdo.toNat
        (ok && !s.flag (F.TC_STATUS_EPR p))).tcSettle p)
      ∧ exec (.eprRequest p rdo pdo) s = .next ((s.answerRequest p rdo.toNat
        (s.flag (F.TC_STATUS_EPR p) && ok && o == pdo.toNat)).tcSettle p))
    ∧ (w = .accept → exec (.accept p) s = .next (((s.pdAnswered p).pdAwait p .psRdy).tcSettle p)
      ∧ exec (.reject p) s = .next ((s.pdAnswered p).tcSettle p) ∧ exec (.wait p) s = .next ((s.pdAnswered p).tcSettle p))
    ∧ (w = .swap 1 → exec (.accept p) s = .next (((s.pdAnswered p).setRole p (F.TC_STATUS_DR p)
        (!s.flag (F.TC_STATUS_DR p))).tcSettle p))
    ∧ (w = .swap 2 → exec (.accept p) s = .next (if s.flag (F.TC_STATUS_VCONN p)
        then ((s.pdAnswered p).pdAwait p (.swapRdy 2)).tcSettle p
        else (((s.pdAnswered p).setRole p (F.TC_STATUS_VCONN p) true).pdCtl p Msg.psRdy).tcSettle p))
    ∧ (w = .swap 0 → let u := s.pdAnswered p
      exec (.accept p) s = .next (((if s.isSrc p then (u.modTc p (fun t => { t with srcEn := false })).pdCtl p Msg.psRdy else u).pdAwait p
        (.swapRdy 0)).tcSettle p))
    ∧ (w = .swap 3 → exec (.accept p) s = .next ((((s.pdAnswered p).pdCtl p Msg.psRdy).pdAwait p (.swapRdy 3)).tcSettle p))
    ∧ (w = .soft → let u := s.modTc p (fun t => { t with soft := 2, wait := if s.isSrc p then .nothing else .caps })
      exec (.accept p) s = .next ((if s.isSrc p then u.sendCaps p else u).tcSettle p))
    ∧ (∀ k, w = .swap k →
      exec (.reject p) s = .next ((((s.dropDiscovery p k).autoEnds p k).pdAnswered p).tcSettle p)
      ∧ (let u := if k ≠ 3 ∧ ¬ (k = 0 ∧ (s.tcp p).autoNow = true)
          then s.modTc p (fun t => { t with retry := some (s.retryAct p k, s.rails.hamada + 800) }) else s
        exec (.wait p) s = .next ((((u.dropDiscovery p k).autoEnds p k).pdAnswered p).tcSettle p)))
    ∧ (w = .psRdy → exec (.psRdy p) s = .next (((s.pdAnswered p).contract p (s.get (F.PD_RDO_V p))
        (askedObj (s.partner p) (s.get (F.PD_RDO_V p)))).tcSettle p))
    ∧ (w = .swapRdy 0 → exec (.psRdy p) s = .next (if s.isSrc p then ((s.pdAnswered p).powerRole p false).tcSettle p
        else (((s.pdAnswered p).pdCtl p Msg.psRdy).powerRole p true).tcSettle p))
    ∧ (w = .swapRdy 3 → exec (.psRdy p) s = .next (if s.isSrc p then (((s.pdAnswered p).powerRole p false).tcFlt p 6).tcSettle p
        else (((s.pdAnswered p).pdCtl p Msg.psRdy).powerRole p true).tcSettle p))
    ∧ (w = .swapRdy 2 → exec (.psRdy p) s = .next (((s.pdAnswered p).setRole p (F.TC_STATUS_VCONN p) false).tcSettle p))
    ∧ (∀ rdo, (s.tcp p).trans = some rdo → exec (.voltageTransitionDone p) s
      = .next (((s.pdCtl p Msg.psRdy).contract p rdo (askedObj (s.tcp p).offered rdo)).tcSettle p))
    ∧ (w = .cable → ∀ (active : Bool) (vdo : Word), exec (.cableIdentityResponse p false active vdo) s
        = .next ((s.pdAnswered p).tcSettle p)
      ∧ (let v := vdo.toNat
        let lat := bitsOf v 13 4
        let cls := if active = true then (if 1 ≤ lat ∧ lat ≤ 4 then 3 else 0) else if lat = 1 then 1 else if lat = 2 then 2 else 0
        let gear := if cls = 0 ∨ bitsOf v 0 3 = 0 then 0 else if bitsOf v 0 3 ≤ 2 then 1 else if bitsOf v 0 3 = 3 then 2 else 3
        let u := ((((((((s.pdAnswered p).put (F.PD_CABLE_VDO_V p) v).put (F.PD_CABLE_LIM_I5A p) (bit1 (bitsOf v 5 2 == 2))).put
          (F.PD_CABLE_LIM_V50 p) (bit1 (bitsOf v 9 2 == 3 && bitAt v 17))).put (F.PD_CABLE_LIM_GEAR p) gear).put
          (F.PD_CABLE_LIM_CLASS p) cls).put (F.PD_CABLE_LIM_SOP2 p) (bit1 (active && bitAt v 3))).put
          (F.CV_STATUS_CABLE_CLASS p) cls).tcEvt p 3
        let x := if active = true ∧ bitAt v 3 = true ∧ u.sopPrime p = true
          then u.pdSend p 4 Msg.vdm false [vdmHdr 0xFF00 0 1 0] else u
        exec (.cableIdentityResponse p true active vdo) s = .next ((if x.isSrc p = true
            then (if x.srcOffer p = (x.tcp p).offered then x else x.sendCaps p)
            else (if x.sinkRdo p (x.partner p) = x.get (F.PD_RDO_V p) then x.eprTry p
              else x.sendRequest p (x.sinkRdo p (x.partner p)))).tcSettle p)
        ∧ u.get (F.PD_CABLE_VDO_V p) = v ∧ u.get (F.PD_CABLE_LIM_I5A p) = (if bitsOf v 5 2 = 2 then 1 else 0)
        ∧ u.get (F.PD_CABLE_LIM_V50 p) = (if bitsOf v 9 2 = 3 ∧ bitAt v 17 = true then 1 else 0)
        ∧ u.get ⟨A.TC_EVT p, 3, 1⟩ = 1))

/-- Role swaps and resets, from the partner and from the registers. Rests on R513, R518, R519, R522,
R523, R527, R528, R531, R671. -/
def Obligations.RoleSwapsAndResets : Prop :=
  ∀ (s : State) (p : Fin 4), s.Sound → s.pdOn p = true →
    (s.swapCross p = true → exec (.prSwap p) s = .next (s.pdCtl p Msg.wait)
      ∧ exec (.drSwap p) s = .next (s.pdCtl p Msg.wait) ∧ exec (.vconnSwap p) s = .next (s.pdCtl p Msg.wait))
    ∧ (s.swapCross p = false → let u := s.pdCtl p Msg.accept
      let may := bitAt (s.tcConfig p) 5 = true ∧ s.tcMode p = 2
        ∧ (s.isSrc p = true ∨ s.dryPort p = true ∧ ∃ i < 10, s.srcObj p (i + 1) ≠ 0)
      (may → exec (.prSwap p) s = .next (((if s.isSrc p then (u.modTc p (fun t => { t with srcEn := false })).pdCtl p Msg.psRdy
        else u).pdAwait p (.swapRdy 0)).tcSettle p))
      ∧ (¬ may → exec (.prSwap p) s = .next (s.pdCtl p Msg.reject))
      ∧ (s.get (F.TC_STATUS_DR p) = 1 → exec (.drSwap p) s = .next ((u.setRole p (F.TC_STATUS_DR p) false).tcSettle p))
      ∧ (s.get (F.TC_STATUS_DR p) = 0 → bitAt (s.tcConfig p) 6 = true → s.get (F.TC_STATUS_CARAVAN p) = 0 →
        exec (.drSwap p) s = .next ((u.setRole p (F.TC_STATUS_DR p) true).tcSettle p))
      ∧ (s.get (F.TC_STATUS_DR p) = 0 → bitAt (s.tcConfig p) 6 = false ∨ s.get (F.TC_STATUS_CARAVAN p) = 1 →
        exec (.drSwap p) s = .next (s.pdCtl p Msg.reject))
      ∧ (s.get (F.TC_STATUS_VCONN p) = 0 →
        exec (.vconnSwap p) s = .next (((u.setRole p (F.TC_STATUS_VCONN p) true).pdCtl p Msg.psRdy).tcSettle p))
      ∧ (s.get (F.TC_STATUS_VCONN p) = 1 → bitAt (s.tcConfig p) 7 = true →
        exec (.vconnSwap p) s = .next ((u.pdAwait p (.swapRdy 2)).tcSettle p))
      ∧ (s.get (F.TC_STATUS_VCONN p) = 1 → bitAt (s.tcConfig p) 7 = false →
        exec (.vconnSwap p) s = .next (s.pdCtl p Msg.reject)))
    ∧ ((s.tcp p).frs = true → s.isSrc p = false → exec (.frSwap p) s
      = .next (((s.pdCtl p Msg.accept).pdAwait p (.swapRdy 3)).tcSettle p))
    ∧ (s.tcState p = Tc.snk → s.hasContract p = true → s.frsAble p = true → s.get (F.TC_STATUS_WET p) = 0 → exec (.frSwapSignal p) s
      = .next ((s.modTc p (fun t => { t with srcEn := true, frs := true })).sysInput))
    ∧ (let b := s.bump (F.TC_COUNT2_SOFT_RESETS p) 1
      let u := (b.modTc p (fun t => { t with msgId := 0, trans := none, wait := if b.isSrc p then .nothing else .caps })).pdCtl p
        Msg.accept
      exec (.softReset p) s = .next ((if u.isSrc p then u.sendCaps p else u).tcSettle p))
    ∧ exec (.hardResetReceived p) s = .next ((s.hardReset p false).tcSettle p)
    ∧ (∀ a : Agent, a.val = p.val ∨ a.val = 4 ∨ s.sharedWriter a = true →
      (s.hasContract p = true →
        let ask (bit : FRef) (x : PdAct) : State := ((s.put bit 1).modTc p (fun t => { t with todo := t.todo ++ [x] })).tcSettle p
        (s.TakesField a (A.TC_CTRL p) 4 1 1 → exec (.tcSwapPr a p) s = .next (ask (F.TC_CTRL_SWAP_PR p) (.pr false)))
        ∧ (s.TakesField a (A.TC_CTRL p) 5 1 1 → exec (.tcSwapDr a p) s = .next (ask (F.TC_CTRL_SWAP_DR p) .dr))
        ∧ (s.TakesField a (A.TC_CTRL p) 6 1 1 → exec (.tcSwapVconn a p) s = .next (ask (F.TC_CTRL_SWAP_VCONN p) .vconn)))
      ∧ (s.TakesField a (A.TC_CTRL p) 7 1 1 → exec (.tcSoftReset a p) s = .next ((s.softReset p).put (F.TC_CTRL_SOFT_RESET p) 1))
      ∧ (s.TakesField a (A.TC_CTRL p) 8 1 1 → s.inService a = true → exec (.tcHardReset a p) s = .next ((s.hardReset p true).tcAsked p)))

/-- The other PD messages: capabilities, EPR, alert, and the structured VDMs of the Caravan mode.
Rests on R274, R507, R508, R511, R512, R513, R516, R518, R520. -/
def Obligations.PowerMessages : Prop :=
  ∀ (s : State) (p : Fin 4), s.Sound → s.pdOn p = true →
    exec (.getSourceCap p) s = .next (if s.isSrc p then (s.sendCaps p).tcSettle p
      else s.pdSend p 0 Msg.sourceCaps false (s.srcOffer p))
    ∧ exec (.getSinkCap p) s = .next (s.pdSend p 0 Msg.sinkCaps false
        (((List.range 7).filter (fun i => s.snkObj p i != 0)).map (fun i => w32 (s.snkObj p i))))
    ∧ (∀ objs : List Word, let f := bitsOf (wordAt objs 0) 23 2
      let kept (s : State) : State := s.modTc p (fun t =>
        { t with frsField := f, dual := bitAt (wordAt objs 0) 29, wait := if t.wait = .sinkCaps then .nothing else t.wait })
      (s.isSrc p = false → exec (.sinkCapabilities p objs) s = .next ((kept s).tcSettle p))
      ∧ (s.isSrc p = true →
        let u := kept (s.each (List.range 11) (fun s i => s.put (F.PD_PARTNER_i_V p i) (wordAt objs i)))
        exec (.sinkCapabilities p objs) s
          = .next ((u.put (F.TC_STATUS_FRS_ARMED p) (bit1 (bitAt (u.tcConfig p) 8 && f != 0))).tcSettle p)))
    ∧ (∀ obj : Word, let act := bitsOf obj.toNat 24 8
      let say (s : State) (a : Nat) : State := s.pdSend p 0 Msg.eprMode false [w32 (a * 2 ^ 24)]
      let able := s.get (F.PD_CABLE_LIM_V50 p) = 1 ∧ s.hasContract p = true ∧ ∃ i ∈ [7, 8, 9, 10], s.srcObj p i ≠ 0
      (act = 1 → s.isSrc p = true → able →
        exec (.eprMode p obj) s = .next ((((say (say s 2) 3).put (F.TC_STATUS_EPR p) 1).sendCaps p).tcSettle p))
      ∧ (act = 1 → s.isSrc p = true → ¬ able → exec (.eprMode p obj) s = .next (say s 4))
      ∧ (act = 3 → s.isSrc p = false → (s.tcp p).wait = .epr → exec (.eprMode p obj) s
        = .next ((((s.pdAnswered p).put (F.TC_STATUS_EPR p) 1).pdAwait p .caps).tcSettle p))
      ∧ (act = 5 → s.get (F.TC_STATUS_EPR p) = 1 → let u := s.put (F.TC_STATUS_EPR p) 0
        exec (.eprMode p obj) s = .next ((if u.isSrc p then u.sendCaps p else u.pdAwait p .caps).tcSettle p)))
    ∧ (s.isSrc p = true → s.get (F.TC_STATUS_EPR p) = 1 →
      exec (.eprKeepalive p) s = .next (s.pdExt p Msg.extControl [4, 0]))
    ∧ (∀ ado : Word, ∃ t, exec (.alert p ado) s = .next t ∧ t.get (F.PD_ALERT_V p) = ado.toNat ∧ t.get ⟨A.TC_EVT p, 5, 1⟩ = 1
      ∧ t = { s with regs := t.regs, router := t.router } ∧ s.SameRegs t [A.PD_ALERT p, A.TC_EVT p, A.EVT_RISE_s (240 + 2 * p)])
    ∧ (∀ m : PdMsg, exec (.unsupportedMessage ⟨p, m⟩) s = .next (s.pdOther p m))
    ∧ exec (.unsupportedMessage ⟨p, .other⟩) s = .next (if (s.tcp p).rev2 then s.pdCtl p Msg.reject else s.pdCtl p Msg.notSupported)
    ∧ exec (.discoverIdentity p) s = .next (s.vdmReply p 0xFF00 true 1 0 [w32 (2 ^ 30 + 2 ^ 27 + 2 ^ 26 + s.get (F.PX_IDS_VENDOR 0)),
        0, w32 (0x9640 * 65536 + 0x100 + Config.revMain.toNat), w32 (3 * 2 ^ 29 + 2 ^ 24 + 2 ^ 5)])
    ∧ exec (.discoverSvids p) s = .next (s.vdmReply p 0xFF00 true 2 0 [w32 (0x2F5A * 65536)])
    ∧ exec (.discoverModes p 0x2F5A) s = .next (s.vdmReply p 0x2F5A true 3 0 [w32 (s.modeVdo p)])
    ∧ (∀ svid : BitVec 16, svid ≠ 0x2F5A →
      exec (.discoverModes p svid) s = .next (s.vdmReply p svid.toNat false 3 0 []))
    ∧ (∀ (svid : BitVec 16) (mode : Fin 8) (vdo : Word), let v := vdo.toNat
      let ok := svid = 0x2F5A ∧ mode = 1 ∧ s.get (F.TC_STATUS_DR p) = 0 ∧ bitsOf v 0 3 = 1 ∧ bitAt v 4 = true ∧ bitAt v 5 = true
        ∧ s.get (F.CV_CTRL_ENABLE p) = 1 ∧ s.get (F.PD_CABLE_LIM_GEAR p) ≠ 0
      let r := if svid = 0x2F5A then s.put (F.CV_MODE_VDO_VDO p) v else s
      (ok → exec (.enterMode p svid mode vdo) s = .next ((((r.vdmReply p 0x2F5A true 4 1 []).put (F.TC_STATUS_CARAVAN p) 1).modLink p
        (fun l => { l with entered := true })).tryRef p))
      ∧ (¬ ok → exec (.enterMode p svid mode vdo) s = .next (r.vdmReply p svid.toNat false 4 mode.val [])))
    ∧ (s.get (F.TC_STATUS_CARAVAN p) = 1 →
      exec (.exitMode p 0x2F5A) s = .next ((s.vdmReply p 0x2F5A true 5 1 []).modeExit p))

/-- The timeouts of PD, the protections of VBUS and VCONN, and the supply. Rests on R498, R504, R508,
R518, R520, R521, R522, R524, R526, R577, R602, R604. -/
def Obligations.PowerTimeouts : Prop :=
  ∀ s : State, s.Sound →
    (∀ p : Fin 4, s.pdOn p = true → let w := (s.tcp p).wait
      (w = .cable → exec (.senderResponseTimeout p) s = .next ((s.pdAnswered p).tcSettle p))
      ∧ (w = .request ∨ w = .accept ∨ w = .soft ∨ w = .epr ∨ w = .sinkCaps ∨ (∃ k, w = .swap k) →
        exec (.senderResponseTimeout p) s = .next ((s.pdEscalate p).tcSettle p))
      ∧ (w = .psRdy ∨ (∃ k, w = .swapRdy k) → exec (.psTransitionTimeout p) s = .next ((s.pdEscalate p).tcSettle p))
      ∧ ((s.tcp p).hard = true → s.hasContract p = false →
        ((s.tcp p).hardFails = 0 → exec (.noResponseTimeout p) s
          = .next (((s.modTc p (fun t => { t with hardFails := 1 })).hardReset p true).tcSettle p))
        ∧ ((s.tcp p).hardFails ≠ 0 → exec (.noResponseTimeout p) s = .next (s.errorRecovery p)))
      ∧ (s.isSrc p = true → s.hasContract p = true → s.get (F.PD_CONTRACT_TYPE p) = 1 ∨ s.get (F.PD_CONTRACT_TYPE p) = 2 →
        exec (.ppsTimeout p) s = .next ((s.hardReset p true).tcSettle p))
      ∧ (s.isSrc p = true → s.get (F.TC_STATUS_EPR p) = 1 →
        exec (.eprKeepaliveTimeout p) s = .next ((s.hardReset p true).tcSettle p))
      ∧ (s.isSrc p = true → let u := (s.modTc p (fun t => { t with srcEn := false })).tcFlt p 4
        exec (.vbusOcp p) s = .next (((if (u.tcp p).rev2 then u else u.pdSend p 0 Msg.alert false [w32 (2 ^ 26)]).hardReset p true).tcSettle p))
      ∧ (s.tcBusy p = true → exec (.ccOpenInTransition p) s = .next (s.tcLeave p Tc.unattached))
      ∧ exec (.hamadaThermalLimit p) s = .next (if (s.tcp p).rev2 then s else s.pdSend p 0 Msg.alert false [w32 (2 ^ 27)]))
    ∧ (∀ p : Fin 4, s.power ≠ 4 → s.tcState p = Tc.debug → (s.tcp p).srcEn = true →
      exec (.vbusOcp p) s = .next ((s.modTc p (fun t => { t with srcEn := false })).tcFlt p 4))
    ∧ (∀ p : Fin 4, s.power ≠ 4 → s.get (F.TC_STATUS_VCONN p) = 1 → ∃ t, exec (.vconnOcp p) s = .next t
      ∧ t.get (F.TC_STATUS_VCONN p) = 0 ∧ (t.tcp p).vconnOcp = true ∧ t.get ⟨A.TC_FLT p, 3, 1⟩ = 1
      ∧ t.get ⟨A.TC_EVT p, 2, 1⟩ = 1 ∧ t = { s with regs := t.regs, router := t.router, tc := t.tc }
      ∧ s.SameRegs t [A.TC_STATUS p, A.TC_FLT p, A.TC_EVT p, A.EVT_RISE_s (240 + 2 * p), A.EVT_RISE_s (241 + 2 * p)])
    ∧ (s.awake = false → exec .sleepPdKeepalive s = .next (s.each (List.range 4) State.pdKeep))
    ∧ (s.power ≠ 4 → exec .localSupplyTrip s = .next s.frsTrip.shedStart)
    ∧ (s.get F.OA_STATUS_SHED_ACTIVE = 1 → s.get F.TC_PWR_LOCAL_OK = 1 → s.oa.okSince + s.get F.OA_SHED_RESTORE ≤ s.rails.hamada → let u := s.put F.OA_STATUS_SHED_ACTIVE 0
      exec .shedEnd s = .next (({ u with oa := { u.oa with releasing := true } } : State).each (List.range 8) State.efTry))
    ∧ (∀ ok : Bool, s.power ≠ 4 → let u : State := if ok = true ∧ s.get F.TC_PWR_LOCAL_OK = 0 then { s with oa := { s.oa with okSince := s.rails.hamada } } else s
      exec (.systemInputChange ok) s = .next (u.put F.TC_PWR_LOCAL_OK (bit1 ok)).sysInput)

/-- ERR_RING_POP removes the oldest entry, ERR_FIRST_ACK empties the capture, and ERRLOG follows both.
Rests on R610. -/
def Obligations.ErrorRingCommands : Prop :=
  ∀ (s : State) (a : Agent),
    (s.TakesWords a 0xC00030 [1] → exec (.errRingPop a) s
      = .next { s with logs := vMod s.logs a (fun l => { l with ring := l.ring.drop 1 }) })
    ∧ (s.TakesWords a 0xC00010 [1] → ∃ t, exec (.errFirstAck a) s = .next t
      ∧ t = { s with logs := vMod s.logs a (fun l => { l with first := none }) }
      ∧ ∀ cls result cause unit agent detail : Nat,
        (vAt (t.logTo a cls result cause unit agent detail).logs a).first
          = some ⟨errW0 cls result cause unit agent, detail % 2 ^ 32, s.clock.time⟩)
    ∧ ∀ r : Nat, bitAt (s.statusWord a r) 6 = true ↔ (vAt s.logs a).ring ≠ [] ∨ (vAt s.logs a).first ≠ none

/-- As source, the hub issues Hard Reset for a missing PPS or AVS Request and for a missing
EPR_KeepAlive. Rests on R518. -/
def Obligations.SourceHardResets : Prop :=
  ∀ (s : State) (p : Fin 4), s.Sound → s.pdOn p = true → s.isSrc p = true →
    (s.hasContract p = true →
      (s.get (F.PD_CONTRACT_TYPE p) = 1 ∨ s.get (F.PD_CONTRACT_TYPE p) = 2 →
        exec (.ppsTimeout p) s = .next ((s.hardReset p true).tcSettle p))
      ∧ (s.get (F.PD_CONTRACT_TYPE p) = 0 → exec (.ppsTimeout p) s = .next s))
    ∧ (s.get (F.TC_STATUS_EPR p) = 1 → exec (.eprKeepaliveTimeout p) s = .next ((s.hardReset p true).tcSettle p))
    ∧ (s.get (F.TC_STATUS_EPR p) = 0 → exec (.eprKeepaliveTimeout p) s = .next s)
    ∧ s.hardReset p true = (s.emit (.pd p 2 0 [])).hardReset p false

/-- What faults an e-fuse channel, and what the entry to FAULT does. Rests on R540, R543, R544, R545,
R546. -/
def Obligations.EfuseFaults : Prop :=
  ∀ (s : State) (c : Fin 8), s.Sound → s.power ≠ 4 →
    (s.efLive c = true →
      ((s.efc c).pgOut = true → s.get (F.EF_STATUS_LIMIT c) = 0 → exec (.pgLost c) s = .next (s.efFault c 8))
      ∧ (s.get (F.EF_STATUS_LIMIT c) = 1 → exec (.faultTimerExpiry c) s = .next (s.efFault c 2))
      ∧ exec (.fastTrip c) s = .next ((s.bump (F.EF_COUNT_TRIPS c) 1).efFault c 1)
      ∧ ((s.efc c).full = true → (s.efc c).fullAt + bitsOf (s.efCfg c 4) 12 8 ≤ s.rails.hamada → exec (.gateRiseTimeout c) s = .next (s.efStuck c)))
    ∧ (s.efLive c = false → exec (.fastTrip c) s = .next ((s.bump (F.EF_COUNT_TRIPS c) 1).efGatesOff c))
    ∧ (s.efState c = 2 → (s.efc c).since + bitsOf (s.efCfg c 4) 0 12 ≤ s.rails.hamada →
      (s.get (F.EF_STATUS_LIMIT c) = 0 → exec (.rampTimeout c true) s = .next (s.efStuck c))
      ∧ ∀ b : Bool, b = false ∨ s.get (F.EF_STATUS_LIMIT c) = 1 → exec (.rampTimeout c b) s
        = .next ((s.efFinding c 5 (if s.efTopo c = 1 then s.efPath c else 3) true).efFault c 3))
    ∧ (s.efRuns c = true → s.efState c ≠ 5 →
      exec (.vinOvervoltage c) s = .next ((s.modEf c (fun e => { e with vinOk := false })).efFault c 5)
      ∧ (s.efLive c = false → exec (.shortedFetDetect c) s
        = .next (((s.put (F.EF_STATUS_SHORT_FET c) (if s.efTopo c = 2 then 1 else 3)).efFinding c 3
            (if s.efTopo c = 2 then 0 else 3) true).efFault c 7)))
    ∧ (∀ k : Fin 16, let t := s.efFault c k
      t.efState c = 5 ∧ t.get (F.EF_STATUS_CAUSE c) = k ∧ t.get (F.EF_EVT_FAULT c) = 1
      ∧ t.get (F.EF_COUNT_FAULTS c) = satAdd 16 ((s.efGatesOff c).get (F.EF_COUNT_FAULTS c)) 1
      ∧ (s.get (F.EF_STATUS_PG c) = 0 → t.get (F.EF_STATUS_LIMIT c) = 0 ∧ t.get (F.EF_STATUS_PG c) = 0
        ∧ t.get (F.EF_COUNT_FAULTS c) = satAdd 16 (s.get (F.EF_COUNT_FAULTS c)) 1
        ∧ (s.efState c ≠ 5 → t.ef = vMod s.ef c (fun e =>
          { e with gateA := false, gateB := false, full := false, pgOut := false, leave := none, since := s.rails.hamada }))
        ∧ t = { s with regs := t.regs, router := t.router, ef := t.ef }
        ∧ s.SameRegs t [A.EF_STATUS c, A.EF_EVT c, A.EF_COUNT c, A.OA_SHED_STATUS, A.EVT_RISE_s (248 + c)]))
    ∧ (s.get (F.EF_STATUS_PG c) = 1 → s.efPg c false = (((s.put (F.EF_STATUS_PG c) 0).efEvt c 2).pxPerst 0).pxPerst 1)
    ∧ (s.efTopo c = 2 → s.efStuck c = (((s.modEf c id).efFinding c 1 3 true).efSpare c).efFault c 6)

/-- An e-fuse channel's requests, ramp, power-good, current limit, retries and thermal self step.
Rests on R539, R540, R541, R542, R543, R545, R546, R549, R550, R551, R552, R638. -/
def Obligations.EfuseChannels : Prop :=
  ∀ (s : State) (c : Fin 8), s.Sound → s.power ≠ 4 →
    (∀ (a : Agent) (on : Bool),
      (s.owns a (48 + c) = true → s.TakesField a (A.EF_CTRL c) 1 1 (bit1 on) → s.get (F.EF_CTRL_ON c) ≠ bit1 on →
        let u := s.put (F.EF_CTRL_ON c) (bit1 on)
        exec (.efCtrlOn a c on) s = .next (if on then u.efTry c else u.efLose c))
      ∧ (s.boardOrService a = true → s.TakesField a (A.EF_CTRL c) 0 1 (bit1 on) → s.get (F.EF_CTRL_ENABLE c) ≠ bit1 on →
        let u := s.put (F.EF_CTRL_ENABLE c) (bit1 on)
        exec (.efEnable a c on) s = .next (if on then u.efTry c else u.efDown c 0))
      ∧ (s.owns a (48 + c) = true → s.get (F.EF_STATUS_CAUSE c) ≠ 7 ∨ s.inService a = true →
        s.TakesField a (A.EF_CTRL c) 2 1 1 → s.efState c = 5 → s.efRuns c = true →
        exec (.efClear a c) s = .next (((s.put (F.EF_STATUS_RETRIES c) 0).efTo c 0).efTry c)))
    ∧ (s.efRuns c = true → s.efState c = 1 → (s.efc c).since + bitsOf (s.efCfg c 3) 16 16 ≤ s.rails.hamada →
      exec (.insertionDelayEnd c) s
      = .next (((s.modEf c (fun e => { e with switched := false, full := false })).efTo c 2).efDrive c false))
    ∧ (s.efLive c = true →
      exec (.slewEnd c) s = .next (s.modEf c (fun e => { e with full := true, fullAt := s.rails.hamada }))
      ∧ ∃ t, exec (.limitEpisodeStart c) s = .next t ∧ t.get (F.EF_STATUS_LIMIT c) = 1
        ∧ t = { s with regs := t.regs } ∧ s.SameRegs t [A.EF_STATUS c])
    ∧ (∃ t, exec (.limitEpisodeEnd c) s = .next t ∧ t.get (F.EF_STATUS_LIMIT c) = 0
      ∧ t = { s with regs := t.regs } ∧ s.SameRegs t [A.EF_STATUS c])
    ∧ (∀ mv : Nat, s.efTopo c = 2 → s.efState c = 2 →
      let u := (s.put (F.EF_STATUS_SHORT_FET c) 2).efFinding c 4 1 true
      exec (.shortedBSample c mv) s = .next ((if mv < 150 then u else s).efDrive c true))
    ∧ (s.get (F.EF_STATUS_LIMIT c) = 0 →
      (s.efState c = 2 → exec (.powerGoodAssert c) s
        = .next (((((s.modEf c (fun e => { e with pgOut := false })).efTo c 3).bump (F.EF_COUNT2_ON_CYCLES c) 1).efPg c true).efDrive c true))
      ∧ (s.efState c = 3 → exec (.powerGoodAssert c) s
        = .next ((s.modEf c (fun e => { e with pgOut := false })).efPg c true)))
    ∧ (s.get (F.EF_STATUS_PG c) = 1 ∨ s.efLive c = true → exec (.voutLeavesWindow c) s
      = .next ((s.modEf c (fun e => { e with pgOut := true })).efPg c false))
    ∧ exec (.vinUndervoltage c) s = .next ((s.modEf c (fun e => { e with vinOk := false })).efLose c)
    ∧ exec (.vinWithinRange c) s = .next ((s.modEf c (fun e => { e with vinOk := true })).efTry c)
    ∧ (s.efTopo c = 2 → s.efLive c = true →
      let u := (s.modEf c (fun e => { e with reverse := true })).put (F.EF_STATUS_CAUSE c) 9
      exec (.reverseCurrent c) s = .next ((u.efFinding c 6 3 false).efDown c 0))
    ∧ exec (.reverseEnd c) s = .next ((s.modEf c (fun e => { e with reverse := false })).efTry c)
    ∧ (s.efRuns c = true → s.efState c = 5 → s.efMayRetry c = true →
      exec (.retryDelayEnd c) s = .next (((s.bump (F.EF_STATUS_RETRIES c) 1).efTo c 0).efTry c))
    ∧ (s.efState c = 3 → (s.efc c).since + 8000 ≤ s.rails.hamada → ∃ t, exec (.retriesClear c) s = .next t ∧ t.get (F.EF_STATUS_RETRIES c) = 0
      ∧ t = { s with regs := t.regs } ∧ s.SameRegs t [A.EF_STATUS c])
    ∧ (s.efTopo c ≠ 0 → (s.efc c).stepAt + 2 - s.get (F.EF_STATUS_SELF_STEP c) ≤ s.rails.hamada → exec (.thermalSelfStep c) s
      = .next (((s.modEf c (fun e => { e with stepAt := s.rails.hamada })).put (F.EF_STATUS_SELF_STEP c) 1).efModel c))
    ∧ (s.efRuns c = true → s.efState c = 0 → s.get (F.EF_CTRL_ON c) = 1 → s.get (F.EF_STATUS_CLEARED c) = 1 →
      (s.efc c).vinOk = true → (s.efc c).reverse = false → s.efShedNow c = false → s.efTry c = s.efTo c 1)
    ∧ (s.efLive c = true → let p := s.efPath c
      let par := s.efTopo c == 1
      let u := s.modEf c (fun e => { e with bad := if par then e.bad ||| 2 ^ p else e.bad })
      let v := ((u.put (F.EF_STATUS_DEGRADED c) 1).efFinding c 2 (if par then p else 3) true).efSpare c
      exec (.degradedFet c) s = .next (if par && !bitAt (v.efc c).bad (1 - p) then v.efSwitch c else v))
    ∧ (s.efState c = 3 → ∃ t, t = s.efSwitch c ∧ t.efPath c = (1 - s.efPath c) % 2 ∧ (t.efc c).gateA = true ∧ (t.efc c).gateB = true
      ∧ (t.efc c).leave = some (s.rails.hamada + (s.put (F.EF_STATUS_PATH c) (1 - s.efPath c)).efHandOver c))
    ∧ (∀ n : Nat, (s.efc c).leave = some n → s.efLetGo c
      = if n ≤ s.rails.hamada then (s.modEf c (fun e => { e with leave := none })).efDrive c false else s)

/-- A cold reset, the rails, brown-out, and the start and end of a warm reset. Rests on R129, R286,
R557, R558, R559, R561, R590, R640, R643, R644, R645. -/
def Obligations.Resets : Prop :=
  ∀ s : State, s.Sound →
    (∀ cause : Fin 9, ∃ t, exec (.coldReset cause) s = .next t
      ∧ t.get ⟨A.SYS_RESET_CAUSE, 0, 32⟩ = (if cause.val < 7 then 1 else cause.val - 5)
      ∧ (7 ≤ cause.val → ∀ n : Fin 4, t.get (F.SYS_KEEP_n_DATA n) = s.get (F.SYS_KEEP_n_DATA n))
      ∧ (7 ≤ cause.val → t.get ⟨A.BROWNOUT_CAUSE, 0, 32⟩ = s.get ⟨A.BROWNOUT_CAUSE, 0, 32⟩)
      ∧ (cause.val < 7 → State.reset.SameRegs t [A.SYS_RESET_CAUSE])
      ∧ State.reset.SameRegs t (A.SYS_RESET_CAUSE :: A.BROWNOUT_CAUSE :: (List.range 4).map A.SYS_KEEP_n)
      ∧ t.img.flash = s.img.flash ∧ t.img.otp = s.img.otp ∧ t.img.revoked = s.img.revoked ∧ t.inForce = false
      ∧ t.clock = clock0 ∧ t.mgmt = State.reset.mgmt ∧ t.links = State.reset.links ∧ t.bc = State.reset.bc ∧ t.tc = State.reset.tc
      ∧ t.ef = State.reset.ef ∧ t.sr = State.reset.sr ∧ t.pending = s.pending)
    ∧ (s.img.phase = .held →
      (∀ r : Fin 7, bitAt s.rails.valid r = false →
        (r.val = 0 → exec (.railValid r) s = .next (s.railsTo (s.rails.valid ||| 1) (s.rails.en ||| 1)))
        ∧ (1 ≤ r.val → bitAt s.rails.valid 0 = true → r.val = 1 ∨ bitAt s.rails.en (r - 1) = true →
          exec (.railValid r) s
            = .next (s.railsTo (s.rails.valid ||| 2 ^ r.val) ((s.rails.en ||| 2 ^ (r.val - 1) ||| 2 ^ r.val) % 64))))
      ∧ (∀ r : Fin 6, bitAt s.rails.en r = true → bitAt s.rails.valid (r + 1) = false →
        exec (.railSequenceFail r) s = .next (s.railsTo (s.rails.valid % 2) 0))
      ∧ ∀ e : Nat, (s.railsTo 127 e).img.phase = .testing)
    ∧ (let f := if 3 ≤ s.power then F.BROWNOUT_CAUSE_LP_OVER else F.BROWNOUT_CAUSE_NORM_OVER
      exec .brownOut s = .next (((s.put f 1).put F.BROWNOUT_CAUSE_STATE s.power).coldReset 7))
    ∧ (s.img.phase ≠ .held → s.clock.running = true → s.power ≠ 3 → s.power ≠ 4 → ∃ t, exec .warmReset s = .next t
      ∧ t = s.sessionAbort.warmState s.sessionAbort.sr.queue.length)
    ∧ (∀ n : Nat, let t := s.warmState n
      t.clock.time = s.clock.time ∧ t.img.flash = s.img.flash ∧ t.img.otp = s.img.otp ∧ t.img.phase = .held ∧ t.logs = s.logs
      ∧ t.tc = s.tc ∧ t.ef = s.ef ∧ t.sr.queue = [] ∧ t.pl.pixels = s.pl.pixels ∧ t.get F.SYS_RESET_CAUSE_CAUSE = 4)
    ∧ (s.img.phase = .held → s.rails.valid = 127 →
      let u := (s.modImg (fun i => { i with phase := .testing })).modOwn (fun o => { o with bumpAll := true })
      exec .warmResetEnd s = .next (u.each (List.range 4) (fun s h => s.modAgent h (fun g => { g with stale := true }))))

/-- Asking for an isolation, leaving one, and what a FATAL error of a unit does. Rests on R571, R572,
R573, R574, R607, R608, R611, R612, R617. -/
def Obligations.IsolationAndFatals : Prop :=
  ∀ (s : State) (u : Fin 24), s.Sound →
    (∀ a : Agent,
      (s.inService a = true → s.TakesField a (A.ISO_u u) 8 1 1 → s.get (F.ISO_u_STATE u) = 0 →
        exec (.isoIsolate a u) s = .next ((s.isolate u 3).put (F.ISO_u_ISOLATE u) 1))
      ∧ (s.boardOrService a = true → s.TakesField a (A.ISO_u u) 9 1 1 → s.get (F.ISO_u_STATE u) = 3 →
        exec (.isoRestart a u) s
          = .next (((s.put (F.ISO_u_STATE u) 2).isoInit s.img.recs u false).put (F.ISO_u_RESTART u) 1)))
    ∧ (∀ k : Fin 8, let t := s.isoClose u k
      s.isolate u k = (t.isoCut u).isoInit s.img.recs u false
      ∧ t.get (F.ISO_u_STATE u) = 2 ∧ t.get (F.ISO_u_CAUSE u) = k
      ∧ t.get (F.ISO_u_COUNT u) = satAdd 16 (s.get (F.ISO_u_COUNT u)) 1
      ∧ t = { s with regs := t.regs } ∧ s.SameRegs t [A.ISO_u u])
    ∧ exec (.isolationExit u) s = .next (if s.get (F.ISO_u_STATE u) = 2 then s.isoLeave u else s)
    ∧ (∀ code : Word, let v := s.logHw (s.unitOwner u) 3 0 0x15 u code.toNat
      let w : State := { v with oa := { v.oa with fatalAt := vPut v.oa.fatalAt u (some v.tick) } }
      (v.get (F.ISO_u_STATE u) ≠ 0 → exec (.fatalError (u.castLE (by decide)) code) s = .next v)
      ∧ (v.get (F.ISO_u_STATE u) = 0 → vAt v.oa.fatalAt u = none → exec (.fatalError (u.castLE (by decide)) code) s = .next w)
      ∧ ∀ t : Nat, v.get (F.ISO_u_STATE u) = 0 → vAt v.oa.fatalAt u = some t →
        exec (.fatalError (u.castLE (by decide)) code) s = .next (if v.tick - t ≤ v.get F.OA_CFG_ESC_WINDOW
          then (w.logHw (w.unitOwner u) 3 0 0x16 u u).isoEscalate u else w))
    ∧ (∀ (b : Fin 42) (code : Word), 32 ≤ b.val → exec (.fatalError b code) s
      = .next (((s.logHw 7 3 0 0x15 b code.toNat).put F.OA_STATUS_CORE_FATAL 1).notice 16 b))
    ∧ (∀ t : Nat, vAt s.oa.leftAt u = some t → s.isoEscalate u = if s.tick < t + 8000
      then (((s.isoClose u 1).put (F.ISO_u_STATE u) 3).isoCut u).notice 17 u else s.isolate u 1)

/-- The end of a drain, waking from each power state, PWR_STAY and the failover suspension. Rests on
R575, R578, R579, R580, R581, R583, R584, R586, R587, R588, R593. -/
def Obligations.PowerDrainsAndWakes : Prop :=
  ∀ s : State, s.Sound →
    (∀ (p : PwrReq) (d : Nat), s.pwr = some p → p.drain = some d →
      (s.drained = true → ∀ o : OpenCmd, s.openCmd p.agent p.tag = some o →
        let u := ((s.complete p.agent p.tag R.ok [0]).flushReplies p.agent o.tr).powerClear
        (p.target = 2 → exec .powerDrainDone s = .next u.enterSleep)
        ∧ (p.target = 3 → exec .powerDrainDone s = .next u.enterDormant)
        ∧ (p.target = 4 → exec .powerDrainDone s = .next u.enterOff))
      ∧ exec .powerDrainTimeout s = .next ((s.advanceTo ((d + s.get F.MGMT_NP_TIMEOUT_TICKS) * 125000)).powerEnd 15))
    ∧ (∀ (p : PwrReq) (k : Nat), s.pwr = some p → s.powerEnd k
      = (s.powerClear.powerRefused p.agent k p.target).complete p.agent p.tag R.busy [w32 k])
    ∧ (let t := s.powerClear
      t.pwr = none ∧ t.get F.PWR_STATE_PEND = 0 ∧ t.get F.PWR_STATE_TARGET = 0 ∧ t = { s with pwr := none, regs := t.regs }
      ∧ s.SameRegs t [A.PWR_STATE])
    ∧ (∀ (w : Fin 9) (d : BitVec 4) (el unc : Nat) (check : Word), w.val ≠ 5 → s.wakeEnabled w = true →
      (s.power = 2 → wakeIn w 2 = true → exec (.wake w d el check unc) s = .next (s.wakeSleep.wakeRecord w d.toNat 2))
      ∧ (s.power = 3 → wakeIn w 3 = true → exec (.wake w d el check unc) s
        = .next ((if check.toNat = s.img.keepCheck then s.wakeDormant el unc else s.wakeLost el unc).wakeRecord w d.toNat 3))
      ∧ (s.power = 4 → wakeIn w 4 = true → exec (.wake w d el check unc) s = .next (s.coldReset 8))
      ∧ (s.power ≤ 1 → ∀ p : PwrReq, s.pwr = some p → wakeIn w p.target = true →
        exec (.wake w d el check unc) s = .next (s.powerEnd 14))
      ∧ (s.power ≤ 1 → s.pwr = none → exec (.wake w d el check unc) s = .next s))
    ∧ (∀ (d : BitVec 4) (el unc f : Nat) (check : Word), s.wakeEnabled 5 = true → s.power = 2 →
      (∃ l ∈ s.sr.queue, l.at_ = f) → (∀ l ∈ s.sr.queue, f ≤ l.at_) →
      exec (.wake 5 d el check unc) s = .next ((s.advanceTo (f - 80000)).wakeSleep.wakeRecord 5 d.toNat 2))
    ∧ (∀ (w st : Nat), 0 < w → w < 9 → st < 8 → let t := s.wakeRecord w 0 st
      t.get F.PWR_WAKE_LAST = w ∧ t.get F.PWR_WAKE_FROM = st ∧ t.get F.PWR_EVT_WAKE = 1
      ∧ t.get F.PWR_WAKE_TIME_LO_V = s.clock.time % 2 ^ 32)
    ∧ (∀ (a : Agent) (on : Bool), a.val < 4 → s.TakesField a A.PWR_STAY 0 1 (bit1 on) → s.get (stayRef a) ≠ bit1 on →
      let u := s.put (stayRef a) (bit1 on)
      exec (.pwrStayWrite a on) s = .next (if u.power = 1 ∧ u.stays a = true then u.put F.PWR_STATE_STATE 0 else u))
    ∧ (∀ m t : Nat, s.own.suspend = some (m, t) → s.awake = true →
      let up := (List.range 4).all (fun h => !bitAt m h || s.linkUp h)
      exec .failoverSuspendEnd s
        = .next ((if up then s else s.advanceTo ((t + 8000) * 125000)).modOwn (fun o => { o with suspend := none })))

/-- SRAM errors, scrub passes, row repairs and the wear record. Rests on R141, R595, R596, R597, R598,
R599, R600, R607, R617, R619. -/
def Obligations.MemoriesAndWear : Prop :=
  ∀ s : State, s.Sound →
    (∀ (array row : BitVec 16) (table : Option Word) (serving : Option (Agent × Byte)) (grain : Option (BitVec 21)),
      let unit := (Config.arrayUnit array).toNat
      let d := array.toNat + 65536 * row.toNat
      exec (.eccError array row false ⟨table, serving, grain⟩) s
        = .next ((s.bump F.OA_SRAM_CE_COUNT 1).logHw (s.unitOwner unit) 1 0 0x10 unit d)
      ∧ (∀ w : Word, table = some w → exec (.eccError array row true ⟨table, serving, grain⟩) s
        = .next ((s.logHw (s.unitOwner unit) 1 0 0x13 unit w.toNat).queueRepair array.toNat row.toNat))
      ∧ (table = none →
        let p := if Config.arrayPlaya array then s.grainError grain else s
        ((∀ (a : Agent) (tag : Byte), serving = some (a, tag) → p.openCmd a tag.toNat = none) →
          exec (.eccError array row true ⟨table, serving, grain⟩) s
            = .next ((p.logHw (p.unitOwner unit) 2 0 0x11 unit d).queueRepair array.toNat row.toNat))
        ∧ ∀ (a : Agent) (tag : Byte), serving = some (a, tag) → p.openCmd a tag.toNat ≠ none →
          exec (.eccError array row true ⟨table, serving, grain⟩) s
            = .next ((((p.internalError a tag.toNat unit).logHw (p.unitOwner unit) 2 15 0x11 unit d).fatalMet unit).queueRepair
                array.toNat row.toNat)))
    ∧ (s.grainError none = s ∧ ∀ b : BitVec 21, let v := (s.composeDue 0).composeDue 1
      s.grainError (some b)
        = ({ v with pl := { v.pl with bad := b.toNat :: v.pl.bad.filter (· != b.toNat) } } : State).bump F.PL_ECC_UNCORR 1)
    ∧ (∀ (a tag unit : Nat),
      (∀ c : OpenCmd, s.openCmd a tag = some c → s.internalError a tag unit
        = (s.logOp a R.internal 6 unit c.addr).complete a tag R.internal [])
      ∧ (s.openCmd a tag = none → s.internalError a tag unit = s))
    ∧ (∀ a r : Nat,
      let known := s.oa.repairQ.contains (a, r) || s.oa.repairs.any (fun x => x.1 == a && x.2.1 == r)
      let full := decide (9 ≤ (s.oa.repairQ.filter (fun x => x.1 == a)).length)
      s.queueRepair a r = if known || full then s else { s with oa := { s.oa with repairQ := s.oa.repairQ ++ [(a, r)] } })
    ∧ (∀ fixes : List (BitVec 16 × BitVec 16), ∃ t, exec (.scrub fixes) s = .next t
      ∧ t = { s with regs := t.regs, logs := t.logs, oa := t.oa } ∧ s.SameRegs t [A.OA_SRAM_CE]
      ∧ t.get F.OA_SRAM_CE_COUNT = satAdd 32 (s.get F.OA_SRAM_CE_COUNT) fixes.length
      ∧ (fixes = [] → s.oa.scrubs = [] → t = s))
    ∧ (∀ (array row : BitVec 16) (bad spares : Nat), let a := array.toNat
      let r := row.toNat
      let taken (n : Nat) : Bool := s.oa.repairs.any (fun x => x.1 == a && x.2.2 == n) || s.oa.badSpares.contains (a, n)
      let free := (List.range spares).filter (fun n => !taken n)
      (s.oa.repairQ.contains (a, r) = false → exec (.rowRepair array row bad spares) s = .next s)
      ∧ (s.oa.repairQ.contains (a, r) = true → free.find? (fun n => !bitAt bad n) = none →
        exec (.rowRepair array row bad spares) s = .next { s with oa := { s.oa with
          repairQ := s.oa.repairQ.filter (· != (a, r)), badSpares := s.oa.badSpares ++ free.map (fun n => (a, n)) } })
      ∧ (∀ p : Nat, s.oa.repairQ.contains (a, r) = true → free.find? (fun n => !bitAt bad n) = some p →
        ∃ t, exec (.rowRepair array row bad spares) s = .next t ∧ t.oa.repairs = s.oa.repairs ++ [(a, r, p)]
          ∧ t.oa.repairQ = s.oa.repairQ.filter (· != (a, r))
          ∧ t.get F.OA_SRAM_REPAIRS = satAdd F.OA_SRAM_REPAIRS.width (s.get F.OA_SRAM_REPAIRS) 1
          ∧ t.get ⟨A.OA_EVT, 2, 1⟩ = 1))
    ∧ (s.oa.recordDue = true → s.img.session = none → s.devState ≠ 1 → exec .wearRecordWrite s
        = .next (if s.freeVal 1 = 0 then s.took.wearWrite else s.took.notice 18 0)
      ∧ s.took.wearWrite.oa.recordDue = false ∧ s.took.wearWrite.oa.recordAt = s.tick)
    ∧ (s.oa.recordDue = false ∨ s.img.session ≠ none ∨ s.devState = 1 → exec .wearRecordWrite s = .next s)

/-- The values that the register tables give for reset, in every block that has one other than 0.
Rests on R59, R149, R169, R213, R326, R349, R387, R407, R432, R455, R531, R623. -/
def Obligations.ResetValues : Prop :=
  let v := State.reset.get
  (v F.REF_ADJ_LIMIT_VALUE = 54975581 ∧ v F.DISC_LOOP_KP_SHIFT = 4 ∧ v F.DISC_LOOP_KI_SHIFT = 10 ∧ v F.DISC_LOOP_LOCK_NS = 100
    ∧ v F.DISC_LIMITS_STALE = 24000 ∧ v F.DISC_LIMITS_STEP_US = 1000 ∧ v F.EVT_STORM_CFG_WINDOW = 8
    ∧ v F.EVT_STORM_CFG_LIMIT = 256 ∧ v F.MGMT_NP_TIMEOUT_TICKS = 800 ∧ v F.STAT_CFG_WINDOW = 8 ∧ v F.STAT_CFG_BIN_SHIFT = 6)
    ∧ (∀ g : Fin 9, v (F.LG_STATUS_SPARE_SLICE_FREE g) = 1 ∧ v (F.LG_STATUS_SLICE_MAP g) = 0x688 ∧ v (F.LG_QUAL_H_MIN g) = 6
      ∧ v (F.LG_QUAL_V_MIN g) = 8 ∧ v (F.LG_QUAL_H_WARN g) = 9 ∧ v (F.LG_QUAL_V_WARN g) = 12 ∧ v (F.LG_DWELL_QUAL_EXP g) = 24
      ∧ v (F.LG_DWELL_CHORE_EXP g) = 20 ∧ v (F.LG_DWELL_MAX_ERR g) = 1
      ∧ ∀ l : Fin 4, v (F.LN_TXEQ_C0 g l) = 48 ∧ v (F.LN_TXEQ_PRESET g l) = 15 ∧ v (F.LN_EYE_CTRL_DWELL_EXP g l) = 20)
    ∧ (∀ g : Fin 4, v (F.CAP_CTRL_g_WATERMARK g) = 1)
    ∧ (∀ x : Fin 2, v (F.GL_CTRL_x_FRAMES x) = 1 ∧ v (F.GL_CTRL_x_SLEW x) = 4 ∧ v (F.HD_LINK_CFG_MAX_RATE x) = 3
      ∧ v (F.HD_LINK_CFG_MAX_LANES x) = 4 ∧ v (F.PX_CTRL_PWR_EF x) = 15 ∧ v (F.PX_CTRL_PERST_DELAY x) = 800
      ∧ v (F.PX_STATUS_PERST x) = 1 ∧ ∀ n : Fin 8, v (F.LY_CTRL_ALPHA x n) = 255)
    ∧ (v F.ETH_AGE_SEC = 300 ∧ v F.USB_CTRL_ENABLE = 1 ∧ v F.USB_CFG_PWR2GOOD = 50)
    ∧ (∀ p : Fin 4, v (F.GP_CTRL_p_THRESH p) = 800 ∧ v (F.UF_CTRL_MF_CONNECT p) = 1 ∧ v (F.UF_CTRL_LPM_EN p) = 1
      ∧ v (F.TC_CTRL_ENABLE p) = 1 ∧ v (F.PD_CONTRACT_TYPE p) = 3 ∧ v (F.PD_CABLE_LIM_GEAR p) = 1)
    ∧ (∀ b : Fin 20, v (F.WD_BUS_CTRL_ENABLE b) = 1)
    ∧ v F.OA_CFG_HW_AGENTS = 0x1F ∧ v F.OA_CFG_TJ_WARN = 4 ∧ v F.OA_CFG_ESC_WINDOW = 80000 ∧ v F.OA_LIMIT_FET_CYCLES = 50000
    ∧ v F.OA_LIMIT2_CORR_SYM = 1000000 ∧ v F.OA_SHED_RESTORE = 8000
    ∧ State.reset.clock.time = 0 ∧ State.reset.clock.running = false

/-- A refused power request is counted under its code, recorded, and sets PWR_EVT.REFUSED. Rests on
R586. -/
def Obligations.PowerRefusals : Prop :=
  ∀ (s : State) (a : Agent) (k : Fin 16) (p : Fin 8), s.Sound →
    let c (i : Nat) : FRef := if i % 2 = 0 then F.PWR_REFUSE_n_LO (i / 2) else F.PWR_REFUSE_n_HI (i / 2)
    let t := s.powerRefused a k p
    (t.get (c k) = satAdd 16 (s.get (c k)) 1 ∧ (∀ i : Fin 16, i ≠ k → t.get (c i) = s.get (c i))
      ∧ t.get F.PWR_LAST_REFUSE_CODE = k ∧ t.get F.PWR_LAST_REFUSE_AGENT = a ∧ t.get F.PWR_LAST_REFUSE_TARGET = p
      ∧ t.get F.PWR_EVT_REFUSED = 1 ∧ t = { s with regs := t.regs, router := t.router }
      ∧ s.SameRegs t [A.PWR_REFUSE_n (k / 2), A.PWR_LAST_REFUSE, A.PWR_EVT, A.EVT_RISE_s 9])
    ∧ (∀ (tr : Transport) (f : Frame) (r : Nat), r ≠ R.ok → s.powerReply a tr f r k
      = (s.powerRefused a k f.w1.toNat).reply a tr (frameTag f) (frameOp f) r [w32 k])
    ∧ (∀ q : PwrReq, s.pwr = some q → s.powerEnd k
      = (s.powerClear.powerRefused q.agent k q.target).complete q.agent q.tag R.busy [w32 k])

/-- The end of shedding releases one channel per boundary, the highest priority first, until a new
trip. Rests on R604. -/
def Obligations.ShedRelease : Prop :=
  ∀ s : State, s.Sound →
    (s.get F.OA_STATUS_SHED_ACTIVE = 1 → s.get F.TC_PWR_LOCAL_OK = 1 → s.oa.okSince + s.get F.OA_SHED_RESTORE ≤ s.rails.hamada →
      let u := s.put F.OA_STATUS_SHED_ACTIVE 0
      exec .shedEnd s = .next (({ u with oa := { u.oa with releasing := true } } : State).each (List.range 8) State.efTry))
    ∧ (s.get F.OA_STATUS_SHED_ACTIVE = 0 → s.oa.releasing = true →
      (∀ c : Fin 8, s.efState c = 4 →
        (∀ d : Fin 8, s.efState d = 4 → s.efPrio d < s.efPrio c ∨ s.efPrio d = s.efPrio c ∧ c ≤ d) →
        s.shedTick = (s.efTo c 0).efTry c)
      ∧ ((∀ c : Fin 8, s.efState c ≠ 4) → s.shedTick = { s with oa := { s.oa with releasing := false } }))
    ∧ (s.get F.OA_STATUS_SHED_ACTIVE = 0 → s.oa.releasing = false → s.shedTick = s)
    ∧ (s.get F.OA_STATUS_SHED_ACTIVE = 1 → s.shedTick = s.shedPass2)
    ∧ (let u := (if s.flag F.OA_STATUS_SHED_ACTIVE then s else s.raise 10 ⟨A.OA_EVT, 5, 1⟩).put F.OA_STATUS_SHED_ACTIVE 1
      let v : State := { u with oa := { u.oa with releasing := false } }
      s.shedStart = (v.each (List.range 8) (fun s c =>
        if (s.efState c == 1 || s.efState c == 2) && decide (s.efPrio c < 15) then s.efShed c else s)).shedPass2)
    ∧ (s.power ≠ 4 → exec .localSupplyTrip s = .next s.frsTrip.shedStart)

/-- A pool's free grains form a first-in, first-out list. Rests on R352. -/
def Obligations.GrainPools : Prop :=
  ∀ s : State, s.Sound →
    (∀ (x g : Nat), g ≠ noGrain → let t := s.freeGrain x g
      vAt t.pl.free x = vAt s.pl.free x ++ [g] ∧ t = { s with pl := { s.pl with free := vPut s.pl.free x (vAt s.pl.free x ++ [g]) } })
    ∧ (∀ (h : Hp) (n : Nat) (p : Packet), s.grainMsg h n = none →
      let x := bitsOf (s.tunW0 h n) 6 3 % 2
      let surf := pktBits p 41 5
      let gx := pktBits p 46 6
      let gy := pktBits p 52 6
      let m : GrainMsg := ⟨false, x, surf, gx, gy, pktBits p 58 2, noGrain, 0, 0⟩
      s.surfFmt x surf ≠ 0 → gx < s.surfW x surf → gy < s.surfH x surf →
        (∀ (g : Nat) (rest : List Nat), vAt s.pl.free x = g :: rest →
          let count := cellGet 0 s.pl.started (64 * h + n) + 1
          let u : State := { s with pl := { s.pl with free := vPut s.pl.free x rest, tags := cellSet 7 s.pl.tags g h.val, started := cellSet 0 s.pl.started (64 * h + n) count } }
          vAt u.pl.free x = rest ∧ s.grainPacket h n p = (u.poolRegs x).grainPut h n { m with grain := g } p)
        ∧ (vAt s.pl.free x = [] → s.grainPacket h n p = s.grainDiscard h n m 3 (pktLast p)))

/-- A TICK field's write goes to the writer's staging set, replaces its staged value, and a 257th
entry is refused. Rests on R97, R98, R101, R635, R636. -/
def Obligations.StagingSets : Prop :=
  ∀ (s : State) (a : Agent) (addr v : Nat) (r : WReg), s.Sound → wregAt addr = some r →
    let ws := s.written a r v
    ws ≠ [] → (∀ w ∈ ws, w.acc = .rw ∧ w.cls = .tick ∧ s.mayField a r (r.word v) w = true ∧ valueOk r w.f.lsb w.v = true) →
    s.wordDenied r ws = false → s.wordBusy r ws = false →
    let t := s.modAgent a (fun g => { g with staged := s.staging a ws })
    (s.commitPending a = false → (s.staging a ws).length ≤ 256 → r.source = none → r ≠ .tickCommit → t.wordAction a r ws = t →
      (∀ p : Nat, r ≠ .pxCtrl p) → r ≠ .pwrStay → s.writeWord a addr v = (R.ok, t) ∧ ∀ f : FRef, t.get f = s.get f)
    ∧ (s.commitPending a = true ∨ 256 < (s.staging a ws).length → s.writeWord a addr v
      = (R.busy, s.commitResult (if s.commitPending a then 0x13 else 0x12) a 0 0 0))
    ∧ (∀ w : Wr, ws = [w] →
      ((∃ x ∈ (s.agent a).staged, x.f = w.f) → (s.staging a ws).length = (s.agent a).staged.length
        ∧ ∀ x ∈ s.staging a ws, if x.f = w.f then x.v = w.v else x ∈ (s.agent a).staged)
      ∧ ((∀ x ∈ (s.agent a).staged, x.f ≠ w.f) → s.staging a ws = (s.agent a).staged ++ [⟨w.f, w.v⟩]))
end

