-- ==== Sys2Proof/Laws/Cells.lean ====
section
/-! SUPPORT. Laws/Cells.lean: the laws of the sorted cells: a read after a write to the same key gives the value written,
every other key reads as before, and every operation keeps the canonical form. -/
namespace Sys2Proof.Machine

variable {α : Type}

/-- A key below the bound of a canonical list reads as an unlisted one. -/
theorem cellGet_below [DecidableEq α] (d : α) : ∀ (l : List (Nat × α)) (lo a : Nat), cellsFrom d lo l = true → a < lo →
    cellGet d l a = d
  | [], _, _, _, _ => rfl
  | (k, v) :: t, lo, a, h, ha => by
    simp only [cellsFrom, Bool.and_eq_true, decide_eq_true_eq] at h
    have h1 : a ≠ k := by omega
    have h2 : a < k := by omega
    simp [cellGet, h1, h2]

theorem cellsFrom_mono [DecidableEq α] (d : α) : ∀ (l : List (Nat × α)) (lo hi : Nat), cellsFrom d hi l = true → lo ≤ hi →
    cellsFrom d lo l = true
  | [], _, _, _, _ => rfl
  | (k, v) :: t, lo, hi, h, hl => by
    simp only [cellsFrom, Bool.and_eq_true, decide_eq_true_eq] at h ⊢
    exact ⟨⟨by omega, h.1.2⟩, h.2⟩

/-- A read after a write to the same key. -/
theorem cellGet_cellSet_same [DecidableEq α] (d : α) : ∀ (l : List (Nat × α)) (lo a : Nat) (v : α), cellsFrom d lo l = true →
    cellGet d (cellSet d l a v) a = v
  | [], _, a, v, _ => by
    unfold cellSet
    split
    · rename_i h; simp [cellGet, h]
    · simp [cellGet]
  | (k, w) :: t, lo, a, v, h => by
    simp only [cellsFrom, Bool.and_eq_true, decide_eq_true_eq] at h
    unfold cellSet
    split
    · split
      · rename_i h1 h2
        have : a ≠ k := by omega
        simp [cellGet, this, h1, h2]
      · simp [cellGet]
    · split
      · rename_i h1 h2
        subst h2
        split
        · rename_i h3; rw [h3]; exact cellGet_below d t _ a h.2 (by omega)
        · simp [cellGet]
      · rename_i h1 h2
        have ih := cellGet_cellSet_same d t _ a v h.2
        simp [cellGet, h1, h2, ih]

/-- A write leaves every other key as it was. -/
theorem cellGet_cellSet_other [DecidableEq α] (d : α) : ∀ (l : List (Nat × α)) (lo a b : Nat) (v : α),
    cellsFrom d lo l = true → b ≠ a → cellGet d (cellSet d l a v) b = cellGet d l b
  | [], _, a, b, v, _, hb => by
    unfold cellSet
    split
    · rfl
    · simp [cellGet, hb]
  | (k, w) :: t, lo, a, b, v, h, hb => by
    simp only [cellsFrom, Bool.and_eq_true, decide_eq_true_eq] at h
    unfold cellSet
    split
    · split
      · rfl
      · rename_i h1 h2
        simp only [cellGet, hb, if_false]
        split
        · have h3 : b ≠ k := by omega
          have h4 : b < k := by omega
          simp [h3, h4]
        · rfl
    · split
      · rename_i h1 h2
        subst h2
        split
        · simp only [cellGet, hb, if_false]
          split
          · exact cellGet_below d t _ b h.2 (by omega)
          · rfl
        · simp [cellGet, hb]
      · have ih := cellGet_cellSet_other d t _ a b v h.2 hb
        simp [cellGet, ih]

theorem cellsFrom_cellSet [DecidableEq α] (d : α) : ∀ (l : List (Nat × α)) (lo a : Nat) (v : α), cellsFrom d lo l = true →
    lo ≤ a → cellsFrom d lo (cellSet d l a v) = true
  | [], lo, a, v, _, ha => by
    unfold cellSet
    split
    · rfl
    · rename_i h; simp [cellsFrom, h, ha]
  | (k, w) :: t, lo, a, v, h, ha => by
    have h' := h
    simp only [cellsFrom, Bool.and_eq_true, decide_eq_true_eq] at h
    unfold cellSet
    split
    · split
      · exact h'
      · rename_i h1 h2
        simp only [cellsFrom, Bool.and_eq_true, decide_eq_true_eq]
        exact ⟨⟨ha, h2⟩, ⟨by omega, h.1.2⟩, h.2⟩
    · split
      · rename_i h1 h2
        subst h2
        split
        · exact cellsFrom_mono d t _ _ h.2 (by omega)
        · rename_i h3
          simp only [cellsFrom, Bool.and_eq_true, decide_eq_true_eq]
          exact ⟨⟨ha, h3⟩, h.2⟩
      · simp only [cellsFrom, Bool.and_eq_true, decide_eq_true_eq]
        exact ⟨h.1, cellsFrom_cellSet d t _ a v h.2 (by omega)⟩

/-- A cell set twice to one value is as set once. -/
theorem cellSet_cellSet [DecidableEq α] (d : α) : ∀ (l : List (Nat × α)) (lo a : Nat) (v : α), cellsFrom d lo l = true →
    cellSet d (cellSet d l a v) a v = cellSet d l a v
  | [], _, a, v, _ => by
    by_cases hv : v = d <;> simp [cellSet, hv]
  | (k, w) :: t, lo, a, v, h => by
    simp only [cellsFrom, Bool.and_eq_true, decide_eq_true_eq] at h
    have ih := cellSet_cellSet d t (k + 1) a v h.2
    by_cases h1 : a < k
    · by_cases hv : v = d <;> simp [cellSet, h1, hv]
    · by_cases h2 : a = k
      · subst h2
        by_cases hv : v = d
        · subst hv
          simp only [cellSet, Nat.lt_irrefl, if_true, if_false]
          match t, h.2 with
          | [], _ => simp [cellSet]
          | (k', w') :: t', h' =>
            simp only [cellsFrom, Bool.and_eq_true, decide_eq_true_eq] at h'
            simp [cellSet, show a < k' by omega]
        · simp [cellSet, hv]
      · simp [cellSet, h1, h2, ih]

/-- A write keeps the canonical form. -/
theorem cellsWf_cellSet [DecidableEq α] (d : α) (l : List (Nat × α)) (a : Nat) (v : α) (h : cellsWf d l = true) :
    cellsWf d (cellSet d l a v) = true := cellsFrom_cellSet d l 0 a v h (Nat.zero_le a)

theorem cellsFrom_filter [DecidableEq α] (d : α) (p : Nat × α → Bool) : ∀ (l : List (Nat × α)) (lo : Nat),
    cellsFrom d lo l = true → cellsFrom d lo (l.filter p) = true
  | [], _, _ => rfl
  | (k, v) :: t, lo, h => by
    simp only [cellsFrom, Bool.and_eq_true, decide_eq_true_eq] at h
    have ih := cellsFrom_filter d p t _ h.2
    rw [List.filter_cons]
    split
    · simp only [cellsFrom, Bool.and_eq_true, decide_eq_true_eq]
      exact ⟨h.1, ih⟩
    · exact cellsFrom_mono d _ _ _ ih (by omega)

/-- Dropping cells keeps the canonical form. -/
theorem cellsWf_filter [DecidableEq α] (d : α) (p : Nat × α → Bool) (l : List (Nat × α)) (h : cellsWf d l = true) :
    cellsWf d (l.filter p) = true := cellsFrom_filter d p l 0 h

theorem cellsWf_cellKeep [DecidableEq α] (d : α) (p : Nat → Bool) (l : List (Nat × α)) (h : cellsWf d l = true) :
    cellsWf d (cellKeep p l) = true := cellsFrom_filter d _ l 0 h

/-- A list whose keys end below `mid`, joined to one that starts there. -/
theorem cellsFrom_append [DecidableEq α] (d : α) : ∀ (l m : List (Nat × α)) (lo mid : Nat), cellsFrom d lo l = true →
    lo ≤ mid → (∀ c ∈ l, c.1 < mid) → cellsFrom d mid m = true → cellsFrom d lo (l ++ m) = true
  | [], m, lo, mid, _, hl, _, hm => cellsFrom_mono d m lo mid hm hl
  | (k, v) :: t, m, lo, mid, h, hl, hk, hm => by
    simp only [cellsFrom, Bool.and_eq_true, decide_eq_true_eq, List.cons_append] at h ⊢
    have hkm : k < mid := hk (k, v) (by simp)
    exact ⟨h.1, cellsFrom_append d t m (k + 1) mid h.2 (by omega) (fun c hc => hk c (by simp [hc])) hm⟩

theorem cellsFrom_atLeast [DecidableEq α] (d : α) (q : Nat) : ∀ (l : List (Nat × α)) (lo : Nat), cellsFrom d lo l = true →
    cellsFrom d q (l.filter (fun c => decide (q ≤ c.1))) = true
  | [], _, _ => rfl
  | (k, v) :: t, lo, h => by
    simp only [cellsFrom, Bool.and_eq_true, decide_eq_true_eq] at h
    rw [List.filter_cons]
    split
    · rename_i hq
      simp only [decide_eq_true_eq] at hq
      simp only [cellsFrom, Bool.and_eq_true, decide_eq_true_eq]
      exact ⟨⟨hq, h.1.2⟩, cellsFrom_filter d _ t _ h.2⟩
    · exact cellsFrom_atLeast d q t _ h.2

theorem cellsFrom_run [DecidableEq α] (d : α) : ∀ (vs : List α) (a : Nat),
    cellsFrom d a ((vs.zipIdx a).filterMap (fun p => if p.1 = d then none else some (p.2, p.1))) = true
      ∧ ∀ c ∈ (vs.zipIdx a).filterMap (fun p => if p.1 = d then none else some (p.2, p.1)), c.1 < a + vs.length
  | [], a => by simp [cellsFrom]
  | v :: vs, a => by
    have ih := cellsFrom_run d vs (a + 1)
    rw [List.zipIdx_cons, List.filterMap_cons]
    by_cases hv : v = d
    · simp only [hv, if_true, List.length_cons]
      exact ⟨cellsFrom_mono d _ _ _ ih.1 (by omega), fun c hc => by have := ih.2 c hc; omega⟩
    · simp only [hv, if_false, List.length_cons]
      refine ⟨?_, ?_⟩
      · simp only [cellsFrom, Bool.and_eq_true, decide_eq_true_eq]
        exact ⟨⟨Nat.le_refl a, hv⟩, ih.1⟩
      · intro c hc
        rcases List.mem_cons.mp hc with rfl | hc
        · show a < a + (vs.length + 1)
          omega
        · have := ih.2 c hc; omega

/-- Replacing a run of keys keeps the canonical form. -/
theorem cellsWf_cellSplice [DecidableEq α] (d : α) (l : List (Nat × α)) (a : Nat) (vs : List α) (h : cellsWf d l = true) :
    cellsWf d (cellSplice d l a vs) = true := by
  unfold cellSplice cellsWf
  have hr := cellsFrom_run d vs a
  have hlow : ∀ c ∈ l.filter (fun c => decide (c.1 < a)), c.1 < a := by
    intro c hc
    simpa using (List.mem_filter.mp hc).2
  have h1 : cellsFrom d 0 (l.filter (fun c => decide (c.1 < a)) ++
      ((vs.zipIdx a).filterMap (fun p => if p.1 = d then none else some (p.2, p.1)))) = true :=
    cellsFrom_append d _ _ 0 a (cellsFrom_filter d _ l 0 h) (Nat.zero_le a) hlow hr.1
  refine cellsFrom_append d _ _ 0 (a + vs.length) h1 (Nat.zero_le _) ?_ (cellsFrom_atLeast d _ l 0 h)
  intro c hc
  rcases List.mem_append.mp hc with hc | hc
  · have := hlow c hc; omega
  · exact hr.2 c hc

end Sys2Proof.Machine
end

