-- ==== Sys2Proof/Laws/Kept.lean ====
section
/-! SUPPORT. Laws/Kept.lean: what every shared operation keeps: the invariant of Safety.lean, the command queue, and what OTP has had
programmed into it. One lemma for each operation, cited by the lemma of each operation and command that calls it. -/

set_option linter.unusedTactic false
set_option linter.unreachableTactic false

namespace Sys2Proof.Machine

/-! ### The invariant by its parts -/

theorem State.Sound.regs {s : State} (h : s.Sound) : cellsWf 0 s.regs = true := by
  have := h.cells
  simp only [Memory.wf, Bool.and_eq_true] at this
  exact this.1.1.1

theorem State.Sound.flash {s : State} (h : s.Sound) : cellsWf 0xFF s.img.flash = true := by
  have := h.cells
  simp only [Memory.wf, Bool.and_eq_true] at this
  exact this.1.1.2

theorem State.Sound.pixels {s : State} (h : s.Sound) : cellsWf 0 s.pl.pixels = true := by
  have := h.cells
  simp only [Memory.wf, Bool.and_eq_true] at this
  exact this.1.2

theorem State.Sound.tags {s : State} (h : s.Sound) : cellsWf 7 s.pl.tags = true := by
  have := h.cells
  simp only [Memory.wf, Bool.and_eq_true] at this
  exact this.2

/-- The OTP words `o` and revoke bits `r` undo nothing of those of `z`: a programmed slot keeps its hash and a revoke bit
stays set (R81 to R83). -/
def otpGrew (z : State) (o : Vector (Option (BitVec 384)) 4) (r : Nat) : Prop :=
  (∀ i, vAt z.img.otp i = none ∨ vAt o i = vAt z.img.otp i) ∧ z.img.revoked &&& r = z.img.revoked

/-- What every part of a command keeps of the state `z` that the command found: the invariant, the queue's rest, and OTP. -/
structure Kept (z s : State) : Prop where
  sound : s.Sound
  pending : s.pending = z.pending
  otp : otpGrew z s.img.otp s.img.revoked

theorem otpGrew_refl (z : State) : otpGrew z z.img.otp z.img.revoked :=
  ⟨fun _ => .inr rfl, Nat.and_self _⟩

theorem Kept.refl {z : State} (h : z.Sound) : Kept z z := ⟨h, rfl, otpGrew_refl z⟩

/-- The parts of a state that the family is about. -/
def keptParts (z : State) (pending : List Instr) (regs : List (Nat × Word)) (flash : List (Nat × Byte))
    (otp : Vector (Option (BitVec 384)) 4) (revoked : Nat) (pixels : List (Nat × Word)) (tags : List (Nat × Nat))
    (time : Nat) (logs : Vector ErrLog 5) (caps : Vector CapFifo 4) (perr : Vector (List (List Word)) 4)
    (fdb : List FdbEnt) : Prop :=
  cellsWf 0 regs = true ∧ cellsWf 0xFF flash = true ∧ cellsWf 0 pixels = true ∧ cellsWf 7 tags = true ∧ time % 4 = 0 ∧
    logs.all (fun l => decide (l.ring.length ≤ 32)) = true ∧ caps.all (fun f => decide (f.recs.length ≤ 128)) = true ∧
    perr.all (fun l => decide (l.length ≤ 16)) = true ∧ fdb.length ≤ 4096 ∧ pending = z.pending ∧ otpGrew z otp revoked

theorem Kept.parts {z s : State} (h : Kept z s) :
    keptParts z s.pending s.regs s.img.flash s.img.otp s.img.revoked s.pl.pixels s.pl.tags s.clock.time s.logs s.sr.caps
      s.wd.perr s.et.fdb :=
  ⟨h.sound.regs, h.sound.flash, h.sound.pixels, h.sound.tags, h.sound.time, h.sound.rings, h.sound.caps, h.sound.perr,
    h.sound.fdb, h.pending, h.otp⟩

theorem Kept.of_parts {z s : State}
    (h : keptParts z s.pending s.regs s.img.flash s.img.otp s.img.revoked s.pl.pixels s.pl.tags s.clock.time s.logs s.sr.caps
      s.wd.perr s.et.fdb) : Kept z s := by
  obtain ⟨hr, hf, hp, hg, hc, hl, hq, hw, hd, hn, ho⟩ := h
  refine ⟨⟨?_, hc, hl, hq, hw, hd⟩, hn, ho⟩
  unfold Memory.wf
  rw [hr, hf, hp, hg]
  rfl

theorem Kept.mk_iff (z : State) (pending out free regs clock router img mgmt arb spiQ usbQ logs own pwr links mainLost eyes
    bc sr
    pl px oa rails et us wd tc ef) :
    Kept z (State.mk pending out free regs clock router img mgmt arb spiQ usbQ logs own pwr links mainLost eyes bc sr
      pl px oa rails et us wd tc ef) = keptParts z pending regs img.flash img.otp img.revoked pl.pixels pl.tags clock.time
        logs sr.caps wd.perr et.fdb :=
  propext ⟨fun h => h.parts, fun h => Kept.of_parts h⟩

/-- A state that differs in none of the parts. -/
theorem Kept.of_eq {z s t : State} (h : Kept z s) (hr : t.regs = s.regs) (hi : t.img = s.img) (hp : t.pl = s.pl)
    (hc : t.clock = s.clock) (hl : t.logs = s.logs) (hq : t.sr.caps = s.sr.caps) (hw : t.wd.perr = s.wd.perr)
    (hd : t.et.fdb = s.et.fdb) (hn : t.pending = s.pending) : Kept z t := by
  apply Kept.of_parts
  rw [hr, hi, hp, hc, hl, hq, hw, hd, hn]
  exact h.parts

/-! ### Branches, folds, outcomes -/

theorem Kept.ite {z : State} {c : Prop} [Decidable c] {a b : State} (ha : Kept z a) (hb : Kept z b) :
    Kept z (if c then a else b) := by
  split
  · exact ha
  · exact hb

theorem Kept.foldl {z : State} {β : Type} (f : State → β → State) (hf : ∀ s b, Kept z s → Kept z (f s b)) :
    ∀ (l : List β) (s : State), Kept z s → Kept z (l.foldl f s)
  | [], _, h => h
  | b :: l, s, h => Kept.foldl f hf l (f s b) (hf s b h)

theorem Kept.foldl_pair {z : State} {β γ : Type} (f : β × State → γ → β × State)
    (hf : ∀ a c, Kept z a.2 → Kept z (f a c).2) : ∀ (l : List γ) (a : β × State), Kept z a.2 → Kept z (l.foldl f a).2
  | [], _, h => h
  | c :: l, a, h => Kept.foldl_pair f hf l (f a c) (hf a c h)

theorem Kept.pair_ite {z : State} {β : Type} {c : Prop} [Decidable c] {a b : β × State} (ha : Kept z a.2)
    (hb : Kept z b.2) : Kept z (if c then a else b).2 := by
  split
  · exact ha
  · exact hb

/-- The state of a pair that a match takes apart. -/
theorem Kept.of_pair {z : State} {β : Type} {x : β × State} {a : β} {t : State} (h : x = (a, t)) (hx : Kept z x.2) :
    Kept z t := by
  rw [h] at hx
  exact hx

/-- An outcome whose next state, if it has one, keeps what `z` had. -/
def KeptBy (z : State) : Res → Prop
  | .next t => Kept z t
  | _ => True

theorem KeptBy.next {z t : State} (h : Kept z t) : KeptBy z (.next t) := h

theorem KeptBy.ite {z : State} {c : Prop} [Decidable c] {a b : Res} (ha : KeptBy z a) (hb : KeptBy z b) :
    KeptBy z (if c then a else b) := by
  split
  · exact ha
  · exact hb

/-! ### The parts that change -/

theorem all_vMod {α : Type} {n : Nat} [NeZero n] (v : Vector α n) (i : Nat) (f : α → α) (p : α → Bool) (h : v.all p = true)
    (hf : p (vAt v i) = true → p (f (vAt v i)) = true) : (vMod v i f).all p = true := by
  rw [Vector.all_eq_true] at h ⊢
  intro j hj
  unfold vMod vPut
  rw [Vector.getElem_set]
  split
  · exact hf (h _ (Nat.mod_lt _ (Nat.pos_of_neZero n)))
  · exact h j hj

theorem Kept.modLogs {z s : State} (h : Kept z s) (a : Nat) (f : ErrLog → ErrLog)
    (hf : ∀ l : ErrLog, l.ring.length ≤ 32 → (f l).ring.length ≤ 32) : Kept z ({ s with logs := vMod s.logs a f } : State) := by
  have hp := h.parts
  apply Kept.of_parts
  exact ⟨hp.1, hp.2.1, hp.2.2.1, hp.2.2.2.1, hp.2.2.2.2.1,
    all_vMod s.logs a f _ h.sound.rings (fun hx => by simpa using hf _ (by simpa using hx)), hp.2.2.2.2.2.2⟩

theorem ErrLog.add_ring (l : ErrLog) (e : ErrEntry) (h : l.ring.length ≤ 32) : (l.add e).ring.length ≤ 32 := by
  unfold ErrLog.add
  dsimp only
  split
  · rw [List.length_append]; simp; omega
  · exact h

theorem Kept.modCaps {z s : State} (h : Kept z s) (g : Nat) (f : CapFifo → CapFifo)
    (hf : (vAt s.sr.caps g).recs.length ≤ 128 → (f (vAt s.sr.caps g)).recs.length ≤ 128) :
    Kept z ({ s with sr := { s.sr with caps := vMod s.sr.caps g f } } : State) := by
  have hp := h.parts
  apply Kept.of_parts
  exact ⟨hp.1, hp.2.1, hp.2.2.1, hp.2.2.2.1, hp.2.2.2.2.1, hp.2.2.2.2.2.1,
    all_vMod s.sr.caps g f _ h.sound.caps (fun hx => by simpa using hf (by simpa using hx)), hp.2.2.2.2.2.2.2⟩

theorem Kept.modPerr {z s : State} (h : Kept z s) (a : Nat) (f : List (List Word) → List (List Word))
    (hf : (vAt s.wd.perr a).length ≤ 16 → (f (vAt s.wd.perr a)).length ≤ 16) :
    Kept z ({ s with wd := { s.wd with perr := vMod s.wd.perr a f } } : State) := by
  have hp := h.parts
  apply Kept.of_parts
  exact ⟨hp.1, hp.2.1, hp.2.2.1, hp.2.2.2.1, hp.2.2.2.2.1, hp.2.2.2.2.2.1, hp.2.2.2.2.2.2.1,
    all_vMod s.wd.perr a f _ h.sound.perr (fun hx => by simpa using hf (by simpa using hx)), hp.2.2.2.2.2.2.2.2⟩

theorem Kept.parts_pixels {z s : State} (h : Kept z s) (a : Nat) (vs : List Word) :
    keptParts z s.pending s.regs s.img.flash s.img.otp s.img.revoked (cellSplice 0 s.pl.pixels a vs) s.pl.tags s.clock.time
      s.logs s.sr.caps s.wd.perr s.et.fdb := by
  have hp := h.parts
  exact ⟨hp.1, hp.2.1, cellsWf_cellSplice 0 _ a vs hp.2.2.1, hp.2.2.2⟩

theorem Kept.parts_tags {z s : State} (h : Kept z s) (a v : Nat) :
    keptParts z s.pending s.regs s.img.flash s.img.otp s.img.revoked s.pl.pixels (cellSet 7 s.pl.tags a v) s.clock.time
      s.logs s.sr.caps s.wd.perr s.et.fdb := by
  have hp := h.parts
  exact ⟨hp.1, hp.2.1, hp.2.2.1, cellsWf_cellSet 7 _ a v hp.2.2.2.1, hp.2.2.2.2⟩

theorem Kept.setRegs {z s : State} (h : Kept z s) (l : List (Nat × Word)) (hl : cellsWf 0 l = true) :
    Kept z ({ s with regs := l } : State) := by
  have hp := h.parts
  apply Kept.of_parts
  exact ⟨hl, hp.2⟩

theorem Kept.setFlash {z s : State} (h : Kept z s) (f : ImgState → ImgState) (hf : cellsWf 0xFF (f s.img).flash = true)
    (ho : (f s.img).otp = s.img.otp) (hr : (f s.img).revoked = s.img.revoked) : Kept z (s.modImg f) := by
  have hp := h.parts
  apply Kept.of_parts
  refine ⟨hp.1, hf, hp.2.2.1, hp.2.2.2.1, hp.2.2.2.2.1, hp.2.2.2.2.2.1, hp.2.2.2.2.2.2.1, hp.2.2.2.2.2.2.2.1,
    hp.2.2.2.2.2.2.2.2.1, hp.2.2.2.2.2.2.2.2.2.1, ?_⟩
  show otpGrew z (f s.img).otp (f s.img).revoked
  rw [ho, hr]
  exact h.otp

theorem Kept.setOtp {z s : State} (h : Kept z s) (f : ImgState → ImgState) (hf : (f s.img).flash = s.img.flash)
    (ho : ∀ i, vAt s.img.otp i = none ∨ vAt (f s.img).otp i = vAt s.img.otp i)
    (hr : s.img.revoked &&& (f s.img).revoked = s.img.revoked) : Kept z (s.modImg f) := by
  have hp := h.parts
  apply Kept.of_parts
  refine ⟨hp.1, ?_, hp.2.2.1, hp.2.2.2.1, hp.2.2.2.2.1, hp.2.2.2.2.2.1, hp.2.2.2.2.2.2.1, hp.2.2.2.2.2.2.2.1,
    hp.2.2.2.2.2.2.2.2.1, hp.2.2.2.2.2.2.2.2.2.1, ?_⟩
  · show cellsWf 0xFF (f s.img).flash = true
    rw [hf]
    exact h.sound.flash
  · show otpGrew z (f s.img).otp (f s.img).revoked
    have h1 := h.otp
    refine ⟨fun i => ?_, ?_⟩
    · rcases h1.1 i with h2 | h2
      · exact .inl h2
      · rcases ho i with h3 | h3
        · exact .inl (by rw [← h2]; exact h3)
        · exact .inr (by rw [h3, h2])
    · rw [← h1.2, Nat.and_assoc, hr]

/-! ### The shared operations -/

theorem State.setReg_kept {z s : State} (a v : Nat) (hs : Kept z s) : Kept z (State.setReg s a v) :=
  hs.setRegs _ (cellsWf_cellSet 0 s.regs a (w32 v) hs.sound.regs)

theorem State.put_kept {z s : State} (f : FRef) (v : Nat) (hs : Kept z s) : Kept z (State.put s f v) := by
  unfold State.put
  repeat' first
    | with_reducible assumption | intro _ | with_reducible apply State.setReg_kept | dsimp only

theorem State.bump_kept {z s : State} (f : FRef) (n : Nat) (hs : Kept z s) : Kept z (State.bump s f n) := by
  unfold State.bump
  repeat' first
    | with_reducible assumption | intro _ | with_reducible apply State.put_kept | dsimp only

theorem State.setBit_kept {z s : State} (f : FRef) (i : Nat) (hs : Kept z s) : Kept z (State.setBit s f i) := by
  unfold State.setBit
  repeat' first
    | with_reducible assumption | intro _ | with_reducible apply State.put_kept | dsimp only

theorem State.clrBit_kept {z s : State} (f : FRef) (i : Nat) (hs : Kept z s) : Kept z (State.clrBit s f i) := by
  unfold State.clrBit
  repeat' first
    | with_reducible assumption | intro _ | with_reducible apply State.put_kept | dsimp only

theorem State.putPair_kept {z s : State} (lo : FRef) (hi : FRef) (v : Nat) (hs : Kept z s) :
    Kept z (State.putPair s lo hi v) := by
  unfold State.putPair
  repeat' first
    | with_reducible assumption | intro _ | with_reducible apply State.put_kept | dsimp only

theorem State.bumpPair_kept {z s : State} (lo : FRef) (hi : FRef) (n : Nat) (hs : Kept z s) :
    Kept z (State.bumpPair s lo hi n) := by
  unfold State.bumpPair
  repeat' first
    | with_reducible assumption | intro _ | with_reducible apply State.putPair_kept | dsimp only

theorem State.each_kept {z s : State} (l : List Nat) (f : State → Nat → State) (hs : Kept z s) (hf : ∀ s n, Kept z s →
    Kept z (f s n)) : Kept z (State.each s l f) := by
  unfold State.each
  repeat' first
    | with_reducible assumption | intro _ | with_reducible apply hf | with_reducible apply Kept.foldl | dsimp only

theorem State.iff_kept {z s : State} (c : Bool) (f : State → State) (hs : Kept z s) (hf : ∀ s, Kept z s → Kept z (f
    s)) : Kept z (State.iff s c f) := by
  unfold State.iff
  repeat' first
    | with_reducible assumption | intro _ | with_reducible apply hf | with_reducible apply Kept.ite | dsimp only

theorem State.modAgent_kept {z s : State} (a : Nat) (f : MgmtAgent → MgmtAgent) (hs : Kept z s) :
    Kept z (State.modAgent s a f) := by
  unfold State.modAgent
  repeat' first
    | with_reducible assumption | intro _ | simp only [Kept.mk_iff] | with_reducible apply Kept.parts | split
    | dsimp only

theorem State.modLink_kept {z s : State} (h : Nat) (f : Link → Link) (hs : Kept z s) :
    Kept z (State.modLink s h f) := by
  unfold State.modLink
  repeat' first
    | with_reducible assumption | intro _ | simp only [Kept.mk_iff] | with_reducible apply Kept.parts | split
    | dsimp only

theorem State.modQueue_kept {z s : State} (q : Nat) (f : BQueue → BQueue) (hs : Kept z s) :
    Kept z (State.modQueue s q f) := by
  unfold State.modQueue
  repeat' first
    | with_reducible assumption | intro _ | simp only [Kept.mk_iff] | with_reducible apply Kept.parts | split
    | dsimp only

theorem State.modImg_kept {z s : State} (f : ImgState → ImgState) (hs : Kept z s) (hf : (f s.img).flash = s.img.flash)
    (ho : (f s.img).otp = s.img.otp) (hr : (f s.img).revoked = s.img.revoked) : Kept z (State.modImg s f) :=
  hs.setFlash f (by rw [hf]; exact hs.sound.flash) ho hr

theorem State.modOwn_kept {z s : State} (f : OwnState → OwnState) (hs : Kept z s) : Kept z (State.modOwn s f) := by
  unfold State.modOwn
  repeat' first
    | with_reducible assumption | intro _ | simp only [Kept.mk_iff] | with_reducible apply Kept.parts | dsimp only

/-- A clock whose TIME is set to a multiple of 4. -/
theorem State.modClock_time {z s : State} (f : Clock → Clock) (hs : Kept z s) (hf : (f s.clock).time % 4 = 0) :
    Kept z (State.modClock s f) := by
  have hp := hs.parts
  apply Kept.of_parts
  exact ⟨hp.1, hp.2.1, hp.2.2.1, hp.2.2.2.1, hf, hp.2.2.2.2.2⟩

/-- A clock whose TIME stays. -/
theorem State.modClock_kept {z s : State} (f : Clock → Clock) (hs : Kept z s) (hf : (f s.clock).time = s.clock.time) :
    Kept z (State.modClock s f) := State.modClock_time f hs (by rw [hf]; exact hs.sound.time)

theorem State.emit_kept {z s : State} (e : Emit) (hs : Kept z s) : Kept z (State.emit s e) := by
  unfold State.emit
  repeat' first
    | with_reducible assumption | intro _ | simp only [Kept.mk_iff] | with_reducible apply Kept.parts | dsimp only

theorem State.took_kept {z s : State} (hs : Kept z s) : Kept z (State.took s) := by
  unfold State.took
  repeat' first
    | with_reducible assumption | intro _ | simp only [Kept.mk_iff] | with_reducible apply Kept.parts | dsimp only

theorem State.pda_kept {z s : State} (f : State → State) (hs : Kept z s) (hf : ∀ s, Kept z s → Kept z (f s)) :
    Kept z (State.pda s f) := by
  unfold State.pda
  repeat' first
    | with_reducible assumption | intro _ | with_reducible apply hf | with_reducible apply Kept.ite | dsimp only

theorem State.advanceTo_kept {z s : State} (t : Nat) (hs : Kept z s) : Kept z (State.advanceTo s t) := by
  unfold State.advanceTo
  repeat' first
    | with_reducible assumption | intro _
    | with_reducible refine State.modClock_time _ ?_ (by dsimp only [State.nextBoundary]; omega)
    | with_reducible refine State.modClock_kept _ ?_ rfl | with_reducible apply Kept.ite | dsimp only

theorem State.noteRise_kept {z s : State} (n : Nat) (hs : Kept z s) : Kept z (State.noteRise s n) := by
  unfold State.noteRise
  repeat' first
    | with_reducible assumption | intro _ | with_reducible apply State.bump_kept | simp only [Kept.mk_iff]
    | with_reducible apply Kept.parts | with_reducible apply Kept.ite | dsimp only

theorem State.stormWindow_kept {z s : State} (hs : Kept z s) : Kept z (State.stormWindow s) := by
  unfold State.stormWindow
  repeat' first
    | with_reducible assumption | intro _ | simp only [Kept.mk_iff] | with_reducible apply Kept.parts | dsimp only

theorem State.watching_kept {z s : State} (n : Nat) (f : State → State) (hs : Kept z s) (hf : ∀ s, Kept z s → Kept z
    (f s)) : Kept z (State.watching s n f) := by
  unfold State.watching
  repeat' first
    | with_reducible assumption | intro _ | with_reducible apply hf | with_reducible apply State.noteRise_kept
    | with_reducible apply Kept.ite | dsimp only

theorem State.raise_kept {z s : State} (n : Nat) (f : FRef) (hs : Kept z s) : Kept z (State.raise s n f) := by
  unfold State.raise
  repeat' first
    | with_reducible assumption | intro _ | with_reducible apply State.watching_kept
    | with_reducible apply State.put_kept | dsimp only

theorem State.logTo_kept {z s : State} (a cls result cause unit agent detail : Nat) (hs : Kept z s) :
    Kept z (State.logTo s a cls result cause unit agent detail) := by
  unfold State.logTo
  dsimp only
  have h := hs.modLogs a (fun l => l.add ⟨errW0 cls result cause unit agent, detail % 2 ^ 32, s.clock.time⟩)
    (fun l hl => ErrLog.add_ring l _ hl)
  split
  · exact State.raise_kept _ _ h
  · exact h

theorem State.logOp_kept {z s : State} (a : Nat) (result : Nat) (cause : Nat) (unit : Nat) (detail : Nat) (hs : Kept z
    s) : Kept z (State.logOp s a result cause unit detail) := by
  unfold State.logOp
  repeat' first
    | with_reducible assumption | intro _ | with_reducible apply State.logTo_kept | with_reducible apply Kept.ite
    | dsimp only

theorem State.logHw_kept {z s : State} (owner : Nat) (cls : Nat) (result : Nat) (cause : Nat) (unit : Nat) (detail :
    Nat) (hs : Kept z s) : Kept z (State.logHw s owner cls result cause unit detail) := by
  unfold State.logHw
  repeat' first
    | with_reducible assumption | intro _ | with_reducible apply State.logTo_kept | with_reducible apply Kept.ite
    | with_reducible apply Kept.foldl | dsimp only

theorem State.notice_kept {z s : State} (n : Nat) (inst : Nat) (hs : Kept z s) : Kept z (State.notice s n inst) := by
  unfold State.notice
  repeat' first
    | with_reducible assumption | intro _ | with_reducible apply State.put_kept
    | with_reducible apply State.bump_kept | with_reducible apply State.raise_kept | simp only [Kept.mk_iff]
    | with_reducible apply Kept.parts | dsimp only

theorem State.spareTookOver_kept {z s : State} (owner : Nat) (unit : Nat) (detail : Nat) (hs : Kept z s) :
    Kept z (State.spareTookOver s owner unit detail) := by
  unfold State.spareTookOver
  repeat' first
    | with_reducible assumption | intro _ | with_reducible apply State.raise_kept
    | with_reducible apply State.logHw_kept | dsimp only

theorem State.statusSent_kept {z s : State} (a : Nat) (hs : Kept z s) : Kept z (State.statusSent s a) := by
  unfold State.statusSent
  repeat' first
    | with_reducible assumption | intro _ | with_reducible apply State.modAgent_kept | dsimp only

theorem State.hbDisarm_kept {z s : State} (h : Nat) (hs : Kept z s) : Kept z (State.hbDisarm s h) := by
  unfold State.hbDisarm
  repeat' first
    | with_reducible assumption | intro _ | with_reducible apply State.modAgent_kept
    | with_reducible apply State.put_kept | dsimp only

theorem State.relist_kept {z s : State} (q : Nat) (hs : Kept z s) : Kept z (State.relist s q) := by
  unfold State.relist
  repeat' first
    | with_reducible assumption | intro _ | with_reducible apply State.modQueue_kept | simp only [Kept.mk_iff]
    | with_reducible apply Kept.parts | with_reducible apply Kept.ite | dsimp only

theorem State.delist_kept {z s : State} (q : Nat) (hs : Kept z s) : Kept z (State.delist s q) := by
  unfold State.delist
  repeat' first
    | with_reducible assumption | intro _ | with_reducible apply State.modQueue_kept | simp only [Kept.mk_iff]
    | with_reducible apply Kept.parts | dsimp only

theorem State.countOverflow_kept {z s : State} (hs : Kept z s) : Kept z (State.countOverflow s) := by
  unfold State.countOverflow
  repeat' first
    | with_reducible assumption | intro _ | with_reducible apply State.put_kept | dsimp only

theorem State.setFiling_kept {z s : State} (q : Nat) (e : Nat) (f : Filing) (hs : Kept z s) :
    Kept z (State.setFiling s q e f) := by
  unfold State.setFiling
  repeat' first
    | with_reducible assumption | intro _ | with_reducible apply State.modQueue_kept
    | with_reducible apply State.countOverflow_kept | with_reducible apply Kept.ite | dsimp only

theorem State.file_kept {z s : State} (q : Nat) (hs : Kept z s) : Kept z (State.file s q) := by
  unfold State.file
  repeat' first
    | with_reducible assumption | intro _ | with_reducible apply State.setFiling_kept | with_reducible apply Kept.ite
    | dsimp only

theorem State.accrue_kept {z s : State} (q : Nat) (hs : Kept z s) : Kept z (State.accrue s q) := by
  unfold State.accrue
  repeat' first
    | with_reducible assumption | intro _ | with_reducible apply State.modQueue_kept | with_reducible apply Kept.ite
    | dsimp only

theorem State.accrueAll_kept {z s : State} (hs : Kept z s) : Kept z (State.accrueAll s) := by
  unfold State.accrueAll
  repeat' first
    | with_reducible assumption | intro _ | with_reducible apply State.each_kept
    | with_reducible apply State.accrue_kept | dsimp only

theorem State.join_kept {z s : State} (q : Nat) (i : QItem) (hs : Kept z s) : Kept z (State.join s q i) := by
  unfold State.join
  repeat' first
    | with_reducible assumption | intro _ | with_reducible apply State.accrue_kept
    | with_reducible apply State.modQueue_kept | with_reducible apply State.file_kept
    | with_reducible apply State.relist_kept | with_reducible apply Kept.ite | dsimp only

theorem State.unholdN_kept {z : State} (q : Nat) : ∀ (n : Nat) {s : State}, Kept z s → Kept z (State.unholdN s q n)
  | 0, _, hs => hs
  | n + 1, s, hs => by
    unfold State.unholdN
    split
    · exact hs
    · split
      · exact State.unholdN_kept q n (State.join_kept _ _ (State.modQueue_kept _ _ hs))
      · exact hs

theorem State.unhold_kept {z s : State} (q : Nat) (hs : Kept z s) : Kept z (State.unhold s q) := by
  unfold State.unhold
  repeat' first
    | with_reducible assumption | intro _ | with_reducible apply State.unholdN_kept | dsimp only

theorem State.enqueue_kept {z s : State} (q : Nat) (i : QItem) (hs : Kept z s) : Kept z (State.enqueue s q i) := by
  unfold State.enqueue
  repeat' first
    | with_reducible assumption | intro _ | with_reducible apply State.modQueue_kept
    | with_reducible apply State.join_kept | simp only [Kept.mk_iff] | with_reducible apply Kept.parts
    | with_reducible apply Kept.ite | dsimp only

theorem State.setItems_kept {z s : State} (q : Nat) (items : List QItem) (head : Bool) (hs : Kept z s) :
    Kept z (State.setItems s q items head) := by
  unfold State.setItems
  repeat' first
    | with_reducible assumption | intro _ | with_reducible apply State.modQueue_kept
    | with_reducible apply State.unhold_kept | with_reducible apply State.relist_kept
    | with_reducible apply State.file_kept | with_reducible apply Kept.ite | dsimp only

theorem State.keepItems_kept {z s : State} (q : Nat) (p : QItem → Bool) (hs : Kept z s) :
    Kept z (State.keepItems s q p) := by
  unfold State.keepItems
  repeat' first
    | with_reducible assumption | intro _ | with_reducible apply State.setItems_kept
    | with_reducible apply State.modQueue_kept | split | dsimp only

theorem State.takeHead_kept {z s : State} (q : Nat) (reserved : Bool) (hs : Kept z s) :
    Kept z (State.takeHead s q reserved) := by
  unfold State.takeHead
  repeat' first
    | with_reducible assumption | intro _ | with_reducible apply State.accrue_kept
    | with_reducible apply State.modQueue_kept | with_reducible apply State.file_kept
    | with_reducible apply State.bump_kept | with_reducible apply State.bumpPair_kept
    | with_reducible apply State.put_kept | with_reducible apply State.unhold_kept
    | with_reducible apply State.relist_kept | with_reducible apply Kept.ite | split | dsimp only

theorem State.flushQueue_kept {z s : State} (q : Nat) (hs : Kept z s) : Kept z (State.flushQueue s q) := by
  unfold State.flushQueue
  repeat' first
    | with_reducible assumption | intro _ | with_reducible apply State.relist_kept
    | with_reducible apply State.setFiling_kept | with_reducible apply State.modQueue_kept | dsimp only

theorem State.drr_kept {z : State} (reserved : Bool) : ∀ (n : Nat) (s : State) (l : List Nat) (q : Nat) (t : State), Kept z s →
    State.drr reserved n s l = some (q, t) → Kept z t
  | 0, _, _, _, _, _, h => by simp [State.drr] at h
  | _ + 1, _, [], _, _, _, h => by simp [State.drr] at h
  | n + 1, s, p :: rest, q, t, hs, h => by
    unfold State.drr at h
    extract_lets b fed d0 d l s1 s2 at h
    split at h
    · simp only [Option.some.injEq, Prod.mk.injEq] at h
      rw [← h.2]
      exact State.modQueue_kept _ _ hs
    · refine State.drr_kept reserved n _ _ q t ?_ h
      have h1 : Kept z s1 := State.modQueue_kept p _ hs
      show Kept z (if reserved then _ else _ : State)
      split
      · exact Kept.of_eq h1 rfl rfl rfl rfl rfl rfl rfl rfl rfl
      · exact Kept.of_eq h1 rfl rfl rfl rfl rfl rfl rfl rfl rfl

theorem State.choose_kept {z s : State} (st : Nat) (sendable : Nat → Bool) (hs : Kept z s) (q : Nat) (r : Bool) (t : State)
    (h : State.choose s st sendable = some (q, r, t)) : Kept z t := by
  unfold State.choose at h
  dsimp only at h
  have he : Kept z (s.each (streamQueues st) (fun s q =>
      (if ((s.queue q).filing == Filing.none && !(s.queue q).items.isEmpty) = true then s.file q else s).relist q)) := by
    refine State.each_kept _ _ hs ?_
    intro u n hu
    refine State.relist_kept _ ?_
    split
    · exact State.file_kept n hu
    · exact hu
  have go : ∀ (b : Bool) (u : State) (l : List Nat) (x : Nat × Bool × State), Kept z u →
      l.findSome? (fun lvl => (State.drr b (u.drrTurns (u.candidates b st lvl sendable)) u (u.candidates b st lvl sendable)).map (fun r => (r.1, b, r.2))) = some x →
      Kept z x.2.2 := by
    intro b u l x hu hx
    obtain ⟨lvl, -, hl⟩ := List.exists_of_findSome?_eq_some hx
    simp only [Option.map_eq_some_iff] at hl
    obtain ⟨⟨p, v⟩, h1, h2⟩ := hl
    rw [← h2]
    exact State.drr_kept b _ u _ p v hu h1
  split at h
  · rename_i x hx
    rw [Option.some.injEq] at h
    have := go true _ _ _ he hx
    rw [h] at this
    exact this
  · exact go false _ _ _ he h

theorem State.wheelDue_kept {z s : State} (hs : Kept z s) : Kept z (State.wheelDue s) := by
  unfold State.wheelDue
  repeat' first
    | with_reducible assumption | intro _ | with_reducible apply State.each_kept
    | with_reducible apply State.relist_kept | with_reducible apply State.modQueue_kept
    | with_reducible apply Kept.ite | split | dsimp only

theorem State.overflowFile_kept {z s : State} (hs : Kept z s) : Kept z (State.overflowFile s) := by
  unfold State.overflowFile
  repeat' first
    | with_reducible assumption | intro _ | with_reducible apply State.countOverflow_kept
    | with_reducible apply State.each_kept | with_reducible apply State.file_kept | with_reducible apply Kept.ite
    | split | dsimp only

theorem State.meter_kept {z s : State} (p : Nat) (l : Nat) (pre : Nat) (blind : Bool) (hs : Kept z s) :
    Kept z (State.meter s p l pre blind).2 := by
  unfold State.meter
  repeat' first
    | with_reducible assumption | intro _ | simp only [Kept.mk_iff] | with_reducible apply Kept.parts
    | with_reducible apply Kept.ite | with_reducible apply Kept.pair_ite | split | dsimp only

theorem State.police_kept {z s : State} (p : Nat) (l : Nat) (pre : Nat) (blind : Bool) (hs : Kept z s) :
    Kept z (State.police s p l pre blind).2 := by
  unfold State.police
  repeat' first
    | with_reducible assumption | intro _ | with_reducible apply State.bump_kept
    | with_reducible apply State.raise_kept | with_reducible apply Kept.ite | with_reducible apply State.meter_kept
    | refine Kept.of_pair (by with_reducible assumption) ?_ | with_reducible apply Kept.pair_ite | split | dsimp only

theorem State.sampleQueue_kept {z s : State} (q : Nat) (hs : Kept z s) : Kept z (State.sampleQueue s q) := by
  unfold State.sampleQueue
  repeat' first
    | with_reducible assumption | intro _ | with_reducible apply State.put_kept
    | with_reducible apply State.raise_kept | with_reducible apply State.modQueue_kept
    | with_reducible apply State.bump_kept | with_reducible apply State.each_kept | with_reducible apply Kept.ite
    | split | dsimp only

theorem State.choreSkip_kept {z s : State} (kind : Nat) (slot : Nat) (hs : Kept z s) :
    Kept z (State.choreSkip s kind slot) := by
  unfold State.choreSkip
  repeat' first
    | with_reducible assumption | intro _ | with_reducible apply State.bump_kept
    | with_reducible apply State.put_kept | with_reducible apply State.raise_kept | dsimp only

theorem State.choreTurn_kept {z s : State} (slot : Nat) (hs : Kept z s) : Kept z (State.choreTurn s slot) := by
  unfold State.choreTurn
  repeat' first
    | with_reducible assumption | intro _ | with_reducible refine State.modClock_kept _ ?_ rfl
    | with_reducible apply State.advanceTo_kept | dsimp only

theorem State.chore_kept {z s : State} (kind : Nat) (arg : Nat) (isOpen : Bool) (act : State → State) (hs : Kept z s)
    (hact : ∀ s, Kept z s → Kept z (act s)) : Kept z (State.chore s kind arg isOpen act) := by
  unfold State.chore
  repeat' first
    | with_reducible assumption | intro _ | with_reducible apply hact | with_reducible apply State.choreSkip_kept
    | with_reducible apply State.choreTurn_kept | with_reducible apply Kept.ite | split | dsimp only

theorem execWheelSlot_kept {z s : State} (slot : Fin 1000) (hs : Kept z s) : KeptBy z (execWheelSlot slot s) := by
  unfold execWheelSlot
  repeat' first
    | with_reducible apply KeptBy.next | with_reducible apply KeptBy.ite | with_reducible assumption | intro _
    | with_reducible apply State.wheelDue_kept | with_reducible apply State.advanceTo_kept
    | with_reducible apply Kept.ite | dsimp only

theorem execQueueStats_kept {z s : State} (set : Fin 17) (prevOpen : Bool) (hs : Kept z s) :
    KeptBy z (execQueueStats set prevOpen s) := by
  unfold execQueueStats
  repeat' first
    | with_reducible apply KeptBy.next | with_reducible apply KeptBy.ite | with_reducible assumption | intro _
    | with_reducible apply State.chore_kept | with_reducible apply State.each_kept
    | with_reducible apply State.sampleQueue_kept | dsimp only

theorem State.queueUp_kept {z s : State} (h : Nat) (n : Nat) (tsf : Nat) (last : Bool) (reply : Option (Prod Nat Nat))
    (bs : List Byte) (posted : Bool) (hs : Kept z s) : Kept z (State.queueUp s h n tsf last reply bs posted) := by
  unfold State.queueUp
  repeat' first
    | with_reducible assumption | intro _ | with_reducible apply State.enqueue_kept | dsimp only

theorem State.replyUp_kept {z s : State} (h : Nat) (n : Nat) (tag : Nat) (op : Nat) (result : Nat) (bus : Nat) (data :
    List Word) (hs : Kept z s) : Kept z (State.replyUp s h n tag op result bus data) := by
  unfold State.replyUp
  repeat' first
    | with_reducible assumption | intro _ | with_reducible apply State.each_kept
    | with_reducible apply State.queueUp_kept | with_reducible apply Kept.ite | dsimp only

theorem State.reply_kept {z s : State} (a : Nat) (tr : Transport) (tag : Nat) (op : Nat) (result : Nat) (data : List
    Word) (bus : Nat) (hs : Kept z s) : Kept z (State.reply s a tr tag op result data bus) := by
  unfold State.reply
  repeat' first
    | with_reducible assumption | intro _ | with_reducible apply State.replyUp_kept | simp only [Kept.mk_iff]
    | with_reducible apply Kept.parts | with_reducible apply Kept.ite | split | dsimp only

theorem State.openNp_kept {z s : State} (a : Nat) (tr : Transport) (tag : Nat) (op : Nat) (addr : Nat) (len : Nat) (hs
    : Kept z s) : Kept z (State.openNp s a tr tag op addr len) := by
  unfold State.openNp
  repeat' first
    | with_reducible assumption | intro _ | with_reducible apply State.modAgent_kept | dsimp only

theorem State.closeNp_kept {z s : State} (a : Nat) (tag : Nat) (hs : Kept z s) : Kept z (State.closeNp s a tag) := by
  unfold State.closeNp
  repeat' first
    | with_reducible assumption | intro _ | with_reducible apply State.modAgent_kept | dsimp only

theorem State.complete_kept {z s : State} (a : Nat) (tag : Nat) (result : Nat) (data : List Word) (hs : Kept z s) :
    Kept z (State.complete s a tag result data) := by
  unfold State.complete
  repeat' first
    | with_reducible assumption | intro _ | with_reducible apply State.closeNp_kept
    | with_reducible apply State.reply_kept | with_reducible apply Kept.ite | split | dsimp only

theorem State.answer_kept {z s : State} (a : Nat) (tr : Transport) (f : Frame) (result : Nat) (data : List Word) (hs :
    Kept z s) : Kept z (State.answer s a tr f result data) := by
  unfold State.answer
  repeat' first
    | with_reducible assumption | intro _ | with_reducible apply State.reply_kept | dsimp only

theorem State.replyLeaves_kept {z s : State} (a : Nat) (tag : Nat) (op : Nat) (result : Nat) (hs : Kept z s) :
    Kept z (State.replyLeaves s a tag op result).2 := by
  unfold State.replyLeaves
  repeat' first
    | with_reducible assumption | intro _ | with_reducible apply State.statusSent_kept
    | with_reducible apply State.modAgent_kept | with_reducible apply Kept.pair_ite | dsimp only

theorem State.usbLeaves_kept {z s : State} (h : Nat) (hs : Kept z s) : Kept z (State.usbLeaves s h) := by
  unfold State.usbLeaves
  repeat' first
    | with_reducible assumption | intro _ | with_reducible apply State.bump_kept
    | with_reducible apply State.emit_kept | simp only [Kept.mk_iff] | with_reducible apply Kept.parts
    | with_reducible apply Kept.foldl | with_reducible apply State.replyLeaves_kept
    | refine Kept.of_pair (by with_reducible assumption) ?_ | split | dsimp only

theorem State.onLink_kept {z s : State} (h : Nat) (f : State → State) (hs : Kept z s) (hf : ∀ s, Kept z s → Kept z (f
    s)) : KeptBy z (State.onLink s h f) := by
  unfold State.onLink
  repeat' first
    | with_reducible apply KeptBy.next | with_reducible apply KeptBy.ite | with_reducible assumption | intro _
    | with_reducible apply hf | with_reducible apply Kept.ite | dsimp only

theorem State.modTx_kept {z s : State} (h : Nat) (f : Stripe → Stripe) (hs : Kept z s) :
    Kept z (State.modTx s h f) := by
  unfold State.modTx
  repeat' first
    | with_reducible assumption | intro _ | with_reducible apply State.modLink_kept | dsimp only

theorem State.putBlk_kept {z s : State} (h : Nat) (p : Nat) (b : Blk) (hs : Kept z s) :
    Kept z (State.putBlk s h p b) := by
  unfold State.putBlk
  repeat' first
    | with_reducible assumption | intro _ | with_reducible apply State.emit_kept
    | with_reducible apply State.modTx_kept | with_reducible apply Kept.ite | split | dsimp only

theorem State.sealWord_kept {z s : State} (h : Nat) (p : Nat) (hs : Kept z s) : Kept z (State.sealWord s h p) := by
  unfold State.sealWord
  repeat' first
    | with_reducible assumption | intro _ | with_reducible apply State.emit_kept
    | with_reducible apply State.modTx_kept | with_reducible apply Kept.ite | split | dsimp only

theorem State.endRow_kept {z s : State} (h : Nat) (hs : Kept z s) : Kept z (State.endRow s h) := by
  unfold State.endRow
  repeat' first
    | with_reducible assumption | intro _ | with_reducible apply State.modTx_kept
    | with_reducible apply State.each_kept | with_reducible apply State.sealWord_kept | with_reducible apply Kept.ite
    | dsimp only

theorem State.putMarker_kept {z s : State} (h : Nat) (p : Nat) (act : Nat) (join : Bool) (hs : Kept z s) :
    Kept z (State.putMarker s h p act join) := by
  unfold State.putMarker
  repeat' first
    | with_reducible assumption | intro _ | with_reducible apply State.modTx_kept
    | with_reducible apply State.putBlk_kept | with_reducible apply State.emit_kept | dsimp only

theorem State.markerRow_kept {z s : State} (h : Nat) (hs : Kept z s) : Kept z (State.markerRow s h) := by
  unfold State.markerRow
  repeat' first
    | with_reducible assumption | intro _ | with_reducible apply State.endRow_kept
    | with_reducible apply State.each_kept | with_reducible apply State.putMarker_kept
    | with_reducible apply Kept.ite | dsimp only

theorem State.openRow_kept {z s : State} (h : Nat) (hs : Kept z s) : Kept z (State.openRow s h) := by
  unfold State.openRow
  repeat' first
    | with_reducible assumption | intro _ | with_reducible apply State.markerRow_kept
    | with_reducible apply State.modTx_kept | with_reducible apply Kept.ite | dsimp only

theorem State.deal_kept {z s : State} (h : Nat) (b : Blk) (hs : Kept z s) : Kept z (State.deal s h b) := by
  unfold State.deal
  repeat' first
    | with_reducible assumption | intro _ | with_reducible apply State.openRow_kept
    | with_reducible apply State.iff_kept | with_reducible apply State.modTx_kept
    | with_reducible apply State.putBlk_kept | with_reducible apply State.endRow_kept | split | dsimp only

theorem State.dealIdle_kept {z s : State} (h : Nat) (hs : Kept z s) : Kept z (State.dealIdle s h) := by
  unfold State.dealIdle
  repeat' first
    | with_reducible assumption | intro _ | with_reducible apply State.deal_kept | dsimp only

theorem State.fillRow_kept {z s : State} (h : Nat) (hs : Kept z s) : Kept z (State.fillRow s h) := by
  unfold State.fillRow
  repeat' first
    | with_reducible assumption | intro _ | with_reducible apply State.each_kept
    | with_reducible apply State.iff_kept | with_reducible apply State.dealIdle_kept | dsimp only

theorem State.fillWord_kept {z s : State} (h : Nat) (hs : Kept z s) : Kept z (State.fillWord s h) := by
  unfold State.fillWord
  repeat' first
    | with_reducible assumption | intro _ | with_reducible apply State.each_kept
    | with_reducible apply State.iff_kept | with_reducible apply State.dealIdle_kept | dsimp only

theorem State.putLone_kept {z s : State} (h : Nat) (p : Nat) (b : Blk) (hs : Kept z s) :
    Kept z (State.putLone s h p b) := by
  unfold State.putLone
  repeat' first
    | with_reducible assumption | intro _ | with_reducible apply State.sealWord_kept
    | with_reducible apply State.putBlk_kept | dsimp only

theorem State.finishWord_kept {z s : State} (h : Nat) (p : Nat) (b : Blk) (hs : Kept z s) :
    Kept z (State.finishWord s h p b) := by
  unfold State.finishWord
  repeat' first
    | with_reducible assumption | intro _ | with_reducible apply State.each_kept
    | with_reducible apply State.iff_kept | with_reducible apply State.putLone_kept | split | dsimp only

theorem State.startStripe_kept {z s : State} (h : Nat) (hs : Kept z s) : Kept z (State.startStripe s h) := by
  unfold State.startStripe
  repeat' first
    | with_reducible assumption | intro _ | with_reducible apply State.modTx_kept | dsimp only

theorem State.sendCtl_kept {z s : State} (h : Nat) (pair : Nat) (payload : Nat) (hs : Kept z s) :
    Kept z (State.sendCtl s h pair payload) := by
  unfold State.sendCtl
  repeat' first
    | with_reducible assumption | intro _ | with_reducible apply State.emit_kept
    | with_reducible apply State.deal_kept | with_reducible apply State.each_kept
    | with_reducible apply State.iff_kept | with_reducible apply State.dealIdle_kept
    | with_reducible apply State.putLone_kept | with_reducible apply Kept.ite | dsimp only

theorem State.sendUpCtl_kept {z s : State} (h : Nat) (payload : Nat) (hs : Kept z s) :
    Kept z (State.sendUpCtl s h payload) := by
  unfold State.sendUpCtl
  repeat' first
    | with_reducible assumption | intro _ | with_reducible apply State.modTx_kept
    | with_reducible apply State.deal_kept | with_reducible apply State.emit_kept | dsimp only

theorem State.sendOwn_kept {z s : State} (h : Nat) (payload : Nat) (hs : Kept z s) :
    Kept z (State.sendOwn s h payload) := by
  unfold State.sendOwn
  repeat' first
    | with_reducible assumption | intro _ | with_reducible apply State.sendUpCtl_kept
    | with_reducible apply State.modTx_kept | with_reducible apply Kept.ite | dsimp only

theorem State.putOwn_kept {z s : State} (h : Nat) (hs : Kept z s) : Kept z (State.putOwn s h) := by
  unfold State.putOwn
  repeat' first
    | with_reducible assumption | intro _ | with_reducible apply State.sendUpCtl_kept
    | with_reducible apply State.modTx_kept | with_reducible apply Kept.ite | split | dsimp only

theorem State.sendBeacon_kept {z s : State} (h : Nat) (payload : Nat) (hs : Kept z s) :
    Kept z (State.sendBeacon s h payload) := by
  unfold State.sendBeacon
  repeat' first
    | with_reducible assumption | intro _ | with_reducible apply State.sendUpCtl_kept
    | with_reducible apply State.fillRow_kept | dsimp only

theorem State.sendAround_kept {z s : State} (h : Nat) (l : Nat) (payload : Nat) (hs : Kept z s) :
    Kept z (State.sendAround s h l payload) := by
  unfold State.sendAround
  repeat' first
    | with_reducible assumption | intro _ | with_reducible apply State.sendOwn_kept
    | with_reducible apply State.each_kept | with_reducible apply State.iff_kept
    | with_reducible apply State.dealIdle_kept | with_reducible apply Kept.ite | dsimp only

theorem State.advertise_kept {z s : State} (h : Nat) (n : Nat) (hs : Kept z s) : Kept z (State.advertise s h n) := by
  unfold State.advertise
  repeat' first
    | with_reducible assumption | intro _ | with_reducible apply State.put_kept | with_reducible apply Kept.ite
    | split | dsimp only

theorem State.putAck_kept {z s : State} (h : Nat) (hs : Kept z s) : Kept z (State.putAck s h) := by
  unfold State.putAck
  repeat' first
    | with_reducible assumption | intro _ | with_reducible apply State.modLink_kept
    | with_reducible apply State.sendUpCtl_kept | dsimp only

theorem State.putCredit_kept {z s : State} (h : Nat) (hs : Kept z s) : Kept z (State.putCredit s h) := by
  unfold State.putCredit
  repeat' first
    | with_reducible assumption | intro _ | with_reducible apply State.advertise_kept
    | with_reducible apply State.sendUpCtl_kept | with_reducible apply State.modTx_kept
    | with_reducible apply Kept.ite | split | dsimp only

theorem State.sendDue_kept {z s : State} (h : Nat) (hs : Kept z s) : Kept z (State.sendDue s h) := by
  unfold State.sendDue
  repeat' first
    | with_reducible assumption | intro _ | with_reducible apply State.each_kept
    | with_reducible apply State.putOwn_kept | with_reducible apply State.putCredit_kept
    | with_reducible apply State.iff_kept | with_reducible apply State.putAck_kept | split | dsimp only

theorem State.idleBlocks_kept {z s : State} (h : Nat) (n : Nat) (hs : Kept z s) : Kept z (State.idleBlocks s h n) := by
  unfold State.idleBlocks
  repeat' first
    | with_reducible assumption | intro _ | with_reducible apply State.each_kept
    | with_reducible apply State.sendDue_kept | with_reducible apply State.dealIdle_kept | dsimp only

theorem State.sendAck_kept {z s : State} (h : Nat) (hs : Kept z s) : Kept z (State.sendAck s h) := by
  unfold State.sendAck
  repeat' first
    | with_reducible assumption | intro _ | with_reducible apply State.sendDue_kept
    | with_reducible apply State.modTx_kept | dsimp only

theorem State.sendCredits_kept {z s : State} (h : Nat) (hs : Kept z s) : Kept z (State.sendCredits s h) := by
  unfold State.sendCredits
  repeat' first
    | with_reducible assumption | intro _ | with_reducible apply State.sendDue_kept
    | with_reducible apply State.modTx_kept | dsimp only

theorem State.dealPacket_kept {z s : State} (h : Nat) (p : Packet) (hs : Kept z s) :
    Kept z (State.dealPacket s h p) := by
  unfold State.dealPacket
  repeat' first
    | with_reducible assumption | intro _ | with_reducible apply State.sendDue_kept
    | with_reducible apply State.deal_kept | with_reducible apply State.emit_kept | with_reducible apply Kept.foldl
    | dsimp only

theorem State.statusEcho_kept {z s : State} (h : Nat) (hs : Kept z s) : Kept z (State.statusEcho s h) := by
  unfold State.statusEcho
  repeat' first
    | with_reducible assumption | intro _ | with_reducible apply State.sendUpCtl_kept
    | with_reducible apply State.statusSent_kept | with_reducible apply State.modAgent_kept
    | with_reducible apply Kept.ite | split | dsimp only

theorem execStatusEcho_kept {z s : State} (h : Hp) (hs : Kept z s) : KeptBy z (execStatusEcho h s) := by
  unfold execStatusEcho
  repeat' first
    | with_reducible apply KeptBy.next | with_reducible apply KeptBy.ite | with_reducible assumption | intro _
    | with_reducible apply State.statusEcho_kept | with_reducible apply Kept.ite | dsimp only

theorem State.sendTrain_kept {z s : State} (h : Nat) (on : Nat) (pair : Nat) (sub : Nat) (fields : Nat) (hs : Kept z
    s) : Kept z (State.sendTrain s h on pair sub fields) := by
  unfold State.sendTrain
  repeat' first
    | with_reducible assumption | intro _ | with_reducible apply State.took_kept
    | with_reducible apply State.sendCtl_kept | dsimp only

theorem State.setSet_kept {z s : State} (h : Nat) (b : Nat) (d : Nat) (valid : Bool) (hs : Kept z s) :
    Kept z (State.setSet s h b d valid) := by
  unfold State.setSet
  repeat' first
    | with_reducible assumption | intro _ | with_reducible apply State.put_kept | with_reducible apply Kept.ite
    | dsimp only

theorem State.setSets_kept {z s : State} (h : Nat) (b : Nat) (valid : Bool) (hs : Kept z s) :
    Kept z (State.setSets s h b valid) := by
  unfold State.setSets
  repeat' first
    | with_reducible assumption | intro _ | with_reducible apply State.setSet_kept | dsimp only

theorem State.adaptMove_kept {z s : State} (g : Nat) (b : Nat) (hs : Kept z s) : Kept z (State.adaptMove s g b) := by
  unfold State.adaptMove
  repeat' first
    | with_reducible assumption | intro _ | with_reducible apply State.took_kept
    | with_reducible apply State.put_kept | dsimp only

theorem State.adaptStop_kept {z s : State} (g : Nat) (b : Nat) (hs : Kept z s) : Kept z (State.adaptStop s g b) := by
  unfold State.adaptStop
  repeat' first
    | with_reducible assumption | intro _ | with_reducible apply State.put_kept
    | with_reducible apply State.adaptMove_kept | with_reducible apply Kept.ite | dsimp only

theorem State.storeRx_kept {z s : State} (h : Nat) (b : Nat) (hs : Kept z s) : Kept z (State.storeRx s h b) := by
  unfold State.storeRx
  repeat' first
    | with_reducible assumption | intro _ | with_reducible apply State.took_kept
    | with_reducible apply State.modLink_kept | split | dsimp only

theorem State.loadRx_kept {z s : State} (h : Nat) (b : Nat) (hs : Kept z s) : Kept z (State.loadRx s h b) := by
  unfold State.loadRx
  repeat' first
    | with_reducible assumption | intro _ | with_reducible apply State.put_kept | split | dsimp only

theorem State.storeTx_kept {z s : State} (h : Nat) (b : Nat) (hs : Kept z s) : Kept z (State.storeTx s h b) := by
  unfold State.storeTx
  repeat' first
    | with_reducible assumption | intro _ | with_reducible apply State.modLink_kept | split | dsimp only

theorem State.beginTx_kept {z s : State} (h : Nat) (b : Nat) (hs : Kept z s) : Kept z (State.beginTx s h b) := by
  unfold State.beginTx
  repeat' first
    | with_reducible assumption | intro _ | with_reducible apply State.storeTx_kept | with_reducible apply Kept.ite
    | dsimp only

theorem State.loadTx_kept {z s : State} (h : Nat) (b : Nat) (hs : Kept z s) : Kept z (State.loadTx s h b) := by
  unfold State.loadTx
  repeat' first
    | with_reducible assumption | intro _ | with_reducible apply State.put_kept | split | dsimp only

theorem State.leaveDown_kept {z s : State} (h : Nat) (b : Nat) (hs : Kept z s) : Kept z (State.leaveDown s h b) := by
  unfold State.leaveDown
  repeat' first
    | with_reducible assumption | intro _ | with_reducible apply State.storeRx_kept
    | with_reducible apply State.adaptStop_kept | with_reducible apply Kept.ite | dsimp only

theorem State.adaptAll_kept {z s : State} (hs : Kept z s) : Kept z (State.adaptAll s) := by
  unfold State.adaptAll
  repeat' first
    | with_reducible assumption | intro _ | with_reducible apply State.each_kept
    | with_reducible apply State.iff_kept | with_reducible apply State.adaptMove_kept | dsimp only

theorem State.setTaps_kept {z s : State} (g : Nat) (b : Nat) (m1 : Nat) (c0 : Nat) (p1 : Nat) (hs : Kept z s) :
    Kept z (State.setTaps s g b m1 c0 p1) := by
  unfold State.setTaps
  repeat' first
    | with_reducible assumption | intro _ | with_reducible apply State.put_kept | dsimp only

theorem State.setPreset_kept {z s : State} (g : Nat) (b : Nat) (n : Nat) (hs : Kept z s) :
    Kept z (State.setPreset s g b n) := by
  unfold State.setPreset
  repeat' first
    | with_reducible assumption | intro _ | with_reducible apply State.put_kept
    | with_reducible apply State.setTaps_kept | dsimp only

theorem State.searchAsk_kept {z s : State} (h : Nat) (q : Nat) (hs : Kept z s) : Kept z (State.searchAsk s h q) := by
  unfold State.searchAsk
  repeat' first
    | with_reducible assumption | intro _ | with_reducible apply State.sendTrain_kept | split | dsimp only

theorem State.searchBegin_kept {z s : State} (h : Nat) (q : Nat) (hs : Kept z s) :
    Kept z (State.searchBegin s h q) := by
  unfold State.searchBegin
  repeat' first
    | with_reducible assumption | intro _ | with_reducible apply State.searchAsk_kept
    | with_reducible apply State.modLink_kept | split | dsimp only

theorem State.coeffAct_kept {z s : State} (h : Nat) (p : Nat) (b : Nat) (hs : Kept z s) :
    Kept z (State.coeffAct s h p b) := by
  unfold State.coeffAct
  repeat' first
    | with_reducible assumption | intro _ | with_reducible apply State.setTaps_kept
    | with_reducible apply State.put_kept | with_reducible apply State.storeTx_kept
    | with_reducible apply State.modLink_kept | with_reducible apply State.sendTrain_kept
    | with_reducible apply Kept.ite | split | dsimp only

theorem State.coeffReport_kept {z s : State} (h : Nat) (q : Nat) (b : Nat) (fom : Nat) (hs : Kept z s) :
    Kept z (State.coeffReport s h q b fom) := by
  unfold State.coeffReport
  repeat' first
    | with_reducible assumption | intro _ | with_reducible apply State.put_kept
    | with_reducible apply State.modLink_kept | with_reducible apply State.searchAsk_kept
    | with_reducible apply Kept.ite | split | dsimp only

theorem execCoeffRequest_kept {z s : State} (h : Hp) (pair : Fin 4) (ask : EqIn) (hs : Kept z s) :
    KeptBy z (execCoeffRequest h pair ask s) := by
  unfold execCoeffRequest
  repeat' first
    | with_reducible apply KeptBy.next | with_reducible apply KeptBy.ite | with_reducible assumption | intro _
    | with_reducible apply State.coeffAct_kept | with_reducible apply State.coeffReport_kept
    | with_reducible apply Kept.ite | with_reducible apply State.onLink_kept | dsimp only

theorem State.setMasks_kept {z s : State} (h : Nat) (up : Nat) (down : Nat) (hs : Kept z s) :
    Kept z (State.setMasks s h up down) := by
  unfold State.setMasks
  repeat' first
    | with_reducible assumption | intro _ | with_reducible apply State.put_kept | dsimp only

theorem State.setCv_kept {z s : State} (h : Nat) (st : Nat) (hs : Kept z s) : Kept z (State.setCv s h st) := by
  unfold State.setCv
  repeat' first
    | with_reducible assumption | intro _ | with_reducible apply State.put_kept
    | with_reducible apply State.raise_kept | with_reducible apply State.modLink_kept
    | with_reducible apply State.modOwn_kept | with_reducible apply State.each_kept
    | with_reducible apply State.hbDisarm_kept | with_reducible apply State.leaveDown_kept
    | with_reducible apply Kept.ite | split | dsimp only

theorem State.lanesTo_kept {z s : State} (h : Nat) (st : Nat) (hs : Kept z s) : Kept z (State.lanesTo s h st) := by
  unfold State.lanesTo
  repeat' first
    | with_reducible assumption | intro _ | with_reducible apply State.each_kept
    | with_reducible apply State.put_kept | dsimp only

theorem State.startDirs_kept {z s : State} (h : Nat) (hs : Kept z s) : Kept z (State.startDirs s h) := by
  unfold State.startDirs
  repeat' first
    | with_reducible assumption | intro _ | with_reducible apply State.each_kept
    | with_reducible apply State.put_kept | dsimp only

theorem State.refOn_kept {z s : State} (h : Nat) (hs : Kept z s) : Kept z (State.refOn s h) := by
  unfold State.refOn
  repeat' first
    | with_reducible assumption | intro _ | with_reducible apply State.emit_kept
    | with_reducible apply State.modLink_kept | with_reducible apply Kept.ite | dsimp only

theorem State.refOff_kept {z s : State} (h : Nat) (hs : Kept z s) : Kept z (State.refOff s h) := by
  unfold State.refOff
  repeat' first
    | with_reducible assumption | intro _ | with_reducible apply State.emit_kept
    | with_reducible apply State.modLink_kept | with_reducible apply Kept.ite | dsimp only

theorem State.dropLocks_kept {z s : State} (h : Nat) (hs : Kept z s) : Kept z (State.dropLocks s h) := by
  unfold State.dropLocks
  repeat' first
    | with_reducible assumption | intro _ | with_reducible apply State.startStripe_kept
    | with_reducible apply State.modLink_kept | dsimp only

theorem State.lanesForget_kept {z s : State} (h : Nat) (hs : Kept z s) : Kept z (State.lanesForget s h) := by
  unfold State.lanesForget
  repeat' first
    | with_reducible assumption | intro _ | with_reducible apply State.put_kept
    | with_reducible apply State.each_kept | with_reducible apply State.setSets_kept
    | with_reducible apply State.adaptStop_kept | simp only [Kept.mk_iff] | with_reducible apply Kept.parts
    | with_reducible apply Kept.foldl | split | dsimp only

theorem State.gearS_kept {z s : State} (h : Nat) (hs : Kept z s) : Kept z (State.gearS s h) := by
  unfold State.gearS
  repeat' first
    | with_reducible assumption | intro _ | with_reducible apply State.put_kept
    | with_reducible apply State.each_kept | with_reducible apply State.setPreset_kept
    | with_reducible apply State.adaptStop_kept | dsimp only

theorem State.linkIdle_kept {z s : State} (h : Nat) (hs : Kept z s) : Kept z (State.linkIdle s h) := by
  unfold State.linkIdle
  repeat' first
    | with_reducible assumption | intro _ | with_reducible apply State.dropLocks_kept
    | with_reducible apply State.modLink_kept | with_reducible apply State.setMasks_kept
    | with_reducible apply State.put_kept | with_reducible apply State.lanesForget_kept
    | with_reducible apply State.lanesTo_kept | dsimp only

theorem State.linkOff_kept {z s : State} (h : Nat) (hs : Kept z s) : Kept z (State.linkOff s h) := by
  unfold State.linkOff
  repeat' first
    | with_reducible assumption | intro _ | with_reducible apply State.refOff_kept
    | with_reducible apply State.linkIdle_kept | with_reducible apply State.setCv_kept | dsimp only

theorem State.lanesTrain_kept {z s : State} (h : Nat) (hs : Kept z s) : Kept z (State.lanesTrain s h) := by
  unfold State.lanesTrain
  repeat' first
    | with_reducible assumption | intro _ | with_reducible apply State.each_kept
    | with_reducible apply State.put_kept | with_reducible apply Kept.ite | dsimp only

theorem State.linkRef_kept {z s : State} (h : Nat) (hs : Kept z s) : Kept z (State.linkRef s h) := by
  unfold State.linkRef
  repeat' first
    | with_reducible assumption | intro _ | with_reducible apply State.refOn_kept
    | with_reducible apply State.dropLocks_kept | with_reducible apply State.setCv_kept
    | with_reducible apply State.lanesTrain_kept | with_reducible apply State.startDirs_kept
    | with_reducible apply State.gearS_kept | with_reducible apply State.each_kept
    | with_reducible apply State.put_kept | dsimp only

theorem State.tryRef_kept {z s : State} (h : Nat) (hs : Kept z s) : Kept z (State.tryRef s h) := by
  unfold State.tryRef
  repeat' first
    | with_reducible assumption | intro _ | with_reducible apply State.linkRef_kept | with_reducible apply Kept.ite
    | dsimp only

theorem State.linkDetect_kept {z s : State} (h : Nat) (hs : Kept z s) : Kept z (State.linkDetect s h) := by
  unfold State.linkDetect
  repeat' first
    | with_reducible assumption | intro _ | with_reducible apply State.tryRef_kept
    | with_reducible apply State.linkIdle_kept | with_reducible apply State.setCv_kept | dsimp only

theorem State.speedSel_kept {z s : State} (h : Nat) (go : Bool) (hs : Kept z s) : Kept z (State.speedSel s h go) := by
  unfold State.speedSel
  repeat' first
    | with_reducible assumption | intro _ | with_reducible apply State.each_kept
    | with_reducible apply State.sendTrain_kept | dsimp only

theorem State.speedOffer_kept {z s : State} (h : Nat) (hs : Kept z s) : Kept z (State.speedOffer s h) := by
  unfold State.speedOffer
  repeat' first
    | with_reducible assumption | intro _ | with_reducible apply State.speedSel_kept
    | with_reducible apply State.modLink_kept | split | dsimp only

theorem State.linkSpeed_kept {z s : State} (h : Nat) (hs : Kept z s) : Kept z (State.linkSpeed s h) := by
  unfold State.linkSpeed
  repeat' first
    | with_reducible assumption | intro _ | with_reducible apply State.setMasks_kept
    | with_reducible apply State.dropLocks_kept | with_reducible apply State.setCv_kept
    | with_reducible apply State.speedOffer_kept | with_reducible apply State.lanesTrain_kept
    | with_reducible apply State.gearS_kept | dsimp only

theorem State.lowerGear_kept {z s : State} (h : Nat) (hs : Kept z s) : Kept z (State.lowerGear s h) := by
  unfold State.lowerGear
  repeat' first
    | with_reducible assumption | intro _ | with_reducible apply State.modLink_kept
    | with_reducible apply State.linkDetect_kept | with_reducible apply State.linkSpeed_kept
    | with_reducible apply Kept.ite | dsimp only

theorem State.widthChg_kept {z s : State} (h : Nat) (hs : Kept z s) : Kept z (State.widthChg s h) := by
  unfold State.widthChg
  repeat' first
    | with_reducible assumption | intro _ | with_reducible apply State.raise_kept | dsimp only

theorem State.failAgain_kept {z s : State} (h : Nat) (l : Nat) (hs : Kept z s) : Kept z (State.failAgain s h l) := by
  unfold State.failAgain
  repeat' first
    | with_reducible assumption | intro _ | with_reducible apply State.clrBit_kept
    | with_reducible apply State.put_kept | with_reducible apply State.setSets_kept
    | with_reducible apply State.leaveDown_kept | with_reducible apply State.modLink_kept | split | dsimp only

theorem State.markFailed_kept {z s : State} (h : Nat) (l : Nat) (hs : Kept z s) : Kept z (State.markFailed s h l) := by
  unfold State.markFailed
  repeat' first
    | with_reducible assumption | intro _ | with_reducible apply State.failAgain_kept
    | with_reducible apply State.put_kept | with_reducible apply State.setMasks_kept
    | with_reducible apply State.clrBit_kept | with_reducible apply State.setSets_kept
    | with_reducible apply State.leaveDown_kept | with_reducible apply State.modLink_kept
    | with_reducible apply State.logHw_kept | with_reducible apply State.notice_kept | with_reducible apply Kept.ite
    | split | dsimp only

theorem State.narrowTraining_kept {z s : State} (h : Nat) (hs : Kept z s) : Kept z (State.narrowTraining s h) := by
  unfold State.narrowTraining
  repeat' first
    | with_reducible assumption | intro _ | with_reducible apply State.lowerGear_kept
    | with_reducible apply State.linkSpeed_kept | with_reducible apply Kept.ite | dsimp only

theorem State.reEqualise_kept {z s : State} (h : Nat) (l : Nat) (hs : Kept z s) : Kept z (State.reEqualise s h l) := by
  unfold State.reEqualise
  repeat' first
    | with_reducible assumption | intro _ | with_reducible apply State.modLink_kept
    | with_reducible apply State.beginTx_kept | with_reducible apply State.searchBegin_kept
    | with_reducible apply Kept.ite | split | dsimp only

theorem State.turnDone_kept {z s : State} (h : Nat) (hs : Kept z s) : Kept z (State.turnDone s h) := by
  unfold State.turnDone
  repeat' first
    | with_reducible assumption | intro _ | with_reducible apply State.modLink_kept | dsimp only

theorem State.dropPair_kept {z s : State} (h : Nat) (l : Nat) (send : Bool) (hs : Kept z s) :
    Kept z (State.dropPair s h l send) := by
  unfold State.dropPair
  repeat' first
    | with_reducible assumption | intro _ | with_reducible apply State.sendAround_kept
    | with_reducible apply State.turnDone_kept | with_reducible apply State.fillWord_kept
    | with_reducible apply State.widthChg_kept | with_reducible apply State.markFailed_kept
    | with_reducible apply State.endRow_kept | with_reducible apply State.each_kept
    | with_reducible apply State.putMarker_kept | with_reducible apply State.linkSpeed_kept
    | with_reducible apply State.reEqualise_kept | with_reducible apply State.setCv_kept
    | with_reducible apply Kept.ite | split | dsimp only

theorem State.linkRecovery_kept {z s : State} (h : Nat) (hs : Kept z s) : Kept z (State.linkRecovery s h) := by
  unfold State.linkRecovery
  repeat' first
    | with_reducible assumption | intro _ | with_reducible apply State.setCv_kept
    | with_reducible apply State.bump_kept | with_reducible apply State.modLink_kept
    | with_reducible apply State.turnDone_kept | with_reducible apply State.each_kept
    | with_reducible apply State.iff_kept | with_reducible apply State.sendTrain_kept | dsimp only

theorem State.replayRegs_kept {z s : State} (h : Nat) (hs : Kept z s) : Kept z (State.replayRegs s h) := by
  unfold State.replayRegs
  repeat' first
    | with_reducible assumption | intro _ | with_reducible apply State.put_kept | dsimp only

theorem State.startReplay_kept {z s : State} (h : Nat) (hs : Kept z s) : Kept z (State.startReplay s h) := by
  unfold State.startReplay
  repeat' first
    | with_reducible assumption | intro _ | with_reducible apply State.modLink_kept
    | with_reducible apply State.bump_kept | dsimp only

theorem State.replayDue_kept {z s : State} (h : Nat) (hs : Kept z s) : Kept z (State.replayDue s h) := by
  unfold State.replayDue
  repeat' first
    | with_reducible assumption | intro _ | with_reducible apply State.linkRecovery_kept
    | with_reducible apply State.raise_kept | with_reducible apply State.startReplay_kept
    | with_reducible apply Kept.ite | dsimp only

theorem State.ackUpTo_kept {z s : State} (h : Nat) (seq : Nat) (hs : Kept z s) : Kept z (State.ackUpTo s h seq) := by
  unfold State.ackUpTo
  repeat' first
    | with_reducible assumption | intro _ | with_reducible apply State.replayRegs_kept
    | with_reducible apply State.modLink_kept | with_reducible apply State.bump_kept | split | dsimp only

theorem State.sendNak_kept {z s : State} (h : Nat) (cause : Nat) (hs : Kept z s) :
    Kept z (State.sendNak s h cause) := by
  unfold State.sendNak
  repeat' first
    | with_reducible assumption | intro _ | with_reducible apply State.modLink_kept
    | with_reducible apply State.bump_kept | with_reducible apply State.sendOwn_kept | with_reducible apply Kept.ite
    | split | dsimp only

theorem State.freeUnits_kept {z s : State} (h : Nat) (n : Nat) (units : Nat) (hs : Kept z s) :
    Kept z (State.freeUnits s h n units) := by
  unfold State.freeUnits
  repeat' first
    | with_reducible assumption | intro _ | with_reducible apply State.modLink_kept | split | dsimp only

theorem State.sendPacket_kept {z s : State} (h : Nat) (n : Nat) (typ : Nat) (tsf : Nat) (posted : Bool) (last : Bool)
    (prio : Bool) (echo : Bool) (bs : List Byte) (hs : Kept z s) :
    Kept z (State.sendPacket s h n typ tsf posted last prio echo bs) := by
  unfold State.sendPacket
  repeat' first
    | with_reducible assumption | intro _ | with_reducible apply State.put_kept
    | with_reducible apply State.modLink_kept | with_reducible apply State.dealPacket_kept
    | with_reducible apply State.replayRegs_kept | split | dsimp only

theorem State.freshStart_kept {z s : State} (h : Nat) (hs : Kept z s) : Kept z (State.freshStart s h) := by
  unfold State.freshStart
  repeat' first
    | with_reducible assumption | intro _ | with_reducible apply State.put_kept
    | with_reducible apply State.modLink_kept | with_reducible apply State.each_kept
    | with_reducible apply State.replayRegs_kept | with_reducible apply Kept.ite | split | dsimp only

theorem State.linkActive_kept {z s : State} (h : Nat) (hs : Kept z s) : Kept z (State.linkActive s h) := by
  unfold State.linkActive
  repeat' first
    | with_reducible assumption | intro _ | with_reducible apply State.freshStart_kept
    | with_reducible apply State.put_kept | with_reducible apply State.modLink_kept
    | with_reducible apply State.modOwn_kept | with_reducible apply State.setMasks_kept
    | with_reducible apply State.each_kept | with_reducible apply State.setCv_kept
    | with_reducible apply State.sendCredits_kept | with_reducible apply State.reEqualise_kept
    | with_reducible apply Kept.ite | split | dsimp only

theorem State.tryBlock_kept {z s : State} (h : Nat) (hs : Kept z s) : Kept z (State.tryBlock s h) := by
  unfold State.tryBlock
  repeat' first
    | with_reducible assumption | intro _ | with_reducible apply State.setCv_kept
    | with_reducible apply State.put_kept | with_reducible apply State.each_kept
    | with_reducible apply State.sendTrain_kept | with_reducible apply Kept.ite | dsimp only

theorem State.tryFec_kept {z s : State} (h : Nat) (hs : Kept z s) : Kept z (State.tryFec s h) := by
  unfold State.tryFec
  repeat' first
    | with_reducible assumption | intro _ | with_reducible apply State.linkActive_kept
    | with_reducible apply Kept.ite | dsimp only

theorem State.sendPing_kept {z s : State} (h : Nat) (i : Nat) (hs : Kept z s) : Kept z (State.sendPing s h i) := by
  unfold State.sendPing
  repeat' first
    | with_reducible assumption | intro _ | with_reducible apply State.took_kept
    | with_reducible apply State.modLink_kept | with_reducible apply State.sendTrain_kept | dsimp only

theorem State.linkBlock_kept {z s : State} (h : Nat) (hs : Kept z s) : Kept z (State.linkBlock s h) := by
  unfold State.linkBlock
  repeat' first
    | with_reducible assumption | intro _ | with_reducible apply State.startDirs_kept
    | with_reducible apply State.modLink_kept | with_reducible apply State.each_kept
    | with_reducible apply State.loadTx_kept | with_reducible apply State.openRow_kept
    | with_reducible apply State.startStripe_kept | with_reducible apply State.setCv_kept
    | with_reducible apply State.narrowTraining_kept | with_reducible apply State.sendPing_kept | dsimp only

theorem State.linkEq_kept {z s : State} (h : Nat) (hs : Kept z s) : Kept z (State.linkEq s h) := by
  unfold State.linkEq
  repeat' first
    | with_reducible assumption | intro _ | with_reducible apply State.put_kept
    | with_reducible apply State.each_kept | with_reducible apply State.beginTx_kept
    | with_reducible apply State.modLink_kept | with_reducible apply State.startStripe_kept
    | with_reducible apply State.setCv_kept | with_reducible apply State.searchBegin_kept | dsimp only

theorem State.eqEnds_kept {z s : State} (h : Nat) (l : Nat) (hs : Kept z s) : Kept z (State.eqEnds s h l) := by
  unfold State.eqEnds
  repeat' first
    | with_reducible assumption | intro _ | with_reducible apply State.storeRx_kept
    | with_reducible apply State.adaptMove_kept | with_reducible apply State.put_kept
    | with_reducible apply State.setSet_kept | with_reducible apply Kept.ite | dsimp only

theorem State.eqPhaseEnds_kept {z s : State} (h : Nat) (hs : Kept z s) : Kept z (State.eqPhaseEnds s h) := by
  unfold State.eqPhaseEnds
  repeat' first
    | with_reducible assumption | intro _ | with_reducible apply State.each_kept
    | with_reducible apply State.eqEnds_kept | with_reducible apply State.startStripe_kept
    | with_reducible apply State.modLink_kept | with_reducible apply State.searchBegin_kept
    | with_reducible apply State.linkBlock_kept | with_reducible apply Kept.ite | dsimp only

theorem State.reEqEnds_kept {z s : State} (h : Nat) (l : Nat) (hs : Kept z s) : Kept z (State.reEqEnds s h l) := by
  unfold State.reEqEnds
  repeat' first
    | with_reducible assumption | intro _ | with_reducible apply State.eqEnds_kept
    | with_reducible apply State.modLink_kept | with_reducible apply State.searchBegin_kept
    | with_reducible apply State.setBit_kept | with_reducible apply Kept.ite | split | dsimp only

theorem execEqDone_kept {z s : State} (h : Hp) (pair : Fin 4) (hs : Kept z s) : KeptBy z (execEqDone h pair s) := by
  unfold execEqDone
  repeat' first
    | with_reducible apply KeptBy.next | with_reducible apply KeptBy.ite | with_reducible assumption | intro _
    | with_reducible apply State.sendTrain_kept | with_reducible apply State.modLink_kept
    | with_reducible apply State.eqPhaseEnds_kept | with_reducible apply State.reEqEnds_kept
    | with_reducible apply Kept.ite | with_reducible apply State.onLink_kept | split | dsimp only

theorem State.lockLost_kept {z s : State} (h : Nat) (pair : Nat) (hs : Kept z s) :
    Kept z (State.lockLost s h pair) := by
  unfold State.lockLost
  repeat' first
    | with_reducible assumption | intro _ | with_reducible apply State.bump_kept
    | with_reducible apply State.modLink_kept | with_reducible apply State.linkRecovery_kept
    | with_reducible apply Kept.ite | dsimp only

theorem State.regain_kept {z s : State} (h : Nat) (pair : Nat) (hs : Kept z s) : Kept z (State.regain s h pair) := by
  unfold State.regain
  repeat' first
    | with_reducible assumption | intro _ | with_reducible apply State.modLink_kept | with_reducible apply Kept.ite
    | dsimp only

theorem execBlockLockAcquired_kept {z s : State} (h : Hp) (seen : PairHdrs) (hs : Kept z s) :
    KeptBy z (execBlockLockAcquired h seen s) := by
  unfold execBlockLockAcquired
  repeat' first
    | with_reducible apply KeptBy.next | with_reducible apply KeptBy.ite | with_reducible assumption | intro _
    | with_reducible apply State.regain_kept | with_reducible apply State.tryBlock_kept
    | with_reducible apply State.modLink_kept | with_reducible apply Kept.ite | split | dsimp only

theorem execBlockLockLost_kept {z s : State} (h : Hp) (seen : PairHdrs) (hs : Kept z s) :
    KeptBy z (execBlockLockLost h seen s) := by
  unfold execBlockLockLost
  repeat' first
    | with_reducible apply KeptBy.next | with_reducible apply KeptBy.ite | with_reducible assumption | intro _
    | with_reducible apply State.lockLost_kept | with_reducible apply Kept.ite | dsimp only

theorem execCodewordLock_kept {z s : State} (h : Hp) (seen : PairHdrs) (hs : Kept z s) :
    KeptBy z (execCodewordLock h seen s) := by
  unfold execCodewordLock
  repeat' first
    | with_reducible apply KeptBy.next | with_reducible apply KeptBy.ite | with_reducible assumption | intro _
    | with_reducible apply State.tryFec_kept | with_reducible apply State.modLink_kept
    | with_reducible apply Kept.ite | split | dsimp only

theorem execCodewordLockLost_kept {z s : State} (h : Hp) (seen : PairHdrs) (hs : Kept z s) :
    KeptBy z (execCodewordLockLost h seen s) := by
  unfold execCodewordLockLost
  repeat' first
    | with_reducible apply KeptBy.next | with_reducible apply KeptBy.ite | with_reducible assumption | intro _
    | with_reducible apply State.lockLost_kept | with_reducible apply Kept.ite | split | dsimp only

theorem State.markerTaken_kept {z s : State} (h : Nat) (pair : Nat) (m : Nat) (skew : Nat) (hs : Kept z s) :
    Kept z (State.markerTaken s h pair m skew) := by
  unfold State.markerTaken
  repeat' first
    | with_reducible assumption | intro _ | with_reducible apply State.lockLost_kept
    | with_reducible apply State.modLink_kept | with_reducible apply State.tryBlock_kept
    | with_reducible apply Kept.ite | dsimp only

theorem State.joinTaken_kept {z s : State} (h : Nat) (pair : Nat) (marker : MarkerIn) (hs : Kept z s) :
    Kept z (State.joinTaken s h pair marker) := by
  unfold State.joinTaken
  repeat' first
    | with_reducible assumption | intro _ | with_reducible apply State.modLink_kept
    | with_reducible apply State.lockLost_kept | with_reducible apply Kept.ite | split | dsimp only

theorem execAlignMarker_kept {z s : State} (h : Hp) (pair : Fin 4) (marker : MarkerIn) (hs : Kept z s) :
    KeptBy z (execAlignMarker h pair marker s) := by
  unfold execAlignMarker
  repeat' first
    | with_reducible apply KeptBy.next | with_reducible apply KeptBy.ite | with_reducible assumption | intro _
    | with_reducible apply State.joinTaken_kept | with_reducible apply State.markerTaken_kept
    | with_reducible apply Kept.ite | dsimp only

theorem execAckNakReceive_kept {z s : State} (h : Hp) (block : BitVec 64) (hs : Kept z s) :
    KeptBy z (execAckNakReceive h block s) := by
  unfold execAckNakReceive
  repeat' first
    | with_reducible apply KeptBy.next | with_reducible apply KeptBy.ite | with_reducible assumption | intro _
    | with_reducible apply State.ackUpTo_kept | with_reducible apply State.replayDue_kept
    | with_reducible apply State.bump_kept | with_reducible apply Kept.ite | with_reducible apply State.onLink_kept
    | dsimp only

theorem execAckSend_kept {z s : State} (run : IdleRun) (hs : Kept z s) : KeptBy z (execAckSend run s) := by
  unfold execAckSend
  repeat' first
    | with_reducible apply KeptBy.next | with_reducible apply KeptBy.ite | with_reducible assumption | intro _
    | with_reducible apply State.idleBlocks_kept | with_reducible apply State.sendAck_kept
    | with_reducible apply State.advanceTo_kept | with_reducible apply Kept.ite
    | with_reducible apply State.onLink_kept | dsimp only

theorem execReplayTimeout_kept {z s : State} (h : Hp) (hs : Kept z s) : KeptBy z (execReplayTimeout h s) := by
  unfold execReplayTimeout
  repeat' first
    | with_reducible apply KeptBy.next | with_reducible apply KeptBy.ite | with_reducible assumption | intro _
    | with_reducible apply State.replayDue_kept | with_reducible apply Kept.ite
    | with_reducible apply State.onLink_kept | dsimp only

theorem execCreditReceive_kept {z s : State} (h : Hp) (block : BitVec 64) (hs : Kept z s) :
    KeptBy z (execCreditReceive h block s) := by
  unfold execCreditReceive
  repeat' first
    | with_reducible apply KeptBy.next | with_reducible apply KeptBy.ite | with_reducible assumption | intro _
    | with_reducible apply State.put_kept | with_reducible apply Kept.ite | with_reducible apply State.onLink_kept
    | dsimp only

theorem execCreditSend_kept {z s : State} (run : IdleRun) (hs : Kept z s) : KeptBy z (execCreditSend run s) := by
  unfold execCreditSend
  repeat' first
    | with_reducible apply KeptBy.next | with_reducible apply KeptBy.ite | with_reducible assumption | intro _
    | with_reducible apply State.sendCredits_kept | with_reducible apply State.idleBlocks_kept
    | with_reducible apply Kept.ite | with_reducible apply State.onLink_kept | dsimp only

theorem execControlBlockUnknown_kept {z s : State} (h : Hp) (ctl : CtlIn) (hs : Kept z s) :
    KeptBy z (execControlBlockUnknown h ctl s) := by
  unfold execControlBlockUnknown
  repeat' first
    | with_reducible apply KeptBy.next | with_reducible apply KeptBy.ite | with_reducible assumption | intro _
    | with_reducible apply State.bump_kept | with_reducible apply State.sendNak_kept
    | with_reducible apply State.raise_kept | with_reducible apply Kept.ite | dsimp only

theorem State.trainSeen_kept {z s : State} (h : Nat) (hs : Kept z s) : Kept z (State.trainSeen s h) := by
  unfold State.trainSeen
  repeat' first
    | with_reducible assumption | intro _ | with_reducible apply State.linkSpeed_kept | with_reducible apply Kept.ite
    | dsimp only

theorem execSpeedCap_kept {z s : State} (h : Hp) (block : BitVec 64) (hs : Kept z s) :
    KeptBy z (execSpeedCap h block s) := by
  unfold execSpeedCap
  repeat' first
    | with_reducible apply KeptBy.next | with_reducible apply KeptBy.ite | with_reducible assumption | intro _
    | with_reducible apply State.modLink_kept | with_reducible apply State.speedOffer_kept
    | with_reducible apply State.linkSpeed_kept | with_reducible apply Kept.ite
    | with_reducible apply State.onLink_kept | dsimp only

theorem execSpeedSel_kept {z s : State} (h : Hp) (block : BitVec 64) (hs : Kept z s) :
    KeptBy z (execSpeedSel h block s) := by
  unfold execSpeedSel
  repeat' first
    | with_reducible apply KeptBy.next | with_reducible apply KeptBy.ite | with_reducible assumption | intro _
    | with_reducible apply State.trainSeen_kept | with_reducible apply State.modLink_kept
    | with_reducible apply State.speedSel_kept | with_reducible apply State.linkEq_kept
    | with_reducible apply Kept.ite | with_reducible apply State.onLink_kept | dsimp only

theorem execLatBlock_kept {z s : State} (h : Hp) (arrival : Nat) (block : BitVec 64) (hs : Kept z s) :
    KeptBy z (execLatBlock h arrival block s) := by
  unfold execLatBlock
  repeat' first
    | with_reducible apply KeptBy.next | with_reducible apply KeptBy.ite | with_reducible assumption | intro _
    | with_reducible apply State.modLink_kept | with_reducible apply State.put_kept
    | with_reducible apply State.tryBlock_kept | with_reducible apply State.sendTrain_kept
    | with_reducible apply Kept.ite | with_reducible apply State.onLink_kept | split | dsimp only

theorem execRecoverBlock_kept {z s : State} (h : Hp) (pair : Fin 4) (hs : Kept z s) :
    KeptBy z (execRecoverBlock h pair s) := by
  unfold execRecoverBlock
  repeat' first
    | with_reducible apply KeptBy.next | with_reducible apply KeptBy.ite | with_reducible assumption | intro _
    | with_reducible apply State.modLink_kept | with_reducible apply State.linkRecovery_kept
    | with_reducible apply Kept.ite | with_reducible apply State.onLink_kept | dsimp only

theorem execRefTimer_kept {z s : State} (h : Hp) (hs : Kept z s) : KeptBy z (execRefTimer h s) := by
  unfold execRefTimer
  repeat' first
    | with_reducible apply KeptBy.next | with_reducible apply KeptBy.ite | with_reducible assumption | intro _
    | with_reducible apply State.sendTrain_kept | with_reducible apply Kept.ite
    | with_reducible apply State.onLink_kept | dsimp only

theorem State.refFail_kept {z s : State} (h : Nat) (hs : Kept z s) : Kept z (State.refFail s h) := by
  unfold State.refFail
  repeat' first
    | with_reducible assumption | intro _ | with_reducible apply State.modLink_kept | dsimp only

theorem execRefTimeout_kept {z s : State} (h : Hp) (hs : Kept z s) : KeptBy z (execRefTimeout h s) := by
  unfold execRefTimeout
  repeat' first
    | with_reducible apply KeptBy.next | with_reducible apply KeptBy.ite | with_reducible assumption | intro _
    | with_reducible apply State.linkDetect_kept | with_reducible apply State.refOff_kept
    | with_reducible apply State.refFail_kept | with_reducible apply State.raise_kept | with_reducible apply Kept.ite
    | with_reducible apply State.onLink_kept | dsimp only

theorem execSpeedTimeout_kept {z s : State} (h : Hp) (hs : Kept z s) : KeptBy z (execSpeedTimeout h s) := by
  unfold execSpeedTimeout
  repeat' first
    | with_reducible apply KeptBy.next | with_reducible apply KeptBy.ite | with_reducible assumption | intro _
    | with_reducible apply State.refFail_kept | with_reducible apply State.linkRef_kept
    | with_reducible apply State.linkDetect_kept | with_reducible apply State.refOff_kept
    | with_reducible apply State.raise_kept | with_reducible apply Kept.ite | with_reducible apply State.onLink_kept
    | dsimp only

theorem execEqTimeout_kept {z s : State} (h : Hp) (hs : Kept z s) : KeptBy z (execEqTimeout h s) := by
  unfold execEqTimeout
  repeat' first
    | with_reducible apply KeptBy.next | with_reducible apply KeptBy.ite | with_reducible assumption | intro _
    | with_reducible apply State.lowerGear_kept | with_reducible apply Kept.ite
    | with_reducible apply State.onLink_kept | dsimp only

theorem execBlockTimeout_kept {z s : State} (h : Hp) (hs : Kept z s) : KeptBy z (execBlockTimeout h s) := by
  unfold execBlockTimeout
  repeat' first
    | with_reducible apply KeptBy.next | with_reducible apply KeptBy.ite | with_reducible assumption | intro _
    | with_reducible apply State.each_kept | with_reducible apply State.markFailed_kept
    | with_reducible apply State.tryBlock_kept | with_reducible apply State.modLink_kept
    | with_reducible apply State.lowerGear_kept | with_reducible apply Kept.ite
    | with_reducible apply State.onLink_kept | dsimp only

theorem execFecTimeout_kept {z s : State} (h : Hp) (hs : Kept z s) : KeptBy z (execFecTimeout h s) := by
  unfold execFecTimeout
  repeat' first
    | with_reducible apply KeptBy.next | with_reducible apply KeptBy.ite | with_reducible assumption | intro _
    | with_reducible apply State.lowerGear_kept | with_reducible apply Kept.ite
    | with_reducible apply State.onLink_kept | dsimp only

theorem State.relocked_kept {z s : State} (h : Nat) (hs : Kept z s) : Kept z (State.relocked s h) := by
  unfold State.relocked
  repeat' first
    | with_reducible assumption | intro _ | with_reducible apply State.linkSpeed_kept
    | with_reducible apply State.modLink_kept | with_reducible apply State.setCv_kept
    | with_reducible apply State.each_kept | with_reducible apply State.put_kept
    | with_reducible apply State.putAck_kept | with_reducible apply State.bump_kept | with_reducible apply Kept.ite
    | dsimp only

theorem execRecoveryRelock_kept {z s : State} (h : Hp) (hs : Kept z s) : KeptBy z (execRecoveryRelock h s) := by
  unfold execRecoveryRelock
  repeat' first
    | with_reducible apply KeptBy.next | with_reducible apply KeptBy.ite | with_reducible assumption | intro _
    | with_reducible apply State.relocked_kept | with_reducible apply Kept.ite
    | with_reducible apply State.onLink_kept | dsimp only

theorem execRecoveryTimeout_kept {z s : State} (h : Hp) (hs : Kept z s) : KeptBy z (execRecoveryTimeout h s) := by
  unfold execRecoveryTimeout
  repeat' first
    | with_reducible apply KeptBy.next | with_reducible apply KeptBy.ite | with_reducible assumption | intro _
    | with_reducible apply State.each_kept | with_reducible apply State.widthChg_kept
    | with_reducible apply State.markFailed_kept | with_reducible apply State.linkSpeed_kept
    | with_reducible apply Kept.ite | with_reducible apply State.onLink_kept | dsimp only

theorem State.retrain_kept {z s : State} (h : Nat) (hs : Kept z s) : Kept z (State.retrain s h) := by
  unfold State.retrain
  repeat' first
    | with_reducible assumption | intro _ | with_reducible apply State.linkSpeed_kept | with_reducible apply Kept.ite
    | dsimp only

theorem State.requestTurn_kept {z s : State} (h : Nat) (pair : Nat) (dir : Nat) (rejoin : Bool) (tick : Nat) (hs :
    Kept z s) : Kept z (State.requestTurn s h pair dir rejoin tick) := by
  unfold State.requestTurn
  repeat' first
    | with_reducible assumption | intro _ | with_reducible apply State.modLink_kept
    | with_reducible apply State.sendOwn_kept | dsimp only

theorem execTurnAck_kept {z s : State} (h : Hp) (block : BitVec 64) (hs : Kept z s) :
    KeptBy z (execTurnAck h block s) := by
  unfold execTurnAck
  repeat' first
    | with_reducible apply KeptBy.next | with_reducible apply KeptBy.ite | with_reducible assumption | intro _
    | with_reducible apply State.modLink_kept | with_reducible apply Kept.ite
    | with_reducible apply State.onLink_kept | split | dsimp only

theorem State.cancelTurn_kept {z s : State} (h : Nat) (t : Turn) (hs : Kept z s) :
    Kept z (State.cancelTurn s h t) := by
  unfold State.cancelTurn
  repeat' first
    | with_reducible assumption | intro _ | with_reducible apply State.sendOwn_kept
    | with_reducible apply State.bump_kept | with_reducible apply State.raise_kept
    | with_reducible apply State.turnDone_kept | with_reducible apply State.modLink_kept
    | with_reducible apply Kept.ite | dsimp only

theorem execTurnCancel_kept {z s : State} (h : Hp) (hs : Kept z s) : KeptBy z (execTurnCancel h s) := by
  unfold execTurnCancel
  repeat' first
    | with_reducible apply KeptBy.next | with_reducible apply KeptBy.ite | with_reducible assumption | intro _
    | with_reducible apply State.cancelTurn_kept | with_reducible apply Kept.ite
    | with_reducible apply State.onLink_kept | split | dsimp only

theorem State.turnStarts_kept {z s : State} (h : Nat) (t : Turn) (hs : Kept z s) :
    Kept z (State.turnStarts s h t) := by
  unfold State.turnStarts
  repeat' first
    | with_reducible assumption | intro _ | with_reducible apply State.finishWord_kept
    | with_reducible apply State.fillRow_kept | with_reducible apply State.leaveDown_kept
    | with_reducible apply State.setMasks_kept | with_reducible apply State.put_kept
    | with_reducible apply State.loadRx_kept | with_reducible apply State.modLink_kept
    | with_reducible apply State.setCv_kept | with_reducible apply Kept.ite | dsimp only

theorem State.turnBoundary_kept {z s : State} (h : Nat) (hs : Kept z s) : Kept z (State.turnBoundary s h) := by
  unfold State.turnBoundary
  repeat' first
    | with_reducible assumption | intro _ | with_reducible apply State.modTx_kept
    | with_reducible apply State.iff_kept | with_reducible apply State.sendDue_kept
    | with_reducible apply State.turnDone_kept | with_reducible apply State.requestTurn_kept
    | with_reducible apply State.cancelTurn_kept | with_reducible apply State.turnStarts_kept
    | with_reducible apply Kept.ite | split | dsimp only

theorem State.turnSync_kept {z s : State} (h : Nat) (p : Nat) (hs : Kept z s) : Kept z (State.turnSync s h p) := by
  unfold State.turnSync
  repeat' first
    | with_reducible assumption | intro _ | with_reducible apply State.sendTrain_kept | dsimp only

theorem execTurnIdleDetected_kept {z s : State} (h : Hp) (hs : Kept z s) : KeptBy z (execTurnIdleDetected h s) := by
  unfold execTurnIdleDetected
  repeat' first
    | with_reducible apply KeptBy.next | with_reducible apply KeptBy.ite | with_reducible assumption | intro _
    | with_reducible apply State.modLink_kept | with_reducible apply State.put_kept
    | with_reducible apply State.turnSync_kept | with_reducible apply State.loadTx_kept
    | with_reducible apply Kept.ite | with_reducible apply State.onLink_kept | split | dsimp only

theorem State.turnAborted_kept {z s : State} (h : Nat) (t : Turn) (hs : Kept z s) :
    Kept z (State.turnAborted s h t) := by
  unfold State.turnAborted
  repeat' first
    | with_reducible assumption | intro _ | with_reducible apply State.raise_kept
    | with_reducible apply State.setCv_kept | with_reducible apply State.dropPair_kept | dsimp only

theorem execTurnAbort_kept {z s : State} (h : Hp) (hs : Kept z s) : KeptBy z (execTurnAbort h s) := by
  unfold execTurnAbort
  repeat' first
    | with_reducible apply KeptBy.next | with_reducible apply KeptBy.ite | with_reducible assumption | intro _
    | with_reducible apply State.turnAborted_kept | with_reducible apply Kept.ite
    | with_reducible apply State.onLink_kept | split | dsimp only

theorem State.joinUp_kept {z s : State} (h : Nat) (p : Nat) (hs : Kept z s) : Kept z (State.joinUp s h p) := by
  unfold State.joinUp
  repeat' first
    | with_reducible assumption | intro _ | with_reducible apply State.finishWord_kept
    | with_reducible apply State.fillWord_kept | with_reducible apply State.putMarker_kept
    | with_reducible apply State.setMasks_kept | with_reducible apply State.took_kept
    | with_reducible apply State.endRow_kept | with_reducible apply State.each_kept
    | with_reducible apply State.modTx_kept | with_reducible apply Kept.ite | dsimp only

theorem execTurnJoin_kept {z s : State} (h : Hp) (seen : JoinIn) (hs : Kept z s) :
    KeptBy z (execTurnJoin h seen s) := by
  unfold execTurnJoin
  repeat' first
    | with_reducible apply KeptBy.next | with_reducible apply KeptBy.ite | with_reducible assumption | intro _
    | with_reducible apply State.turnAborted_kept | with_reducible apply State.advanceTo_kept
    | with_reducible apply State.joinUp_kept | with_reducible apply State.each_kept
    | with_reducible apply State.turnSync_kept | with_reducible apply State.modLink_kept
    | with_reducible apply State.regain_kept | with_reducible apply State.setMasks_kept
    | with_reducible apply State.put_kept | with_reducible apply State.bump_kept
    | with_reducible apply State.widthChg_kept | with_reducible apply State.raise_kept
    | with_reducible apply State.setCv_kept | with_reducible apply Kept.ite | with_reducible apply State.onLink_kept
    | split | dsimp only

theorem execPairFailed_kept {z s : State} (h : Hp) (pair : Fin 4) (hs : Kept z s) :
    KeptBy z (execPairFailed h pair s) := by
  unfold execPairFailed
  repeat' first
    | with_reducible apply KeptBy.next | with_reducible apply KeptBy.ite | with_reducible assumption | intro _
    | with_reducible apply State.dropPair_kept | with_reducible apply Kept.ite
    | with_reducible apply State.onLink_kept | dsimp only

theorem execTurnDrop_kept {z s : State} (h : Hp) (block : BitVec 64) (hs : Kept z s) :
    KeptBy z (execTurnDrop h block s) := by
  unfold execTurnDrop
  repeat' first
    | with_reducible apply KeptBy.next | with_reducible apply KeptBy.ite | with_reducible assumption | intro _
    | with_reducible apply State.dropPair_kept | with_reducible apply Kept.ite
    | with_reducible apply State.onLink_kept | dsimp only

theorem execWatchInstant_kept {z s : State} (h : Hp) (hs : Kept z s) : KeptBy z (execWatchInstant h s) := by
  unfold execWatchInstant
  repeat' first
    | with_reducible apply KeptBy.next | with_reducible apply KeptBy.ite | with_reducible assumption | intro _
    | with_reducible apply State.modOwn_kept | with_reducible apply State.advanceTo_kept
    | with_reducible apply State.modLink_kept | with_reducible apply Kept.ite | split | dsimp only

theorem State.recordOwn_kept {z s : State} (a : Nat) (tr : Transport) (tag : Nat) (op : Nat) (mask : Nat) (result :
    Nat) (hs : Kept z s) : Kept z (State.recordOwn s a tr tag op mask result) := by
  unfold State.recordOwn
  repeat' first
    | with_reducible assumption | intro _ | with_reducible apply State.modOwn_kept
    | with_reducible apply State.each_kept | with_reducible apply State.put_kept | with_reducible apply Kept.ite
    | dsimp only

theorem State.recordTrigger_kept {z s : State} (h : Nat) (heartbeat : Bool) (hs : Kept z s) :
    Kept z (State.recordTrigger s h heartbeat) := by
  unfold State.recordTrigger
  repeat' first
    | with_reducible assumption | intro _ | with_reducible apply State.each_kept
    | with_reducible apply State.put_kept | with_reducible apply Kept.ite | dsimp only

theorem State.ownChanged_kept {z s : State} (a : Nat) (hs : Kept z s) : Kept z (State.ownChanged s a) := by
  unfold State.ownChanged
  repeat' first
    | with_reducible assumption | intro _ | with_reducible apply State.put_kept
    | with_reducible apply State.modAgent_kept | with_reducible apply Kept.ite | dsimp only

theorem State.setOwner_kept {z s : State} (k : Nat) (o : Nat) (sb : Nat) (cause : Nat) (hs : Kept z s) :
    Kept z (State.setOwner s k o sb cause) := by
  unfold State.setOwner
  repeat' first
    | with_reducible assumption | intro _ | with_reducible apply State.put_kept
    | with_reducible apply State.bump_kept | with_reducible apply State.each_kept
    | with_reducible apply State.ownChanged_kept | with_reducible apply Kept.ite | dsimp only

theorem State.bumpGen_kept {z s : State} (h : Nat) (hs : Kept z s) : Kept z (State.bumpGen s h) := by
  unfold State.bumpGen
  repeat' first
    | with_reducible assumption | intro _ | with_reducible apply State.raise_kept
    | with_reducible apply State.modOwn_kept | with_reducible apply State.linkSpeed_kept
    | with_reducible apply State.put_kept | with_reducible apply State.bump_kept
    | with_reducible apply State.modAgent_kept | with_reducible apply Kept.ite | split | dsimp only

theorem State.ownAct_kept {z s : State} (r : OwnReq) (hs : Kept z s) : Kept z (State.ownAct s r).2 := by
  unfold State.ownAct
  repeat' first
    | with_reducible assumption | intro _ | with_reducible apply State.each_kept
    | with_reducible apply State.setOwner_kept | with_reducible apply Kept.ite | with_reducible apply Kept.pair_ite
    | dsimp only

theorem State.ownStep_kept {z s : State} (hs : Kept z s) : Kept z (State.ownStep s).2 := by
  unfold State.ownStep
  repeat' first
    | with_reducible assumption | intro _ | with_reducible refine Kept.foldl_pair _ ?_ _ _ ?_
    | with_reducible apply State.ownAct_kept | with_reducible apply State.modOwn_kept
    | with_reducible apply State.each_kept | with_reducible apply State.setOwner_kept
    | with_reducible apply State.raise_kept | with_reducible apply State.put_kept
    | with_reducible apply State.bumpGen_kept | with_reducible apply Kept.ite | with_reducible apply Kept.foldl
    | with_reducible apply State.ownAct_kept | refine Kept.of_pair (by with_reducible assumption) ?_
    | with_reducible apply Kept.pair_ite | split | dsimp only

theorem State.ownReplies_kept {z s : State} (hs : Kept z s) : Kept z (State.ownReplies s) := by
  unfold State.ownReplies
  repeat' first
    | with_reducible assumption | intro _ | with_reducible apply State.modOwn_kept
    | with_reducible apply State.modAgent_kept | with_reducible apply State.complete_kept
    | with_reducible apply State.reply_kept | with_reducible apply Kept.ite | with_reducible apply Kept.foldl
    | dsimp only

theorem State.heartbeatJudge_kept {z s : State} (h : Nat) (hs : Kept z s) : Kept z (State.heartbeatJudge s h) := by
  unfold State.heartbeatJudge
  repeat' first
    | with_reducible assumption | intro _ | with_reducible apply State.modAgent_kept
    | with_reducible apply State.put_kept | with_reducible apply State.bump_kept
    | with_reducible apply State.recordTrigger_kept | with_reducible apply Kept.ite | dsimp only

theorem execHeartbeatChore_kept {z s : State} (prevOpen : Bool) (hs : Kept z s) :
    KeptBy z (execHeartbeatChore prevOpen s) := by
  unfold execHeartbeatChore
  repeat' first
    | with_reducible apply KeptBy.next | with_reducible apply KeptBy.ite | with_reducible assumption | intro _
    | with_reducible apply State.chore_kept | with_reducible apply State.each_kept
    | with_reducible apply State.heartbeatJudge_kept | with_reducible apply State.replyUp_kept
    | with_reducible apply Kept.ite | dsimp only

end Sys2Proof.Machine
end

