-- ==== Sys2Proof/Laws/KeptUnits.lean ====
section
/-! SUPPORT. Laws/KeptUnits.lean: the operations and commands of the data units keep what Laws/Kept.lean names. -/

set_option linter.unusedTactic false
set_option linter.unreachableTactic false

namespace Sys2Proof.Machine

theorem State.srDeliver_kept {z s : State} (a : Nat) (tun : Option Nat) (id : Nat) (outcome : Nat) (reason : Nat) (res
    : Nat) (late : Nat) (hs : Kept z s) : Kept z (State.srDeliver s a tun id outcome reason res late) := by
  unfold State.srDeliver
  repeat' first
    | with_reducible assumption | intro _ | with_reducible apply State.queueUp_kept
    | with_reducible apply State.put_kept | with_reducible apply Kept.ite | split | dsimp only

theorem State.srException_kept {z s : State} (res : Nat) (outcome : Nat) (hs : Kept z s) :
    Kept z (State.srException s res outcome) := by
  unfold State.srException
  repeat' first
    | with_reducible assumption | intro _ | with_reducible apply State.bump_kept
    | with_reducible apply State.raise_kept | with_reducible apply Kept.ite | dsimp only

theorem State.srResult_kept {z s : State} (a : Nat) (tun : Option Nat) (id : Nat) (outcome : Nat) (reason : Nat) (res
    : Nat) (late : Nat) (report : Bool) (hs : Kept z s) :
    Kept z (State.srResult s a tun id outcome reason res late report) := by
  unfold State.srResult
  repeat' first
    | with_reducible assumption | intro _ | with_reducible apply State.srDeliver_kept
    | with_reducible apply State.srException_kept | with_reducible apply Kept.ite | dsimp only

theorem State.srBadAction_kept {z s : State} (a : Nat) (tun : Option Nat) (id : Nat) (action : Nat) (arg : Nat)
    (report : Bool) (hs : Kept z s) : Kept z (State.srBadAction s a tun id action arg report) := by
  unfold State.srBadAction
  repeat' first
    | with_reducible assumption | intro _ | with_reducible apply State.srResult_kept
    | with_reducible apply State.took_kept | split | dsimp only

theorem State.srCount_kept {z s : State} (k : Nat) (hs : Kept z s) : Kept z (State.srCount s k) := by
  unfold State.srCount
  repeat' first
    | with_reducible assumption | intro _ | with_reducible apply State.put_kept | dsimp only

theorem State.srSubmit_kept {z s : State} (a : Nat) (tun : Option Nat) (w0 : Nat) (w1 : Nat) (w2 : Nat) (w3 : Nat) (hs
    : Kept z s) : Kept z (State.srSubmit s a tun w0 w1 w2 w3) := by
  unfold State.srSubmit
  repeat' first
    | with_reducible assumption | intro _ | with_reducible apply State.srBadAction_kept
    | with_reducible apply State.srResult_kept | with_reducible apply State.srCount_kept | simp only [Kept.mk_iff]
    | with_reducible apply Kept.parts | with_reducible apply Kept.ite | split | dsimp only

theorem State.srDescriptors_kept {z s : State} (h : Nat) (n : Nat) (words : List Word) (hs : Kept z s) :
    Kept z (State.srDescriptors s h n words) := by
  unfold State.srDescriptors
  repeat' first
    | with_reducible assumption | intro _ | with_reducible apply State.srSubmit_kept
    | with_reducible apply Kept.foldl | dsimp only

theorem State.srCancel_kept {z s : State} (a : Nat) (tun : Option Nat) (w0 : Nat) (w1 : Nat) (hs : Kept z s) :
    Kept z (State.srCancel s a tun w0 w1) := by
  unfold State.srCancel
  repeat' first
    | with_reducible assumption | intro _ | with_reducible apply State.srResult_kept
    | with_reducible apply State.srCount_kept | simp only [Kept.mk_iff] | with_reducible apply Kept.parts
    | with_reducible apply Kept.ite | with_reducible apply Kept.foldl | dsimp only

theorem State.srCancels_kept {z s : State} (h : Nat) (n : Nat) (words : List Word) (hs : Kept z s) :
    Kept z (State.srCancels s h n words) := by
  unfold State.srCancels
  repeat' first
    | with_reducible assumption | intro _ | with_reducible apply State.srCancel_kept
    | with_reducible apply Kept.foldl | dsimp only

theorem State.srDiscardAll_kept {z s : State} (hs : Kept z s) : Kept z (State.srDiscardAll s) := by
  unfold State.srDiscardAll
  repeat' first
    | with_reducible assumption | intro _ | with_reducible apply State.bump_kept
    | with_reducible apply State.each_kept | with_reducible apply State.put_kept | simp only [Kept.mk_iff]
    | with_reducible apply Kept.parts | dsimp only

theorem State.lineTo_kept {z s : State} (n : Nat) (level : Bool) (at_ : Nat) (hs : Kept z s) :
    Kept z (State.lineTo s n level at_) := by
  unfold State.lineTo
  repeat' first
    | with_reducible assumption | intro _ | with_reducible apply State.emit_kept | simp only [Kept.mk_iff]
    | with_reducible apply Kept.parts | with_reducible apply Kept.ite | dsimp only

theorem State.settleLines_kept {z s : State} (hs : Kept z s) : Kept z (State.settleLines s) := by
  unfold State.settleLines
  repeat' first
    | with_reducible assumption | intro _ | with_reducible apply State.lineTo_kept | simp only [Kept.mk_iff]
    | with_reducible apply Kept.parts | with_reducible apply Kept.foldl | dsimp only

theorem State.driveLine_kept {z s : State} (n : Nat) (level : Bool) (due : Nat) (at_ : Nat) (hs : Kept z s) :
    Kept z (State.driveLine s n level due at_) := by
  unfold State.driveLine
  repeat' first
    | with_reducible assumption | intro _ | with_reducible apply State.lineTo_kept | simp only [Kept.mk_iff]
    | with_reducible apply Kept.parts | with_reducible apply Kept.ite | split | dsimp only

theorem State.lineEdge_kept {z s : State} (l : Launch) (level : Bool) (hs : Kept z s) :
    Kept z (State.lineEdge s l level).2 := by
  unfold State.lineEdge
  repeat' first
    | with_reducible assumption | intro _ | with_reducible apply State.settleLines_kept
    | with_reducible apply State.driveLine_kept | with_reducible apply Kept.ite | with_reducible apply Kept.pair_ite
    | split | dsimp only

theorem execDelayCalibration_kept {z s : State} (hs : Kept z s) : KeptBy z (execDelayCalibration s) := by
  unfold execDelayCalibration
  repeat' first
    | with_reducible apply KeptBy.next | with_reducible apply KeptBy.ite | with_reducible assumption | intro _
    | dsimp only

theorem State.capFill_kept {z s : State} (g : Nat) (hs : Kept z s) : Kept z (State.capFill s g) := by
  unfold State.capFill
  repeat' first
    | with_reducible assumption | intro _ | with_reducible apply State.watching_kept
    | with_reducible apply State.put_kept | split | dsimp only

/-- A capture FIFO changed, its depth kept within bounds. -/
theorem State.modCap_kept {z s : State} (g : Nat) (f : CapFifo → CapFifo) (hs : Kept z s)
    (hf : (vAt s.sr.caps g).recs.length ≤ 128 → (f (vAt s.sr.caps g)).recs.length ≤ 128) : Kept z (State.modCap s g f) :=
  State.capFill_kept _ (hs.modCaps g f hf)

theorem execCaptureEdge_kept {z s : State} (c : Fin 32) (rising : Bool) (edge : EdgeIn) (hs : Kept z s) :
    KeptBy z (execCaptureEdge c rising edge s) := by
  unfold execCaptureEdge
  dsimp only
  refine KeptBy.next ?_
  refine Kept.ite hs ?_
  have h0 : Kept z ({ s with sr := { s.sr with levels := vPut s.sr.levels c (some rising) } } : State) :=
    Kept.of_eq hs rfl rfl rfl rfl rfl rfl rfl rfl rfl
  refine Kept.ite h0 ?_
  have h1 : Kept z ({ s with sr :=
      { s.sr with
        levels := vPut s.sr.levels c (some rising)
        lastStamp := vPut s.sr.lastStamp c (some (2 * s.clock.time + edge.half.val)) } } : State) :=
    Kept.of_eq hs rfl rfl rfl rfl rfl rfl rfl rfl rfl
  split
  · exact Kept.modCaps (State.raise_kept _ _ (State.bump_kept _ _ h1)) _ _ (fun hx => hx)
  · rename_i hlen
    refine State.modCap_kept _ _ h1 (fun _ => ?_)
    dsimp only
    rw [List.length_append]
    simp only [List.length_cons, List.length_nil]
    omega

theorem execCapturePacket_kept {z s : State} (g : Fin 4) (hs : Kept z s) : KeptBy z (execCapturePacket g s) := by
  unfold execCapturePacket
  repeat' first
    | with_reducible apply KeptBy.next | with_reducible apply KeptBy.ite | with_reducible assumption | intro _
    | (simp only [List.length_drop]; omega) | with_reducible apply State.advanceTo_kept
    | with_reducible apply State.queueUp_kept | with_reducible apply State.modCap_kept
    | with_reducible apply Kept.ite | split | dsimp only

theorem State.capPop_kept {z s : State} (g : Nat) (hs : Kept z s) : Kept z (State.capPop s g) := by
  unfold State.capPop
  repeat' first
    | with_reducible assumption | intro _ | (simp only [List.length_drop]; omega)
    | with_reducible apply State.modCap_kept | with_reducible apply Kept.ite | dsimp only

theorem State.timeDiscard_kept {z s : State} (h : Nat) (hs : Kept z s) : Kept z (State.timeDiscard s h) := by
  unfold State.timeDiscard
  repeat' first
    | with_reducible assumption | intro _ | with_reducible apply State.raise_kept
    | with_reducible apply State.bump_kept | dsimp only

theorem execLaunchDescriptors_kept {z s : State} (h : Hp) (words : List Word) (hs : Kept z s) :
    KeptBy z (execLaunchDescriptors h words s) := by
  unfold execLaunchDescriptors
  repeat' first
    | with_reducible apply KeptBy.next | with_reducible apply KeptBy.ite | with_reducible assumption | intro _
    | with_reducible apply State.srDescriptors_kept | with_reducible apply State.timeDiscard_kept
    | with_reducible apply Kept.ite | split | dsimp only

theorem execLaunchCancel_kept {z s : State} (h : Hp) (words : List Word) (hs : Kept z s) :
    KeptBy z (execLaunchCancel h words s) := by
  unfold execLaunchCancel
  repeat' first
    | with_reducible apply KeptBy.next | with_reducible apply KeptBy.ite | with_reducible assumption | intro _
    | with_reducible apply State.srCancels_kept | with_reducible apply State.timeDiscard_kept
    | with_reducible apply Kept.ite | split | dsimp only

theorem State.timeLatch_kept {z s : State} (a : Nat) (hs : Kept z s) : Kept z (State.timeLatch s a) := by
  unfold State.timeLatch
  repeat' first
    | with_reducible assumption | intro _ | with_reducible apply State.put_kept | dsimp only

theorem execTimeLoRead_kept {z s : State} (a : Agent) (hs : Kept z s) : KeptBy z (execTimeLoRead a s) := by
  unfold execTimeLoRead
  repeat' first
    | with_reducible apply KeptBy.next | with_reducible apply KeptBy.ite | with_reducible assumption | intro _
    | with_reducible apply State.timeLatch_kept | dsimp only

theorem execRefPllLock_kept {z s : State} (hs : Kept z s) : KeptBy z (execRefPllLock s) := by
  unfold execRefPllLock
  repeat' first
    | with_reducible apply KeptBy.next | with_reducible apply KeptBy.ite | with_reducible assumption | intro _
    | with_reducible apply State.put_kept | with_reducible apply State.each_kept
    | with_reducible refine State.modClock_kept _ ?_ rfl | dsimp only

theorem State.refSwitch_kept {z s : State} (hs : Kept z s) : Kept z (State.refSwitch s) := by
  unfold State.refSwitch
  repeat' first
    | with_reducible assumption | intro _ | with_reducible apply State.put_kept
    | with_reducible apply State.raise_kept | with_reducible apply State.notice_kept
    | with_reducible apply State.spareTookOver_kept | with_reducible apply Kept.ite | dsimp only

theorem execRefPllLockLoss_kept {z s : State} (hs : Kept z s) : KeptBy z (execRefPllLockLoss s) := by
  unfold execRefPllLockLoss
  repeat' first
    | with_reducible apply KeptBy.next | with_reducible apply KeptBy.ite | with_reducible assumption | intro _
    | with_reducible apply State.refSwitch_kept | with_reducible apply State.put_kept | dsimp only

theorem execXtalAStopped_kept {z s : State} (hs : Kept z s) : KeptBy z (execXtalAStopped s) := by
  unfold execXtalAStopped
  repeat' first
    | with_reducible apply KeptBy.next | with_reducible apply KeptBy.ite | with_reducible assumption | intro _
    | with_reducible apply State.refSwitch_kept | with_reducible apply State.put_kept | dsimp only

theorem State.xtalEvt_kept {z s : State} (hs : Kept z s) : Kept z (State.xtalEvt s) := by
  unfold State.xtalEvt
  repeat' first
    | with_reducible assumption | intro _ | with_reducible apply State.raise_kept | with_reducible apply Kept.ite
    | dsimp only

theorem State.xtalKeep_kept {z s : State} (hs : Kept z s) : Kept z (State.xtalKeep s) := by
  unfold State.xtalKeep
  repeat' first
    | with_reducible assumption | intro _ | with_reducible apply State.put_kept | with_reducible apply Kept.ite
    | dsimp only

theorem execXtalCompare_kept {z s : State} (ppm : Int) (hs : Kept z s) : KeptBy z (execXtalCompare ppm s) := by
  unfold execXtalCompare
  repeat' first
    | with_reducible apply KeptBy.next | with_reducible apply KeptBy.ite | with_reducible assumption | intro _
    | with_reducible apply State.xtalEvt_kept | with_reducible refine State.modClock_kept _ ?_ rfl | dsimp only

theorem State.refSelect_kept {z s : State} (hs : Kept z s) : Kept z (State.refSelect s) := by
  unfold State.refSelect
  repeat' first
    | with_reducible assumption | intro _ | with_reducible apply State.put_kept | with_reducible apply Kept.ite
    | dsimp only

theorem State.discState_kept {z s : State} (st : Nat) (hs : Kept z s) : Kept z (State.discState s st) := by
  unfold State.discState
  repeat' first
    | with_reducible assumption | intro _ | with_reducible apply State.raise_kept
    | with_reducible apply State.put_kept | with_reducible apply Kept.ite | dsimp only

theorem State.discAcquire_kept {z s : State} (src : Nat) (hs : Kept z s) : Kept z (State.discAcquire s src) := by
  unfold State.discAcquire
  repeat' first
    | with_reducible assumption | intro _ | with_reducible refine State.modClock_kept _ ?_ rfl
    | with_reducible apply State.discState_kept | with_reducible apply State.put_kept | dsimp only

theorem State.discWritten_kept {z s : State} (hs : Kept z s) : Kept z (State.discWritten s) := by
  unfold State.discWritten
  repeat' first
    | with_reducible assumption | intro _ | with_reducible apply State.discState_kept
    | with_reducible apply State.put_kept | with_reducible refine State.modClock_kept _ ?_ rfl
    | with_reducible apply State.discAcquire_kept | with_reducible apply Kept.ite | dsimp only

theorem State.measured_kept {z s : State} (src : Nat) (e : Int) (hs : Kept z s) : Kept z (State.measured s src e) := by
  unfold State.measured
  repeat' first
    | with_reducible assumption | intro _ | with_reducible refine State.modClock_kept _ ?_ rfl | split | dsimp only

theorem State.servoRun_kept {z s : State} (e : Int) (hs : Kept z s) : Kept z (State.servoRun s e) := by
  unfold State.servoRun
  repeat' first
    | with_reducible assumption | intro _ | with_reducible apply State.put_kept
    | with_reducible refine State.modClock_kept _ ?_ rfl | with_reducible apply State.discState_kept
    | with_reducible apply Kept.ite | dsimp only

theorem State.discHold_kept {z s : State} (hs : Kept z s) : Kept z (State.discHold s) := by
  unfold State.discHold
  repeat' first
    | with_reducible assumption | intro _ | with_reducible apply State.discState_kept
    | with_reducible apply State.put_kept | with_reducible refine State.modClock_kept _ ?_ rfl
    | with_reducible apply Kept.ite | dsimp only

theorem State.servoStep_kept {z s : State} (hs : Kept z s) : Kept z (State.servoStep s) := by
  unfold State.servoStep
  repeat' first
    | with_reducible assumption | intro _ | with_reducible apply State.discWritten_kept
    | with_reducible apply State.discHold_kept | with_reducible apply State.discAcquire_kept
    | with_reducible apply State.servoRun_kept | with_reducible apply Kept.ite | split | dsimp only

theorem execDiscServo_kept {z s : State} (prevOpen : Bool) (hs : Kept z s) : KeptBy z (execDiscServo prevOpen s) := by
  unfold execDiscServo
  repeat' first
    | with_reducible apply KeptBy.next | with_reducible apply KeptBy.ite | with_reducible assumption | intro _
    | with_reducible apply State.chore_kept | with_reducible apply State.servoStep_kept | dsimp only

theorem State.refRamp_kept {z s : State} (hs : Kept z s) : Kept z (State.refRamp s) := by
  unfold State.refRamp
  repeat' first
    | with_reducible assumption | intro _ | with_reducible apply State.put_kept | dsimp only

theorem State.todStep_kept {z s : State} (hs : Kept z s) : Kept z (State.todStep s) := by
  unfold State.todStep
  repeat' first
    | with_reducible assumption | intro _ | with_reducible refine State.modClock_kept _ ?_ rfl
    | with_reducible apply State.put_kept | with_reducible apply State.raise_kept
    | with_reducible apply State.bump_kept | split | dsimp only

theorem execHostTimeBeacon_kept {z s : State} (h : Hp) (block : BitVec 64) (hs : Kept z s) :
    KeptBy z (execHostTimeBeacon h block s) := by
  unfold execHostTimeBeacon
  repeat' first
    | with_reducible apply KeptBy.next | with_reducible apply KeptBy.ite | with_reducible assumption | intro _
    | with_reducible apply State.bump_kept | with_reducible apply State.measured_kept | with_reducible apply Kept.ite
    | dsimp only

theorem execDieBridgeWordFail_kept {z s : State} (dir : Fin 2) (again : Bool) (hs : Kept z s) :
    KeptBy z (execDieBridgeWordFail dir again s) := by
  unfold execDieBridgeWordFail
  repeat' first
    | with_reducible apply KeptBy.next | with_reducible apply KeptBy.ite | with_reducible assumption | intro _
    | with_reducible apply State.put_kept | with_reducible apply State.raise_kept
    | with_reducible apply State.notice_kept | with_reducible apply State.logHw_kept | simp only [Kept.mk_iff]
    | with_reducible apply Kept.parts | with_reducible apply Kept.ite | split | dsimp only

theorem State.bridgeTick_kept {z s : State} (hs : Kept z s) : Kept z (State.bridgeTick s) := by
  unfold State.bridgeTick
  repeat' first
    | with_reducible assumption | intro _ | with_reducible apply State.put_kept | simp only [Kept.mk_iff]
    | with_reducible apply Kept.parts | with_reducible apply Kept.ite | split | dsimp only

theorem State.flexLane_kept {z s : State} (g : Nat) (b : Nat) (st : Nat) (rate : Nat) (hs : Kept z s) :
    Kept z (State.flexLane s g b st rate) := by
  unfold State.flexLane
  repeat' first
    | with_reducible assumption | intro _ | with_reducible apply State.put_kept
    | with_reducible apply State.adaptStop_kept | with_reducible apply State.setBit_kept
    | with_reducible apply State.clrBit_kept | with_reducible apply Kept.ite | dsimp only

theorem State.lanesIdle_kept {z s : State} (g : Nat) (hs : Kept z s) : Kept z (State.lanesIdle s g) := by
  unfold State.lanesIdle
  repeat' first
    | with_reducible assumption | intro _ | with_reducible apply State.each_kept
    | with_reducible apply State.put_kept | with_reducible apply State.adaptStop_kept | with_reducible apply Kept.ite
    | dsimp only

theorem State.lanesWake_kept {z s : State} (g : Nat) (hs : Kept z s) : Kept z (State.lanesWake s g) := by
  unfold State.lanesWake
  repeat' first
    | with_reducible assumption | intro _ | with_reducible apply State.each_kept
    | with_reducible apply State.put_kept | with_reducible apply Kept.ite | dsimp only

theorem State.flexForgetLane_kept {z s : State} (g : Nat) (b : Nat) (hs : Kept z s) :
    Kept z (State.flexForgetLane s g b) := by
  unfold State.flexForgetLane
  repeat' first
    | with_reducible assumption | intro _ | with_reducible apply State.clrBit_kept
    | with_reducible apply State.put_kept | simp only [Kept.mk_iff] | with_reducible apply Kept.parts
    | with_reducible apply Kept.ite | split | dsimp only

theorem State.flexForget_kept {z s : State} (g : Nat) (hs : Kept z s) : Kept z (State.flexForget s g) := by
  unfold State.flexForget
  repeat' first
    | with_reducible assumption | intro _ | with_reducible apply State.each_kept
    | with_reducible apply State.flexForgetLane_kept | dsimp only

theorem State.flexLanes_kept {z s : State} (g : Nat) (n : Nat) (st : Nat) (rate : Nat) (hs : Kept z s) :
    Kept z (State.flexLanes s g n st rate) := by
  unfold State.flexLanes
  repeat' first
    | with_reducible assumption | intro _ | with_reducible apply State.each_kept
    | with_reducible apply State.flexLane_kept | with_reducible apply Kept.ite | dsimp only

theorem State.lgEvt_kept {z s : State} (g : Nat) (i : Nat) (hs : Kept z s) : Kept z (State.lgEvt s g i) := by
  unfold State.lgEvt
  repeat' first
    | with_reducible assumption | intro _ | with_reducible apply State.raise_kept | dsimp only

theorem State.setMapEnt_kept {z s : State} (x : Nat) (e : Nat) (m : MapEnt) (hs : Kept z s) :
    Kept z (State.setMapEnt s x e m) := by
  unfold State.setMapEnt
  repeat' first
    | with_reducible assumption | intro _ | simp only [Kept.mk_iff] | with_reducible apply Kept.parts | split
    | dsimp only

theorem State.hdEvt_kept {z s : State} (x : Nat) (i : Nat) (hs : Kept z s) : Kept z (State.hdEvt s x i) := by
  unfold State.hdEvt
  repeat' first
    | with_reducible assumption | intro _ | with_reducible apply State.raise_kept | dsimp only

theorem State.poolLow_kept {z s : State} (x : Nat) (hs : Kept z s) : Kept z (State.poolLow s x) := by
  unfold State.poolLow
  repeat' first
    | with_reducible assumption | intro _ | with_reducible apply State.hdEvt_kept | with_reducible apply Kept.ite
    | dsimp only

theorem State.poolRegs_kept {z s : State} (x : Nat) (hs : Kept z s) : Kept z (State.poolRegs s x) := by
  unfold State.poolRegs
  repeat' first
    | with_reducible assumption | intro _ | with_reducible apply State.put_kept
    | with_reducible apply State.poolLow_kept | split | dsimp only

theorem State.freeGrain_kept {z s : State} (x : Nat) (g : Nat) (hs : Kept z s) : Kept z (State.freeGrain s x g) := by
  unfold State.freeGrain
  repeat' first
    | with_reducible assumption | intro _ | simp only [Kept.mk_iff] | with_reducible apply Kept.parts
    | with_reducible apply Kept.ite | split | dsimp only

theorem State.compose_kept {z s : State} (x : Nat) (hs : Kept z s) : Kept z (State.compose s x) := by
  unfold State.compose
  repeat' first
    | with_reducible assumption | intro _ | simp only [Kept.mk_iff] | with_reducible apply Kept.parts | split
    | dsimp only

theorem State.composeTo_kept {z s : State} (x : Nat) (n : Nat) (hs : Kept z s) : Kept z (State.composeTo s x n) := by
  unfold State.composeTo
  repeat' first
    | with_reducible assumption | intro _ | with_reducible apply State.each_kept
    | with_reducible apply State.compose_kept | split | dsimp only

theorem State.composeDue_kept {z s : State} (x : Nat) (hs : Kept z s) : Kept z (State.composeDue s x) := by
  unfold State.composeDue
  repeat' first
    | with_reducible assumption | intro _ | with_reducible apply State.composeTo_kept | with_reducible apply Kept.ite
    | dsimp only

theorem State.newFrame_kept {z s : State} (x : Nat) (hs : Kept z s) : Kept z (State.newFrame s x) := by
  unfold State.newFrame
  repeat' first
    | with_reducible assumption | intro _ | with_reducible apply State.composeTo_kept | simp only [Kept.mk_iff]
    | with_reducible apply Kept.parts | split | dsimp only

theorem State.playaInit_kept {z s : State} (x : Nat) (hs : Kept z s) : Kept z (State.playaInit s x) := by
  unfold State.playaInit
  repeat' first
    | with_reducible assumption | intro _ | with_reducible apply State.poolRegs_kept | simp only [Kept.mk_iff]
    | with_reducible apply Kept.parts | split | dsimp only

theorem State.quitMsgs_kept {z s : State} (p : GrainMsg → Bool) (hs : Kept z s) : Kept z (State.quitMsgs s p) := by
  unfold State.quitMsgs
  repeat' first
    | with_reducible assumption | intro _ | with_reducible apply State.freeGrain_kept | simp only [Kept.mk_iff]
    | with_reducible apply Kept.parts | with_reducible apply Kept.foldl | dsimp only

theorem State.setGrainMsg_kept {z s : State} (h : Nat) (n : Nat) (m : Option GrainMsg) (hs : Kept z s) :
    Kept z (State.setGrainMsg s h n m) := by
  unfold State.setGrainMsg
  repeat' first
    | with_reducible assumption | intro _ | simp only [Kept.mk_iff] | with_reducible apply Kept.parts | split
    | dsimp only

theorem State.grainDiscard_kept {z s : State} (h : Nat) (n : Nat) (m : GrainMsg) (cause : Nat) (last : Bool) (hs :
    Kept z s) : Kept z (State.grainDiscard s h n m cause last) := by
  unfold State.grainDiscard
  repeat' first
    | with_reducible assumption | intro _ | with_reducible apply State.bump_kept
    | with_reducible apply State.put_kept | with_reducible apply State.freeGrain_kept
    | with_reducible apply State.hdEvt_kept | with_reducible apply State.poolRegs_kept
    | with_reducible apply State.setGrainMsg_kept | with_reducible apply Kept.ite | dsimp only

theorem State.grainLost_kept {z s : State} (h : Nat) (n : Nat) (last : Bool) (hs : Kept z s) :
    Kept z (State.grainLost s h n last) := by
  unfold State.grainLost
  repeat' first
    | with_reducible assumption | intro _ | with_reducible apply State.setGrainMsg_kept
    | with_reducible apply State.grainDiscard_kept | with_reducible apply Kept.ite | split | dsimp only

theorem State.hdEndCommit_kept {z s : State} (x : Nat) (result : Nat) (hs : Kept z s) :
    Kept z (State.hdEndCommit s x result) := by
  unfold State.hdEndCommit
  repeat' first
    | with_reducible assumption | intro _ | with_reducible apply State.put_kept
    | with_reducible apply State.hdEvt_kept | simp only [Kept.mk_iff] | with_reducible apply Kept.parts
    | with_reducible apply Kept.ite | split | dsimp only

theorem State.hdApply_kept {z s : State} (x : Nat) (hs : Kept z s) : Kept z (State.hdApply s x) := by
  unfold State.hdApply
  repeat' first
    | with_reducible assumption | intro _ | with_reducible apply State.setMapEnt_kept
    | with_reducible apply State.freeGrain_kept | with_reducible apply State.poolRegs_kept
    | with_reducible apply State.put_kept | with_reducible apply State.hdEndCommit_kept | simp only [Kept.mk_iff]
    | with_reducible apply Kept.parts | with_reducible apply Kept.foldl | split | dsimp only

theorem State.hdIdleApply_kept {z s : State} (x : Nat) (hs : Kept z s) : Kept z (State.hdIdleApply s x) := by
  unfold State.hdIdleApply
  repeat' first
    | with_reducible assumption | intro _ | with_reducible apply State.hdApply_kept | with_reducible apply Kept.ite
    | dsimp only

theorem State.grainComplete_kept {z s : State} (h : Nat) (n : Nat) (m : GrainMsg) (hs : Kept z s) :
    Kept z (State.grainComplete s h n m) := by
  unfold State.grainComplete
  repeat' first
    | with_reducible assumption | intro _ | with_reducible apply State.freeGrain_kept
    | with_reducible apply State.setMapEnt_kept | with_reducible apply State.put_kept
    | with_reducible apply State.hdIdleApply_kept | with_reducible apply State.poolRegs_kept
    | with_reducible apply State.setGrainMsg_kept | with_reducible apply Kept.ite | dsimp only

theorem State.grainPut_kept {z s : State} (h : Nat) (n : Nat) (m : GrainMsg) (p : Packet) (hs : Kept z s) :
    Kept z (State.grainPut s h n m p) := by
  unfold State.grainPut
  repeat' first
    | with_reducible assumption | intro _ | with_reducible apply Kept.parts_pixels
    | with_reducible apply State.grainDiscard_kept | with_reducible apply State.grainComplete_kept
    | with_reducible apply State.setGrainMsg_kept | simp only [Kept.mk_iff] | with_reducible apply Kept.parts
    | with_reducible apply Kept.ite | split | dsimp only

theorem State.grainPacket_kept {z s : State} (h : Nat) (n : Nat) (p : Packet) (hs : Kept z s) :
    Kept z (State.grainPacket s h n p) := by
  unfold State.grainPacket
  repeat' first
    | with_reducible assumption | intro _ | with_reducible apply Kept.parts_tags
    | with_reducible apply State.setGrainMsg_kept | with_reducible apply State.grainPut_kept
    | with_reducible apply State.grainDiscard_kept | with_reducible apply State.poolRegs_kept
    | simp only [Kept.mk_iff] | with_reducible apply Kept.parts | with_reducible apply Kept.ite | split | dsimp only

theorem execGrainPiece_kept {z s : State} (h : Hp) (pkt : Packet) (hs : Kept z s) :
    KeptBy z (execGrainPiece h pkt s) := by
  unfold execGrainPiece
  repeat' first
    | with_reducible apply KeptBy.next | with_reducible apply KeptBy.ite | with_reducible assumption | intro _
    | with_reducible apply State.enqueue_kept | with_reducible apply State.grainPacket_kept
    | with_reducible apply Kept.ite | split | dsimp only

theorem State.grainQuit_kept {z s : State} (h : Nat) (n : Nat) (x : Nat) (hs : Kept z s) :
    Kept z (State.grainQuit s h n x) := by
  unfold State.grainQuit
  repeat' first
    | with_reducible assumption | intro _ | with_reducible apply State.poolRegs_kept
    | with_reducible apply State.setGrainMsg_kept | with_reducible apply State.freeGrain_kept
    | with_reducible apply State.keepItems_kept | with_reducible apply State.freeUnits_kept
    | with_reducible apply State.raise_kept | with_reducible apply State.bump_kept | with_reducible apply Kept.ite
    | split | dsimp only

theorem State.headOwnerChanged_kept {z s : State} (x : Nat) (old : Nat) (hs : Kept z s) :
    Kept z (State.headOwnerChanged s x old) := by
  unfold State.headOwnerChanged
  repeat' first
    | with_reducible assumption | intro _ | with_reducible apply State.each_kept
    | with_reducible apply State.grainQuit_kept | with_reducible apply State.poolRegs_kept
    | with_reducible apply State.setMapEnt_kept | with_reducible apply State.freeGrain_kept
    | with_reducible apply Kept.ite | with_reducible apply Kept.foldl | split | dsimp only

theorem State.grainTick_kept {z s : State} (hs : Kept z s) : Kept z (State.grainTick s) := by
  unfold State.grainTick
  repeat' first
    | with_reducible assumption | intro _ | simp only [Kept.mk_iff] | with_reducible apply Kept.parts | dsimp only

theorem State.hdSetCommit_kept {z s : State} (x : Nat) (hs : Kept z s) : Kept z (State.hdSetCommit s x) := by
  unfold State.hdSetCommit
  repeat' first
    | with_reducible assumption | intro _ | with_reducible apply State.put_kept | simp only [Kept.mk_iff]
    | with_reducible apply Kept.parts | with_reducible apply Kept.ite | split | dsimp only

theorem execCoverageCheckDone_kept {z s : State} (x : Fin 2) (hs : Kept z s) :
    KeptBy z (execCoverageCheckDone x s) := by
  unfold execCoverageCheckDone
  repeat' first
    | with_reducible apply KeptBy.next | with_reducible apply KeptBy.ite | with_reducible assumption | intro _
    | with_reducible apply State.hdEndCommit_kept | with_reducible apply State.put_kept
    | with_reducible apply State.hdIdleApply_kept | with_reducible apply Kept.ite | dsimp only

theorem State.hdCancel_kept {z s : State} (x : Nat) (hs : Kept z s) : Kept z (State.hdCancel s x) := by
  unfold State.hdCancel
  repeat' first
    | with_reducible assumption | intro _ | with_reducible apply State.hdEndCommit_kept
    | with_reducible apply Kept.ite | split | dsimp only

theorem execCommitPoint_kept {z s : State} (x : Fin 2) (hs : Kept z s) : KeptBy z (execCommitPoint x s) := by
  unfold execCommitPoint
  repeat' first
    | with_reducible apply KeptBy.next | with_reducible apply KeptBy.ite | with_reducible assumption | intro _
    | with_reducible apply State.hdEndCommit_kept | simp only [Kept.mk_iff] | with_reducible apply Kept.parts
    | with_reducible apply Kept.ite | split | dsimp only

theorem State.glState_kept {z s : State} (x : Nat) (st : Nat) (hs : Kept z s) : Kept z (State.glState s x st) := by
  unfold State.glState
  repeat' first
    | with_reducible assumption | intro _ | with_reducible apply State.raise_kept
    | with_reducible apply State.put_kept | with_reducible apply Kept.ite | dsimp only

theorem State.genlock_kept {z s : State} (x : Nat) (hs : Kept z s) : Kept z (State.genlock s x) := by
  unfold State.genlock
  repeat' first
    | with_reducible assumption | intro _ | with_reducible apply State.glState_kept
    | with_reducible apply State.put_kept | simp only [Kept.mk_iff] | with_reducible apply Kept.parts
    | with_reducible apply Kept.ite | split | dsimp only

theorem State.grainError_kept {z s : State} (block : Option (BitVec 21)) (hs : Kept z s) :
    Kept z (State.grainError s block) := by
  unfold State.grainError
  repeat' first
    | with_reducible assumption | intro _ | with_reducible apply State.composeDue_kept
    | with_reducible apply State.bump_kept | simp only [Kept.mk_iff] | with_reducible apply Kept.parts | split
    | dsimp only

theorem State.auxPut_kept {z s : State} (x : Nat) (addr : Nat) (bs : List Nat) (hs : Kept z s) :
    Kept z (State.auxPut s x addr bs) := by
  unfold State.auxPut
  repeat' first
    | with_reducible assumption | intro _ | with_reducible apply State.emit_kept | dsimp only

theorem State.auxWrite_kept {z s : State} (x : Nat) (addr : Nat) (bs : List Nat) (hs : Kept z s) :
    Kept z (State.auxWrite s x addr bs) := by
  unfold State.auxWrite
  repeat' first
    | with_reducible assumption | intro _ | with_reducible apply State.auxPut_kept | simp only [Kept.mk_iff]
    | with_reducible apply Kept.parts | with_reducible apply Kept.ite | split | dsimp only

theorem State.auxFlush_kept {z s : State} (x : Nat) (hs : Kept z s) : Kept z (State.auxFlush s x) := by
  unfold State.auxFlush
  repeat' first
    | with_reducible assumption | intro _ | with_reducible apply State.auxPut_kept | simp only [Kept.mk_iff]
    | with_reducible apply Kept.parts | with_reducible apply Kept.foldl | split | dsimp only

theorem State.dpLanes_kept {z s : State} (x : Nat) (st : Nat) (hs : Kept z s) : Kept z (State.dpLanes s x st) := by
  unfold State.dpLanes
  repeat' first
    | with_reducible assumption | intro _ | with_reducible apply State.flexLanes_kept | with_reducible apply Kept.ite
    | split | dsimp only

theorem State.dpIdle_kept {z s : State} (x : Nat) (st : Nat) (hs : Kept z s) : Kept z (State.dpIdle s x st) := by
  unfold State.dpIdle
  repeat' first
    | with_reducible assumption | intro _ | with_reducible apply State.dpLanes_kept
    | with_reducible apply State.hdEvt_kept | with_reducible apply State.put_kept | simp only [Kept.mk_iff]
    | with_reducible apply Kept.parts | with_reducible apply Kept.ite | split | dsimp only

theorem State.dpLevels_kept {z s : State} (x : Nat) (swing : Nat → Nat) (pre : Nat → Nat) (hs : Kept z s) :
    Kept z (State.dpLevels s x swing pre) := by
  unfold State.dpLevels
  repeat' first
    | with_reducible assumption | intro _ | with_reducible apply State.put_kept
    | with_reducible apply State.each_kept | with_reducible apply State.auxWrite_kept | split | dsimp only

theorem State.dpTrain_kept {z s : State} (x : Nat) (i : Nat) (hs : Kept z s) : Kept z (State.dpTrain s x i) := by
  unfold State.dpTrain
  repeat' first
    | with_reducible assumption | intro _ | with_reducible apply State.hdEvt_kept
    | with_reducible apply State.dpIdle_kept | with_reducible apply State.dpLanes_kept
    | with_reducible apply State.put_kept | with_reducible apply State.auxWrite_kept
    | with_reducible apply State.dpLevels_kept | simp only [Kept.mk_iff] | with_reducible apply Kept.parts | split
    | dsimp only

theorem State.dpCaps_kept {z s : State} (x : Nat) (dpcd : List Byte) (hs : Kept z s) :
    Kept z (State.dpCaps s x dpcd) := by
  unfold State.dpCaps
  repeat' first
    | with_reducible assumption | intro _ | with_reducible apply State.emit_kept
    | with_reducible apply State.auxWrite_kept | with_reducible apply State.dpTrain_kept
    | with_reducible apply State.put_kept | simp only [Kept.mk_iff] | with_reducible apply Kept.parts | split
    | dsimp only

theorem State.headStart_kept {z s : State} (x : Nat) (hs : Kept z s) : Kept z (State.headStart s x) := by
  unfold State.headStart
  repeat' first
    | with_reducible assumption | intro _ | with_reducible apply State.put_kept
    | with_reducible apply State.newFrame_kept | with_reducible apply State.hdEvt_kept | simp only [Kept.mk_iff]
    | with_reducible apply Kept.parts | with_reducible apply Kept.ite | split | dsimp only

theorem State.headHalt_kept {z s : State} (x : Nat) (hs : Kept z s) : Kept z (State.headHalt s x) := by
  unfold State.headHalt
  repeat' first
    | with_reducible assumption | intro _ | with_reducible apply State.composeDue_kept
    | with_reducible apply State.put_kept | with_reducible apply State.hdIdleApply_kept | simp only [Kept.mk_iff]
    | with_reducible apply Kept.parts | split | dsimp only

theorem State.headStop_kept {z s : State} (x : Nat) (hs : Kept z s) : Kept z (State.headStop s x) := by
  unfold State.headStop
  repeat' first
    | with_reducible assumption | intro _ | with_reducible apply State.headHalt_kept
    | with_reducible apply State.put_kept | with_reducible apply State.auxWrite_kept
    | with_reducible apply State.dpIdle_kept | with_reducible apply Kept.ite | dsimp only

theorem execHpdHigh_kept {z s : State} (x : Fin 2) (dpcd : List Byte) (hs : Kept z s) :
    KeptBy z (execHpdHigh x dpcd s) := by
  unfold execHpdHigh
  repeat' first
    | with_reducible apply KeptBy.next | with_reducible apply KeptBy.ite | with_reducible assumption | intro _
    | with_reducible apply State.hdEvt_kept | with_reducible apply State.put_kept
    | with_reducible apply State.dpCaps_kept | with_reducible apply State.flexForget_kept
    | with_reducible apply Kept.ite | split | dsimp only

theorem execHpdLow_kept {z s : State} (x : Fin 2) (hs : Kept z s) : KeptBy z (execHpdLow x s) := by
  unfold execHpdLow
  repeat' first
    | with_reducible apply KeptBy.next | with_reducible apply KeptBy.ite | with_reducible assumption | intro _
    | with_reducible apply State.hdEvt_kept | with_reducible apply State.put_kept
    | with_reducible apply State.dpIdle_kept | with_reducible apply Kept.ite | dsimp only

theorem execIrqHpd_kept {z s : State} (x : Fin 2) (lost : Bool) (hs : Kept z s) : KeptBy z (execIrqHpd x lost s) := by
  unfold execIrqHpd
  repeat' first
    | with_reducible apply KeptBy.next | with_reducible apply KeptBy.ite | with_reducible assumption | intro _
    | with_reducible apply State.hdEvt_kept | with_reducible apply State.dpTrain_kept | with_reducible apply Kept.ite
    | split | dsimp only

theorem execCrWait_kept {z s : State} (x : Fin 2) (done : Bool) (adjust : BitVec 16) (hs : Kept z s) :
    KeptBy z (execCrWait x done adjust s) := by
  unfold execCrWait
  repeat' first
    | with_reducible apply KeptBy.next | with_reducible apply KeptBy.ite | with_reducible assumption | intro _
    | with_reducible apply State.put_kept | with_reducible apply State.auxWrite_kept
    | with_reducible apply State.dpTrain_kept | with_reducible apply State.dpLevels_kept | simp only [Kept.mk_iff]
    | with_reducible apply Kept.parts | with_reducible apply Kept.ite | split | dsimp only

theorem execEqWait_kept {z s : State} (x : Fin 2) (crOk : Bool) (eqOk : Bool) (hs : Kept z s) :
    KeptBy z (execEqWait x crOk eqOk s) := by
  unfold execEqWait
  repeat' first
    | with_reducible apply KeptBy.next | with_reducible apply KeptBy.ite | with_reducible assumption | intro _
    | with_reducible apply State.auxWrite_kept | with_reducible apply State.dpLanes_kept
    | with_reducible apply State.put_kept | with_reducible apply State.hdEvt_kept
    | with_reducible apply State.dpTrain_kept | simp only [Kept.mk_iff] | with_reducible apply Kept.parts
    | with_reducible apply Kept.ite | split | dsimp only

theorem State.mainStream_kept {z s : State} (x : Nat) (hs : Kept z s) : Kept z (State.mainStream s x) := by
  unfold State.mainStream
  repeat' first
    | with_reducible assumption | intro _ | with_reducible apply State.emit_kept | with_reducible apply Kept.ite
    | dsimp only

theorem execVerticalBlanking_kept {z s : State} (x : Fin 2) (hs : Kept z s) : KeptBy z (execVerticalBlanking x s) := by
  unfold execVerticalBlanking
  repeat' first
    | with_reducible apply KeptBy.next | with_reducible apply KeptBy.ite | with_reducible assumption | intro _
    | with_reducible apply State.bump_kept | with_reducible apply State.composeTo_kept
    | with_reducible apply State.hdEvt_kept | with_reducible apply State.newFrame_kept
    | with_reducible apply State.hdApply_kept | with_reducible apply State.genlock_kept
    | with_reducible apply State.mainStream_kept | simp only [Kept.mk_iff] | with_reducible apply Kept.parts
    | with_reducible apply Kept.ite | split | dsimp only

theorem State.dpRetrain_kept {z s : State} (x : Nat) (hs : Kept z s) : Kept z (State.dpRetrain s x) := by
  unfold State.dpRetrain
  repeat' first
    | with_reducible assumption | intro _ | with_reducible apply State.dpIdle_kept | with_reducible apply Kept.ite
    | dsimp only

theorem State.dpLaneFailed_kept {z s : State} (x : Nat) (hs : Kept z s) : Kept z (State.dpLaneFailed s x) := by
  unfold State.dpLaneFailed
  repeat' first
    | with_reducible assumption | intro _ | with_reducible apply State.dpTrain_kept
    | with_reducible apply State.hdEvt_kept | with_reducible apply Kept.ite | dsimp only

theorem State.auxSend_kept {z s : State} (x : Nat) (r : AuxReq) (hs : Kept z s) : Kept z (State.auxSend s x r) := by
  unfold State.auxSend
  repeat' first
    | with_reducible assumption | intro _ | with_reducible apply State.emit_kept | with_reducible apply Kept.ite
    | dsimp only

theorem State.auxStart_kept {z s : State} (x : Nat) (hs : Kept z s) : Kept z (State.auxStart s x) := by
  unfold State.auxStart
  repeat' first
    | with_reducible assumption | intro _ | with_reducible apply State.put_kept
    | with_reducible apply State.auxSend_kept | simp only [Kept.mk_iff] | with_reducible apply Kept.parts
    | with_reducible apply Kept.ite | split | dsimp only

theorem State.auxEnd_kept {z s : State} (x : Nat) (result : Nat) (data : List Byte) (hs : Kept z s) :
    Kept z (State.auxEnd s x result data) := by
  unfold State.auxEnd
  repeat' first
    | with_reducible assumption | intro _ | with_reducible apply State.put_kept
    | with_reducible apply State.auxFlush_kept | with_reducible apply State.each_kept | simp only [Kept.mk_iff]
    | with_reducible apply Kept.parts | with_reducible apply Kept.ite | split | dsimp only

theorem execAuxReply_kept {z s : State} (x : Fin 2) (kind : Fin 6) (data : List Byte) (hs : Kept z s) :
    KeptBy z (execAuxReply x kind data s) := by
  unfold execAuxReply
  repeat' first
    | with_reducible apply KeptBy.next | with_reducible apply KeptBy.ite | with_reducible assumption | intro _
    | with_reducible apply State.auxSend_kept | with_reducible apply State.auxEnd_kept | simp only [Kept.mk_iff]
    | with_reducible apply Kept.parts | with_reducible apply Kept.ite | split | dsimp only

theorem State.modPc_kept {z s : State} (p : Nat) (f : PcPort → PcPort) (hs : Kept z s) :
    Kept z (State.modPc s p f) := by
  unfold State.modPc
  repeat' first
    | with_reducible assumption | intro _ | simp only [Kept.mk_iff] | with_reducible apply Kept.parts | split
    | dsimp only

theorem State.cfgPut_kept {z s : State} (p : Nat) (i : Nat) (v : Nat) (hs : Kept z s) :
    Kept z (State.cfgPut s p i v) := by
  unfold State.cfgPut
  repeat' first
    | with_reducible assumption | intro _ | with_reducible apply State.modPc_kept | dsimp only

theorem State.cfgSet_kept {z s : State} (p : Nat) (i : Nat) (m : Nat) (hs : Kept z s) :
    Kept z (State.cfgSet s p i m) := by
  unfold State.cfgSet
  repeat' first
    | with_reducible assumption | intro _ | with_reducible apply State.cfgPut_kept | dsimp only

theorem State.pxUp_kept {z s : State} (p : Nat) (cls : Nat) (t : List Byte) (hs : Kept z s) :
    Kept z (State.pxUp s p cls t) := by
  unfold State.pxUp
  repeat' first
    | with_reducible assumption | intro _ | with_reducible apply State.queueUp_kept
    | with_reducible apply State.bump_kept | with_reducible apply Kept.ite | split | dsimp only

theorem State.pxSelf_kept {z s : State} (p : Nat) (cls : Nat) (t : List Byte) (hs : Kept z s) :
    Kept z (State.pxSelf s p cls t) := by
  unfold State.pxSelf
  repeat' first
    | with_reducible assumption | intro _ | with_reducible apply State.pxUp_kept | with_reducible apply Kept.ite
    | dsimp only

theorem State.pxMsi_kept {z s : State} (p : Nat) (hs : Kept z s) : Kept z (State.pxMsi s p) := by
  unfold State.pxMsi
  repeat' first
    | with_reducible assumption | intro _ | with_reducible apply State.cfgSet_kept
    | with_reducible apply State.pxSelf_kept | with_reducible apply Kept.ite | dsimp only

theorem State.pxErrMsg_kept {z s : State} (p : Nat) (code : Nat) (hs : Kept z s) :
    Kept z (State.pxErrMsg s p code) := by
  unfold State.pxErrMsg
  repeat' first
    | with_reducible assumption | intro _ | with_reducible apply State.pxSelf_kept | dsimp only

theorem State.pxNotify_kept {z s : State} (p : Nat) (hs : Kept z s) : Kept z (State.pxNotify s p) := by
  unfold State.pxNotify
  repeat' first
    | with_reducible assumption | intro _ | with_reducible apply State.pxMsi_kept
    | with_reducible apply State.pxErrMsg_kept | with_reducible apply State.cfgSet_kept
    | with_reducible apply Kept.ite | dsimp only

theorem State.pxEvt_kept {z s : State} (p : Nat) (i : Nat) (hs : Kept z s) : Kept z (State.pxEvt s p i) := by
  unfold State.pxEvt
  repeat' first
    | with_reducible assumption | intro _ | with_reducible apply State.raise_kept | dsimp only

theorem State.pxContainRegs_kept {z s : State} (p : Nat) (hs : Kept z s) : Kept z (State.pxContainRegs s p) := by
  unfold State.pxContainRegs
  repeat' first
    | with_reducible assumption | intro _ | with_reducible apply State.put_kept | dsimp only

theorem State.pxLanes_kept {z s : State} (p : Nat) (n : Nat) (st : Nat) (rate : Nat) (hs : Kept z s) :
    Kept z (State.pxLanes s p n st rate) := by
  unfold State.pxLanes
  repeat' first
    | with_reducible assumption | intro _ | with_reducible apply State.flexLanes_kept | split | dsimp only

theorem State.pxDlDown_kept {z s : State} (p : Nat) (hs : Kept z s) : Kept z (State.pxDlDown s p) := by
  unfold State.pxDlDown
  repeat' first
    | with_reducible assumption | intro _ | with_reducible apply State.put_kept
    | with_reducible apply State.bump_kept | with_reducible apply State.pxEvt_kept
    | with_reducible apply State.pxLanes_kept | with_reducible apply State.cfgSet_kept
    | with_reducible apply State.pxNotify_kept | with_reducible apply Kept.ite | dsimp only

theorem State.pxPerst_kept {z s : State} (p : Nat) (hs : Kept z s) : Kept z (State.pxPerst s p) := by
  unfold State.pxPerst
  repeat' first
    | with_reducible assumption | intro _ | with_reducible apply State.pxDlDown_kept
    | with_reducible apply State.put_kept | with_reducible apply Kept.ite | dsimp only

theorem State.pxContain_kept {z s : State} (p : Nat) (cause : Nat) (hs : Kept z s) :
    Kept z (State.pxContain s p cause) := by
  unfold State.pxContain
  repeat' first
    | with_reducible assumption | intro _ | with_reducible apply State.modPc_kept
    | with_reducible apply State.put_kept | with_reducible apply State.pxEvt_kept
    | with_reducible apply State.pxContainRegs_kept | with_reducible apply Kept.ite | dsimp only

theorem State.pxRelease_kept {z s : State} (p : Nat) (ends : Nat → Bool) (hs : Kept z s) :
    Kept z (State.pxRelease s p ends) := by
  unfold State.pxRelease
  repeat' first
    | with_reducible assumption | intro _ | with_reducible apply State.modPc_kept
    | with_reducible apply State.put_kept | with_reducible apply State.pxContainRegs_kept
    | with_reducible apply Kept.ite | dsimp only

theorem State.pxResetMade_kept {z s : State} (p : Nat) (hs : Kept z s) : Kept z (State.pxResetMade s p) := by
  unfold State.pxResetMade
  repeat' first
    | with_reducible assumption | intro _ | with_reducible apply State.modPc_kept | dsimp only

theorem State.pxFresh_kept {z s : State} (p : Nat) (hs : Kept z s) : Kept z (State.pxFresh s p) := by
  unfold State.pxFresh
  repeat' first
    | with_reducible assumption | intro _ | with_reducible apply State.flexForget_kept
    | with_reducible apply Kept.ite | split | dsimp only

theorem State.pxDlUp_kept {z s : State} (p : Nat) (speed : Nat) (width : Nat) (hs : Kept z s) :
    Kept z (State.pxDlUp s p speed width) := by
  unfold State.pxDlUp
  repeat' first
    | with_reducible assumption | intro _ | with_reducible apply State.pxFresh_kept
    | with_reducible apply State.put_kept | with_reducible apply State.pxLanes_kept
    | with_reducible apply State.cfgSet_kept | with_reducible apply State.pxEvt_kept
    | with_reducible apply State.pxNotify_kept | with_reducible apply State.pxRelease_kept
    | with_reducible apply State.modPc_kept | with_reducible apply Kept.ite | dsimp only

theorem State.pxDpc_kept {z s : State} (p : Nat) (reason : Nat) (source : Nat) (hs : Kept z s) :
    Kept z (State.pxDpc s p reason source) := by
  unfold State.pxDpc
  repeat' first
    | with_reducible assumption | intro _ | with_reducible apply State.cfgPut_kept
    | with_reducible apply State.pxContain_kept | with_reducible apply State.pxDlDown_kept
    | with_reducible apply State.pxMsi_kept | with_reducible apply State.cfgSet_kept | with_reducible apply Kept.ite
    | dsimp only

theorem State.pxError_kept {z s : State} (p : Nat) (bit : Nat) (t : List Byte) (hs : Kept z s) :
    Kept z (State.pxError s p bit t) := by
  unfold State.pxError
  repeat' first
    | with_reducible assumption | intro _ | with_reducible apply State.cfgSet_kept
    | with_reducible apply State.each_kept | with_reducible apply State.cfgPut_kept
    | with_reducible apply State.pxEvt_kept | with_reducible apply State.pxDpc_kept
    | with_reducible apply State.pxErrMsg_kept | with_reducible apply Kept.ite | dsimp only

theorem State.pxMalformed_kept {z s : State} (p : Nat) (t : List Byte) (hs : Kept z s) :
    Kept z (State.pxMalformed s p t) := by
  unfold State.pxMalformed
  repeat' first
    | with_reducible assumption | intro _ | with_reducible apply State.pxError_kept
    | with_reducible apply State.bump_kept | dsimp only

theorem State.pxAnswer_kept {z s : State} (p : Nat) (status : Nat) (t : List Byte) (hs : Kept z s) :
    Kept z (State.pxAnswer s p status t) := by
  unfold State.pxAnswer
  repeat' first
    | with_reducible assumption | intro _ | with_reducible apply State.pxSelf_kept | dsimp only

theorem State.pxRefuse_kept {z s : State} (p : Nat) (status : Nat) (t : List Byte) (hs : Kept z s) :
    Kept z (State.pxRefuse s p status t) := by
  unfold State.pxRefuse
  repeat' first
    | with_reducible assumption | intro _ | with_reducible apply State.pxAnswer_kept
    | with_reducible apply State.bump_kept | with_reducible apply Kept.ite | dsimp only

theorem State.cfgWrite_kept {z s : State} (p : Nat) (i : Nat) (be : Nat) (v : Nat) (hs : Kept z s) :
    Kept z (State.cfgWrite s p i be v) := by
  unfold State.cfgWrite
  repeat' first
    | with_reducible assumption | intro _ | with_reducible apply State.cfgPut_kept
    | with_reducible apply State.pxMsi_kept | with_reducible apply State.put_kept
    | with_reducible apply State.pxDlDown_kept | with_reducible apply State.modPc_kept
    | with_reducible apply State.pxResetMade_kept | with_reducible apply State.pxRelease_kept
    | with_reducible apply Kept.ite | dsimp only

theorem State.cfgAccess_kept {z s : State} (p : Nat) (t : List Byte) (hs : Kept z s) :
    Kept z (State.cfgAccess s p t) := by
  unfold State.cfgAccess
  repeat' first
    | with_reducible assumption | intro _ | with_reducible apply State.put_kept
    | with_reducible apply State.modPc_kept | with_reducible apply State.cfgWrite_kept
    | with_reducible apply State.pxSelf_kept | with_reducible apply Kept.ite | dsimp only

theorem State.pxToDrive_kept {z s : State} (p : Nat) (t : List Byte) (hs : Kept z s) :
    Kept z (State.pxToDrive s p t) := by
  unfold State.pxToDrive
  repeat' first
    | with_reducible assumption | intro _ | with_reducible apply State.emit_kept
    | with_reducible apply State.pxAnswer_kept | with_reducible apply Kept.ite | dsimp only

theorem State.pxRequest_kept {z s : State} (p : Nat) (t : List Byte) (hs : Kept z s) :
    Kept z (State.pxRequest s p t) := by
  unfold State.pxRequest
  repeat' first
    | with_reducible assumption | intro _ | with_reducible apply State.pxRefuse_kept
    | with_reducible apply State.pxToDrive_kept | with_reducible apply Kept.ite | dsimp only

theorem State.cfgRefuse_kept {z s : State} (p : Nat) (t : List Byte) (hs : Kept z s) :
    Kept z (State.cfgRefuse s p t) := by
  unfold State.cfgRefuse
  repeat' first
    | with_reducible assumption | intro _ | with_reducible apply State.pxAnswer_kept
    | with_reducible apply State.pxError_kept | dsimp only

theorem State.pxDown_kept {z s : State} (p : Nat) (cls : Nat) (t : List Byte) (hs : Kept z s) :
    Kept z (State.pxDown s p cls t) := by
  unfold State.pxDown
  repeat' first
    | with_reducible assumption | intro _ | with_reducible apply State.pxMalformed_kept
    | with_reducible apply State.pxError_kept | with_reducible apply State.bump_kept
    | with_reducible apply State.cfgAccess_kept | with_reducible apply State.cfgRefuse_kept
    | with_reducible apply State.pxRequest_kept | with_reducible apply State.pxRefuse_kept
    | with_reducible apply Kept.ite | split | dsimp only

theorem State.pxArrive_kept {z s : State} (h : Nat) (p : Nat) (cls : Nat) (t : List Byte) (hs : Kept z s) :
    Kept z (State.pxArrive s h p cls t) := by
  unfold State.pxArrive
  repeat' first
    | with_reducible assumption | intro _ | with_reducible apply State.pxDown_kept
    | with_reducible apply State.logOp_kept | with_reducible apply State.pxRefuse_kept
    | with_reducible apply Kept.ite | dsimp only

theorem execDownstreamTlp_kept {z s : State} (h : Hp) (p : Fin 2) (cls : Fin 3) (tlp : List Byte) (hs : Kept z s) :
    KeptBy z (execDownstreamTlp h p cls tlp s) := by
  unfold execDownstreamTlp
  repeat' first
    | with_reducible apply KeptBy.next | with_reducible apply KeptBy.ite | with_reducible assumption | intro _
    | with_reducible apply State.pxArrive_kept | with_reducible apply Kept.ite | dsimp only

theorem State.errPassed_kept {z s : State} (p : Nat) (hs : Kept z s) : Kept z (State.errPassed s p) := by
  unfold State.errPassed
  repeat' first
    | with_reducible assumption | intro _ | with_reducible apply State.cfgSet_kept | with_reducible apply Kept.ite
    | dsimp only

theorem execUpstreamTlp_kept {z s : State} (p : Fin 2) (tlp : List Byte) (hs : Kept z s) :
    KeptBy z (execUpstreamTlp p tlp s) := by
  unfold execUpstreamTlp
  repeat' first
    | with_reducible apply KeptBy.next | with_reducible apply KeptBy.ite | with_reducible assumption | intro _
    | with_reducible apply State.bump_kept | with_reducible apply State.pxMalformed_kept
    | with_reducible apply State.pxError_kept | with_reducible apply State.emit_kept
    | with_reducible apply State.errPassed_kept | with_reducible apply State.pxEvt_kept
    | with_reducible apply State.pxDpc_kept | with_reducible apply State.pxUp_kept | with_reducible apply Kept.ite
    | dsimp only

theorem State.pxTakeHeld_kept {z s : State} (h : Nat) (p : Nat) (hs : Kept z s) :
    Kept z (State.pxTakeHeld s h p).2 := by
  unfold State.pxTakeHeld
  repeat' first
    | with_reducible assumption | intro _ | with_reducible refine Kept.foldl_pair _ ?_ _ _ ?_
    | with_reducible apply Kept.pair_ite | with_reducible apply State.keepItems_kept | with_reducible apply Kept.ite
    | with_reducible apply Kept.foldl | with_reducible apply Kept.pair_ite | split | dsimp only

theorem State.pxDrain_kept {z s : State} (h : Nat) (p : Nat) (hs : Kept z s) : Kept z (State.pxDrain s h p) := by
  unfold State.pxDrain
  repeat' first
    | with_reducible assumption | intro _ | with_reducible apply State.pxDown_kept | with_reducible apply Kept.foldl
    | with_reducible apply State.pxTakeHeld_kept | refine Kept.of_pair (by with_reducible assumption) ?_ | split
    | dsimp only

theorem State.pxSweep_kept {z s : State} (h : Nat) (p : Nat) (status : Nat) (hs : Kept z s) :
    Kept z (State.pxSweep s h p status) := by
  unfold State.pxSweep
  repeat' first
    | with_reducible assumption | intro _ | with_reducible apply State.pxRefuse_kept
    | with_reducible apply State.logOp_kept | with_reducible apply Kept.ite | with_reducible apply Kept.foldl
    | with_reducible apply State.pxTakeHeld_kept | refine Kept.of_pair (by with_reducible assumption) ?_ | split
    | dsimp only

theorem execSurpriseRemoval_kept {z s : State} (p : Fin 2) (hs : Kept z s) : KeptBy z (execSurpriseRemoval p s) := by
  unfold execSurpriseRemoval
  repeat' first
    | with_reducible apply KeptBy.next | with_reducible apply KeptBy.ite | with_reducible assumption | intro _
    | with_reducible apply State.put_kept | with_reducible apply State.cfgSet_kept
    | with_reducible apply State.pxEvt_kept | with_reducible apply State.pxNotify_kept
    | with_reducible apply State.modPc_kept | with_reducible apply State.pxError_kept
    | with_reducible apply State.pxDlDown_kept | with_reducible apply State.pxSweep_kept
    | with_reducible apply Kept.ite | dsimp only

theorem execDriveInsertion_kept {z s : State} (p : Fin 2) (hs : Kept z s) : KeptBy z (execDriveInsertion p s) := by
  unfold execDriveInsertion
  repeat' first
    | with_reducible apply KeptBy.next | with_reducible apply KeptBy.ite | with_reducible assumption | intro _
    | with_reducible apply State.put_kept | with_reducible apply State.cfgSet_kept
    | with_reducible apply State.pxEvt_kept | with_reducible apply State.pxNotify_kept
    | with_reducible apply State.pxResetMade_kept | with_reducible apply State.modPc_kept
    | with_reducible apply Kept.ite | dsimp only

theorem State.pxEqRequest_kept {z s : State} (p : Nat) (r : PxEq) (hs : Kept z s) :
    Kept z (State.pxEqRequest s p r) := by
  unfold State.pxEqRequest
  repeat' first
    | with_reducible assumption | intro _ | with_reducible apply State.put_kept
    | with_reducible apply State.setTaps_kept | with_reducible apply Kept.ite | split | dsimp only

theorem State.pxEqualise_kept {z s : State} (p : Nat) (speed : Nat) (eq : List PxEq) (hs : Kept z s) :
    Kept z (State.pxEqualise s p speed eq) := by
  unfold State.pxEqualise
  repeat' first
    | with_reducible assumption | intro _ | with_reducible apply State.pxEqRequest_kept
    | with_reducible apply State.emit_kept | with_reducible apply Kept.ite | with_reducible apply Kept.foldl
    | dsimp only

theorem execDriveLinkChange_kept {z s : State} (p : Fin 2) (up : Bool) (speed : Fin 5) (link : DriveIn) (hs : Kept z
    s) : KeptBy z (execDriveLinkChange p up speed link s) := by
  unfold execDriveLinkChange
  repeat' first
    | with_reducible apply KeptBy.next | with_reducible apply KeptBy.ite | with_reducible assumption | intro _
    | with_reducible apply State.bump_kept | with_reducible apply State.pxDlUp_kept
    | with_reducible apply State.pxEqualise_kept | with_reducible apply State.pxDlDown_kept
    | with_reducible apply State.pxSweep_kept | with_reducible apply State.pxError_kept
    | with_reducible apply Kept.ite | dsimp only

theorem execDpcTrigger_kept {z s : State} (p : Fin 2) (fatal : Bool) (source : BitVec 16) (hs : Kept z s) :
    KeptBy z (execDpcTrigger p fatal source s) := by
  unfold execDpcTrigger
  repeat' first
    | with_reducible apply KeptBy.next | with_reducible apply KeptBy.ite | with_reducible assumption | intro _
    | with_reducible apply State.pxDpc_kept | with_reducible apply State.pxEvt_kept | with_reducible apply Kept.ite
    | dsimp only

theorem execPortResetComplete_kept {z s : State} (p : Fin 2) (speed : Fin 5) (width : Fin 5) (hs : Kept z s) :
    KeptBy z (execPortResetComplete p speed width s) := by
  unfold execPortResetComplete
  repeat' first
    | with_reducible apply KeptBy.next | with_reducible apply KeptBy.ite | with_reducible assumption | intro _
    | with_reducible apply State.pxDlUp_kept | with_reducible apply Kept.ite | dsimp only

theorem execResetDeadlineExpiry_kept {z s : State} (p : Fin 2) (hs : Kept z s) :
    KeptBy z (execResetDeadlineExpiry p s) := by
  unfold execResetDeadlineExpiry
  repeat' first
    | with_reducible apply KeptBy.next | with_reducible apply KeptBy.ite | with_reducible assumption | intro _
    | with_reducible apply State.modPc_kept | with_reducible apply State.pxPerst_kept
    | with_reducible apply State.pxEvt_kept | with_reducible apply Kept.ite | dsimp only

theorem execPerstRelease_kept {z s : State} (p : Fin 2) (hs : Kept z s) : KeptBy z (execPerstRelease p s) := by
  unfold execPerstRelease
  repeat' first
    | with_reducible apply KeptBy.next | with_reducible apply KeptBy.ite | with_reducible assumption | intro _
    | with_reducible apply State.put_kept | with_reducible apply Kept.ite | dsimp only

theorem execClkreqChange_kept {z s : State} (p : Fin 2) (high : Bool) (hs : Kept z s) :
    KeptBy z (execClkreqChange p high s) := by
  unfold execClkreqChange
  repeat' first
    | with_reducible apply KeptBy.next | with_reducible apply KeptBy.ite | with_reducible assumption | intro _
    | with_reducible apply State.put_kept | with_reducible apply Kept.ite | dsimp only

theorem State.pxCtrl_kept {z s : State} (p : Nat) (v : Nat) (hs : Kept z s) : Kept z (State.pxCtrl s p v) := by
  unfold State.pxCtrl
  repeat' first
    | with_reducible assumption | intro _ | with_reducible apply State.setReg_kept
    | with_reducible apply State.modPc_kept | with_reducible apply State.pxResetMade_kept
    | with_reducible apply State.put_kept | with_reducible apply State.pxPerst_kept | with_reducible apply Kept.ite
    | dsimp only

theorem State.pxTick_kept {z s : State} (p : Nat) (hs : Kept z s) : Kept z (State.pxTick s p) := by
  unfold State.pxTick
  repeat' first
    | with_reducible assumption | intro _ | with_reducible apply State.put_kept | with_reducible apply Kept.ite
    | dsimp only

theorem State.pxInit_kept {z s : State} (p : Nat) (hs : Kept z s) : Kept z (State.pxInit s p) := by
  unfold State.pxInit
  repeat' first
    | with_reducible assumption | intro _ | with_reducible apply State.modPc_kept
    | with_reducible apply State.put_kept | with_reducible apply State.setReg_kept
    | with_reducible apply State.pxPerst_kept | dsimp only

theorem State.pxLaneFailed_kept {z s : State} (p : Nat) (g : Nat) (hs : Kept z s) :
    Kept z (State.pxLaneFailed s p g) := by
  unfold State.pxLaneFailed
  repeat' first
    | with_reducible assumption | intro _ | with_reducible apply State.pxDlDown_kept
    | with_reducible apply State.put_kept | with_reducible apply State.bump_kept
    | with_reducible apply State.pxLanes_kept | with_reducible apply Kept.ite | dsimp only

theorem State.pxCorrectable_kept {z s : State} (p : Nat) (bit : Nat) (hs : Kept z s) :
    Kept z (State.pxCorrectable s p bit) := by
  unfold State.pxCorrectable
  repeat' first
    | with_reducible assumption | intro _ | with_reducible apply State.cfgSet_kept
    | with_reducible apply State.pxEvt_kept | with_reducible apply State.pxErrMsg_kept
    | with_reducible apply Kept.ite | dsimp only

theorem State.stampReport_kept {z s : State} (h : Nat) (n : Nat) (tsId : Nat) (tc : Nat) (ws : List Word) (hs : Kept z
    s) : Kept z (State.stampReport s h n tsId tc ws) := by
  unfold State.stampReport
  repeat' first
    | with_reducible assumption | intro _ | with_reducible apply State.queueUp_kept | dsimp only

theorem State.stampReply_kept {z s : State} (h : Nat) (n : Nat) (tsId : Nat) (status : Nat) (left : Option (Prod Nat
    Nat)) (hs : Kept z s) : Kept z (State.stampReply s h n tsId status left) := by
  unfold State.stampReply
  repeat' first
    | with_reducible assumption | intro _ | with_reducible apply State.stampReport_kept
    | with_reducible apply State.bump_kept | with_reducible apply State.raise_kept | simp only [Kept.mk_iff]
    | with_reducible apply Kept.parts | with_reducible apply Kept.ite | split | dsimp only

theorem State.stampDropped_kept {z s : State} (stamp : Option (Prod Nat (Prod Nat Nat))) (hs : Kept z s) :
    Kept z (State.stampDropped s stamp) := by
  unfold State.stampDropped
  repeat' first
    | with_reducible assumption | intro _ | with_reducible apply State.stampReply_kept | split | dsimp only

theorem State.stampOpen_kept {z s : State} (h : Nat) (n : Nat) (id : Nat) (ports : Nat) (hs : Kept z s) :
    Kept z (State.stampOpen s h n id ports) := by
  unfold State.stampOpen
  repeat' first
    | with_reducible assumption | intro _ | simp only [Kept.mk_iff] | with_reducible apply Kept.parts | dsimp only

theorem State.stampSettle_kept {z s : State} (w : StampWait) (hs : Kept z s) : Kept z (State.stampSettle s w) := by
  unfold State.stampSettle
  repeat' first
    | with_reducible assumption | intro _ | with_reducible apply State.stampReply_kept | simp only [Kept.mk_iff]
    | with_reducible apply Kept.parts | with_reducible apply Kept.ite | split | dsimp only

theorem State.stampCopy_kept {z s : State} (key : Nat) (p : Nat) (t : Option Nat) (hs : Kept z s) :
    Kept z (State.stampCopy s key p t) := by
  unfold State.stampCopy
  repeat' first
    | with_reducible assumption | intro _ | with_reducible apply State.stampSettle_kept
    | with_reducible apply Kept.ite | split | dsimp only

theorem State.copyLost_kept {z s : State} (p : Nat) (stamp : Option (Prod Nat (Prod Nat Nat))) (hs : Kept z s) :
    Kept z (State.copyLost s p stamp) := by
  unfold State.copyLost
  repeat' first
    | with_reducible assumption | intro _ | with_reducible apply State.stampCopy_kept | split | dsimp only

theorem State.gateOverrun_kept {z s : State} (p : Nat) (hs : Kept z s) : Kept z (State.gateOverrun s p) := by
  unfold State.gateOverrun
  repeat' first
    | with_reducible assumption | intro _ | with_reducible apply State.raise_kept
    | with_reducible apply State.bump_kept | dsimp only

theorem State.gateDrop_kept {z s : State} (p : Nat) (t : Nat) (hs : Kept z s) : Kept z (State.gateDrop s p t) := by
  unfold State.gateDrop
  repeat' first
    | with_reducible assumption | intro _ | with_reducible apply State.gateOverrun_kept
    | with_reducible apply State.setItems_kept | with_reducible apply State.copyLost_kept
    | with_reducible apply Kept.ite | split | dsimp only

theorem State.gateDiscard_kept {z s : State} (p : Nat) (hs : Kept z s) : Kept z (State.gateDiscard s p) := by
  unfold State.gateDiscard
  repeat' first
    | with_reducible assumption | intro _ | with_reducible apply State.each_kept
    | with_reducible apply State.gateDrop_kept | dsimp only

theorem State.fdbPut_kept {z s : State} (l : List FdbEnt) (hs : Kept z s) (hl : l.length ≤ 4096) : Kept z (State.fdbPut s l) := by
  refine State.put_kept _ _ ?_
  have hp := hs.parts
  apply Kept.of_parts
  exact ⟨hp.1, hp.2.1, hp.2.2.1, hp.2.2.2.1, hp.2.2.2.2.1, hp.2.2.2.2.2.1, hp.2.2.2.2.2.2.1, hp.2.2.2.2.2.2.2.1, hl,
    hp.2.2.2.2.2.2.2.2.2⟩

theorem State.fdbLearn_kept {z s : State} (vid mac port : Nat) (hs : Kept z s) : Kept z (State.fdbLearn s vid mac port) := by
  unfold State.fdbLearn
  dsimp only
  have hf := hs.sound.fdb
  split
  · exact hs
  · split
    · exact State.fdbPut_kept _ hs (by rw [List.length_map]; exact hf)
    · split
      · exact State.raise_kept _ _ hs
      · exact State.fdbPut_kept _ hs (by rw [List.length_append]; simp only [List.length_cons, List.length_nil]; omega)

theorem State.ethCopy_kept {z s : State} (src : Nat) (r : Nat) (f : EthFrame) (marked : Bool) (stamp : Option (Prod
    Nat (Prod Nat Nat))) (hs : Kept z s) : Kept z (State.ethCopy s src r f marked stamp) := by
  unfold State.ethCopy
  repeat' first
    | with_reducible assumption | intro _ | with_reducible apply State.bump_kept
    | with_reducible apply State.raise_kept | with_reducible apply State.copyLost_kept
    | with_reducible apply State.enqueue_kept | with_reducible apply State.gateDiscard_kept
    | with_reducible apply Kept.ite | split | dsimp only

theorem State.ethToMember_kept {z s : State} (q : Nat) (r : Nat) (f : EthFrame) (marked : Bool) (at_ : Nat) (hs : Kept
    z s) : Kept z (State.ethToMember s q r f marked at_) := by
  unfold State.ethToMember
  repeat' first
    | with_reducible assumption | intro _ | with_reducible apply State.ethCopy_kept
    | with_reducible apply State.took_kept | with_reducible apply Kept.ite | dsimp only

theorem State.ethForward_kept {z s : State} (q : Nat) (f : EthFrame) (len : Nat) (at_ : Nat) (stamp : Option (Prod Nat
    (Prod Nat Nat))) (hs : Kept z s) : Kept z (State.ethForward s q f len at_ stamp) := by
  unfold State.ethForward
  repeat' first
    | with_reducible assumption | intro _ | with_reducible apply State.bump_kept
    | with_reducible apply State.stampDropped_kept | with_reducible apply State.raise_kept
    | with_reducible apply State.fdbLearn_kept | with_reducible apply State.stampReply_kept
    | with_reducible apply State.stampOpen_kept | with_reducible apply State.each_kept
    | with_reducible apply State.ethCopy_kept | with_reducible apply State.ethToMember_kept
    | with_reducible apply Kept.ite | with_reducible apply State.police_kept
    | refine Kept.of_pair (by with_reducible assumption) ?_ | split | dsimp only

theorem State.ethFromHost_kept {z s : State} (h : Nat) (n : Nat) (tc : Nat) (tsId : Nat) (tsReq : Bool) (bs : List
    Byte) (hs : Kept z s) : Kept z (State.ethFromHost s h n tc tsId tsReq bs) := by
  unfold State.ethFromHost
  repeat' first
    | with_reducible assumption | intro _ | with_reducible apply State.stampDropped_kept
    | with_reducible apply State.bump_kept | with_reducible apply State.ethForward_kept
    | with_reducible apply Kept.ite | split | dsimp only

theorem State.ethOwn_kept {z s : State} (p : Nat) (bs : List Byte) (hs : Kept z s) : Kept z (State.ethOwn s p bs) := by
  unfold State.ethOwn
  repeat' first
    | with_reducible assumption | intro _ | with_reducible apply State.emit_kept | dsimp only

theorem State.gptpTake_kept {z s : State} (p : Nat) (bs : List Byte) (t : Nat) (hs : Kept z s) :
    Kept z (State.gptpTake s p bs t) := by
  unfold State.gptpTake
  repeat' first
    | with_reducible assumption | intro _ | with_reducible apply State.ethOwn_kept
    | with_reducible apply State.took_kept | with_reducible apply Kept.ite | dsimp only

theorem State.ethFromWire_kept {z s : State} (p : Nat) (bs : List Byte) (wire : EthIn) (hs : Kept z s) :
    Kept z (State.ethFromWire s p bs wire) := by
  unfold State.ethFromWire
  repeat' first
    | with_reducible assumption | intro _ | with_reducible apply State.bump_kept
    | with_reducible apply State.gptpTake_kept | with_reducible apply State.ethToMember_kept
    | with_reducible apply State.ethForward_kept | with_reducible apply Kept.ite | split | dsimp only

theorem execEthFrameReceive_kept {z s : State} (q : Fin 8) (frame : List Byte) (wire : EthIn) (tunnel : Fin 64) (tsReq
    : Bool) (tsId : Byte) (tc : Fin 8) (hs : Kept z s) :
    KeptBy z (execEthFrameReceive q frame wire tunnel tsReq tsId tc s) := by
  unfold execEthFrameReceive
  repeat' first
    | with_reducible apply KeptBy.next | with_reducible apply KeptBy.ite | with_reducible assumption | intro _
    | with_reducible apply State.ethFromWire_kept | with_reducible apply State.ethFromHost_kept
    | with_reducible apply Kept.ite | dsimp only

theorem execFdbAgeOut_kept {z s : State} (hs : Kept z s) : KeptBy z (execFdbAgeOut s) := by
  unfold execFdbAgeOut
  repeat' first
    | with_reducible apply KeptBy.next | with_reducible apply KeptBy.ite | with_reducible assumption | intro _
    | exact Nat.le_trans (List.length_filter_le _ _) (State.Sound.fdb (Kept.sound (by with_reducible assumption)))
    | exact Nat.zero_le _ | with_reducible apply State.fdbPut_kept | with_reducible apply Kept.ite | dsimp only

theorem State.fdbFlush_kept {z s : State} (v : Nat) (hs : Kept z s) : Kept z (State.fdbFlush s v) := by
  unfold State.fdbFlush
  repeat' first
    | with_reducible assumption | intro _
    | exact Nat.le_trans (List.length_filter_le _ _) (State.Sound.fdb (Kept.sound (by with_reducible assumption)))
    | exact Nat.zero_le _ | split | with_reducible apply State.fdbPut_kept | with_reducible apply Kept.ite
    | dsimp only

theorem State.ethOwnerChanged_kept {z s : State} (p : Nat) (old : Nat) (new : Nat) (hs : Kept z s) :
    Kept z (State.ethOwnerChanged s p old new) := by
  unfold State.ethOwnerChanged
  repeat' first
    | with_reducible assumption | intro _
    | exact Nat.le_trans (List.length_filter_le _ _) (State.Sound.fdb (Kept.sound (by with_reducible assumption)))
    | exact Nat.zero_le _ | with_reducible apply State.fdbPut_kept | split | dsimp only

theorem State.ethTransmit_kept {z s : State} (p : Nat) (t : Nat) (l : Nat) (i : QItem) (hs : Kept z s) :
    Kept z (State.ethTransmit s p t l i) := by
  unfold State.ethTransmit
  repeat' first
    | with_reducible assumption | intro _ | with_reducible apply State.emit_kept
    | with_reducible apply State.bump_kept | with_reducible apply State.stampCopy_kept
    | with_reducible apply State.took_kept | simp only [Kept.mk_iff] | with_reducible apply Kept.parts | split
    | dsimp only

theorem State.ethToHost_kept {z s : State} (h : Nat) (t : Nat) (i : QItem) (hs : Kept z s) :
    Kept z (State.ethToHost s h t i) := by
  unfold State.ethToHost
  repeat' first
    | with_reducible assumption | intro _ | with_reducible apply State.bump_kept
    | with_reducible apply State.each_kept | with_reducible apply State.queueUp_kept
    | with_reducible apply State.stampReport_kept | split | dsimp only

theorem State.gateSwitch_kept {z s : State} (p : Nat) (l : Nat) (t : Nat) (hs : Kept z s) :
    Kept z (State.gateSwitch s p l t).2 := by
  unfold State.gateSwitch
  repeat' first
    | with_reducible assumption | intro _ | with_reducible apply State.put_kept
    | with_reducible apply State.gateDiscard_kept | with_reducible apply State.gateOverrun_kept
    | simp only [Kept.mk_iff] | with_reducible apply Kept.parts | with_reducible apply Kept.ite
    | with_reducible apply Kept.pair_ite | split | dsimp only

theorem execGateEntryStart_kept {z s : State} (p : Fin 4) (hs : Kept z s) : KeptBy z (execGateEntryStart p s) := by
  unfold execGateEntryStart
  repeat' first
    | with_reducible apply KeptBy.next | with_reducible apply KeptBy.ite | with_reducible assumption | intro _
    | with_reducible apply State.advanceTo_kept | with_reducible apply Kept.ite | split | dsimp only

theorem State.ethLaneState_kept {z s : State} (p : Nat) (st : Nat) (hs : Kept z s) :
    Kept z (State.ethLaneState s p st) := by
  unfold State.ethLaneState
  repeat' first
    | with_reducible assumption | intro _ | with_reducible apply State.flexLane_kept | split | dsimp only

theorem State.ethLink_kept {z s : State} (p : Nat) (up : Bool) (hs : Kept z s) : Kept z (State.ethLink s p up) := by
  unfold State.ethLink
  repeat' first
    | with_reducible assumption | intro _ | with_reducible apply State.raise_kept
    | with_reducible apply State.ethLaneState_kept | with_reducible apply State.put_kept
    | with_reducible apply Kept.ite | dsimp only

theorem State.gptpChg_kept {z s : State} (p : Nat) (hs : Kept z s) : Kept z (State.gptpChg s p) := by
  unfold State.gptpChg
  repeat' first
    | with_reducible assumption | intro _ | with_reducible apply State.raise_kept | dsimp only

theorem State.asCapable_kept {z s : State} (p : Nat) (v : Bool) (hs : Kept z s) : Kept z (State.asCapable s p v) := by
  unfold State.asCapable
  repeat' first
    | with_reducible assumption | intro _ | with_reducible apply State.gptpChg_kept
    | with_reducible apply State.put_kept | with_reducible apply Kept.ite | dsimp only

theorem State.gptpStop_kept {z s : State} (p : Nat) (hs : Kept z s) : Kept z (State.gptpStop s p) := by
  unfold State.gptpStop
  repeat' first
    | with_reducible assumption | intro _ | with_reducible apply State.asCapable_kept
    | with_reducible apply State.put_kept | simp only [Kept.mk_iff] | with_reducible apply Kept.parts | split
    | dsimp only

theorem State.ethFresh_kept {z s : State} (p : Nat) (hs : Kept z s) : Kept z (State.ethFresh s p) := by
  unfold State.ethFresh
  repeat' first
    | with_reducible assumption | intro _ | with_reducible apply State.flexForgetLane_kept
    | with_reducible apply Kept.ite | split | dsimp only

theorem execEthLinkChange_kept {z s : State} (p : Fin 4) (up : Bool) (hs : Kept z s) :
    KeptBy z (execEthLinkChange p up s) := by
  unfold execEthLinkChange
  repeat' first
    | with_reducible apply KeptBy.next | with_reducible apply KeptBy.ite | with_reducible assumption | intro _
    | with_reducible apply State.ethLink_kept | with_reducible apply State.ethFresh_kept
    | with_reducible apply State.gptpStop_kept | with_reducible apply Kept.ite | dsimp only

theorem State.ethEnable_kept {z s : State} (p : Nat) (on : Bool) (hs : Kept z s) :
    Kept z (State.ethEnable s p on) := by
  unfold State.ethEnable
  repeat' first
    | with_reducible assumption | intro _ | with_reducible apply State.put_kept
    | with_reducible apply State.ethLaneState_kept | with_reducible apply State.gptpStop_kept
    | with_reducible apply State.ethLink_kept | simp only [Kept.mk_iff] | with_reducible apply Kept.parts
    | with_reducible apply Kept.ite | split | dsimp only

theorem State.pdRequest_kept {z s : State} (p : Nat) (hs : Kept z s) : Kept z (State.pdRequest s p) := by
  unfold State.pdRequest
  repeat' first
    | with_reducible assumption | intro _ | with_reducible apply State.ethOwn_kept | simp only [Kept.mk_iff]
    | with_reducible apply Kept.parts | with_reducible apply Kept.ite | split | dsimp only

theorem execPdelayExchange_kept {z s : State} (p : Fin 4) (good : Bool) (delay : Nat) (ppb : Int) (hs : Kept z s) :
    KeptBy z (execPdelayExchange p good delay ppb s) := by
  unfold execPdelayExchange
  repeat' first
    | with_reducible apply KeptBy.next | with_reducible apply KeptBy.ite | with_reducible assumption | intro _
    | with_reducible apply State.pdRequest_kept | with_reducible apply State.advanceTo_kept
    | with_reducible apply State.put_kept | with_reducible apply State.asCapable_kept | simp only [Kept.mk_iff]
    | with_reducible apply Kept.parts | with_reducible apply Kept.ite | split | dsimp only

theorem execSyncReceive_kept {z s : State} (p : Fin 4) (sync : SyncIn) (correction : Int) (hs : Kept z s) :
    KeptBy z (execSyncReceive p sync correction s) := by
  unfold execSyncReceive
  repeat' first
    | with_reducible apply KeptBy.next | with_reducible apply KeptBy.ite | with_reducible assumption | intro _
    | with_reducible apply State.measured_kept | with_reducible apply State.put_kept | with_reducible apply Kept.ite
    | dsimp only

theorem execSyncTimeout_kept {z s : State} (p : Fin 4) (hs : Kept z s) : KeptBy z (execSyncTimeout p s) := by
  unfold execSyncTimeout
  repeat' first
    | with_reducible apply KeptBy.next | with_reducible apply KeptBy.ite | with_reducible assumption | intro _
    | with_reducible apply State.gptpChg_kept | with_reducible apply State.put_kept | with_reducible apply Kept.ite
    | dsimp only

theorem State.ethLaneFailed_kept {z s : State} (p : Nat) (hs : Kept z s) : Kept z (State.ethLaneFailed s p) := by
  unfold State.ethLaneFailed
  repeat' first
    | with_reducible assumption | intro _ | with_reducible apply State.gptpStop_kept
    | with_reducible apply State.ethLink_kept | dsimp only

theorem State.ethInit_kept {z s : State} (hs : Kept z s) : Kept z (State.ethInit s) := by
  unfold State.ethInit
  repeat' first
    | with_reducible assumption | intro _
    | exact Nat.le_trans (List.length_filter_le _ _) (State.Sound.fdb (Kept.sound (by with_reducible assumption)))
    | exact Nat.zero_le _ | with_reducible apply State.fdbPut_kept | with_reducible apply State.each_kept
    | with_reducible apply State.gptpStop_kept | with_reducible apply State.ethLink_kept
    | with_reducible apply State.put_kept | simp only [Kept.mk_iff] | with_reducible apply Kept.parts | dsimp only

theorem State.modView_kept {z s : State} (h : Nat) (n : Nat) (f : View → View) (hs : Kept z s) :
    Kept z (State.modView s h n f) := by
  unfold State.modView
  repeat' first
    | with_reducible assumption | intro _ | simp only [Kept.mk_iff] | with_reducible apply Kept.parts | split
    | dsimp only

theorem State.ownView_kept {z s : State} (n : Nat) (set : Nat) (clr : Nat) (chg : Nat) (hs : Kept z s) :
    Kept z (State.ownView s n set clr chg) := by
  unfold State.ownView
  repeat' first
    | with_reducible assumption | intro _ | with_reducible apply State.modView_kept | with_reducible apply Kept.ite
    | dsimp only

theorem State.dsTo_kept {z s : State} (n : Nat) (st : Nat) (hs : Kept z s) : Kept z (State.dsTo s n st) := by
  unfold State.dsTo
  repeat' first
    | with_reducible assumption | intro _ | with_reducible apply State.put_kept | dsimp only

theorem State.dsEvt_kept {z s : State} (n : Nat) (i : Nat) (hs : Kept z s) : Kept z (State.dsEvt s n i) := by
  unfold State.dsEvt
  repeat' first
    | with_reducible assumption | intro _ | with_reducible apply State.raise_kept | dsimp only

theorem State.ufEvt_kept {z s : State} (h : Nat) (i : Nat) (hs : Kept z s) : Kept z (State.ufEvt s h i) := by
  unfold State.ufEvt
  repeat' first
    | with_reducible assumption | intro _ | with_reducible apply State.raise_kept | dsimp only

theorem State.ttShow_kept {z s : State} (n : Nat) (hs : Kept z s) : Kept z (State.ttShow s n) := by
  unfold State.ttShow
  repeat' first
    | with_reducible assumption | intro _ | with_reducible apply State.put_kept | split | dsimp only

theorem State.ttClear_kept {z s : State} (n : Nat) (hs : Kept z s) : Kept z (State.ttClear s n) := by
  unfold State.ttClear
  repeat' first
    | with_reducible assumption | intro _ | with_reducible apply State.ttShow_kept | simp only [Kept.mk_iff]
    | with_reducible apply Kept.parts | split | dsimp only

theorem State.takeSplit_kept {z s : State} (h : Nat) (x : Split) (hs : Kept z s) : Kept z (State.takeSplit s h x) := by
  unfold State.takeSplit
  repeat' first
    | with_reducible assumption | intro _ | with_reducible apply State.ttShow_kept | simp only [Kept.mk_iff]
    | with_reducible apply Kept.parts | with_reducible apply Kept.ite | split | dsimp only

theorem State.ppc_kept {z s : State} (n : Nat) (hs : Kept z s) : Kept z (State.ppc s n) := by
  unfold State.ppc
  repeat' first
    | with_reducible assumption | intro _ | with_reducible apply State.put_kept | with_reducible apply State.iff_kept
    | with_reducible apply State.emit_kept | with_reducible apply State.ttClear_kept
    | with_reducible apply State.ownView_kept | with_reducible apply State.dsTo_kept | with_reducible apply Kept.ite
    | dsimp only

theorem State.dsDisconnect_kept {z s : State} (n : Nat) (hs : Kept z s) : Kept z (State.dsDisconnect s n) := by
  unfold State.dsDisconnect
  repeat' first
    | with_reducible assumption | intro _ | with_reducible apply State.ownView_kept
    | with_reducible apply State.put_kept | with_reducible apply State.dsTo_kept
    | with_reducible apply State.dsEvt_kept | with_reducible apply State.ttClear_kept | with_reducible apply Kept.ite
    | dsimp only

theorem State.mfReset_kept {z s : State} (h : Nat) (hs : Kept z s) : Kept z (State.mfReset s h) := by
  unfold State.mfReset
  repeat' first
    | with_reducible assumption | intro _ | with_reducible apply State.modOwn_kept
    | with_reducible apply State.modAgent_kept | with_reducible apply State.bump_kept
    | with_reducible apply State.ufEvt_kept | simp only [Kept.mk_iff] | with_reducible apply Kept.parts
    | with_reducible apply Kept.ite | split | dsimp only

theorem State.mfFall_kept {z s : State} (h : Nat) (st : Nat) (hs : Kept z s) : Kept z (State.mfFall s h st) := by
  unfold State.mfFall
  repeat' first
    | with_reducible assumption | intro _ | with_reducible apply State.put_kept | simp only [Kept.mk_iff]
    | with_reducible apply Kept.parts | split | dsimp only

theorem State.mfConnect_kept {z s : State} (h : Nat) (on : Bool) (hs : Kept z s) :
    Kept z (State.mfConnect s h on) := by
  unfold State.mfConnect
  repeat' first
    | with_reducible assumption | intro _ | with_reducible apply State.modView_kept
    | with_reducible apply State.mfReset_kept | with_reducible apply State.mfFall_kept
    | with_reducible apply Kept.ite | dsimp only

theorem State.faceFall_kept {z s : State} (h : Nat) (st : Nat) (hs : Kept z s) : Kept z (State.faceFall s h st) := by
  unfold State.faceFall
  repeat' first
    | with_reducible assumption | intro _ | with_reducible apply State.iff_kept
    | with_reducible apply State.ufEvt_kept | with_reducible apply State.put_kept
    | with_reducible apply State.each_kept | with_reducible apply State.ttShow_kept | simp only [Kept.mk_iff]
    | with_reducible apply Kept.parts | split | dsimp only

theorem State.face_kept {z s : State} (h : Nat) (hs : Kept z s) : Kept z (State.face s h) := by
  unfold State.face
  repeat' first
    | with_reducible assumption | intro _ | with_reducible apply State.setBit_kept
    | with_reducible apply State.clrBit_kept | with_reducible apply State.ufEvt_kept
    | with_reducible apply State.mfConnect_kept | with_reducible apply State.put_kept
    | with_reducible apply State.faceFall_kept | with_reducible apply State.iff_kept
    | with_reducible apply State.mfReset_kept | with_reducible apply State.mfFall_kept
    | with_reducible apply Kept.ite | dsimp only

theorem State.faces_kept {z s : State} (hs : Kept z s) : Kept z (State.faces s) := by
  unfold State.faces
  repeat' first
    | with_reducible assumption | intro _ | with_reducible apply State.each_kept
    | with_reducible apply State.face_kept | dsimp only

theorem execFaceAttachChange_kept {z s : State} (h : Hp) (hs : Kept z s) : KeptBy z (execFaceAttachChange h s) := by
  unfold execFaceAttachChange
  repeat' first
    | with_reducible apply KeptBy.next | with_reducible apply KeptBy.ite | with_reducible assumption | intro _
    | with_reducible apply State.face_kept | dsimp only

theorem execFaceBusReset_kept {z s : State} (h : Hp) (high : Bool) (hs : Kept z s) :
    KeptBy z (execFaceBusReset h high s) := by
  unfold execFaceBusReset
  repeat' first
    | with_reducible apply KeptBy.next | with_reducible apply KeptBy.ite | with_reducible assumption | intro _
    | with_reducible apply State.put_kept | with_reducible apply State.faceFall_kept
    | with_reducible apply State.ufEvt_kept | with_reducible apply State.each_kept
    | with_reducible apply State.modView_kept | with_reducible apply State.ppc_kept
    | with_reducible apply State.mfReset_kept | with_reducible apply State.mfFall_kept
    | with_reducible apply Kept.ite | dsimp only

theorem State.faceSleeps_kept {z s : State} (h : Nat) (st : Nat) (hs : Kept z s) :
    Kept z (State.faceSleeps s h st) := by
  unfold State.faceSleeps
  repeat' first
    | with_reducible assumption | intro _ | with_reducible apply State.put_kept
    | with_reducible apply State.ufEvt_kept | with_reducible apply State.iff_kept | simp only [Kept.mk_iff]
    | with_reducible apply Kept.parts | with_reducible apply Kept.ite | split | dsimp only

theorem execFaceSuspend_kept {z s : State} (h : Hp) (hs : Kept z s) : KeptBy z (execFaceSuspend h s) := by
  unfold execFaceSuspend
  repeat' first
    | with_reducible apply KeptBy.next | with_reducible apply KeptBy.ite | with_reducible assumption | intro _
    | with_reducible apply State.iff_kept | with_reducible apply State.faceSleeps_kept | dsimp only

theorem State.resumeMeets_kept {z s : State} (h : Nat) (hs : Kept z s) : Kept z (State.resumeMeets s h) := by
  unfold State.resumeMeets
  repeat' first
    | with_reducible assumption | intro _ | with_reducible apply State.iff_kept
    | with_reducible apply State.bump_kept | simp only [Kept.mk_iff] | with_reducible apply Kept.parts | split
    | dsimp only

theorem execFaceResume_kept {z s : State} (h : Hp) (hs : Kept z s) : KeptBy z (execFaceResume h s) := by
  unfold execFaceResume
  repeat' first
    | with_reducible apply KeptBy.next | with_reducible apply KeptBy.ite | with_reducible assumption | intro _
    | with_reducible apply State.put_kept | with_reducible apply State.resumeMeets_kept
    | with_reducible apply State.ufEvt_kept | with_reducible apply State.iff_kept | with_reducible apply Kept.ite
    | split | dsimp only

theorem execSetPortReset_kept {z s : State} (h : Hp) (n : Fin 9) (hs : Kept z s) :
    KeptBy z (execSetPortReset h n s) := by
  unfold execSetPortReset
  repeat' first
    | with_reducible apply KeptBy.next | with_reducible apply KeptBy.ite | with_reducible assumption | intro _
    | with_reducible apply State.modView_kept | with_reducible apply State.mfReset_kept
    | with_reducible apply State.mfFall_kept | with_reducible apply State.dsTo_kept | with_reducible apply Kept.ite
    | split | dsimp only

theorem execSetPortPower_kept {z s : State} (h : Hp) (n : Fin 9) (hs : Kept z s) :
    KeptBy z (execSetPortPower h n s) := by
  unfold execSetPortPower
  repeat' first
    | with_reducible apply KeptBy.next | with_reducible apply KeptBy.ite | with_reducible assumption | intro _
    | with_reducible apply State.modView_kept | with_reducible apply State.ppc_kept | with_reducible apply Kept.ite
    | split | dsimp only

theorem execClearPortPower_kept {z s : State} (h : Hp) (n : Fin 9) (hs : Kept z s) :
    KeptBy z (execClearPortPower h n s) := by
  unfold execClearPortPower
  repeat' first
    | with_reducible apply KeptBy.next | with_reducible apply KeptBy.ite | with_reducible assumption | intro _
    | with_reducible apply State.modView_kept | with_reducible apply State.ppc_kept | with_reducible apply Kept.ite
    | split | dsimp only

theorem execClearPortEnable_kept {z s : State} (h : Hp) (n : Fin 9) (hs : Kept z s) :
    KeptBy z (execClearPortEnable h n s) := by
  unfold execClearPortEnable
  repeat' first
    | with_reducible apply KeptBy.next | with_reducible apply KeptBy.ite | with_reducible assumption | intro _
    | with_reducible apply State.modView_kept | with_reducible apply State.dsTo_kept | with_reducible apply Kept.ite
    | split | dsimp only

theorem State.mfSleeps_kept {z s : State} (h : Nat) (st : Nat) (hs : Kept z s) : Kept z (State.mfSleeps s h st) := by
  unfold State.mfSleeps
  repeat' first
    | with_reducible assumption | intro _ | with_reducible apply State.iff_kept | with_reducible apply State.put_kept
    | simp only [Kept.mk_iff] | with_reducible apply Kept.parts | split | dsimp only

theorem execSetPortSuspend_kept {z s : State} (h : Hp) (n : Fin 9) (hs : Kept z s) :
    KeptBy z (execSetPortSuspend h n s) := by
  unfold execSetPortSuspend
  repeat' first
    | with_reducible apply KeptBy.next | with_reducible apply KeptBy.ite | with_reducible assumption | intro _
    | with_reducible apply State.mfSleeps_kept | with_reducible apply State.modView_kept
    | with_reducible apply State.dsTo_kept | with_reducible apply Kept.ite | split | dsimp only

theorem execClearPortSuspend_kept {z s : State} (h : Hp) (n : Fin 9) (hs : Kept z s) :
    KeptBy z (execClearPortSuspend h n s) := by
  unfold execClearPortSuspend
  repeat' first
    | with_reducible apply KeptBy.next | with_reducible apply KeptBy.ite | with_reducible assumption | intro _
    | with_reducible apply State.put_kept | with_reducible apply State.modView_kept
    | with_reducible apply State.dsTo_kept | with_reducible apply State.bump_kept | with_reducible apply Kept.ite
    | split | dsimp only

theorem execSetPortL1_kept {z s : State} (h : Hp) (n : Fin 9) (ack : Bool) (hs : Kept z s) :
    KeptBy z (execSetPortL1 h n ack s) := by
  unfold execSetPortL1
  repeat' first
    | with_reducible apply KeptBy.next | with_reducible apply KeptBy.ite | with_reducible assumption | intro _
    | with_reducible apply State.mfSleeps_kept | with_reducible apply State.modView_kept
    | with_reducible apply State.dsTo_kept | with_reducible apply Kept.ite | split | dsimp only

theorem execPortConnectDetect_kept {z s : State} (n : Fin 8) (dev : ConnIn) (hs : Kept z s) :
    KeptBy z (execPortConnectDetect n dev s) := by
  unfold execPortConnectDetect
  repeat' first
    | with_reducible apply KeptBy.next | with_reducible apply KeptBy.ite | with_reducible assumption | intro _
    | with_reducible apply State.iff_kept | with_reducible apply State.emit_kept
    | with_reducible apply State.ownView_kept | with_reducible apply State.dsTo_kept
    | with_reducible apply State.put_kept | with_reducible apply State.bump_kept | with_reducible apply Kept.ite
    | dsimp only

theorem execPortDisconnect_kept {z s : State} (n : Fin 8) (hs : Kept z s) : KeptBy z (execPortDisconnect n s) := by
  unfold execPortDisconnect
  repeat' first
    | with_reducible apply KeptBy.next | with_reducible apply KeptBy.ite | with_reducible assumption | intro _
    | with_reducible apply State.dsDisconnect_kept | with_reducible apply Kept.ite | dsimp only

theorem execPortResetDone_kept {z s : State} (n : Fin 8) (high : Bool) (hs : Kept z s) :
    KeptBy z (execPortResetDone n high s) := by
  unfold execPortResetDone
  repeat' first
    | with_reducible apply KeptBy.next | with_reducible apply KeptBy.ite | with_reducible assumption | intro _
    | with_reducible apply State.ownView_kept | with_reducible apply State.dsTo_kept
    | with_reducible apply State.put_kept | with_reducible apply Kept.ite | dsimp only

theorem execPortResumeDone_kept {z s : State} (n : Fin 8) (hs : Kept z s) : KeptBy z (execPortResumeDone n s) := by
  unfold execPortResumeDone
  repeat' first
    | with_reducible apply KeptBy.next | with_reducible apply KeptBy.ite | with_reducible assumption | intro _
    | with_reducible apply State.ownView_kept | with_reducible apply State.dsTo_kept | with_reducible apply Kept.ite
    | dsimp only

theorem execPortBabble_kept {z s : State} (n : Fin 8) (hs : Kept z s) : KeptBy z (execPortBabble n s) := by
  unfold execPortBabble
  repeat' first
    | with_reducible apply KeptBy.next | with_reducible apply KeptBy.ite | with_reducible assumption | intro _
    | with_reducible apply State.dsEvt_kept | with_reducible apply State.ownView_kept
    | with_reducible apply State.dsTo_kept | with_reducible apply Kept.ite | dsimp only

theorem State.faceDrives_kept {z s : State} (h : Nat) (n : Nat) (hs : Kept z s) : Kept z (State.faceDrives s h n) := by
  unfold State.faceDrives
  repeat' first
    | with_reducible assumption | intro _ | with_reducible apply State.emit_kept | simp only [Kept.mk_iff]
    | with_reducible apply Kept.parts | split | dsimp only

theorem State.wakeUp_kept {z s : State} (k : WakeIn) (hs : Kept z s) : Kept z (State.wakeUp s k) := by
  unfold State.wakeUp
  repeat' first
    | with_reducible assumption | intro _ | with_reducible apply State.bump_kept
    | with_reducible apply State.dsEvt_kept | with_reducible apply State.faceDrives_kept
    | with_reducible apply Kept.ite | split | dsimp only

theorem execDeviceRemoteWake_kept {z s : State} (k : WakeIn) (hs : Kept z s) :
    KeptBy z (execDeviceRemoteWake k s) := by
  unfold execDeviceRemoteWake
  repeat' first
    | with_reducible apply KeptBy.next | with_reducible apply KeptBy.ite | with_reducible assumption | intro _
    | with_reducible apply State.bump_kept | with_reducible apply State.wakeUp_kept
    | with_reducible apply State.ownView_kept | with_reducible apply State.dsTo_kept | with_reducible apply Kept.ite
    | dsimp only

theorem execPwr2goodElapsed_kept {z s : State} (n : Fin 8) (hs : Kept z s) : KeptBy z (execPwr2goodElapsed n s) := by
  unfold execPwr2goodElapsed
  repeat' first
    | with_reducible apply KeptBy.next | with_reducible apply KeptBy.ite | with_reducible assumption | intro _
    | with_reducible apply State.ppc_kept | with_reducible apply State.put_kept
    | with_reducible apply State.dsTo_kept | with_reducible apply Kept.ite | dsimp only

theorem execOverCurrent_kept {z s : State} (n : Fin 8) (hs : Kept z s) : KeptBy z (execOverCurrent n s) := by
  unfold execOverCurrent
  repeat' first
    | with_reducible apply KeptBy.next | with_reducible apply KeptBy.ite | with_reducible assumption | intro _
    | with_reducible apply State.ownView_kept | with_reducible apply State.put_kept
    | with_reducible apply State.ppc_kept | with_reducible apply State.dsEvt_kept
    | with_reducible apply State.bump_kept | simp only [Kept.mk_iff] | with_reducible apply Kept.parts
    | with_reducible apply Kept.ite | split | dsimp only

theorem execOverCurrentClear_kept {z s : State} (n : Fin 8) (hs : Kept z s) : KeptBy z (execOverCurrentClear n s) := by
  unfold execOverCurrentClear
  repeat' first
    | with_reducible apply KeptBy.next | with_reducible apply KeptBy.ite | with_reducible assumption | intro _
    | with_reducible apply State.ppc_kept | with_reducible apply State.ownView_kept
    | with_reducible apply State.put_kept | with_reducible apply Kept.ite | dsimp only

theorem execOcRetry_kept {z s : State} (n : Fin 8) (hs : Kept z s) : KeptBy z (execOcRetry n s) := by
  unfold execOcRetry
  repeat' first
    | with_reducible apply KeptBy.next | with_reducible apply KeptBy.ite | with_reducible assumption | intro _
    | with_reducible apply State.ppc_kept | with_reducible apply State.bump_kept | simp only [Kept.mk_iff]
    | with_reducible apply Kept.parts | with_reducible apply Kept.ite | split | dsimp only

theorem State.powerCycle_kept {z s : State} (n : Nat) (hs : Kept z s) : Kept z (State.powerCycle s n) := by
  unfold State.powerCycle
  repeat' first
    | with_reducible assumption | intro _ | with_reducible apply State.ppc_kept | with_reducible apply State.put_kept
    | dsimp only

theorem State.dsOwnerChanged_kept {z s : State} (n : Nat) (old : Nat) (new : Nat) (hs : Kept z s) :
    Kept z (State.dsOwnerChanged s n old new) := by
  unfold State.dsOwnerChanged
  repeat' first
    | with_reducible assumption | intro _ | with_reducible apply State.ttClear_kept
    | with_reducible apply State.dsTo_kept | with_reducible apply State.modView_kept | with_reducible apply Kept.ite
    | dsimp only

theorem State.usbSpread_kept {z s : State} (on : Bool) (hs : Kept z s) : Kept z (State.usbSpread s on) := by
  unfold State.usbSpread
  repeat' first
    | with_reducible assumption | intro _ | with_reducible apply State.put_kept
    | with_reducible apply State.each_kept | with_reducible apply State.dsDisconnect_kept
    | with_reducible apply State.faces_kept | with_reducible apply Kept.ite | dsimp only

theorem State.spreadEnd_kept {z s : State} (hs : Kept z s) : Kept z (State.spreadEnd s) := by
  unfold State.spreadEnd
  repeat' first
    | with_reducible assumption | intro _ | with_reducible apply State.put_kept
    | with_reducible apply State.usbSpread_kept | with_reducible refine State.modClock_kept _ ?_ rfl
    | with_reducible apply Kept.ite | dsimp only

theorem State.serviceEnd_kept {z s : State} (a : Nat) (hs : Kept z s) : Kept z (State.serviceEnd s a) := by
  unfold State.serviceEnd
  repeat' first
    | with_reducible assumption | intro _ | with_reducible apply State.iff_kept
    | with_reducible apply State.modAgent_kept | with_reducible apply State.spreadEnd_kept | dsimp only

theorem execEp2Reply_kept {z s : State} (h : Hp) (hs : Kept z s) : KeptBy z (execEp2Reply h s) := by
  unfold execEp2Reply
  repeat' first
    | with_reducible apply KeptBy.next | with_reducible apply KeptBy.ite | with_reducible assumption | intro _
    | with_reducible apply State.iff_kept | with_reducible apply State.usbLeaves_kept | dsimp only

theorem State.mfSays_kept {z s : State} (h : Nat) (code : Nat) (hs : Kept z s) : Kept z (State.mfSays s h code) := by
  unfold State.mfSays
  repeat' first
    | with_reducible assumption | intro _ | with_reducible apply State.emit_kept | dsimp only

theorem State.ep3Send_kept {z s : State} (h : Nat) (ep : Nat) (hs : Kept z s) : Kept z (State.ep3Send s h ep) := by
  unfold State.ep3Send
  repeat' first
    | with_reducible assumption | intro _ | with_reducible apply State.emit_kept
    | with_reducible apply State.statusSent_kept | with_reducible apply State.modAgent_kept | simp only [Kept.mk_iff]
    | with_reducible apply Kept.parts | with_reducible apply Kept.ite | split | dsimp only

theorem execEp3Poll_kept {z s : State} (h : Hp) (hs : Kept z s) : KeptBy z (execEp3Poll h s) := by
  unfold execEp3Poll
  repeat' first
    | with_reducible apply KeptBy.next | with_reducible apply KeptBy.ite | with_reducible assumption | intro _
    | with_reducible apply State.iff_kept | with_reducible apply State.ep3Send_kept
    | with_reducible apply State.mfSays_kept | with_reducible apply Kept.ite | dsimp only

theorem execMfAbort_kept {z s : State} (h : Hp) (hs : Kept z s) : KeptBy z (execMfAbort h s) := by
  unfold execMfAbort
  repeat' first
    | with_reducible apply KeptBy.next | with_reducible apply KeptBy.ite | with_reducible assumption | intro _
    | with_reducible apply State.mfReset_kept | with_reducible apply Kept.ite | dsimp only

theorem execLpmL1Request_kept {z s : State} (l : LpmIn) (hs : Kept z s) : KeptBy z (execLpmL1Request l s) := by
  unfold execLpmL1Request
  repeat' first
    | with_reducible apply KeptBy.next | with_reducible apply KeptBy.ite | with_reducible assumption | intro _
    | with_reducible apply State.takeSplit_kept | with_reducible apply State.emit_kept
    | with_reducible apply State.faceSleeps_kept | with_reducible apply Kept.ite | with_reducible apply Kept.foldl
    | split | dsimp only

theorem execMfRemoteWake_kept {z s : State} (h : Hp) (hs : Kept z s) : KeptBy z (execMfRemoteWake h s) := by
  unfold execMfRemoteWake
  repeat' first
    | with_reducible apply KeptBy.next | with_reducible apply KeptBy.ite | with_reducible assumption | intro _
    | with_reducible apply State.faceDrives_kept | with_reducible apply Kept.ite | split | dsimp only

theorem State.ep0Send_kept {z s : State} (h : Nat) (d : UsbDev) (bytes : List Byte) (len : Nat) (hs : Kept z s) :
    Kept z (State.ep0Send s h d bytes len) := by
  unfold State.ep0Send
  repeat' first
    | with_reducible assumption | intro _ | with_reducible apply State.emit_kept | simp only [Kept.mk_iff]
    | with_reducible apply Kept.parts | with_reducible apply Kept.ite | with_reducible apply Kept.foldl | split
    | dsimp only

theorem State.ep0Stall_kept {z s : State} (h : Nat) (d : UsbDev) (hs : Kept z s) : Kept z (State.ep0Stall s h d) := by
  unfold State.ep0Stall
  repeat' first
    | with_reducible assumption | intro _ | with_reducible apply State.mfSays_kept
    | with_reducible apply State.emit_kept | split | dsimp only

theorem State.configure_kept {z s : State} (h : Nat) (d : UsbDev) (on : Bool) (hs : Kept z s) :
    Kept z (State.configure s h d on) := by
  unfold State.configure
  repeat' first
    | with_reducible assumption | intro _ | with_reducible apply State.ep0Stall_kept
    | with_reducible apply State.put_kept | simp only [Kept.mk_iff] | with_reducible apply Kept.parts
    | with_reducible apply Kept.ite | split | dsimp only

theorem State.ep0Request_kept {z s : State} (h : Nat) (x1 : Ep0Req) (hs : Kept z s) :
    Kept z (State.ep0Request s h x1) := by
  unfold State.ep0Request
  repeat' first
    | with_reducible assumption | intro _ | with_reducible apply State.ep3Send_kept
    | with_reducible apply State.ep0Stall_kept | with_reducible apply State.ep0Send_kept
    | with_reducible apply State.put_kept | with_reducible apply State.configure_kept
    | with_reducible apply State.modView_kept | simp only [Kept.mk_iff] | with_reducible apply Kept.parts
    | with_reducible apply Kept.ite | split | dsimp only

theorem execGetReport_kept {z s : State} (q : Ep0In) (hs : Kept z s) : KeptBy z (execGetReport q s) := by
  unfold execGetReport
  repeat' first
    | with_reducible apply KeptBy.next | with_reducible apply KeptBy.ite | with_reducible assumption | intro _
    | with_reducible apply State.iff_kept | with_reducible apply State.ep0Request_kept | dsimp only

end Sys2Proof.Machine
end

