-- ==== Sys2Proof/Laws/KeptField.lean ====
section
/-! SUPPORT. Laws/KeptField.lean: the operations and commands of the field units keep what Laws/Kept.lean names. -/

set_option linter.unusedTactic false
set_option linter.unreachableTactic false

namespace Sys2Proof.Machine

theorem State.modFb_kept {z s : State} (b : Nat) (f : FieldBus → FieldBus) (hs : Kept z s) :
    Kept z (State.modFb s b f) := by
  unfold State.modFb
  repeat' first
    | with_reducible assumption | intro _ | simp only [Kept.mk_iff] | with_reducible apply Kept.parts | split
    | dsimp only

theorem State.busEvt_kept {z s : State} (b : Nat) (i : Nat) (hs : Kept z s) : Kept z (State.busEvt s b i) := by
  unfold State.busEvt
  repeat' first
    | with_reducible assumption | intro _ | with_reducible apply State.raise_kept | dsimp only

theorem State.busRegs_kept {z s : State} (b : Nat) (hs : Kept z s) : Kept z (State.busRegs s b) := by
  unfold State.busRegs
  repeat' first
    | with_reducible assumption | intro _ | with_reducible apply State.put_kept | dsimp only

theorem State.perrRegs_kept {z s : State} (h : Nat) (hs : Kept z s) : Kept z (State.perrRegs s h) := by
  unfold State.perrRegs
  repeat' first
    | with_reducible assumption | intro _ | with_reducible apply State.watching_kept
    | with_reducible apply State.put_kept | with_reducible apply State.each_kept | split | dsimp only

theorem State.postedFailed_kept {z s : State} (a tag addr cause : Nat) (hs : Kept z s) :
    Kept z (State.postedFailed s a tag addr cause) := by
  unfold State.postedFailed
  dsimp only
  refine State.logOp_kept _ _ _ _ _ ?_
  split
  · split
    · rename_i h
      refine State.perrRegs_kept _ (hs.modPerr a _ (fun _ => ?_))
      rw [List.length_append]
      simp only [List.length_cons, List.length_nil]
      omega
    · exact State.bump_kept _ _ hs
  · exact hs

theorem State.perrPop_kept {z s : State} (h : Nat) (hs : Kept z s) : Kept z (State.perrPop s h) :=
  State.perrRegs_kept _ (hs.modPerr h _ (fun hl => Nat.le_trans (by rw [List.length_drop]; exact Nat.sub_le _ _) hl))

theorem State.postedDone_kept {z s : State} (a : Nat) (hs : Kept z s) : Kept z (State.postedDone s a) := by
  unfold State.postedDone
  repeat' first
    | with_reducible assumption | intro _ | with_reducible apply State.modAgent_kept | dsimp only

theorem State.fieldFail_kept {z s : State} (b : Nat) (t : FieldTxn) (cause : Nat) (done : Nat) (hs : Kept z s) :
    Kept z (State.fieldFail s b t cause done) := by
  unfold State.fieldFail
  repeat' first
    | with_reducible assumption | intro _ | with_reducible apply State.bump_kept
    | with_reducible apply State.busEvt_kept | with_reducible apply State.postedDone_kept
    | with_reducible apply State.postedFailed_kept | with_reducible apply State.complete_kept
    | with_reducible apply Kept.ite | dsimp only

theorem State.fieldBegin_kept {z s : State} (b : Nat) (t : FieldTxn) (charge : Bool) (hs : Kept z s) :
    Kept z (State.fieldBegin s b t charge) := by
  unfold State.fieldBegin
  repeat' first
    | with_reducible assumption | intro _ | with_reducible apply State.file_kept
    | with_reducible apply State.modQueue_kept | with_reducible apply State.modFb_kept
    | with_reducible apply State.busRegs_kept | with_reducible apply State.emit_kept | with_reducible apply Kept.ite
    | dsimp only

theorem State.rxFill_kept {z s : State} (b : Nat) (hs : Kept z s) : Kept z (State.rxFill s b) := by
  unfold State.rxFill
  repeat' first
    | with_reducible assumption | intro _ | with_reducible apply State.watching_kept
    | with_reducible apply State.put_kept | dsimp only

theorem State.rxPop_kept {z s : State} (b : Nat) (len : Nat) (hs : Kept z s) : Kept z (State.rxPop s b len).2 := by
  unfold State.rxPop
  repeat' first
    | with_reducible assumption | intro _ | with_reducible apply State.rxFill_kept
    | with_reducible apply State.modFb_kept | with_reducible apply Kept.pair_ite | dsimp only

theorem State.popDone_kept {z s : State} (b : Nat) (t : FieldTxn) (hs : Kept z s) : Kept z (State.popDone s b t) := by
  unfold State.popDone
  repeat' first
    | with_reducible assumption | intro _ | with_reducible apply State.complete_kept
    | with_reducible apply State.bump_kept | with_reducible apply State.rxPop_kept
    | refine Kept.of_pair (by with_reducible assumption) ?_ | split | dsimp only

theorem State.fieldPopQueue_kept {z s : State} (b : Nat) (hs : Kept z s) : Kept z (State.fieldPopQueue s b) := by
  unfold State.fieldPopQueue
  repeat' first
    | with_reducible assumption | intro _ | with_reducible apply State.busRegs_kept
    | with_reducible apply State.modFb_kept | dsimp only

theorem State.fieldDrop_kept {z s : State} (b : Nat) (id : Nat) (hs : Kept z s) : Kept z (State.fieldDrop s b id) := by
  unfold State.fieldDrop
  repeat' first
    | with_reducible assumption | intro _ | with_reducible apply State.busRegs_kept
    | with_reducible apply State.modFb_kept | dsimp only

theorem State.fieldStart_kept {z : State} (b : Nat) (any : Bool) : ∀ (n : Nat) {s : State}, Kept z s →
    Kept z (State.fieldStart s b any n)
  | 0, _, hs => hs
  | n + 1, s, hs => by
    unfold State.fieldStart
    have ih := fun {s : State} (h : Kept z s) => State.fieldStart_kept b any n h
    repeat' first
      | with_reducible assumption
      | with_reducible apply ih
      | with_reducible apply State.fieldFail_kept
      | with_reducible apply State.fieldPopQueue_kept
      | with_reducible apply State.fieldDrop_kept
      | with_reducible apply State.popDone_kept
      | with_reducible apply State.fieldBegin_kept
      | with_reducible apply State.modFb_kept
      | with_reducible apply State.takeHead_kept
      | refine State.choose_kept _ _ ?_ _ _ _ (by with_reducible assumption)
      | split
      | dsimp only

theorem State.fieldAccept_kept {z s : State} (a : Nat) (tag : Nat) (write : Bool) (posted : Bool) (addr : Nat) (bytes
    : List Byte) (hs : Kept z s) : Kept z (State.fieldAccept s a tag write posted addr bytes) := by
  unfold State.fieldAccept
  repeat' first
    | with_reducible assumption | intro _ | with_reducible apply State.modFb_kept
    | with_reducible apply State.put_kept | with_reducible apply State.busRegs_kept
    | with_reducible apply State.postedDone_kept | with_reducible apply State.postedFailed_kept
    | with_reducible apply State.enqueue_kept | with_reducible apply State.fieldStart_kept
    | with_reducible apply Kept.ite | dsimp only

theorem execFieldTransactionStart_kept {z s : State} (b : Fin 20) (hs : Kept z s) :
    KeptBy z (execFieldTransactionStart b s) := by
  unfold execFieldTransactionStart
  repeat' first
    | with_reducible apply KeptBy.next | with_reducible apply KeptBy.ite | with_reducible assumption | intro _
    | with_reducible apply State.fieldStart_kept | dsimp only

theorem State.fieldRelease_kept {z s : State} (b id : Nat) (hs : Kept z s) :
    ∀ qt, State.fieldRelease s b id = some qt → Kept z qt := by
  unfold State.fieldRelease
  intro qt h
  split at h
  · exact absurd h (by simp)
  · injection h with h
    rw [← h]
    exact State.fieldStart_kept _ _ _ (State.busRegs_kept _ (State.modFb_kept _ _ hs))

theorem State.fieldRemove_kept {z s : State} (b : Nat) (p : FieldTxn → Bool) (hs : Kept z s) :
    Kept z (State.fieldRemove s b p) := by
  unfold State.fieldRemove
  repeat' first
    | with_reducible assumption | intro _ | with_reducible apply State.modFb_kept
    | with_reducible apply State.busRegs_kept | with_reducible apply State.keepItems_kept | split | dsimp only

theorem State.fieldForget_kept {z s : State} (a : Nat) (tag : Nat) (hs : Kept z s) :
    Kept z (State.fieldForget s a tag) := by
  unfold State.fieldForget
  repeat' first
    | with_reducible assumption | intro _ | with_reducible apply State.each_kept
    | with_reducible apply State.fieldRemove_kept | with_reducible apply State.modFb_kept
    | with_reducible apply Kept.ite | dsimp only

theorem State.fieldAbort_kept {z s : State} (b : Nat) (p : FieldTxn → Bool) (cur : Bool) (log : Bool) (result : Nat)
    (hs : Kept z s) : Kept z (State.fieldAbort s b p cur log result) := by
  unfold State.fieldAbort
  repeat' first
    | with_reducible assumption | intro _ | with_reducible apply State.fieldRemove_kept
    | with_reducible apply State.modFb_kept | with_reducible apply State.logOp_kept
    | with_reducible apply State.complete_kept | with_reducible apply Kept.ite | with_reducible apply Kept.foldl
    | dsimp only

theorem State.fieldDropPosted_kept {z s : State} (b : Nat) (queued : Bool) (cause : Nat) (hs : Kept z s) :
    Kept z (State.fieldDropPosted s b queued cause) := by
  unfold State.fieldDropPosted
  repeat' first
    | with_reducible assumption | intro _ | with_reducible apply State.modFb_kept
    | with_reducible apply State.fieldRemove_kept | with_reducible apply State.busRegs_kept
    | with_reducible apply State.postedDone_kept | with_reducible apply State.postedFailed_kept
    | with_reducible apply Kept.ite | with_reducible apply Kept.foldl | dsimp only

theorem State.busOwnerChanged_kept {z s : State} (b : Nat) (old : Nat) (hs : Kept z s) :
    Kept z (State.busOwnerChanged s b old) := by
  unfold State.busOwnerChanged
  repeat' first
    | with_reducible assumption | intro _ | with_reducible apply State.fieldDropPosted_kept
    | with_reducible apply State.fieldAbort_kept | dsimp only

theorem State.busStop_kept {z s : State} (b : Nat) (hs : Kept z s) : Kept z (State.busStop s b) := by
  unfold State.busStop
  repeat' first
    | with_reducible assumption | intro _ | with_reducible apply State.put_kept
    | with_reducible apply State.fieldDropPosted_kept | with_reducible apply State.fieldAbort_kept | dsimp only

theorem State.wadiIsolate_kept {z s : State} (hs : Kept z s) : Kept z (State.wadiIsolate s) := by
  unfold State.wadiIsolate
  repeat' first
    | with_reducible assumption | intro _ | with_reducible apply State.each_kept
    | with_reducible apply State.fieldDropPosted_kept | with_reducible apply State.fieldAbort_kept
    | with_reducible apply State.postedDone_kept | with_reducible apply State.postedFailed_kept
    | with_reducible apply State.busRegs_kept | with_reducible apply State.modFb_kept | simp only [Kept.mk_iff]
    | with_reducible apply Kept.parts | with_reducible apply Kept.ite | split | dsimp only

theorem State.rxStore_kept {z s : State} (b : Nat) (cap : Nat) (r : RxRec) (hs : Kept z s) :
    Kept z (State.rxStore s b cap r) := by
  unfold State.rxStore
  repeat' first
    | with_reducible assumption | intro _ | with_reducible apply State.busEvt_kept
    | with_reducible apply State.bump_kept | with_reducible apply State.rxFill_kept
    | with_reducible apply State.modFb_kept | with_reducible apply Kept.ite | dsimp only

theorem execCanFrameReceive_kept {z s : State} (c : Fin 4) (w0 : Word) (w1 : Word) (data : RxIn) (hs : Kept z s) :
    KeptBy z (execCanFrameReceive c w0 w1 data s) := by
  unfold execCanFrameReceive
  repeat' first
    | with_reducible apply KeptBy.next | with_reducible apply KeptBy.ite | with_reducible assumption | intro _
    | with_reducible apply State.rxStore_kept | with_reducible apply Kept.ite | dsimp only

theorem execUartRecordClose_kept {z s : State} (u : Fin 4) (bytes : RxIn) (errors : BitVec 4) (hs : Kept z s) :
    KeptBy z (execUartRecordClose u bytes errors s) := by
  unfold execUartRecordClose
  repeat' first
    | with_reducible apply KeptBy.next | with_reducible apply KeptBy.ite | with_reducible assumption | intro _
    | with_reducible apply State.rxStore_kept | with_reducible apply Kept.ite | dsimp only

theorem State.rxSend_kept {z : State} (h tun b : Nat) : ∀ (n : Nat) {s : State}, Kept z s → Kept z (State.rxSend s h tun b n)
  | 0, _, hs => hs
  | n + 1, s, hs => by
    unfold State.rxSend
    dsimp only
    split
    · exact hs
    · exact State.rxSend_kept h tun b n (State.queueUp_kept _ _ _ _ _ _ _ (State.rxPop_kept b 256 hs))

theorem execFieldRxDelivery_kept {z s : State} (b : Fin 20) (hs : Kept z s) : KeptBy z (execFieldRxDelivery b s) := by
  unfold execFieldRxDelivery
  repeat' first
    | with_reducible apply KeptBy.next | with_reducible apply KeptBy.ite | with_reducible assumption | intro _
    | with_reducible apply State.advanceTo_kept | with_reducible apply State.rxSend_kept
    | with_reducible apply Kept.ite | split | dsimp only

theorem execCanStateChange_kept {z s : State} (c : Fin 4) (st : Fin 3) (hs : Kept z s) :
    KeptBy z (execCanStateChange c st s) := by
  unfold execCanStateChange
  repeat' first
    | with_reducible apply KeptBy.next | with_reducible apply KeptBy.ite | with_reducible assumption | intro _
    | with_reducible apply State.put_kept | with_reducible apply State.busEvt_kept | with_reducible apply Kept.ite
    | dsimp only

theorem State.lineWrite_kept {z s : State} (a : Nat) (off : Nat) (v : Nat) (hs : Kept z s) :
    Kept z (State.lineWrite s a off v) := by
  unfold State.lineWrite
  repeat' first
    | with_reducible assumption | intro _ | with_reducible apply State.each_kept
    | with_reducible apply State.settleLines_kept | with_reducible apply State.emit_kept | simp only [Kept.mk_iff]
    | with_reducible apply Kept.parts | with_reducible apply Kept.ite | split | dsimp only

theorem State.modTc_kept {z s : State} (p : Nat) (f : TcPort → TcPort) (hs : Kept z s) :
    Kept z (State.modTc s p f) := by
  unfold State.modTc
  repeat' first
    | with_reducible assumption | intro _ | simp only [Kept.mk_iff] | with_reducible apply Kept.parts | split
    | dsimp only

theorem State.tcTo_kept {z s : State} (p : Nat) (st : Nat) (hs : Kept z s) : Kept z (State.tcTo s p st) := by
  unfold State.tcTo
  repeat' first
    | with_reducible assumption | intro _ | with_reducible apply State.put_kept | dsimp only

theorem State.tcEvt_kept {z s : State} (p : Nat) (i : Nat) (hs : Kept z s) : Kept z (State.tcEvt s p i) := by
  unfold State.tcEvt
  repeat' first
    | with_reducible assumption | intro _ | with_reducible apply State.raise_kept | dsimp only

theorem State.tcFlt_kept {z s : State} (p : Nat) (i : Nat) (hs : Kept z s) : Kept z (State.tcFlt s p i) := by
  unfold State.tcFlt
  repeat' first
    | with_reducible assumption | intro _ | with_reducible apply State.raise_kept | dsimp only

theorem State.setRole_kept {z s : State} (p : Nat) (f : FRef) (v : Bool) (hs : Kept z s) :
    Kept z (State.setRole s p f v) := by
  unfold State.setRole
  repeat' first
    | with_reducible assumption | intro _ | with_reducible apply State.tcEvt_kept
    | with_reducible apply State.put_kept | with_reducible apply Kept.ite | dsimp only

theorem State.pdSend_kept {z s : State} (p : Nat) (sop : Nat) (ty : Nat) (ext : Bool) (objs : List Word) (hs : Kept z
    s) : Kept z (State.pdSend s p sop ty ext objs) := by
  unfold State.pdSend
  repeat' first
    | with_reducible assumption | intro _ | with_reducible apply State.emit_kept
    | with_reducible apply State.modTc_kept | with_reducible apply Kept.ite | dsimp only

theorem State.pdChunk_kept {z s : State} (p : Nat) (ty : Nat) (bytes : List Byte) (k : Nat) (hs : Kept z s) :
    Kept z (State.pdChunk s p ty bytes k) := by
  unfold State.pdChunk
  repeat' first
    | with_reducible assumption | intro _ | with_reducible apply State.pdSend_kept | dsimp only

theorem State.pdExt_kept {z s : State} (p : Nat) (ty : Nat) (bytes : List Byte) (hs : Kept z s) :
    Kept z (State.pdExt s p ty bytes) := by
  unfold State.pdExt
  repeat' first
    | with_reducible assumption | intro _ | with_reducible apply State.pdChunk_kept
    | with_reducible apply State.modTc_kept | with_reducible apply Kept.ite | dsimp only

theorem State.pdChunkAsk_kept {z s : State} (p : Nat) (ty : Nat) (n : Nat) (hs : Kept z s) :
    Kept z (State.pdChunkAsk s p ty n) := by
  unfold State.pdChunkAsk
  repeat' first
    | with_reducible assumption | intro _ | with_reducible apply State.each_kept
    | with_reducible apply State.pdSend_kept | dsimp only

theorem State.pdCtl_kept {z s : State} (p : Nat) (ty : Nat) (hs : Kept z s) : Kept z (State.pdCtl s p ty) := by
  unfold State.pdCtl
  repeat' first
    | with_reducible assumption | intro _ | with_reducible apply State.pdSend_kept | dsimp only

theorem State.pdAwait_kept {z s : State} (p : Nat) (w : PdWait) (hs : Kept z s) : Kept z (State.pdAwait s p w) := by
  unfold State.pdAwait
  repeat' first
    | with_reducible assumption | intro _ | with_reducible apply State.modTc_kept | dsimp only

theorem State.pdAnswered_kept {z s : State} (p : Nat) (hs : Kept z s) : Kept z (State.pdAnswered s p) := by
  unfold State.pdAnswered
  repeat' first
    | with_reducible assumption | intro _ | with_reducible apply State.modTc_kept | with_reducible apply Kept.ite
    | dsimp only

theorem State.sendCaps_kept {z s : State} (p : Nat) (hs : Kept z s) : Kept z (State.sendCaps s p) := by
  unfold State.sendCaps
  repeat' first
    | with_reducible assumption | intro _ | with_reducible apply State.pdExt_kept
    | with_reducible apply State.pdSend_kept | with_reducible apply State.modTc_kept | with_reducible apply Kept.ite
    | dsimp only

theorem State.sendRequest_kept {z s : State} (p : Nat) (rdo : Nat) (hs : Kept z s) :
    Kept z (State.sendRequest s p rdo) := by
  unfold State.sendRequest
  repeat' first
    | with_reducible assumption | intro _ | with_reducible apply State.put_kept
    | with_reducible apply State.pdSend_kept | with_reducible apply State.modTc_kept | with_reducible apply Kept.ite
    | dsimp only

theorem State.sysInput_kept {z s : State} (hs : Kept z s) : Kept z (State.sysInput s) := by
  unfold State.sysInput
  repeat' first
    | with_reducible assumption | intro _ | with_reducible apply State.put_kept
    | with_reducible apply State.each_kept | with_reducible apply State.modTc_kept | dsimp only

theorem State.noContract_kept {z s : State} (p : Nat) (hs : Kept z s) : Kept z (State.noContract s p) := by
  unfold State.noContract
  repeat' first
    | with_reducible assumption | intro _ | with_reducible apply State.put_kept
    | with_reducible apply State.tcEvt_kept | with_reducible apply Kept.ite | dsimp only

theorem State.eprTry_kept {z s : State} (p : Nat) (hs : Kept z s) : Kept z (State.eprTry s p) := by
  unfold State.eprTry
  repeat' first
    | with_reducible assumption | intro _ | with_reducible apply State.modTc_kept | with_reducible apply Kept.ite
    | dsimp only

theorem State.contract_kept {z s : State} (p : Nat) (rdo : Nat) (o : Nat) (hs : Kept z s) :
    Kept z (State.contract s p rdo o) := by
  unfold State.contract
  repeat' first
    | with_reducible assumption | intro _ | with_reducible apply State.put_kept
    | with_reducible apply State.tcEvt_kept | with_reducible apply State.modTc_kept
    | with_reducible apply State.eprTry_kept | with_reducible apply Kept.ite | dsimp only

theorem State.rpFollow_kept {z s : State} (p : Nat) (hs : Kept z s) : Kept z (State.rpFollow s p) := by
  unfold State.rpFollow
  repeat' first
    | with_reducible assumption | intro _ | with_reducible apply State.put_kept | with_reducible apply Kept.ite
    | dsimp only

theorem State.tcEnter_kept {z s : State} (p : Nat) (st : Nat) (hs : Kept z s) : Kept z (State.tcEnter s p st) := by
  unfold State.tcEnter
  repeat' first
    | with_reducible assumption | intro _ | with_reducible apply State.bump_kept
    | with_reducible apply State.tcTo_kept | with_reducible apply Kept.ite | dsimp only

theorem State.modeExit_kept {z s : State} (p : Nat) (hs : Kept z s) : Kept z (State.modeExit s p) := by
  unfold State.modeExit
  repeat' first
    | with_reducible assumption | intro _ | with_reducible apply State.modLink_kept
    | with_reducible apply State.put_kept | with_reducible apply State.iff_kept
    | with_reducible apply State.linkOff_kept | with_reducible apply State.linkDetect_kept
    | with_reducible apply Kept.ite | dsimp only

theorem State.cvAttach_kept {z s : State} (p : Nat) (hs : Kept z s) : Kept z (State.cvAttach s p) := by
  unfold State.cvAttach
  repeat' first
    | with_reducible assumption | intro _ | with_reducible apply State.each_kept
    | with_reducible apply State.put_kept | with_reducible apply State.linkDetect_kept
    | with_reducible apply Kept.ite | dsimp only

theorem State.tcClear_kept {z s : State} (p : Nat) (hs : Kept z s) : Kept z (State.tcClear s p) := by
  unfold State.tcClear
  repeat' first
    | with_reducible assumption | intro _ | with_reducible apply State.noContract_kept
    | with_reducible apply State.setRole_kept | with_reducible apply State.put_kept
    | with_reducible apply State.setReg_kept | with_reducible apply State.each_kept
    | with_reducible apply State.modTc_kept | with_reducible apply State.modeExit_kept | dsimp only

theorem State.tcLeave_kept {z s : State} (p : Nat) (st : Nat) (hs : Kept z s) : Kept z (State.tcLeave s p st) := by
  unfold State.tcLeave
  repeat' first
    | with_reducible assumption | intro _ | with_reducible apply State.modAgent_kept
    | with_reducible apply State.serviceEnd_kept | with_reducible apply State.tcTo_kept
    | with_reducible apply State.modTc_kept | with_reducible apply State.tcClear_kept
    | with_reducible apply State.tcEvt_kept | with_reducible apply State.faces_kept
    | with_reducible apply State.sysInput_kept | with_reducible apply State.rpFollow_kept
    | with_reducible apply Kept.ite | dsimp only

theorem State.attachSrc_kept {z s : State} (p : Nat) (cc2 : Bool) (hs : Kept z s) :
    Kept z (State.attachSrc s p cc2) := by
  unfold State.attachSrc
  repeat' first
    | with_reducible assumption | intro _ | with_reducible apply State.tcEnter_kept
    | with_reducible apply State.put_kept | with_reducible apply State.setRole_kept
    | with_reducible apply State.modTc_kept | with_reducible apply State.sendCaps_kept
    | with_reducible apply State.cvAttach_kept | with_reducible apply State.tcEvt_kept
    | with_reducible apply State.faces_kept | with_reducible apply Kept.ite | dsimp only

theorem State.attachSnk_kept {z s : State} (p : Nat) (hs : Kept z s) : Kept z (State.attachSnk s p) := by
  unfold State.attachSnk
  repeat' first
    | with_reducible assumption | intro _ | with_reducible apply State.tcEnter_kept
    | with_reducible apply State.setRole_kept | with_reducible apply State.modTc_kept
    | with_reducible apply State.faces_kept | with_reducible apply State.cvAttach_kept
    | with_reducible apply State.tcEvt_kept | dsimp only

theorem State.hardReset_kept {z s : State} (p : Nat) (send : Bool) (hs : Kept z s) :
    Kept z (State.hardReset s p send) := by
  unfold State.hardReset
  repeat' first
    | with_reducible assumption | intro _ | with_reducible apply State.emit_kept
    | with_reducible apply State.tcFlt_kept | with_reducible apply State.bump_kept
    | with_reducible apply State.noContract_kept | with_reducible apply State.setRole_kept
    | with_reducible apply State.tcEnter_kept | with_reducible apply State.modeExit_kept
    | with_reducible apply State.modTc_kept | with_reducible apply State.sendCaps_kept
    | with_reducible apply State.faces_kept | with_reducible apply State.sysInput_kept
    | with_reducible apply Kept.ite | split | dsimp only

theorem State.softReset_kept {z s : State} (p : Nat) (hs : Kept z s) : Kept z (State.softReset s p) := by
  unfold State.softReset
  repeat' first
    | with_reducible assumption | intro _ | with_reducible apply State.modTc_kept
    | with_reducible apply State.pdCtl_kept | with_reducible apply State.bump_kept | dsimp only

theorem State.errorRecovery_kept {z s : State} (p : Nat) (hs : Kept z s) : Kept z (State.errorRecovery s p) := by
  unfold State.errorRecovery
  repeat' first
    | with_reducible assumption | intro _ | with_reducible apply State.tcFlt_kept
    | with_reducible apply State.bump_kept | with_reducible apply State.tcLeave_kept | dsimp only

theorem State.pdEscalate_kept {z s : State} (p : Nat) (hs : Kept z s) : Kept z (State.pdEscalate s p) := by
  unfold State.pdEscalate
  repeat' first
    | with_reducible assumption | intro _ | with_reducible apply State.softReset_kept
    | with_reducible apply State.hardReset_kept | with_reducible apply Kept.ite | dsimp only

theorem State.pdBegin_kept {z s : State} (p : Nat) (a : PdAct) (hs : Kept z s) : Kept z (State.pdBegin s p a) := by
  unfold State.pdBegin
  repeat' first
    | with_reducible assumption | intro _ | with_reducible apply State.pdAwait_kept
    | with_reducible apply State.pdCtl_kept | with_reducible apply State.modTc_kept
    | with_reducible apply State.pdSend_kept | with_reducible apply Kept.ite | split | dsimp only

theorem State.pdBegins_kept {z : State} (p : Nat) : ∀ (n : Nat) {s : State}, Kept z s → Kept z (State.pdBegins s p n)
  | 0, _, hs => hs
  | n + 1, s, hs => by
    unfold State.pdBegins
    dsimp only
    split
    · exact Kept.ite (State.pdBegins_kept p n (State.pdBegin_kept _ _ (State.modTc_kept _ _ hs))) hs
    · exact hs

theorem State.pdNext_kept {z s : State} (p : Nat) (hs : Kept z s) : Kept z (State.pdNext s p) := by
  unfold State.pdNext
  repeat' first
    | with_reducible assumption | intro _ | with_reducible apply State.rpFollow_kept
    | with_reducible apply State.pdBegins_kept | dsimp only

theorem State.tcAsked_kept {z s : State} (p : Nat) (hs : Kept z s) : Kept z (State.tcAsked s p) := by
  unfold State.tcAsked
  repeat' first
    | with_reducible assumption | intro _ | with_reducible apply State.put_kept | with_reducible apply Kept.ite
    | dsimp only

theorem State.tcSettle_kept {z s : State} (p : Nat) (hs : Kept z s) : Kept z (State.tcSettle s p) := by
  unfold State.tcSettle
  repeat' first
    | with_reducible assumption | intro _ | with_reducible apply State.faces_kept
    | with_reducible apply State.sysInput_kept | with_reducible apply State.tcAsked_kept
    | with_reducible apply State.pdNext_kept | dsimp only

theorem State.tcTick_kept {z s : State} (hs : Kept z s) : Kept z (State.tcTick s) := by
  unfold State.tcTick
  repeat' first
    | with_reducible assumption | intro _ | with_reducible apply State.each_kept
    | with_reducible apply State.pdNext_kept | with_reducible apply State.modTc_kept | with_reducible apply Kept.ite
    | split | dsimp only

theorem execDrpToggle_kept {z s : State} (p : Fin 4) (hs : Kept z s) : KeptBy z (execDrpToggle p s) := by
  unfold execDrpToggle
  repeat' first
    | with_reducible apply KeptBy.next | with_reducible apply KeptBy.ite | with_reducible assumption | intro _
    | with_reducible apply State.pda_kept | with_reducible apply State.rpFollow_kept
    | with_reducible apply State.modTc_kept | with_reducible apply Kept.ite | dsimp only

theorem execCcTerminationChange_kept {z s : State} (p : Fin 4) (cc1 : Fin 4) (cc2 : Fin 4) (seen : CcIn) (hs : Kept z
    s) : KeptBy z (execCcTerminationChange p cc1 cc2 seen s) := by
  unfold execCcTerminationChange
  repeat' first
    | with_reducible apply KeptBy.next | with_reducible apply KeptBy.ite | with_reducible assumption | intro _
    | with_reducible apply State.pda_kept | with_reducible apply State.modTc_kept
    | with_reducible apply State.iff_kept | with_reducible apply State.tcSettle_kept
    | with_reducible apply State.rpFollow_kept | with_reducible apply State.tcEvt_kept
    | with_reducible apply State.tcTo_kept | with_reducible apply State.tcEnter_kept
    | with_reducible apply State.setRole_kept | with_reducible apply State.faces_kept | with_reducible apply Kept.ite
    | dsimp only

theorem execCcDebounce_kept {z s : State} (p : Fin 4) (rp : Fin 4) (hs : Kept z s) :
    KeptBy z (execCcDebounce p rp s) := by
  unfold execCcDebounce
  repeat' first
    | with_reducible apply KeptBy.next | with_reducible apply KeptBy.ite | with_reducible assumption | intro _
    | with_reducible apply State.pda_kept | with_reducible apply State.rpFollow_kept
    | with_reducible apply State.tcFlt_kept | with_reducible apply State.tcTo_kept
    | with_reducible apply State.tcSettle_kept | with_reducible apply State.attachSrc_kept
    | with_reducible apply State.put_kept | with_reducible apply State.modTc_kept
    | with_reducible apply State.attachSnk_kept | with_reducible apply Kept.ite | dsimp only

theorem execTryCcDebounce_kept {z s : State} (p : Fin 4) (cc2 : Bool) (hs : Kept z s) :
    KeptBy z (execTryCcDebounce p cc2 s) := by
  unfold execTryCcDebounce
  repeat' first
    | with_reducible apply KeptBy.next | with_reducible apply KeptBy.ite | with_reducible assumption | intro _
    | with_reducible apply State.pda_kept | with_reducible apply State.tcSettle_kept
    | with_reducible apply State.attachSrc_kept | with_reducible apply State.rpFollow_kept
    | with_reducible apply State.tcFlt_kept | with_reducible apply State.modTc_kept
    | with_reducible apply State.tcTo_kept | with_reducible apply Kept.ite | dsimp only

theorem execDrpTryTimeout_kept {z s : State} (p : Fin 4) (hs : Kept z s) : KeptBy z (execDrpTryTimeout p s) := by
  unfold execDrpTryTimeout
  repeat' first
    | with_reducible apply KeptBy.next | with_reducible apply KeptBy.ite | with_reducible assumption | intro _
    | with_reducible apply State.pda_kept | with_reducible apply State.tcSettle_kept
    | with_reducible apply State.attachSnk_kept | with_reducible apply State.modTc_kept
    | with_reducible apply Kept.ite | dsimp only

theorem execCcOpen_kept {z s : State} (p : Fin 4) (hs : Kept z s) : KeptBy z (execCcOpen p s) := by
  unfold execCcOpen
  repeat' first
    | with_reducible apply KeptBy.next | with_reducible apply KeptBy.ite | with_reducible assumption | intro _
    | with_reducible apply State.pda_kept | with_reducible apply State.tcLeave_kept | with_reducible apply Kept.ite
    | dsimp only

theorem execVbusLoss_kept {z s : State} (p : Fin 4) (hs : Kept z s) : KeptBy z (execVbusLoss p s) := by
  unfold execVbusLoss
  repeat' first
    | with_reducible apply KeptBy.next | with_reducible apply KeptBy.ite | with_reducible assumption | intro _
    | with_reducible apply State.pda_kept | with_reducible apply State.tcLeave_kept
    | with_reducible apply State.sysInput_kept | with_reducible apply State.modTc_kept
    | with_reducible apply Kept.ite | dsimp only

theorem execAccessoryDetach_kept {z s : State} (p : Fin 4) (hs : Kept z s) : KeptBy z (execAccessoryDetach p s) := by
  unfold execAccessoryDetach
  repeat' first
    | with_reducible apply KeptBy.next | with_reducible apply KeptBy.ite | with_reducible assumption | intro _
    | with_reducible apply State.pda_kept | with_reducible apply State.tcLeave_kept | with_reducible apply Kept.ite
    | dsimp only

theorem execErrorRecoveryEnd_kept {z s : State} (p : Fin 4) (hs : Kept z s) : KeptBy z (execErrorRecoveryEnd p s) := by
  unfold execErrorRecoveryEnd
  repeat' first
    | with_reducible apply KeptBy.next | with_reducible apply KeptBy.ite | with_reducible assumption | intro _
    | with_reducible apply State.pda_kept | with_reducible apply State.tcFlt_kept
    | with_reducible apply State.tcTo_kept | with_reducible apply Kept.ite | dsimp only

theorem State.tcRearm_kept {z s : State} (p : Nat) (hs : Kept z s) : Kept z (State.tcRearm s p) := by
  unfold State.tcRearm
  repeat' first
    | with_reducible assumption | intro _ | with_reducible apply State.rpFollow_kept
    | with_reducible apply State.modTc_kept | with_reducible apply State.tcTo_kept | with_reducible apply Kept.ite
    | dsimp only

theorem State.tcEnable_kept {z s : State} (p : Nat) (on : Bool) (hs : Kept z s) : Kept z (State.tcEnable s p on) := by
  unfold State.tcEnable
  repeat' first
    | with_reducible assumption | intro _ | with_reducible apply State.put_kept
    | with_reducible apply State.tcRearm_kept | with_reducible apply State.tcLeave_kept
    | with_reducible apply Kept.ite | dsimp only

theorem execMoistureTest_kept {z s : State} (p : Fin 4) (kohm : Nat) (hs : Kept z s) :
    KeptBy z (execMoistureTest p kohm s) := by
  unfold execMoistureTest
  repeat' first
    | with_reducible apply KeptBy.next | with_reducible apply KeptBy.ite | with_reducible assumption | intro _
    | with_reducible apply State.pda_kept | with_reducible apply State.put_kept
    | with_reducible apply State.modTc_kept | with_reducible apply State.tcFlt_kept
    | with_reducible apply State.bump_kept | with_reducible apply State.tcLeave_kept | with_reducible apply Kept.ite
    | dsimp only

theorem execSourceCapabilities_kept {z s : State} (p : PdFrom) (epr : Bool) (objs : List Word) (hs : Kept z s) :
    KeptBy z (execSourceCapabilities p epr objs s) := by
  unfold execSourceCapabilities
  repeat' first
    | with_reducible apply KeptBy.next | with_reducible apply KeptBy.ite | with_reducible assumption | intro _
    | with_reducible apply State.each_kept | with_reducible apply State.put_kept
    | with_reducible apply State.modTc_kept | with_reducible apply State.iff_kept
    | with_reducible apply State.pdChunkAsk_kept | with_reducible apply State.tcSettle_kept
    | with_reducible apply State.sendRequest_kept | with_reducible apply State.pdAwait_kept
    | with_reducible apply Kept.ite | dsimp only

theorem State.answerRequest_kept {z s : State} (p : Nat) (rdo : Nat) (ok : Bool) (hs : Kept z s) :
    Kept z (State.answerRequest s p rdo ok) := by
  unfold State.answerRequest
  repeat' first
    | with_reducible assumption | intro _ | with_reducible apply State.pdAnswered_kept
    | with_reducible apply State.put_kept | with_reducible apply State.modTc_kept
    | with_reducible apply State.pdCtl_kept | with_reducible apply Kept.ite | dsimp only

theorem execRequest_kept {z s : State} (p : PdFrom) (rdo : Word) (hs : Kept z s) : KeptBy z (execRequest p rdo s) := by
  unfold execRequest
  repeat' first
    | with_reducible apply KeptBy.next | with_reducible apply KeptBy.ite | with_reducible assumption | intro _
    | with_reducible apply State.modTc_kept | with_reducible apply State.tcSettle_kept
    | with_reducible apply State.answerRequest_kept | with_reducible apply Kept.ite | dsimp only

theorem execEprRequest_kept {z s : State} (p : Fin 4) (rdo : Word) (pdo : Word) (hs : Kept z s) :
    KeptBy z (execEprRequest p rdo pdo s) := by
  unfold execEprRequest
  repeat' first
    | with_reducible apply KeptBy.next | with_reducible apply KeptBy.ite | with_reducible assumption | intro _
    | with_reducible apply State.tcSettle_kept | with_reducible apply State.answerRequest_kept
    | with_reducible apply Kept.ite | dsimp only

theorem execVoltageTransitionDone_kept {z s : State} (p : Fin 4) (hs : Kept z s) :
    KeptBy z (execVoltageTransitionDone p s) := by
  unfold execVoltageTransitionDone
  repeat' first
    | with_reducible apply KeptBy.next | with_reducible apply KeptBy.ite | with_reducible assumption | intro _
    | with_reducible apply State.pda_kept | with_reducible apply State.tcSettle_kept
    | with_reducible apply State.contract_kept | with_reducible apply State.pdCtl_kept | split | dsimp only

theorem State.powerRole_kept {z s : State} (p : Nat) (src : Bool) (hs : Kept z s) :
    Kept z (State.powerRole s p src) := by
  unfold State.powerRole
  repeat' first
    | with_reducible assumption | intro _ | with_reducible apply State.noContract_kept
    | with_reducible apply State.setRole_kept | with_reducible apply State.tcEnter_kept
    | with_reducible apply State.put_kept | with_reducible apply State.modTc_kept
    | with_reducible apply State.sendCaps_kept | with_reducible apply Kept.ite | dsimp only

theorem execAccept_kept {z s : State} (p : Fin 4) (hs : Kept z s) : KeptBy z (execAccept p s) := by
  unfold execAccept
  repeat' first
    | with_reducible apply KeptBy.next | with_reducible apply KeptBy.ite | with_reducible assumption | intro _
    | with_reducible apply State.tcSettle_kept | with_reducible apply State.pdAwait_kept
    | with_reducible apply State.pdAnswered_kept | with_reducible apply State.pdCtl_kept
    | with_reducible apply State.modTc_kept | with_reducible apply State.setRole_kept
    | with_reducible apply State.sendCaps_kept | with_reducible apply Kept.ite | split | dsimp only

theorem State.dropDiscovery_kept {z s : State} (p : Nat) (k : Nat) (hs : Kept z s) :
    Kept z (State.dropDiscovery s p k) := by
  unfold State.dropDiscovery
  repeat' first
    | with_reducible assumption | intro _ | with_reducible apply State.modTc_kept | with_reducible apply Kept.ite
    | dsimp only

theorem State.autoEnds_kept {z s : State} (p : Nat) (k : Nat) (hs : Kept z s) : Kept z (State.autoEnds s p k) := by
  unfold State.autoEnds
  repeat' first
    | with_reducible assumption | intro _ | with_reducible apply State.modTc_kept | with_reducible apply Kept.ite
    | dsimp only

theorem State.pdRefused_kept {z s : State} (p : Nat) (hs : Kept z s) : Kept z (State.pdRefused s p) := by
  unfold State.pdRefused
  repeat' first
    | with_reducible assumption | intro _ | with_reducible apply State.tcSettle_kept
    | with_reducible apply State.pdAnswered_kept | with_reducible apply State.autoEnds_kept
    | with_reducible apply State.dropDiscovery_kept | split | dsimp only

theorem execReject_kept {z s : State} (p : Fin 4) (hs : Kept z s) : KeptBy z (execReject p s) := by
  unfold execReject
  repeat' first
    | with_reducible apply KeptBy.next | with_reducible apply KeptBy.ite | with_reducible assumption | intro _
    | with_reducible apply State.pdRefused_kept | with_reducible apply Kept.ite | dsimp only

theorem execWait_kept {z s : State} (p : Fin 4) (hs : Kept z s) : KeptBy z (execWait p s) := by
  unfold execWait
  repeat' first
    | with_reducible apply KeptBy.next | with_reducible apply KeptBy.ite | with_reducible assumption | intro _
    | with_reducible apply State.tcSettle_kept | with_reducible apply State.pdAnswered_kept
    | with_reducible apply State.iff_kept | with_reducible apply State.modTc_kept
    | with_reducible apply State.autoEnds_kept | with_reducible apply State.dropDiscovery_kept
    | with_reducible apply Kept.ite | split | dsimp only

theorem execPsRdy_kept {z s : State} (p : Fin 4) (hs : Kept z s) : KeptBy z (execPsRdy p s) := by
  unfold execPsRdy
  repeat' first
    | with_reducible apply KeptBy.next | with_reducible apply KeptBy.ite | with_reducible assumption | intro _
    | with_reducible apply State.tcSettle_kept | with_reducible apply State.contract_kept
    | with_reducible apply State.pdAnswered_kept | with_reducible apply State.powerRole_kept
    | with_reducible apply State.pdCtl_kept | with_reducible apply State.setRole_kept
    | with_reducible apply State.tcFlt_kept | with_reducible apply Kept.ite | split | dsimp only

theorem execCableIdentityResponse_kept {z s : State} (p : Fin 4) (answered : Bool) (active : Bool) (vdo : Word) (hs :
    Kept z s) : KeptBy z (execCableIdentityResponse p answered active vdo s) := by
  unfold execCableIdentityResponse
  repeat' first
    | with_reducible apply KeptBy.next | with_reducible apply KeptBy.ite | with_reducible assumption | intro _
    | with_reducible apply State.tcSettle_kept | with_reducible apply State.pdAnswered_kept
    | with_reducible apply State.put_kept | with_reducible apply State.tcEvt_kept
    | with_reducible apply State.pdSend_kept | with_reducible apply State.sendCaps_kept
    | with_reducible apply State.eprTry_kept | with_reducible apply State.sendRequest_kept
    | with_reducible apply Kept.ite | dsimp only

theorem execGetSourceCap_kept {z s : State} (p : Fin 4) (hs : Kept z s) : KeptBy z (execGetSourceCap p s) := by
  unfold execGetSourceCap
  repeat' first
    | with_reducible apply KeptBy.next | with_reducible apply KeptBy.ite | with_reducible assumption | intro _
    | with_reducible apply State.tcSettle_kept | with_reducible apply State.sendCaps_kept
    | with_reducible apply State.pdSend_kept | with_reducible apply Kept.ite | dsimp only

theorem execGetSinkCap_kept {z s : State} (p : Fin 4) (hs : Kept z s) : KeptBy z (execGetSinkCap p s) := by
  unfold execGetSinkCap
  repeat' first
    | with_reducible apply KeptBy.next | with_reducible apply KeptBy.ite | with_reducible assumption | intro _
    | with_reducible apply State.pdSend_kept | with_reducible apply Kept.ite | dsimp only

theorem execSinkCapabilities_kept {z s : State} (p : Fin 4) (objs : List Word) (hs : Kept z s) :
    KeptBy z (execSinkCapabilities p objs s) := by
  unfold execSinkCapabilities
  repeat' first
    | with_reducible apply KeptBy.next | with_reducible apply KeptBy.ite | with_reducible assumption | intro _
    | with_reducible apply State.iff_kept | with_reducible apply State.each_kept
    | with_reducible apply State.put_kept | with_reducible apply State.modTc_kept
    | with_reducible apply State.tcSettle_kept | with_reducible apply Kept.ite | dsimp only

theorem execPrSwap_kept {z s : State} (p : Fin 4) (hs : Kept z s) : KeptBy z (execPrSwap p s) := by
  unfold execPrSwap
  repeat' first
    | with_reducible apply KeptBy.next | with_reducible apply KeptBy.ite | with_reducible assumption | intro _
    | with_reducible apply State.pdCtl_kept | with_reducible apply State.modTc_kept
    | with_reducible apply State.tcSettle_kept | with_reducible apply State.pdAwait_kept
    | with_reducible apply Kept.ite | dsimp only

theorem execDrSwap_kept {z s : State} (p : Fin 4) (hs : Kept z s) : KeptBy z (execDrSwap p s) := by
  unfold execDrSwap
  repeat' first
    | with_reducible apply KeptBy.next | with_reducible apply KeptBy.ite | with_reducible assumption | intro _
    | with_reducible apply State.pdCtl_kept | with_reducible apply State.tcSettle_kept
    | with_reducible apply State.setRole_kept | with_reducible apply Kept.ite | dsimp only

theorem execVconnSwap_kept {z s : State} (p : Fin 4) (hs : Kept z s) : KeptBy z (execVconnSwap p s) := by
  unfold execVconnSwap
  repeat' first
    | with_reducible apply KeptBy.next | with_reducible apply KeptBy.ite | with_reducible assumption | intro _
    | with_reducible apply State.pdCtl_kept | with_reducible apply State.tcSettle_kept
    | with_reducible apply State.setRole_kept | with_reducible apply State.pdAwait_kept
    | with_reducible apply Kept.ite | dsimp only

theorem execFrSwapSignal_kept {z s : State} (p : Fin 4) (hs : Kept z s) : KeptBy z (execFrSwapSignal p s) := by
  unfold execFrSwapSignal
  repeat' first
    | with_reducible apply KeptBy.next | with_reducible apply KeptBy.ite | with_reducible assumption | intro _
    | with_reducible apply State.pda_kept | with_reducible apply State.sysInput_kept
    | with_reducible apply State.modTc_kept | with_reducible apply Kept.ite | dsimp only

theorem execFrSwap_kept {z s : State} (p : Fin 4) (hs : Kept z s) : KeptBy z (execFrSwap p s) := by
  unfold execFrSwap
  repeat' first
    | with_reducible apply KeptBy.next | with_reducible apply KeptBy.ite | with_reducible assumption | intro _
    | with_reducible apply State.tcSettle_kept | with_reducible apply State.pdAwait_kept
    | with_reducible apply State.pdCtl_kept | with_reducible apply Kept.ite | dsimp only

theorem execSoftReset_kept {z s : State} (p : Fin 4) (hs : Kept z s) : KeptBy z (execSoftReset p s) := by
  unfold execSoftReset
  repeat' first
    | with_reducible apply KeptBy.next | with_reducible apply KeptBy.ite | with_reducible assumption | intro _
    | with_reducible apply State.bump_kept | with_reducible apply State.modTc_kept
    | with_reducible apply State.pdCtl_kept | with_reducible apply State.tcSettle_kept
    | with_reducible apply State.sendCaps_kept | with_reducible apply Kept.ite | dsimp only

theorem execHardResetReceived_kept {z s : State} (p : Fin 4) (hs : Kept z s) :
    KeptBy z (execHardResetReceived p s) := by
  unfold execHardResetReceived
  repeat' first
    | with_reducible apply KeptBy.next | with_reducible apply KeptBy.ite | with_reducible assumption | intro _
    | with_reducible apply State.tcSettle_kept | with_reducible apply State.hardReset_kept
    | with_reducible apply Kept.ite | dsimp only

theorem execEprMode_kept {z s : State} (p : Fin 4) (obj : Word) (hs : Kept z s) : KeptBy z (execEprMode p obj s) := by
  unfold execEprMode
  repeat' first
    | with_reducible apply KeptBy.next | with_reducible apply KeptBy.ite | with_reducible assumption | intro _
    | with_reducible apply State.pdSend_kept | with_reducible apply State.tcSettle_kept
    | with_reducible apply State.sendCaps_kept | with_reducible apply State.put_kept
    | with_reducible apply State.pdAwait_kept | with_reducible apply State.pdAnswered_kept
    | with_reducible apply Kept.ite | dsimp only

theorem execEprKeepalive_kept {z s : State} (p : Fin 4) (hs : Kept z s) : KeptBy z (execEprKeepalive p s) := by
  unfold execEprKeepalive
  repeat' first
    | with_reducible apply KeptBy.next | with_reducible apply KeptBy.ite | with_reducible assumption | intro _
    | with_reducible apply State.pdExt_kept | with_reducible apply Kept.ite | dsimp only

theorem execAlert_kept {z s : State} (p : Fin 4) (ado : Word) (hs : Kept z s) : KeptBy z (execAlert p ado s) := by
  unfold execAlert
  repeat' first
    | with_reducible apply KeptBy.next | with_reducible apply KeptBy.ite | with_reducible assumption | intro _
    | with_reducible apply State.tcEvt_kept | with_reducible apply State.put_kept | with_reducible apply Kept.ite
    | dsimp only

theorem State.tookMany_kept {z s : State} (n : Nat) (hs : Kept z s) : Kept z (State.tookMany s n) := by
  unfold State.tookMany
  repeat' first
    | with_reducible assumption | intro _ | simp only [Kept.mk_iff] | with_reducible apply Kept.parts | dsimp only

theorem State.pdOther_kept {z s : State} (p : Nat) (x1 : PdMsg) (hs : Kept z s) : Kept z (State.pdOther s p x1) := by
  unfold State.pdOther
  repeat' first
    | with_reducible assumption | intro _ | with_reducible apply State.pdCtl_kept
    | with_reducible apply State.tcSettle_kept | with_reducible apply State.pdAnswered_kept
    | with_reducible apply State.pdRefused_kept | with_reducible apply State.pdExt_kept
    | with_reducible apply State.tookMany_kept | with_reducible apply State.put_kept
    | with_reducible apply State.modTc_kept | with_reducible apply State.pdChunkAsk_kept
    | with_reducible apply State.iff_kept | with_reducible apply State.each_kept
    | with_reducible apply State.emit_kept | with_reducible apply State.pdChunk_kept | with_reducible apply Kept.ite
    | split | dsimp only

theorem execUnsupportedMessage_kept {z s : State} (m : PdOther) (hs : Kept z s) :
    KeptBy z (execUnsupportedMessage m s) := by
  unfold execUnsupportedMessage
  repeat' first
    | with_reducible apply KeptBy.next | with_reducible apply KeptBy.ite | with_reducible assumption | intro _
    | with_reducible apply State.pdOther_kept | with_reducible apply Kept.ite | dsimp only

theorem State.vdmReply_kept {z s : State} (p : Nat) (svid : Nat) (ack : Bool) (cmd : Nat) (pos : Nat) (objs : List
    Word) (hs : Kept z s) : Kept z (State.vdmReply s p svid ack cmd pos objs) := by
  unfold State.vdmReply
  repeat' first
    | with_reducible assumption | intro _ | with_reducible apply State.pdSend_kept | with_reducible apply Kept.ite
    | dsimp only

theorem execDiscoverIdentity_kept {z s : State} (p : Fin 4) (hs : Kept z s) : KeptBy z (execDiscoverIdentity p s) := by
  unfold execDiscoverIdentity
  repeat' first
    | with_reducible apply KeptBy.next | with_reducible apply KeptBy.ite | with_reducible assumption | intro _
    | with_reducible apply State.vdmReply_kept | with_reducible apply Kept.ite | dsimp only

theorem execDiscoverSvids_kept {z s : State} (p : Fin 4) (hs : Kept z s) : KeptBy z (execDiscoverSvids p s) := by
  unfold execDiscoverSvids
  repeat' first
    | with_reducible apply KeptBy.next | with_reducible apply KeptBy.ite | with_reducible assumption | intro _
    | with_reducible apply State.vdmReply_kept | with_reducible apply Kept.ite | dsimp only

theorem execDiscoverModes_kept {z s : State} (p : Fin 4) (svid : BitVec 16) (hs : Kept z s) :
    KeptBy z (execDiscoverModes p svid s) := by
  unfold execDiscoverModes
  repeat' first
    | with_reducible apply KeptBy.next | with_reducible apply KeptBy.ite | with_reducible assumption | intro _
    | with_reducible apply State.vdmReply_kept | with_reducible apply Kept.ite | dsimp only

theorem execEnterMode_kept {z s : State} (p : Fin 4) (svid : BitVec 16) (mode : Fin 8) (vdo : Word) (hs : Kept z s) :
    KeptBy z (execEnterMode p svid mode vdo s) := by
  unfold execEnterMode
  repeat' first
    | with_reducible apply KeptBy.next | with_reducible apply KeptBy.ite | with_reducible assumption | intro _
    | with_reducible apply State.put_kept | with_reducible apply State.vdmReply_kept
    | with_reducible apply State.tryRef_kept | with_reducible apply State.modLink_kept
    | with_reducible apply Kept.ite | split | dsimp only

theorem execExitMode_kept {z s : State} (p : Fin 4) (svid : BitVec 16) (hs : Kept z s) :
    KeptBy z (execExitMode p svid s) := by
  unfold execExitMode
  repeat' first
    | with_reducible apply KeptBy.next | with_reducible apply KeptBy.ite | with_reducible assumption | intro _
    | with_reducible apply State.modeExit_kept | with_reducible apply State.vdmReply_kept
    | with_reducible apply Kept.ite | dsimp only

theorem execSenderResponseTimeout_kept {z s : State} (p : Fin 4) (hs : Kept z s) :
    KeptBy z (execSenderResponseTimeout p s) := by
  unfold execSenderResponseTimeout
  repeat' first
    | with_reducible apply KeptBy.next | with_reducible apply KeptBy.ite | with_reducible assumption | intro _
    | with_reducible apply State.tcSettle_kept | with_reducible apply State.pdAnswered_kept
    | with_reducible apply State.pdEscalate_kept | with_reducible apply Kept.ite | split | dsimp only

theorem execNoResponseTimeout_kept {z s : State} (p : Fin 4) (hs : Kept z s) :
    KeptBy z (execNoResponseTimeout p s) := by
  unfold execNoResponseTimeout
  repeat' first
    | with_reducible apply KeptBy.next | with_reducible apply KeptBy.ite | with_reducible assumption | intro _
    | with_reducible apply State.tcSettle_kept | with_reducible apply State.hardReset_kept
    | with_reducible apply State.modTc_kept | with_reducible apply State.errorRecovery_kept
    | with_reducible apply Kept.ite | dsimp only

theorem execPsTransitionTimeout_kept {z s : State} (p : Fin 4) (hs : Kept z s) :
    KeptBy z (execPsTransitionTimeout p s) := by
  unfold execPsTransitionTimeout
  repeat' first
    | with_reducible apply KeptBy.next | with_reducible apply KeptBy.ite | with_reducible assumption | intro _
    | with_reducible apply State.tcSettle_kept | with_reducible apply State.pdEscalate_kept
    | with_reducible apply Kept.ite | split | dsimp only

theorem execPpsTimeout_kept {z s : State} (p : Fin 4) (hs : Kept z s) : KeptBy z (execPpsTimeout p s) := by
  unfold execPpsTimeout
  repeat' first
    | with_reducible apply KeptBy.next | with_reducible apply KeptBy.ite | with_reducible assumption | intro _
    | with_reducible apply State.tcSettle_kept | with_reducible apply State.hardReset_kept
    | with_reducible apply Kept.ite | dsimp only

theorem execEprKeepaliveTimeout_kept {z s : State} (p : Fin 4) (hs : Kept z s) :
    KeptBy z (execEprKeepaliveTimeout p s) := by
  unfold execEprKeepaliveTimeout
  repeat' first
    | with_reducible apply KeptBy.next | with_reducible apply KeptBy.ite | with_reducible assumption | intro _
    | with_reducible apply State.tcSettle_kept | with_reducible apply State.hardReset_kept
    | with_reducible apply Kept.ite | dsimp only

theorem State.pdAlert_kept {z s : State} (p : Nat) (i : Nat) (hs : Kept z s) : Kept z (State.pdAlert s p i) := by
  unfold State.pdAlert
  repeat' first
    | with_reducible assumption | intro _ | with_reducible apply State.pdSend_kept | with_reducible apply Kept.ite
    | dsimp only

theorem execVbusOcp_kept {z s : State} (p : Fin 4) (hs : Kept z s) : KeptBy z (execVbusOcp p s) := by
  unfold execVbusOcp
  repeat' first
    | with_reducible apply KeptBy.next | with_reducible apply KeptBy.ite | with_reducible assumption | intro _
    | with_reducible apply State.tcFlt_kept | with_reducible apply State.modTc_kept
    | with_reducible apply State.tcSettle_kept | with_reducible apply State.hardReset_kept
    | with_reducible apply State.pdAlert_kept | with_reducible apply State.pda_kept | with_reducible apply Kept.ite
    | dsimp only

theorem execVconnOcp_kept {z s : State} (p : Fin 4) (hs : Kept z s) : KeptBy z (execVconnOcp p s) := by
  unfold execVconnOcp
  repeat' first
    | with_reducible apply KeptBy.next | with_reducible apply KeptBy.ite | with_reducible assumption | intro _
    | with_reducible apply State.pda_kept | with_reducible apply State.tcFlt_kept
    | with_reducible apply State.modTc_kept | with_reducible apply State.setRole_kept | with_reducible apply Kept.ite
    | dsimp only

theorem execCcOpenInTransition_kept {z s : State} (p : Fin 4) (hs : Kept z s) :
    KeptBy z (execCcOpenInTransition p s) := by
  unfold execCcOpenInTransition
  repeat' first
    | with_reducible apply KeptBy.next | with_reducible apply KeptBy.ite | with_reducible assumption | intro _
    | with_reducible apply State.tcLeave_kept | with_reducible apply Kept.ite | dsimp only

theorem execHamadaThermalLimit_kept {z s : State} (p : Fin 4) (hs : Kept z s) :
    KeptBy z (execHamadaThermalLimit p s) := by
  unfold execHamadaThermalLimit
  repeat' first
    | with_reducible apply KeptBy.next | with_reducible apply KeptBy.ite | with_reducible assumption | intro _
    | with_reducible apply State.pdAlert_kept | with_reducible apply Kept.ite | dsimp only

theorem State.frsTrip_kept {z s : State} (hs : Kept z s) : Kept z (State.frsTrip s) := by
  unfold State.frsTrip
  repeat' first
    | with_reducible assumption | intro _ | with_reducible apply State.put_kept
    | with_reducible apply State.bump_kept | with_reducible apply State.each_kept
    | with_reducible apply State.emit_kept | with_reducible apply State.modTc_kept
    | with_reducible apply State.pdAwait_kept | with_reducible apply State.pdCtl_kept
    | with_reducible apply State.sysInput_kept | with_reducible apply Kept.ite | dsimp only

theorem State.localSupply_kept {z s : State} (ok : Bool) (hs : Kept z s) : Kept z (State.localSupply s ok) := by
  unfold State.localSupply
  repeat' first
    | with_reducible assumption | intro _ | with_reducible apply State.put_kept | simp only [Kept.mk_iff]
    | with_reducible apply Kept.parts | with_reducible apply Kept.ite | dsimp only

theorem execSystemInputChange_kept {z s : State} (localOk : Bool) (hs : Kept z s) :
    KeptBy z (execSystemInputChange localOk s) := by
  unfold execSystemInputChange
  repeat' first
    | with_reducible apply KeptBy.next | with_reducible apply KeptBy.ite | with_reducible assumption | intro _
    | with_reducible apply State.pda_kept | with_reducible apply State.sysInput_kept
    | with_reducible apply State.localSupply_kept | dsimp only

theorem State.pdKeep_kept {z s : State} (p : Nat) (hs : Kept z s) : Kept z (State.pdKeep s p) := by
  unfold State.pdKeep
  repeat' first
    | with_reducible assumption | intro _ | with_reducible apply State.iff_kept
    | with_reducible apply State.pdExt_kept | with_reducible apply State.sendRequest_kept
    | with_reducible apply Kept.ite | dsimp only

theorem execPdKeepalive_kept {z s : State} (p : Fin 4) (prevOpen : Bool) (hs : Kept z s) :
    KeptBy z (execPdKeepalive p prevOpen s) := by
  unfold execPdKeepalive
  repeat' first
    | with_reducible apply KeptBy.next | with_reducible apply KeptBy.ite | with_reducible assumption | intro _
    | with_reducible apply State.chore_kept | with_reducible apply State.pdKeep_kept | dsimp only

theorem execSleepPdKeepalive_kept {z s : State} (hs : Kept z s) : KeptBy z (execSleepPdKeepalive s) := by
  unfold execSleepPdKeepalive
  repeat' first
    | with_reducible apply KeptBy.next | with_reducible apply KeptBy.ite | with_reducible assumption | intro _
    | with_reducible apply State.each_kept | with_reducible apply State.pdKeep_kept | with_reducible apply Kept.ite
    | dsimp only

theorem State.tcApply_kept {z s : State} (p : Nat) (body : List Word) (quiet : Bool) (hs : Kept z s) :
    Kept z (State.tcApply s p body quiet) := by
  unfold State.tcApply
  repeat' first
    | with_reducible assumption | intro _ | with_reducible apply State.each_kept
    | with_reducible apply State.put_kept | with_reducible apply State.modTc_kept
    | with_reducible apply State.rpFollow_kept | with_reducible apply State.tcSettle_kept
    | with_reducible apply State.sendCaps_kept | with_reducible apply State.sysInput_kept
    | with_reducible apply Kept.ite | dsimp only

theorem State.tcAfterWarm_kept {z s : State} (hs : Kept z s) : Kept z (State.tcAfterWarm s) := by
  unfold State.tcAfterWarm
  repeat' first
    | with_reducible assumption | intro _ | with_reducible apply State.each_kept
    | with_reducible apply State.softReset_kept | with_reducible apply Kept.ite | dsimp only

theorem State.tcAsk_kept {z s : State} (p : Nat) (a : PdAct) (hs : Kept z s) : Kept z (State.tcAsk s p a) := by
  unfold State.tcAsk
  repeat' first
    | with_reducible assumption | intro _ | with_reducible apply State.tcSettle_kept
    | with_reducible apply State.modTc_kept | with_reducible apply State.put_kept | with_reducible apply Kept.ite
    | split | dsimp only

theorem State.modEf_kept {z s : State} (c : Nat) (f : EfChan → EfChan) (hs : Kept z s) :
    Kept z (State.modEf s c f) := by
  unfold State.modEf
  repeat' first
    | with_reducible assumption | intro _ | simp only [Kept.mk_iff] | with_reducible apply Kept.parts | split
    | dsimp only

theorem State.efEvt_kept {z s : State} (c : Nat) (i : Nat) (hs : Kept z s) : Kept z (State.efEvt s c i) := by
  unfold State.efEvt
  repeat' first
    | with_reducible assumption | intro _ | with_reducible apply State.raise_kept | dsimp only

theorem State.efTo_kept {z s : State} (c : Nat) (st : Nat) (hs : Kept z s) : Kept z (State.efTo s c st) := by
  unfold State.efTo
  repeat' first
    | with_reducible assumption | intro _ | with_reducible apply State.modEf_kept
    | with_reducible apply State.efEvt_kept | with_reducible apply State.put_kept
    | with_reducible apply State.setBit_kept | with_reducible apply State.clrBit_kept | with_reducible apply Kept.ite
    | dsimp only

theorem State.efPg_kept {z s : State} (c : Nat) (v : Bool) (hs : Kept z s) : Kept z (State.efPg s c v) := by
  unfold State.efPg
  repeat' first
    | with_reducible assumption | intro _ | with_reducible apply State.pxPerst_kept
    | with_reducible apply State.efEvt_kept | with_reducible apply State.put_kept | with_reducible apply Kept.ite
    | dsimp only

theorem State.efGatesOff_kept {z s : State} (c : Nat) (hs : Kept z s) : Kept z (State.efGatesOff s c) := by
  unfold State.efGatesOff
  repeat' first
    | with_reducible assumption | intro _ | with_reducible apply State.modEf_kept
    | with_reducible apply State.efPg_kept | with_reducible apply State.put_kept | dsimp only

theorem State.efDown_kept {z s : State} (c : Nat) (st : Nat) (hs : Kept z s) : Kept z (State.efDown s c st) := by
  unfold State.efDown
  repeat' first
    | with_reducible assumption | intro _ | with_reducible apply State.efTo_kept
    | with_reducible apply State.efGatesOff_kept | dsimp only

theorem State.efFault_kept {z s : State} (c : Nat) (cause : Nat) (hs : Kept z s) :
    Kept z (State.efFault s c cause) := by
  unfold State.efFault
  repeat' first
    | with_reducible assumption | intro _ | with_reducible apply State.efGatesOff_kept
    | with_reducible apply State.put_kept | with_reducible apply State.efTo_kept
    | with_reducible apply State.bump_kept | with_reducible apply State.efEvt_kept | dsimp only

theorem State.efTry_kept {z s : State} (c : Nat) (hs : Kept z s) : Kept z (State.efTry s c) := by
  unfold State.efTry
  repeat' first
    | with_reducible assumption | intro _ | with_reducible apply State.efTo_kept | with_reducible apply Kept.ite
    | dsimp only

theorem State.efLose_kept {z s : State} (c : Nat) (hs : Kept z s) : Kept z (State.efLose s c) := by
  unfold State.efLose
  repeat' first
    | with_reducible assumption | intro _ | with_reducible apply State.efDown_kept | with_reducible apply Kept.ite
    | dsimp only

theorem State.clearance_kept {z s : State} (c : Nat) (hs : Kept z s) : Kept z (State.clearance s c) := by
  unfold State.clearance
  repeat' first
    | with_reducible assumption | intro _ | with_reducible apply State.put_kept
    | with_reducible apply State.efTry_kept | with_reducible apply State.efLose_kept | with_reducible apply Kept.ite
    | split | dsimp only

theorem State.efFinding_kept {z s : State} (c : Nat) (finding : Nat) (fet : Nat) (damage : Bool) (hs : Kept z s) :
    Kept z (State.efFinding s c finding fet damage) := by
  unfold State.efFinding
  repeat' first
    | with_reducible assumption | intro _ | with_reducible apply State.logHw_kept
    | with_reducible apply State.notice_kept | with_reducible apply State.efEvt_kept | with_reducible apply Kept.ite
    | dsimp only

theorem State.efSpare_kept {z s : State} (c : Nat) (hs : Kept z s) : Kept z (State.efSpare s c) := by
  unfold State.efSpare
  repeat' first
    | with_reducible assumption | intro _ | with_reducible apply State.put_kept | dsimp only

theorem State.efDrive_kept {z s : State} (c : Nat) (both : Bool) (hs : Kept z s) :
    Kept z (State.efDrive s c both) := by
  unfold State.efDrive
  repeat' first
    | with_reducible assumption | intro _ | with_reducible apply State.modEf_kept | with_reducible apply Kept.ite
    | dsimp only

theorem State.efSwitch_kept {z s : State} (c : Nat) (hs : Kept z s) : Kept z (State.efSwitch s c) := by
  unfold State.efSwitch
  repeat' first
    | with_reducible assumption | intro _ | with_reducible apply State.put_kept
    | with_reducible apply State.took_kept | with_reducible apply State.modEf_kept
    | with_reducible apply State.efDrive_kept | with_reducible apply State.bump_kept
    | with_reducible apply State.efSpare_kept | with_reducible apply State.spareTookOver_kept
    | with_reducible apply State.efEvt_kept | with_reducible apply Kept.ite | dsimp only

theorem State.efStuck_kept {z s : State} (c : Nat) (hs : Kept z s) : Kept z (State.efStuck s c) := by
  unfold State.efStuck
  repeat' first
    | with_reducible assumption | intro _ | with_reducible apply State.modEf_kept
    | with_reducible apply State.efSpare_kept | with_reducible apply State.efFinding_kept
    | with_reducible apply State.efSwitch_kept | with_reducible apply State.efFault_kept
    | with_reducible apply Kept.ite | dsimp only

theorem State.efTemp_kept {z s : State} (c : Nat) (t : Rat) (hs : Kept z s) : Kept z (State.efTemp s c t) := by
  unfold State.efTemp
  repeat' first
    | with_reducible assumption | intro _ | with_reducible apply State.put_kept
    | with_reducible apply State.modEf_kept | with_reducible apply State.bump_kept
    | with_reducible apply State.efFault_kept | with_reducible apply Kept.ite | split | dsimp only

theorem State.efModel_kept {z s : State} (c : Nat) (hs : Kept z s) : Kept z (State.efModel s c) := by
  unfold State.efModel
  repeat' first
    | with_reducible assumption | intro _ | with_reducible apply State.modEf_kept
    | with_reducible apply State.efTemp_kept | with_reducible apply Kept.ite | dsimp only

theorem State.efStep_kept {z s : State} (c : Nat) (own : Bool) (hs : Kept z s) : Kept z (State.efStep s c own) := by
  unfold State.efStep
  repeat' first
    | with_reducible assumption | intro _ | with_reducible apply State.efModel_kept
    | with_reducible apply State.put_kept | with_reducible apply State.modEf_kept | dsimp only

theorem execEfuseThermal_kept {z s : State} (c : Fin 8) (prevOpen : Bool) (hs : Kept z s) :
    KeptBy z (execEfuseThermal c prevOpen s) := by
  unfold execEfuseThermal
  repeat' first
    | with_reducible apply KeptBy.next | with_reducible apply KeptBy.ite | with_reducible assumption | intro _
    | with_reducible apply State.chore_kept | with_reducible apply State.efStep_kept | with_reducible apply Kept.ite
    | dsimp only

theorem execThermalSelfStep_kept {z s : State} (c : Fin 8) (hs : Kept z s) : KeptBy z (execThermalSelfStep c s) := by
  unfold execThermalSelfStep
  repeat' first
    | with_reducible apply KeptBy.next | with_reducible apply KeptBy.ite | with_reducible assumption | intro _
    | with_reducible apply State.pda_kept | with_reducible apply State.efStep_kept | with_reducible apply Kept.ite
    | dsimp only

theorem State.efTick_kept {z s : State} (c : Nat) (m : EfMeas) (hs : Kept z s) : Kept z (State.efTick s c m) := by
  unfold State.efTick
  repeat' first
    | with_reducible assumption | intro _ | with_reducible apply State.put_kept
    | with_reducible apply State.efTemp_kept | with_reducible apply Kept.ite | dsimp only

theorem State.efLetGo_kept {z s : State} (c : Nat) (hs : Kept z s) : Kept z (State.efLetGo s c) := by
  unfold State.efLetGo
  repeat' first
    | with_reducible assumption | intro _ | with_reducible apply State.efDrive_kept
    | with_reducible apply State.modEf_kept | with_reducible apply Kept.ite | split | dsimp only

theorem State.efTicks_kept {z s : State} (ms : List EfMeas) (hs : Kept z s) : Kept z (State.efTicks s ms) := by
  unfold State.efTicks
  repeat' first
    | with_reducible assumption | intro _ | with_reducible apply State.each_kept
    | with_reducible apply State.efTick_kept | with_reducible apply State.efLetGo_kept
    | with_reducible apply Kept.ite | with_reducible apply Kept.foldl | dsimp only

theorem State.efOn_kept {z s : State} (c : Nat) (on : Bool) (hs : Kept z s) : Kept z (State.efOn s c on) := by
  unfold State.efOn
  repeat' first
    | with_reducible assumption | intro _ | with_reducible apply State.put_kept
    | with_reducible apply State.efTry_kept | with_reducible apply State.efLose_kept | with_reducible apply Kept.ite
    | dsimp only

theorem State.efClear_kept {z s : State} (c : Nat) (hs : Kept z s) : Kept z (State.efClear s c) := by
  unfold State.efClear
  repeat' first
    | with_reducible assumption | intro _ | with_reducible apply State.efTry_kept
    | with_reducible apply State.efTo_kept | with_reducible apply State.put_kept | with_reducible apply Kept.ite
    | dsimp only

theorem State.efEnable_kept {z s : State} (c : Nat) (on : Bool) (hs : Kept z s) : Kept z (State.efEnable s c on) := by
  unfold State.efEnable
  repeat' first
    | with_reducible assumption | intro _ | with_reducible apply State.put_kept
    | with_reducible apply State.efTry_kept | with_reducible apply State.efDown_kept | with_reducible apply Kept.ite
    | dsimp only

theorem execInsertionDelayEnd_kept {z s : State} (c : Fin 8) (hs : Kept z s) :
    KeptBy z (execInsertionDelayEnd c s) := by
  unfold execInsertionDelayEnd
  repeat' first
    | with_reducible apply KeptBy.next | with_reducible apply KeptBy.ite | with_reducible assumption | intro _
    | with_reducible apply State.modEf_kept | with_reducible apply State.efDrive_kept
    | with_reducible apply State.efTo_kept | with_reducible apply Kept.ite | dsimp only

theorem execSlewEnd_kept {z s : State} (c : Fin 8) (hs : Kept z s) : KeptBy z (execSlewEnd c s) := by
  unfold execSlewEnd
  repeat' first
    | with_reducible apply KeptBy.next | with_reducible apply KeptBy.ite | with_reducible assumption | intro _
    | with_reducible apply State.pda_kept | with_reducible apply State.modEf_kept | with_reducible apply Kept.ite
    | dsimp only

theorem execShortedBSample_kept {z s : State} (c : Fin 8) (mv : Nat) (hs : Kept z s) :
    KeptBy z (execShortedBSample c mv s) := by
  unfold execShortedBSample
  repeat' first
    | with_reducible apply KeptBy.next | with_reducible apply KeptBy.ite | with_reducible assumption | intro _
    | with_reducible apply State.pda_kept | with_reducible apply State.efFinding_kept
    | with_reducible apply State.put_kept | with_reducible apply State.efDrive_kept | with_reducible apply Kept.ite
    | dsimp only

theorem execPowerGoodAssert_kept {z s : State} (c : Fin 8) (hs : Kept z s) : KeptBy z (execPowerGoodAssert c s) := by
  unfold execPowerGoodAssert
  repeat' first
    | with_reducible apply KeptBy.next | with_reducible apply KeptBy.ite | with_reducible assumption | intro _
    | with_reducible apply State.pda_kept | with_reducible apply State.modEf_kept
    | with_reducible apply State.efDrive_kept | with_reducible apply State.efPg_kept
    | with_reducible apply State.bump_kept | with_reducible apply State.efTo_kept | with_reducible apply Kept.ite
    | dsimp only

theorem execVoutLeavesWindow_kept {z s : State} (c : Fin 8) (hs : Kept z s) : KeptBy z (execVoutLeavesWindow c s) := by
  unfold execVoutLeavesWindow
  repeat' first
    | with_reducible apply KeptBy.next | with_reducible apply KeptBy.ite | with_reducible assumption | intro _
    | with_reducible apply State.pda_kept | with_reducible apply State.efPg_kept
    | with_reducible apply State.modEf_kept | with_reducible apply Kept.ite | dsimp only

theorem execPgLost_kept {z s : State} (c : Fin 8) (hs : Kept z s) : KeptBy z (execPgLost c s) := by
  unfold execPgLost
  repeat' first
    | with_reducible apply KeptBy.next | with_reducible apply KeptBy.ite | with_reducible assumption | intro _
    | with_reducible apply State.pda_kept | with_reducible apply State.efFault_kept | with_reducible apply Kept.ite
    | dsimp only

theorem execRampTimeout_kept {z s : State} (c : Fin 8) (fullDrive : Bool) (hs : Kept z s) :
    KeptBy z (execRampTimeout c fullDrive s) := by
  unfold execRampTimeout
  repeat' first
    | with_reducible apply KeptBy.next | with_reducible apply KeptBy.ite | with_reducible assumption | intro _
    | with_reducible apply State.pda_kept | with_reducible apply State.efStuck_kept
    | with_reducible apply State.efFault_kept | with_reducible apply State.efFinding_kept
    | with_reducible apply Kept.ite | dsimp only

theorem execGateRiseTimeout_kept {z s : State} (c : Fin 8) (hs : Kept z s) : KeptBy z (execGateRiseTimeout c s) := by
  unfold execGateRiseTimeout
  repeat' first
    | with_reducible apply KeptBy.next | with_reducible apply KeptBy.ite | with_reducible assumption | intro _
    | with_reducible apply State.pda_kept | with_reducible apply State.efStuck_kept | with_reducible apply Kept.ite
    | dsimp only

theorem execLimitEpisodeStart_kept {z s : State} (c : Fin 8) (hs : Kept z s) :
    KeptBy z (execLimitEpisodeStart c s) := by
  unfold execLimitEpisodeStart
  repeat' first
    | with_reducible apply KeptBy.next | with_reducible apply KeptBy.ite | with_reducible assumption | intro _
    | with_reducible apply State.pda_kept | with_reducible apply State.put_kept | with_reducible apply Kept.ite
    | dsimp only

theorem execLimitEpisodeEnd_kept {z s : State} (c : Fin 8) (hs : Kept z s) : KeptBy z (execLimitEpisodeEnd c s) := by
  unfold execLimitEpisodeEnd
  repeat' first
    | with_reducible apply KeptBy.next | with_reducible apply KeptBy.ite | with_reducible assumption | intro _
    | with_reducible apply State.pda_kept | with_reducible apply State.put_kept | dsimp only

theorem execFaultTimerExpiry_kept {z s : State} (c : Fin 8) (hs : Kept z s) : KeptBy z (execFaultTimerExpiry c s) := by
  unfold execFaultTimerExpiry
  repeat' first
    | with_reducible apply KeptBy.next | with_reducible apply KeptBy.ite | with_reducible assumption | intro _
    | with_reducible apply State.pda_kept | with_reducible apply State.efFault_kept | with_reducible apply Kept.ite
    | dsimp only

theorem execFastTrip_kept {z s : State} (c : Fin 8) (hs : Kept z s) : KeptBy z (execFastTrip c s) := by
  unfold execFastTrip
  repeat' first
    | with_reducible apply KeptBy.next | with_reducible apply KeptBy.ite | with_reducible assumption | intro _
    | with_reducible apply State.pda_kept | with_reducible apply State.bump_kept
    | with_reducible apply State.efFault_kept | with_reducible apply State.efGatesOff_kept
    | with_reducible apply Kept.ite | dsimp only

theorem execVinOvervoltage_kept {z s : State} (c : Fin 8) (hs : Kept z s) : KeptBy z (execVinOvervoltage c s) := by
  unfold execVinOvervoltage
  repeat' first
    | with_reducible apply KeptBy.next | with_reducible apply KeptBy.ite | with_reducible assumption | intro _
    | with_reducible apply State.pda_kept | with_reducible apply State.modEf_kept
    | with_reducible apply State.efFault_kept | with_reducible apply Kept.ite | dsimp only

theorem execVinUndervoltage_kept {z s : State} (c : Fin 8) (hs : Kept z s) : KeptBy z (execVinUndervoltage c s) := by
  unfold execVinUndervoltage
  repeat' first
    | with_reducible apply KeptBy.next | with_reducible apply KeptBy.ite | with_reducible assumption | intro _
    | with_reducible apply State.pda_kept | with_reducible apply State.efLose_kept
    | with_reducible apply State.modEf_kept | dsimp only

theorem execVinWithinRange_kept {z s : State} (c : Fin 8) (hs : Kept z s) : KeptBy z (execVinWithinRange c s) := by
  unfold execVinWithinRange
  repeat' first
    | with_reducible apply KeptBy.next | with_reducible apply KeptBy.ite | with_reducible assumption | intro _
    | with_reducible apply State.pda_kept | with_reducible apply State.efTry_kept
    | with_reducible apply State.modEf_kept | dsimp only

theorem execShortedFetDetect_kept {z s : State} (c : Fin 8) (hs : Kept z s) : KeptBy z (execShortedFetDetect c s) := by
  unfold execShortedFetDetect
  repeat' first
    | with_reducible apply KeptBy.next | with_reducible apply KeptBy.ite | with_reducible assumption | intro _
    | with_reducible apply State.put_kept | with_reducible apply State.efFinding_kept
    | with_reducible apply State.efFault_kept | with_reducible apply Kept.ite | dsimp only

theorem execDegradedFet_kept {z s : State} (c : Fin 8) (hs : Kept z s) : KeptBy z (execDegradedFet c s) := by
  unfold execDegradedFet
  repeat' first
    | with_reducible apply KeptBy.next | with_reducible apply KeptBy.ite | with_reducible assumption | intro _
    | with_reducible apply State.pda_kept | with_reducible apply State.modEf_kept
    | with_reducible apply State.efFinding_kept | with_reducible apply State.put_kept
    | with_reducible apply State.efSpare_kept | with_reducible apply State.efSwitch_kept
    | with_reducible apply Kept.ite | dsimp only

theorem execReverseCurrent_kept {z s : State} (c : Fin 8) (hs : Kept z s) : KeptBy z (execReverseCurrent c s) := by
  unfold execReverseCurrent
  repeat' first
    | with_reducible apply KeptBy.next | with_reducible apply KeptBy.ite | with_reducible assumption | intro _
    | with_reducible apply State.pda_kept | with_reducible apply State.put_kept
    | with_reducible apply State.modEf_kept | with_reducible apply State.efDown_kept
    | with_reducible apply State.efFinding_kept | with_reducible apply Kept.ite | dsimp only

theorem execReverseEnd_kept {z s : State} (c : Fin 8) (hs : Kept z s) : KeptBy z (execReverseEnd c s) := by
  unfold execReverseEnd
  repeat' first
    | with_reducible apply KeptBy.next | with_reducible apply KeptBy.ite | with_reducible assumption | intro _
    | with_reducible apply State.pda_kept | with_reducible apply State.efTry_kept
    | with_reducible apply State.modEf_kept | dsimp only

theorem execRetryDelayEnd_kept {z s : State} (c : Fin 8) (hs : Kept z s) : KeptBy z (execRetryDelayEnd c s) := by
  unfold execRetryDelayEnd
  repeat' first
    | with_reducible apply KeptBy.next | with_reducible apply KeptBy.ite | with_reducible assumption | intro _
    | with_reducible apply State.efTry_kept | with_reducible apply State.efTo_kept
    | with_reducible apply State.bump_kept | with_reducible apply Kept.ite | dsimp only

theorem execRetriesClear_kept {z s : State} (c : Fin 8) (hs : Kept z s) : KeptBy z (execRetriesClear c s) := by
  unfold execRetriesClear
  repeat' first
    | with_reducible apply KeptBy.next | with_reducible apply KeptBy.ite | with_reducible assumption | intro _
    | with_reducible apply State.pda_kept | with_reducible apply State.put_kept | with_reducible apply Kept.ite
    | dsimp only

theorem State.efShed_kept {z s : State} (c : Nat) (hs : Kept z s) : Kept z (State.efShed s c) := by
  unfold State.efShed
  repeat' first
    | with_reducible assumption | intro _ | with_reducible apply State.efDown_kept | dsimp only

theorem State.shedPass2_kept {z s : State} (hs : Kept z s) : Kept z (State.shedPass2 s) := by
  unfold State.shedPass2
  repeat' first
    | with_reducible assumption | intro _ | with_reducible apply State.each_kept
    | with_reducible apply State.efShed_kept | with_reducible apply Kept.ite | dsimp only

theorem State.shedStart_kept {z s : State} (hs : Kept z s) : Kept z (State.shedStart s) := by
  unfold State.shedStart
  repeat' first
    | with_reducible assumption | intro _ | with_reducible apply State.raise_kept
    | with_reducible apply State.put_kept | with_reducible apply State.each_kept
    | with_reducible apply State.efShed_kept | with_reducible apply State.shedPass2_kept | simp only [Kept.mk_iff]
    | with_reducible apply Kept.parts | with_reducible apply Kept.ite | dsimp only

theorem execLocalSupplyTrip_kept {z s : State} (hs : Kept z s) : KeptBy z (execLocalSupplyTrip s) := by
  unfold execLocalSupplyTrip
  repeat' first
    | with_reducible apply KeptBy.next | with_reducible apply KeptBy.ite | with_reducible assumption | intro _
    | with_reducible apply State.pda_kept | with_reducible apply State.shedStart_kept
    | with_reducible apply State.frsTrip_kept | dsimp only

theorem execShedEnd_kept {z s : State} (hs : Kept z s) : KeptBy z (execShedEnd s) := by
  unfold execShedEnd
  repeat' first
    | with_reducible apply KeptBy.next | with_reducible apply KeptBy.ite | with_reducible assumption | intro _
    | with_reducible apply State.put_kept | with_reducible apply State.each_kept
    | with_reducible apply State.efTry_kept | simp only [Kept.mk_iff] | with_reducible apply Kept.parts
    | with_reducible apply Kept.ite | dsimp only

theorem State.shedTick_kept {z s : State} (hs : Kept z s) : Kept z (State.shedTick s) := by
  unfold State.shedTick
  repeat' first
    | with_reducible assumption | intro _ | with_reducible apply State.shedPass2_kept
    | with_reducible apply State.efTry_kept | with_reducible apply State.efTo_kept | simp only [Kept.mk_iff]
    | with_reducible apply Kept.parts | with_reducible apply Kept.ite | split | dsimp only

theorem State.efApply_kept {z s : State} (c : Nat) (body : List Word) (quiet : Bool) (hs : Kept z s) :
    Kept z (State.efApply s c body quiet) := by
  unfold State.efApply
  repeat' first
    | with_reducible assumption | intro _ | with_reducible apply State.efDown_kept
    | with_reducible apply State.each_kept | with_reducible apply State.put_kept
    | with_reducible apply State.modEf_kept | with_reducible apply State.efSpare_kept
    | with_reducible apply State.efTry_kept | with_reducible apply State.clearance_kept
    | with_reducible apply Kept.ite | dsimp only

theorem State.setSlot_kept {z s : State} (m : Nat) (f : ModSlot → ModSlot) (hs : Kept z s) :
    Kept z (State.setSlot s m f) := by
  unfold State.setSlot
  repeat' first
    | with_reducible assumption | intro _ | simp only [Kept.mk_iff] | with_reducible apply Kept.parts | split
    | dsimp only

theorem State.mdTo_kept {z s : State} (m : Nat) (st : Nat) (hs : Kept z s) : Kept z (State.mdTo s m st) := by
  unfold State.mdTo
  repeat' first
    | with_reducible assumption | intro _ | with_reducible apply State.raise_kept
    | with_reducible apply State.put_kept | with_reducible apply Kept.ite | dsimp only

theorem State.mdClear_kept {z s : State} (m : Nat) (hs : Kept z s) : Kept z (State.mdClear s m) := by
  unfold State.mdClear
  repeat' first
    | with_reducible assumption | intro _ | with_reducible apply State.clearance_kept | with_reducible apply Kept.ite
    | dsimp only

theorem State.mdLines_kept {z s : State} (m : Nat) (v : Nat) (hs : Kept z s) : Kept z (State.mdLines s m v) := by
  unfold State.mdLines
  repeat' first
    | with_reducible assumption | intro _ | with_reducible apply State.put_kept
    | with_reducible apply State.each_kept | with_reducible apply State.noteRise_kept | with_reducible apply Kept.ite
    | dsimp only

theorem State.mdReject_kept {z s : State} (m : Nat) (cause : Nat) (hs : Kept z s) :
    Kept z (State.mdReject s m cause) := by
  unfold State.mdReject
  repeat' first
    | with_reducible assumption | intro _ | with_reducible apply State.mdTo_kept
    | with_reducible apply State.bump_kept | with_reducible apply State.put_kept | dsimp only

theorem State.mdJudge_kept {z s : State} (m : Nat) (hs : Kept z s) : Kept z (State.mdJudge s m) := by
  unfold State.mdJudge
  repeat' first
    | with_reducible assumption | intro _ | with_reducible apply State.put_kept
    | with_reducible apply State.setSlot_kept | with_reducible apply State.mdReject_kept
    | with_reducible apply State.mdTo_kept | with_reducible apply Kept.ite | dsimp only

theorem State.mdPiece_kept {z s : State} (m : Nat) (piece : Option (BitVec 128)) (hs : Kept z s) :
    Kept z (State.mdPiece s m piece) := by
  unfold State.mdPiece
  repeat' first
    | with_reducible assumption | intro _ | with_reducible apply State.setSlot_kept
    | with_reducible apply State.mdTo_kept | with_reducible apply State.put_kept
    | with_reducible apply State.each_kept | with_reducible apply State.mdJudge_kept | with_reducible apply Kept.ite
    | split | dsimp only

theorem State.mdRead_kept {z s : State} (m : Nat) (ready : Bool) (hs : Kept z s) :
    Kept z (State.mdRead s m ready) := by
  unfold State.mdRead
  repeat' first
    | with_reducible assumption | intro _ | with_reducible apply State.mdTo_kept
    | with_reducible apply State.setSlot_kept | dsimp only

theorem State.mdAsk_kept {z s : State} (m : Nat) (target : Nat) (sub : Nat) (cnt : Nat) (hs : Kept z s) :
    Kept z (State.mdAsk s m target sub cnt) := by
  unfold State.mdAsk
  repeat' first
    | with_reducible assumption | intro _ | with_reducible apply State.emit_kept | dsimp only

theorem State.mdSense_kept {z s : State} (m : Nat) (lines : Option (BitVec 8)) (hs : Kept z s) :
    Kept z (State.mdSense s m lines).2 := by
  unfold State.mdSense
  repeat' first
    | with_reducible assumption | intro _ | with_reducible apply State.took_kept
    | with_reducible apply State.mdAsk_kept | with_reducible apply Kept.ite | with_reducible apply Kept.pair_ite
    | dsimp only

theorem State.mdFetch_kept {z s : State} (m : Nat) (piece : Option (BitVec 128)) (hs : Kept z s) :
    Kept z (State.mdFetch s m piece) := by
  unfold State.mdFetch
  repeat' first
    | with_reducible assumption | intro _ | with_reducible apply State.mdPiece_kept
    | with_reducible apply State.mdAsk_kept | with_reducible apply Kept.ite | dsimp only

theorem State.mdLook_kept {z s : State} (m : Nat) (lines : Option (BitVec 8)) (hs : Kept z s) :
    Kept z (State.mdLook s m lines) := by
  unfold State.mdLook
  repeat' first
    | with_reducible assumption | intro _ | with_reducible apply State.mdLines_kept
    | with_reducible apply State.mdRead_kept | with_reducible apply State.bump_kept
    | with_reducible apply State.setSlot_kept | with_reducible apply State.mdTo_kept
    | with_reducible apply State.put_kept | with_reducible apply Kept.ite | with_reducible apply State.mdSense_kept
    | refine Kept.of_pair (by with_reducible assumption) ?_ | split | dsimp only

theorem State.mdPoll_kept {z s : State} (m : Nat) (look : Bool) (lines : Option (BitVec 8)) (piece : Option (BitVec
    128)) (hs : Kept z s) : Kept z (State.mdPoll s m look lines piece) := by
  unfold State.mdPoll
  repeat' first
    | with_reducible assumption | intro _ | with_reducible apply State.mdLook_kept
    | with_reducible apply State.mdFetch_kept | with_reducible apply State.mdClear_kept
    | with_reducible apply Kept.ite | dsimp only

theorem State.mdRun_kept {z s : State} (m : Nat) (lines : Option (BitVec 8)) (piece : Option (BitVec 128)) (hs : Kept
    z s) : Kept z (State.mdRun s m lines piece) := by
  unfold State.mdRun
  repeat' first
    | with_reducible assumption | intro _ | with_reducible apply State.setSlot_kept
    | with_reducible apply State.mdPoll_kept | with_reducible apply State.iff_kept
    | with_reducible apply State.mdClear_kept | with_reducible apply State.mdLook_kept
    | with_reducible apply Kept.ite | dsimp only

theorem State.mdWaiting_kept {z s : State} (b : Nat) (hs : Kept z s) : Kept z (State.mdWaiting s b) := by
  unfold State.mdWaiting
  repeat' first
    | with_reducible assumption | intro _ | with_reducible apply State.mdPoll_kept
    | with_reducible apply State.setSlot_kept | with_reducible apply Kept.ite | with_reducible apply Kept.foldl
    | dsimp only

theorem execSidebandPoll_kept {z s : State} (m : Fin 8) (prevOpen : Bool) (lines : Option (BitVec 8)) (piece : Option
    (BitVec 128)) (hs : Kept z s) : KeptBy z (execSidebandPoll m prevOpen lines piece s) := by
  unfold execSidebandPoll
  repeat' first
    | with_reducible apply KeptBy.next | with_reducible apply KeptBy.ite | with_reducible assumption | intro _
    | with_reducible apply State.chore_kept | with_reducible apply State.mdRun_kept | dsimp only

theorem execFieldTransactionEnd_kept {z s : State} (b : Fin 20) (cause : Fin 8) (done : BitVec 16) (data : List Byte)
    (hs : Kept z s) : KeptBy z (execFieldTransactionEnd b cause done data s) := by
  unfold execFieldTransactionEnd
  repeat' first
    | with_reducible apply KeptBy.next | with_reducible apply KeptBy.ite | with_reducible assumption | intro _
    | with_reducible apply State.modFb_kept | with_reducible apply State.bump_kept
    | with_reducible apply State.postedDone_kept | with_reducible apply State.complete_kept
    | with_reducible apply State.busEvt_kept | with_reducible apply State.fieldFail_kept
    | with_reducible apply State.fieldStart_kept | with_reducible apply State.mdWaiting_kept
    | with_reducible apply State.busRegs_kept | with_reducible apply Kept.ite | split | dsimp only

theorem execKeepTimeout_kept {z s : State} (b : Fin 20) (hs : Kept z s) : KeptBy z (execKeepTimeout b s) := by
  unfold execKeepTimeout
  repeat' first
    | with_reducible apply KeptBy.next | with_reducible apply KeptBy.ite | with_reducible assumption | intro _
    | with_reducible apply State.fieldStart_kept | with_reducible apply State.mdWaiting_kept
    | with_reducible apply State.modFb_kept | with_reducible apply State.advanceTo_kept
    | with_reducible apply Kept.ite | split | dsimp only

theorem State.mdApprove_kept {z s : State} (m : Nat) (hs : Kept z s) : Kept z (State.mdApprove s m) := by
  unfold State.mdApprove
  repeat' first
    | with_reducible assumption | intro _ | with_reducible apply State.mdClear_kept
    | with_reducible apply State.mdTo_kept | with_reducible apply State.setSlot_kept | with_reducible apply Kept.ite
    | dsimp only

theorem State.mdRefuse_kept {z s : State} (m : Nat) (hs : Kept z s) : Kept z (State.mdRefuse s m) := by
  unfold State.mdRefuse
  repeat' first
    | with_reducible assumption | intro _ | with_reducible apply State.mdClear_kept
    | with_reducible apply State.mdReject_kept | with_reducible apply Kept.ite | dsimp only

theorem State.mdRecheck_kept {z s : State} (m : Nat) (hs : Kept z s) : Kept z (State.mdRecheck s m) := by
  unfold State.mdRecheck
  repeat' first
    | with_reducible assumption | intro _ | with_reducible apply State.mdClear_kept
    | with_reducible apply State.mdRead_kept | with_reducible apply Kept.ite | dsimp only

theorem State.mdApply_kept {z s : State} (body : List Word) (hs : Kept z s) : Kept z (State.mdApply s body) := by
  unfold State.mdApply
  repeat' first
    | with_reducible assumption | intro _ | with_reducible apply State.each_kept
    | with_reducible apply State.put_kept | with_reducible apply State.mdLines_kept
    | with_reducible apply State.mdTo_kept | with_reducible apply State.clearance_kept
    | with_reducible apply Kept.ite | dsimp only

end Sys2Proof.Machine
end

