-- ==== Sys2Proof/Laws/KeptImage.lean ====
section
/-! SUPPORT. Laws/KeptImage.lean: commits, ERG images, power, isolation and reset keep what Laws/Kept.lean names; the one command
that programs OTP does so into a blank slot (R82). -/

set_option linter.unusedTactic false
set_option linter.unreachableTactic false

namespace Sys2Proof.Machine

theorem State.splitRegs_kept {z s : State} (h : Nat) (hs : Kept z s) : Kept z (State.splitRegs s h) := by
  unfold State.splitRegs
  repeat' first
    | with_reducible assumption | intro _ | with_reducible apply State.put_kept | dsimp only

theorem State.askRejoin_kept {z s : State} (h : Nat) (hs : Kept z s) : Kept z (State.askRejoin s h) := by
  unfold State.askRejoin
  repeat' first
    | with_reducible assumption | intro _ | with_reducible apply State.requestTurn_kept
    | with_reducible apply Kept.ite | split | dsimp only

theorem execSplitEvaluation_kept {z s : State} (h : Hp) (hs : Kept z s) : KeptBy z (execSplitEvaluation h s) := by
  unfold execSplitEvaluation
  repeat' first
    | with_reducible apply KeptBy.next | with_reducible apply KeptBy.ite | with_reducible assumption | intro _
    | with_reducible apply State.advanceTo_kept | with_reducible apply State.askRejoin_kept
    | with_reducible apply State.splitRegs_kept | with_reducible apply State.requestTurn_kept
    | with_reducible apply Kept.ite | dsimp only

theorem cellsFrom_words (lo : Nat) : ∀ (ws : List Nat) (i : Nat),
    cellsFrom (0 : Word) (lo + 4 * i) ((ws.zipIdx i).filterMap (fun p => if w32 p.1 = 0 then none else some (lo + 4 * p.2, w32 p.1))) = true
      ∧ ∀ c ∈ (ws.zipIdx i).filterMap (fun p => if w32 p.1 = 0 then none else some (lo + 4 * p.2, w32 p.1)),
        c.1 < lo + 4 * (i + ws.length)
  | [], i => by simp [cellsFrom]
  | v :: vs, i => by
    have ih := cellsFrom_words lo vs (i + 1)
    rw [List.zipIdx_cons, List.filterMap_cons]
    by_cases hv : w32 v = 0
    · simp only [hv, if_true, List.length_cons]
      exact ⟨cellsFrom_mono _ _ _ _ ih.1 (by omega), fun c hc => by have := ih.2 c hc; omega⟩
    · simp only [hv, if_false, List.length_cons]
      refine ⟨?_, ?_⟩
      · simp only [cellsFrom, Bool.and_eq_true, decide_eq_true_eq]
        exact ⟨⟨Nat.le_refl _, hv⟩, cellsFrom_mono _ _ _ _ ih.1 (by omega)⟩
      · intro c hc
        rcases List.mem_cons.mp hc with rfl | hc
        · show lo + 4 * i < _
          omega
        · have := ih.2 c hc; omega

theorem State.setWords_kept {z s : State} (lo : Nat) (ws : List Nat) (hs : Kept z s) : Kept z (State.setWords s lo ws) := by
  refine hs.setRegs _ ?_
  have hr := cellsFrom_words lo ws 0
  have hlow : ∀ c ∈ s.regs.filter (fun c => decide (c.1 < lo)), c.1 < lo := by
    intro c hc
    simpa using (List.mem_filter.mp hc).2
  have h1 := cellsFrom_append (0 : Word) _ _ 0 lo (cellsFrom_filter (0 : Word) _ s.regs 0 hs.sound.regs) (Nat.zero_le lo) hlow hr.1
  refine cellsFrom_append (0 : Word) _ _ 0 (lo + 4 * ws.length) h1 (Nat.zero_le _) ?_ (cellsFrom_atLeast (0 : Word) _ s.regs 0 hs.sound.regs)
  intro c hc
  rcases List.mem_append.mp hc with hc | hc
  · have := hlow c hc; omega
  · have := hr.2 c hc; omega

theorem resetRegs_wf : cellsWf (0 : Word) resetRegs = true := by decide +kernel

theorem State.resetRange_kept {z s : State} (lo hi : Nat) (hs : Kept z s) : Kept z (State.resetRange s lo hi) := by
  refine hs.setRegs _ ?_
  have hlow : ∀ c ∈ s.regs.filter (fun c => decide (c.1 < lo)), c.1 < lo := by
    intro c hc
    simpa using (List.mem_filter.mp hc).2
  have hmid : ∀ c ∈ resetRegs.filter (fun c => decide (lo ≤ c.1) && decide (c.1 < hi)), c.1 < max lo hi := by
    intro c hc
    have := (List.mem_filter.mp hc).2
    simp only [Bool.and_eq_true, decide_eq_true_eq] at this
    omega
  have h2 : cellsFrom (0 : Word) lo (resetRegs.filter (fun c => decide (lo ≤ c.1) && decide (c.1 < hi))) = true := by
    have := cellsFrom_atLeast (0 : Word) lo _ 0 (cellsFrom_filter (0 : Word) (fun c => decide (c.1 < hi)) resetRegs 0 resetRegs_wf)
    rw [List.filter_filter] at this
    exact this
  have h1 := cellsFrom_append (0 : Word) _ _ 0 lo (cellsFrom_filter (0 : Word) _ s.regs 0 hs.sound.regs) (Nat.zero_le lo) hlow h2
  refine cellsFrom_append (0 : Word) _ _ 0 (max lo hi) h1 (Nat.zero_le _) ?_ (cellsFrom_atLeast (0 : Word) _ s.regs 0 hs.sound.regs)
  intro c hc
  rcases List.mem_append.mp hc with hc | hc
  · have := hlow c hc; omega
  · exact hmid c hc

theorem State.valCaravan_kept {z s : State} (rs : List Rec) (h : Nat) (hs : Kept z s) :
    Kept z (State.valCaravan s rs h) := by
  unfold State.valCaravan
  repeat' first
    | with_reducible assumption | intro _ | with_reducible apply State.put_kept
    | with_reducible apply State.setWords_kept | dsimp only

theorem State.valGroup_kept {z s : State} (rs : List Rec) (g : Nat) (hs : Kept z s) :
    Kept z (State.valGroup s rs g) := by
  unfold State.valGroup
  repeat' first
    | with_reducible assumption | intro _ | with_reducible apply State.put_kept
    | with_reducible apply State.each_kept | with_reducible apply Kept.ite | dsimp only

theorem State.valQueues_kept {z s : State} (rs : List Rec) (hs : Kept z s) : Kept z (State.valQueues s rs) := by
  unfold State.valQueues
  repeat' first
    | with_reducible assumption | intro _ | with_reducible apply State.setWords_kept | simp only [Kept.mk_iff]
    | with_reducible apply Kept.parts | dsimp only

theorem State.valBank_kept {z s : State} (r : Rec) (hs : Kept z s) : Kept z (State.valBank s r) := by
  unfold State.valBank
  repeat' first
    | with_reducible assumption | intro _ | with_reducible apply State.setWords_kept | with_reducible apply Kept.ite
    | with_reducible apply Kept.foldl | dsimp only

theorem State.zeroBank_kept {z s : State} (b : Nat) (hs : Kept z s) : Kept z (State.zeroBank s b) := by
  unfold State.zeroBank
  repeat' first
    | with_reducible assumption | intro _ | with_reducible apply State.setWords_kept | dsimp only

theorem State.zeroSelectors_kept {z s : State} (hs : Kept z s) : Kept z (State.zeroSelectors s) := by
  unfold State.zeroSelectors
  repeat' first
    | with_reducible assumption | intro _ | with_reducible apply State.each_kept
    | with_reducible apply State.put_kept | dsimp only

theorem State.valChores_kept {z s : State} (rs : List Rec) (hs : Kept z s) : Kept z (State.valChores s rs) := by
  unfold State.valChores
  repeat' first
    | with_reducible assumption | intro _ | with_reducible apply State.setWords_kept
    | with_reducible apply State.put_kept | dsimp only

theorem State.valRoutes_kept {z s : State} (rs : List Rec) (full : Bool) (hs : Kept z s) :
    Kept z (State.valRoutes s rs full) := by
  unfold State.valRoutes
  repeat' first
    | with_reducible assumption | intro _ | with_reducible apply State.setWords_kept
    | with_reducible apply State.each_kept | with_reducible apply State.put_kept | with_reducible apply Kept.ite
    | dsimp only

theorem State.valLaunch_kept {z s : State} (rs : List Rec) (hs : Kept z s) : Kept z (State.valLaunch s rs) := by
  unfold State.valLaunch
  repeat' first
    | with_reducible assumption | intro _ | with_reducible apply State.setWords_kept | dsimp only

theorem State.valTime_kept {z s : State} (rs : List Rec) (hs : Kept z s) : Kept z (State.valTime s rs) := by
  unfold State.valTime
  repeat' first
    | with_reducible assumption | intro _ | with_reducible apply State.setReg_kept
    | with_reducible apply State.discWritten_kept | dsimp only

theorem State.valPools_kept {z s : State} (rs : List Rec) (hs : Kept z s) : Kept z (State.valPools s rs) := by
  unfold State.valPools
  repeat' first
    | with_reducible assumption | intro _ | with_reducible apply State.each_kept
    | with_reducible apply State.setReg_kept | with_reducible apply State.setWords_kept
    | with_reducible apply State.put_kept | dsimp only

theorem State.valHead_kept {z s : State} (rs : List Rec) (x : Nat) (hs : Kept z s) :
    Kept z (State.valHead s rs x) := by
  unfold State.valHead
  repeat' first
    | with_reducible assumption | intro _ | with_reducible apply State.put_kept
    | with_reducible apply State.setWords_kept | simp only [Kept.mk_iff] | with_reducible apply Kept.parts | split
    | dsimp only

theorem State.valEth_kept {z s : State} (rs : List Rec) (hs : Kept z s) : Kept z (State.valEth s rs) := by
  unfold State.valEth
  repeat' first
    | with_reducible assumption | intro _ | with_reducible apply State.setWords_kept
    | with_reducible apply State.each_kept | with_reducible apply State.put_kept | split | dsimp only

theorem State.valUsb_kept {z s : State} (rs : List Rec) (hs : Kept z s) : Kept z (State.valUsb s rs) := by
  unfold State.valUsb
  repeat' first
    | with_reducible assumption | intro _ | with_reducible apply State.each_kept
    | with_reducible apply State.setReg_kept | dsimp only

theorem State.valTiming_kept {z s : State} (rs : List Rec) (b : Nat) (hs : Kept z s) :
    Kept z (State.valTiming s rs b) := by
  unfold State.valTiming
  repeat' first
    | with_reducible assumption | intro _ | with_reducible apply State.put_kept | with_reducible apply Kept.ite
    | dsimp only

theorem State.fullValues_kept {z s : State} (rs : List Rec) (hs : Kept z s) : Kept z (State.fullValues s rs) := by
  unfold State.fullValues
  repeat' first
    | with_reducible assumption | intro _ | with_reducible apply State.each_kept
    | with_reducible apply State.valCaravan_kept | with_reducible apply State.zeroSelectors_kept
    | with_reducible apply State.valQueues_kept | with_reducible apply State.zeroBank_kept
    | with_reducible apply State.valBank_kept | with_reducible apply State.valLaunch_kept
    | with_reducible apply State.valChores_kept | with_reducible apply State.valPools_kept
    | with_reducible apply State.put_kept | with_reducible apply State.valHead_kept
    | with_reducible apply State.valTiming_kept | with_reducible apply State.setWords_kept
    | with_reducible apply Kept.foldl | dsimp only

theorem State.imageCandidate_kept {z s : State} (rs : List Rec) (hs : Kept z s) :
    Kept z (State.imageCandidate s rs) := by
  unfold State.imageCandidate
  repeat' first
    | with_reducible assumption | intro _ | with_reducible apply State.fullValues_kept
    | with_reducible refine State.modImg_kept _ ?_ rfl rfl rfl | dsimp only

theorem State.patchValues_kept {z s : State} (rs : List Rec) (r : Rec) (hs : Kept z s) :
    Kept z (State.patchValues s rs r) := by
  unfold State.patchValues
  repeat' first
    | with_reducible assumption | intro _ | with_reducible apply State.valBank_kept
    | with_reducible apply State.valChores_kept | with_reducible apply State.valTiming_kept
    | with_reducible apply State.each_kept | with_reducible apply State.setWords_kept
    | with_reducible apply State.valLaunch_kept | split | dsimp only

theorem State.patchCandidate_kept {z s : State} (prs : List Rec) (hs : Kept z s) :
    Kept z (State.patchCandidate s prs) := by
  unfold State.patchCandidate
  repeat' first
    | with_reducible assumption | intro _ | with_reducible apply State.patchValues_kept
    | with_reducible refine State.modImg_kept _ ?_ rfl rfl rfl | with_reducible apply Kept.foldl | dsimp only

theorem State.groupLinkDown_kept {z s : State} (g : Nat) (hs : Kept z s) : Kept z (State.groupLinkDown s g) := by
  unfold State.groupLinkDown
  repeat' first
    | with_reducible assumption | intro _ | with_reducible apply State.dpIdle_kept
    | with_reducible apply State.pxDlDown_kept | with_reducible apply State.each_kept
    | with_reducible apply State.gptpStop_kept | with_reducible apply State.ethLink_kept
    | with_reducible apply Kept.ite | split | dsimp only

theorem State.groupEnable_kept {z s : State} (g : Nat) (on : Bool) (hs : Kept z s) :
    Kept z (State.groupEnable s g on) := by
  unfold State.groupEnable
  repeat' first
    | with_reducible assumption | intro _ | with_reducible apply State.cvAttach_kept
    | with_reducible apply State.linkOff_kept | with_reducible apply State.each_kept
    | with_reducible apply State.groupLinkDown_kept | with_reducible apply State.put_kept
    | with_reducible apply State.adaptStop_kept | with_reducible apply Kept.ite | dsimp only

theorem State.switchFlush_kept {z s : State} (hs : Kept z s) : Kept z (State.switchFlush s) := by
  unfold State.switchFlush
  repeat' first
    | with_reducible assumption | intro _ | with_reducible apply State.each_kept
    | with_reducible apply State.copyLost_kept | with_reducible apply State.flushQueue_kept
    | with_reducible apply Kept.ite | with_reducible apply Kept.foldl | split | dsimp only

theorem State.isoCut_kept {z s : State} (u : Nat) (hs : Kept z s) : Kept z (State.isoCut s u) := by
  unfold State.isoCut
  repeat' first
    | with_reducible assumption | intro _ | with_reducible apply State.linkOff_kept
    | with_reducible apply State.groupLinkDown_kept | with_reducible apply State.headHalt_kept
    | with_reducible apply State.dpIdle_kept | with_reducible apply State.quitMsgs_kept
    | with_reducible apply State.pxContain_kept | with_reducible apply State.pxSweep_kept
    | with_reducible apply State.pxDlDown_kept | with_reducible apply State.switchFlush_kept
    | with_reducible apply State.ethInit_kept | with_reducible apply State.faces_kept
    | with_reducible apply State.wadiIsolate_kept | with_reducible apply State.efDown_kept | simp only [Kept.mk_iff]
    | with_reducible apply Kept.parts | with_reducible apply Kept.ite | split | dsimp only

theorem State.isoPort_kept {z s : State} (rs : List Rec) (h : Nat) (hs : Kept z s) :
    Kept z (State.isoPort s rs h) := by
  unfold State.isoPort
  repeat' first
    | with_reducible assumption | intro _ | with_reducible apply State.resetRange_kept
    | with_reducible apply State.put_kept | with_reducible apply State.setReg_kept
    | with_reducible apply State.each_kept | with_reducible apply State.valCaravan_kept
    | with_reducible apply State.modLink_kept | simp only [Kept.mk_iff] | with_reducible apply Kept.parts
    | with_reducible apply Kept.foldl | split | dsimp only

theorem State.isoGroup_kept {z s : State} (rs : List Rec) (g : Nat) (hs : Kept z s) :
    Kept z (State.isoGroup s rs g) := by
  unfold State.isoGroup
  repeat' first
    | with_reducible assumption | intro _ | with_reducible apply State.resetRange_kept
    | with_reducible apply State.setReg_kept | with_reducible apply State.valGroup_kept
    | with_reducible apply State.put_kept | simp only [Kept.mk_iff] | with_reducible apply Kept.parts
    | with_reducible apply Kept.foldl | split | dsimp only

theorem State.isoHead_kept {z s : State} (rs : List Rec) (x : Nat) (keep : Bool) (hs : Kept z s) :
    Kept z (State.isoHead s rs x keep) := by
  unfold State.isoHead
  repeat' first
    | with_reducible assumption | intro _ | with_reducible apply State.setReg_kept
    | with_reducible apply State.resetRange_kept | with_reducible apply State.put_kept
    | with_reducible apply State.valHead_kept | with_reducible apply State.poolRegs_kept
    | with_reducible apply State.playaInit_kept | simp only [Kept.mk_iff] | with_reducible apply Kept.parts
    | with_reducible apply Kept.ite | split | dsimp only

theorem State.isoPcie_kept {z s : State} (p : Nat) (hs : Kept z s) : Kept z (State.isoPcie s p) := by
  unfold State.isoPcie
  repeat' first
    | with_reducible assumption | intro _ | with_reducible apply State.resetRange_kept
    | with_reducible apply State.setReg_kept | with_reducible apply State.modPc_kept
    | with_reducible apply State.put_kept | with_reducible apply State.pxContain_kept
    | with_reducible apply State.pxInit_kept | dsimp only

theorem Kept.parts_eth {z s : State} (h : Kept z s) :
    keptParts z s.pending s.regs s.img.flash s.img.otp s.img.revoked s.pl.pixels s.pl.tags s.clock.time s.logs s.sr.caps
      s.wd.perr eth0.fdb := by
  have hp := h.parts
  exact ⟨hp.1, hp.2.1, hp.2.2.1, hp.2.2.2.1, hp.2.2.2.2.1, hp.2.2.2.2.2.1, hp.2.2.2.2.2.2.1, hp.2.2.2.2.2.2.2.1,
    Nat.zero_le _, hp.2.2.2.2.2.2.2.2.2⟩

theorem State.isoEth_kept {z s : State} (rs : List Rec) (hs : Kept z s) : Kept z (State.isoEth s rs) := by
  unfold State.isoEth
  repeat' first
    | with_reducible assumption | intro _ | with_reducible apply Kept.parts_eth
    | with_reducible apply State.resetRange_kept | with_reducible apply State.valEth_kept
    | with_reducible apply State.each_kept | with_reducible apply State.put_kept | simp only [Kept.mk_iff]
    | with_reducible apply Kept.parts | dsimp only

theorem State.isoUsb_kept {z s : State} (rs : List Rec) (hs : Kept z s) : Kept z (State.isoUsb s rs) := by
  unfold State.isoUsb
  repeat' first
    | with_reducible assumption | intro _ | with_reducible apply State.resetRange_kept
    | with_reducible apply State.put_kept | with_reducible apply State.valUsb_kept
    | with_reducible apply State.each_kept | with_reducible apply State.modView_kept | simp only [Kept.mk_iff]
    | with_reducible apply Kept.parts | with_reducible apply Kept.ite | dsimp only

theorem State.isoWadi_kept {z s : State} (rs : List Rec) (hs : Kept z s) : Kept z (State.isoWadi s rs) := by
  unfold State.isoWadi
  repeat' first
    | with_reducible assumption | intro _ | with_reducible apply State.resetRange_kept
    | with_reducible apply State.setReg_kept | with_reducible apply State.each_kept
    | with_reducible apply State.valTiming_kept | with_reducible apply State.mdApply_kept | simp only [Kept.mk_iff]
    | with_reducible apply Kept.parts | with_reducible apply Kept.foldl | dsimp only

theorem State.isoEfuse_kept {z s : State} (rs : List Rec) (c : Nat) (hs : Kept z s) :
    Kept z (State.isoEfuse s rs c) := by
  unfold State.isoEfuse
  repeat' first
    | with_reducible assumption | intro _ | with_reducible apply State.put_kept
    | with_reducible apply State.resetRange_kept | with_reducible apply State.modEf_kept
    | with_reducible apply State.efApply_kept | dsimp only

theorem State.isoInit_kept {z s : State} (rs : List Rec) (u : Nat) (keep : Bool) (hs : Kept z s) :
    Kept z (State.isoInit s rs u keep) := by
  unfold State.isoInit
  repeat' first
    | with_reducible assumption | intro _ | with_reducible apply State.isoPort_kept
    | with_reducible apply State.isoGroup_kept | with_reducible apply State.isoHead_kept
    | with_reducible apply State.isoPcie_kept | with_reducible apply State.isoEth_kept
    | with_reducible apply State.isoUsb_kept | with_reducible apply State.isoWadi_kept
    | with_reducible apply State.isoEfuse_kept | with_reducible apply Kept.ite | dsimp only

theorem State.isoClose_kept {z s : State} (u : Nat) (cause : Nat) (hs : Kept z s) :
    Kept z (State.isoClose s u cause) := by
  unfold State.isoClose
  repeat' first
    | with_reducible assumption | intro _ | with_reducible apply State.bump_kept
    | with_reducible apply State.put_kept | dsimp only

theorem State.isolate_kept {z s : State} (u : Nat) (cause : Nat) (hs : Kept z s) :
    Kept z (State.isolate s u cause) := by
  unfold State.isolate
  repeat' first
    | with_reducible assumption | intro _ | with_reducible apply State.isoInit_kept
    | with_reducible apply State.isoCut_kept | with_reducible apply State.isoClose_kept | dsimp only

theorem State.isoEscalate_kept {z s : State} (u : Nat) (hs : Kept z s) : Kept z (State.isoEscalate s u) := by
  unfold State.isoEscalate
  repeat' first
    | with_reducible assumption | intro _ | with_reducible apply State.notice_kept
    | with_reducible apply State.isoCut_kept | with_reducible apply State.put_kept
    | with_reducible apply State.isoClose_kept | with_reducible apply State.isolate_kept
    | with_reducible apply Kept.ite | split | dsimp only

theorem State.isoLeave_kept {z s : State} (u : Nat) (hs : Kept z s) : Kept z (State.isoLeave s u) := by
  unfold State.isoLeave
  repeat' first
    | with_reducible assumption | intro _ | with_reducible apply State.put_kept
    | with_reducible apply State.each_kept | with_reducible apply State.noteRise_kept
    | with_reducible apply State.cvAttach_kept | with_reducible apply State.headStart_kept
    | with_reducible apply State.faces_kept | with_reducible apply State.ppc_kept
    | with_reducible apply State.efTry_kept | with_reducible apply State.clearance_kept | simp only [Kept.mk_iff]
    | with_reducible apply Kept.parts | with_reducible apply Kept.ite | split | dsimp only

theorem State.isoRequest_kept {z s : State} (u : Nat) (hs : Kept z s) : Kept z (State.isoRequest s u) := by
  unfold State.isoRequest
  repeat' first
    | with_reducible assumption | intro _ | with_reducible apply State.put_kept
    | with_reducible apply State.isolate_kept | with_reducible apply Kept.ite | dsimp only

theorem State.isoRestart_kept {z s : State} (u : Nat) (hs : Kept z s) : Kept z (State.isoRestart s u) := by
  unfold State.isoRestart
  repeat' first
    | with_reducible assumption | intro _ | with_reducible apply State.put_kept
    | with_reducible apply State.isoInit_kept | with_reducible apply Kept.ite | dsimp only

theorem execIsolationExit_kept {z s : State} (u : Fin 24) (hs : Kept z s) : KeptBy z (execIsolationExit u s) := by
  unfold execIsolationExit
  repeat' first
    | with_reducible apply KeptBy.next | with_reducible apply KeptBy.ite | with_reducible assumption | intro _
    | with_reducible apply State.isoLeave_kept | with_reducible apply Kept.ite | dsimp only

theorem State.overlay_kept {z s : State} (ws : List Staged) (hs : Kept z s) : Kept z (State.overlay s ws) := by
  unfold State.overlay
  repeat' first
    | with_reducible assumption | intro _ | with_reducible apply State.put_kept | with_reducible apply Kept.ite
    | with_reducible apply Kept.foldl | dsimp only

theorem State.pendingView_kept {z s : State} (hs : Kept z s) : Kept z (State.pendingView s) := by
  unfold State.pendingView
  repeat' first
    | with_reducible assumption | intro _ | with_reducible apply State.patchCandidate_kept
    | with_reducible apply State.overlay_kept | with_reducible apply Kept.foldl | dsimp only

theorem State.imageResult_kept {z s : State} (cause : Nat) (agent : Nat) (op : Nat) (col : Nat) (case_ : Nat) (larger
    : Nat) (gen : Nat) (hs : Kept z s) : Kept z (State.imageResult s cause agent op col case_ larger gen) := by
  unfold State.imageResult
  repeat' first
    | with_reducible assumption | intro _ | with_reducible apply State.setReg_kept
    | with_reducible apply State.put_kept | dsimp only

theorem State.commitResult_kept {z s : State} (cause : Nat) (agent : Nat) (col : Nat) (case_ : Nat) (larger : Nat) (hs
    : Kept z s) : Kept z (State.commitResult s cause agent col case_ larger) := by
  unfold State.commitResult
  repeat' first
    | with_reducible assumption | intro _ | with_reducible apply State.imageResult_kept | dsimp only

theorem State.tickCommit_kept {z s : State} (a : Nat) (hs : Kept z s) : Kept z (State.tickCommit s a).2 := by
  unfold State.tickCommit
  repeat' first
    | with_reducible assumption | intro _ | with_reducible apply State.commitResult_kept
    | with_reducible apply State.overlay_kept | with_reducible apply State.pendingView_kept
    | with_reducible refine State.modImg_kept _ ?_ rfl rfl rfl | with_reducible apply State.modAgent_kept
    | with_reducible apply Kept.ite | with_reducible apply Kept.pair_ite | split | dsimp only

theorem State.tickDiscard_kept {z s : State} (a : Nat) (hs : Kept z s) : Kept z (State.tickDiscard s a).2 := by
  unfold State.tickDiscard
  repeat' first
    | with_reducible assumption | intro _ | with_reducible apply State.commitResult_kept
    | with_reducible apply State.modAgent_kept | with_reducible apply Kept.ite | with_reducible apply Kept.pair_ite
    | dsimp only

theorem State.refile_kept {z s : State} (old : List (Prod Nat (List Nat))) (hs : Kept z s) :
    Kept z (State.refile s old) := by
  unfold State.refile
  repeat' first
    | with_reducible assumption | intro _ | with_reducible apply State.each_kept
    | with_reducible apply State.unhold_kept | with_reducible apply State.delist_kept
    | with_reducible apply State.relist_kept | with_reducible apply State.file_kept | with_reducible apply Kept.ite
    | dsimp only

theorem State.bankGenStep_kept {z s : State} (old : List (Prod Nat (List Nat))) (hs : Kept z s) :
    Kept z (State.bankGenStep s old) := by
  unfold State.bankGenStep
  repeat' first
    | with_reducible assumption | intro _ | with_reducible apply State.raise_kept
    | with_reducible apply State.put_kept | with_reducible apply State.refile_kept | with_reducible apply Kept.ite
    | dsimp only

theorem State.setSel_kept {z s : State} (e : Nat) (v : Nat) (hs : Kept z s) : Kept z (State.setSel s e v) := by
  unfold State.setSel
  repeat' first
    | with_reducible assumption | intro _ | with_reducible apply State.put_kept | with_reducible apply Kept.ite
    | dsimp only

theorem State.bankSelect_kept {z s : State} (changes : List OwnChange) (hs : Kept z s) :
    Kept z (State.bankSelect s changes) := by
  unfold State.bankSelect
  repeat' first
    | with_reducible assumption | intro _ | with_reducible apply State.accrueAll_kept
    | with_reducible apply State.each_kept | with_reducible apply State.setSel_kept
    | with_reducible apply State.bankGenStep_kept | with_reducible apply Kept.ite | split | dsimp only

theorem State.patchApply_kept {z s : State} (p : PendPatch) (hs : Kept z s) : Kept z (State.patchApply s p) := by
  unfold State.patchApply
  repeat' first
    | with_reducible assumption | intro _ | with_reducible apply State.accrueAll_kept
    | with_reducible refine State.modImg_kept _ ?_ rfl rfl rfl | with_reducible apply State.valRoutes_kept
    | with_reducible apply State.efApply_kept | with_reducible apply State.tcApply_kept
    | with_reducible apply State.valTime_kept | with_reducible apply State.mdApply_kept
    | with_reducible apply State.patchValues_kept | with_reducible apply State.put_kept
    | with_reducible apply State.bump_kept | with_reducible apply State.bankGenStep_kept
    | with_reducible apply State.each_kept | with_reducible apply State.splitRegs_kept
    | with_reducible apply State.complete_kept | with_reducible apply State.imageResult_kept
    | with_reducible apply Kept.foldl | split | dsimp only

theorem State.patchTurn_kept {z s : State} (p : PendPatch) (hs : Kept z s) : Kept z (State.patchTurn s p) := by
  unfold State.patchTurn
  repeat' first
    | with_reducible assumption | intro _ | with_reducible apply State.patchCandidate_kept
    | with_reducible apply State.patchApply_kept | with_reducible apply State.logOp_kept
    | with_reducible apply State.complete_kept | with_reducible apply State.imageResult_kept | split | dsimp only

theorem State.commitHook_kept {z s : State} (w : Staged) (hs : Kept z s) : Kept z (State.commitHook s w) := by
  unfold State.commitHook
  repeat' first
    | with_reducible assumption | intro _ | with_reducible apply State.refSelect_kept
    | with_reducible apply State.discWritten_kept | with_reducible apply State.gptpStop_kept
    | with_reducible apply Kept.ite | split | dsimp only

theorem State.commitTurn_kept {z s : State} (c : PendCommit) (moved : List Nat) (hs : Kept z s) :
    Kept z (State.commitTurn s c moved) := by
  unfold State.commitTurn
  repeat' first
    | with_reducible assumption | intro _ | with_reducible apply State.raise_kept
    | with_reducible apply State.logOp_kept | with_reducible apply State.overlay_kept
    | with_reducible apply State.commitResult_kept | with_reducible apply State.accrueAll_kept
    | with_reducible apply State.each_kept | with_reducible apply State.setSel_kept
    | with_reducible apply State.commitHook_kept | with_reducible apply State.bankGenStep_kept
    | with_reducible apply Kept.ite | with_reducible apply Kept.foldl | split | dsimp only

theorem State.commitStep_kept {z s : State} (changes : List OwnChange) (hs : Kept z s) :
    Kept z (State.commitStep s changes) := by
  unfold State.commitStep
  repeat' first
    | with_reducible assumption | intro _ | with_reducible refine State.modImg_kept _ ?_ rfl rfl rfl
    | with_reducible apply State.patchTurn_kept | with_reducible apply State.commitTurn_kept
    | with_reducible apply Kept.foldl | dsimp only

theorem State.pxHandOn_kept {z s : State} (k : Nat) (old : Nat) (hs : Kept z s) : Kept z (State.pxHandOn s k old) := by
  unfold State.pxHandOn
  repeat' first
    | with_reducible assumption | intro _ | with_reducible apply State.put_kept
    | with_reducible apply State.pxDrain_kept | dsimp only

theorem State.ownerHook_kept {z s : State} (c : OwnChange) (hs : Kept z s) : Kept z (State.ownerHook s c) := by
  unfold State.ownerHook
  repeat' first
    | with_reducible assumption | intro _ | with_reducible apply State.headOwnerChanged_kept
    | with_reducible apply State.pxHandOn_kept | with_reducible apply State.pxContain_kept
    | with_reducible apply State.ethOwnerChanged_kept | with_reducible apply State.busOwnerChanged_kept
    | with_reducible apply State.ppc_kept | with_reducible apply State.dsOwnerChanged_kept
    | with_reducible apply Kept.ite | dsimp only

theorem State.ownImage_kept {z s : State} (rs : List Rec) (running : Bool) (hs : Kept z s) :
    Kept z (State.ownImage s rs running) := by
  unfold State.ownImage
  repeat' first
    | with_reducible assumption | intro _ | with_reducible apply State.each_kept
    | with_reducible apply State.put_kept | with_reducible apply State.setOwner_kept | with_reducible apply Kept.ite
    | dsimp only

theorem State.discardPending_kept {z s : State} (hs : Kept z s) : Kept z (State.discardPending s) := by
  unfold State.discardPending
  repeat' first
    | with_reducible assumption | intro _ | with_reducible refine State.modImg_kept _ ?_ rfl rfl rfl
    | with_reducible apply State.complete_kept | with_reducible apply State.logOp_kept
    | with_reducible apply Kept.foldl | dsimp only

theorem State.revoke_kept {z s : State} (p : PendImage) (hs : Kept z s) : Kept z (State.revoke s p) := by
  unfold State.revoke
  split
  · refine hs.setOtp _ rfl (fun i => .inr rfl) ?_
    dsimp only
    apply Nat.eq_of_testBit_eq
    intro i
    simp only [Nat.testBit_and, Nat.testBit_or]
    cases Nat.testBit s.img.revoked i <;> rfl
  · exact hs

theorem State.imageRegs_kept {z s : State} (p : PendImage) (hs : Kept z s) : Kept z (State.imageRegs s p) := by
  unfold State.imageRegs
  repeat' first
    | with_reducible assumption | intro _ | with_reducible apply State.setReg_kept
    | with_reducible apply State.put_kept | with_reducible apply State.setWords_kept | dsimp only

theorem State.commonValues_kept {z s : State} (rs : List Rec) (hs : Kept z s) : Kept z (State.commonValues s rs) := by
  unfold State.commonValues
  repeat' first
    | with_reducible assumption | intro _ | with_reducible apply State.zeroSelectors_kept
    | with_reducible apply State.valQueues_kept | with_reducible apply State.zeroBank_kept
    | with_reducible apply State.valBank_kept | with_reducible apply State.valLaunch_kept
    | with_reducible apply State.valChores_kept | with_reducible apply State.valRoutes_kept
    | with_reducible apply State.valTime_kept | with_reducible apply State.valPools_kept
    | with_reducible apply Kept.foldl | dsimp only

theorem State.keptUnit_kept {z s : State} (rs : List Rec) (u : Nat) (hs : Kept z s) :
    Kept z (State.keptUnit s rs u) := by
  unfold State.keptUnit
  repeat' first
    | with_reducible assumption | intro _ | with_reducible apply State.put_kept
    | with_reducible apply State.linkOff_kept | with_reducible apply State.cvAttach_kept
    | with_reducible apply State.groupEnable_kept | with_reducible apply State.headStop_kept
    | with_reducible apply State.valHead_kept | with_reducible apply State.headStart_kept
    | with_reducible apply State.pxCtrl_kept | with_reducible apply State.valEth_kept
    | with_reducible apply State.each_kept | with_reducible apply State.ethEnable_kept
    | with_reducible apply State.gptpStop_kept | with_reducible apply State.valUsb_kept
    | with_reducible apply State.valTiming_kept | with_reducible apply State.mdApply_kept
    | with_reducible apply State.efApply_kept | with_reducible apply Kept.ite | dsimp only

theorem State.firstUnit_kept {z s : State} (rs : List Rec) (u : Nat) (warm : Bool) (keep : Bool) (hs : Kept z s) :
    Kept z (State.firstUnit s rs u warm keep) := by
  unfold State.firstUnit
  repeat' first
    | with_reducible assumption | intro _ | with_reducible apply State.valCaravan_kept
    | with_reducible apply State.put_kept | with_reducible apply State.linkOff_kept
    | with_reducible apply State.linkSpeed_kept | with_reducible apply State.linkRef_kept
    | with_reducible apply State.cvAttach_kept | with_reducible apply State.valGroup_kept
    | with_reducible apply State.valHead_kept | with_reducible apply State.poolRegs_kept
    | with_reducible apply State.playaInit_kept | with_reducible apply State.headStart_kept
    | with_reducible apply State.pxInit_kept | with_reducible apply State.pxContain_kept
    | with_reducible apply State.valEth_kept | with_reducible apply State.each_kept
    | with_reducible apply State.valUsb_kept | with_reducible apply State.iff_kept
    | with_reducible apply State.modView_kept | with_reducible apply State.ppc_kept
    | with_reducible apply State.valTiming_kept | with_reducible apply State.mdApply_kept
    | with_reducible apply State.efApply_kept | with_reducible apply Kept.ite | dsimp only

theorem State.runUnit_kept {z s : State} (old : List Rec) (rs : List Rec) (u : Nat) (hs : Kept z s) :
    Kept z (State.runUnit s old rs u) := by
  unfold State.runUnit
  repeat' first
    | with_reducible assumption | intro _ | with_reducible apply State.keptUnit_kept
    | with_reducible apply State.isoInit_kept | with_reducible apply Kept.ite | dsimp only

theorem State.startWatch_kept {z s : State} (hs : Kept z s) : Kept z (State.startWatch s) := by
  unfold State.startWatch
  repeat' first
    | with_reducible assumption | intro _ | with_reducible apply State.modOwn_kept | with_reducible apply Kept.ite
    | dsimp only

theorem State.sessionClose_kept {z s : State} (hs : Kept z s) : Kept z (State.sessionClose s) := by
  unfold State.sessionClose
  repeat' first
    | with_reducible assumption | intro _ | with_reducible apply State.put_kept
    | with_reducible apply State.setReg_kept | with_reducible refine State.modImg_kept _ ?_ rfl rfl rfl | dsimp only

theorem State.applyImage_kept {z s : State} (p : PendImage) (hs : Kept z s) : Kept z (State.applyImage s p) := by
  unfold State.applyImage
  repeat' first
    | with_reducible assumption | intro _ | with_reducible apply State.revoke_kept
    | with_reducible apply State.discardPending_kept | with_reducible apply State.accrueAll_kept
    | with_reducible apply State.spreadEnd_kept | with_reducible apply State.isoCut_kept
    | with_reducible apply State.isoClose_kept | with_reducible refine State.modImg_kept _ ?_ rfl rfl rfl
    | with_reducible apply State.refile_kept | with_reducible apply State.commonValues_kept
    | with_reducible apply State.imageRegs_kept | with_reducible apply State.sessionClose_kept
    | with_reducible apply State.ownImage_kept | with_reducible apply State.runUnit_kept
    | with_reducible apply State.firstUnit_kept | with_reducible apply State.each_kept
    | with_reducible apply State.tcApply_kept | with_reducible apply State.tcAfterWarm_kept
    | with_reducible apply State.ownerHook_kept | with_reducible apply State.startWatch_kept
    | with_reducible apply State.iff_kept | with_reducible apply State.modAgent_kept
    | with_reducible apply State.faces_kept | with_reducible apply State.splitRegs_kept
    | with_reducible apply State.ppc_kept | with_reducible apply State.complete_kept
    | with_reducible apply State.imageResult_kept | with_reducible apply Kept.ite | with_reducible apply Kept.foldl
    | dsimp only

theorem State.postedFail_kept {z s : State} (a : Nat) (addr : Nat) (res : Nat) (hs : Kept z s) :
    Kept z (State.postedFail s a addr res) := by
  unfold State.postedFail
  repeat' first
    | with_reducible assumption | intro _ | with_reducible apply State.logOp_kept | dsimp only

theorem State.frameRefuse_kept {z s : State} (a : Nat) (tr : Transport) (f : Frame) (res : Nat) (hs : Kept z s) :
    Kept z (State.frameRefuse s a tr f res) := by
  unfold State.frameRefuse
  repeat' first
    | with_reducible assumption | intro _ | with_reducible apply State.bump_kept
    | with_reducible apply State.postedFail_kept | with_reducible apply State.answer_kept
    | with_reducible apply State.modOwn_kept | with_reducible apply Kept.ite | dsimp only

theorem State.passTurn_kept {z s : State} (a : Nat) (hs : Kept z s) : Kept z (State.passTurn s a) := by
  unfold State.passTurn
  repeat' first
    | with_reducible assumption | intro _ | simp only [Kept.mk_iff] | with_reducible apply Kept.parts | dsimp only

theorem State.serve_kept {z s : State} (a : Nat) (tr : Transport) (f : Frame) (act : State → State) (hs : Kept z s)
    (hact : ∀ s, Kept z s → Kept z (act s)) : Kept z (State.serve s a tr f act) := by
  unfold State.serve
  repeat' first
    | with_reducible assumption | intro _ | with_reducible apply hact | with_reducible apply State.passTurn_kept
    | with_reducible apply State.frameRefuse_kept | with_reducible apply Kept.ite | dsimp only

theorem State.arrive_kept {z s : State} (a : Nat) (tr : Transport) (f : Frame) (act : State → State) (hs : Kept z s)
    (hact : ∀ s, Kept z s → Kept z (act s)) : Kept z (State.arrive s a tr f act) := by
  unfold State.arrive
  repeat' first
    | with_reducible assumption | intro _ | with_reducible apply hact | with_reducible apply State.modAgent_kept
    | with_reducible apply State.serve_kept | with_reducible apply Kept.ite | dsimp only

theorem State.flashErase_kept {z s : State} (sector : Nat) (hs : Kept z s) : Kept z (State.flashErase s sector) := by
  unfold State.flashErase
  refine State.emit_kept _ ?_
  exact hs.setFlash _ (cellsWf_cellKeep 0xFF (fun k => k / 65536 != sector) s.img.flash hs.sound.flash) rfl rfl

theorem State.flashProgram_kept {z s : State} (lo : Nat) (bs : List Byte) (hs : Kept z s) :
    Kept z (State.flashProgram s lo bs) :=
  hs.setFlash _ (cellsWf_cellSplice 0xFF _ lo bs hs.sound.flash) rfl rfl

theorem execFlashReady_kept {z s : State} (hs : Kept z s) : KeptBy z (execFlashReady s) := by
  unfold execFlashReady
  repeat' first
    | with_reducible apply KeptBy.next | with_reducible apply KeptBy.ite | with_reducible assumption | intro _
    | with_reducible refine State.modImg_kept _ ?_ rfl rfl rfl | with_reducible apply Kept.ite | dsimp only

theorem execBootSlotChecked_kept {z s : State} (hs : Kept z s) : KeptBy z (execBootSlotChecked s) := by
  unfold execBootSlotChecked
  repeat' first
    | with_reducible apply KeptBy.next | with_reducible apply KeptBy.ite | with_reducible assumption | intro _
    | with_reducible refine State.modImg_kept _ ?_ rfl rfl rfl | with_reducible apply State.imageResult_kept
    | with_reducible apply State.put_kept | with_reducible apply Kept.ite | split | dsimp only

theorem State.imageEnd_kept {z s : State} (a : Nat) (tr : Transport) (f : Frame) (cause : Nat) (hs : Kept z s) :
    Kept z (State.imageEnd s a tr f cause) := by
  unfold State.imageEnd
  repeat' first
    | with_reducible assumption | intro _ | with_reducible apply State.reply_kept
    | with_reducible apply State.imageResult_kept | dsimp only

theorem State.sessionSet_kept {z s : State} (x : Session) (hs : Kept z s) : Kept z (State.sessionSet s x) := by
  unfold State.sessionSet
  repeat' first
    | with_reducible assumption | intro _ | with_reducible refine State.modImg_kept _ ?_ rfl rfl rfl
    | with_reducible apply State.put_kept | with_reducible apply State.setReg_kept | dsimp only

theorem State.imageBegin_kept {z s : State} (a : Nat) (tr : Transport) (f : Frame) (hs : Kept z s) :
    Kept z (State.imageBegin s a tr f) := by
  unfold State.imageBegin
  repeat' first
    | with_reducible assumption | intro _ | with_reducible apply State.imageEnd_kept
    | with_reducible apply State.sessionSet_kept | with_reducible apply State.reply_kept
    | with_reducible apply State.flashErase_kept | with_reducible apply Kept.ite | dsimp only

theorem execImageBegin_kept {z s : State} (a : Agent) (t : Transport) (tag : Byte) (addr : Word) (data : List Word)
    (hs : Kept z s) : KeptBy z (execImageBegin a t tag addr data s) := by
  unfold execImageBegin
  repeat' first
    | with_reducible apply KeptBy.next | with_reducible apply KeptBy.ite | with_reducible assumption | intro _
    | with_reducible apply State.arrive_kept | with_reducible apply State.imageBegin_kept | dsimp only

theorem State.imageData_kept {z s : State} (a : Nat) (tr : Transport) (f : Frame) (hs : Kept z s) :
    Kept z (State.imageData s a tr f) := by
  unfold State.imageData
  repeat' first
    | with_reducible assumption | intro _ | with_reducible apply State.imageEnd_kept
    | with_reducible apply State.sessionSet_kept | with_reducible apply State.each_kept
    | with_reducible apply State.flashErase_kept | with_reducible apply State.flashProgram_kept
    | with_reducible apply State.reply_kept | with_reducible apply Kept.ite | split | dsimp only

theorem execImageData_kept {z s : State} (a : Agent) (t : Transport) (tag : Byte) (addr : Word) (data : List Word) (hs
    : Kept z s) : KeptBy z (execImageData a t tag addr data s) := by
  unfold execImageData
  repeat' first
    | with_reducible apply KeptBy.next | with_reducible apply KeptBy.ite | with_reducible assumption | intro _
    | with_reducible apply State.arrive_kept | with_reducible apply State.imageData_kept | dsimp only

theorem State.imageCommit_kept {z s : State} (a : Nat) (tr : Transport) (f : Frame) (hs : Kept z s) :
    Kept z (State.imageCommit s a tr f) := by
  unfold State.imageCommit
  repeat' first
    | with_reducible assumption | intro _ | with_reducible apply State.imageEnd_kept
    | with_reducible apply State.sessionSet_kept | with_reducible apply State.openNp_kept
    | with_reducible apply Kept.ite | split | dsimp only

theorem execImageCommit_kept {z s : State} (a : Agent) (t : Transport) (tag : Byte) (addr : Word) (data : List Word)
    (hs : Kept z s) : KeptBy z (execImageCommit a t tag addr data s) := by
  unfold execImageCommit
  repeat' first
    | with_reducible apply KeptBy.next | with_reducible apply KeptBy.ite | with_reducible assumption | intro _
    | with_reducible apply State.arrive_kept | with_reducible apply State.imageCommit_kept | dsimp only

/-- A verdict passes on the slot and the enrolment it was given. -/
theorem State.recsJudge_good (s : State) (e : Erg) (slot : Nat) (enrol : Bool) (who : Option Nat) (x : Erg × Nat × Bool)
    (h : (s.recsJudge e slot enrol who).good = some x) : x = (e, slot, enrol) := by
  unfold State.recsJudge at h
  dsimp only at h
  repeat' split at h
  all_goals first
    | (simp only [Option.some.injEq] at h; exact h.symm)
    | exact absurd h (by simp)

/-- A slot that an image enrols is blank; the device is in BARE and the committing agent in service mode (R82). -/
theorem State.imageJudge_enrol (s : State) (bs : List Byte) (who : Option Nat) (e : Erg) (slot : Nat)
    (h : (s.imageJudge bs who).good = some (e, slot, true)) :
    vAt s.img.otp slot = none ∧ s.img.phase = .bare ∧ ∃ a, who = some a ∧ s.inService a = true := by
  unfold State.imageJudge at h
  extract_lets w stop gen no rev k key trusted slot0 at h
  have hdef : slot0 = trusted.or (s.enrolSlot who (bitAt (wordAt w 2) 16)) := rfl
  clear_value slot0
  split at h
  · exact absurd h (by simp [no])
  split at h
  · exact absurd h (by simp [no])
  split at h
  · exact absurd h (by simp [no])
  split at h
  · exact absurd h (by simp [no])
  · rename_i sl
    split at h
    · exact absurd h (by simp [no])
    split at h
    · exact absurd h (by simp [no])
    split at h
    · exact absurd h (by simp [no])
    · have hx := State.recsJudge_good _ _ _ _ _ _ h
      simp only [Prod.mk.injEq] at hx
      have ht : trusted = none := by
        have := hx.2.2
        cases hc : trusted with
        | none => rfl
        | some v => rw [hc] at this; simp at this
      have hs : s.enrolSlot who (bitAt (wordAt w 2) 16) = some slot := by
        rw [ht] at hdef
        rw [hx.2.1]
        exact hdef.symm
      unfold State.enrolSlot at hs
      split at hs
      · rename_i a
        split at hs
        · rename_i hc
          simp only [Bool.and_eq_true, beq_iff_eq] at hc
          have hf := List.find?_some hs
          refine ⟨?_, hc.1.2, a, rfl, hc.2⟩
          simpa using hf
        · exact absurd hs (by simp)
      · exact absurd hs (by simp)

theorem vAt_vPut {α : Type} {n : Nat} [NeZero n] (v : Vector α n) (i j : Nat) (x : α) :
    vAt (vPut v i x) j = if i % n = j % n then x else vAt v j := by
  unfold vAt vPut
  rw [Vector.getElem_set]

theorem State.commitChecked_kept {z s : State} (x : Session) (tr : Transport) (tag : Nat) (hs : Kept z s) :
    Kept z (State.commitChecked s x tr tag) := by
  unfold State.commitChecked
  dsimp only
  split
  · exact State.complete_kept _ _ _ _ (State.imageResult_kept _ _ _ _ _ _ _ (State.sessionClose_kept hs))
  · rename_i e slot enrol hg
    refine hs.setOtp _ rfl ?_ (Nat.and_self _)
    intro i
    dsimp only
    cases enrol with
    | false => exact .inr rfl
    | true =>
      have hb := (State.imageJudge_enrol s _ _ e slot hg).1
      rw [if_pos rfl, vAt_vPut]
      by_cases h : slot % 4 = i % 4
      · refine .inl ?_
        unfold vAt at hb ⊢
        simp only [← h]
        exact hb
      · rw [if_neg h]
        exact .inr rfl

theorem execImageCheckDone_kept {z s : State} (hs : Kept z s) : KeptBy z (execImageCheckDone s) := by
  unfold execImageCheckDone
  repeat' first
    | with_reducible apply KeptBy.next | with_reducible apply KeptBy.ite | with_reducible assumption | intro _
    | with_reducible apply State.commitChecked_kept | with_reducible apply Kept.ite | split | dsimp only

theorem State.sessionAbort_kept {z s : State} (hs : Kept z s) : Kept z (State.sessionAbort s) := by
  unfold State.sessionAbort
  repeat' first
    | with_reducible assumption | intro _ | with_reducible apply State.imageResult_kept
    | with_reducible apply State.logOp_kept | with_reducible apply State.sessionClose_kept
    | with_reducible apply State.complete_kept | with_reducible apply Kept.ite | split | dsimp only

theorem execSessionTimeout_kept {z s : State} (hs : Kept z s) : KeptBy z (execSessionTimeout s) := by
  unfold execSessionTimeout
  repeat' first
    | with_reducible apply KeptBy.next | with_reducible apply KeptBy.ite | with_reducible assumption | intro _
    | with_reducible apply State.sessionAbort_kept | with_reducible apply State.advanceTo_kept
    | with_reducible apply Kept.ite | split | dsimp only

theorem State.imagePatch_kept {z s : State} (a : Nat) (tr : Transport) (f : Frame) (hs : Kept z s) :
    Kept z (State.imagePatch s a tr f) := by
  unfold State.imagePatch
  repeat' first
    | with_reducible assumption | intro _ | with_reducible apply State.reply_kept
    | with_reducible apply State.imageResult_kept | with_reducible refine State.modImg_kept _ ?_ rfl rfl rfl
    | with_reducible apply State.openNp_kept | with_reducible apply Kept.ite | split | dsimp only

theorem execImagePatch_kept {z s : State} (a : Agent) (t : Transport) (tag : Byte) (addr : Word) (data : List Word)
    (hs : Kept z s) : KeptBy z (execImagePatch a t tag addr data s) := by
  unfold execImagePatch
  repeat' first
    | with_reducible apply KeptBy.next | with_reducible apply KeptBy.ite | with_reducible assumption | intro _
    | with_reducible apply State.arrive_kept | with_reducible apply State.imagePatch_kept | dsimp only

theorem State.fatalMet_kept {z s : State} (u : Nat) (hs : Kept z s) : Kept z (State.fatalMet s u) := by
  unfold State.fatalMet
  repeat' first
    | with_reducible assumption | intro _ | with_reducible apply State.notice_kept
    | with_reducible apply State.put_kept | with_reducible apply State.isoEscalate_kept
    | with_reducible apply State.logHw_kept | simp only [Kept.mk_iff] | with_reducible apply Kept.parts
    | with_reducible apply Kept.ite | split | dsimp only

theorem State.queueRepair_kept {z s : State} (array : Nat) (row : Nat) (hs : Kept z s) :
    Kept z (State.queueRepair s array row) := by
  unfold State.queueRepair
  repeat' first
    | with_reducible assumption | intro _ | simp only [Kept.mk_iff] | with_reducible apply Kept.parts
    | with_reducible apply Kept.ite | dsimp only

theorem State.internalError_kept {z s : State} (a : Nat) (tag : Nat) (unit : Nat) (hs : Kept z s) :
    Kept z (State.internalError s a tag unit) := by
  unfold State.internalError
  repeat' first
    | with_reducible assumption | intro _ | with_reducible apply State.complete_kept
    | with_reducible apply State.logOp_kept | split | dsimp only

theorem State.eccLost_kept {z s : State} (array : BitVec 16) (detail : Nat) (met : EccIn) (hs : Kept z s) :
    Kept z (State.eccLost s array detail met) := by
  unfold State.eccLost
  repeat' first
    | with_reducible assumption | intro _ | with_reducible apply State.grainError_kept
    | with_reducible apply State.fatalMet_kept | with_reducible apply State.logHw_kept
    | with_reducible apply State.internalError_kept | with_reducible apply Kept.ite | split | dsimp only

theorem execEccError_kept {z s : State} (array : BitVec 16) (row : BitVec 16) (double : Bool) (met : EccIn) (hs : Kept
    z s) : KeptBy z (execEccError array row double met s) := by
  unfold execEccError
  repeat' first
    | with_reducible apply KeptBy.next | with_reducible apply KeptBy.ite | with_reducible assumption | intro _
    | with_reducible apply State.logHw_kept | with_reducible apply State.bump_kept
    | with_reducible apply State.eccLost_kept | with_reducible apply State.queueRepair_kept
    | with_reducible apply Kept.ite | split | dsimp only

theorem execScrub_kept {z s : State} (fixes : List (Prod (BitVec 16) (BitVec 16))) (hs : Kept z s) :
    KeptBy z (execScrub fixes s) := by
  unfold execScrub
  repeat' first
    | with_reducible apply KeptBy.next | with_reducible apply KeptBy.ite | with_reducible assumption | intro _
    | with_reducible apply State.logHw_kept | with_reducible apply State.bump_kept
    | with_reducible apply State.queueRepair_kept | simp only [Kept.mk_iff] | with_reducible apply Kept.parts
    | with_reducible apply Kept.foldl | dsimp only

theorem execRowRepair_kept {z s : State} (array : BitVec 16) (row : BitVec 16) (badSpares : Nat) (spares : Nat) (hs :
    Kept z s) : KeptBy z (execRowRepair array row badSpares spares s) := by
  unfold execRowRepair
  repeat' first
    | with_reducible apply KeptBy.next | with_reducible apply KeptBy.ite | with_reducible assumption | intro _
    | with_reducible apply State.put_kept | with_reducible apply State.bump_kept
    | with_reducible apply State.logHw_kept | with_reducible apply State.raise_kept
    | with_reducible apply State.notice_kept | simp only [Kept.mk_iff] | with_reducible apply Kept.parts
    | with_reducible apply Kept.ite | split | dsimp only

theorem execFatalError_kept {z s : State} (unit : Fin 42) (code : Word) (hs : Kept z s) :
    KeptBy z (execFatalError unit code s) := by
  unfold execFatalError
  repeat' first
    | with_reducible apply KeptBy.next | with_reducible apply KeptBy.ite | with_reducible assumption | intro _
    | with_reducible apply State.fatalMet_kept | with_reducible apply State.logHw_kept
    | with_reducible apply Kept.ite | dsimp only

theorem State.ringPop_kept {z s : State} (a : Nat) (hs : Kept z s) : Kept z (State.ringPop s a) :=
  hs.modLogs a _ (fun l hl => by simp <;> omega)

theorem State.firstAck_kept {z s : State} (a : Nat) (hs : Kept z s) : Kept z (State.firstAck s a) :=
  hs.modLogs a _ (fun l hl => by simp <;> omega)

theorem State.threshold_kept {z s : State} (n : Nat) (inst : Nat) (above : Bool) (hs : Kept z s) :
    Kept z (State.threshold s n inst above) := by
  unfold State.threshold
  repeat' first
    | with_reducible assumption | intro _ | with_reducible apply State.notice_kept | simp only [Kept.mk_iff]
    | with_reducible apply Kept.parts | with_reducible apply Kept.ite | dsimp only

theorem State.wearHeat_kept {z s : State} (sample : Int) (hs : Kept z s) : Kept z (State.wearHeat s sample) := by
  unfold State.wearHeat
  repeat' first
    | with_reducible assumption | intro _ | with_reducible apply State.put_kept
    | with_reducible apply State.bump_kept | with_reducible apply State.threshold_kept
    | with_reducible apply State.logHw_kept | with_reducible apply State.raise_kept | simp only [Kept.mk_iff]
    | with_reducible apply Kept.parts | with_reducible apply Kept.ite | dsimp only

theorem State.wearRing_kept {z s : State} (slow : Nat) (hs : Kept z s) : Kept z (State.wearRing s slow) := by
  unfold State.wearRing
  repeat' first
    | with_reducible assumption | intro _ | with_reducible apply State.put_kept
    | with_reducible apply State.took_kept | with_reducible apply State.threshold_kept | simp only [Kept.mk_iff]
    | with_reducible apply Kept.parts | with_reducible apply Kept.ite | dsimp only

theorem State.wearAttach_kept {z s : State} (hs : Kept z s) : Kept z (State.wearAttach s) := by
  unfold State.wearAttach
  repeat' first
    | with_reducible assumption | intro _ | with_reducible apply State.each_kept
    | with_reducible apply State.bump_kept | with_reducible apply State.threshold_kept | simp only [Kept.mk_iff]
    | with_reducible apply Kept.parts | split | dsimp only

theorem State.wearBer_kept {z s : State} (hs : Kept z s) : Kept z (State.wearBer s) := by
  unfold State.wearBer
  repeat' first
    | with_reducible assumption | intro _ | with_reducible apply State.each_kept
    | with_reducible apply State.threshold_kept | simp only [Kept.mk_iff] | with_reducible apply Kept.parts | split
    | dsimp only

theorem State.wearEyes_kept {z s : State} (hs : Kept z s) : Kept z (State.wearEyes s) := by
  unfold State.wearEyes
  repeat' first
    | with_reducible assumption | intro _ | with_reducible apply State.each_kept
    | with_reducible apply State.threshold_kept | split | dsimp only

theorem State.wearSlices_kept {z s : State} (bad : Nat) (hs : Kept z s) : Kept z (State.wearSlices s bad) := by
  unfold State.wearSlices
  repeat' first
    | with_reducible assumption | intro _ | with_reducible apply State.each_kept
    | with_reducible apply State.notice_kept | with_reducible apply State.put_kept | with_reducible apply Kept.ite
    | dsimp only

theorem execWearSample_kept {z s : State} (m : Fin 8) (prevOpen : Bool) (sample : Int) (slices : BitVec 9) (hs : Kept
    z s) : KeptBy z (execWearSample m prevOpen sample slices s) := by
  unfold execWearSample
  repeat' first
    | with_reducible apply KeptBy.next | with_reducible apply KeptBy.ite | with_reducible assumption | intro _
    | with_reducible apply State.chore_kept | with_reducible apply State.wearHeat_kept
    | with_reducible apply State.wearRing_kept | with_reducible apply State.each_kept
    | with_reducible apply State.threshold_kept | with_reducible apply State.wearAttach_kept
    | with_reducible apply State.wearBer_kept | with_reducible apply State.wearEyes_kept
    | with_reducible apply State.wearSlices_kept | simp only [Kept.mk_iff] | with_reducible apply Kept.parts
    | with_reducible apply Kept.ite | split | dsimp only

theorem State.wearWrite_kept {z s : State} (hs : Kept z s) : Kept z (State.wearWrite s) := by
  unfold State.wearWrite
  repeat' first
    | with_reducible assumption | intro _ | with_reducible apply State.flashErase_kept
    | with_reducible apply State.flashProgram_kept | with_reducible apply State.put_kept | simp only [Kept.mk_iff]
    | with_reducible apply Kept.parts | with_reducible apply Kept.ite | split | dsimp only

theorem State.wearPut_kept {z s : State} (hs : Kept z s) : Kept z (State.wearPut s) := by
  unfold State.wearPut
  repeat' first
    | with_reducible assumption | intro _ | with_reducible apply State.wearWrite_kept
    | with_reducible apply State.took_kept | with_reducible apply State.notice_kept | with_reducible apply Kept.ite
    | dsimp only

theorem execWearRecordWrite_kept {z s : State} (hs : Kept z s) : KeptBy z (execWearRecordWrite s) := by
  unfold execWearRecordWrite
  repeat' first
    | with_reducible apply KeptBy.next | with_reducible apply KeptBy.ite | with_reducible assumption | intro _
    | with_reducible apply State.wearPut_kept | with_reducible apply Kept.ite | dsimp only

theorem State.wearLoad_kept {z s : State} (hs : Kept z s) : Kept z (State.wearLoad s) := by
  unfold State.wearLoad
  repeat' first
    | with_reducible assumption | intro _ | with_reducible apply State.notice_kept
    | with_reducible apply State.put_kept | with_reducible apply State.each_kept | simp only [Kept.mk_iff]
    | with_reducible apply Kept.parts | split | dsimp only

theorem State.reset_sound : State.reset.Sound := by
  refine ⟨?_, rfl, by decide +kernel, by decide +kernel, by decide +kernel, Nat.zero_le _⟩
  show (cellsWf 0 resetRegs && true && true && true) = true
  rw [resetRegs_wf]
  rfl

/-- What a cold reset keeps: the queue, the boot flash and OTP. -/
theorem Kept.cold {z s : State} (h : Kept z s) (o : List Emit) (n : Nat) (f : ImgState → ImgState)
    (hf : (f State.reset.img).flash = s.img.flash) (ho : (f State.reset.img).otp = s.img.otp)
    (hr : (f State.reset.img).revoked = s.img.revoked) :
    Kept z (({ State.reset with pending := s.pending, out := o, free := n } : State).modImg f) := by
  have hp := h.parts
  have h0 := State.reset_sound
  apply Kept.of_parts
  refine ⟨h0.regs, ?_, h0.pixels, h0.tags, h0.time, h0.rings, h0.caps, h0.perr, h0.fdb, h.pending, ?_⟩
  · show cellsWf 0xFF (f State.reset.img).flash = true
    rw [hf]
    exact h.sound.flash
  · show otpGrew z (f State.reset.img).otp (f State.reset.img).revoked
    rw [ho, hr]
    exact h.otp

theorem State.coldState_kept {z s : State} (code : Nat) (vham : Bool) (hs : Kept z s) :
    Kept z (State.coldState s code vham) := by
  unfold State.coldState
  repeat' first
    | with_reducible assumption | intro _ | with_reducible refine Kept.cold ?_ _ _ _ rfl rfl rfl
    | with_reducible refine State.modImg_kept _ ?_ rfl rfl rfl | with_reducible apply State.setReg_kept
    | with_reducible apply State.each_kept | with_reducible apply State.put_kept | simp only [Kept.mk_iff]
    | with_reducible apply Kept.parts | with_reducible apply Kept.ite | split | dsimp only

theorem State.railsTo_kept {z s : State} (valid : Nat) (en : Nat) (hs : Kept z s) :
    Kept z (State.railsTo s valid en) := by
  unfold State.railsTo
  repeat' first
    | with_reducible assumption | intro _ | with_reducible refine State.modImg_kept _ ?_ rfl rfl rfl
    | simp only [Kept.mk_iff] | with_reducible apply Kept.parts | with_reducible apply Kept.ite | dsimp only

theorem State.coldReset_kept {z s : State} (cause : Nat) (hs : Kept z s) : Kept z (State.coldReset s cause) := by
  unfold State.coldReset
  repeat' first
    | with_reducible assumption | intro _ | with_reducible apply State.coldState_kept
    | with_reducible apply State.railsTo_kept | with_reducible apply Kept.ite | dsimp only

theorem execColdReset_kept {z s : State} (cause : Fin 9) (hs : Kept z s) : KeptBy z (execColdReset cause s) := by
  unfold execColdReset
  repeat' first
    | with_reducible apply KeptBy.next | with_reducible apply KeptBy.ite | with_reducible assumption | intro _
    | with_reducible apply State.coldReset_kept | dsimp only

theorem execRailValid_kept {z s : State} (rail : Fin 7) (hs : Kept z s) : KeptBy z (execRailValid rail s) := by
  unfold execRailValid
  repeat' first
    | with_reducible apply KeptBy.next | with_reducible apply KeptBy.ite | with_reducible assumption | intro _
    | with_reducible apply State.railsTo_kept | with_reducible apply Kept.ite | dsimp only

theorem execRailSequenceFail_kept {z s : State} (rail : Fin 6) (hs : Kept z s) :
    KeptBy z (execRailSequenceFail rail s) := by
  unfold execRailSequenceFail
  repeat' first
    | with_reducible apply KeptBy.next | with_reducible apply KeptBy.ite | with_reducible assumption | intro _
    | with_reducible apply State.railsTo_kept | with_reducible apply Kept.ite | dsimp only

theorem State.warmLink_kept {z s old : State} (h : Nat) (hs : Kept z s) (hold : Kept z old) :
    Kept z (State.warmLink s old h) := by
  unfold State.warmLink
  repeat' first
    | with_reducible assumption | intro _ | with_reducible apply State.put_kept
    | with_reducible apply State.each_kept | with_reducible apply State.lanesIdle_kept
    | with_reducible apply State.modLink_kept | with_reducible apply Kept.ite | dsimp only

theorem State.rebuildTime_kept {z s : State} (elapsed : Nat) (unc : Nat) (hs : Kept z s) :
    Kept z (State.rebuildTime s elapsed unc) := by
  unfold State.rebuildTime
  repeat' first
    | with_reducible assumption | intro _ | with_reducible refine State.modClock_time _ ?_ (by dsimp only; omega)
    | with_reducible refine State.modClock_kept _ ?_ rfl | with_reducible apply State.put_kept | dsimp only

theorem cellsWf_foldl {γ : Type} (f : List (Nat × Word) → γ → List (Nat × Word))
    (hf : ∀ l c, cellsWf (0 : Word) l = true → cellsWf (0 : Word) (f l c) = true) :
    ∀ (l : List γ) (b : List (Nat × Word)), cellsWf (0 : Word) b = true → cellsWf (0 : Word) (l.foldl f b) = true
  | [], _, h => h
  | c :: l, b, h => cellsWf_foldl f hf l (f b c) (hf b c h)

theorem warmRegs_wf (old : List (Nat × Word)) : cellsWf (0 : Word) (warmRegs old) = true := by
  unfold warmRegs
  refine cellsWf_foldl _ ?_ _ _ (cellsWf_foldl _ ?_ _ _ resetRegs_wf)
  · intro l c h
    dsimp only
    split
    · exact h
    · exact cellsWf_cellSet _ _ _ _ h
  · intro l c h
    exact cellsWf_cellSet _ _ _ _ h

theorem Kept.parts_warm {z s : State} (h : Kept z s) :
    keptParts z s.pending (warmRegs s.regs) s.img.flash s.img.otp s.img.revoked s.pl.pixels s.pl.tags s.clock.time s.logs
      sirocco0.caps s.wd.perr eth0.fdb := by
  have hp := h.parts
  exact ⟨warmRegs_wf _, hp.2.1, hp.2.2.1, hp.2.2.2.1, hp.2.2.2.2.1, hp.2.2.2.2.2.1, by decide +kernel, hp.2.2.2.2.2.2.2.1,
    Nat.zero_le _, hp.2.2.2.2.2.2.2.2.2⟩

theorem State.warmState_kept {z s : State} (lost : Nat) (hs : Kept z s) : Kept z (State.warmState s lost) := by
  unfold State.warmState
  repeat' first
    | with_reducible assumption | intro _ | with_reducible apply Kept.parts_warm
    | with_reducible apply State.quitMsgs_kept | with_reducible apply State.each_kept
    | with_reducible apply State.warmLink_kept | with_reducible apply State.bump_kept
    | with_reducible apply State.put_kept | simp only [Kept.mk_iff] | with_reducible apply Kept.parts
    | with_reducible apply Kept.ite | dsimp only

theorem execWarmReset_kept {z s : State} (hs : Kept z s) : KeptBy z (execWarmReset s) := by
  unfold execWarmReset
  repeat' first
    | with_reducible apply KeptBy.next | with_reducible apply KeptBy.ite | with_reducible assumption | intro _
    | with_reducible apply State.sessionAbort_kept | with_reducible apply State.warmState_kept
    | with_reducible refine State.modImg_kept _ ?_ rfl rfl rfl | with_reducible apply State.took_kept
    | with_reducible apply State.rebuildTime_kept | with_reducible apply Kept.ite | dsimp only

theorem execWarmResetEnd_kept {z s : State} (hs : Kept z s) : KeptBy z (execWarmResetEnd s) := by
  unfold execWarmResetEnd
  repeat' first
    | with_reducible apply KeptBy.next | with_reducible apply KeptBy.ite | with_reducible assumption | intro _
    | with_reducible refine State.modImg_kept _ ?_ rfl rfl rfl | with_reducible apply State.modOwn_kept
    | with_reducible apply State.each_kept | with_reducible apply State.modAgent_kept | with_reducible apply Kept.ite
    | dsimp only

theorem State.coldTested_kept {z s : State} (hs : Kept z s) : Kept z (State.coldTested s) := by
  unfold State.coldTested
  repeat' first
    | with_reducible assumption | intro _ | with_reducible apply State.queueRepair_kept
    | with_reducible apply State.wearSlices_kept | with_reducible apply State.wearLoad_kept
    | with_reducible apply State.took_kept | with_reducible apply Kept.foldl | dsimp only

theorem execSelfTestEnd_kept {z s : State} (hs : Kept z s) : KeptBy z (execSelfTestEnd s) := by
  unfold execSelfTestEnd
  repeat' first
    | with_reducible apply KeptBy.next | with_reducible apply KeptBy.ite | with_reducible assumption | intro _
    | with_reducible refine State.modImg_kept _ ?_ rfl rfl rfl | with_reducible apply State.coldTested_kept
    | with_reducible apply State.faces_kept | with_reducible apply Kept.ite | dsimp only

end Sys2Proof.Machine
end

