-- ==== Sys2Proof/Laws/KeptCommands.lean ====
section
/-! SUPPORT. Laws/KeptCommands.lean: the commands that reach several units keep what Laws/Kept.lean names. -/

set_option linter.unusedTactic false
set_option linter.unreachableTactic false

namespace Sys2Proof.Machine

theorem State.dealUp_kept {z s : State} (h : Nat) (i : QItem) (hs : Kept z s) : Kept z (State.dealUp s h i) := by
  unfold State.dealUp
  repeat' first
    | with_reducible assumption | intro _ | with_reducible apply State.sendPacket_kept
    | with_reducible apply State.replyLeaves_kept | refine Kept.of_pair (by with_reducible assumption) ?_ | split
    | dsimp only

theorem State.sendUp_kept {z s : State} (h : Nat) (hs : Kept z s) : Kept z (State.sendUp s h) := by
  unfold State.sendUp
  repeat' first
    | with_reducible assumption | intro _ | refine State.choose_kept _ _ ?_ _ _ _ (by with_reducible assumption)
    | with_reducible apply State.dealPacket_kept | with_reducible apply State.modLink_kept
    | with_reducible apply State.dealUp_kept | with_reducible apply State.takeHead_kept
    | with_reducible apply Kept.ite | split | dsimp only

theorem State.sendSwitch_kept {z s : State} (p : Nat) (hs : Kept z s) : Kept z (State.sendSwitch s p) := by
  unfold State.sendSwitch
  repeat' first
    | with_reducible assumption | intro _ | refine State.choose_kept _ _ ?_ _ _ _ (by with_reducible assumption)
    | with_reducible apply State.takeHead_kept | with_reducible apply State.gateDiscard_kept
    | with_reducible apply State.ethTransmit_kept | with_reducible apply State.ethToHost_kept
    | with_reducible apply Kept.ite | split | dsimp only

theorem State.spiLeaves_kept {z s : State} (hs : Kept z s) : Kept z (State.spiLeaves s) := by
  unfold State.spiLeaves
  repeat' first
    | with_reducible assumption | intro _ | with_reducible apply State.emit_kept | simp only [Kept.mk_iff]
    | with_reducible apply Kept.parts | with_reducible apply State.replyLeaves_kept
    | refine Kept.of_pair (by with_reducible assumption) ?_ | split | dsimp only

theorem State.flushReplies_kept {z s : State} (a : Nat) (tr : Transport) (hs : Kept z s) :
    Kept z (State.flushReplies s a tr) := by
  unfold State.flushReplies
  repeat' first
    | with_reducible assumption | intro _ | with_reducible apply State.each_kept
    | with_reducible apply State.spiLeaves_kept | with_reducible apply State.usbLeaves_kept
    | with_reducible apply State.dealUp_kept | with_reducible apply State.takeHead_kept
    | with_reducible apply Kept.ite | split | dsimp only

theorem State.powerRefused_kept {z s : State} (a : Nat) (code : Nat) (target : Nat) (hs : Kept z s) :
    Kept z (State.powerRefused s a code target) := by
  unfold State.powerRefused
  repeat' first
    | with_reducible assumption | intro _ | with_reducible apply State.bump_kept
    | with_reducible apply State.setReg_kept | with_reducible apply State.raise_kept | with_reducible apply Kept.ite
    | dsimp only

theorem State.powerClear_kept {z s : State} (hs : Kept z s) : Kept z (State.powerClear s) := by
  unfold State.powerClear
  repeat' first
    | with_reducible assumption | intro _ | with_reducible apply State.put_kept | simp only [Kept.mk_iff]
    | with_reducible apply Kept.parts | dsimp only

theorem State.powerEnd_kept {z s : State} (code : Nat) (hs : Kept z s) : Kept z (State.powerEnd s code) := by
  unfold State.powerEnd
  repeat' first
    | with_reducible assumption | intro _ | with_reducible apply State.complete_kept
    | with_reducible apply State.powerRefused_kept | with_reducible apply State.powerClear_kept | split | dsimp only

theorem State.powerReply_kept {z s : State} (a : Nat) (tr : Transport) (f : Frame) (result : Nat) (code : Nat) (hs :
    Kept z s) : Kept z (State.powerReply s a tr f result code) := by
  unfold State.powerReply
  repeat' first
    | with_reducible assumption | intro _ | with_reducible apply State.powerRefused_kept
    | with_reducible apply State.reply_kept | with_reducible apply Kept.ite | dsimp only

theorem State.powerEnter_kept {z s : State} (a : Nat) (tr : Transport) (f : Frame) (hs : Kept z s) :
    Kept z (State.powerEnter s a tr f) := by
  unfold State.powerEnter
  repeat' first
    | with_reducible assumption | intro _ | with_reducible apply State.powerReply_kept
    | with_reducible apply State.put_kept | with_reducible apply State.powerEnd_kept
    | with_reducible apply State.openNp_kept | simp only [Kept.mk_iff] | with_reducible apply Kept.parts
    | with_reducible apply Kept.ite | split | dsimp only

theorem execPowerEnter_kept {z s : State} (a : Agent) (t : Transport) (tag : Byte) (target : Word) (hs : Kept z s) :
    KeptBy z (execPowerEnter a t tag target s) := by
  unfold execPowerEnter
  repeat' first
    | with_reducible apply KeptBy.next | with_reducible apply KeptBy.ite | with_reducible assumption | intro _
    | with_reducible apply State.arrive_kept | with_reducible apply State.powerEnter_kept | dsimp only

theorem State.powerQuery_kept {z s : State} (a : Nat) (tr : Transport) (f : Frame) (hs : Kept z s) :
    Kept z (State.powerQuery s a tr f) := by
  unfold State.powerQuery
  repeat' first
    | with_reducible assumption | intro _ | with_reducible apply State.reply_kept | dsimp only

theorem execPowerQuery_kept {z s : State} (a : Agent) (t : Transport) (tag : Byte) (hs : Kept z s) :
    KeptBy z (execPowerQuery a t tag s) := by
  unfold execPowerQuery
  repeat' first
    | with_reducible apply KeptBy.next | with_reducible apply KeptBy.ite | with_reducible assumption | intro _
    | with_reducible apply State.arrive_kept | with_reducible apply State.powerQuery_kept | dsimp only

theorem State.stayWrite_kept {z s : State} (a : Nat) (v : Nat) (hs : Kept z s) : Kept z (State.stayWrite s a v) := by
  unfold State.stayWrite
  repeat' first
    | with_reducible assumption | intro _ | with_reducible apply State.put_kept | with_reducible apply Kept.ite
    | dsimp only

theorem State.powerTick_kept {z s : State} (hs : Kept z s) : Kept z (State.powerTick s) := by
  unfold State.powerTick
  repeat' first
    | with_reducible assumption | intro _ | with_reducible apply State.powerEnd_kept | simp only [Kept.mk_iff]
    | with_reducible apply Kept.parts | with_reducible apply Kept.ite | split | dsimp only

theorem State.quiesce_kept {z s : State} (hs : Kept z s) : Kept z (State.quiesce s) := by
  unfold State.quiesce
  repeat' first
    | with_reducible assumption | intro _ | with_reducible apply State.each_kept
    | with_reducible apply State.headHalt_kept | with_reducible apply State.dpIdle_kept
    | with_reducible apply State.gptpStop_kept | with_reducible apply State.ethLink_kept
    | with_reducible apply State.hbDisarm_kept | with_reducible apply State.modOwn_kept
    | with_reducible apply Kept.ite | dsimp only

theorem State.enterSleep_kept {z s : State} (hs : Kept z s) : Kept z (State.enterSleep s) := by
  unfold State.enterSleep
  repeat' first
    | with_reducible assumption | intro _ | with_reducible apply State.put_kept
    | with_reducible apply State.quiesce_kept | with_reducible apply State.each_kept
    | with_reducible apply State.lanesIdle_kept | with_reducible apply State.modLink_kept
    | with_reducible apply Kept.ite | dsimp only

theorem State.loseBuffers_kept {z s : State} (hs : Kept z s) : Kept z (State.loseBuffers s) := by
  unfold State.loseBuffers
  repeat' first
    | with_reducible assumption | intro _ | with_reducible apply State.quitMsgs_kept | simp only [Kept.mk_iff]
    | with_reducible apply Kept.parts | dsimp only

theorem State.loseData_kept {z s : State} (hs : Kept z s) : Kept z (State.loseData s) := by
  unfold State.loseData
  repeat' first
    | with_reducible assumption | intro _ | exact Nat.zero_le _ | with_reducible apply State.srDiscardAll_kept
    | with_reducible apply State.each_kept | with_reducible apply State.capFill_kept
    | with_reducible apply State.modCap_kept | with_reducible apply State.switchFlush_kept
    | with_reducible apply State.ethInit_kept | with_reducible apply State.loseBuffers_kept
    | with_reducible apply State.flushQueue_kept | dsimp only

theorem State.enterDormant_kept {z s : State} (hs : Kept z s) : Kept z (State.enterDormant s) := by
  unfold State.enterDormant
  have key : ∀ (x : State) (c : Nat) (r : Rails), Kept z x →
      Kept z { x.modImg (fun i => { i with keepCheck := c }) with rails := r } := fun x c r hx =>
    Kept.of_eq (s := x.modImg (fun i => { i with keepCheck := c })) (State.modImg_kept _ hx rfl rfl rfl) rfl rfl rfl rfl rfl rfl rfl rfl rfl
  refine key _ _ _ (State.faces_kept (State.put_kept _ _ (State.each_kept _ _ ?_ (fun u n hu => State.lanesIdle_kept _ hu))))
  refine State.each_kept _ _ ?_ (fun u n hu => State.dsDisconnect_kept _ hu)
  refine State.each_kept _ _ ?_ (fun u p hu => State.pxDlDown_kept _ (State.put_kept _ _ hu))
  refine State.each_kept _ _ (State.loseData_kept (State.quiesce_kept hs)) (fun u h hu => ?_)
  split
  · exact State.modLink_kept _ _ (State.refOff_kept _ (State.setMasks_kept _ _ _ (State.dropLocks_kept _
      (State.put_kept _ _ (State.put_kept _ _ hu)))))
  · exact hu

theorem State.enterOff_kept {z s : State} (hs : Kept z s) : Kept z (State.enterOff s) := by
  unfold State.enterOff
  repeat' first
    | with_reducible assumption | intro _ | with_reducible apply State.wearPut_kept
    | with_reducible apply State.put_kept | with_reducible apply State.coldState_kept | simp only [Kept.mk_iff]
    | with_reducible apply Kept.parts | with_reducible apply Kept.ite | dsimp only

theorem execPowerDrainDone_kept {z s : State} (hs : Kept z s) : KeptBy z (execPowerDrainDone s) := by
  unfold execPowerDrainDone
  repeat' first
    | with_reducible apply KeptBy.next | with_reducible apply KeptBy.ite | with_reducible assumption | intro _
    | with_reducible apply State.powerClear_kept | with_reducible apply State.flushReplies_kept
    | with_reducible apply State.complete_kept | with_reducible apply State.enterSleep_kept
    | with_reducible apply State.enterDormant_kept | with_reducible apply State.enterOff_kept
    | with_reducible apply Kept.ite | split | dsimp only

theorem execPowerDrainTimeout_kept {z s : State} (hs : Kept z s) : KeptBy z (execPowerDrainTimeout s) := by
  unfold execPowerDrainTimeout
  repeat' first
    | with_reducible apply KeptBy.next | with_reducible apply KeptBy.ite | with_reducible assumption | intro _
    | with_reducible apply State.powerEnd_kept | with_reducible apply State.advanceTo_kept | split | dsimp only

theorem State.wakeRecord_kept {z s : State} (src : Nat) (detail : Nat) (from_ : Nat) (hs : Kept z s) :
    Kept z (State.wakeRecord s src detail from_) := by
  unfold State.wakeRecord
  repeat' first
    | with_reducible assumption | intro _ | with_reducible apply State.put_kept
    | with_reducible apply State.bump_kept | with_reducible apply State.putPair_kept
    | with_reducible apply State.raise_kept | with_reducible apply Kept.ite | dsimp only

theorem State.wakeHeads_kept {z s : State} (hs : Kept z s) : Kept z (State.wakeHeads s) := by
  unfold State.wakeHeads
  repeat' first
    | with_reducible assumption | intro _ | with_reducible apply State.each_kept
    | with_reducible apply State.headStart_kept | with_reducible apply Kept.ite | dsimp only

theorem State.wakeSuspend_kept {z s : State} (hs : Kept z s) : Kept z (State.wakeSuspend s) := by
  unfold State.wakeSuspend
  repeat' first
    | with_reducible assumption | intro _ | with_reducible apply State.modOwn_kept | dsimp only

theorem State.wakeSleep_kept {z s : State} (hs : Kept z s) : Kept z (State.wakeSleep s) := by
  unfold State.wakeSleep
  repeat' first
    | with_reducible assumption | intro _ | with_reducible apply State.put_kept
    | with_reducible apply State.each_kept | with_reducible apply State.linkRecovery_kept
    | with_reducible apply State.modLink_kept | with_reducible apply State.wakeSuspend_kept
    | with_reducible apply State.wakeHeads_kept | with_reducible apply State.lanesWake_kept
    | with_reducible apply State.tryRef_kept | with_reducible apply Kept.ite | dsimp only

theorem State.wakeDormant_kept {z s : State} (elapsed : Nat) (unc : Nat) (hs : Kept z s) :
    Kept z (State.wakeDormant s elapsed unc) := by
  unfold State.wakeDormant
  repeat' first
    | with_reducible assumption | intro _ | with_reducible apply State.rebuildTime_kept
    | with_reducible apply State.put_kept | with_reducible apply State.stormWindow_kept
    | with_reducible apply State.each_kept | with_reducible apply State.modAgent_kept
    | with_reducible apply State.modOwn_kept | with_reducible apply State.playaInit_kept
    | with_reducible apply State.lanesWake_kept | with_reducible apply State.linkRef_kept
    | with_reducible apply State.tryRef_kept | with_reducible apply State.pxContain_kept
    | with_reducible apply State.wakeSuspend_kept | with_reducible apply State.wakeHeads_kept
    | with_reducible apply State.faces_kept | simp only [Kept.mk_iff] | with_reducible apply Kept.parts
    | with_reducible apply Kept.ite | dsimp only

theorem State.wakeLost_kept {z s : State} (elapsed : Nat) (unc : Nat) (hs : Kept z s) :
    Kept z (State.wakeLost s elapsed unc) := by
  unfold State.wakeLost
  repeat' first
    | with_reducible assumption | intro _ | with_reducible apply State.setReg_kept
    | with_reducible apply State.warmState_kept | with_reducible apply State.rebuildTime_kept
    | with_reducible refine State.modImg_kept _ ?_ rfl rfl rfl | with_reducible apply State.modOwn_kept
    | with_reducible apply State.each_kept | with_reducible apply State.modAgent_kept
    | with_reducible apply State.faces_kept | with_reducible apply State.put_kept | dsimp only

theorem execWake_kept {z s : State} (src : Fin 9) (detail : BitVec 4) (elapsed : Nat) (check : Word) (unc : Nat) (hs :
    Kept z s) : KeptBy z (execWake src detail elapsed check unc s) := by
  unfold execWake
  repeat' first
    | with_reducible apply KeptBy.next | with_reducible apply KeptBy.ite | with_reducible assumption | intro _
    | with_reducible apply State.powerEnd_kept | with_reducible apply State.coldReset_kept
    | with_reducible apply State.wakeRecord_kept | with_reducible apply State.wakeDormant_kept
    | with_reducible apply State.wakeLost_kept | with_reducible apply State.advanceTo_kept
    | with_reducible apply State.wakeSleep_kept | with_reducible apply Kept.ite | with_reducible apply Kept.foldl
    | split | dsimp only

theorem execFailoverSuspendEnd_kept {z s : State} (hs : Kept z s) : KeptBy z (execFailoverSuspendEnd s) := by
  unfold execFailoverSuspendEnd
  repeat' first
    | with_reducible apply KeptBy.next | with_reducible apply KeptBy.ite | with_reducible assumption | intro _
    | with_reducible apply State.advanceTo_kept | with_reducible apply State.modOwn_kept
    | with_reducible apply Kept.ite | split | dsimp only

theorem execBrownOut_kept {z s : State} (hs : Kept z s) : KeptBy z (execBrownOut s) := by
  unfold execBrownOut
  repeat' first
    | with_reducible apply KeptBy.next | with_reducible apply KeptBy.ite | with_reducible assumption | intro _
    | with_reducible apply State.put_kept | with_reducible apply State.coldReset_kept | with_reducible apply Kept.ite
    | dsimp only

theorem State.flexLaneFailed_kept {z s : State} (g : Nat) (b : Nat) (hs : Kept z s) :
    Kept z (State.flexLaneFailed s g b) := by
  unfold State.flexLaneFailed
  repeat' first
    | with_reducible assumption | intro _ | with_reducible apply State.dpLaneFailed_kept
    | with_reducible apply State.pxLaneFailed_kept | with_reducible apply State.ethLaneFailed_kept
    | with_reducible apply Kept.ite | split | dsimp only

theorem State.laneFail_kept {z s : State} (g : Nat) (b : Nat) (hs : Kept z s) : Kept z (State.laneFail s g b) := by
  unfold State.laneFail
  repeat' first
    | with_reducible assumption | intro _ | with_reducible apply State.dropPair_kept
    | with_reducible apply State.narrowTraining_kept | with_reducible apply State.markFailed_kept
    | with_reducible apply State.clrBit_kept | with_reducible apply State.put_kept
    | with_reducible apply State.adaptStop_kept | with_reducible apply State.flexLaneFailed_kept
    | with_reducible apply State.logHw_kept | simp only [Kept.mk_iff] | with_reducible apply Kept.parts
    | with_reducible apply Kept.ite | split | dsimp only

theorem State.groupFail_kept {z s : State} (g : Nat) (hs : Kept z s) : Kept z (State.groupFail s g) := by
  unfold State.groupFail
  repeat' first
    | with_reducible assumption | intro _ | with_reducible apply State.each_kept
    | with_reducible apply State.put_kept | with_reducible apply State.laneFail_kept | dsimp only

theorem State.laneEvt_kept {z s : State} (n : Nat) (lsb : Nat) (g : Nat) (hs : Kept z s) :
    Kept z (State.laneEvt s n lsb g) := by
  unfold State.laneEvt
  repeat' first
    | with_reducible assumption | intro _ | with_reducible apply State.raise_kept | dsimp only

theorem State.tellOwners_kept {z s : State} (g : Nat) (hs : Kept z s) : Kept z (State.tellOwners s g) := by
  unfold State.tellOwners
  repeat' first
    | with_reducible assumption | intro _ | with_reducible apply State.each_kept
    | with_reducible apply State.logTo_kept | with_reducible apply Kept.ite | dsimp only

theorem State.pllSwitch_kept {z s : State} (g : Nat) (hs : Kept z s) : Kept z (State.pllSwitch s g) := by
  unfold State.pllSwitch
  repeat' first
    | with_reducible assumption | intro _ | with_reducible apply State.put_kept
    | with_reducible apply State.notice_kept | with_reducible apply State.laneEvt_kept
    | with_reducible apply State.lgEvt_kept | with_reducible apply State.tellOwners_kept
    | with_reducible apply State.spareTookOver_kept | dsimp only

theorem execMainPllLockLoss_kept {z s : State} (g : Fin 9) (hs : Kept z s) : KeptBy z (execMainPllLockLoss g s) := by
  unfold execMainPllLockLoss
  repeat' first
    | with_reducible apply KeptBy.next | with_reducible apply KeptBy.ite | with_reducible assumption | intro _
    | with_reducible apply State.pllSwitch_kept | with_reducible apply State.groupFail_kept | simp only [Kept.mk_iff]
    | with_reducible apply Kept.parts | with_reducible apply Kept.ite | dsimp only

theorem execSparePllFail_kept {z s : State} (g : Fin 9) (hs : Kept z s) : KeptBy z (execSparePllFail g s) := by
  unfold execSparePllFail
  repeat' first
    | with_reducible apply KeptBy.next | with_reducible apply KeptBy.ite | with_reducible assumption | intro _
    | with_reducible apply State.lgEvt_kept | with_reducible apply State.put_kept
    | with_reducible apply State.groupFail_kept | with_reducible apply Kept.ite | dsimp only

theorem State.swapTraffic_kept {z s : State} (g : Nat) (l : Nat) (hs : Kept z s) :
    Kept z (State.swapTraffic s g l) := by
  unfold State.swapTraffic
  repeat' first
    | with_reducible assumption | intro _ | with_reducible apply State.setBit_kept
    | with_reducible apply State.put_kept | with_reducible apply State.setSets_kept
    | with_reducible apply State.pxCorrectable_kept | with_reducible apply State.bump_kept | simp only [Kept.mk_iff]
    | with_reducible apply Kept.parts | with_reducible apply Kept.ite | split | dsimp only

theorem State.sliceSwap_kept {z s : State} (g : Nat) (l : Nat) (hs : Kept z s) : Kept z (State.sliceSwap s g l) := by
  unfold State.sliceSwap
  repeat' first
    | with_reducible assumption | intro _ | with_reducible apply State.put_kept
    | with_reducible apply State.notice_kept | with_reducible apply State.laneEvt_kept
    | with_reducible apply State.lgEvt_kept | with_reducible apply State.swapTraffic_kept
    | with_reducible apply State.spareTookOver_kept | dsimp only

theorem execPcsSliceParityError_kept {z s : State} (g : Fin 9) (l : Fin 4) (hs : Kept z s) :
    KeptBy z (execPcsSliceParityError g l s) := by
  unfold execPcsSliceParityError
  repeat' first
    | with_reducible apply KeptBy.next | with_reducible apply KeptBy.ite | with_reducible assumption | intro _
    | with_reducible apply State.sliceSwap_kept | with_reducible apply State.laneFail_kept
    | with_reducible apply Kept.ite | dsimp only

theorem State.forceSpare_kept {z s : State} (g : Nat) (hs : Kept z s) : Kept z (State.forceSpare s g) := by
  unfold State.forceSpare
  repeat' first
    | with_reducible assumption | intro _ | with_reducible apply State.pllSwitch_kept | with_reducible apply Kept.ite
    | dsimp only

theorem State.forceSlices_kept {z s : State} (g : Nat) (m : Nat) (hs : Kept z s) :
    Kept z (State.forceSlices s g m) := by
  unfold State.forceSlices
  repeat' first
    | with_reducible assumption | intro _ | with_reducible apply State.each_kept
    | with_reducible apply State.sliceSwap_kept | with_reducible apply Kept.ite | dsimp only

theorem State.eyeRound_kept {z s : State} (g : Nat) (l : Nat) (e : EyeScan) (hs : Kept z s) :
    Kept z (State.eyeRound s g l e) := by
  unfold State.eyeRound
  repeat' first
    | with_reducible assumption | intro _ | with_reducible apply State.setReg_kept
    | with_reducible apply State.put_kept | with_reducible apply State.bump_kept
    | with_reducible apply State.laneEvt_kept | simp only [Kept.mk_iff] | with_reducible apply Kept.parts
    | with_reducible apply Kept.ite | with_reducible apply Kept.foldl | split | dsimp only

theorem State.eyePoint_kept {z s : State} (g : Nat) (l : Nat) (errors : Nat) (hs : Kept z s) :
    Kept z (State.eyePoint s g l errors) := by
  unfold State.eyePoint
  repeat' first
    | with_reducible assumption | intro _ | with_reducible apply State.eyeRound_kept | simp only [Kept.mk_iff]
    | with_reducible apply Kept.parts | with_reducible apply Kept.ite | split | dsimp only

theorem execEyeSample_kept {z s : State} (i : Fin 36) (prevOpen : Bool) (errors : Nat) (hs : Kept z s) :
    KeptBy z (execEyeSample i prevOpen errors s) := by
  unfold execEyeSample
  repeat' first
    | with_reducible apply KeptBy.next | with_reducible apply KeptBy.ite | with_reducible assumption | intro _
    | with_reducible apply State.chore_kept | with_reducible apply State.put_kept
    | with_reducible apply State.eyePoint_kept | with_reducible apply Kept.ite | dsimp only

theorem State.eyeDone_kept {z s : State} (g : Nat) (l : Nat) (hs : Kept z s) : Kept z (State.eyeDone s g l) := by
  unfold State.eyeDone
  repeat' first
    | with_reducible assumption | intro _ | with_reducible apply State.laneEvt_kept
    | with_reducible apply State.put_kept | dsimp only

theorem State.eyeStart_kept {z s : State} (g : Nat) (l : Nat) (hs : Kept z s) : Kept z (State.eyeStart s g l) := by
  unfold State.eyeStart
  repeat' first
    | with_reducible assumption | intro _ | with_reducible apply State.put_kept
    | with_reducible apply State.setReg_kept | with_reducible apply State.eyeDone_kept
    | with_reducible apply Kept.ite | dsimp only

theorem execEyePointDone_kept {z s : State} (g : Fin 9) (l : Fin 4) (errors : Nat) (hs : Kept z s) :
    KeptBy z (execEyePointDone g l errors s) := by
  unfold execEyePointDone
  repeat' first
    | with_reducible apply KeptBy.next | with_reducible apply KeptBy.ite | with_reducible assumption | intro _
    | with_reducible apply State.eyeDone_kept | with_reducible apply State.put_kept | with_reducible apply Kept.ite
    | dsimp only

theorem State.qualFail_kept {z s : State} (g : Nat) (l : Nat) (hs : Kept z s) : Kept z (State.qualFail s g l) := by
  unfold State.qualFail
  repeat' first
    | with_reducible assumption | intro _ | with_reducible apply State.lgEvt_kept
    | with_reducible apply State.laneFail_kept | with_reducible apply State.put_kept | simp only [Kept.mk_iff]
    | with_reducible apply Kept.parts | with_reducible apply Kept.ite | split | dsimp only

theorem State.qualPass_kept {z s : State} (g : Nat) (l : Nat) (hs : Kept z s) : Kept z (State.qualPass s g l) := by
  unfold State.qualPass
  repeat' first
    | with_reducible assumption | intro _ | with_reducible apply State.tryFec_kept
    | with_reducible apply State.modLink_kept | with_reducible apply State.put_kept | simp only [Kept.mk_iff]
    | with_reducible apply Kept.parts | with_reducible apply Kept.ite | split | dsimp only

theorem State.qualTell_kept {z s : State} (h : Nat) (l : Nat) (pass : Bool) (hs : Kept z s) :
    Kept z (State.qualTell s h l pass) := by
  unfold State.qualTell
  repeat' first
    | with_reducible assumption | intro _ | with_reducible apply State.sendTrain_kept | with_reducible apply Kept.ite
    | dsimp only

theorem execQualificationDone_kept {z s : State} (g : Fin 9) (l : Fin 4) (q : Qual) (hs : Kept z s) :
    KeptBy z (execQualificationDone g l q s) := by
  unfold execQualificationDone
  repeat' first
    | with_reducible apply KeptBy.next | with_reducible apply KeptBy.ite | with_reducible assumption | intro _
    | with_reducible apply State.clrBit_kept | with_reducible apply State.iff_kept
    | with_reducible apply State.qualTell_kept | with_reducible apply State.qualPass_kept
    | with_reducible apply State.qualFail_kept | with_reducible apply Kept.ite | split | dsimp only

theorem execQualRetry_kept {z s : State} (g : Fin 9) (l : Fin 4) (hs : Kept z s) : KeptBy z (execQualRetry g l s) := by
  unfold execQualRetry
  repeat' first
    | with_reducible apply KeptBy.next | with_reducible apply KeptBy.ite | with_reducible assumption | intro _
    | with_reducible apply State.iff_kept | with_reducible apply State.setBit_kept
    | with_reducible apply State.put_kept | with_reducible apply Kept.ite | split | dsimp only

theorem execPairInverted_kept {z s : State} (h : Hp) (pair : Fin 4) (hs : Kept z s) :
    KeptBy z (execPairInverted h pair s) := by
  unfold execPairInverted
  repeat' first
    | with_reducible apply KeptBy.next | with_reducible apply KeptBy.ite | with_reducible assumption | intro _
    | with_reducible apply State.put_kept | with_reducible apply Kept.ite | with_reducible apply State.onLink_kept
    | dsimp only

theorem State.genlockSet_kept {z s : State} (x : Nat) (t : Nat) (hs : Kept z s) : Kept z (State.genlockSet s x t) := by
  unfold State.genlockSet
  repeat' first
    | with_reducible assumption | intro _ | with_reducible apply State.put_kept
    | with_reducible apply State.took_kept | with_reducible apply Kept.ite | dsimp only

theorem State.launchAct_kept {z s : State} (l : Launch) (hs : Kept z s) : ∀ qt, State.launchAct s l = some qt → Kept z qt := by
  unfold State.launchAct
  intro qt h
  split at h
  · exact State.fieldRelease_kept _ _ hs qt h
  · dsimp only at h
    split at h
    · injection h with h; rw [← h]; exact State.gateSwitch_kept _ _ _ hs
    · exact absurd h (by simp)
  · injection h with h; rw [← h]; exact State.hdSetCommit_kept _ hs
  · injection h with h; rw [← h]; exact State.genlockSet_kept _ _ hs
  · split at h
    · exact absurd h (by simp)
    · injection h with h; rw [← h]; exact State.efOn_kept _ _ hs
  · exact absurd h (by simp)

theorem State.launchEnds_kept {z s : State} (l : Launch) (outcome : Nat) (reason : Nat) (late : Nat) (hs : Kept z s) :
    Kept z (State.launchEnds s l outcome reason late) := by
  unfold State.launchEnds
  repeat' first
    | with_reducible assumption | intro _ | with_reducible apply State.srResult_kept | dsimp only

theorem State.launchFires_kept {z s : State} (l : Launch) (hs : Kept z s) : Kept z (State.launchFires s l) := by
  unfold State.launchFires
  repeat' first
    | with_reducible assumption | intro _ | with_reducible apply State.launchEnds_kept | simp only [Kept.mk_iff]
    | with_reducible apply Kept.parts | with_reducible apply Kept.ite | with_reducible apply State.lineEdge_kept
    | refine Kept.of_pair (by with_reducible assumption) ?_ | refine State.launchAct_kept _ ?_ _ (by assumption)
    | split | dsimp only

theorem State.fireLaunch_kept {z s : State} (l : Launch) (hs : Kept z s) : Kept z (State.fireLaunch s l) := by
  unfold State.fireLaunch
  repeat' first
    | with_reducible assumption | intro _ | with_reducible apply State.advanceTo_kept
    | with_reducible apply State.launchFires_kept | with_reducible apply State.srCount_kept | simp only [Kept.mk_iff]
    | with_reducible apply Kept.parts | dsimp only

theorem State.fireSecond_kept {z s : State} (p : Firing) (hs : Kept z s) : Kept z (State.fireSecond s p) := by
  unfold State.fireSecond
  repeat' first
    | with_reducible assumption | intro _ | with_reducible apply State.advanceTo_kept
    | with_reducible apply State.launchEnds_kept | simp only [Kept.mk_iff] | with_reducible apply Kept.parts
    | with_reducible apply State.lineEdge_kept | refine Kept.of_pair (by with_reducible assumption) ?_ | dsimp only

theorem State.fireWhile_kept {z : State} (last : Firing → Bool) : ∀ (n : Nat) {s : State}, Kept z s →
    Kept z (State.fireWhile s last n)
  | 0, _, hs => hs
  | n + 1, s, hs => by
    unfold State.fireWhile
    split
    · exact State.fireWhile_kept last n (State.fireLaunch_kept _ hs)
    · exact State.fireWhile_kept last n (State.fireSecond_kept _ hs)
    · exact hs

theorem State.fireBefore_kept {z s : State} (e : Firing) (hs : Kept z s) : Kept z (State.fireBefore s e) := by
  unfold State.fireBefore
  repeat' first
    | with_reducible assumption | intro _ | with_reducible apply State.fireWhile_kept | dsimp only

theorem State.fireUpTo_kept {z s : State} (t : Nat) (hs : Kept z s) : Kept z (State.fireUpTo s t) := by
  unfold State.fireUpTo
  repeat' first
    | with_reducible assumption | intro _ | with_reducible apply State.fireWhile_kept | dsimp only

theorem execLaunchFire_kept {z s : State} (hs : Kept z s) : KeptBy z (execLaunchFire s) := by
  unfold execLaunchFire
  repeat' first
    | with_reducible apply KeptBy.next | with_reducible apply KeptBy.ite | with_reducible assumption | intro _
    | with_reducible apply State.fireLaunch_kept | with_reducible apply State.fireBefore_kept
    | with_reducible apply Kept.ite | split | dsimp only

theorem execLinePulseSecondEdge_kept {z s : State} (hs : Kept z s) : KeptBy z (execLinePulseSecondEdge s) := by
  unfold execLinePulseSecondEdge
  repeat' first
    | with_reducible apply KeptBy.next | with_reducible apply KeptBy.ite | with_reducible assumption | intro _
    | with_reducible apply State.fireSecond_kept | with_reducible apply State.fireBefore_kept
    | with_reducible apply Kept.ite | split | dsimp only

theorem State.quietPut_kept {z s : State} (ws : List Wr) (hs : Kept z s) : Kept z (State.quietPut s ws) := by
  unfold State.quietPut
  repeat' first
    | with_reducible assumption | intro _ | with_reducible apply State.put_kept | with_reducible apply Kept.ite
    | with_reducible apply Kept.foldl | dsimp only

theorem State.storeWord_kept {z s : State} (a : Nat) (ws : List Wr) (hs : Kept z s) :
    Kept z (State.storeWord s a ws) := by
  unfold State.storeWord
  repeat' first
    | with_reducible assumption | intro _ | with_reducible apply State.modAgent_kept
    | with_reducible apply State.put_kept | with_reducible apply Kept.ite | with_reducible apply Kept.foldl | split
    | dsimp only

theorem State.usbEnable_kept {z s : State} (on : Bool) (hs : Kept z s) : Kept z (State.usbEnable s on) := by
  unfold State.usbEnable
  repeat' first
    | with_reducible assumption | intro _ | with_reducible apply State.each_kept
    | with_reducible apply State.faces_kept | with_reducible apply State.ppc_kept
    | with_reducible apply State.dsDisconnect_kept | with_reducible apply Kept.ite | dsimp only

theorem State.spreadWrite_kept {z s : State} (a : Nat) (hs : Kept z s) : Kept z (State.spreadWrite s a) := by
  unfold State.spreadWrite
  repeat' first
    | with_reducible assumption | intro _ | with_reducible apply State.usbSpread_kept
    | with_reducible refine State.modClock_kept _ ?_ rfl | with_reducible apply State.put_kept
    | with_reducible apply Kept.ite | dsimp only

theorem State.wordAction_kept {z s : State} (a : Nat) (r : WReg) (ws : List Wr) (hs : Kept z s) :
    Kept z (State.wordAction s a r ws) := by
  unfold State.wordAction
  repeat' first
    | with_reducible assumption | intro _ | with_reducible apply State.xtalKeep_kept
    | with_reducible apply State.iff_kept | with_reducible apply State.isoRestart_kept
    | with_reducible apply State.isoRequest_kept | with_reducible apply State.spreadWrite_kept
    | with_reducible apply State.linkOff_kept | with_reducible apply State.cvAttach_kept
    | with_reducible apply State.retrain_kept | with_reducible apply State.groupEnable_kept
    | with_reducible apply State.forceSpare_kept | with_reducible apply State.forceSlices_kept
    | with_reducible apply State.eyeStart_kept | with_reducible apply State.srSubmit_kept
    | with_reducible apply State.each_kept | with_reducible apply State.put_kept
    | with_reducible apply State.srCancel_kept | with_reducible apply State.headStop_kept
    | with_reducible apply State.headStart_kept | with_reducible apply State.hdIdleApply_kept
    | with_reducible apply State.hdCancel_kept | with_reducible apply State.hdSetCommit_kept
    | with_reducible apply State.poolLow_kept | with_reducible apply State.dpRetrain_kept
    | with_reducible apply State.auxStart_kept | with_reducible apply State.ethEnable_kept
    | with_reducible apply State.fdbFlush_kept | with_reducible apply State.usbEnable_kept
    | with_reducible apply State.mfConnect_kept | with_reducible apply State.powerCycle_kept
    | with_reducible apply State.perrPop_kept | with_reducible apply State.busStop_kept
    | with_reducible apply State.mdApprove_kept | with_reducible apply State.mdRefuse_kept
    | with_reducible apply State.mdRecheck_kept | with_reducible apply State.tcEnable_kept
    | with_reducible apply State.tcRearm_kept | with_reducible apply State.tcAsk_kept
    | with_reducible apply State.softReset_kept | with_reducible apply State.tcAsked_kept
    | with_reducible apply State.hardReset_kept | with_reducible apply State.efEnable_kept
    | with_reducible apply State.efOn_kept | with_reducible apply State.efClear_kept
    | with_reducible apply State.firstAck_kept | with_reducible apply State.ringPop_kept
    | with_reducible apply Kept.ite | split | dsimp only

theorem State.wordEffect_kept {z s : State} (a : Nat) (r : WReg) (ws : List Wr) (hs : Kept z s) :
    Kept z (State.wordEffect s a r ws).2 := by
  unfold State.wordEffect
  repeat' first
    | with_reducible assumption | intro _ | with_reducible apply State.pxCtrl_kept
    | with_reducible apply State.stayWrite_kept | with_reducible apply State.wordAction_kept
    | with_reducible apply State.storeWord_kept | with_reducible apply State.watching_kept
    | with_reducible apply Kept.ite | with_reducible apply Kept.foldl | with_reducible apply State.tickCommit_kept
    | with_reducible apply State.tickDiscard_kept | refine Kept.of_pair (by with_reducible assumption) ?_
    | with_reducible apply Kept.pair_ite | split | dsimp only

theorem State.writeWord_kept {z s : State} (a : Nat) (addr : Nat) (v : Nat) (hs : Kept z s) :
    Kept z (State.writeWord s a addr v).2 := by
  unfold State.writeWord
  repeat' first
    | with_reducible assumption | intro _ | with_reducible apply State.commitResult_kept
    | with_reducible apply Kept.ite | with_reducible apply State.wordEffect_kept
    | refine Kept.of_pair (by with_reducible assumption) ?_ | with_reducible apply Kept.pair_ite | split | dsimp only

theorem State.readWord_kept {z s : State} (a : Nat) (addr : Nat) (hs : Kept z s) :
    Kept z (State.readWord s a addr).2 := by
  unfold State.readWord
  repeat' first
    | with_reducible assumption | intro _ | with_reducible apply State.timeLatch_kept | with_reducible apply Kept.ite
    | with_reducible apply Kept.pair_ite | split | dsimp only

theorem State.readWords_kept {z : State} (a : Nat) : ∀ (l : List Nat) {s : State}, Kept z s → Kept z (State.readWords s a l).2
  | [], _, hs => hs
  | x :: t, _, hs => State.readWords_kept a t (State.readWord_kept a x hs)

theorem State.capPops_kept {z s : State} (f : Frame) (hs : Kept z s) : Kept z (State.capPops s f) := by
  unfold State.capPops
  repeat' first
    | with_reducible assumption | intro _ | with_reducible apply State.each_kept
    | with_reducible apply State.capPop_kept | with_reducible apply Kept.ite | dsimp only

theorem State.fieldRead_kept {z s : State} (a : Nat) (tr : Transport) (f : Frame) (hs : Kept z s) :
    Kept z (State.fieldRead s a tr f) := by
  unfold State.fieldRead
  repeat' first
    | with_reducible assumption | intro _ | with_reducible apply State.answer_kept
    | with_reducible apply State.took_kept | with_reducible apply State.fieldAccept_kept
    | with_reducible apply State.openNp_kept | with_reducible apply Kept.ite | split | dsimp only

theorem State.readBody_kept {z s : State} (a : Nat) (tr : Transport) (f : Frame) (hs : Kept z s) :
    Kept z (State.readBody s a tr f) := by
  unfold State.readBody
  repeat' first
    | with_reducible assumption | intro _ | with_reducible apply State.fieldRead_kept
    | with_reducible apply State.answer_kept | with_reducible apply State.capPops_kept
    | with_reducible apply Kept.ite | with_reducible apply State.readWords_kept
    | refine Kept.of_pair (by with_reducible assumption) ?_ | dsimp only

theorem execRead_kept {z s : State} (a : Agent) (t : Transport) (tag : Byte) (fixed : Bool) (addr : Word) (len :
    BitVec 12) (hs : Kept z s) : KeptBy z (execRead a t tag fixed addr len s) := by
  unfold execRead
  repeat' first
    | with_reducible apply KeptBy.next | with_reducible apply KeptBy.ite | with_reducible assumption | intro _
    | with_reducible apply State.arrive_kept | with_reducible apply State.readBody_kept | dsimp only

theorem execCapRecRead_kept {z s : State} (a : Agent) (t : Transport) (tag : Byte) (g : Fin 4) (hs : Kept z s) :
    KeptBy z (execCapRecRead a t tag g s) := by
  unfold execCapRecRead
  repeat' first
    | with_reducible apply KeptBy.next | with_reducible apply KeptBy.ite | with_reducible assumption | intro _
    | with_reducible apply State.arrive_kept | with_reducible apply State.readBody_kept | dsimp only

theorem State.putWord_kept {z s : State} (a addr v : Nat) (hs : Kept z s) : Kept z (State.putWord s a addr v).2 := by
  unfold State.putWord
  split
  · split
    · rename_i t h
      unfold State.grainWrite at h
      dsimp only at h
      split at h
      · exact absurd h (by simp)
      · rename_i x hx
        split at h
        · exact absurd h (by simp)
        · injection h with h
          rw [← h]
          have hp := (State.composeDue_kept x hs).parts
          apply Kept.of_parts
          exact ⟨hp.1, hp.2.1, cellsWf_cellSet 0 _ _ _ hp.2.2.1, cellsWf_cellSet 7 _ _ _ hp.2.2.2.1, hp.2.2.2.2⟩
    · exact hs
  · exact State.writeWord_kept a addr v hs

theorem State.putWords_kept {z : State} (a : Nat) : ∀ (l : List (Nat × Word)) (n : Nat) {s : State}, Kept z s →
    Kept z (State.putWords s a n l).2.2.2
  | [], _, _, hs => hs
  | (x, v) :: t, n, s, hs => by
    unfold State.putWords
    have h : Kept z (s.putWord a x v.toNat).2 := State.putWord_kept a x v.toNat hs
    dsimp only
    split
    · exact State.putWords_kept a t _ h
    · exact h

theorem State.fieldWrite_kept {z s : State} (a : Nat) (tr : Transport) (f : Frame) (hs : Kept z s) :
    Kept z (State.fieldWrite s a tr f) := by
  unfold State.fieldWrite
  repeat' first
    | with_reducible assumption | intro _ | with_reducible apply State.answer_kept
    | with_reducible apply State.lineWrite_kept | with_reducible apply State.fieldAccept_kept
    | with_reducible apply State.openNp_kept | with_reducible apply Kept.ite | split | dsimp only

theorem State.writeBody_kept {z s : State} (a : Nat) (tr : Transport) (f : Frame) (hs : Kept z s) :
    Kept z (State.writeBody s a tr f) := by
  unfold State.writeBody
  repeat' first
    | with_reducible assumption | intro _ | with_reducible apply State.fieldWrite_kept
    | with_reducible apply State.answer_kept | with_reducible apply Kept.ite
    | with_reducible apply State.putWords_kept | dsimp only

theorem execWrite_kept {z s : State} (a : Agent) (t : Transport) (tag : Byte) (fixed : Bool) (addr : Word) (data :
    List Word) (hs : Kept z s) : KeptBy z (execWrite a t tag fixed addr data s) := by
  unfold execWrite
  repeat' first
    | with_reducible apply KeptBy.next | with_reducible apply KeptBy.ite | with_reducible assumption | intro _
    | with_reducible apply State.arrive_kept | with_reducible apply State.writeBody_kept | dsimp only

theorem State.postedAck_kept {z s : State} (a : Nat) (tr : Transport) (f : Frame) (r : Nat) (hs : Kept z s) :
    Kept z (State.postedAck s a tr f r) := by
  unfold State.postedAck
  repeat' first
    | with_reducible assumption | intro _ | with_reducible apply State.answer_kept | with_reducible apply Kept.ite
    | dsimp only

theorem State.postedRefused_kept {z s : State} (a : Nat) (tr : Transport) (f : Frame) (r : Nat) (hs : Kept z s) :
    Kept z (State.postedRefused s a tr f r) := by
  unfold State.postedRefused
  repeat' first
    | with_reducible assumption | intro _ | with_reducible apply State.postedFail_kept
    | with_reducible apply State.postedAck_kept | dsimp only

theorem State.postedAccepted_kept {z s : State} (a : Nat) (tr : Transport) (f : Frame) (hs : Kept z s) :
    Kept z (State.postedAccepted s a tr f) := by
  unfold State.postedAccepted
  repeat' first
    | with_reducible assumption | intro _ | with_reducible apply State.answer_kept | with_reducible apply Kept.ite
    | dsimp only

theorem State.fieldPosted_kept {z s : State} (a : Nat) (tr : Transport) (f : Frame) (hs : Kept z s) :
    Kept z (State.fieldPosted s a tr f) := by
  unfold State.fieldPosted
  repeat' first
    | with_reducible assumption | intro _ | with_reducible apply State.postedAck_kept
    | with_reducible apply State.postedFailed_kept | with_reducible apply State.postedFail_kept
    | with_reducible apply State.lineWrite_kept | with_reducible apply State.postedAccepted_kept
    | with_reducible apply State.modAgent_kept | with_reducible apply State.fieldAccept_kept
    | with_reducible apply Kept.ite | split | dsimp only

theorem State.postedBody_kept {z s : State} (a : Nat) (tr : Transport) (f : Frame) (hs : Kept z s) :
    Kept z (State.postedBody s a tr f) := by
  unfold State.postedBody
  repeat' first
    | with_reducible assumption | intro _ | with_reducible apply State.fieldPosted_kept
    | with_reducible apply State.postedRefused_kept | with_reducible apply State.postedAccepted_kept
    | with_reducible apply State.postedFail_kept | with_reducible apply Kept.ite
    | with_reducible apply State.putWords_kept | dsimp only

theorem execWritePosted_kept {z s : State} (a : Agent) (t : Transport) (tag : Byte) (fixed : Bool) (ack : Bool) (addr
    : Word) (data : List Word) (hs : Kept z s) : KeptBy z (execWritePosted a t tag fixed ack addr data s) := by
  unfold execWritePosted
  repeat' first
    | with_reducible apply KeptBy.next | with_reducible apply KeptBy.ite | with_reducible assumption | intro _
    | with_reducible apply State.arrive_kept | with_reducible apply State.postedBody_kept | dsimp only

theorem State.heartbeatBody_kept {z s : State} (a : Nat) (tr : Transport) (f : Frame) (hs : Kept z s) :
    Kept z (State.heartbeatBody s a tr f) := by
  unfold State.heartbeatBody
  repeat' first
    | with_reducible assumption | intro _ | with_reducible apply State.hbDisarm_kept
    | with_reducible apply State.modAgent_kept | with_reducible apply State.put_kept
    | with_reducible apply State.answer_kept | with_reducible apply Kept.ite | dsimp only

theorem execHeartbeat_kept {z s : State} (a : Agent) (t : Transport) (tag : Byte) (data : List Word) (hs : Kept z s) :
    KeptBy z (execHeartbeat a t tag data s) := by
  unfold execHeartbeat
  repeat' first
    | with_reducible apply KeptBy.next | with_reducible apply KeptBy.ite | with_reducible assumption | intro _
    | with_reducible apply State.arrive_kept | with_reducible apply State.heartbeatBody_kept | dsimp only

theorem State.ownBody_kept {z s : State} (a : Nat) (tr : Transport) (f : Frame) (hs : Kept z s) :
    Kept z (State.ownBody s a tr f) := by
  unfold State.ownBody
  repeat' first
    | with_reducible assumption | intro _ | with_reducible apply State.recordOwn_kept
    | with_reducible apply State.openNp_kept | with_reducible apply Kept.ite | dsimp only

theorem execClaim_kept {z s : State} (a : Agent) (t : Transport) (tag : Byte) (data : List Word) (hs : Kept z s) :
    KeptBy z (execClaim a t tag data s) := by
  unfold execClaim
  repeat' first
    | with_reducible apply KeptBy.next | with_reducible apply KeptBy.ite | with_reducible assumption | intro _
    | with_reducible apply State.arrive_kept | with_reducible apply State.ownBody_kept | dsimp only

theorem execRelease_kept {z s : State} (a : Agent) (t : Transport) (tag : Byte) (data : List Word) (hs : Kept z s) :
    KeptBy z (execRelease a t tag data s) := by
  unfold execRelease
  repeat' first
    | with_reducible apply KeptBy.next | with_reducible apply KeptBy.ite | with_reducible assumption | intro _
    | with_reducible apply State.arrive_kept | with_reducible apply State.ownBody_kept | dsimp only

theorem execHandover_kept {z s : State} (a : Agent) (t : Transport) (tag : Byte) (data : List Word) (hs : Kept z s) :
    KeptBy z (execHandover a t tag data s) := by
  unfold execHandover
  repeat' first
    | with_reducible apply KeptBy.next | with_reducible apply KeptBy.ite | with_reducible assumption | intro _
    | with_reducible apply State.arrive_kept | with_reducible apply State.ownBody_kept | dsimp only

theorem State.challengeBody_kept {z s : State} (a : Nat) (tr : Transport) (f : Frame) (hs : Kept z s) :
    Kept z (State.challengeBody s a tr f) := by
  unfold State.challengeBody
  repeat' first
    | with_reducible assumption | intro _ | with_reducible apply State.answer_kept
    | with_reducible apply State.modAgent_kept | with_reducible apply State.took_kept | with_reducible apply Kept.ite
    | dsimp only

theorem State.responseBody_kept {z s : State} (a : Nat) (tr : Transport) (f : Frame) (hs : Kept z s) :
    Kept z (State.responseBody s a tr f) := by
  unfold State.responseBody
  repeat' first
    | with_reducible assumption | intro _ | with_reducible apply State.answer_kept
    | with_reducible apply State.serviceEnd_kept | with_reducible apply State.modAgent_kept
    | with_reducible apply Kept.ite | split | dsimp only

theorem execServiceChallenge_kept {z s : State} (a : Agent) (t : Transport) (tag : Byte) (hs : Kept z s) :
    KeptBy z (execServiceChallenge a t tag s) := by
  unfold execServiceChallenge
  repeat' first
    | with_reducible apply KeptBy.next | with_reducible apply KeptBy.ite | with_reducible assumption | intro _
    | with_reducible apply State.arrive_kept | with_reducible apply State.challengeBody_kept | dsimp only

theorem execServiceResponse_kept {z s : State} (a : Agent) (t : Transport) (tag : Byte) (data : List Word) (hs : Kept
    z s) : KeptBy z (execServiceResponse a t tag data s) := by
  unfold execServiceResponse
  repeat' first
    | with_reducible apply KeptBy.next | with_reducible apply KeptBy.ite | with_reducible assumption | intro _
    | with_reducible apply State.arrive_kept | with_reducible apply State.responseBody_kept | dsimp only

theorem execNonceExpiry_kept {z s : State} (a : Agent) (hs : Kept z s) : KeptBy z (execNonceExpiry a s) := by
  unfold execNonceExpiry
  repeat' first
    | with_reducible apply KeptBy.next | with_reducible apply KeptBy.ite | with_reducible assumption | intro _
    | with_reducible apply State.modAgent_kept | with_reducible apply State.advanceTo_kept | split | dsimp only

theorem execServiceLockoutEnd_kept {z s : State} (a : Agent) (hs : Kept z s) :
    KeptBy z (execServiceLockoutEnd a s) := by
  unfold execServiceLockoutEnd
  repeat' first
    | with_reducible apply KeptBy.next | with_reducible apply KeptBy.ite | with_reducible assumption | intro _
    | with_reducible apply State.modAgent_kept | with_reducible apply State.advanceTo_kept | split | dsimp only

theorem State.frameAct_kept {z s : State} (a : Nat) (tr : Transport) (f : Frame) (hs : Kept z s) :
    Kept z (State.frameAct s a tr f) := by
  unfold State.frameAct
  repeat' first
    | with_reducible assumption | intro _ | with_reducible apply State.readBody_kept
    | with_reducible apply State.writeBody_kept | with_reducible apply State.postedBody_kept
    | with_reducible apply State.heartbeatBody_kept | with_reducible apply State.imageBegin_kept
    | with_reducible apply State.imageData_kept | with_reducible apply State.imageCommit_kept
    | with_reducible apply State.imagePatch_kept | with_reducible apply State.ownBody_kept
    | with_reducible apply State.powerEnter_kept | with_reducible apply State.powerQuery_kept
    | with_reducible apply State.challengeBody_kept | with_reducible apply State.responseBody_kept | split
    | dsimp only

theorem State.frameArrives_kept {z s : State} (a : Nat) (tr : Transport) (f : Frame) (hs : Kept z s) :
    Kept z (State.frameArrives s a tr f) := by
  unfold State.frameArrives
  repeat' first
    | with_reducible assumption | intro _ | with_reducible apply State.arrive_kept
    | with_reducible apply State.frameAct_kept | dsimp only

theorem State.ep1Put_kept {z s : State} (h : Nat) (bytes : List Byte) (hs : Kept z s) :
    Kept z (State.ep1Put s h bytes) := by
  unfold State.ep1Put
  repeat' first
    | with_reducible assumption | intro _ | simp only [Kept.mk_iff] | with_reducible apply Kept.parts | split
    | dsimp only

theorem State.ep1Free_kept {z s : State} (h : Nat) (hs : Kept z s) : Kept z (State.ep1Free s h) := by
  unfold State.ep1Free
  repeat' first
    | with_reducible assumption | intro _ | with_reducible apply State.ep1Put_kept | with_reducible apply Kept.ite
    | dsimp only

theorem execHeldFrameRelease_kept {z s : State} (a : Agent) (hs : Kept z s) : KeptBy z (execHeldFrameRelease a s) := by
  unfold execHeldFrameRelease
  repeat' first
    | with_reducible apply KeptBy.next | with_reducible apply KeptBy.ite | with_reducible assumption | intro _
    | with_reducible apply State.ep1Free_kept | with_reducible apply State.serve_kept
    | with_reducible apply State.modAgent_kept | with_reducible apply State.frameAct_kept
    | with_reducible apply Kept.ite | split | dsimp only

theorem State.malformed_kept {z s : State} (a : Nat) (tr : Transport) (hs : Kept z s) :
    Kept z (State.malformed s a tr) := by
  unfold State.malformed
  repeat' first
    | with_reducible assumption | intro _ | with_reducible apply State.bump_kept
    | with_reducible apply State.ufEvt_kept | with_reducible apply Kept.ite | split | dsimp only

theorem execMalformedFrame_kept {z s : State} (a : Agent) (t : Transport) (hs : Kept z s) :
    KeptBy z (execMalformedFrame a t s) := by
  unfold execMalformedFrame
  repeat' first
    | with_reducible apply KeptBy.next | with_reducible apply KeptBy.ite | with_reducible assumption | intro _
    | with_reducible apply State.malformed_kept | with_reducible apply Kept.ite | dsimp only

theorem execFrameIn_kept {z s : State} (bytes : List Byte) (hs : Kept z s) : KeptBy z (execFrameIn bytes s) := by
  unfold execFrameIn
  repeat' first
    | with_reducible apply KeptBy.next | with_reducible apply KeptBy.ite | with_reducible assumption | intro _
    | with_reducible apply State.frameArrives_kept | with_reducible apply State.malformed_kept
    | with_reducible apply Kept.ite | split | dsimp only

theorem execFrameOut_kept {z s : State} (hs : Kept z s) : KeptBy z (execFrameOut s) := by
  unfold execFrameOut
  repeat' first
    | with_reducible apply KeptBy.next | with_reducible apply KeptBy.ite | with_reducible assumption | intro _
    | with_reducible apply State.emit_kept | with_reducible apply State.spiLeaves_kept
    | with_reducible apply Kept.ite | dsimp only

theorem execReadStatus_kept {z s : State} (hs : Kept z s) : KeptBy z (execReadStatus s) := by
  unfold execReadStatus
  repeat' first
    | with_reducible apply KeptBy.next | with_reducible apply KeptBy.ite | with_reducible assumption | intro _
    | with_reducible apply State.emit_kept | with_reducible apply State.statusSent_kept
    | with_reducible apply Kept.ite | dsimp only

theorem execNpTimeout_kept {z s : State} (a : Agent) (tag : Byte) (hs : Kept z s) :
    KeptBy z (execNpTimeout a tag s) := by
  unfold execNpTimeout
  repeat' first
    | with_reducible apply KeptBy.next | with_reducible apply KeptBy.ite | with_reducible assumption | intro _
    | with_reducible apply State.advanceTo_kept | with_reducible apply State.complete_kept
    | with_reducible apply State.fieldForget_kept | with_reducible apply Kept.ite | split | dsimp only

theorem execEp1Packet_kept {z s : State} (h : Hp) (bytes : List Byte) (hs : Kept z s) :
    KeptBy z (execEp1Packet h bytes s) := by
  unfold execEp1Packet
  repeat' first
    | with_reducible apply KeptBy.next | with_reducible apply KeptBy.ite | with_reducible assumption | intro _
    | with_reducible apply State.mfSays_kept | with_reducible apply State.malformed_kept
    | with_reducible apply State.ep1Free_kept | with_reducible apply State.frameArrives_kept
    | with_reducible apply State.bump_kept | with_reducible apply State.ep1Put_kept | simp only [Kept.mk_iff]
    | with_reducible apply Kept.parts | with_reducible apply Kept.ite | split | dsimp only

theorem State.setAsm_kept {z s : State} (h : Nat) (n : Nat) (m : Assembly) (hs : Kept z s) :
    Kept z (State.setAsm s h n m) := by
  unfold State.setAsm
  repeat' first
    | with_reducible assumption | intro _ | with_reducible apply State.modLink_kept | with_reducible apply Kept.ite
    | dsimp only

theorem State.creditBack_kept {z s : State} (h : Nat) (n : Nat) (units : Nat) (hs : Kept z s) :
    Kept z (State.creditBack s h n units) := by
  unfold State.creditBack
  repeat' first
    | with_reducible assumption | intro _ | with_reducible apply State.freeUnits_kept | with_reducible apply Kept.ite
    | dsimp only

theorem State.loseMessage_kept {z s : State} (h : Nat) (n : Nat) (last : Bool) (hs : Kept z s) :
    Kept z (State.loseMessage s h n last) := by
  unfold State.loseMessage
  repeat' first
    | with_reducible assumption | intro _ | with_reducible apply State.setItems_kept
    | with_reducible apply State.creditBack_kept | with_reducible apply State.setAsm_kept
    | with_reducible apply State.grainLost_kept | with_reducible apply Kept.ite | split | dsimp only

theorem State.rxDiscard_kept {z s : State} (h : Nat) (p : Packet) (hs : Kept z s) :
    Kept z (State.rxDiscard s h p) := by
  unfold State.rxDiscard
  repeat' first
    | with_reducible assumption | intro _ | with_reducible apply State.creditBack_kept
    | with_reducible apply State.loseMessage_kept | with_reducible apply Kept.ite | dsimp only

theorem State.rxEcho_kept {z s : State} (h : Nat) (p : Packet) (hs : Kept z s) : Kept z (State.rxEcho s h p) := by
  unfold State.rxEcho
  repeat' first
    | with_reducible assumption | intro _ | with_reducible apply State.bump_kept
    | with_reducible apply State.creditBack_kept | with_reducible apply State.enqueue_kept | dsimp only

theorem State.rxQueue_kept {z s : State} (h : Nat) (p : Packet) (hs : Kept z s) : Kept z (State.rxQueue s h p) := by
  unfold State.rxQueue
  repeat' first
    | with_reducible assumption | intro _ | with_reducible apply Kept.pair_ite
    | with_reducible apply State.rxDiscard_kept | with_reducible apply State.bump_kept
    | with_reducible apply State.enqueue_kept | with_reducible apply Kept.ite
    | with_reducible apply State.police_kept | refine Kept.of_pair (by with_reducible assumption) ?_ | dsimp only

theorem State.rxAccept_kept {z s : State} (h : Nat) (p : Packet) (hs : Kept z s) : Kept z (State.rxAccept s h p) := by
  unfold State.rxAccept
  repeat' first
    | with_reducible assumption | intro _ | with_reducible apply State.put_kept
    | with_reducible apply State.modLink_kept | with_reducible apply State.rxDiscard_kept
    | with_reducible apply State.raise_kept | with_reducible apply State.bump_kept
    | with_reducible apply State.rxEcho_kept | with_reducible apply State.setAsm_kept
    | with_reducible apply State.creditBack_kept | with_reducible apply State.rxQueue_kept
    | with_reducible apply Kept.ite | split | dsimp only

theorem State.cwTaken_kept {z s : State} (h : Nat) (c : CwIn) (hs : Kept z s) : Kept z (State.cwTaken s h c) := by
  unfold State.cwTaken
  repeat' first
    | with_reducible assumption | intro _ | with_reducible apply State.modLink_kept
    | with_reducible apply State.bump_kept | with_reducible apply State.raise_kept | with_reducible apply Kept.ite
    | dsimp only

theorem State.countArrival_kept {z s : State} (h : Nat) (hs : Kept z s) : Kept z (State.countArrival s h) := by
  unfold State.countArrival
  repeat' first
    | with_reducible assumption | intro _ | with_reducible apply State.modLink_kept
    | with_reducible apply State.sendAck_kept | with_reducible apply Kept.ite | dsimp only

theorem State.judgePacket_kept {z s : State} (h : Nat) (got : Prod Arrival Packet) (hs : Kept z s) :
    Kept z (State.judgePacket s h got) := by
  unfold State.judgePacket
  repeat' first
    | with_reducible assumption | intro _ | with_reducible apply State.countArrival_kept
    | with_reducible apply State.sendNak_kept | with_reducible apply State.bump_kept
    | with_reducible apply State.raise_kept | with_reducible apply State.sendAck_kept
    | with_reducible apply State.put_kept | with_reducible apply State.modLink_kept
    | with_reducible apply State.rxAccept_kept | with_reducible apply Kept.ite | split | dsimp only

theorem execPacketReceive_kept {z s : State} (h : Hp) (shared : BitVec 4) (cws : List CwIn) (blocks : List Blk) (hs :
    Kept z s) : KeptBy z (execPacketReceive h shared cws blocks s) := by
  unfold execPacketReceive
  repeat' first
    | with_reducible apply KeptBy.next | with_reducible apply KeptBy.ite | with_reducible assumption | intro _
    | with_reducible apply State.cwTaken_kept | with_reducible apply State.judgePacket_kept
    | with_reducible apply Kept.ite | with_reducible apply Kept.foldl | with_reducible apply State.onLink_kept
    | dsimp only

theorem State.tunnelFrame_kept {z s : State} (h : Nat) (n : Nat) (bus : Nat) (f : Frame) (hs : Kept z s) :
    Kept z (State.tunnelFrame s h n bus f) := by
  unfold State.tunnelFrame
  repeat' first
    | with_reducible assumption | intro _ | with_reducible apply State.serve_kept
    | with_reducible apply State.frameRefuse_kept | with_reducible apply State.frameArrives_kept
    | with_reducible apply Kept.ite | split | dsimp only

theorem State.framePiece_kept {z s : State} (h : Nat) (n : Nat) (part : Nat) (bus : Nat) (last : Bool) (bs : List
    Byte) (hs : Kept z s) : Kept z (State.framePiece s h n part bus last bs) := by
  unfold State.framePiece
  repeat' first
    | with_reducible assumption | intro _ | with_reducible apply State.setAsm_kept
    | with_reducible apply State.tunnelFrame_kept | with_reducible apply State.malformed_kept
    | with_reducible apply Kept.ite | split | dsimp only

theorem State.ethPiece_kept {z s : State} (h : Nat) (n : Nat) (tsf : Nat) (last : Bool) (bs : List Byte) (hs : Kept z
    s) : Kept z (State.ethPiece s h n tsf last bs) := by
  unfold State.ethPiece
  repeat' first
    | with_reducible assumption | intro _ | with_reducible apply State.setAsm_kept
    | with_reducible apply State.ethFromHost_kept | with_reducible apply Kept.ite | dsimp only

theorem State.deliver_kept {z s : State} (h : Nat) (i : QItem) (hs : Kept z s) : Kept z (State.deliver s h i) := by
  unfold State.deliver
  repeat' first
    | with_reducible assumption | intro _ | with_reducible apply State.creditBack_kept
    | with_reducible apply State.framePiece_kept | with_reducible apply State.grainPacket_kept
    | with_reducible apply State.pxArrive_kept | with_reducible apply State.ethPiece_kept
    | with_reducible apply State.srDescriptors_kept | with_reducible apply State.srCancels_kept
    | with_reducible apply Kept.ite | split | dsimp only

theorem State.sendDown_kept {z s : State} (h : Nat) (hs : Kept z s) : Kept z (State.sendDown s h) := by
  unfold State.sendDown
  repeat' first
    | with_reducible assumption | intro _ | refine State.choose_kept _ _ ?_ _ _ _ (by with_reducible assumption)
    | with_reducible apply State.deliver_kept | with_reducible apply State.takeHead_kept
    | with_reducible apply Kept.ite | split | dsimp only

theorem execSendOpportunity_kept {z s : State} (stream : Fin 36) (hs : Kept z s) :
    KeptBy z (execSendOpportunity stream s) := by
  unfold execSendOpportunity
  repeat' first
    | with_reducible apply KeptBy.next | with_reducible apply KeptBy.ite | with_reducible assumption | intro _
    | with_reducible apply State.sendUp_kept | with_reducible apply State.sendDown_kept
    | with_reducible apply State.sendSwitch_kept | with_reducible apply State.fieldStart_kept
    | with_reducible apply Kept.ite | dsimp only

theorem State.sessionFailover_kept {z s : State} (changes : List OwnChange) (hs : Kept z s) :
    Kept z (State.sessionFailover s changes) := by
  unfold State.sessionFailover
  repeat' first
    | with_reducible assumption | intro _ | with_reducible apply State.sessionAbort_kept
    | with_reducible apply Kept.ite | split | dsimp only

theorem State.beacons_kept {z s : State} (hs : Kept z s) : Kept z (State.beacons s) := by
  unfold State.beacons
  repeat' first
    | with_reducible assumption | intro _ | with_reducible apply State.each_kept
    | with_reducible apply State.took_kept | with_reducible apply State.sendBeacon_kept
    | with_reducible apply Kept.ite | dsimp only

theorem State.shedWidths_kept {z s : State} (hs : Kept z s) : Kept z (State.shedWidths s) := by
  unfold State.shedWidths
  repeat' first
    | with_reducible assumption | intro _ | with_reducible apply State.each_kept
    | with_reducible apply State.relist_kept | simp only [Kept.mk_iff] | with_reducible apply Kept.parts
    | with_reducible apply Kept.ite | dsimp only

theorem State.boundaryCommits_kept {z s : State} (hs : Kept z s) : Kept z (State.boundaryCommits s) := by
  unfold State.boundaryCommits
  repeat' first
    | with_reducible assumption | intro _ | with_reducible apply State.sessionFailover_kept
    | with_reducible apply State.ownerHook_kept | with_reducible apply State.bankSelect_kept
    | with_reducible apply State.applyImage_kept | with_reducible apply State.commitStep_kept
    | with_reducible apply Kept.foldl | with_reducible apply State.ownStep_kept
    | refine Kept.of_pair (by with_reducible assumption) ?_ | split | dsimp only

theorem State.boundary_kept {z s : State} (hs : Kept z s) : Kept z (State.boundary s) := by
  unfold State.boundary
  repeat' first
    | with_reducible assumption | intro _ | with_reducible apply State.boundaryCommits_kept
    | with_reducible apply State.each_kept | with_reducible apply State.pxTick_kept
    | with_reducible apply State.beacons_kept | with_reducible apply State.turnBoundary_kept
    | with_reducible apply State.ownReplies_kept | with_reducible apply State.refRamp_kept
    | with_reducible apply State.grainTick_kept | with_reducible apply State.bridgeTick_kept
    | with_reducible apply State.todStep_kept | with_reducible apply State.overflowFile_kept
    | with_reducible apply State.shedWidths_kept | with_reducible apply State.adaptAll_kept
    | with_reducible apply State.powerTick_kept | with_reducible apply Kept.ite | dsimp only

theorem State.reachBoundary_kept {z s : State} (hs : Kept z s) : Kept z (State.reachBoundary s) := by
  unfold State.reachBoundary
  repeat' first
    | with_reducible assumption | intro _ | with_reducible apply State.advanceTo_kept
    | with_reducible apply State.iff_kept | with_reducible apply State.fireUpTo_kept
    | with_reducible refine State.modClock_kept _ ?_ rfl | with_reducible apply State.settleLines_kept | dsimp only

theorem State.passBoundary_kept {z s : State} (hs : Kept z s) : Kept z (State.passBoundary s) := by
  unfold State.passBoundary
  repeat' first
    | with_reducible assumption | intro _ | with_reducible apply State.iff_kept
    | with_reducible apply State.reachBoundary_kept | with_reducible apply State.boundary_kept
    | with_reducible apply Kept.ite | dsimp only

theorem State.hamadaTick_kept {z s : State} (meas : List EfMeas) (hs : Kept z s) :
    Kept z (State.hamadaTick s meas) := by
  unfold State.hamadaTick
  repeat' first
    | with_reducible assumption | intro _ | with_reducible apply State.shedTick_kept
    | with_reducible apply State.efTicks_kept | with_reducible apply State.tcTick_kept | simp only [Kept.mk_iff]
    | with_reducible apply Kept.parts | dsimp only

theorem execTickBoundary_kept {z s : State} (meas : List EfMeas) (hs : Kept z s) :
    KeptBy z (execTickBoundary meas s) := by
  unfold execTickBoundary
  repeat' first
    | with_reducible apply KeptBy.next | with_reducible apply KeptBy.ite | with_reducible assumption | intro _
    | with_reducible apply State.pda_kept | with_reducible apply State.passBoundary_kept
    | with_reducible apply State.hamadaTick_kept | dsimp only

theorem State.idle_kept {z s : State} (hs : Kept z s) : Kept z (State.idle s) := by
  unfold State.idle
  repeat' first
    | with_reducible assumption | intro _ | with_reducible apply State.pda_kept
    | with_reducible apply State.passBoundary_kept | with_reducible apply State.hamadaTick_kept
    | with_reducible apply State.advanceTo_kept | with_reducible apply Kept.ite | dsimp only

theorem State.linkAbsent_kept {z s : State} (h : Nat) (hs : Kept z s) : Kept z (State.linkAbsent s h) := by
  unfold State.linkAbsent
  repeat' first
    | with_reducible assumption | intro _ | with_reducible apply State.each_kept
    | with_reducible apply State.pxContain_kept | with_reducible apply State.pxDrain_kept
    | with_reducible apply Kept.ite | dsimp only

theorem execLinkDownTrigger_kept {z s : State} (h : Hp) (hs : Kept z s) : KeptBy z (execLinkDownTrigger h s) := by
  unfold execLinkDownTrigger
  repeat' first
    | with_reducible apply KeptBy.next | with_reducible apply KeptBy.ite | with_reducible assumption | intro _
    | with_reducible apply State.advanceTo_kept | with_reducible apply State.iff_kept
    | with_reducible apply State.linkAbsent_kept | with_reducible apply State.recordTrigger_kept
    | with_reducible apply State.modOwn_kept | with_reducible apply Kept.ite | split | dsimp only

theorem State.wordsArrive_kept {z s : State} (a : Nat) (addr : Nat) (ws : List Word) (hs : Kept z s) :
    Kept z (State.wordsArrive s a addr ws) := by
  unfold State.wordsArrive
  repeat' first
    | with_reducible assumption | intro _ | with_reducible apply Kept.ite | with_reducible apply State.putWords_kept
    | dsimp only

theorem State.fieldArrives_kept {z s : State} (a : Nat) (addr : Nat) (lsb : Nat) (width : Nat) (v : Nat) (hs : Kept z
    s) : Kept z (State.fieldArrives s a addr lsb width v) := by
  unfold State.fieldArrives
  repeat' first
    | with_reducible assumption | intro _ | with_reducible apply State.wordsArrive_kept | dsimp only

theorem execRegisterWrite_kept {z s : State} (a : Agent) (addr : Word) (v : Word) (hs : Kept z s) :
    KeptBy z (execRegisterWrite a addr v s) := by
  unfold execRegisterWrite
  repeat' first
    | with_reducible apply KeptBy.next | with_reducible apply KeptBy.ite | with_reducible assumption | intro _
    | with_reducible apply State.wordsArrive_kept | dsimp only

theorem execTickCommit_kept {z s : State} (a : Agent) (hs : Kept z s) : KeptBy z (execTickCommit a s) := by
  unfold execTickCommit
  repeat' first
    | with_reducible apply KeptBy.next | with_reducible apply KeptBy.ite | with_reducible assumption | intro _
    | with_reducible apply State.wordsArrive_kept | dsimp only

theorem execTickDiscard_kept {z s : State} (a : Agent) (hs : Kept z s) : KeptBy z (execTickDiscard a s) := by
  unfold execTickDiscard
  repeat' first
    | with_reducible apply KeptBy.next | with_reducible apply KeptBy.ite | with_reducible assumption | intro _
    | with_reducible apply State.wordsArrive_kept | dsimp only

theorem execFevtClassWrite_kept {z s : State} (a : Agent) (n : Fin 8) (v : Word) (hs : Kept z s) :
    KeptBy z (execFevtClassWrite a n v s) := by
  unfold execFevtClassWrite
  repeat' first
    | with_reducible apply KeptBy.next | with_reducible apply KeptBy.ite | with_reducible assumption | intro _
    | with_reducible apply State.wordsArrive_kept | dsimp only

theorem State.stormMask_kept {z s : State} (a : Nat) (n : Nat) (hs : Kept z s) : Kept z (State.stormMask s a n) := by
  unfold State.stormMask
  repeat' first
    | with_reducible assumption | intro _ | with_reducible apply State.setBit_kept
    | with_reducible apply State.logOp_kept | with_reducible apply State.bump_kept | with_reducible apply Kept.ite
    | dsimp only

theorem execEvtStormAutomask_kept {z s : State} (src : Fin 256) (hs : Kept z s) :
    KeptBy z (execEvtStormAutomask src s) := by
  unfold execEvtStormAutomask
  repeat' first
    | with_reducible apply KeptBy.next | with_reducible apply KeptBy.ite | with_reducible assumption | intro _
    | with_reducible apply State.each_kept | with_reducible apply State.iff_kept
    | with_reducible apply State.stormMask_kept | simp only [Kept.mk_iff] | with_reducible apply Kept.parts
    | with_reducible apply Kept.ite | dsimp only

theorem execStormWindowStart_kept {z s : State} (hs : Kept z s) : KeptBy z (execStormWindowStart s) := by
  unfold execStormWindowStart
  repeat' first
    | with_reducible apply KeptBy.next | with_reducible apply KeptBy.ite | with_reducible assumption | intro _
    | with_reducible apply State.stormWindow_kept | with_reducible apply Kept.ite | dsimp only

theorem execCvRetrain_kept {z s : State} (a : Agent) (h : Hp) (hs : Kept z s) : KeptBy z (execCvRetrain a h s) := by
  unfold execCvRetrain
  repeat' first
    | with_reducible apply KeptBy.next | with_reducible apply KeptBy.ite | with_reducible assumption | intro _
    | with_reducible apply State.fieldArrives_kept | dsimp only

theorem execForceSparePll_kept {z s : State} (a : Agent) (g : Fin 9) (hs : Kept z s) :
    KeptBy z (execForceSparePll a g s) := by
  unfold execForceSparePll
  repeat' first
    | with_reducible apply KeptBy.next | with_reducible apply KeptBy.ite | with_reducible assumption | intro _
    | with_reducible apply State.fieldArrives_kept | dsimp only

theorem execForceSlice_kept {z s : State} (a : Agent) (g : Fin 9) (l : Fin 4) (hs : Kept z s) :
    KeptBy z (execForceSlice a g l s) := by
  unfold execForceSlice
  repeat' first
    | with_reducible apply KeptBy.next | with_reducible apply KeptBy.ite | with_reducible assumption | intro _
    | with_reducible apply State.fieldArrives_kept | dsimp only

theorem execLnEyeStart_kept {z s : State} (a : Agent) (g : Fin 9) (l : Fin 4) (hs : Kept z s) :
    KeptBy z (execLnEyeStart a g l s) := by
  unfold execLnEyeStart
  repeat' first
    | with_reducible apply KeptBy.next | with_reducible apply KeptBy.ite | with_reducible assumption | intro _
    | with_reducible apply State.fieldArrives_kept | dsimp only

theorem execSrSubmit_kept {z s : State} (a : Agent) (w0 : Word) (w1 : Word) (w2 : Word) (w3 : Word) (hs : Kept z s) :
    KeptBy z (execSrSubmit a w0 w1 w2 w3 s) := by
  unfold execSrSubmit
  repeat' first
    | with_reducible apply KeptBy.next | with_reducible apply KeptBy.ite | with_reducible assumption | intro _
    | with_reducible apply State.wordsArrive_kept | dsimp only

theorem execSrCancel_kept {z s : State} (a : Agent) (w0 : Word) (w1 : Word) (hs : Kept z s) :
    KeptBy z (execSrCancel a w0 w1 s) := by
  unfold execSrCancel
  repeat' first
    | with_reducible apply KeptBy.next | with_reducible apply KeptBy.ite | with_reducible assumption | intro _
    | with_reducible apply State.wordsArrive_kept | dsimp only

theorem execHeadEnable_kept {z s : State} (a : Agent) (x : Fin 2) (on : Bool) (hs : Kept z s) :
    KeptBy z (execHeadEnable a x on s) := by
  unfold execHeadEnable
  repeat' first
    | with_reducible apply KeptBy.next | with_reducible apply KeptBy.ite | with_reducible assumption | intro _
    | with_reducible apply State.fieldArrives_kept | dsimp only

theorem execHdCommit_kept {z s : State} (a : Agent) (x : Fin 2) (hs : Kept z s) : KeptBy z (execHdCommit a x s) := by
  unfold execHdCommit
  repeat' first
    | with_reducible apply KeptBy.next | with_reducible apply KeptBy.ite | with_reducible assumption | intro _
    | with_reducible apply State.fieldArrives_kept | dsimp only

theorem execHdCancel_kept {z s : State} (a : Agent) (x : Fin 2) (hs : Kept z s) : KeptBy z (execHdCancel a x s) := by
  unfold execHdCancel
  repeat' first
    | with_reducible apply KeptBy.next | with_reducible apply KeptBy.ite | with_reducible assumption | intro _
    | with_reducible apply State.fieldArrives_kept | dsimp only

theorem execDpRetrain_kept {z s : State} (a : Agent) (x : Fin 2) (hs : Kept z s) : KeptBy z (execDpRetrain a x s) := by
  unfold execDpRetrain
  repeat' first
    | with_reducible apply KeptBy.next | with_reducible apply KeptBy.ite | with_reducible assumption | intro _
    | with_reducible apply State.fieldArrives_kept | dsimp only

theorem execAuxStart_kept {z s : State} (a : Agent) (x : Fin 2) (hs : Kept z s) : KeptBy z (execAuxStart a x s) := by
  unfold execAuxStart
  repeat' first
    | with_reducible apply KeptBy.next | with_reducible apply KeptBy.ite | with_reducible assumption | intro _
    | with_reducible apply State.fieldArrives_kept | dsimp only

theorem execEthFdbFlush_kept {z s : State} (a : Agent) (v : Word) (hs : Kept z s) :
    KeptBy z (execEthFdbFlush a v s) := by
  unfold execEthFdbFlush
  repeat' first
    | with_reducible apply KeptBy.next | with_reducible apply KeptBy.ite | with_reducible assumption | intro _
    | with_reducible apply State.wordsArrive_kept | dsimp only

theorem execDsPowerCycle_kept {z s : State} (a : Agent) (n : Fin 8) (hs : Kept z s) :
    KeptBy z (execDsPowerCycle a n s) := by
  unfold execDsPowerCycle
  repeat' first
    | with_reducible apply KeptBy.next | with_reducible apply KeptBy.ite | with_reducible assumption | intro _
    | with_reducible apply State.fieldArrives_kept | dsimp only

theorem execMfConnectWrite_kept {z s : State} (a : Agent) (h : Hp) (on : Bool) (hs : Kept z s) :
    KeptBy z (execMfConnectWrite a h on s) := by
  unfold execMfConnectWrite
  repeat' first
    | with_reducible apply KeptBy.next | with_reducible apply KeptBy.ite | with_reducible assumption | intro _
    | with_reducible apply State.fieldArrives_kept | dsimp only

theorem execBusDisable_kept {z s : State} (a : Agent) (b : Fin 20) (hs : Kept z s) :
    KeptBy z (execBusDisable a b s) := by
  unfold execBusDisable
  repeat' first
    | with_reducible apply KeptBy.next | with_reducible apply KeptBy.ite | with_reducible assumption | intro _
    | with_reducible apply State.fieldArrives_kept | dsimp only

theorem execWdPerrPop_kept {z s : State} (a : Agent) (h : Hp) (hs : Kept z s) : KeptBy z (execWdPerrPop a h s) := by
  unfold execWdPerrPop
  repeat' first
    | with_reducible apply KeptBy.next | with_reducible apply KeptBy.ite | with_reducible assumption | intro _
    | with_reducible apply State.fieldArrives_kept | dsimp only

theorem execModuleApprove_kept {z s : State} (a : Agent) (m : Fin 8) (hs : Kept z s) :
    KeptBy z (execModuleApprove a m s) := by
  unfold execModuleApprove
  repeat' first
    | with_reducible apply KeptBy.next | with_reducible apply KeptBy.ite | with_reducible assumption | intro _
    | with_reducible apply State.fieldArrives_kept | dsimp only

theorem execModuleReject_kept {z s : State} (a : Agent) (m : Fin 8) (hs : Kept z s) :
    KeptBy z (execModuleReject a m s) := by
  unfold execModuleReject
  repeat' first
    | with_reducible apply KeptBy.next | with_reducible apply KeptBy.ite | with_reducible assumption | intro _
    | with_reducible apply State.fieldArrives_kept | dsimp only

theorem execModuleRecheck_kept {z s : State} (a : Agent) (m : Fin 8) (hs : Kept z s) :
    KeptBy z (execModuleRecheck a m s) := by
  unfold execModuleRecheck
  repeat' first
    | with_reducible apply KeptBy.next | with_reducible apply KeptBy.ite | with_reducible assumption | intro _
    | with_reducible apply State.fieldArrives_kept | dsimp only

theorem execTcEnable_kept {z s : State} (a : Agent) (p : Fin 4) (on : Bool) (hs : Kept z s) :
    KeptBy z (execTcEnable a p on s) := by
  unfold execTcEnable
  repeat' first
    | with_reducible apply KeptBy.next | with_reducible apply KeptBy.ite | with_reducible assumption | intro _
    | with_reducible apply State.fieldArrives_kept | dsimp only

theorem execTcRearm_kept {z s : State} (a : Agent) (p : Fin 4) (hs : Kept z s) : KeptBy z (execTcRearm a p s) := by
  unfold execTcRearm
  repeat' first
    | with_reducible apply KeptBy.next | with_reducible apply KeptBy.ite | with_reducible assumption | intro _
    | with_reducible apply State.fieldArrives_kept | dsimp only

theorem execTcSwapPr_kept {z s : State} (a : Agent) (p : Fin 4) (hs : Kept z s) : KeptBy z (execTcSwapPr a p s) := by
  unfold execTcSwapPr
  repeat' first
    | with_reducible apply KeptBy.next | with_reducible apply KeptBy.ite | with_reducible assumption | intro _
    | with_reducible apply State.fieldArrives_kept | dsimp only

theorem execTcSwapDr_kept {z s : State} (a : Agent) (p : Fin 4) (hs : Kept z s) : KeptBy z (execTcSwapDr a p s) := by
  unfold execTcSwapDr
  repeat' first
    | with_reducible apply KeptBy.next | with_reducible apply KeptBy.ite | with_reducible assumption | intro _
    | with_reducible apply State.fieldArrives_kept | dsimp only

theorem execTcSwapVconn_kept {z s : State} (a : Agent) (p : Fin 4) (hs : Kept z s) :
    KeptBy z (execTcSwapVconn a p s) := by
  unfold execTcSwapVconn
  repeat' first
    | with_reducible apply KeptBy.next | with_reducible apply KeptBy.ite | with_reducible assumption | intro _
    | with_reducible apply State.fieldArrives_kept | dsimp only

theorem execTcSoftReset_kept {z s : State} (a : Agent) (p : Fin 4) (hs : Kept z s) :
    KeptBy z (execTcSoftReset a p s) := by
  unfold execTcSoftReset
  repeat' first
    | with_reducible apply KeptBy.next | with_reducible apply KeptBy.ite | with_reducible assumption | intro _
    | with_reducible apply State.fieldArrives_kept | dsimp only

theorem execTcHardReset_kept {z s : State} (a : Agent) (p : Fin 4) (hs : Kept z s) :
    KeptBy z (execTcHardReset a p s) := by
  unfold execTcHardReset
  repeat' first
    | with_reducible apply KeptBy.next | with_reducible apply KeptBy.ite | with_reducible assumption | intro _
    | with_reducible apply State.fieldArrives_kept | dsimp only

theorem execEfEnable_kept {z s : State} (a : Agent) (c : Fin 8) (on : Bool) (hs : Kept z s) :
    KeptBy z (execEfEnable a c on s) := by
  unfold execEfEnable
  repeat' first
    | with_reducible apply KeptBy.next | with_reducible apply KeptBy.ite | with_reducible assumption | intro _
    | with_reducible apply State.fieldArrives_kept | dsimp only

theorem execEfCtrlOn_kept {z s : State} (a : Agent) (c : Fin 8) (on : Bool) (hs : Kept z s) :
    KeptBy z (execEfCtrlOn a c on s) := by
  unfold execEfCtrlOn
  repeat' first
    | with_reducible apply KeptBy.next | with_reducible apply KeptBy.ite | with_reducible assumption | intro _
    | with_reducible apply State.fieldArrives_kept | dsimp only

theorem execEfClear_kept {z s : State} (a : Agent) (c : Fin 8) (hs : Kept z s) : KeptBy z (execEfClear a c s) := by
  unfold execEfClear
  repeat' first
    | with_reducible apply KeptBy.next | with_reducible apply KeptBy.ite | with_reducible assumption | intro _
    | with_reducible apply State.fieldArrives_kept | dsimp only

theorem execIsoIsolate_kept {z s : State} (a : Agent) (u : Fin 24) (hs : Kept z s) :
    KeptBy z (execIsoIsolate a u s) := by
  unfold execIsoIsolate
  repeat' first
    | with_reducible apply KeptBy.next | with_reducible apply KeptBy.ite | with_reducible assumption | intro _
    | with_reducible apply State.fieldArrives_kept | dsimp only

theorem execIsoRestart_kept {z s : State} (a : Agent) (u : Fin 24) (hs : Kept z s) :
    KeptBy z (execIsoRestart a u s) := by
  unfold execIsoRestart
  repeat' first
    | with_reducible apply KeptBy.next | with_reducible apply KeptBy.ite | with_reducible assumption | intro _
    | with_reducible apply State.fieldArrives_kept | dsimp only

theorem execPwrStayWrite_kept {z s : State} (a : Agent) (on : Bool) (hs : Kept z s) :
    KeptBy z (execPwrStayWrite a on s) := by
  unfold execPwrStayWrite
  repeat' first
    | with_reducible apply KeptBy.next | with_reducible apply KeptBy.ite | with_reducible assumption | intro _
    | with_reducible apply State.fieldArrives_kept | dsimp only

theorem execErrFirstAck_kept {z s : State} (a : Agent) (hs : Kept z s) : KeptBy z (execErrFirstAck a s) := by
  unfold execErrFirstAck
  repeat' first
    | with_reducible apply KeptBy.next | with_reducible apply KeptBy.ite | with_reducible assumption | intro _
    | with_reducible apply State.wordsArrive_kept | dsimp only

theorem execErrRingPop_kept {z s : State} (a : Agent) (hs : Kept z s) : KeptBy z (execErrRingPop a s) := by
  unfold execErrRingPop
  repeat' first
    | with_reducible apply KeptBy.next | with_reducible apply KeptBy.ite | with_reducible assumption | intro _
    | with_reducible apply State.wordsArrive_kept | dsimp only

end Sys2Proof.Machine
end

