-- ==== Sys2Proof/Laws/State.lean ====
section
/-! SUPPORT. Laws/State.lean: what each elementary update leaves of every part of the state, and what a field reads after
a write of it, of another field of its register, and of another register. -/
namespace Sys2Proof.Machine

variable (s : State)

@[simp] theorem State.setReg_pending (a v : Nat) : (s.setReg a v).pending = s.pending := rfl
@[simp] theorem State.setReg_out (a v : Nat) : (s.setReg a v).out = s.out := rfl
@[simp] theorem State.setReg_free (a v : Nat) : (s.setReg a v).free = s.free := rfl
@[simp] theorem State.setReg_clock (a v : Nat) : (s.setReg a v).clock = s.clock := rfl
@[simp] theorem State.setReg_router (a v : Nat) : (s.setReg a v).router = s.router := rfl
@[simp] theorem State.setReg_img (a v : Nat) : (s.setReg a v).img = s.img := rfl
@[simp] theorem State.setReg_mgmt (a v : Nat) : (s.setReg a v).mgmt = s.mgmt := rfl
@[simp] theorem State.setReg_arb (a v : Nat) : (s.setReg a v).arb = s.arb := rfl
@[simp] theorem State.setReg_spiQ (a v : Nat) : (s.setReg a v).spiQ = s.spiQ := rfl
@[simp] theorem State.setReg_usbQ (a v : Nat) : (s.setReg a v).usbQ = s.usbQ := rfl
@[simp] theorem State.setReg_logs (a v : Nat) : (s.setReg a v).logs = s.logs := rfl
@[simp] theorem State.setReg_own (a v : Nat) : (s.setReg a v).own = s.own := rfl
@[simp] theorem State.setReg_pwr (a v : Nat) : (s.setReg a v).pwr = s.pwr := rfl
@[simp] theorem State.setReg_links (a v : Nat) : (s.setReg a v).links = s.links := rfl
@[simp] theorem State.setReg_mainLost (a v : Nat) : (s.setReg a v).mainLost = s.mainLost := rfl
@[simp] theorem State.setReg_eyes (a v : Nat) : (s.setReg a v).eyes = s.eyes := rfl
@[simp] theorem State.setReg_bc (a v : Nat) : (s.setReg a v).bc = s.bc := rfl
@[simp] theorem State.setReg_sr (a v : Nat) : (s.setReg a v).sr = s.sr := rfl
@[simp] theorem State.setReg_pl (a v : Nat) : (s.setReg a v).pl = s.pl := rfl
@[simp] theorem State.setReg_px (a v : Nat) : (s.setReg a v).px = s.px := rfl
@[simp] theorem State.setReg_oa (a v : Nat) : (s.setReg a v).oa = s.oa := rfl
@[simp] theorem State.setReg_rails (a v : Nat) : (s.setReg a v).rails = s.rails := rfl
@[simp] theorem State.setReg_et (a v : Nat) : (s.setReg a v).et = s.et := rfl
@[simp] theorem State.setReg_us (a v : Nat) : (s.setReg a v).us = s.us := rfl
@[simp] theorem State.setReg_wd (a v : Nat) : (s.setReg a v).wd = s.wd := rfl
@[simp] theorem State.setReg_tc (a v : Nat) : (s.setReg a v).tc = s.tc := rfl
@[simp] theorem State.setReg_ef (a v : Nat) : (s.setReg a v).ef = s.ef := rfl

@[simp] theorem State.passTurn_pending (a : Nat) : (s.passTurn a).pending = s.pending := rfl
@[simp] theorem State.passTurn_out (a : Nat) : (s.passTurn a).out = s.out := rfl
@[simp] theorem State.passTurn_free (a : Nat) : (s.passTurn a).free = s.free := rfl
@[simp] theorem State.passTurn_regs (a : Nat) : (s.passTurn a).regs = s.regs := rfl
@[simp] theorem State.passTurn_clock (a : Nat) : (s.passTurn a).clock = s.clock := rfl
@[simp] theorem State.passTurn_router (a : Nat) : (s.passTurn a).router = s.router := rfl
@[simp] theorem State.passTurn_img (a : Nat) : (s.passTurn a).img = s.img := rfl
@[simp] theorem State.passTurn_mgmt (a : Nat) : (s.passTurn a).mgmt = s.mgmt := rfl
@[simp] theorem State.passTurn_spiQ (a : Nat) : (s.passTurn a).spiQ = s.spiQ := rfl
@[simp] theorem State.passTurn_usbQ (a : Nat) : (s.passTurn a).usbQ = s.usbQ := rfl
@[simp] theorem State.passTurn_logs (a : Nat) : (s.passTurn a).logs = s.logs := rfl
@[simp] theorem State.passTurn_own (a : Nat) : (s.passTurn a).own = s.own := rfl
@[simp] theorem State.passTurn_pwr (a : Nat) : (s.passTurn a).pwr = s.pwr := rfl
@[simp] theorem State.passTurn_links (a : Nat) : (s.passTurn a).links = s.links := rfl
@[simp] theorem State.passTurn_mainLost (a : Nat) : (s.passTurn a).mainLost = s.mainLost := rfl
@[simp] theorem State.passTurn_eyes (a : Nat) : (s.passTurn a).eyes = s.eyes := rfl
@[simp] theorem State.passTurn_bc (a : Nat) : (s.passTurn a).bc = s.bc := rfl
@[simp] theorem State.passTurn_sr (a : Nat) : (s.passTurn a).sr = s.sr := rfl
@[simp] theorem State.passTurn_pl (a : Nat) : (s.passTurn a).pl = s.pl := rfl
@[simp] theorem State.passTurn_px (a : Nat) : (s.passTurn a).px = s.px := rfl
@[simp] theorem State.passTurn_oa (a : Nat) : (s.passTurn a).oa = s.oa := rfl
@[simp] theorem State.passTurn_rails (a : Nat) : (s.passTurn a).rails = s.rails := rfl
@[simp] theorem State.passTurn_et (a : Nat) : (s.passTurn a).et = s.et := rfl
@[simp] theorem State.passTurn_us (a : Nat) : (s.passTurn a).us = s.us := rfl
@[simp] theorem State.passTurn_wd (a : Nat) : (s.passTurn a).wd = s.wd := rfl
@[simp] theorem State.passTurn_tc (a : Nat) : (s.passTurn a).tc = s.tc := rfl
@[simp] theorem State.passTurn_ef (a : Nat) : (s.passTurn a).ef = s.ef := rfl
@[simp] theorem State.get_passTurn (a : Nat) (g : FRef) : (s.passTurn a).get g = s.get g := rfl
@[simp] theorem State.agent_passTurn (a b : Nat) : (s.passTurn a).agent b = s.agent b := rfl

@[simp] theorem State.put_pending (f : FRef) (v : Nat) : (s.put f v).pending = s.pending := rfl
@[simp] theorem State.put_out (f : FRef) (v : Nat) : (s.put f v).out = s.out := rfl
@[simp] theorem State.put_free (f : FRef) (v : Nat) : (s.put f v).free = s.free := rfl
@[simp] theorem State.put_clock (f : FRef) (v : Nat) : (s.put f v).clock = s.clock := rfl
@[simp] theorem State.put_router (f : FRef) (v : Nat) : (s.put f v).router = s.router := rfl
@[simp] theorem State.put_img (f : FRef) (v : Nat) : (s.put f v).img = s.img := rfl
@[simp] theorem State.put_mgmt (f : FRef) (v : Nat) : (s.put f v).mgmt = s.mgmt := rfl
@[simp] theorem State.put_arb (f : FRef) (v : Nat) : (s.put f v).arb = s.arb := rfl
@[simp] theorem State.put_spiQ (f : FRef) (v : Nat) : (s.put f v).spiQ = s.spiQ := rfl
@[simp] theorem State.put_usbQ (f : FRef) (v : Nat) : (s.put f v).usbQ = s.usbQ := rfl
@[simp] theorem State.put_logs (f : FRef) (v : Nat) : (s.put f v).logs = s.logs := rfl
@[simp] theorem State.put_own (f : FRef) (v : Nat) : (s.put f v).own = s.own := rfl
@[simp] theorem State.put_pwr (f : FRef) (v : Nat) : (s.put f v).pwr = s.pwr := rfl
@[simp] theorem State.put_links (f : FRef) (v : Nat) : (s.put f v).links = s.links := rfl
@[simp] theorem State.put_mainLost (f : FRef) (v : Nat) : (s.put f v).mainLost = s.mainLost := rfl
@[simp] theorem State.put_eyes (f : FRef) (v : Nat) : (s.put f v).eyes = s.eyes := rfl
@[simp] theorem State.put_bc (f : FRef) (v : Nat) : (s.put f v).bc = s.bc := rfl
@[simp] theorem State.put_sr (f : FRef) (v : Nat) : (s.put f v).sr = s.sr := rfl
@[simp] theorem State.put_pl (f : FRef) (v : Nat) : (s.put f v).pl = s.pl := rfl
@[simp] theorem State.put_px (f : FRef) (v : Nat) : (s.put f v).px = s.px := rfl
@[simp] theorem State.put_oa (f : FRef) (v : Nat) : (s.put f v).oa = s.oa := rfl
@[simp] theorem State.put_rails (f : FRef) (v : Nat) : (s.put f v).rails = s.rails := rfl
@[simp] theorem State.put_et (f : FRef) (v : Nat) : (s.put f v).et = s.et := rfl
@[simp] theorem State.put_us (f : FRef) (v : Nat) : (s.put f v).us = s.us := rfl
@[simp] theorem State.put_wd (f : FRef) (v : Nat) : (s.put f v).wd = s.wd := rfl
@[simp] theorem State.put_tc (f : FRef) (v : Nat) : (s.put f v).tc = s.tc := rfl
@[simp] theorem State.put_ef (f : FRef) (v : Nat) : (s.put f v).ef = s.ef := rfl

@[simp] theorem State.bump_pending (f : FRef) (n : Nat) : (s.bump f n).pending = s.pending := rfl
@[simp] theorem State.bump_out (f : FRef) (n : Nat) : (s.bump f n).out = s.out := rfl
@[simp] theorem State.bump_free (f : FRef) (n : Nat) : (s.bump f n).free = s.free := rfl
@[simp] theorem State.bump_clock (f : FRef) (n : Nat) : (s.bump f n).clock = s.clock := rfl
@[simp] theorem State.bump_router (f : FRef) (n : Nat) : (s.bump f n).router = s.router := rfl
@[simp] theorem State.bump_img (f : FRef) (n : Nat) : (s.bump f n).img = s.img := rfl
@[simp] theorem State.bump_mgmt (f : FRef) (n : Nat) : (s.bump f n).mgmt = s.mgmt := rfl
@[simp] theorem State.bump_arb (f : FRef) (n : Nat) : (s.bump f n).arb = s.arb := rfl
@[simp] theorem State.bump_spiQ (f : FRef) (n : Nat) : (s.bump f n).spiQ = s.spiQ := rfl
@[simp] theorem State.bump_usbQ (f : FRef) (n : Nat) : (s.bump f n).usbQ = s.usbQ := rfl
@[simp] theorem State.bump_logs (f : FRef) (n : Nat) : (s.bump f n).logs = s.logs := rfl
@[simp] theorem State.bump_own (f : FRef) (n : Nat) : (s.bump f n).own = s.own := rfl
@[simp] theorem State.bump_pwr (f : FRef) (n : Nat) : (s.bump f n).pwr = s.pwr := rfl
@[simp] theorem State.bump_links (f : FRef) (n : Nat) : (s.bump f n).links = s.links := rfl
@[simp] theorem State.bump_mainLost (f : FRef) (n : Nat) : (s.bump f n).mainLost = s.mainLost := rfl
@[simp] theorem State.bump_eyes (f : FRef) (n : Nat) : (s.bump f n).eyes = s.eyes := rfl
@[simp] theorem State.bump_bc (f : FRef) (n : Nat) : (s.bump f n).bc = s.bc := rfl
@[simp] theorem State.bump_sr (f : FRef) (n : Nat) : (s.bump f n).sr = s.sr := rfl
@[simp] theorem State.bump_pl (f : FRef) (n : Nat) : (s.bump f n).pl = s.pl := rfl
@[simp] theorem State.bump_px (f : FRef) (n : Nat) : (s.bump f n).px = s.px := rfl
@[simp] theorem State.bump_oa (f : FRef) (n : Nat) : (s.bump f n).oa = s.oa := rfl
@[simp] theorem State.bump_rails (f : FRef) (n : Nat) : (s.bump f n).rails = s.rails := rfl
@[simp] theorem State.bump_et (f : FRef) (n : Nat) : (s.bump f n).et = s.et := rfl
@[simp] theorem State.bump_us (f : FRef) (n : Nat) : (s.bump f n).us = s.us := rfl
@[simp] theorem State.bump_wd (f : FRef) (n : Nat) : (s.bump f n).wd = s.wd := rfl
@[simp] theorem State.bump_tc (f : FRef) (n : Nat) : (s.bump f n).tc = s.tc := rfl
@[simp] theorem State.bump_ef (f : FRef) (n : Nat) : (s.bump f n).ef = s.ef := rfl

@[simp] theorem State.setBit_pending (f : FRef) (i : Nat) : (s.setBit f i).pending = s.pending := rfl
@[simp] theorem State.setBit_out (f : FRef) (i : Nat) : (s.setBit f i).out = s.out := rfl
@[simp] theorem State.setBit_free (f : FRef) (i : Nat) : (s.setBit f i).free = s.free := rfl
@[simp] theorem State.setBit_clock (f : FRef) (i : Nat) : (s.setBit f i).clock = s.clock := rfl
@[simp] theorem State.setBit_router (f : FRef) (i : Nat) : (s.setBit f i).router = s.router := rfl
@[simp] theorem State.setBit_img (f : FRef) (i : Nat) : (s.setBit f i).img = s.img := rfl
@[simp] theorem State.setBit_mgmt (f : FRef) (i : Nat) : (s.setBit f i).mgmt = s.mgmt := rfl
@[simp] theorem State.setBit_arb (f : FRef) (i : Nat) : (s.setBit f i).arb = s.arb := rfl
@[simp] theorem State.setBit_spiQ (f : FRef) (i : Nat) : (s.setBit f i).spiQ = s.spiQ := rfl
@[simp] theorem State.setBit_usbQ (f : FRef) (i : Nat) : (s.setBit f i).usbQ = s.usbQ := rfl
@[simp] theorem State.setBit_logs (f : FRef) (i : Nat) : (s.setBit f i).logs = s.logs := rfl
@[simp] theorem State.setBit_own (f : FRef) (i : Nat) : (s.setBit f i).own = s.own := rfl
@[simp] theorem State.setBit_pwr (f : FRef) (i : Nat) : (s.setBit f i).pwr = s.pwr := rfl
@[simp] theorem State.setBit_links (f : FRef) (i : Nat) : (s.setBit f i).links = s.links := rfl
@[simp] theorem State.setBit_mainLost (f : FRef) (i : Nat) : (s.setBit f i).mainLost = s.mainLost := rfl
@[simp] theorem State.setBit_eyes (f : FRef) (i : Nat) : (s.setBit f i).eyes = s.eyes := rfl
@[simp] theorem State.setBit_bc (f : FRef) (i : Nat) : (s.setBit f i).bc = s.bc := rfl
@[simp] theorem State.setBit_sr (f : FRef) (i : Nat) : (s.setBit f i).sr = s.sr := rfl
@[simp] theorem State.setBit_pl (f : FRef) (i : Nat) : (s.setBit f i).pl = s.pl := rfl
@[simp] theorem State.setBit_px (f : FRef) (i : Nat) : (s.setBit f i).px = s.px := rfl
@[simp] theorem State.setBit_oa (f : FRef) (i : Nat) : (s.setBit f i).oa = s.oa := rfl
@[simp] theorem State.setBit_rails (f : FRef) (i : Nat) : (s.setBit f i).rails = s.rails := rfl
@[simp] theorem State.setBit_et (f : FRef) (i : Nat) : (s.setBit f i).et = s.et := rfl
@[simp] theorem State.setBit_us (f : FRef) (i : Nat) : (s.setBit f i).us = s.us := rfl
@[simp] theorem State.setBit_wd (f : FRef) (i : Nat) : (s.setBit f i).wd = s.wd := rfl
@[simp] theorem State.setBit_tc (f : FRef) (i : Nat) : (s.setBit f i).tc = s.tc := rfl
@[simp] theorem State.setBit_ef (f : FRef) (i : Nat) : (s.setBit f i).ef = s.ef := rfl

@[simp] theorem State.clrBit_pending (f : FRef) (i : Nat) : (s.clrBit f i).pending = s.pending := rfl
@[simp] theorem State.clrBit_out (f : FRef) (i : Nat) : (s.clrBit f i).out = s.out := rfl
@[simp] theorem State.clrBit_free (f : FRef) (i : Nat) : (s.clrBit f i).free = s.free := rfl
@[simp] theorem State.clrBit_clock (f : FRef) (i : Nat) : (s.clrBit f i).clock = s.clock := rfl
@[simp] theorem State.clrBit_router (f : FRef) (i : Nat) : (s.clrBit f i).router = s.router := rfl
@[simp] theorem State.clrBit_img (f : FRef) (i : Nat) : (s.clrBit f i).img = s.img := rfl
@[simp] theorem State.clrBit_mgmt (f : FRef) (i : Nat) : (s.clrBit f i).mgmt = s.mgmt := rfl
@[simp] theorem State.clrBit_arb (f : FRef) (i : Nat) : (s.clrBit f i).arb = s.arb := rfl
@[simp] theorem State.clrBit_spiQ (f : FRef) (i : Nat) : (s.clrBit f i).spiQ = s.spiQ := rfl
@[simp] theorem State.clrBit_usbQ (f : FRef) (i : Nat) : (s.clrBit f i).usbQ = s.usbQ := rfl
@[simp] theorem State.clrBit_logs (f : FRef) (i : Nat) : (s.clrBit f i).logs = s.logs := rfl
@[simp] theorem State.clrBit_own (f : FRef) (i : Nat) : (s.clrBit f i).own = s.own := rfl
@[simp] theorem State.clrBit_pwr (f : FRef) (i : Nat) : (s.clrBit f i).pwr = s.pwr := rfl
@[simp] theorem State.clrBit_links (f : FRef) (i : Nat) : (s.clrBit f i).links = s.links := rfl
@[simp] theorem State.clrBit_mainLost (f : FRef) (i : Nat) : (s.clrBit f i).mainLost = s.mainLost := rfl
@[simp] theorem State.clrBit_eyes (f : FRef) (i : Nat) : (s.clrBit f i).eyes = s.eyes := rfl
@[simp] theorem State.clrBit_bc (f : FRef) (i : Nat) : (s.clrBit f i).bc = s.bc := rfl
@[simp] theorem State.clrBit_sr (f : FRef) (i : Nat) : (s.clrBit f i).sr = s.sr := rfl
@[simp] theorem State.clrBit_pl (f : FRef) (i : Nat) : (s.clrBit f i).pl = s.pl := rfl
@[simp] theorem State.clrBit_px (f : FRef) (i : Nat) : (s.clrBit f i).px = s.px := rfl
@[simp] theorem State.clrBit_oa (f : FRef) (i : Nat) : (s.clrBit f i).oa = s.oa := rfl
@[simp] theorem State.clrBit_rails (f : FRef) (i : Nat) : (s.clrBit f i).rails = s.rails := rfl
@[simp] theorem State.clrBit_et (f : FRef) (i : Nat) : (s.clrBit f i).et = s.et := rfl
@[simp] theorem State.clrBit_us (f : FRef) (i : Nat) : (s.clrBit f i).us = s.us := rfl
@[simp] theorem State.clrBit_wd (f : FRef) (i : Nat) : (s.clrBit f i).wd = s.wd := rfl
@[simp] theorem State.clrBit_tc (f : FRef) (i : Nat) : (s.clrBit f i).tc = s.tc := rfl
@[simp] theorem State.clrBit_ef (f : FRef) (i : Nat) : (s.clrBit f i).ef = s.ef := rfl

@[simp] theorem State.modAgent_pending (a : Nat) (f : MgmtAgent → MgmtAgent) : (s.modAgent a f).pending = s.pending := rfl
@[simp] theorem State.modAgent_out (a : Nat) (f : MgmtAgent → MgmtAgent) : (s.modAgent a f).out = s.out := rfl
@[simp] theorem State.modAgent_free (a : Nat) (f : MgmtAgent → MgmtAgent) : (s.modAgent a f).free = s.free := rfl
@[simp] theorem State.modAgent_regs (a : Nat) (f : MgmtAgent → MgmtAgent) : (s.modAgent a f).regs = s.regs := rfl
@[simp] theorem State.modAgent_clock (a : Nat) (f : MgmtAgent → MgmtAgent) : (s.modAgent a f).clock = s.clock := rfl
@[simp] theorem State.modAgent_router (a : Nat) (f : MgmtAgent → MgmtAgent) : (s.modAgent a f).router = s.router := rfl
@[simp] theorem State.modAgent_img (a : Nat) (f : MgmtAgent → MgmtAgent) : (s.modAgent a f).img = s.img := rfl
@[simp] theorem State.modAgent_arb (a : Nat) (f : MgmtAgent → MgmtAgent) : (s.modAgent a f).arb = s.arb := rfl
@[simp] theorem State.modAgent_spiQ (a : Nat) (f : MgmtAgent → MgmtAgent) : (s.modAgent a f).spiQ = s.spiQ := rfl
@[simp] theorem State.modAgent_usbQ (a : Nat) (f : MgmtAgent → MgmtAgent) : (s.modAgent a f).usbQ = s.usbQ := rfl
@[simp] theorem State.modAgent_logs (a : Nat) (f : MgmtAgent → MgmtAgent) : (s.modAgent a f).logs = s.logs := rfl
@[simp] theorem State.modAgent_own (a : Nat) (f : MgmtAgent → MgmtAgent) : (s.modAgent a f).own = s.own := rfl
@[simp] theorem State.modAgent_pwr (a : Nat) (f : MgmtAgent → MgmtAgent) : (s.modAgent a f).pwr = s.pwr := rfl
@[simp] theorem State.modAgent_links (a : Nat) (f : MgmtAgent → MgmtAgent) : (s.modAgent a f).links = s.links := rfl
@[simp] theorem State.modAgent_mainLost (a : Nat) (f : MgmtAgent → MgmtAgent) : (s.modAgent a f).mainLost = s.mainLost := rfl
@[simp] theorem State.modAgent_eyes (a : Nat) (f : MgmtAgent → MgmtAgent) : (s.modAgent a f).eyes = s.eyes := rfl
@[simp] theorem State.modAgent_bc (a : Nat) (f : MgmtAgent → MgmtAgent) : (s.modAgent a f).bc = s.bc := rfl
@[simp] theorem State.modAgent_sr (a : Nat) (f : MgmtAgent → MgmtAgent) : (s.modAgent a f).sr = s.sr := rfl
@[simp] theorem State.modAgent_pl (a : Nat) (f : MgmtAgent → MgmtAgent) : (s.modAgent a f).pl = s.pl := rfl
@[simp] theorem State.modAgent_px (a : Nat) (f : MgmtAgent → MgmtAgent) : (s.modAgent a f).px = s.px := rfl
@[simp] theorem State.modAgent_oa (a : Nat) (f : MgmtAgent → MgmtAgent) : (s.modAgent a f).oa = s.oa := rfl
@[simp] theorem State.modAgent_rails (a : Nat) (f : MgmtAgent → MgmtAgent) : (s.modAgent a f).rails = s.rails := rfl
@[simp] theorem State.modAgent_et (a : Nat) (f : MgmtAgent → MgmtAgent) : (s.modAgent a f).et = s.et := rfl
@[simp] theorem State.modAgent_us (a : Nat) (f : MgmtAgent → MgmtAgent) : (s.modAgent a f).us = s.us := rfl
@[simp] theorem State.modAgent_wd (a : Nat) (f : MgmtAgent → MgmtAgent) : (s.modAgent a f).wd = s.wd := rfl
@[simp] theorem State.modAgent_tc (a : Nat) (f : MgmtAgent → MgmtAgent) : (s.modAgent a f).tc = s.tc := rfl
@[simp] theorem State.modAgent_ef (a : Nat) (f : MgmtAgent → MgmtAgent) : (s.modAgent a f).ef = s.ef := rfl

@[simp] theorem State.modLink_pending (h : Nat) (f : Link → Link) : (s.modLink h f).pending = s.pending := rfl
@[simp] theorem State.modLink_out (h : Nat) (f : Link → Link) : (s.modLink h f).out = s.out := rfl
@[simp] theorem State.modLink_free (h : Nat) (f : Link → Link) : (s.modLink h f).free = s.free := rfl
@[simp] theorem State.modLink_regs (h : Nat) (f : Link → Link) : (s.modLink h f).regs = s.regs := rfl
@[simp] theorem State.modLink_clock (h : Nat) (f : Link → Link) : (s.modLink h f).clock = s.clock := rfl
@[simp] theorem State.modLink_router (h : Nat) (f : Link → Link) : (s.modLink h f).router = s.router := rfl
@[simp] theorem State.modLink_img (h : Nat) (f : Link → Link) : (s.modLink h f).img = s.img := rfl
@[simp] theorem State.modLink_mgmt (h : Nat) (f : Link → Link) : (s.modLink h f).mgmt = s.mgmt := rfl
@[simp] theorem State.modLink_arb (h : Nat) (f : Link → Link) : (s.modLink h f).arb = s.arb := rfl
@[simp] theorem State.modLink_spiQ (h : Nat) (f : Link → Link) : (s.modLink h f).spiQ = s.spiQ := rfl
@[simp] theorem State.modLink_usbQ (h : Nat) (f : Link → Link) : (s.modLink h f).usbQ = s.usbQ := rfl
@[simp] theorem State.modLink_logs (h : Nat) (f : Link → Link) : (s.modLink h f).logs = s.logs := rfl
@[simp] theorem State.modLink_own (h : Nat) (f : Link → Link) : (s.modLink h f).own = s.own := rfl
@[simp] theorem State.modLink_pwr (h : Nat) (f : Link → Link) : (s.modLink h f).pwr = s.pwr := rfl
@[simp] theorem State.modLink_mainLost (h : Nat) (f : Link → Link) : (s.modLink h f).mainLost = s.mainLost := rfl
@[simp] theorem State.modLink_eyes (h : Nat) (f : Link → Link) : (s.modLink h f).eyes = s.eyes := rfl
@[simp] theorem State.modLink_bc (h : Nat) (f : Link → Link) : (s.modLink h f).bc = s.bc := rfl
@[simp] theorem State.modLink_sr (h : Nat) (f : Link → Link) : (s.modLink h f).sr = s.sr := rfl
@[simp] theorem State.modLink_pl (h : Nat) (f : Link → Link) : (s.modLink h f).pl = s.pl := rfl
@[simp] theorem State.modLink_px (h : Nat) (f : Link → Link) : (s.modLink h f).px = s.px := rfl
@[simp] theorem State.modLink_oa (h : Nat) (f : Link → Link) : (s.modLink h f).oa = s.oa := rfl
@[simp] theorem State.modLink_rails (h : Nat) (f : Link → Link) : (s.modLink h f).rails = s.rails := rfl
@[simp] theorem State.modLink_et (h : Nat) (f : Link → Link) : (s.modLink h f).et = s.et := rfl
@[simp] theorem State.modLink_us (h : Nat) (f : Link → Link) : (s.modLink h f).us = s.us := rfl
@[simp] theorem State.modLink_wd (h : Nat) (f : Link → Link) : (s.modLink h f).wd = s.wd := rfl
@[simp] theorem State.modLink_tc (h : Nat) (f : Link → Link) : (s.modLink h f).tc = s.tc := rfl
@[simp] theorem State.modLink_ef (h : Nat) (f : Link → Link) : (s.modLink h f).ef = s.ef := rfl

@[simp] theorem State.modQueue_pending (q : Nat) (f : BQueue → BQueue) : (s.modQueue q f).pending = s.pending := rfl
@[simp] theorem State.modQueue_out (q : Nat) (f : BQueue → BQueue) : (s.modQueue q f).out = s.out := rfl
@[simp] theorem State.modQueue_free (q : Nat) (f : BQueue → BQueue) : (s.modQueue q f).free = s.free := rfl
@[simp] theorem State.modQueue_regs (q : Nat) (f : BQueue → BQueue) : (s.modQueue q f).regs = s.regs := rfl
@[simp] theorem State.modQueue_clock (q : Nat) (f : BQueue → BQueue) : (s.modQueue q f).clock = s.clock := rfl
@[simp] theorem State.modQueue_router (q : Nat) (f : BQueue → BQueue) : (s.modQueue q f).router = s.router := rfl
@[simp] theorem State.modQueue_img (q : Nat) (f : BQueue → BQueue) : (s.modQueue q f).img = s.img := rfl
@[simp] theorem State.modQueue_mgmt (q : Nat) (f : BQueue → BQueue) : (s.modQueue q f).mgmt = s.mgmt := rfl
@[simp] theorem State.modQueue_arb (q : Nat) (f : BQueue → BQueue) : (s.modQueue q f).arb = s.arb := rfl
@[simp] theorem State.modQueue_spiQ (q : Nat) (f : BQueue → BQueue) : (s.modQueue q f).spiQ = s.spiQ := rfl
@[simp] theorem State.modQueue_usbQ (q : Nat) (f : BQueue → BQueue) : (s.modQueue q f).usbQ = s.usbQ := rfl
@[simp] theorem State.modQueue_logs (q : Nat) (f : BQueue → BQueue) : (s.modQueue q f).logs = s.logs := rfl
@[simp] theorem State.modQueue_own (q : Nat) (f : BQueue → BQueue) : (s.modQueue q f).own = s.own := rfl
@[simp] theorem State.modQueue_pwr (q : Nat) (f : BQueue → BQueue) : (s.modQueue q f).pwr = s.pwr := rfl
@[simp] theorem State.modQueue_links (q : Nat) (f : BQueue → BQueue) : (s.modQueue q f).links = s.links := rfl
@[simp] theorem State.modQueue_mainLost (q : Nat) (f : BQueue → BQueue) : (s.modQueue q f).mainLost = s.mainLost := rfl
@[simp] theorem State.modQueue_eyes (q : Nat) (f : BQueue → BQueue) : (s.modQueue q f).eyes = s.eyes := rfl
@[simp] theorem State.modQueue_sr (q : Nat) (f : BQueue → BQueue) : (s.modQueue q f).sr = s.sr := rfl
@[simp] theorem State.modQueue_pl (q : Nat) (f : BQueue → BQueue) : (s.modQueue q f).pl = s.pl := rfl
@[simp] theorem State.modQueue_px (q : Nat) (f : BQueue → BQueue) : (s.modQueue q f).px = s.px := rfl
@[simp] theorem State.modQueue_oa (q : Nat) (f : BQueue → BQueue) : (s.modQueue q f).oa = s.oa := rfl
@[simp] theorem State.modQueue_rails (q : Nat) (f : BQueue → BQueue) : (s.modQueue q f).rails = s.rails := rfl
@[simp] theorem State.modQueue_et (q : Nat) (f : BQueue → BQueue) : (s.modQueue q f).et = s.et := rfl
@[simp] theorem State.modQueue_us (q : Nat) (f : BQueue → BQueue) : (s.modQueue q f).us = s.us := rfl
@[simp] theorem State.modQueue_wd (q : Nat) (f : BQueue → BQueue) : (s.modQueue q f).wd = s.wd := rfl
@[simp] theorem State.modQueue_tc (q : Nat) (f : BQueue → BQueue) : (s.modQueue q f).tc = s.tc := rfl
@[simp] theorem State.modQueue_ef (q : Nat) (f : BQueue → BQueue) : (s.modQueue q f).ef = s.ef := rfl

@[simp] theorem State.modImg_pending (f : ImgState → ImgState) : (s.modImg f).pending = s.pending := rfl
@[simp] theorem State.modImg_out (f : ImgState → ImgState) : (s.modImg f).out = s.out := rfl
@[simp] theorem State.modImg_free (f : ImgState → ImgState) : (s.modImg f).free = s.free := rfl
@[simp] theorem State.modImg_regs (f : ImgState → ImgState) : (s.modImg f).regs = s.regs := rfl
@[simp] theorem State.modImg_clock (f : ImgState → ImgState) : (s.modImg f).clock = s.clock := rfl
@[simp] theorem State.modImg_router (f : ImgState → ImgState) : (s.modImg f).router = s.router := rfl
@[simp] theorem State.modImg_mgmt (f : ImgState → ImgState) : (s.modImg f).mgmt = s.mgmt := rfl
@[simp] theorem State.modImg_arb (f : ImgState → ImgState) : (s.modImg f).arb = s.arb := rfl
@[simp] theorem State.modImg_spiQ (f : ImgState → ImgState) : (s.modImg f).spiQ = s.spiQ := rfl
@[simp] theorem State.modImg_usbQ (f : ImgState → ImgState) : (s.modImg f).usbQ = s.usbQ := rfl
@[simp] theorem State.modImg_logs (f : ImgState → ImgState) : (s.modImg f).logs = s.logs := rfl
@[simp] theorem State.modImg_own (f : ImgState → ImgState) : (s.modImg f).own = s.own := rfl
@[simp] theorem State.modImg_pwr (f : ImgState → ImgState) : (s.modImg f).pwr = s.pwr := rfl
@[simp] theorem State.modImg_links (f : ImgState → ImgState) : (s.modImg f).links = s.links := rfl
@[simp] theorem State.modImg_mainLost (f : ImgState → ImgState) : (s.modImg f).mainLost = s.mainLost := rfl
@[simp] theorem State.modImg_eyes (f : ImgState → ImgState) : (s.modImg f).eyes = s.eyes := rfl
@[simp] theorem State.modImg_bc (f : ImgState → ImgState) : (s.modImg f).bc = s.bc := rfl
@[simp] theorem State.modImg_sr (f : ImgState → ImgState) : (s.modImg f).sr = s.sr := rfl
@[simp] theorem State.modImg_pl (f : ImgState → ImgState) : (s.modImg f).pl = s.pl := rfl
@[simp] theorem State.modImg_px (f : ImgState → ImgState) : (s.modImg f).px = s.px := rfl
@[simp] theorem State.modImg_oa (f : ImgState → ImgState) : (s.modImg f).oa = s.oa := rfl
@[simp] theorem State.modImg_rails (f : ImgState → ImgState) : (s.modImg f).rails = s.rails := rfl
@[simp] theorem State.modImg_et (f : ImgState → ImgState) : (s.modImg f).et = s.et := rfl
@[simp] theorem State.modImg_us (f : ImgState → ImgState) : (s.modImg f).us = s.us := rfl
@[simp] theorem State.modImg_wd (f : ImgState → ImgState) : (s.modImg f).wd = s.wd := rfl
@[simp] theorem State.modImg_tc (f : ImgState → ImgState) : (s.modImg f).tc = s.tc := rfl
@[simp] theorem State.modImg_ef (f : ImgState → ImgState) : (s.modImg f).ef = s.ef := rfl

@[simp] theorem State.modOwn_pending (f : OwnState → OwnState) : (s.modOwn f).pending = s.pending := rfl
@[simp] theorem State.modOwn_out (f : OwnState → OwnState) : (s.modOwn f).out = s.out := rfl
@[simp] theorem State.modOwn_free (f : OwnState → OwnState) : (s.modOwn f).free = s.free := rfl
@[simp] theorem State.modOwn_regs (f : OwnState → OwnState) : (s.modOwn f).regs = s.regs := rfl
@[simp] theorem State.modOwn_clock (f : OwnState → OwnState) : (s.modOwn f).clock = s.clock := rfl
@[simp] theorem State.modOwn_router (f : OwnState → OwnState) : (s.modOwn f).router = s.router := rfl
@[simp] theorem State.modOwn_img (f : OwnState → OwnState) : (s.modOwn f).img = s.img := rfl
@[simp] theorem State.modOwn_mgmt (f : OwnState → OwnState) : (s.modOwn f).mgmt = s.mgmt := rfl
@[simp] theorem State.modOwn_arb (f : OwnState → OwnState) : (s.modOwn f).arb = s.arb := rfl
@[simp] theorem State.modOwn_spiQ (f : OwnState → OwnState) : (s.modOwn f).spiQ = s.spiQ := rfl
@[simp] theorem State.modOwn_usbQ (f : OwnState → OwnState) : (s.modOwn f).usbQ = s.usbQ := rfl
@[simp] theorem State.modOwn_logs (f : OwnState → OwnState) : (s.modOwn f).logs = s.logs := rfl
@[simp] theorem State.modOwn_pwr (f : OwnState → OwnState) : (s.modOwn f).pwr = s.pwr := rfl
@[simp] theorem State.modOwn_links (f : OwnState → OwnState) : (s.modOwn f).links = s.links := rfl
@[simp] theorem State.modOwn_mainLost (f : OwnState → OwnState) : (s.modOwn f).mainLost = s.mainLost := rfl
@[simp] theorem State.modOwn_eyes (f : OwnState → OwnState) : (s.modOwn f).eyes = s.eyes := rfl
@[simp] theorem State.modOwn_bc (f : OwnState → OwnState) : (s.modOwn f).bc = s.bc := rfl
@[simp] theorem State.modOwn_sr (f : OwnState → OwnState) : (s.modOwn f).sr = s.sr := rfl
@[simp] theorem State.modOwn_pl (f : OwnState → OwnState) : (s.modOwn f).pl = s.pl := rfl
@[simp] theorem State.modOwn_px (f : OwnState → OwnState) : (s.modOwn f).px = s.px := rfl
@[simp] theorem State.modOwn_oa (f : OwnState → OwnState) : (s.modOwn f).oa = s.oa := rfl
@[simp] theorem State.modOwn_rails (f : OwnState → OwnState) : (s.modOwn f).rails = s.rails := rfl
@[simp] theorem State.modOwn_et (f : OwnState → OwnState) : (s.modOwn f).et = s.et := rfl
@[simp] theorem State.modOwn_us (f : OwnState → OwnState) : (s.modOwn f).us = s.us := rfl
@[simp] theorem State.modOwn_wd (f : OwnState → OwnState) : (s.modOwn f).wd = s.wd := rfl
@[simp] theorem State.modOwn_tc (f : OwnState → OwnState) : (s.modOwn f).tc = s.tc := rfl
@[simp] theorem State.modOwn_ef (f : OwnState → OwnState) : (s.modOwn f).ef = s.ef := rfl

@[simp] theorem State.modClock_pending (f : Clock → Clock) : (s.modClock f).pending = s.pending := rfl
@[simp] theorem State.modClock_out (f : Clock → Clock) : (s.modClock f).out = s.out := rfl
@[simp] theorem State.modClock_free (f : Clock → Clock) : (s.modClock f).free = s.free := rfl
@[simp] theorem State.modClock_regs (f : Clock → Clock) : (s.modClock f).regs = s.regs := rfl
@[simp] theorem State.modClock_router (f : Clock → Clock) : (s.modClock f).router = s.router := rfl
@[simp] theorem State.modClock_img (f : Clock → Clock) : (s.modClock f).img = s.img := rfl
@[simp] theorem State.modClock_mgmt (f : Clock → Clock) : (s.modClock f).mgmt = s.mgmt := rfl
@[simp] theorem State.modClock_arb (f : Clock → Clock) : (s.modClock f).arb = s.arb := rfl
@[simp] theorem State.modClock_spiQ (f : Clock → Clock) : (s.modClock f).spiQ = s.spiQ := rfl
@[simp] theorem State.modClock_usbQ (f : Clock → Clock) : (s.modClock f).usbQ = s.usbQ := rfl
@[simp] theorem State.modClock_logs (f : Clock → Clock) : (s.modClock f).logs = s.logs := rfl
@[simp] theorem State.modClock_own (f : Clock → Clock) : (s.modClock f).own = s.own := rfl
@[simp] theorem State.modClock_pwr (f : Clock → Clock) : (s.modClock f).pwr = s.pwr := rfl
@[simp] theorem State.modClock_links (f : Clock → Clock) : (s.modClock f).links = s.links := rfl
@[simp] theorem State.modClock_mainLost (f : Clock → Clock) : (s.modClock f).mainLost = s.mainLost := rfl
@[simp] theorem State.modClock_eyes (f : Clock → Clock) : (s.modClock f).eyes = s.eyes := rfl
@[simp] theorem State.modClock_bc (f : Clock → Clock) : (s.modClock f).bc = s.bc := rfl
@[simp] theorem State.modClock_sr (f : Clock → Clock) : (s.modClock f).sr = s.sr := rfl
@[simp] theorem State.modClock_pl (f : Clock → Clock) : (s.modClock f).pl = s.pl := rfl
@[simp] theorem State.modClock_px (f : Clock → Clock) : (s.modClock f).px = s.px := rfl
@[simp] theorem State.modClock_oa (f : Clock → Clock) : (s.modClock f).oa = s.oa := rfl
@[simp] theorem State.modClock_rails (f : Clock → Clock) : (s.modClock f).rails = s.rails := rfl
@[simp] theorem State.modClock_et (f : Clock → Clock) : (s.modClock f).et = s.et := rfl
@[simp] theorem State.modClock_us (f : Clock → Clock) : (s.modClock f).us = s.us := rfl
@[simp] theorem State.modClock_wd (f : Clock → Clock) : (s.modClock f).wd = s.wd := rfl
@[simp] theorem State.modClock_tc (f : Clock → Clock) : (s.modClock f).tc = s.tc := rfl
@[simp] theorem State.modClock_ef (f : Clock → Clock) : (s.modClock f).ef = s.ef := rfl

@[simp] theorem State.emit_pending (e : Emit) : (s.emit e).pending = s.pending := rfl
@[simp] theorem State.emit_free (e : Emit) : (s.emit e).free = s.free := rfl
@[simp] theorem State.emit_regs (e : Emit) : (s.emit e).regs = s.regs := rfl
@[simp] theorem State.emit_clock (e : Emit) : (s.emit e).clock = s.clock := rfl
@[simp] theorem State.emit_router (e : Emit) : (s.emit e).router = s.router := rfl
@[simp] theorem State.emit_img (e : Emit) : (s.emit e).img = s.img := rfl
@[simp] theorem State.emit_mgmt (e : Emit) : (s.emit e).mgmt = s.mgmt := rfl
@[simp] theorem State.emit_arb (e : Emit) : (s.emit e).arb = s.arb := rfl
@[simp] theorem State.emit_spiQ (e : Emit) : (s.emit e).spiQ = s.spiQ := rfl
@[simp] theorem State.emit_usbQ (e : Emit) : (s.emit e).usbQ = s.usbQ := rfl
@[simp] theorem State.emit_logs (e : Emit) : (s.emit e).logs = s.logs := rfl
@[simp] theorem State.emit_own (e : Emit) : (s.emit e).own = s.own := rfl
@[simp] theorem State.emit_pwr (e : Emit) : (s.emit e).pwr = s.pwr := rfl
@[simp] theorem State.emit_links (e : Emit) : (s.emit e).links = s.links := rfl
@[simp] theorem State.emit_mainLost (e : Emit) : (s.emit e).mainLost = s.mainLost := rfl
@[simp] theorem State.emit_eyes (e : Emit) : (s.emit e).eyes = s.eyes := rfl
@[simp] theorem State.emit_bc (e : Emit) : (s.emit e).bc = s.bc := rfl
@[simp] theorem State.emit_sr (e : Emit) : (s.emit e).sr = s.sr := rfl
@[simp] theorem State.emit_pl (e : Emit) : (s.emit e).pl = s.pl := rfl
@[simp] theorem State.emit_px (e : Emit) : (s.emit e).px = s.px := rfl
@[simp] theorem State.emit_oa (e : Emit) : (s.emit e).oa = s.oa := rfl
@[simp] theorem State.emit_rails (e : Emit) : (s.emit e).rails = s.rails := rfl
@[simp] theorem State.emit_et (e : Emit) : (s.emit e).et = s.et := rfl
@[simp] theorem State.emit_us (e : Emit) : (s.emit e).us = s.us := rfl
@[simp] theorem State.emit_wd (e : Emit) : (s.emit e).wd = s.wd := rfl
@[simp] theorem State.emit_tc (e : Emit) : (s.emit e).tc = s.tc := rfl
@[simp] theorem State.emit_ef (e : Emit) : (s.emit e).ef = s.ef := rfl

@[simp] theorem State.took_pending : (s.took).pending = s.pending := rfl
@[simp] theorem State.took_out : (s.took).out = s.out := rfl
@[simp] theorem State.took_regs : (s.took).regs = s.regs := rfl
@[simp] theorem State.took_clock : (s.took).clock = s.clock := rfl
@[simp] theorem State.took_router : (s.took).router = s.router := rfl
@[simp] theorem State.took_img : (s.took).img = s.img := rfl
@[simp] theorem State.took_mgmt : (s.took).mgmt = s.mgmt := rfl
@[simp] theorem State.took_arb : (s.took).arb = s.arb := rfl
@[simp] theorem State.took_spiQ : (s.took).spiQ = s.spiQ := rfl
@[simp] theorem State.took_usbQ : (s.took).usbQ = s.usbQ := rfl
@[simp] theorem State.took_logs : (s.took).logs = s.logs := rfl
@[simp] theorem State.took_own : (s.took).own = s.own := rfl
@[simp] theorem State.took_pwr : (s.took).pwr = s.pwr := rfl
@[simp] theorem State.took_links : (s.took).links = s.links := rfl
@[simp] theorem State.took_mainLost : (s.took).mainLost = s.mainLost := rfl
@[simp] theorem State.took_eyes : (s.took).eyes = s.eyes := rfl
@[simp] theorem State.took_bc : (s.took).bc = s.bc := rfl
@[simp] theorem State.took_sr : (s.took).sr = s.sr := rfl
@[simp] theorem State.took_pl : (s.took).pl = s.pl := rfl
@[simp] theorem State.took_px : (s.took).px = s.px := rfl
@[simp] theorem State.took_oa : (s.took).oa = s.oa := rfl
@[simp] theorem State.took_rails : (s.took).rails = s.rails := rfl
@[simp] theorem State.took_et : (s.took).et = s.et := rfl
@[simp] theorem State.took_us : (s.took).us = s.us := rfl
@[simp] theorem State.took_wd : (s.took).wd = s.wd := rfl
@[simp] theorem State.took_tc : (s.took).tc = s.tc := rfl
@[simp] theorem State.took_ef : (s.took).ef = s.ef := rfl

/-- A field depends on the registers alone. -/
theorem State.get_congr {s t : State} (h : t.regs = s.regs) (f : FRef) : t.get f = s.get f := by
  unfold State.get State.reg
  rw [h]

@[simp] theorem State.get_modAgent (a : Nat) (k : MgmtAgent → MgmtAgent) (g : FRef) : (s.modAgent a k).get g = s.get g := rfl
@[simp] theorem State.get_modLink (h : Nat) (k : Link → Link) (g : FRef) : (s.modLink h k).get g = s.get g := rfl
@[simp] theorem State.get_modQueue (q : Nat) (k : BQueue → BQueue) (g : FRef) : (s.modQueue q k).get g = s.get g := rfl
@[simp] theorem State.get_modImg (k : ImgState → ImgState) (g : FRef) : (s.modImg k).get g = s.get g := rfl
@[simp] theorem State.get_modOwn (k : OwnState → OwnState) (g : FRef) : (s.modOwn k).get g = s.get g := rfl
@[simp] theorem State.get_modClock (k : Clock → Clock) (g : FRef) : (s.modClock k).get g = s.get g := rfl
@[simp] theorem State.get_emit (e : Emit) (g : FRef) : (s.emit e).get g = s.get g := rfl
@[simp] theorem State.get_took (g : FRef) : (s.took).get g = s.get g := rfl

/-! ### Registers -/

variable {s}

theorem State.reg_setReg_same (a v : Nat) (h : cellsWf 0 s.regs = true) : (s.setReg a v).reg a = v % 2 ^ 32 := by
  unfold State.reg State.setReg
  rw [cellGet_cellSet_same 0 s.regs 0 a (w32 v) h]
  exact BitVec.toNat_ofNat v 32

theorem State.reg_setReg_ne (a b v : Nat) (h : cellsWf 0 s.regs = true) (hb : b ≠ a) :
    (s.setReg a v).reg b = s.reg b := by
  unfold State.reg State.setReg
  rw [cellGet_cellSet_other 0 s.regs 0 a b (w32 v) h hb]

/-- A write of one register keeps the registers canonical. -/
theorem State.setReg_wf (a v : Nat) (h : cellsWf 0 s.regs = true) : cellsWf 0 (s.setReg a v).regs = true :=
  cellsWf_cellSet 0 s.regs a (w32 v) h

theorem State.put_wf (f : FRef) (v : Nat) (h : cellsWf 0 s.regs = true) : cellsWf 0 (s.put f v).regs = true :=
  State.setReg_wf _ _ h

theorem State.bump_wf (f : FRef) (n : Nat) (h : cellsWf 0 s.regs = true) : cellsWf 0 (s.bump f n).regs = true :=
  State.put_wf _ _ h

theorem State.reg_lt (a : Nat) : s.reg a < 2 ^ 32 := (cellGet (0 : Word) s.regs a).isLt

/-- A field holds what was last written to it. -/
theorem bitsOf_withBits_same (v l w x : Nat) : bitsOf (withBits v l w x) l w = x % 2 ^ w := by
  unfold bitsOf withBits
  have h1 : v % 2 ^ l < 2 ^ l := Nat.mod_lt _ (Nat.two_pow_pos l)
  have h2 : v % 2 ^ l + x % 2 ^ w * 2 ^ l + v / 2 ^ (l + w) * 2 ^ (l + w)
      = v % 2 ^ l + 2 ^ l * (x % 2 ^ w + 2 ^ w * (v / 2 ^ (l + w))) := by
    rw [Nat.pow_add]; ring
  rw [h2, Nat.add_mul_div_left _ _ (Nat.two_pow_pos l), Nat.div_eq_of_lt h1, Nat.zero_add, Nat.add_mul_mod_self_left,
    Nat.mod_mod]

theorem withBits_lt (v l w x n : Nat) (hv : v < 2 ^ n) (hn : l + w ≤ n) : withBits v l w x < 2 ^ n := by
  unfold withBits
  obtain ⟨k, rfl⟩ := Nat.exists_eq_add_of_le hn
  have h1 : v % 2 ^ l < 2 ^ l := Nat.mod_lt _ (Nat.two_pow_pos l)
  have h2 : x % 2 ^ w < 2 ^ w := Nat.mod_lt _ (Nat.two_pow_pos w)
  have h3 : v / 2 ^ (l + w) < 2 ^ k := Nat.div_lt_of_lt_mul (by rw [← Nat.pow_add]; exact hv)
  have h4 : v % 2 ^ l + x % 2 ^ w * 2 ^ l < 2 ^ (l + w) := by
    rw [Nat.pow_add]
    nlinarith [Nat.two_pow_pos l]
  rw [Nat.pow_add 2 (l + w) k]
  nlinarith [Nat.two_pow_pos (l + w)]

theorem State.reg_put_same (f : FRef) (v : Nat) (h : cellsWf 0 s.regs = true) (hf : f.lsb + f.width ≤ 32) :
    (s.put f v).reg f.addr = withBits (s.reg f.addr) f.lsb f.width v := by
  unfold State.put
  rw [State.reg_setReg_same _ _ h]
  exact Nat.mod_eq_of_lt (withBits_lt _ _ _ _ _ (State.reg_lt _) hf)

theorem State.reg_put_ne (f : FRef) (a v : Nat) (h : cellsWf 0 s.regs = true) (ha : a ≠ f.addr) :
    (s.put f v).reg a = s.reg a := State.reg_setReg_ne _ _ _ h ha

/-- A field reads back what was written to it. -/
theorem State.get_put_same (f : FRef) (v : Nat) (h : cellsWf 0 s.regs = true) (hf : f.lsb + f.width ≤ 32) :
    (s.put f v).get f = v % 2 ^ f.width := by
  unfold State.get
  rw [State.reg_put_same f v h hf, bitsOf_withBits_same]

/-- A field that is put twice to one value is as put once. -/
theorem State.put_put_same (f : FRef) (v : Nat) (h : cellsWf 0 s.regs = true) (hf : f.lsb + f.width ≤ 32) :
    (s.put f v).put f v = s.put f v := by
  have e : withBits ((s.put f v).reg f.addr) f.lsb f.width v = withBits (s.reg f.addr) f.lsb f.width v := by
    rw [State.reg_put_same f v h hf]
    have hb := bitsOf_withBits_same (s.reg f.addr) f.lsb f.width v
    generalize hw : withBits (s.reg f.addr) f.lsb f.width v = x at hb ⊢
    unfold withBits
    unfold bitsOf at hb
    rw [← hb, Nat.pow_add, ← Nat.div_div_eq_div_mul]
    have h1 := Nat.div_add_mod x (2 ^ f.lsb)
    have h2 := congrArg (2 ^ f.lsb * ·) (Nat.div_add_mod (x / 2 ^ f.lsb) (2 ^ f.width))
    linarith
  unfold State.put at e ⊢
  rw [e]
  unfold State.setReg
  dsimp only
  rw [cellSet_cellSet 0 s.regs 0 _ _ h]

/-- A write leaves every field of every other register as it was. -/
theorem State.get_put_ne (f g : FRef) (v : Nat) (h : cellsWf 0 s.regs = true) (ha : g.addr ≠ f.addr) :
    (s.put f v).get g = s.get g := by
  unfold State.get
  rw [State.reg_put_ne f _ v h ha]

theorem State.get_bump_ne (f g : FRef) (n : Nat) (h : cellsWf 0 s.regs = true) (ha : g.addr ≠ f.addr) :
    (s.bump f n).get g = s.get g := State.get_put_ne f g _ h ha

theorem bitsOf_withBits_below (v l w x i n : Nat) (h : i + n ≤ l) : bitsOf (withBits v l w x) i n = bitsOf v i n := by
  unfold bitsOf withBits
  obtain ⟨k, rfl⟩ := Nat.exists_eq_add_of_le h
  have h1 : v % 2 ^ (i + n + k) + x % 2 ^ w * 2 ^ (i + n + k) + v / 2 ^ (i + n + k + w) * 2 ^ (i + n + k + w)
      = v % 2 ^ (i + n + k) + 2 ^ i * (2 ^ n * (2 ^ k * (x % 2 ^ w + v / 2 ^ (i + n + k + w) * 2 ^ w))) := by
    rw [Nat.pow_add 2 (i + n + k) w, Nat.pow_add 2 (i + n) k, Nat.pow_add 2 i n]; ring
  rw [h1, Nat.add_mul_div_left _ _ (Nat.two_pow_pos i), Nat.add_mul_mod_self_left, Nat.pow_add 2 (i + n) k,
    Nat.pow_add 2 i n, Nat.mul_assoc, Nat.mod_mul_right_div_self, Nat.mod_mul_right_mod]

theorem bitsOf_withBits_above (v l w x i n : Nat) (h : l + w ≤ i) : bitsOf (withBits v l w x) i n = bitsOf v i n := by
  unfold bitsOf withBits
  obtain ⟨k, rfl⟩ := Nat.exists_eq_add_of_le h
  have h1 : v % 2 ^ l < 2 ^ l := Nat.mod_lt _ (Nat.two_pow_pos l)
  have h2 : x % 2 ^ w < 2 ^ w := Nat.mod_lt _ (Nat.two_pow_pos w)
  have h4 : v % 2 ^ l + x % 2 ^ w * 2 ^ l < 2 ^ (l + w) := by
    rw [Nat.pow_add]
    nlinarith [Nat.two_pow_pos l]
  rw [Nat.pow_add 2 (l + w) k, ← Nat.div_div_eq_div_mul, ← Nat.div_div_eq_div_mul,
    Nat.add_mul_div_right _ _ (Nat.two_pow_pos (l + w)), Nat.div_eq_of_lt h4, Nat.zero_add]

/-- A write leaves every other field of its register as it was. -/
theorem State.get_put_disj (f g : FRef) (v : Nat) (h : cellsWf 0 s.regs = true) (hf : f.lsb + f.width ≤ 32)
    (ha : g.addr = f.addr) (hd : g.lsb + g.width ≤ f.lsb ∨ f.lsb + f.width ≤ g.lsb) : (s.put f v).get g = s.get g := by
  unfold State.get
  rw [ha, State.reg_put_same f v h hf]
  rcases hd with hd | hd
  · exact bitsOf_withBits_below _ _ _ _ _ _ hd
  · exact bitsOf_withBits_above _ _ _ _ _ _ hd

/-! ### Event sources -/

theorem State.noteRise_wf (n : Nat) (h : cellsWf 0 s.regs = true) : cellsWf 0 (s.noteRise n).regs = true :=
  State.bump_wf _ _ h

theorem State.raise_wf (n : Nat) (f : FRef) (h : cellsWf 0 s.regs = true) : cellsWf 0 (s.raise n f).regs = true := by
  unfold State.raise State.watching
  dsimp only
  split
  · exact State.noteRise_wf n (State.put_wf _ _ h)
  · exact State.put_wf _ _ h

/-- A rise changes one counter of the registers. -/
theorem State.get_noteRise_ne (n : Nat) (g : FRef) (h : cellsWf 0 s.regs = true) (hr : g.addr ≠ A.EVT_RISE_s n) :
    (s.noteRise n).get g = s.get g := State.get_put_ne _ g _ h hr

/-- Raising a source sets its event bits. -/
theorem State.get_raise_same (n : Nat) (f : FRef) (h : cellsWf 0 s.regs = true) (hf : f.lsb + f.width ≤ 32)
    (hr : f.addr ≠ A.EVT_RISE_s n) : (s.raise n f).get f = 2 ^ f.width - 1 := by
  have hp : (s.put f (2 ^ f.width - 1)).get f = 2 ^ f.width - 1 := by
    rw [State.get_put_same f _ h hf]
    exact Nat.mod_eq_of_lt (Nat.sub_lt (Nat.two_pow_pos _) Nat.one_pos)
  unfold State.raise State.watching
  dsimp only
  split
  · rw [State.get_noteRise_ne n f (State.put_wf _ _ h) hr, hp]
  · exact hp

/-- Raising a source changes the registers of its event bits and of its rise counter alone. -/
theorem State.get_raise_ne (n : Nat) (f g : FRef) (h : cellsWf 0 s.regs = true) (hf : g.addr ≠ f.addr)
    (hr : g.addr ≠ A.EVT_RISE_s n) : (s.raise n f).get g = s.get g := by
  unfold State.raise State.watching
  dsimp only
  split
  · rw [State.get_noteRise_ne n g (State.put_wf _ _ h) hr, State.get_put_ne f g _ h hf]
  · exact State.get_put_ne f g _ h hf

/-- Raising a source leaves every other field of the register of its event bits as it was. -/
theorem State.get_raise_disj (n : Nat) (f g : FRef) (h : cellsWf 0 s.regs = true) (hf : f.lsb + f.width ≤ 32)
    (ha : g.addr = f.addr) (hd : g.lsb + g.width ≤ f.lsb ∨ f.lsb + f.width ≤ g.lsb) (hr : g.addr ≠ A.EVT_RISE_s n) :
    (s.raise n f).get g = s.get g := by
  unfold State.raise State.watching
  dsimp only
  split
  · rw [State.get_noteRise_ne n g (State.put_wf _ _ h) hr, State.get_put_disj f g _ h hf ha hd]
  · exact State.get_put_disj f g _ h hf ha hd

variable (s)

@[simp] theorem State.raise_pending (n : Nat) (f : FRef) : (s.raise n f).pending = s.pending := by
  unfold State.raise State.watching
  dsimp only
  split <;> rfl
@[simp] theorem State.raise_out (n : Nat) (f : FRef) : (s.raise n f).out = s.out := by
  unfold State.raise State.watching
  dsimp only
  split <;> rfl
@[simp] theorem State.raise_free (n : Nat) (f : FRef) : (s.raise n f).free = s.free := by
  unfold State.raise State.watching
  dsimp only
  split <;> rfl
@[simp] theorem State.raise_clock (n : Nat) (f : FRef) : (s.raise n f).clock = s.clock := by
  unfold State.raise State.watching
  dsimp only
  split <;> rfl
@[simp] theorem State.raise_img (n : Nat) (f : FRef) : (s.raise n f).img = s.img := by
  unfold State.raise State.watching
  dsimp only
  split <;> rfl
@[simp] theorem State.raise_mgmt (n : Nat) (f : FRef) : (s.raise n f).mgmt = s.mgmt := by
  unfold State.raise State.watching
  dsimp only
  split <;> rfl
@[simp] theorem State.raise_arb (n : Nat) (f : FRef) : (s.raise n f).arb = s.arb := by
  unfold State.raise State.watching
  dsimp only
  split <;> rfl
@[simp] theorem State.raise_spiQ (n : Nat) (f : FRef) : (s.raise n f).spiQ = s.spiQ := by
  unfold State.raise State.watching
  dsimp only
  split <;> rfl
@[simp] theorem State.raise_usbQ (n : Nat) (f : FRef) : (s.raise n f).usbQ = s.usbQ := by
  unfold State.raise State.watching
  dsimp only
  split <;> rfl
@[simp] theorem State.raise_logs (n : Nat) (f : FRef) : (s.raise n f).logs = s.logs := by
  unfold State.raise State.watching
  dsimp only
  split <;> rfl
@[simp] theorem State.raise_own (n : Nat) (f : FRef) : (s.raise n f).own = s.own := by
  unfold State.raise State.watching
  dsimp only
  split <;> rfl
@[simp] theorem State.raise_pwr (n : Nat) (f : FRef) : (s.raise n f).pwr = s.pwr := by
  unfold State.raise State.watching
  dsimp only
  split <;> rfl
@[simp] theorem State.raise_links (n : Nat) (f : FRef) : (s.raise n f).links = s.links := by
  unfold State.raise State.watching
  dsimp only
  split <;> rfl
@[simp] theorem State.raise_mainLost (n : Nat) (f : FRef) : (s.raise n f).mainLost = s.mainLost := by
  unfold State.raise State.watching
  dsimp only
  split <;> rfl
@[simp] theorem State.raise_eyes (n : Nat) (f : FRef) : (s.raise n f).eyes = s.eyes := by
  unfold State.raise State.watching
  dsimp only
  split <;> rfl
@[simp] theorem State.raise_bc (n : Nat) (f : FRef) : (s.raise n f).bc = s.bc := by
  unfold State.raise State.watching
  dsimp only
  split <;> rfl
@[simp] theorem State.raise_sr (n : Nat) (f : FRef) : (s.raise n f).sr = s.sr := by
  unfold State.raise State.watching
  dsimp only
  split <;> rfl
@[simp] theorem State.raise_pl (n : Nat) (f : FRef) : (s.raise n f).pl = s.pl := by
  unfold State.raise State.watching
  dsimp only
  split <;> rfl
@[simp] theorem State.raise_px (n : Nat) (f : FRef) : (s.raise n f).px = s.px := by
  unfold State.raise State.watching
  dsimp only
  split <;> rfl
@[simp] theorem State.raise_oa (n : Nat) (f : FRef) : (s.raise n f).oa = s.oa := by
  unfold State.raise State.watching
  dsimp only
  split <;> rfl
@[simp] theorem State.raise_rails (n : Nat) (f : FRef) : (s.raise n f).rails = s.rails := by
  unfold State.raise State.watching
  dsimp only
  split <;> rfl
@[simp] theorem State.raise_et (n : Nat) (f : FRef) : (s.raise n f).et = s.et := by
  unfold State.raise State.watching
  dsimp only
  split <;> rfl
@[simp] theorem State.raise_us (n : Nat) (f : FRef) : (s.raise n f).us = s.us := by
  unfold State.raise State.watching
  dsimp only
  split <;> rfl
@[simp] theorem State.raise_wd (n : Nat) (f : FRef) : (s.raise n f).wd = s.wd := by
  unfold State.raise State.watching
  dsimp only
  split <;> rfl
@[simp] theorem State.raise_tc (n : Nat) (f : FRef) : (s.raise n f).tc = s.tc := by
  unfold State.raise State.watching
  dsimp only
  split <;> rfl
@[simp] theorem State.raise_ef (n : Nat) (f : FRef) : (s.raise n f).ef = s.ef := by
  unfold State.raise State.watching
  dsimp only
  split <;> rfl

@[simp] theorem State.logTo_pending (a cls result cause unit agent detail : Nat) :
    (s.logTo a cls result cause unit agent detail).pending = s.pending := by
  unfold State.logTo
  dsimp only
  split
  · rw [State.raise_pending]
  · rfl
@[simp] theorem State.logTo_out (a cls result cause unit agent detail : Nat) :
    (s.logTo a cls result cause unit agent detail).out = s.out := by
  unfold State.logTo
  dsimp only
  split
  · rw [State.raise_out]
  · rfl
@[simp] theorem State.logTo_free (a cls result cause unit agent detail : Nat) :
    (s.logTo a cls result cause unit agent detail).free = s.free := by
  unfold State.logTo
  dsimp only
  split
  · rw [State.raise_free]
  · rfl
@[simp] theorem State.logTo_clock (a cls result cause unit agent detail : Nat) :
    (s.logTo a cls result cause unit agent detail).clock = s.clock := by
  unfold State.logTo
  dsimp only
  split
  · rw [State.raise_clock]
  · rfl
@[simp] theorem State.logTo_img (a cls result cause unit agent detail : Nat) :
    (s.logTo a cls result cause unit agent detail).img = s.img := by
  unfold State.logTo
  dsimp only
  split
  · rw [State.raise_img]
  · rfl
@[simp] theorem State.logTo_mgmt (a cls result cause unit agent detail : Nat) :
    (s.logTo a cls result cause unit agent detail).mgmt = s.mgmt := by
  unfold State.logTo
  dsimp only
  split
  · rw [State.raise_mgmt]
  · rfl
@[simp] theorem State.logTo_arb (a cls result cause unit agent detail : Nat) :
    (s.logTo a cls result cause unit agent detail).arb = s.arb := by
  unfold State.logTo
  dsimp only
  split
  · rw [State.raise_arb]
  · rfl
@[simp] theorem State.logTo_spiQ (a cls result cause unit agent detail : Nat) :
    (s.logTo a cls result cause unit agent detail).spiQ = s.spiQ := by
  unfold State.logTo
  dsimp only
  split
  · rw [State.raise_spiQ]
  · rfl
@[simp] theorem State.logTo_usbQ (a cls result cause unit agent detail : Nat) :
    (s.logTo a cls result cause unit agent detail).usbQ = s.usbQ := by
  unfold State.logTo
  dsimp only
  split
  · rw [State.raise_usbQ]
  · rfl
@[simp] theorem State.logTo_own (a cls result cause unit agent detail : Nat) :
    (s.logTo a cls result cause unit agent detail).own = s.own := by
  unfold State.logTo
  dsimp only
  split
  · rw [State.raise_own]
  · rfl
@[simp] theorem State.logTo_pwr (a cls result cause unit agent detail : Nat) :
    (s.logTo a cls result cause unit agent detail).pwr = s.pwr := by
  unfold State.logTo
  dsimp only
  split
  · rw [State.raise_pwr]
  · rfl
@[simp] theorem State.logTo_links (a cls result cause unit agent detail : Nat) :
    (s.logTo a cls result cause unit agent detail).links = s.links := by
  unfold State.logTo
  dsimp only
  split
  · rw [State.raise_links]
  · rfl
@[simp] theorem State.logTo_mainLost (a cls result cause unit agent detail : Nat) :
    (s.logTo a cls result cause unit agent detail).mainLost = s.mainLost := by
  unfold State.logTo
  dsimp only
  split
  · rw [State.raise_mainLost]
  · rfl
@[simp] theorem State.logTo_eyes (a cls result cause unit agent detail : Nat) :
    (s.logTo a cls result cause unit agent detail).eyes = s.eyes := by
  unfold State.logTo
  dsimp only
  split
  · rw [State.raise_eyes]
  · rfl
@[simp] theorem State.logTo_bc (a cls result cause unit agent detail : Nat) :
    (s.logTo a cls result cause unit agent detail).bc = s.bc := by
  unfold State.logTo
  dsimp only
  split
  · rw [State.raise_bc]
  · rfl
@[simp] theorem State.logTo_sr (a cls result cause unit agent detail : Nat) :
    (s.logTo a cls result cause unit agent detail).sr = s.sr := by
  unfold State.logTo
  dsimp only
  split
  · rw [State.raise_sr]
  · rfl
@[simp] theorem State.logTo_pl (a cls result cause unit agent detail : Nat) :
    (s.logTo a cls result cause unit agent detail).pl = s.pl := by
  unfold State.logTo
  dsimp only
  split
  · rw [State.raise_pl]
  · rfl
@[simp] theorem State.logTo_px (a cls result cause unit agent detail : Nat) :
    (s.logTo a cls result cause unit agent detail).px = s.px := by
  unfold State.logTo
  dsimp only
  split
  · rw [State.raise_px]
  · rfl
@[simp] theorem State.logTo_oa (a cls result cause unit agent detail : Nat) :
    (s.logTo a cls result cause unit agent detail).oa = s.oa := by
  unfold State.logTo
  dsimp only
  split
  · rw [State.raise_oa]
  · rfl
@[simp] theorem State.logTo_rails (a cls result cause unit agent detail : Nat) :
    (s.logTo a cls result cause unit agent detail).rails = s.rails := by
  unfold State.logTo
  dsimp only
  split
  · rw [State.raise_rails]
  · rfl
@[simp] theorem State.logTo_et (a cls result cause unit agent detail : Nat) :
    (s.logTo a cls result cause unit agent detail).et = s.et := by
  unfold State.logTo
  dsimp only
  split
  · rw [State.raise_et]
  · rfl
@[simp] theorem State.logTo_us (a cls result cause unit agent detail : Nat) :
    (s.logTo a cls result cause unit agent detail).us = s.us := by
  unfold State.logTo
  dsimp only
  split
  · rw [State.raise_us]
  · rfl
@[simp] theorem State.logTo_wd (a cls result cause unit agent detail : Nat) :
    (s.logTo a cls result cause unit agent detail).wd = s.wd := by
  unfold State.logTo
  dsimp only
  split
  · rw [State.raise_wd]
  · rfl
@[simp] theorem State.logTo_tc (a cls result cause unit agent detail : Nat) :
    (s.logTo a cls result cause unit agent detail).tc = s.tc := by
  unfold State.logTo
  dsimp only
  split
  · rw [State.raise_tc]
  · rfl
@[simp] theorem State.logTo_ef (a cls result cause unit agent detail : Nat) :
    (s.logTo a cls result cause unit agent detail).ef = s.ef := by
  unfold State.logTo
  dsimp only
  split
  · rw [State.raise_ef]
  · rfl

variable {s}

theorem State.logTo_wf (a cls result cause unit agent detail : Nat) (h : cellsWf 0 s.regs = true) :
    cellsWf 0 (s.logTo a cls result cause unit agent detail).regs = true := by
  unfold State.logTo
  dsimp only
  split
  · exact State.raise_wf _ _ h
  · exact h

/-- An error-log entry changes no register but those of source 1. -/
theorem State.get_logTo_ne (a cls result cause unit agent detail : Nat) (g : FRef) (h : cellsWf 0 s.regs = true)
    (he : g.addr ≠ A.OA_EVT) (hr : g.addr ≠ A.EVT_RISE_s 1) : (s.logTo a cls result cause unit agent detail).get g = s.get g := by
  unfold State.logTo
  dsimp only
  split
  · exact State.get_raise_ne _ _ _ h he hr
  · rfl

/-- An error-log entry leaves the other bits of OA_EVT as they were. -/
theorem State.get_logTo_evt (a cls result cause unit agent detail : Nat) (g : FRef) (h : cellsWf 0 s.regs = true)
    (he : g.addr = A.OA_EVT) (hd : g.lsb + g.width ≤ 1 ∨ 2 ≤ g.lsb) :
    (s.logTo a cls result cause unit agent detail).get g = s.get g := by
  unfold State.logTo
  dsimp only
  split
  · exact State.get_raise_disj 1 ⟨A.OA_EVT, 1, 1⟩ g h (by decide) he hd (by rw [he]; decide)
  · rfl

theorem foldl_inv {α β : Type} (p : α → Prop) (f : α → β → α) (hf : ∀ x b, p x → p (f x b)) :
    ∀ (l : List β) (x : α), p x → p (l.foldl f x)
  | [], _, h => h
  | b :: l, x, h => foldl_inv p f hf l (f x b) (hf x b h)

theorem State.logHw_wf (owner cls result cause unit detail : Nat) (h : cellsWf 0 s.regs = true) :
    cellsWf 0 (s.logHw owner cls result cause unit detail).regs = true := by
  unfold State.logHw
  split
  · exact h
  · refine foldl_inv (fun (t : State) => cellsWf 0 t.regs = true) _ (fun t a ht => ?_) _ _ h
    split
    · exact State.logTo_wf _ _ _ _ _ _ _ ht
    · exact ht

/-- A hardware error's entries change no register but those of source 1. -/
theorem State.get_logHw_ne (owner cls result cause unit detail : Nat) (g : FRef) (h : cellsWf 0 s.regs = true)
    (he : g.addr ≠ A.OA_EVT) (hr : g.addr ≠ A.EVT_RISE_s 1) : (s.logHw owner cls result cause unit detail).get g = s.get g := by
  unfold State.logHw
  split
  · rfl
  · refine (foldl_inv (fun (t : State) => cellsWf 0 t.regs = true ∧ t.get g = s.get g) _ (fun t a ht => ?_) _ _ ⟨h, rfl⟩).2
    split
    · exact ⟨State.logTo_wf _ _ _ _ _ _ _ ht.1, by rw [State.get_logTo_ne _ _ _ _ _ _ _ g ht.1 he hr, ht.2]⟩
    · exact ht

/-- A hardware error's entries leave the other bits of OA_EVT as they were. -/
theorem State.get_logHw_evt (owner cls result cause unit detail : Nat) (g : FRef) (h : cellsWf 0 s.regs = true)
    (he : g.addr = A.OA_EVT) (hd : g.lsb + g.width ≤ 1 ∨ 2 ≤ g.lsb) :
    (s.logHw owner cls result cause unit detail).get g = s.get g := by
  unfold State.logHw
  split
  · rfl
  · refine (foldl_inv (fun (t : State) => cellsWf 0 t.regs = true ∧ t.get g = s.get g) _ (fun t a ht => ?_) _ _ ⟨h, rfl⟩).2
    split
    · exact ⟨State.logTo_wf _ _ _ _ _ _ _ ht.1, by rw [State.get_logTo_evt _ _ _ _ _ _ _ g ht.1 he hd, ht.2]⟩
    · exact ht

theorem State.notice_wf (n inst : Nat) (h : cellsWf 0 s.regs = true) : cellsWf 0 (s.notice n inst).regs = true := by
  unfold State.notice
  exact State.raise_wf _ _ (State.bump_wf _ _ (State.put_wf _ _ (State.put_wf _ _ h)))

/-- A service notice changes no register but the notice's own and those of source 0. -/
theorem State.get_notice_ne (n inst : Nat) (g : FRef) (h : cellsWf 0 s.regs = true) (h1 : g.addr ≠ A.OA_NOTICE)
    (h2 : g.addr ≠ A.OA_NOTICE_DETAIL_n n) (h3 : g.addr ≠ A.OA_EVT) (h4 : g.addr ≠ A.EVT_RISE_s 0) :
    (s.notice n inst).get g = s.get g := by
  obtain ⟨a, ha⟩ : ∃ a, a = s.put ⟨A.OA_NOTICE, n, 1⟩ 1 := ⟨_, rfl⟩
  obtain ⟨b, hb⟩ : ∃ b, b = a.put (F.OA_NOTICE_DETAIL_n_INSTANCE n) inst := ⟨_, rfl⟩
  obtain ⟨c, hc⟩ : ∃ c, c = b.bump (F.OA_NOTICE_DETAIL_n_COUNT n) 1 := ⟨_, rfl⟩
  have hn : s.notice n inst = State.raise { c with oa := { c.oa with recordDue := true } } 0 ⟨A.OA_EVT, 0, 1⟩ := by
    rw [hc, hb, ha]; rfl
  have wa : cellsWf 0 a.regs = true := by rw [ha]; exact State.put_wf _ _ h
  have wb : cellsWf 0 b.regs = true := by rw [hb]; exact State.put_wf _ _ wa
  have wc : cellsWf 0 c.regs = true := by rw [hc]; exact State.bump_wf _ _ wb
  have ec : c.get g = s.get g := by
    rw [hc, State.get_bump_ne _ g 1 wb h2, hb, State.get_put_ne _ g inst wa h2, ha, State.get_put_ne _ g 1 h h1]
  rw [hn]
  exact (State.get_raise_ne (s := { c with oa := { c.oa with recordDue := true } }) 0 ⟨A.OA_EVT, 0, 1⟩ g wc h3 h4).trans ec

/-- A service notice leaves the other bits of OA_EVT as they were. -/
theorem State.get_notice_evt (n inst : Nat) (g : FRef) (h : cellsWf 0 s.regs = true) (he : g.addr = A.OA_EVT)
    (hn : n < 32) (hd : 1 ≤ g.lsb) :
    (s.notice n inst).get g = s.get g := by
  have h1 : g.addr ≠ A.OA_NOTICE := by rw [he]; decide
  have h2 : g.addr ≠ A.OA_NOTICE_DETAIL_n n := by rw [he]; unfold A.OA_EVT A.OA_NOTICE_DETAIL_n; omega
  have h4 : g.addr ≠ A.EVT_RISE_s 0 := by rw [he]; decide
  obtain ⟨a, ha⟩ : ∃ a, a = s.put ⟨A.OA_NOTICE, n, 1⟩ 1 := ⟨_, rfl⟩
  obtain ⟨b, hb⟩ : ∃ b, b = a.put (F.OA_NOTICE_DETAIL_n_INSTANCE n) inst := ⟨_, rfl⟩
  obtain ⟨c, hc⟩ : ∃ c, c = b.bump (F.OA_NOTICE_DETAIL_n_COUNT n) 1 := ⟨_, rfl⟩
  have hn : s.notice n inst = State.raise { c with oa := { c.oa with recordDue := true } } 0 ⟨A.OA_EVT, 0, 1⟩ := by
    rw [hc, hb, ha]; rfl
  have wa : cellsWf 0 a.regs = true := by rw [ha]; exact State.put_wf _ _ h
  have wb : cellsWf 0 b.regs = true := by rw [hb]; exact State.put_wf _ _ wa
  have wc : cellsWf 0 c.regs = true := by rw [hc]; exact State.bump_wf _ _ wb
  have ec : c.get g = s.get g := by
    rw [hc, State.get_bump_ne _ g 1 wb h2, hb, State.get_put_ne _ g inst wa h2, ha, State.get_put_ne _ g 1 h h1]
  rw [hn]
  exact (State.get_raise_disj (s := { c with oa := { c.oa with recordDue := true } }) 0 ⟨A.OA_EVT, 0, 1⟩ g wc (by decide) he
    (.inr hd) h4).trans ec

variable (s)

@[simp] theorem State.logHw_pending (owner cls result cause unit detail : Nat) :
    (s.logHw owner cls result cause unit detail).pending = s.pending := by
  unfold State.logHw
  split
  · rfl
  · refine foldl_inv (fun (t : State) => t.pending = s.pending) _ (fun t a ht => ?_) _ _ rfl
    split
    · rw [State.logTo_pending, ht]
    · exact ht
@[simp] theorem State.logHw_out (owner cls result cause unit detail : Nat) :
    (s.logHw owner cls result cause unit detail).out = s.out := by
  unfold State.logHw
  split
  · rfl
  · refine foldl_inv (fun (t : State) => t.out = s.out) _ (fun t a ht => ?_) _ _ rfl
    split
    · rw [State.logTo_out, ht]
    · exact ht
@[simp] theorem State.logHw_free (owner cls result cause unit detail : Nat) :
    (s.logHw owner cls result cause unit detail).free = s.free := by
  unfold State.logHw
  split
  · rfl
  · refine foldl_inv (fun (t : State) => t.free = s.free) _ (fun t a ht => ?_) _ _ rfl
    split
    · rw [State.logTo_free, ht]
    · exact ht
@[simp] theorem State.logHw_clock (owner cls result cause unit detail : Nat) :
    (s.logHw owner cls result cause unit detail).clock = s.clock := by
  unfold State.logHw
  split
  · rfl
  · refine foldl_inv (fun (t : State) => t.clock = s.clock) _ (fun t a ht => ?_) _ _ rfl
    split
    · rw [State.logTo_clock, ht]
    · exact ht
@[simp] theorem State.logHw_img (owner cls result cause unit detail : Nat) :
    (s.logHw owner cls result cause unit detail).img = s.img := by
  unfold State.logHw
  split
  · rfl
  · refine foldl_inv (fun (t : State) => t.img = s.img) _ (fun t a ht => ?_) _ _ rfl
    split
    · rw [State.logTo_img, ht]
    · exact ht
@[simp] theorem State.logHw_mgmt (owner cls result cause unit detail : Nat) :
    (s.logHw owner cls result cause unit detail).mgmt = s.mgmt := by
  unfold State.logHw
  split
  · rfl
  · refine foldl_inv (fun (t : State) => t.mgmt = s.mgmt) _ (fun t a ht => ?_) _ _ rfl
    split
    · rw [State.logTo_mgmt, ht]
    · exact ht
@[simp] theorem State.logHw_arb (owner cls result cause unit detail : Nat) :
    (s.logHw owner cls result cause unit detail).arb = s.arb := by
  unfold State.logHw
  split
  · rfl
  · refine foldl_inv (fun (t : State) => t.arb = s.arb) _ (fun t a ht => ?_) _ _ rfl
    split
    · rw [State.logTo_arb, ht]
    · exact ht
@[simp] theorem State.logHw_spiQ (owner cls result cause unit detail : Nat) :
    (s.logHw owner cls result cause unit detail).spiQ = s.spiQ := by
  unfold State.logHw
  split
  · rfl
  · refine foldl_inv (fun (t : State) => t.spiQ = s.spiQ) _ (fun t a ht => ?_) _ _ rfl
    split
    · rw [State.logTo_spiQ, ht]
    · exact ht
@[simp] theorem State.logHw_usbQ (owner cls result cause unit detail : Nat) :
    (s.logHw owner cls result cause unit detail).usbQ = s.usbQ := by
  unfold State.logHw
  split
  · rfl
  · refine foldl_inv (fun (t : State) => t.usbQ = s.usbQ) _ (fun t a ht => ?_) _ _ rfl
    split
    · rw [State.logTo_usbQ, ht]
    · exact ht
@[simp] theorem State.logHw_own (owner cls result cause unit detail : Nat) :
    (s.logHw owner cls result cause unit detail).own = s.own := by
  unfold State.logHw
  split
  · rfl
  · refine foldl_inv (fun (t : State) => t.own = s.own) _ (fun t a ht => ?_) _ _ rfl
    split
    · rw [State.logTo_own, ht]
    · exact ht
@[simp] theorem State.logHw_pwr (owner cls result cause unit detail : Nat) :
    (s.logHw owner cls result cause unit detail).pwr = s.pwr := by
  unfold State.logHw
  split
  · rfl
  · refine foldl_inv (fun (t : State) => t.pwr = s.pwr) _ (fun t a ht => ?_) _ _ rfl
    split
    · rw [State.logTo_pwr, ht]
    · exact ht
@[simp] theorem State.logHw_links (owner cls result cause unit detail : Nat) :
    (s.logHw owner cls result cause unit detail).links = s.links := by
  unfold State.logHw
  split
  · rfl
  · refine foldl_inv (fun (t : State) => t.links = s.links) _ (fun t a ht => ?_) _ _ rfl
    split
    · rw [State.logTo_links, ht]
    · exact ht
@[simp] theorem State.logHw_mainLost (owner cls result cause unit detail : Nat) :
    (s.logHw owner cls result cause unit detail).mainLost = s.mainLost := by
  unfold State.logHw
  split
  · rfl
  · refine foldl_inv (fun (t : State) => t.mainLost = s.mainLost) _ (fun t a ht => ?_) _ _ rfl
    split
    · rw [State.logTo_mainLost, ht]
    · exact ht
@[simp] theorem State.logHw_eyes (owner cls result cause unit detail : Nat) :
    (s.logHw owner cls result cause unit detail).eyes = s.eyes := by
  unfold State.logHw
  split
  · rfl
  · refine foldl_inv (fun (t : State) => t.eyes = s.eyes) _ (fun t a ht => ?_) _ _ rfl
    split
    · rw [State.logTo_eyes, ht]
    · exact ht
@[simp] theorem State.logHw_bc (owner cls result cause unit detail : Nat) :
    (s.logHw owner cls result cause unit detail).bc = s.bc := by
  unfold State.logHw
  split
  · rfl
  · refine foldl_inv (fun (t : State) => t.bc = s.bc) _ (fun t a ht => ?_) _ _ rfl
    split
    · rw [State.logTo_bc, ht]
    · exact ht
@[simp] theorem State.logHw_sr (owner cls result cause unit detail : Nat) :
    (s.logHw owner cls result cause unit detail).sr = s.sr := by
  unfold State.logHw
  split
  · rfl
  · refine foldl_inv (fun (t : State) => t.sr = s.sr) _ (fun t a ht => ?_) _ _ rfl
    split
    · rw [State.logTo_sr, ht]
    · exact ht
@[simp] theorem State.logHw_pl (owner cls result cause unit detail : Nat) :
    (s.logHw owner cls result cause unit detail).pl = s.pl := by
  unfold State.logHw
  split
  · rfl
  · refine foldl_inv (fun (t : State) => t.pl = s.pl) _ (fun t a ht => ?_) _ _ rfl
    split
    · rw [State.logTo_pl, ht]
    · exact ht
@[simp] theorem State.logHw_px (owner cls result cause unit detail : Nat) :
    (s.logHw owner cls result cause unit detail).px = s.px := by
  unfold State.logHw
  split
  · rfl
  · refine foldl_inv (fun (t : State) => t.px = s.px) _ (fun t a ht => ?_) _ _ rfl
    split
    · rw [State.logTo_px, ht]
    · exact ht
@[simp] theorem State.logHw_oa (owner cls result cause unit detail : Nat) :
    (s.logHw owner cls result cause unit detail).oa = s.oa := by
  unfold State.logHw
  split
  · rfl
  · refine foldl_inv (fun (t : State) => t.oa = s.oa) _ (fun t a ht => ?_) _ _ rfl
    split
    · rw [State.logTo_oa, ht]
    · exact ht
@[simp] theorem State.logHw_rails (owner cls result cause unit detail : Nat) :
    (s.logHw owner cls result cause unit detail).rails = s.rails := by
  unfold State.logHw
  split
  · rfl
  · refine foldl_inv (fun (t : State) => t.rails = s.rails) _ (fun t a ht => ?_) _ _ rfl
    split
    · rw [State.logTo_rails, ht]
    · exact ht
@[simp] theorem State.logHw_et (owner cls result cause unit detail : Nat) :
    (s.logHw owner cls result cause unit detail).et = s.et := by
  unfold State.logHw
  split
  · rfl
  · refine foldl_inv (fun (t : State) => t.et = s.et) _ (fun t a ht => ?_) _ _ rfl
    split
    · rw [State.logTo_et, ht]
    · exact ht
@[simp] theorem State.logHw_us (owner cls result cause unit detail : Nat) :
    (s.logHw owner cls result cause unit detail).us = s.us := by
  unfold State.logHw
  split
  · rfl
  · refine foldl_inv (fun (t : State) => t.us = s.us) _ (fun t a ht => ?_) _ _ rfl
    split
    · rw [State.logTo_us, ht]
    · exact ht
@[simp] theorem State.logHw_wd (owner cls result cause unit detail : Nat) :
    (s.logHw owner cls result cause unit detail).wd = s.wd := by
  unfold State.logHw
  split
  · rfl
  · refine foldl_inv (fun (t : State) => t.wd = s.wd) _ (fun t a ht => ?_) _ _ rfl
    split
    · rw [State.logTo_wd, ht]
    · exact ht
@[simp] theorem State.logHw_tc (owner cls result cause unit detail : Nat) :
    (s.logHw owner cls result cause unit detail).tc = s.tc := by
  unfold State.logHw
  split
  · rfl
  · refine foldl_inv (fun (t : State) => t.tc = s.tc) _ (fun t a ht => ?_) _ _ rfl
    split
    · rw [State.logTo_tc, ht]
    · exact ht
@[simp] theorem State.logHw_ef (owner cls result cause unit detail : Nat) :
    (s.logHw owner cls result cause unit detail).ef = s.ef := by
  unfold State.logHw
  split
  · rfl
  · refine foldl_inv (fun (t : State) => t.ef = s.ef) _ (fun t a ht => ?_) _ _ rfl
    split
    · rw [State.logTo_ef, ht]
    · exact ht

@[simp] theorem State.notice_pending (n inst : Nat) : (s.notice n inst).pending = s.pending := by
  unfold State.notice
  rw [State.raise_pending]
  rfl
@[simp] theorem State.notice_out (n inst : Nat) : (s.notice n inst).out = s.out := by
  unfold State.notice
  rw [State.raise_out]
  rfl
@[simp] theorem State.notice_free (n inst : Nat) : (s.notice n inst).free = s.free := by
  unfold State.notice
  rw [State.raise_free]
  rfl
@[simp] theorem State.notice_clock (n inst : Nat) : (s.notice n inst).clock = s.clock := by
  unfold State.notice
  rw [State.raise_clock]
  rfl
@[simp] theorem State.notice_img (n inst : Nat) : (s.notice n inst).img = s.img := by
  unfold State.notice
  rw [State.raise_img]
  rfl
@[simp] theorem State.notice_mgmt (n inst : Nat) : (s.notice n inst).mgmt = s.mgmt := by
  unfold State.notice
  rw [State.raise_mgmt]
  rfl
@[simp] theorem State.notice_arb (n inst : Nat) : (s.notice n inst).arb = s.arb := by
  unfold State.notice
  rw [State.raise_arb]
  rfl
@[simp] theorem State.notice_spiQ (n inst : Nat) : (s.notice n inst).spiQ = s.spiQ := by
  unfold State.notice
  rw [State.raise_spiQ]
  rfl
@[simp] theorem State.notice_usbQ (n inst : Nat) : (s.notice n inst).usbQ = s.usbQ := by
  unfold State.notice
  rw [State.raise_usbQ]
  rfl
@[simp] theorem State.notice_logs (n inst : Nat) : (s.notice n inst).logs = s.logs := by
  unfold State.notice
  rw [State.raise_logs]
  rfl
@[simp] theorem State.notice_own (n inst : Nat) : (s.notice n inst).own = s.own := by
  unfold State.notice
  rw [State.raise_own]
  rfl
@[simp] theorem State.notice_pwr (n inst : Nat) : (s.notice n inst).pwr = s.pwr := by
  unfold State.notice
  rw [State.raise_pwr]
  rfl
@[simp] theorem State.notice_links (n inst : Nat) : (s.notice n inst).links = s.links := by
  unfold State.notice
  rw [State.raise_links]
  rfl
@[simp] theorem State.notice_mainLost (n inst : Nat) : (s.notice n inst).mainLost = s.mainLost := by
  unfold State.notice
  rw [State.raise_mainLost]
  rfl
@[simp] theorem State.notice_eyes (n inst : Nat) : (s.notice n inst).eyes = s.eyes := by
  unfold State.notice
  rw [State.raise_eyes]
  rfl
@[simp] theorem State.notice_bc (n inst : Nat) : (s.notice n inst).bc = s.bc := by
  unfold State.notice
  rw [State.raise_bc]
  rfl
@[simp] theorem State.notice_sr (n inst : Nat) : (s.notice n inst).sr = s.sr := by
  unfold State.notice
  rw [State.raise_sr]
  rfl
@[simp] theorem State.notice_pl (n inst : Nat) : (s.notice n inst).pl = s.pl := by
  unfold State.notice
  rw [State.raise_pl]
  rfl
@[simp] theorem State.notice_px (n inst : Nat) : (s.notice n inst).px = s.px := by
  unfold State.notice
  rw [State.raise_px]
  rfl
@[simp] theorem State.notice_rails (n inst : Nat) : (s.notice n inst).rails = s.rails := by
  unfold State.notice
  rw [State.raise_rails]
  rfl
@[simp] theorem State.notice_et (n inst : Nat) : (s.notice n inst).et = s.et := by
  unfold State.notice
  rw [State.raise_et]
  rfl
@[simp] theorem State.notice_us (n inst : Nat) : (s.notice n inst).us = s.us := by
  unfold State.notice
  rw [State.raise_us]
  rfl
@[simp] theorem State.notice_wd (n inst : Nat) : (s.notice n inst).wd = s.wd := by
  unfold State.notice
  rw [State.raise_wd]
  rfl
@[simp] theorem State.notice_tc (n inst : Nat) : (s.notice n inst).tc = s.tc := by
  unfold State.notice
  rw [State.raise_tc]
  rfl
@[simp] theorem State.notice_ef (n inst : Nat) : (s.notice n inst).ef = s.ef := by
  unfold State.notice
  rw [State.raise_ef]
  rfl

/-! ### A register written whole -/

theorem State.get_setReg_same (a v : Nat) (f : FRef) (h : cellsWf 0 s.regs = true) (hf : f.addr = a) :
    (s.setReg a v).get f = bitsOf (v % 2 ^ 32) f.lsb f.width := by
  show bitsOf ((s.setReg a v).reg f.addr) f.lsb f.width = _
  rw [hf, State.reg_setReg_same a v h]

theorem State.get_setReg_ne (a v : Nat) (g : FRef) (h : cellsWf 0 s.regs = true) (hg : g.addr ≠ a) :
    (s.setReg a v).get g = s.get g := by
  show bitsOf ((s.setReg a v).reg g.addr) g.lsb g.width = _
  rw [State.reg_setReg_ne a g.addr v h hg]
  rfl

/-! ### TIME moves on -/

section
variable (s : State)

@[simp] theorem State.advanceTo_pending (t : Nat) : (s.advanceTo t).pending = s.pending := by
  unfold State.advanceTo
  dsimp only
  split <;> rfl
@[simp] theorem State.advanceTo_out (t : Nat) : (s.advanceTo t).out = s.out := by
  unfold State.advanceTo
  dsimp only
  split <;> rfl
@[simp] theorem State.advanceTo_free (t : Nat) : (s.advanceTo t).free = s.free := by
  unfold State.advanceTo
  dsimp only
  split <;> rfl
@[simp] theorem State.advanceTo_regs (t : Nat) : (s.advanceTo t).regs = s.regs := by
  unfold State.advanceTo
  dsimp only
  split <;> rfl
@[simp] theorem State.advanceTo_router (t : Nat) : (s.advanceTo t).router = s.router := by
  unfold State.advanceTo
  dsimp only
  split <;> rfl
@[simp] theorem State.advanceTo_img (t : Nat) : (s.advanceTo t).img = s.img := by
  unfold State.advanceTo
  dsimp only
  split <;> rfl
@[simp] theorem State.advanceTo_mgmt (t : Nat) : (s.advanceTo t).mgmt = s.mgmt := by
  unfold State.advanceTo
  dsimp only
  split <;> rfl
@[simp] theorem State.advanceTo_arb (t : Nat) : (s.advanceTo t).arb = s.arb := by
  unfold State.advanceTo
  dsimp only
  split <;> rfl
@[simp] theorem State.advanceTo_spiQ (t : Nat) : (s.advanceTo t).spiQ = s.spiQ := by
  unfold State.advanceTo
  dsimp only
  split <;> rfl
@[simp] theorem State.advanceTo_usbQ (t : Nat) : (s.advanceTo t).usbQ = s.usbQ := by
  unfold State.advanceTo
  dsimp only
  split <;> rfl
@[simp] theorem State.advanceTo_logs (t : Nat) : (s.advanceTo t).logs = s.logs := by
  unfold State.advanceTo
  dsimp only
  split <;> rfl
@[simp] theorem State.advanceTo_own (t : Nat) : (s.advanceTo t).own = s.own := by
  unfold State.advanceTo
  dsimp only
  split <;> rfl
@[simp] theorem State.advanceTo_pwr (t : Nat) : (s.advanceTo t).pwr = s.pwr := by
  unfold State.advanceTo
  dsimp only
  split <;> rfl
@[simp] theorem State.advanceTo_links (t : Nat) : (s.advanceTo t).links = s.links := by
  unfold State.advanceTo
  dsimp only
  split <;> rfl
@[simp] theorem State.advanceTo_mainLost (t : Nat) : (s.advanceTo t).mainLost = s.mainLost := by
  unfold State.advanceTo
  dsimp only
  split <;> rfl
@[simp] theorem State.advanceTo_eyes (t : Nat) : (s.advanceTo t).eyes = s.eyes := by
  unfold State.advanceTo
  dsimp only
  split <;> rfl
@[simp] theorem State.advanceTo_bc (t : Nat) : (s.advanceTo t).bc = s.bc := by
  unfold State.advanceTo
  dsimp only
  split <;> rfl
@[simp] theorem State.advanceTo_sr (t : Nat) : (s.advanceTo t).sr = s.sr := by
  unfold State.advanceTo
  dsimp only
  split <;> rfl
@[simp] theorem State.advanceTo_pl (t : Nat) : (s.advanceTo t).pl = s.pl := by
  unfold State.advanceTo
  dsimp only
  split <;> rfl
@[simp] theorem State.advanceTo_px (t : Nat) : (s.advanceTo t).px = s.px := by
  unfold State.advanceTo
  dsimp only
  split <;> rfl
@[simp] theorem State.advanceTo_oa (t : Nat) : (s.advanceTo t).oa = s.oa := by
  unfold State.advanceTo
  dsimp only
  split <;> rfl
@[simp] theorem State.advanceTo_rails (t : Nat) : (s.advanceTo t).rails = s.rails := by
  unfold State.advanceTo
  dsimp only
  split <;> rfl
@[simp] theorem State.advanceTo_et (t : Nat) : (s.advanceTo t).et = s.et := by
  unfold State.advanceTo
  dsimp only
  split <;> rfl
@[simp] theorem State.advanceTo_us (t : Nat) : (s.advanceTo t).us = s.us := by
  unfold State.advanceTo
  dsimp only
  split <;> rfl
@[simp] theorem State.advanceTo_wd (t : Nat) : (s.advanceTo t).wd = s.wd := by
  unfold State.advanceTo
  dsimp only
  split <;> rfl
@[simp] theorem State.advanceTo_tc (t : Nat) : (s.advanceTo t).tc = s.tc := by
  unfold State.advanceTo
  dsimp only
  split <;> rfl
@[simp] theorem State.advanceTo_ef (t : Nat) : (s.advanceTo t).ef = s.ef := by
  unfold State.advanceTo
  dsimp only
  split <;> rfl
@[simp] theorem State.get_advanceTo (t : Nat) (g : FRef) : (s.advanceTo t).get g = s.get g := by
  unfold State.advanceTo
  dsimp only
  split <;> rfl
@[simp] theorem State.awake_advanceTo (t : Nat) : (s.advanceTo t).awake = s.awake := by
  unfold State.advanceTo
  dsimp only
  split <;> rfl

end

/-! ### Elements of a vector -/

section
variable {α : Type} {n : Nat} [NeZero n] (v : Vector α n)

@[simp] theorem vAt_vPut_same (i : Nat) (x : α) : vAt (vPut v i x) i = x := by
  unfold vAt vPut
  rw [Vector.getElem_set_self]

theorem vAt_vPut_ne (i j : Nat) (x : α) (h : i % n ≠ j % n) : vAt (vPut v i x) j = vAt v j := by
  unfold vAt vPut
  rw [Vector.getElem_set_ne _ _ h]

@[simp] theorem vAt_vMod_same (i : Nat) (f : α → α) : vAt (vMod v i f) i = f (vAt v i) := vAt_vPut_same v i _

theorem vAt_vMod_ne (i j : Nat) (f : α → α) (h : i % n ≠ j % n) : vAt (vMod v i f) j = vAt v j :=
  vAt_vPut_ne v i j _ h

end

section
variable (s : State)

@[simp] theorem State.link_modLink (h : Nat) (k : Link → Link) : (s.modLink h k).link h = k (s.link h) := vAt_vMod_same _ h k
@[simp] theorem State.agent_modAgent (a : Nat) (k : MgmtAgent → MgmtAgent) : (s.modAgent a k).agent a = k (s.agent a) :=
  vAt_vMod_same _ a k
@[simp] theorem State.queue_modQueue (q : Nat) (k : BQueue → BQueue) : (s.modQueue q k).queue q = k (s.queue q) :=
  vAt_vMod_same _ q k

end

end Sys2Proof.Machine
end

