-- ==== Sys2Proof/Laws/Stripe.lean ====
section
/-! SUPPORT. Laws/Stripe.lean: what sending a block on a host port can do: more goes out, and that port's transmitter moves on. -/
namespace Sys2Proof.Machine

variable {s t u : State} {h : Nat}

theorem State.SendsOnly.refl (s : State) (h : Nat) : s.SendsOnly s h := ⟨rfl, ⟨[], rfl⟩, rfl, fun _ _ => rfl⟩

theorem State.SendsOnly.trans (a : s.SendsOnly t h) (b : t.SendsOnly u h) : s.SendsOnly u h := by
  refine ⟨?_, ?_, ?_, fun k hk => (b.others k hk).trans (a.others k hk)⟩
  · rw [b.same, a.same]
  · obtain ⟨l, hl⟩ := a.sent
    obtain ⟨m, hm⟩ := b.sent
    exact ⟨m ++ l, by rw [hm, hl, List.append_assoc]⟩
  · rw [b.link, a.link]

/-- What went out stays out. -/
theorem State.SendsOnly.mem (a : s.SendsOnly t h) {e : Emit} (he : e ∈ s.out) : e ∈ t.out := by
  obtain ⟨l, hl⟩ := a.sent
  rw [hl]
  exact List.mem_append_right l he

/-- The registers stay. -/
theorem State.SendsOnly.get (a : s.SendsOnly t h) (f : FRef) : t.get f = s.get f :=
  State.get_congr (by rw [a.same]) f

theorem State.emit_sends (e : Emit) : s.SendsOnly (s.emit e) h := ⟨rfl, ⟨[e], rfl⟩, rfl, fun _ _ => rfl⟩

theorem State.modTx_sends (f : Stripe → Stripe) : s.SendsOnly (s.modTx h f) h := by
  refine ⟨rfl, ⟨[], rfl⟩, ?_, fun k hk => vAt_vMod_ne _ _ _ _ (Ne.symm hk)⟩
  unfold State.modTx State.link State.modLink
  simp

theorem State.each_sends (l : List Nat) (f : State → Nat → State) (hf : ∀ (t : State) (n : Nat), t.SendsOnly (f t n) h) :
    s.SendsOnly (s.each l f) h :=
  foldl_inv (fun t => s.SendsOnly t h) f (fun t n ht => ht.trans (hf t n)) l s (State.SendsOnly.refl s h)

theorem State.iff_sends (c : Bool) (f : State → State) (hf : ∀ t : State, t.SendsOnly (f t) h) :
    s.SendsOnly (s.iff c f) h := by
  unfold State.iff
  split
  · exact hf s
  · exact State.SendsOnly.refl s h

theorem State.putBlk_sends (p : Nat) (b : Blk) : s.SendsOnly (s.putBlk h p b) h :=
  (State.modTx_sends _).trans (State.emit_sends _)

theorem State.sealWord_sends (p : Nat) : s.SendsOnly (s.sealWord h p) h := by
  unfold State.sealWord
  dsimp only
  split
  · exact State.SendsOnly.refl s h
  · exact (State.modTx_sends _).trans (State.emit_sends _)

theorem State.endRow_sends : s.SendsOnly (s.endRow h) h := by
  unfold State.endRow
  dsimp only
  split
  · exact State.modTx_sends _
  · exact (State.each_sends _ _ fun _ _ => State.sealWord_sends _).trans (State.modTx_sends _)

theorem State.putMarker_sends (p act : Nat) (join : Bool) : s.SendsOnly (s.putMarker h p act join) h := by
  unfold State.putMarker
  dsimp only
  exact ((State.emit_sends _).trans (State.putBlk_sends _ _)).trans (State.modTx_sends _)

theorem State.markerRow_sends : s.SendsOnly (s.markerRow h) h := by
  unfold State.markerRow
  dsimp only
  split
  · exact (State.each_sends _ _ fun _ _ => State.putMarker_sends _ _ _).trans State.endRow_sends
  · exact State.SendsOnly.refl s h

theorem State.openRow_sends : s.SendsOnly (s.openRow h) h := by
  unfold State.openRow
  split
  · exact State.markerRow_sends.trans (State.modTx_sends _)
  · exact State.SendsOnly.refl s h

/-- A block that is dealt into the stripe. -/
theorem State.deal_sends (b : Blk) : s.SendsOnly (s.deal h b) h := by
  unfold State.deal
  dsimp only
  refine State.openRow_sends.trans ?_
  split
  · exact ((State.putBlk_sends _ _).trans (State.modTx_sends _)).trans (State.iff_sends _ _ fun _ => State.endRow_sends)
  · exact State.SendsOnly.refl _ h

theorem State.dealIdle_sends : s.SendsOnly (s.dealIdle h) h := State.deal_sends _

theorem State.fillRow_sends : s.SendsOnly (s.fillRow h) h :=
  State.each_sends _ _ fun _ _ => State.iff_sends _ _ fun _ => State.dealIdle_sends

theorem State.fillWord_sends : s.SendsOnly (s.fillWord h) h :=
  State.each_sends _ _ fun _ _ => State.iff_sends _ _ fun _ => State.dealIdle_sends

theorem State.putLone_sends (p : Nat) (b : Blk) : s.SendsOnly (s.putLone h p b) h :=
  (State.putBlk_sends _ _).trans (State.sealWord_sends _)

theorem State.finishWord_sends (p : Nat) (b : Blk) : s.SendsOnly (s.finishWord h p b) h :=
  State.each_sends _ _ fun _ _ => State.iff_sends _ _ fun _ => State.putLone_sends _ _

/-- A control block that goes out on a named pair. -/
theorem State.sendCtl_sends (p x : Nat) : s.SendsOnly (s.sendCtl h p x) h := by
  unfold State.sendCtl
  dsimp only
  refine (State.emit_sends (.ctl h p (x % 2 ^ 64))).trans ?_
  split
  · exact State.emit_sends _
  · split
    · exact (State.each_sends _ _ fun _ _ => State.iff_sends _ _ fun _ => State.dealIdle_sends).trans (State.deal_sends _)
    · exact State.putLone_sends _ _

/-- A control block that joins the stream. -/
theorem State.sendUpCtl_sends (x : Nat) : s.SendsOnly (s.sendUpCtl h x) h :=
  ((State.emit_sends _).trans (State.deal_sends _)).trans (State.modTx_sends _)

/-- One of the link layer's own blocks goes out, or waits for its place. -/
theorem State.sendOwn_sends (x : Nat) : s.SendsOnly (s.sendOwn h x) h := by
  unfold State.sendOwn
  split
  · exact State.sendUpCtl_sends _
  · exact State.modTx_sends _

theorem State.sendBeacon_sends (x : Nat) : s.SendsOnly (s.sendBeacon h x) h :=
  State.fillRow_sends.trans (State.sendUpCtl_sends _)

theorem State.sendAround_sends (l x : Nat) : s.SendsOnly (s.sendAround h l x) h := by
  unfold State.sendAround
  split
  · exact State.SendsOnly.refl s h
  · exact (State.each_sends _ _ fun _ _ => State.iff_sends _ _ fun _ => State.dealIdle_sends).trans (State.sendOwn_sends _)

/-- The block of a control payload is among what went out. -/
theorem State.sendCtl_mem (p x : Nat) : .ctl h p (x % 2 ^ 64) ∈ (s.sendCtl h p x).out := by
  have a : (s.emit (.ctl h p (x % 2 ^ 64))).SendsOnly (s.sendCtl h p x) h := by
    unfold State.sendCtl
    dsimp only
    split
    · exact State.emit_sends _
    · split
      · exact (State.each_sends _ _ fun _ _ => State.iff_sends _ _ fun _ => State.dealIdle_sends).trans (State.deal_sends _)
      · exact State.putLone_sends _ _
  exact a.mem List.mem_cons_self

theorem State.sendUpCtl_mem (x : Nat) : .ctl h (s.nextPair h) (x % 2 ^ 64) ∈ (s.sendUpCtl h x).out := by
  have a : (s.emit (.ctl h (s.nextPair h) (x % 2 ^ 64))).SendsOnly (s.sendUpCtl h x) h :=
    (State.deal_sends _).trans (State.modTx_sends _)
  exact a.mem List.mem_cons_self

/-- A TRAIN block: it goes out, a free value is used up for READY, and nothing else changes but the transmitter. -/
theorem State.sendTrain_sends (on pair sub f : Nat) : s.SendsOnly { s.sendTrain h on pair sub f with free := s.free } h := by
  have a : s.SendsOnly (s.sendCtl h on (trainBlock pair 1 sub (s.freeVal 1) f)) h := State.sendCtl_sends _ _
  have e : s.free = (s.sendCtl h on (trainBlock pair 1 sub (s.freeVal 1) f)).free := by rw [a.same]
  unfold State.sendTrain State.took
  rw [e]
  exact a

/-- A TRAIN block changes what goes out, the links and the count of free values, and no other field. -/
theorem State.sendTrain_frame (on pair sub f : Nat) :
    s.sendTrain h on pair sub f = { s with out := (s.sendTrain h on pair sub f).out, free := s.free + 1,
                                           links := (s.sendTrain h on pair sub f).links } := by
  have a : s.SendsOnly (s.sendCtl h on (trainBlock pair 1 sub (s.freeVal 1) f)) h := State.sendCtl_sends _ _
  conv => lhs; unfold State.sendTrain State.took; rw [a.same]
  unfold State.sendTrain State.took
  rfl

/-- Of its link a TRAIN block changes the transmitter alone. -/
theorem State.sendTrain_link (on pair sub f : Nat) :
    (s.sendTrain h on pair sub f).link h = { s.link h with tx := ((s.sendTrain h on pair sub f).link h).tx } :=
  (State.sendTrain_sends on pair sub f).link

/-- The registers stay as they are when a TRAIN block goes out. -/
theorem State.sendTrain_get (on pair sub f : Nat) (r : FRef) : (s.sendTrain h on pair sub f).get r = s.get r :=
  (State.sendTrain_sends on pair sub f).get r

/-- Of its link SPEED_SEL changes the transmitter alone. -/
theorem State.speedSel_link (go : Bool) : ∃ x, (s.speedSel h go).link h = { s.link h with tx := x } := by
  unfold State.speedSel State.each
  refine foldl_inv (fun t : State => ∃ x, t.link h = { s.link h with tx := x }) _ ?_ _ _ ⟨_, rfl⟩
  intro t p ⟨x, hx⟩
  exact ⟨_, by rw [State.sendTrain_link, hx]⟩

end Sys2Proof.Machine
end

