-- ==== Sys2Proof/Laws/Units.lean ====
section
/-! SUPPORT. Laws/Units.lean: an update of one Type-C port, one e-fuse channel, one PCIe port, one field bus or one port
view leaves every other part of the state, and its own part reads as the update gives it. -/
namespace Sys2Proof.Machine

variable (s : State)

@[simp] theorem State.modTc_pending (p : Nat) (k : TcPort → TcPort) : (s.modTc p k).pending = s.pending := rfl
@[simp] theorem State.modTc_out (p : Nat) (k : TcPort → TcPort) : (s.modTc p k).out = s.out := rfl
@[simp] theorem State.modTc_free (p : Nat) (k : TcPort → TcPort) : (s.modTc p k).free = s.free := rfl
@[simp] theorem State.modTc_regs (p : Nat) (k : TcPort → TcPort) : (s.modTc p k).regs = s.regs := rfl
@[simp] theorem State.modTc_clock (p : Nat) (k : TcPort → TcPort) : (s.modTc p k).clock = s.clock := rfl
@[simp] theorem State.modTc_router (p : Nat) (k : TcPort → TcPort) : (s.modTc p k).router = s.router := rfl
@[simp] theorem State.modTc_img (p : Nat) (k : TcPort → TcPort) : (s.modTc p k).img = s.img := rfl
@[simp] theorem State.modTc_mgmt (p : Nat) (k : TcPort → TcPort) : (s.modTc p k).mgmt = s.mgmt := rfl
@[simp] theorem State.modTc_arb (p : Nat) (k : TcPort → TcPort) : (s.modTc p k).arb = s.arb := rfl
@[simp] theorem State.modTc_spiQ (p : Nat) (k : TcPort → TcPort) : (s.modTc p k).spiQ = s.spiQ := rfl
@[simp] theorem State.modTc_usbQ (p : Nat) (k : TcPort → TcPort) : (s.modTc p k).usbQ = s.usbQ := rfl
@[simp] theorem State.modTc_logs (p : Nat) (k : TcPort → TcPort) : (s.modTc p k).logs = s.logs := rfl
@[simp] theorem State.modTc_own (p : Nat) (k : TcPort → TcPort) : (s.modTc p k).own = s.own := rfl
@[simp] theorem State.modTc_pwr (p : Nat) (k : TcPort → TcPort) : (s.modTc p k).pwr = s.pwr := rfl
@[simp] theorem State.modTc_links (p : Nat) (k : TcPort → TcPort) : (s.modTc p k).links = s.links := rfl
@[simp] theorem State.modTc_mainLost (p : Nat) (k : TcPort → TcPort) : (s.modTc p k).mainLost = s.mainLost := rfl
@[simp] theorem State.modTc_eyes (p : Nat) (k : TcPort → TcPort) : (s.modTc p k).eyes = s.eyes := rfl
@[simp] theorem State.modTc_bc (p : Nat) (k : TcPort → TcPort) : (s.modTc p k).bc = s.bc := rfl
@[simp] theorem State.modTc_sr (p : Nat) (k : TcPort → TcPort) : (s.modTc p k).sr = s.sr := rfl
@[simp] theorem State.modTc_pl (p : Nat) (k : TcPort → TcPort) : (s.modTc p k).pl = s.pl := rfl
@[simp] theorem State.modTc_px (p : Nat) (k : TcPort → TcPort) : (s.modTc p k).px = s.px := rfl
@[simp] theorem State.modTc_oa (p : Nat) (k : TcPort → TcPort) : (s.modTc p k).oa = s.oa := rfl
@[simp] theorem State.modTc_rails (p : Nat) (k : TcPort → TcPort) : (s.modTc p k).rails = s.rails := rfl
@[simp] theorem State.modTc_et (p : Nat) (k : TcPort → TcPort) : (s.modTc p k).et = s.et := rfl
@[simp] theorem State.modTc_us (p : Nat) (k : TcPort → TcPort) : (s.modTc p k).us = s.us := rfl
@[simp] theorem State.modTc_wd (p : Nat) (k : TcPort → TcPort) : (s.modTc p k).wd = s.wd := rfl
@[simp] theorem State.modTc_ef (p : Nat) (k : TcPort → TcPort) : (s.modTc p k).ef = s.ef := rfl
@[simp] theorem State.get_modTc (p : Nat) (k : TcPort → TcPort) (g : FRef) : (s.modTc p k).get g = s.get g := rfl
@[simp] theorem State.tcp_modTc (p : Nat) (k : TcPort → TcPort) : (s.modTc p k).tcp p = k (s.tcp p) := vAt_vMod_same _ p k

@[simp] theorem State.modEf_pending (c : Nat) (k : EfChan → EfChan) : (s.modEf c k).pending = s.pending := rfl
@[simp] theorem State.modEf_out (c : Nat) (k : EfChan → EfChan) : (s.modEf c k).out = s.out := rfl
@[simp] theorem State.modEf_free (c : Nat) (k : EfChan → EfChan) : (s.modEf c k).free = s.free := rfl
@[simp] theorem State.modEf_regs (c : Nat) (k : EfChan → EfChan) : (s.modEf c k).regs = s.regs := rfl
@[simp] theorem State.modEf_clock (c : Nat) (k : EfChan → EfChan) : (s.modEf c k).clock = s.clock := rfl
@[simp] theorem State.modEf_router (c : Nat) (k : EfChan → EfChan) : (s.modEf c k).router = s.router := rfl
@[simp] theorem State.modEf_img (c : Nat) (k : EfChan → EfChan) : (s.modEf c k).img = s.img := rfl
@[simp] theorem State.modEf_mgmt (c : Nat) (k : EfChan → EfChan) : (s.modEf c k).mgmt = s.mgmt := rfl
@[simp] theorem State.modEf_arb (c : Nat) (k : EfChan → EfChan) : (s.modEf c k).arb = s.arb := rfl
@[simp] theorem State.modEf_spiQ (c : Nat) (k : EfChan → EfChan) : (s.modEf c k).spiQ = s.spiQ := rfl
@[simp] theorem State.modEf_usbQ (c : Nat) (k : EfChan → EfChan) : (s.modEf c k).usbQ = s.usbQ := rfl
@[simp] theorem State.modEf_logs (c : Nat) (k : EfChan → EfChan) : (s.modEf c k).logs = s.logs := rfl
@[simp] theorem State.modEf_own (c : Nat) (k : EfChan → EfChan) : (s.modEf c k).own = s.own := rfl
@[simp] theorem State.modEf_pwr (c : Nat) (k : EfChan → EfChan) : (s.modEf c k).pwr = s.pwr := rfl
@[simp] theorem State.modEf_links (c : Nat) (k : EfChan → EfChan) : (s.modEf c k).links = s.links := rfl
@[simp] theorem State.modEf_mainLost (c : Nat) (k : EfChan → EfChan) : (s.modEf c k).mainLost = s.mainLost := rfl
@[simp] theorem State.modEf_eyes (c : Nat) (k : EfChan → EfChan) : (s.modEf c k).eyes = s.eyes := rfl
@[simp] theorem State.modEf_bc (c : Nat) (k : EfChan → EfChan) : (s.modEf c k).bc = s.bc := rfl
@[simp] theorem State.modEf_sr (c : Nat) (k : EfChan → EfChan) : (s.modEf c k).sr = s.sr := rfl
@[simp] theorem State.modEf_pl (c : Nat) (k : EfChan → EfChan) : (s.modEf c k).pl = s.pl := rfl
@[simp] theorem State.modEf_px (c : Nat) (k : EfChan → EfChan) : (s.modEf c k).px = s.px := rfl
@[simp] theorem State.modEf_oa (c : Nat) (k : EfChan → EfChan) : (s.modEf c k).oa = s.oa := rfl
@[simp] theorem State.modEf_rails (c : Nat) (k : EfChan → EfChan) : (s.modEf c k).rails = s.rails := rfl
@[simp] theorem State.modEf_et (c : Nat) (k : EfChan → EfChan) : (s.modEf c k).et = s.et := rfl
@[simp] theorem State.modEf_us (c : Nat) (k : EfChan → EfChan) : (s.modEf c k).us = s.us := rfl
@[simp] theorem State.modEf_wd (c : Nat) (k : EfChan → EfChan) : (s.modEf c k).wd = s.wd := rfl
@[simp] theorem State.modEf_tc (c : Nat) (k : EfChan → EfChan) : (s.modEf c k).tc = s.tc := rfl
@[simp] theorem State.get_modEf (c : Nat) (k : EfChan → EfChan) (g : FRef) : (s.modEf c k).get g = s.get g := rfl
@[simp] theorem State.efc_modEf (c : Nat) (k : EfChan → EfChan) : (s.modEf c k).efc c = k (s.efc c) := vAt_vMod_same _ c k

@[simp] theorem State.modPc_pending (p : Nat) (k : PcPort → PcPort) : (s.modPc p k).pending = s.pending := rfl
@[simp] theorem State.modPc_out (p : Nat) (k : PcPort → PcPort) : (s.modPc p k).out = s.out := rfl
@[simp] theorem State.modPc_free (p : Nat) (k : PcPort → PcPort) : (s.modPc p k).free = s.free := rfl
@[simp] theorem State.modPc_regs (p : Nat) (k : PcPort → PcPort) : (s.modPc p k).regs = s.regs := rfl
@[simp] theorem State.modPc_clock (p : Nat) (k : PcPort → PcPort) : (s.modPc p k).clock = s.clock := rfl
@[simp] theorem State.modPc_router (p : Nat) (k : PcPort → PcPort) : (s.modPc p k).router = s.router := rfl
@[simp] theorem State.modPc_img (p : Nat) (k : PcPort → PcPort) : (s.modPc p k).img = s.img := rfl
@[simp] theorem State.modPc_mgmt (p : Nat) (k : PcPort → PcPort) : (s.modPc p k).mgmt = s.mgmt := rfl
@[simp] theorem State.modPc_arb (p : Nat) (k : PcPort → PcPort) : (s.modPc p k).arb = s.arb := rfl
@[simp] theorem State.modPc_spiQ (p : Nat) (k : PcPort → PcPort) : (s.modPc p k).spiQ = s.spiQ := rfl
@[simp] theorem State.modPc_usbQ (p : Nat) (k : PcPort → PcPort) : (s.modPc p k).usbQ = s.usbQ := rfl
@[simp] theorem State.modPc_logs (p : Nat) (k : PcPort → PcPort) : (s.modPc p k).logs = s.logs := rfl
@[simp] theorem State.modPc_own (p : Nat) (k : PcPort → PcPort) : (s.modPc p k).own = s.own := rfl
@[simp] theorem State.modPc_pwr (p : Nat) (k : PcPort → PcPort) : (s.modPc p k).pwr = s.pwr := rfl
@[simp] theorem State.modPc_links (p : Nat) (k : PcPort → PcPort) : (s.modPc p k).links = s.links := rfl
@[simp] theorem State.modPc_mainLost (p : Nat) (k : PcPort → PcPort) : (s.modPc p k).mainLost = s.mainLost := rfl
@[simp] theorem State.modPc_eyes (p : Nat) (k : PcPort → PcPort) : (s.modPc p k).eyes = s.eyes := rfl
@[simp] theorem State.modPc_bc (p : Nat) (k : PcPort → PcPort) : (s.modPc p k).bc = s.bc := rfl
@[simp] theorem State.modPc_sr (p : Nat) (k : PcPort → PcPort) : (s.modPc p k).sr = s.sr := rfl
@[simp] theorem State.modPc_pl (p : Nat) (k : PcPort → PcPort) : (s.modPc p k).pl = s.pl := rfl
@[simp] theorem State.modPc_oa (p : Nat) (k : PcPort → PcPort) : (s.modPc p k).oa = s.oa := rfl
@[simp] theorem State.modPc_rails (p : Nat) (k : PcPort → PcPort) : (s.modPc p k).rails = s.rails := rfl
@[simp] theorem State.modPc_et (p : Nat) (k : PcPort → PcPort) : (s.modPc p k).et = s.et := rfl
@[simp] theorem State.modPc_us (p : Nat) (k : PcPort → PcPort) : (s.modPc p k).us = s.us := rfl
@[simp] theorem State.modPc_wd (p : Nat) (k : PcPort → PcPort) : (s.modPc p k).wd = s.wd := rfl
@[simp] theorem State.modPc_tc (p : Nat) (k : PcPort → PcPort) : (s.modPc p k).tc = s.tc := rfl
@[simp] theorem State.modPc_ef (p : Nat) (k : PcPort → PcPort) : (s.modPc p k).ef = s.ef := rfl
@[simp] theorem State.get_modPc (p : Nat) (k : PcPort → PcPort) (g : FRef) : (s.modPc p k).get g = s.get g := rfl
@[simp] theorem State.pc_modPc (p : Nat) (k : PcPort → PcPort) : (s.modPc p k).pc p = k (s.pc p) := vAt_vMod_same _ p k

@[simp] theorem State.modFb_pending (b : Nat) (k : FieldBus → FieldBus) : (s.modFb b k).pending = s.pending := rfl
@[simp] theorem State.modFb_out (b : Nat) (k : FieldBus → FieldBus) : (s.modFb b k).out = s.out := rfl
@[simp] theorem State.modFb_free (b : Nat) (k : FieldBus → FieldBus) : (s.modFb b k).free = s.free := rfl
@[simp] theorem State.modFb_regs (b : Nat) (k : FieldBus → FieldBus) : (s.modFb b k).regs = s.regs := rfl
@[simp] theorem State.modFb_clock (b : Nat) (k : FieldBus → FieldBus) : (s.modFb b k).clock = s.clock := rfl
@[simp] theorem State.modFb_router (b : Nat) (k : FieldBus → FieldBus) : (s.modFb b k).router = s.router := rfl
@[simp] theorem State.modFb_img (b : Nat) (k : FieldBus → FieldBus) : (s.modFb b k).img = s.img := rfl
@[simp] theorem State.modFb_mgmt (b : Nat) (k : FieldBus → FieldBus) : (s.modFb b k).mgmt = s.mgmt := rfl
@[simp] theorem State.modFb_arb (b : Nat) (k : FieldBus → FieldBus) : (s.modFb b k).arb = s.arb := rfl
@[simp] theorem State.modFb_spiQ (b : Nat) (k : FieldBus → FieldBus) : (s.modFb b k).spiQ = s.spiQ := rfl
@[simp] theorem State.modFb_usbQ (b : Nat) (k : FieldBus → FieldBus) : (s.modFb b k).usbQ = s.usbQ := rfl
@[simp] theorem State.modFb_logs (b : Nat) (k : FieldBus → FieldBus) : (s.modFb b k).logs = s.logs := rfl
@[simp] theorem State.modFb_own (b : Nat) (k : FieldBus → FieldBus) : (s.modFb b k).own = s.own := rfl
@[simp] theorem State.modFb_pwr (b : Nat) (k : FieldBus → FieldBus) : (s.modFb b k).pwr = s.pwr := rfl
@[simp] theorem State.modFb_links (b : Nat) (k : FieldBus → FieldBus) : (s.modFb b k).links = s.links := rfl
@[simp] theorem State.modFb_mainLost (b : Nat) (k : FieldBus → FieldBus) : (s.modFb b k).mainLost = s.mainLost := rfl
@[simp] theorem State.modFb_eyes (b : Nat) (k : FieldBus → FieldBus) : (s.modFb b k).eyes = s.eyes := rfl
@[simp] theorem State.modFb_bc (b : Nat) (k : FieldBus → FieldBus) : (s.modFb b k).bc = s.bc := rfl
@[simp] theorem State.modFb_sr (b : Nat) (k : FieldBus → FieldBus) : (s.modFb b k).sr = s.sr := rfl
@[simp] theorem State.modFb_pl (b : Nat) (k : FieldBus → FieldBus) : (s.modFb b k).pl = s.pl := rfl
@[simp] theorem State.modFb_px (b : Nat) (k : FieldBus → FieldBus) : (s.modFb b k).px = s.px := rfl
@[simp] theorem State.modFb_oa (b : Nat) (k : FieldBus → FieldBus) : (s.modFb b k).oa = s.oa := rfl
@[simp] theorem State.modFb_rails (b : Nat) (k : FieldBus → FieldBus) : (s.modFb b k).rails = s.rails := rfl
@[simp] theorem State.modFb_et (b : Nat) (k : FieldBus → FieldBus) : (s.modFb b k).et = s.et := rfl
@[simp] theorem State.modFb_us (b : Nat) (k : FieldBus → FieldBus) : (s.modFb b k).us = s.us := rfl
@[simp] theorem State.modFb_tc (b : Nat) (k : FieldBus → FieldBus) : (s.modFb b k).tc = s.tc := rfl
@[simp] theorem State.modFb_ef (b : Nat) (k : FieldBus → FieldBus) : (s.modFb b k).ef = s.ef := rfl
@[simp] theorem State.get_modFb (b : Nat) (k : FieldBus → FieldBus) (g : FRef) : (s.modFb b k).get g = s.get g := rfl
@[simp] theorem State.fb_modFb (b : Nat) (k : FieldBus → FieldBus) : (s.modFb b k).fb b = k (s.fb b) := vAt_vMod_same _ b k

@[simp] theorem State.modView_pending (h n : Nat) (k : View → View) : (s.modView h n k).pending = s.pending := rfl
@[simp] theorem State.modView_out (h n : Nat) (k : View → View) : (s.modView h n k).out = s.out := rfl
@[simp] theorem State.modView_free (h n : Nat) (k : View → View) : (s.modView h n k).free = s.free := rfl
@[simp] theorem State.modView_regs (h n : Nat) (k : View → View) : (s.modView h n k).regs = s.regs := rfl
@[simp] theorem State.modView_clock (h n : Nat) (k : View → View) : (s.modView h n k).clock = s.clock := rfl
@[simp] theorem State.modView_router (h n : Nat) (k : View → View) : (s.modView h n k).router = s.router := rfl
@[simp] theorem State.modView_img (h n : Nat) (k : View → View) : (s.modView h n k).img = s.img := rfl
@[simp] theorem State.modView_mgmt (h n : Nat) (k : View → View) : (s.modView h n k).mgmt = s.mgmt := rfl
@[simp] theorem State.modView_arb (h n : Nat) (k : View → View) : (s.modView h n k).arb = s.arb := rfl
@[simp] theorem State.modView_spiQ (h n : Nat) (k : View → View) : (s.modView h n k).spiQ = s.spiQ := rfl
@[simp] theorem State.modView_usbQ (h n : Nat) (k : View → View) : (s.modView h n k).usbQ = s.usbQ := rfl
@[simp] theorem State.modView_logs (h n : Nat) (k : View → View) : (s.modView h n k).logs = s.logs := rfl
@[simp] theorem State.modView_own (h n : Nat) (k : View → View) : (s.modView h n k).own = s.own := rfl
@[simp] theorem State.modView_pwr (h n : Nat) (k : View → View) : (s.modView h n k).pwr = s.pwr := rfl
@[simp] theorem State.modView_links (h n : Nat) (k : View → View) : (s.modView h n k).links = s.links := rfl
@[simp] theorem State.modView_mainLost (h n : Nat) (k : View → View) : (s.modView h n k).mainLost = s.mainLost := rfl
@[simp] theorem State.modView_eyes (h n : Nat) (k : View → View) : (s.modView h n k).eyes = s.eyes := rfl
@[simp] theorem State.modView_bc (h n : Nat) (k : View → View) : (s.modView h n k).bc = s.bc := rfl
@[simp] theorem State.modView_sr (h n : Nat) (k : View → View) : (s.modView h n k).sr = s.sr := rfl
@[simp] theorem State.modView_pl (h n : Nat) (k : View → View) : (s.modView h n k).pl = s.pl := rfl
@[simp] theorem State.modView_px (h n : Nat) (k : View → View) : (s.modView h n k).px = s.px := rfl
@[simp] theorem State.modView_oa (h n : Nat) (k : View → View) : (s.modView h n k).oa = s.oa := rfl
@[simp] theorem State.modView_rails (h n : Nat) (k : View → View) : (s.modView h n k).rails = s.rails := rfl
@[simp] theorem State.modView_et (h n : Nat) (k : View → View) : (s.modView h n k).et = s.et := rfl
@[simp] theorem State.modView_wd (h n : Nat) (k : View → View) : (s.modView h n k).wd = s.wd := rfl
@[simp] theorem State.modView_tc (h n : Nat) (k : View → View) : (s.modView h n k).tc = s.tc := rfl
@[simp] theorem State.modView_ef (h n : Nat) (k : View → View) : (s.modView h n k).ef = s.ef := rfl
@[simp] theorem State.get_modView (h n : Nat) (k : View → View) (g : FRef) : (s.modView h n k).get g = s.get g := rfl

end Sys2Proof.Machine
end

