-- ==== Sys2Proof/Laws/Writes.lean ====
section
/-! SUPPORT. Laws/Writes.lean: what a frame or a register write that the hub takes comes to: the frame's action on the state it
came in, and the write of the one word. -/
namespace Sys2Proof.Machine

/-- A frame that is admitted is carried out at once, and its agent's turn is over. -/
theorem State.arrive_admits {s : State} {a : Nat} {tr : Transport} {f : Frame} (h : s.Admits a tr f) (act : State → State) :
    s.arrive a tr f act = act (s.passTurn a) := by
  unfold State.arrive State.serve
  rw [h.opened, h.awake, h.first, h.turn, h.room, h.judged]
  rfl

/-- A word's field is the same before and after it is cut to 32 bits. -/
theorem bitsOf_w32 (v l w : Nat) (h : l + w ≤ 32) : bitsOf (w32 v).toNat l w = bitsOf v l w := by
  unfold bitsOf w32
  rw [BitVec.toNat_ofNat]
  obtain ⟨k, hk⟩ := Nat.exists_eq_add_of_le h
  rw [hk, Nat.pow_add, Nat.pow_add, Nat.mul_assoc, Nat.mod_mul_right_div_self, Nat.mod_mul_right_mod]

/-- OPCODE of a frame that a command makes. -/
theorem frameOp_mk (op tag len flags addr : Nat) (ws : List Word) (h : op < 256) :
    frameOp (mkFrame op tag len flags addr ws) = op := by
  unfold frameOp mkFrame bitsOf w32
  simp only [BitVec.toNat_ofNat]
  omega

/-- TAG of a frame that a command makes. -/
theorem frameTag_mk (op len flags addr : Nat) (tag : Byte) (ws : List Word) :
    frameTag (mkFrame op tag.toNat len flags addr ws) = tag.toNat := by
  have := tag.isLt
  unfold frameTag mkFrame bitsOf w32
  simp only [BitVec.toNat_ofNat]
  omega

/-- LEN of a frame that a command makes. -/
theorem frameLen_mk (op tag len flags addr : Nat) (ws : List Word) (h : len < 4096) :
    frameLen (mkFrame op tag len flags addr ws) = len := by
  unfold frameLen mkFrame bitsOf w32
  simp only [BitVec.toNat_ofNat]
  omega

/-- ADDRESS of a frame that a command makes. -/
theorem frameAddr_mk (op tag len flags : Nat) (addr : Word) (ws : List Word) :
    (mkFrame op tag len flags addr.toNat ws).w1 = addr := by
  simp [mkFrame, w32]

/-- The payload of a frame that a command makes. -/
theorem framePayload_mk (op tag len flags addr : Nat) (ws : List Word) :
    (mkFrame op tag len flags addr ws).payload = ws := rfl

/-- FLAGS of a frame that a command makes. -/
theorem frameBit_mk (op tag len flags addr i : Nat) (ws : List Word) (h : i < 4) :
    bitAt (mkFrame op tag len flags addr ws).w0.toNat (28 + i) = bitAt (flags % 16) i := by
  have hi : i = 0 ∨ i = 1 ∨ i = 2 ∨ i = 3 := by omega
  unfold mkFrame bitAt w32
  simp only [BitVec.toNat_ofNat, Nat.testBit_eq_decide_div_mod_eq, decide_eq_decide]
  rcases hi with rfl | rfl | rfl | rfl <;> simp only [Nat.reducePow, Nat.reduceAdd] <;> omega

/-- FLAGS.FIXED of a frame that a command makes. -/
theorem frameFixed_mk (op tag len flags addr : Nat) (ws : List Word) :
    frameFixed (mkFrame op tag len flags addr ws) = bitAt (flags % 16) 0 := frameBit_mk op tag len flags addr 0 ws (by decide)

/-- FLAGS.ACK of a frame that a command makes. -/
theorem frameAck_mk (op tag len flags addr : Nat) (ws : List Word) :
    frameAck (mkFrame op tag len flags addr ws) = bitAt (flags % 16) 1 := frameBit_mk op tag len flags addr 1 ws (by decide)

/-- The one word of a one-word WRITE and its address. -/
theorem frameWrites_one (addr : Nat) (w : Word) (h : addr < 2 ^ 32) :
    frameWrites (mkFrame 2 1 1 0 addr [w]) = [(addr, w)] := by
  simp [frameWrites, frameAddrs, frameLen, frameFixed, mkFrame, spanAddrs, bitsOf, bitAt, w32]
  omega

/-- A word that the hub takes is written to its register. -/
theorem State.wordsArrive_one (s : State) (a addr : Nat) (w : Word) (h : s.TakesWords a addr [w]) (ha : addr < 2 ^ 31) :
    s.wordsArrive a addr [w] = (s.writeWord a addr w.toNat).2 := by
  unfold State.wordsArrive
  have h1 := h.takes
  have h2 := h.judged
  simp only [List.length_cons, List.length_nil, Nat.zero_add] at h1 h2
  simp only [List.length_cons, List.length_nil, Nat.zero_add, h1, h2, h.outside]
  rw [frameWrites_one _ _ (by omega)]
  have h3 : s.putWord a addr w.toNat = s.writeWord a addr w.toNat := by
    unfold State.putWord
    rw [if_neg (by omega)]
  simp [State.putWords, h3]
  split <;> rfl

/-! ### A register written to change one field (R634) -/

/-- Two fields of a word share no bit. -/
def WField.apart (x y : WField) : Bool := decide (x.lsb + x.width ≤ y.lsb) || decide (y.lsb + y.width ≤ x.lsb)

/-- The fields of a register share no bit, lie in the word, and take their values at once. -/
def WField.plain (l : List WField) : Bool :=
  l.all (fun w => decide (w.lsb + w.width ≤ 32) && decide (1 ≤ w.width) && !(w.acc == .rw && w.cls == .tick))
    && decide (l.Pairwise (fun x y => x.apart y = true))

/-- Writing a field leaves one that shares no bit with it. -/
theorem bitsOf_withBits_apart {x y : WField} (h : x.apart y = true) (b v : Nat) :
    bitsOf (withBits b y.lsb y.width v) x.lsb x.width = bitsOf b x.lsb x.width := by
  unfold WField.apart at h
  simp only [Bool.or_eq_true, decide_eq_true_eq] at h
  rcases h with h | h
  · exact bitsOf_withBits_below _ _ _ _ _ _ h
  · exact bitsOf_withBits_above _ _ _ _ _ _ h

/-- Sharing no bit is symmetric. -/
theorem WField.apart_comm {x y : WField} (h : x.apart y = true) : y.apart x = true := by
  unfold WField.apart at h ⊢
  rw [Bool.or_comm]
  exact h

/-- Writing fields in turn leaves a field that shares no bit with them. -/
theorem bitsOf_foldl_apart (g : WField → Nat) (x : WField) :
    ∀ (l : List WField) (b : Nat), (∀ y ∈ l, x.apart y = true) →
      bitsOf (l.foldl (fun b y => if y.acc == .rw then withBits b y.lsb y.width (g y) else b) b) x.lsb x.width
        = bitsOf b x.lsb x.width
  | [], _, _ => rfl
  | y :: t, b, h => by
    rw [List.foldl_cons, bitsOf_foldl_apart g x t _ (fun z hz => h z (List.mem_cons_of_mem _ hz))]
    split
    · exact bitsOf_withBits_apart (h y List.mem_cons_self) _ _
    · rfl

/-- Writing the RW fields of a register in turn leaves each with its value. -/
theorem bitsOf_foldl_mem (g : WField → Nat) (x : WField) :
    ∀ (l : List WField) (b : Nat), l.Pairwise (fun x y => x.apart y = true) → x ∈ l →
      bitsOf (l.foldl (fun b y => if y.acc == .rw then withBits b y.lsb y.width (g y) else b) b) x.lsb x.width
        = if x.acc == .rw then g x % 2 ^ x.width else bitsOf b x.lsb x.width
  | y :: t, b, hp, hx => by
    rw [List.pairwise_cons] at hp
    rw [List.foldl_cons]
    rcases List.mem_cons.mp hx with rfl | hx
    · rw [bitsOf_foldl_apart g x t _ hp.1]
      split
      · rename_i h
        rw [bitsOf_withBits_same]
      · rfl
    · rw [bitsOf_foldl_mem g x t _ hp.2 hx]
      split
      · rfl
      · split
        · exact bitsOf_withBits_apart (WField.apart_comm (hp.1 x hx)) _ _
        · rfl

/-- A list of which one member alone is kept. -/
theorem filterMap_single {α β : Type} (f : α → Option β) (x : α) (y : Option β) (hy : f x = y) :
    ∀ (l : List α), l.Nodup → x ∈ l → (∀ z ∈ l, z ≠ x → f z = none) → l.filterMap f = y.toList
  | z :: t, hn, hx, hz => by
    rw [List.nodup_cons] at hn
    by_cases h : z = x
    · subst h
      have ht : t.filterMap f = [] := by
        rw [List.filterMap_eq_nil_iff]
        intro u hu
        exact hz u (List.mem_cons_of_mem _ hu) (fun e => hn.1 (e ▸ hu))
      rw [List.filterMap_cons, hy, ht]
      cases y <;> rfl
    · have h2 : f z = none := hz z List.mem_cons_self h
      rw [List.filterMap_cons, h2]
      have hx2 : x ∈ t := (List.mem_cons.mp hx).resolve_left (fun e => h e.symm)
      exact filterMap_single f x y hy t hn.2 hx2 (fun u hu => hz u (List.mem_cons_of_mem _ hu))

/-- A field's value lies in its width. -/
theorem State.get_mod (s : State) (f : FRef) : s.get f % 2 ^ f.width = s.get f := by
  unfold State.get bitsOf
  exact Nat.mod_mod _ _

/-- The word that changes one field of a register writes that field alone, and none where its value would stay. -/
theorem State.written_wordOf (s : State) (a addr : Nat) (r : WReg) (w : WField) (v : Nat) (hr : wregAt addr = some r)
    (hw : w ∈ r.fields) (hp : WField.plain r.fields = true) (hv : v < 2 ^ w.width) (hword : ∀ x, r.word x = x)
    (hal : r.always = false) (hf : ∀ y : WField, (r.fref a y).width = y.width) :
    s.written a r (w32 (s.wordWith a addr w.lsb w.width v)).toNat
      = if (match w.acc with
          | .rw => v != s.get (r.fref a w)
          | _ => v != 0) then [⟨r.fref a w, w.acc, w.cls, v⟩] else [] := by
  unfold WField.plain at hp
  simp only [Bool.and_eq_true, List.all_eq_true, decide_eq_true_eq] at hp
  obtain ⟨hall, hpw⟩ := hp
  have hsym : Std.Symm (fun x y : WField => x.apart y = true) := ⟨fun _ _ h => WField.apart_comm h⟩
  have hval : ∀ y ∈ r.fields, y ≠ w → y.apart w = true := fun y hy hne => hpw.forall hy hw hne
  have hnd : r.fields.Nodup := by
    refine hpw.imp_of_mem (fun {x y} hx hy h e => ?_)
    subst e
    have := (hall x hx).1.2
    unfold WField.apart at h
    simp only [Bool.or_eq_true, decide_eq_true_eq] at h
    omega
  have htick : ∀ y ∈ r.fields, y.acc = .rw → (y.cls == .tick) = false := by
    intro y hy he
    have := (hall y hy).2
    rw [he] at this
    simpa using this
  unfold State.written
  have hx : ∀ y ∈ r.fields, bitsOf (r.word (w32 (s.wordWith a addr w.lsb w.width v)).toNat) y.lsb y.width
      = if y = w then v else if y.acc == .rw then s.get (r.fref a y) else 0 := by
    intro y hy
    rw [hword, bitsOf_w32 _ _ _ (hall y hy).1.1]
    unfold State.wordWith
    rw [hr]
    dsimp only
    by_cases e : y = w
    · rw [if_pos e, e, bitsOf_withBits_same, Nat.mod_eq_of_lt hv]
    · rw [if_neg e, bitsOf_withBits_apart (hval y hy e), bitsOf_foldl_mem _ y _ _ hpw hy]
      split
      · rename_i he
        rw [htick y hy (by simpa using he)]
        have := State.get_mod s (r.fref a y)
        rw [hf] at this
        exact this
      · simp [bitsOf]
  refine (filterMap_single _ w _ rfl r.fields hnd hw ?_).trans ?_
  · intro y hy e
    dsimp only
    rw [hx y hy, if_neg e]
    cases ha : y.acc <;> simp [hal, htick y hy, ha]
  · dsimp only
    rw [hx w hw, if_pos rfl]
    cases ha : w.acc <;> simp [hal, htick w hw, ha] <;> split <;> rfl

/-- The same with the field spelled out. -/
theorem State.written_wordWith (s : State) (a addr : Nat) (r : WReg) (lsb width v : Nat) (acc : Acc) (cls : Cls)
    (hr : wregAt addr = some r) (hw : ⟨lsb, width, acc, cls⟩ ∈ r.fields) (hp : WField.plain r.fields = true)
    (hv : v < 2 ^ width) (hword : ∀ x, r.word x = x) (hal : r.always = false)
    (hf : ∀ y : WField, (r.fref a y).width = y.width) :
    s.written a r (w32 (s.wordWith a addr lsb width v)).toNat
      = if (match acc with
          | .rw => v != s.get (r.fref a ⟨lsb, width, acc, cls⟩)
          | _ => v != 0) then [⟨r.fref a ⟨lsb, width, acc, cls⟩, acc, cls, v⟩] else [] :=
  s.written_wordOf a addr r ⟨lsb, width, acc, cls⟩ v hr hw hp hv hword hal hf

end Sys2Proof.Machine
end

