-- ==== Sys2Proof/WellFormed.lean ====
section
/-! DEFINITION. WellFormed.lean: the checks a command's operands meet beyond their types: a packet's payload has the
length its header gives, and data that a format bounds keeps its bound: a codeword has 362 symbols (R219), a pair three eyes
(R192), at most 12 points qualify it (R201). -/
namespace Sys2Proof

/-- A packet's payload has LEN bytes, at most 1,024 (R230, R262). -/
def Packet.wf (p : Packet) : Bool :=
  p.payload.length == p.hdr.toNat / 2 ^ 10 % 2 ^ 11 && decide (p.payload.length ≤ 1024)

/-- A management frame carries at most 4,095 words (R115). -/
def dataWf (d : List Word) : Bool := decide (d.length ≤ 4095)

/-- The checks of a command. -/
def Instr.wf : Instr → Bool
  | .tickBoundary m => m.length == 8
  | .packetReceive _ _ cws bs => cws.all (fun c => decide (c.errors ≤ 362)) && decide (bs.length ≤ 512)
  | .coeffRequest _ _ ask => ask.eyes.length == 3
  | .qualificationDone _ _ (.counted es) => decide (es.length ≤ 12)
  | .grainPiece _ p => p.wf
  | .imageBegin _ _ _ _ d => dataWf d
  | .imageData _ _ _ _ d => dataWf d
  | .imageCommit _ _ _ _ d => dataWf d
  | .imagePatch _ _ _ _ d => dataWf d
  | .write _ _ _ _ _ d => dataWf d
  | .writePosted _ _ _ _ _ _ d => dataWf d
  | .auxReply _ _ d => decide (d.length ≤ 16)
  | .hpdHigh _ d => d.length == 16
  | .launchDescriptors _ ws => decide (ws.length ≤ 256)
  | .launchCancel _ ws => decide (ws.length ≤ 256)
  | .sourceCapabilities _ epr os => decide (1 ≤ os.length) && decide (os.length ≤ if epr then 11 else 7)
  | .sinkCapabilities _ os => decide (1 ≤ os.length) && decide (os.length ≤ 7)
  | .fieldTransactionEnd _ _ done d => decide (d.length ≤ done.toNat)
  | _ => true

end Sys2Proof
end

