-- ==== Sys2Proof/Tests/Slice0.lean ====
section
/-! SUPPORT. Tests/Slice0.lean: the smoke test of the well-formedness checks, the witnesses that the hypotheses of the
statements can be met, and small tests of single commands with results worked out from the spec's text. -/

namespace Sys2Proof.Machine

set_option Elab.async false

/-! ### Well-formedness: for each check a command that it refuses -/

theorem test_wf_tick_needs_eight_channels : (Instr.tickBoundary []).wf = false := by decide
theorem test_wf_codeword_errors : (Instr.packetReceive 0 0 [⟨0, 363, true⟩] []).wf = false := by decide
theorem test_wf_packet_blocks : (Instr.packetReceive 0 0 [] (List.replicate 513 ⟨1, 0⟩)).wf = false := by
  decide +kernel
theorem test_wf_packet : (Instr.packetReceive 0 0 [⟨0, 362, true⟩] (List.replicate 512 ⟨1, 0⟩)).wf = true := by
  decide +kernel
theorem test_wf_three_eyes : (Instr.coeffRequest 0 0 ⟨0, []⟩).wf = false := by decide
theorem test_wf_points : (Instr.qualificationDone 0 0 (.counted (List.replicate 13 0))).wf = false := by decide
theorem test_wf_grain_length : (Instr.grainPiece 0 ⟨1024, []⟩).wf = false := by decide
theorem test_wf_frame_words : dataWf (List.replicate 4096 0) = false := by decide +kernel
theorem test_wf_image_begin : (Instr.imageBegin 0 .spi 0 0 (List.replicate 4096 0)).wf = false := by decide +kernel
theorem test_wf_image_data : (Instr.imageData 0 .spi 0 0 (List.replicate 4096 0)).wf = false := by decide +kernel
theorem test_wf_image_commit : (Instr.imageCommit 0 .spi 0 0 (List.replicate 4096 0)).wf = false := by decide +kernel
theorem test_wf_image_patch : (Instr.imagePatch 0 .spi 0 0 (List.replicate 4096 0)).wf = false := by decide +kernel
theorem test_wf_write : (Instr.write 0 .spi 0 false 0 (List.replicate 4096 0)).wf = false := by decide +kernel
theorem test_wf_write_posted : (Instr.writePosted 0 .spi 0 false false 0 (List.replicate 4096 0)).wf = false := by
  decide +kernel
theorem test_wf_aux_reply : (Instr.auxReply 0 0 (List.replicate 17 0)).wf = false := by decide
theorem test_wf_hpd_caps : (Instr.hpdHigh 0 []).wf = false := by decide
theorem test_wf_descriptors : (Instr.launchDescriptors 0 (List.replicate 257 0)).wf = false := by decide +kernel
theorem test_wf_cancel_records : (Instr.launchCancel 0 (List.replicate 257 0)).wf = false := by decide +kernel
theorem test_wf_source_caps_spr : (Instr.sourceCapabilities ⟨0, false⟩ false (List.replicate 8 0)).wf = false := by decide
theorem test_wf_source_caps_epr : (Instr.sourceCapabilities ⟨0, false⟩ true (List.replicate 8 0)).wf = true := by decide
theorem test_wf_sink_caps : (Instr.sinkCapabilities 0 []).wf = false := by decide
theorem test_wf_field_data : (Instr.fieldTransactionEnd 0 0 0 [0]).wf = false := by decide

/-! ### Witnesses: for each statement, a state and operands that meet the hypotheses of each of its clauses together -/

/-- The fields of a list put one after the other. -/
def putAll (s : State) (l : List (FRef × Nat)) : State := l.foldl (fun s x => s.put x.1 x.2) s

/-- A hub in RUN with an image in force: time agent 0, every agent a shared writer, an image and a patch agent, every wake
and power state allowed, TIME at tick 4,000, every register 0. -/
def witBase : State :=
  { State.reset with
    regs := []
    img := { img0 with phase := .applied, recs := [⟨2, 0, 0, [0x1F1F1F00]⟩, ⟨0x11, 0, 0, [0x00FE0F1F]⟩, ⟨0x13, 0, 0, []⟩] }
    clock := { clock0 with running := true, time := 500000000, bound := 4000, choreNext := 4000000 } }

/-- That hub with the fields of a list at other values. -/
def wit (l : List (FRef × Nat)) : State := putAll witBase l

theorem putAll_sound (l : List (FRef × Nat)) : ∀ s : State, s.Sound → (putAll s l).Sound := by
  induction l with
  | nil => exact fun s h => h
  | cons x l ih => exact fun s h => ih _ (State.put_kept x.1 x.2 (Kept.refl h)).sound

theorem witBase_sound : witBase.Sound :=
  ⟨by decide +kernel, by decide +kernel, by decide +kernel, by decide +kernel, by decide +kernel, by decide +kernel⟩

theorem wit_sound (l : List (FRef × Nat)) : (wit l).Sound := putAll_sound l _ witBase_sound

/-- That hub with the fields of a list at other values and other parts changed by `f`. -/
def wits (l : List (FRef × Nat)) (f : State → State) : State := f (wit l)

/-- A change that keeps what the invariant is about, but for TIME and the capture FIFOs. -/
theorem wits_but (l : List (FRef × Nat)) (f : State → State) (a : (f (wit l)).clock.time % 4 = 0)
    (b : (f (wit l)).sr.caps.all (fun f => decide (f.recs.length ≤ 128)) = true)
    (e : ∀ s, ((f s).regs, (f s).img.flash, (f s).pl.pixels, (f s).pl.tags, (f s).logs, (f s).wd.perr, (f s).et.fdb)
      = (s.regs, s.img.flash, s.pl.pixels, s.pl.tags, s.logs, s.wd.perr, s.et.fdb)) :
    (wits l f).Sound := by
  have h := wit_sound l
  have e := e (wit l)
  simp only [Prod.mk.injEq] at e
  obtain ⟨e1, e2, e3, e4, e6, e8, e9⟩ := e
  refine ⟨?_, a, e6 ▸ h.rings, b, e8 ▸ h.perr, e9 ▸ h.fdb⟩
  have := h.cells
  unfold Memory.wf at this ⊢
  unfold wits
  rw [e1, e2, e3, e4]
  exact this

/-- A change that keeps what the invariant is about. -/
theorem wits_sound (l : List (FRef × Nat)) (f : State → State)
    (e : ∀ s, ((f s).regs, (f s).img.flash, (f s).pl.pixels, (f s).pl.tags, (f s).logs, (f s).wd.perr, (f s).et.fdb)
      = (s.regs, s.img.flash, s.pl.pixels, s.pl.tags, s.logs, s.wd.perr, s.et.fdb))
    (k : ∀ s, ((f s).clock.time, (f s).sr.caps) = (s.clock.time, s.sr.caps)) : (wits l f).Sound := by
  have h := k (wit l)
  simp only [Prod.mk.injEq] at h
  exact wits_but l f (h.1 ▸ (wit_sound l).time) (h.2 ▸ (wit_sound l).caps) e

def takesB (s : State) (a addr : Nat) (ws : List Word) : Bool :=
  s.takesWrite a (mkFrame 2 1 ws.length 0 addr ws) && !inField addr && s.writeJudge a (mkFrame 2 1 ws.length 0 addr ws) == R.ok

theorem takes_of {s : State} {a addr : Nat} {ws : List Word} (h : takesB s a addr ws = true) : s.TakesWords a addr ws := by
  simp only [takesB, Bool.and_eq_true, Bool.not_eq_true', beq_iff_eq] at h
  exact ⟨h.1.1, h.1.2, h.2⟩

def admitsB (s : State) (a : Nat) (tr : Transport) (f : Frame) : Bool :=
  !s.transportShut tr && s.awake && (s.agent a).held.isEmpty && s.mgmtRoom a tr f && !s.turnBefore a && s.frameJudge a tr f == R.ok

theorem admits_of {s : State} {a : Nat} {tr : Transport} {f : Frame} (h : admitsB s a tr f = true) : s.Admits a tr f := by
  simp only [admitsB, Bool.and_eq_true, Bool.not_eq_true', beq_iff_eq, List.isEmpty_iff] at h
  exact ⟨h.1.1.1.1.1, h.1.1.1.1.2, h.1.1.1.2, h.1.2, h.1.1.2, h.2⟩

def takesFieldB (s : State) (a addr lsb width v : Nat) : Bool := takesB s a addr [w32 (s.wordWith a addr lsb width v)]

theorem field_of {s : State} {a addr lsb width v : Nat} (h : takesFieldB s a addr lsb width v = true) :
    s.TakesField a addr lsb width v := takes_of h

/-! Three clauses have no witness here, those of BootSteps, CommitsAndPatches and LoadSessions whose hypothesis is that a
whole image or patch passes every check: the signature check among them is an uninterpreted function of Config. -/

theorem test_wit_BootSteps :
    (∃ (s : State), s.Sound ∧ s.img.phase = DevPhase.testing ∧ s.img.warm = true) ∧
    (∃ (s : State), s.Sound ∧ s.img.phase = DevPhase.testing ∧ s.img.warm = false) ∧
    (∃ (s : State), s.Sound ∧ s.img.phase = DevPhase.loading ∧ s.img.bootSlot = 0) ∧
    (∃ (s : State), s.Sound ∧ s.img.phase = DevPhase.loading ∧ s.img.pend = none ∧ s.img.bootSlot = 1 ∧
      s.bootJudge.good = none) ∧
    (∃ (s : State), s.Sound ∧ s.img.phase = DevPhase.loading ∧ s.img.pend = none ∧ s.img.bootSlot = 2 ∧
      s.bootJudge.good = none) := by
  exact ⟨
    ⟨wits [] (fun s => (s.modImg (fun i => { i with phase := .testing })).modImg (fun i => { i with warm := true })),
      wits_sound _ _ (fun _ => rfl) (fun _ => rfl), by decide +kernel⟩,
    ⟨wits [] (fun s => (s.modImg (fun i => { i with phase := .testing })).modImg (fun i => { i with warm := false })),
      wits_sound _ _ (fun _ => rfl) (fun _ => rfl), by decide +kernel⟩,
    ⟨wits [] (fun s => (s.modImg (fun i => { i with phase := .loading })).modImg (fun i => { i with bootSlot := 0 })),
      wits_sound _ _ (fun _ => rfl) (fun _ => rfl), by decide +kernel⟩,
    ⟨wits [] (fun s => ((s.modImg (fun i => { i with phase := .loading })).modImg (fun i => { i with pend := none })).modImg (fun i => { i with bootSlot := 1 })),
      wits_sound _ _ (fun _ => rfl) (fun _ => rfl), by decide +kernel⟩,
    ⟨wits [] (fun s => ((s.modImg (fun i => { i with phase := .loading })).modImg (fun i => { i with pend := none })).modImg (fun i => { i with bootSlot := 2 })),
      wits_sound _ _ (fun _ => rfl) (fun _ => rfl), by decide +kernel⟩⟩

theorem test_wit_BoundaryOrder :
    (∃ (s : State), s.counting = true ∧ s.awake = false ∧ s.reachBoundary.power ≠ 4) ∧
    (∃ (s : State), s.counting = true ∧ s.clock.time ≤ s.nextBoundary ∧ s.sr.queue = [] ∧ s.sr.seconds = []) ∧
    (∃ (s : State), s.awake = true ∧ s.counting = true ∧ s.tick = s.clock.bound) := by
  exact ⟨
    ⟨wit [(F.PWR_STATE_STATE, 2)], by decide +kernel⟩,
    ⟨wit [], by decide +kernel⟩,
    ⟨wit [], by decide +kernel⟩⟩

theorem test_wit_BridgeAndStorms :
    (∃ (s : State) (dir : Fin 2), s.Sound ∧ vAt s.oa.bridge dir.val = 2) ∧
    (∃ (s : State) (src : Fin 256), s.Sound ∧ s.router.due.contains src.val = true) ∧
    (∃ (s : State), s.Sound ∧ s.clock.time % 125000 = 0 ∧ s.tick % s.get F.EVT_STORM_CFG_WINDOW = 0) ∧
    (∃ (s : State) (a : Agent) (n : Fin 8) (v : Word), s.Sound ∧ s.TakesWords a.val (196768 + 4 * n.val) [v]) := by
  exact ⟨
    ⟨wits [] (fun s => { s with oa := { s.oa with bridge := vPut s.oa.bridge 1 2 } }), 1,
      wits_sound _ _ (fun _ => rfl) (fun _ => rfl), by decide +kernel⟩,
    ⟨wits [] (fun s => { s with router := ⟨[], [255], []⟩ }), 255, wits_sound _ _ (fun _ => rfl) (fun _ => rfl),
      by decide +kernel⟩,
    ⟨wit [(F.EVT_STORM_CFG_WINDOW, 8)], wit_sound _, by decide +kernel⟩,
    ⟨wit [], 0, 7, 0, wit_sound _, takes_of (by decide +kernel)⟩⟩

theorem test_wit_CapturesAndGrains :
    (∃ (s : State) (c : Fin 32) (rising : Bool) (half : Fin 8) (width : ℕ), s.Sound ∧ (∀ (l : ℕ),
      vAt s.sr.lastStamp c.val = some l → l + 16 ≤ 2 * s.clock.time + half.val) ∧
      (s.get (F.CAP_LINE_c_EDGE c.val) = 3 ∨ s.get (F.CAP_LINE_c_EDGE c.val) = if rising = true then 1 else 2) ∧
      s.counting = true ∧ 4 * s.get (F.CAP_LINE_c_FILTER c.val) ≤ width ∧ vAt s.sr.levels c.val ≠ some rising ∧
      (vAt s.sr.caps (c.val / 8)).recs.length < 128) ∧
    (∃ (s : State) (c : Fin 32) (rising : Bool) (half : Fin 8) (width : ℕ), s.Sound ∧ (∀ (l : ℕ),
      vAt s.sr.lastStamp c.val = some l → l + 16 ≤ 2 * s.clock.time + half.val) ∧
      (s.get (F.CAP_LINE_c_EDGE c.val) = 3 ∨ s.get (F.CAP_LINE_c_EDGE c.val) = if rising = true then 1 else 2) ∧
      s.counting = true ∧ 4 * s.get (F.CAP_LINE_c_FILTER c.val) ≤ width ∧ vAt s.sr.levels c.val ≠ some rising ∧
      128 ≤ (vAt s.sr.caps (c.val / 8)).recs.length) ∧
    (∃ (s : State) (g : Fin 4) (h : ℕ) (n : ℕ), s.Sound ∧ s.ownerOf (32 + g.val) = h ∧ h < 4 ∧
      s.get (F.CAP_CTRL_g_DELIVERY g.val) = 0 ∧ s.linkUp h = true ∧ s.awake = true ∧ (vAt s.sr.caps g.val).recs ≠ [] ∧
      ((s.findTun h 5 fun (n : ℕ) => s.tunUp h n) = some n) ∧ (64 ≤ (vAt s.sr.caps g.val).recs.length ∨
      (if 64 ≤ (vAt s.sr.caps g.val).recs.length then s else s.advanceTo (s.capFlushAt g.val)).capFlushAt g.val ≤ (if 64 ≤ (vAt s.sr.caps g.val).recs.length then s else s.advanceTo (s.capFlushAt g.val)).clock.time) ∧
      (if 64 ≤ (vAt s.sr.caps g.val).recs.length then s else s.advanceTo (s.capFlushAt g.val)).qTakes ((if 64 ≤ (vAt s.sr.caps g.val).recs.length then s else s.advanceTo (s.capFlushAt g.val)).upQueue h n false) = true) ∧
    (∃ (s : State) (h : Hp) (p : Packet), s.Sound ∧ (¬∃ i ∈ (s.queue (vAt (vAt s.bc.downMap h.val) (pktTun p))).items,
      ∃ (b : ℕ) (l : Bool) (y : Bool) (d : Bool) (e : Bool) (z : Option (ℕ × ℕ)),
      i.body = QBody.cv (pktTun p) 1 b l y d e z) ∧ s.tunType h.val (pktTun p) = 1 ∧
      s.unitRuns (9 + bitsOf (s.tunW0 h.val (pktTun p)) 6 3 % 2) = true ∧ s.grainMayStart h.val (pktTun p) = true) ∧
    (∃ (s : State) (h : Hp) (p : Packet), s.Sound ∧ (s.grainMayStart h.val (pktTun p) = false ∨
      ∃ i ∈ (s.queue (vAt (vAt s.bc.downMap h.val) (pktTun p))).items,
      ∃ (b : ℕ) (l : Bool) (y : Bool) (d : Bool) (e : Bool) (z : Option (ℕ × ℕ)),
      i.body = QBody.cv (pktTun p) 1 b l y d e z) ∧ s.tunType h.val (pktTun p) = 1 ∧
      s.unitRuns (9 + bitsOf (s.tunW0 h.val (pktTun p)) 6 3 % 2) = true) := by
  exact ⟨
    ⟨wit [(F.CAP_LINE_c_EDGE 31, 3)], 31, true, 7, 0, wit_sound _,
      fun l h => absurd h (by rw [show vAt _ _ = none from rfl]; exact nofun), by decide +kernel⟩,
    ⟨wits [(F.CAP_LINE_c_EDGE 31,
      3)] (fun s => { s with sr := { s.sr with caps := vPut s.sr.caps 3 ⟨List.replicate 128 (0, 0, 0), false⟩ } }),
      31, true, 7, 0, wits_but _ _ (by decide +kernel) (by decide +kernel) (fun _ => rfl),
      fun l h => absurd h (by rw [show vAt _ _ = none from rfl]; exact nofun), by decide +kernel⟩,
    ⟨wits [(F.CAP_CTRL_g_DELIVERY 3, 0), (F.CV_STATUS_STATE 0, 7), (F.CV_TUN_n_W0_W 0 63, 37),
      (F.BANK_b_e_Wn_W 0 32 0, 2147483648), (F.QMAP_q_W 32,
      65536)] (fun s => { s with sr := { s.sr with caps := vPut s.sr.caps 3 ⟨[(0, 0, 0)], false⟩ } }), 3, 0, 63,
      wits_but _ _ (by decide +kernel) (by decide +kernel) (fun _ => rfl), by decide +kernel⟩,
    ⟨wit [(F.CV_TUN_n_W0_W 3 0, 1), (F.PL_WR_h_n_GRAINS 3 0, 1)], 3, ⟨0, []⟩, wit_sound _, fun ⟨_, hi,
      _⟩ => List.not_mem_nil hi, by decide +kernel⟩,
    ⟨wit [(F.CV_TUN_n_W0_W 3 0, 1), (F.PL_WR_h_n_GRAINS 3 0, 0)], 3, ⟨0, []⟩, wit_sound _, .inl (by decide +kernel),
      by decide +kernel⟩⟩

theorem test_wit_ChoreRuns :
    (∃ (s : State) (slot : ℕ) (m : Fin 8), s.choreDue 1 (257 * m.val) = some slot ∧
      (s.choreTurn slot).mdPolled m.val = true ∧ (s.choreTurn slot).unitRuns 15 = true ∧
      (bitsOf ((s.choreTurn slot).mdCfg m.val 0) 1 2 ≠ 1 → (s.choreTurn slot).busRuns m.val = true) ∧
      ((s.choreTurn slot).fb m.val).cur = none ∧ ((s.choreTurn slot).fb m.val).keep = none ∧
      bitAt ((s.choreTurn slot).mdCfg m.val 0) 3 = false) ∧
    (∃ (s : State) (slot : ℕ) (m : Fin 8) (v : BitVec 8), s.choreDue 1 (257 * m.val) = some slot ∧
      (s.choreTurn slot).mdPolled m.val = true ∧ (s.choreTurn slot).unitRuns 15 = true ∧
      (bitsOf ((s.choreTurn slot).mdCfg m.val 0) 1 2 ≠ 1 → (s.choreTurn slot).busRuns m.val = true) ∧
      ((s.choreTurn slot).fb m.val).cur = none ∧ ((s.choreTurn slot).fb m.val).keep = none ∧
      bitAt ((s.choreTurn slot).mdCfg m.val 0) 3 = true ∧ (s.choreTurn slot).mdState m.val = Md.empty ∧
      ((if bitsOf ((s.choreTurn slot).mdCfg m.val 0) 1 2 = 1 then (s.choreTurn slot).took else (s.choreTurn slot).mdAsk m.val (bitsOf ((s.choreTurn slot).mdCfg m.val 1) 0 7) (bitsOf ((s.choreTurn slot).mdCfg m.val 1) 8 8) 1).mdLines m.val ((if bitsOf ((s.choreTurn slot).mdCfg m.val 0) 1 2 = 1 then (s.choreTurn slot).mdGroup m.val v else v).toNat ^^^ bitsOf ((s.choreTurn slot).mdCfg m.val 0) 24 8)).present m.val = true ∧
      ((if bitsOf ((s.choreTurn slot).mdCfg m.val 0) 1 2 = 1 then (s.choreTurn slot).took else (s.choreTurn slot).mdAsk m.val (bitsOf ((s.choreTurn slot).mdCfg m.val 1) 0 7) (bitsOf ((s.choreTurn slot).mdCfg m.val 1) 8 8) 1).mdLines m.val ((if bitsOf ((s.choreTurn slot).mdCfg m.val 0) 1 2 = 1 then (s.choreTurn slot).mdGroup m.val v else v).toNat ^^^ bitsOf ((s.choreTurn slot).mdCfg m.val 0) 24 8)).mdState m.val = Md.empty) ∧
    (∃ (s : State) (slot : ℕ) (m : Fin 8) (v : BitVec 8), s.choreDue 1 (257 * m.val) = some slot ∧
      (s.choreTurn slot).mdPolled m.val = true ∧ (s.choreTurn slot).unitRuns 15 = true ∧
      (bitsOf ((s.choreTurn slot).mdCfg m.val 0) 1 2 ≠ 1 → (s.choreTurn slot).busRuns m.val = true) ∧
      ((s.choreTurn slot).fb m.val).cur = none ∧ ((s.choreTurn slot).fb m.val).keep = none ∧
      bitAt ((s.choreTurn slot).mdCfg m.val 0) 3 = true ∧ (s.choreTurn slot).mdState m.val ≠ Md.reading ∧
      ((if bitsOf ((s.choreTurn slot).mdCfg m.val 0) 1 2 = 1 then (s.choreTurn slot).took else (s.choreTurn slot).mdAsk m.val (bitsOf ((s.choreTurn slot).mdCfg m.val 1) 0 7) (bitsOf ((s.choreTurn slot).mdCfg m.val 1) 8 8) 1).mdLines m.val ((if bitsOf ((s.choreTurn slot).mdCfg m.val 0) 1 2 = 1 then (s.choreTurn slot).mdGroup m.val v else v).toNat ^^^ bitsOf ((s.choreTurn slot).mdCfg m.val 0) 24 8)).present m.val = false) ∧
    (∃ (s : State) (slot : ℕ) (p : Fin 4), s.choreDue 2 p.val = some slot ∧ (s.choreTurn slot).pdOn p.val = true ∧
      (s.choreTurn slot).isSrc p.val = false ∧ (s.choreTurn slot).hasContract p.val = true ∧
      (s.choreTurn slot).get (F.TC_STATUS_EPR p.val) = 1 ∧ (s.choreTurn slot).get (F.PD_CONTRACT_TYPE p.val) = 0) ∧
    (∃ (s : State) (slot : ℕ) (p : Fin 4), s.choreDue 2 p.val = some slot ∧ (s.choreTurn slot).pdOn p.val = true ∧
      (s.choreTurn slot).isSrc p.val = false ∧ (s.choreTurn slot).hasContract p.val = true ∧
      (s.choreTurn slot).get (F.TC_STATUS_EPR p.val) = 0 ∧ ((s.choreTurn slot).get (F.PD_CONTRACT_TYPE p.val) = 1 ∨
      (s.choreTurn slot).get (F.PD_CONTRACT_TYPE p.val) = 2) ∧ ((s.choreTurn slot).tcp p.val).wait = PdWait.nothing ∧
      ((s.choreTurn slot).tcp p.val).reqTick + 8000 * bitsOf ((s.choreTurn slot).get (F.TC_CFG_w_V p.val 1)) 8 4 ≤ (s.choreTurn slot).rails.hamada) ∧
    (∃ (s : State) (slot : ℕ) (c : Fin 8), s.choreDue 3 c.val = some slot ∧ (s.choreTurn slot).efTopo c.val ≠ 0) ∧
    (∃ (s : State) (slot : ℕ) (i : Fin 36) (errors : ℕ), s.choreDue 4 i.val = some slot ∧
      s.get (F.LN_EYE_RESULT_BUSY (i.val / 4) (i.val % 4)) = 0 ∧ (i.val / 4 < 4 →
      (s.choreTurn slot).get (F.LN_STATUS_DIR (i.val / 4) (i.val % 4)) = 0) ∧
      (s.choreTurn slot).rxActive (i.val / 4) (i.val % 4) = true ∧
      (vAt s.eyes (4 * (i.val / 4) + i.val % 4)).at_ + 1 < 4 * (s.choreTurn slot).eyesOf (i.val / 4) (i.val % 4) ∧
      (vAt s.eyes (4 * (i.val / 4) + i.val % 4)).retest = false ∧
      errors ≤ (s.choreTurn slot).get (F.LG_DWELL_MAX_ERR (i.val / 4))) ∧
    (∃ (s : State) (slot : ℕ) (i : Fin 36) (errors : ℕ), s.choreDue 4 i.val = some slot ∧
      s.get (F.LN_EYE_RESULT_BUSY (i.val / 4) (i.val % 4)) = 0 ∧ (i.val / 4 < 4 →
      (s.choreTurn slot).get (F.LN_STATUS_DIR (i.val / 4) (i.val % 4)) = 0) ∧
      (s.choreTurn slot).rxActive (i.val / 4) (i.val % 4) = true ∧
      (vAt s.eyes (4 * (i.val / 4) + i.val % 4)).at_ + 1 < 4 * (s.choreTurn slot).eyesOf (i.val / 4) (i.val % 4) ∧
      (vAt s.eyes (4 * (i.val / 4) + i.val % 4)).retest = false ∧
      (s.choreTurn slot).get (F.LG_DWELL_MAX_ERR (i.val / 4)) < errors) ∧
    (∃ (s : State) (slot : ℕ) (n : Fin 17), s.choreDue 5 n.val = some slot) ∧
    (∃ (s : State) (slot : ℕ), s.choreDue 6 0 = some slot) := by
  exact ⟨
    ⟨wit [(F.CHORE_LO_W 0, 66560), (F.CHORE_HI_W 0, 117899264), (F.WD_MOD_CFG_V 7 0, 3)], 0, 7, by decide +kernel⟩,
    ⟨wit [(F.CHORE_LO_W 0, 66560), (F.CHORE_HI_W 0, 117899264), (F.WD_MOD_CFG_V 7 0, 11)], 0, 7, 1, by decide +kernel⟩,
    ⟨wit [(F.CHORE_LO_W 0, 66560), (F.CHORE_HI_W 0, 117899264), (F.WD_MOD_CFG_V 7 0, 11)], 0, 7, 0, by decide +kernel⟩,
    ⟨wit [(F.TC_STATUS_STATE 3, Tc.snk), (F.CHORE_LO_W 0, 67584), (F.CHORE_HI_W 0, 196608), (F.TC_STATUS_CONTRACT 3,
      1), (F.TC_STATUS_EPR 3, 1)], 0, 3, by decide +kernel⟩,
    ⟨wit [(F.TC_STATUS_STATE 3, Tc.snk), (F.CHORE_LO_W 0, 67584), (F.CHORE_HI_W 0, 196608), (F.TC_STATUS_CONTRACT 3,
      1), (F.PD_CONTRACT_TYPE 3, 1), (F.TC_CFG_w_V 3 1, 0)], 0, 3, by decide +kernel⟩,
    ⟨wit [(F.CHORE_LO_W 0, 68608), (F.CHORE_HI_W 0, 458752), (F.EF_CFG_w_V 7 0, 2)], 0, 7, by decide +kernel⟩,
    ⟨wit [(F.LN_EYE_RESULT_BUSY (35 / 4) (35 % 4), 0), (F.CHORE_LO_W 0, 69632), (F.CHORE_HI_W 0, 2293760),
      (F.LN_STATUS_STATE 8 3, laneActive)], 0, 35, 0, by decide +kernel⟩,
    ⟨wit [(F.LN_EYE_RESULT_BUSY (35 / 4) (35 % 4), 0), (F.CHORE_LO_W 0, 69632), (F.CHORE_HI_W 0, 2293760),
      (F.LN_STATUS_STATE 8 3, laneActive)], 0, 35, 65536, by decide +kernel⟩,
    ⟨wit [(F.CHORE_LO_W 0, 70656), (F.CHORE_HI_W 0, 1048576)], 0, 16, by decide +kernel⟩,
    ⟨wit [(F.CHORE_LO_W 0, 71680), (F.CHORE_HI_W 0, 0)], 0, by decide +kernel⟩⟩

theorem test_wit_ChoreSkips :
    ∃ (s : State) (c : Instr) (kind : ℕ) (arg : ℕ) (slot : ℕ), s.Sound ∧
      ((∃ (m : Fin 8) (l : Option (BitVec 8)) (p : Option (BitVec 128)), c = Instr.sidebandPoll m true l p ∧
      kind = 1 ∧ arg = 257 * m.val) ∨ (∃ (p : Fin 4), c = Instr.pdKeepalive p true ∧ kind = 2 ∧ arg = p.val) ∨
      (∃ (x : Fin 8), c = Instr.efuseThermal x true ∧ kind = 3 ∧ arg = x.val) ∨ (∃ (i : Fin 36) (e : ℕ),
      c = Instr.eyeSample i true e ∧ kind = 4 ∧ arg = i.val) ∨ (∃ (n : Fin 17), c = Instr.queueStats n true ∧
      kind = 5 ∧ arg = n.val) ∨ c = Instr.heartbeatChore true ∧ kind = 6 ∧ arg = 0 ∨ c = Instr.discServo true ∧
      kind = 7 ∧ arg = 0 ∨ ∃ (m : Fin 8) (x : ℤ) (g : BitVec 9), c = Instr.wearSample m true x g ∧ kind = 8 ∧
      arg = m.val) ∧ s.choreDue kind arg = some slot ∧ slot < 1024 :=
  ⟨wit [(F.CHORE_LO_W 0, 66560), (F.CHORE_HI_W 0, 117899264)], .sidebandPoll 7 true none none, 1, 1799, 0,
    wit_sound _, .inl ⟨7, none, none, rfl, rfl, rfl⟩, by decide +kernel⟩

theorem test_wit_CommitsAndPatches :
    (∃ (s : State) (a : Agent), s.Sound ∧ s.TakesWords a.val 131328 [1] ∧ s.commitPending a.val = false ∧
      (s.pendingView.overlay (s.agent a.val).staged).judgeView = none) ∧
    (∃ (s : State) (a : Agent) (c : ℕ) (col : ℕ) (k : ℕ) (l : ℕ), s.Sound ∧ s.TakesWords a.val 131328 [1] ∧
      s.commitPending a.val = false ∧ (s.pendingView.overlay (s.agent a.val).staged).judgeView = some (c, col, k, l)) ∧
    (∃ (s : State) (a : Agent), s.Sound ∧ s.TakesWords a.val 131328 [2] ∧ s.commitPending a.val = false) ∧
    (∃ (s : State) (a : Agent) (tr : Transport) (tag : Byte) (addr : Word) (data : List Word) (c : ℕ) (col : ℕ) (k : ℕ) (l : ℕ) (gen : ℕ) (prs : List Rec),
      s.Sound ∧ s.Admits a.val tr (mkFrame 19 (BitVec.toNat tag) data.length 0 (BitVec.toNat addr) data) ∧
      (s.passTurn a.val).patchJudge a.val data = ((c, col, k, l), gen, prs) ∧ c ≠ 0) := by
  exact ⟨
    ⟨wit [], 0, wit_sound _, takes_of (by decide +kernel), by decide +kernel⟩,
    ⟨wit [(F.SR_RES_k_ENTRIES 0, 1025)], 0, 10, 10, 0, 0, wit_sound _, takes_of (by decide +kernel),
      by decide +kernel⟩,
    ⟨wit [], 0, wit_sound _, takes_of (by decide +kernel), by decide +kernel⟩,
    ⟨wit [], 0, .usb, 7, 0, [0], 2, 0, 0, 0, 0, [], wit_sound _, admits_of (by decide +kernel), by decide +kernel⟩⟩

theorem test_wit_DisciplineServo :
    (∃ (s : State) (slot : ℕ), s.Sound ∧ s.choreDue 7 0 = some slot ∧ (s.choreTurn slot).discSources = []) ∧
    (∃ (s : State) (slot : ℕ), s.Sound ∧ s.choreDue 7 0 = some slot ∧ (s.choreTurn slot).discSources ≠ [] ∧
      List.find? (s.choreTurn slot).discQualified (s.choreTurn slot).discSources = none ∧
      (s.choreTurn slot).get F.DISC_STATUS_STATE ≠ Disc.holdover) ∧
    (∃ (s : State) (slot : ℕ) (src : ℕ) (e : ℤ) (at_ : ℕ), s.Sound ∧ s.choreDue 7 0 = some slot ∧
      List.find? (s.choreTurn slot).discQualified (s.choreTurn slot).discSources = some src ∧
      vAt (s.choreTurn slot).clock.phases src = some { e := e, tick := at_ : Phase } ∧
      (s.choreTurn slot).get F.DISC_STATUS_ACTIVE_SRC = src ∧
      ((s.choreTurn slot).get F.DISC_STATUS_STATE = Disc.locked ∨
      (s.choreTurn slot).get F.DISC_STATUS_STATE = Disc.acquire)) := by
  exact ⟨
    ⟨wit [(F.CHORE_LO_W 0, 72704), (F.CHORE_HI_W 0, 0)], 0, wit_sound _, by decide +kernel⟩,
    ⟨wit [(F.CHORE_LO_W 0, 72704), (F.CHORE_HI_W 0, 0), (F.DISC_CTRL_SRC0, 8)], 0, wit_sound _, by decide +kernel⟩,
    ⟨wits [(F.CHORE_LO_W 0, 72704), (F.CHORE_HI_W 0, 0), (F.DISC_CTRL_SRC0, 8), (F.DISC_STATUS_ACTIVE_SRC, 8),
      (F.DISC_STATUS_STATE,
      Disc.locked)] (fun s => s.modClock (fun c => { c with phases := vPut c.phases 8 (some ⟨0, 4000⟩) })), 0, 8, 0,
      4000, wits_sound _ _ (fun _ => rfl) (fun _ => rfl), by decide +kernel⟩⟩

theorem test_wit_DisplayLinks :
    (∃ (s : State) (x : Fin 2), s.Sound ∧ s.unitRuns (9 + x.val) = true ∧ (s.dpState x.val ≠ Dp.waitHpd ∨
      s.awake = false ∨ s.groupOn (s.groupOf 1 x.val) = false)) ∧
    (∃ (s : State) (x : Fin 2) (g : Fin 9), s.Sound ∧ s.unitRuns (9 + x.val) = true ∧ s.dpState x.val = Dp.waitHpd ∧
      s.awake = true ∧ s.groupOf 1 x.val = some g.val ∧ s.get (F.LG_CTRL_ENABLE g.val) = 1) ∧
    (∃ (s : State) (x : Fin 2) (lost : Bool), s.Sound ∧ s.unitRuns (9 + x.val) = true ∧ (lost = false ∨
      s.dpState x.val ≠ Dp.active)) ∧
    (∃ (s : State) (x : Fin 2), s.Sound ∧ s.unitRuns (9 + x.val) = true ∧ s.dpState x.val = Dp.active) ∧
    (∃ (s : State) (x : Fin 2), s.Sound ∧ s.dpState x.val = Dp.cr ∧ ((∃ l < s.get (F.HD_LINK_STATUS_LANES x.val),
      s.dpSwing x.val l = 3) ∨ 5 ≤ vAt s.pl.reads x.val + 1)) ∧
    (∃ (s : State) (x : Fin 2), s.Sound ∧ s.dpState x.val = Dp.cr ∧ (∀ l < s.get (F.HD_LINK_STATUS_LANES x.val),
      s.dpSwing x.val l ≠ 3) ∧ vAt s.pl.reads x.val + 1 < 5) ∧
    (∃ (s : State) (x : Fin 2), s.Sound ∧ s.dpState x.val = Dp.eq ∧ 6 ≤ vAt s.pl.reads x.val + 1) ∧
    (∃ (s : State) (x : Fin 2), s.Sound ∧ s.dpState x.val = Dp.eq ∧ vAt s.pl.reads x.val + 1 < 6) ∧
    (∃ (s : State) (x : Fin 2) (a : Agent), s.Sound ∧ s.TakesField a.val (A.HD_LINK_CFG x.val) 8 1 1 ∧
      s.owns a.val x.val = true ∧ s.dpState x.val = Dp.fail) ∧
    (∃ (s : State) (x : Fin 2) (a : Agent), s.Sound ∧ s.TakesField a.val (A.HD_AUX_CTRL x.val) 0 1 1 ∧
      s.owns a.val x.val = true ∧ vAt s.pl.aux x.val = none ∧
      auxDenied { cmd := s.get (F.HD_AUX_REQ_CMD x.val), addr := s.get (F.HD_AUX_REQ_ADDR x.val), len := s.get (F.HD_AUX_REQ_LEN_M1 x.val) + 1, defers := 0, misses := 0 : AuxReq }.cmd { cmd := s.get (F.HD_AUX_REQ_CMD x.val), addr := s.get (F.HD_AUX_REQ_ADDR x.val), len := s.get (F.HD_AUX_REQ_LEN_M1 x.val) + 1, defers := 0, misses := 0 : AuxReq }.addr { cmd := s.get (F.HD_AUX_REQ_CMD x.val), addr := s.get (F.HD_AUX_REQ_ADDR x.val), len := s.get (F.HD_AUX_REQ_LEN_M1 x.val) + 1, defers := 0, misses := 0 : AuxReq }.len = false) ∧
    (∃ (s : State) (x : Fin 2) (r : AuxReq), s.Sound ∧ vAt s.pl.aux x.val = some r) := by
  exact ⟨
    ⟨wit [], 1, wit_sound _, by decide +kernel⟩,
    ⟨wits [(F.HD_LINK_STATUS_STATE 1, Dp.waitHpd), (F.LG_CTRL_ENABLE 8,
      1)] (fun s => s.modImg (fun i => { i with recs := ⟨3, 0, 0, [0, 0, 0, 0, 9]⟩ :: i.recs })), 1, 8,
      wits_sound _ _ (fun _ => rfl) (fun _ => rfl), by decide +kernel⟩,
    ⟨wit [], 1, true, wit_sound _, by decide +kernel⟩,
    ⟨wit [(F.HD_LINK_STATUS_STATE 1, Dp.active)], 1, wit_sound _, by decide +kernel⟩,
    ⟨wits [(F.HD_LINK_STATUS_STATE 1, Dp.cr)] (fun s => { s with pl := { s.pl with reads := vPut s.pl.reads 1 4 } }),
      1, wits_sound _ _ (fun _ => rfl) (fun _ => rfl), by decide +kernel⟩,
    ⟨wit [(F.HD_LINK_STATUS_STATE 1, Dp.cr)], 1, wit_sound _, by decide +kernel⟩,
    ⟨wits [(F.HD_LINK_STATUS_STATE 1, Dp.eq)] (fun s => { s with pl := { s.pl with reads := vPut s.pl.reads 1 5 } }),
      1, wits_sound _ _ (fun _ => rfl) (fun _ => rfl), by decide +kernel⟩,
    ⟨wit [(F.HD_LINK_STATUS_STATE 1, Dp.eq)], 1, wit_sound _, by decide +kernel⟩,
    ⟨wit [(F.OWN_k_OWNER 1, 3), (F.HD_LINK_STATUS_STATE 1, Dp.fail)], 1, 3, wit_sound _, field_of (by decide +kernel),
      by decide +kernel⟩,
    ⟨wit [(F.OWN_k_OWNER 1, 3)], 1, 3, wit_sound _, field_of (by decide +kernel), by decide +kernel⟩,
    ⟨wits [] (fun s => { s with pl := { s.pl with aux := vPut s.pl.aux 1 (some ⟨1, 0, 1, 0, 0⟩) } }), 1, ⟨1, 0, 1, 0,
      0⟩, wits_sound _ _ (fun _ => rfl) (fun _ => rfl), by decide +kernel⟩⟩

theorem test_wit_DrivePorts :
    (∃ (s : State) (p : Fin 2) (h : Hp), s.Sound ∧ s.unitRuns (11 + p.val) = true ∧ s.owns h.val (2 + p.val) = true ∧
      s.awake = true) ∧
    (∃ (s : State) (p : Fin 2), s.Sound ∧ s.unitRuns (11 + p.val) = true ∧ s.get (F.PX_STATUS_LINK_UP p.val) = 1 ∧
      (s.pxContained p.val = true ∨ 4 ≤ s.pxOwner p.val)) ∧
    (∃ (s : State) (p : Fin 2) (tlp : List Byte), s.Sound ∧ s.unitRuns (11 + p.val) = true ∧
      s.get (F.PX_STATUS_LINK_UP p.val) = 1 ∧ s.pxContained p.val = false ∧ s.pxOwner p.val < 4 ∧
      s.tlpFormOk p.val tlp = false) ∧
    (∃ (s : State) (p : Fin 2) (tlp : List Byte), s.Sound ∧ s.unitRuns (11 + p.val) = true ∧
      s.get (F.PX_STATUS_LINK_UP p.val) = 1 ∧ s.pxContained p.val = false ∧ s.pxOwner p.val < 4 ∧
      s.tlpFormOk p.val tlp = true ∧ s.acsBad p.val tlp = true) ∧
    (∃ (s : State) (p : Fin 2) (tlp : List Byte), s.Sound ∧ s.unitRuns (11 + p.val) = true ∧
      s.get (F.PX_STATUS_LINK_UP p.val) = 1 ∧ s.pxContained p.val = false ∧ s.pxOwner p.val < 4 ∧
      s.tlpFormOk p.val tlp = true ∧ s.acsBad p.val tlp = false ∧ tlpKind tlp ≠ TlpKind.msg) ∧
    (∃ (s : State) (p : Fin 2), s.Sound ∧ s.unitRuns (11 + p.val) = true ∧ s.get (F.PX_STATUS_PRESENT p.val) = 1) ∧
    (∃ (s : State) (p : Fin 2), s.Sound ∧ s.unitRuns (11 + p.val) = true ∧ s.get (F.PX_STATUS_PRESENT p.val) = 0 ∧
      s.get (F.PX_STATUS_LINK_UP p.val) = 0) ∧
    (∃ (s : State) (p : Fin 2) (fatal : Bool), s.Sound ∧ s.unitRuns (11 + p.val) = true ∧
      s.dpcTakes p.val fatal = true) ∧
    (∃ (s : State) (p : Fin 2), s.Sound ∧ (s.pc p.val).deadline = true ∧ s.get (F.PX_DEADLINE_TICKS p.val) = 0) ∧
    (∃ (s : State) (p : Fin 2), s.Sound ∧ s.perstHeld p.val = false ∧ s.get (F.PX_STATUS_REFCLK_ON p.val) = 1 ∧
      s.awake = true) ∧
    (∃ (s : State) (p : Fin 2), s.Sound ∧ s.get (F.PX_CTRL_ENABLE p.val) = 1 ∧ s.get (F.PX_CTRL_CLKREQ_EN p.val) = 1) ∧
    (∃ (s : State) (h : Hp) (n : ℕ), s.Sound ∧ (s.link h.val).downSince = some n ∧ s.linkUp h.val = false ∧
      vAt s.own.watch h.val = none ∧ s.inForce = true) ∧
    (∃ (s : State) (h : Hp) (n : ℕ), s.Sound ∧ vAt s.own.watch h.val = some n ∧ s.linkUp h.val = false) := by
  exact ⟨
    ⟨wit [(F.OWN_k_OWNER (2 + 1), 3)], 1, 3, wit_sound _, by decide +kernel⟩,
    ⟨wit [(F.PX_STATUS_LINK_UP 1, 1), (F.OWN_k_OWNER 3, 7)], 1, wit_sound _, by decide +kernel⟩,
    ⟨wit [(F.PX_STATUS_LINK_UP 1, 1)], 1, [], wit_sound _, by decide +kernel⟩,
    ⟨wits [(F.PX_STATUS_LINK_UP 1, 1), (F.PX_BUS_SECONDARY 1,
      1)] (fun s => s.modPc 1 (fun c => { c with cfg := cellSet 0 c.cfg 0x53 0x10000 })), 1, [0, 0, 0, 1, 0, 0, 0, 0,
      0, 0, 0, 0], wits_sound _ _ (fun _ => rfl) (fun _ => rfl), by decide +kernel⟩,
    ⟨wit [(F.PX_STATUS_LINK_UP 1, 1)], 1, [0, 0, 0, 1, 0, 0, 0, 0, 0, 0, 0, 0], wit_sound _, by decide +kernel⟩,
    ⟨wit [(F.PX_STATUS_PRESENT 1, 1)], 1, wit_sound _, by decide +kernel⟩,
    ⟨wit [(F.PX_STATUS_PRESENT 1, 0), (F.PX_STATUS_LINK_UP 1, 0)], 1, wit_sound _, by decide +kernel⟩,
    ⟨wits [] (fun s => s.modPc 1 (fun c => { c with cfg := cellSet 0 c.cfg 0x55 0x10000 })), 1, true,
      wits_sound _ _ (fun _ => rfl) (fun _ => rfl), by decide +kernel⟩,
    ⟨wits [(F.PX_DEADLINE_TICKS 1, 0)] (fun s => s.modPc 1 (fun c => { c with deadline := true })), 1,
      wits_sound _ _ (fun _ => rfl) (fun _ => rfl), by decide +kernel⟩,
    ⟨wit [(F.PX_STATUS_REFCLK_ON 1, 1), (F.PX_CTRL_ENABLE 1, 1), (F.PX_CTRL_PWR_EF 1, 15)], 1, wit_sound _,
      by decide +kernel⟩,
    ⟨wit [(F.PX_CTRL_ENABLE 1, 1), (F.PX_CTRL_CLKREQ_EN 1, 1)], 1, wit_sound _, by decide +kernel⟩,
    ⟨wits [] (fun s => s.modLink 3 (fun t => { t with downSince := some 0 })), 3, 0,
      wits_sound _ _ (fun _ => rfl) (fun _ => rfl), by decide +kernel⟩,
    ⟨wits [] (fun s => { s with own := { s.own with watch := vPut s.own.watch 3 (some 0) } }), 3, 0,
      wits_sound _ _ (fun _ => rfl) (fun _ => rfl), by decide +kernel⟩⟩

theorem test_wit_EfuseChannels :
    (∃ (s : State) (c : Fin 8) (a : Agent) (on : Bool), s.Sound ∧ s.TakesField a.val (A.EF_CTRL c.val) 1 1 (bit1 on) ∧
      s.power ≠ 4 ∧ s.owns a.val (48 + c.val) = true ∧ s.get (F.EF_CTRL_ON c.val) ≠ bit1 on) ∧
    (∃ (s : State) (c : Fin 8) (a : Agent) (on : Bool), s.Sound ∧ s.TakesField a.val (A.EF_CTRL c.val) 0 1 (bit1 on) ∧
      s.power ≠ 4 ∧ s.boardOrService a.val = true ∧ s.get (F.EF_CTRL_ENABLE c.val) ≠ bit1 on) ∧
    (∃ (s : State) (c : Fin 8) (a : Agent), s.Sound ∧ s.TakesField a.val (A.EF_CTRL c.val) 2 1 1 ∧ s.power ≠ 4 ∧
      s.owns a.val (48 + c.val) = true ∧ (s.get (F.EF_STATUS_CAUSE c.val) ≠ 7 ∨ s.inService a.val = true) ∧
      s.efState c.val = 5 ∧ s.efRuns c.val = true) ∧
    (∃ (s : State) (c : Fin 8), s.Sound ∧ s.power ≠ 4 ∧ s.efRuns c.val = true ∧ s.efState c.val = 1 ∧
      (s.efc c.val).since + bitsOf (s.efCfg c.val 3) 16 16 ≤ s.rails.hamada) ∧
    (∃ (s : State) (c : Fin 8), s.Sound ∧ s.power ≠ 4 ∧ s.efTopo c.val = 2 ∧ s.efState c.val = 2) ∧
    (∃ (s : State) (c : Fin 8), s.Sound ∧ s.power ≠ 4 ∧ s.get (F.EF_STATUS_LIMIT c.val) = 0 ∧ s.efState c.val = 2) ∧
    (∃ (s : State) (c : Fin 8), s.Sound ∧ s.power ≠ 4 ∧ s.get (F.EF_STATUS_LIMIT c.val) = 0 ∧ s.efState c.val = 3) ∧
    (∃ (s : State) (c : Fin 8), s.Sound ∧ s.power ≠ 4 ∧ (s.get (F.EF_STATUS_PG c.val) = 1 ∨ s.efLive c.val = true)) ∧
    (∃ (s : State) (c : Fin 8), s.Sound ∧ s.power ≠ 4 ∧ s.efTopo c.val = 2 ∧ s.efLive c.val = true) ∧
    (∃ (s : State) (c : Fin 8), s.Sound ∧ s.power ≠ 4 ∧ s.efRuns c.val = true ∧ s.efState c.val = 5 ∧
      s.efMayRetry c.val = true) ∧
    (∃ (s : State) (c : Fin 8), s.Sound ∧ s.power ≠ 4 ∧ s.efState c.val = 3 ∧
      (s.efc c.val).since + 8000 ≤ s.rails.hamada) ∧
    (∃ (s : State) (c : Fin 8), s.Sound ∧ s.power ≠ 4 ∧ s.efTopo c.val ≠ 0 ∧
      (s.efc c.val).stepAt + 2 - s.get (F.EF_STATUS_SELF_STEP c.val) ≤ s.rails.hamada) ∧
    (∃ (s : State) (c : Fin 8), s.Sound ∧ s.power ≠ 4 ∧ s.efRuns c.val = true ∧ s.efState c.val = 0 ∧
      s.get (F.EF_CTRL_ON c.val) = 1 ∧ s.get (F.EF_STATUS_CLEARED c.val) = 1 ∧ (s.efc c.val).vinOk = true ∧
      (s.efc c.val).reverse = false ∧ s.efShedNow c.val = false) ∧
    (∃ (s : State) (c : Fin 8) (n : ℕ), s.Sound ∧ s.power ≠ 4 ∧ (s.efc c.val).leave = some n) := by
  exact ⟨
    ⟨wit [(F.OWN_k_OWNER (48 + 7), 3)], 7, 3, true, wit_sound _, field_of (by decide +kernel), by decide +kernel⟩,
    ⟨wit [], 7, 4, true, wit_sound _, field_of (by decide +kernel), by decide +kernel⟩,
    ⟨wit [(F.OWN_k_OWNER (48 + 7), 3), (F.EF_STATUS_STATE 7, 5), (F.EF_CTRL_ENABLE 7, 1), (F.EF_CFG_w_V 7 0, 2)], 7,
      3, wit_sound _, field_of (by decide +kernel), by decide +kernel⟩,
    ⟨wit [(F.EF_CTRL_ENABLE 7, 1), (F.EF_CFG_w_V 7 0, 2), (F.EF_STATUS_STATE 7, 1)], 7, wit_sound _,
      by decide +kernel⟩,
    ⟨wit [(F.EF_CFG_w_V 7 0, 2), (F.EF_STATUS_STATE 7, 2)], 7, wit_sound _, by decide +kernel⟩,
    ⟨wit [(F.EF_STATUS_LIMIT 7, 0), (F.EF_STATUS_STATE 7, 2)], 7, wit_sound _, by decide +kernel⟩,
    ⟨wit [(F.EF_STATUS_LIMIT 7, 0), (F.EF_STATUS_STATE 7, 3)], 7, wit_sound _, by decide +kernel⟩,
    ⟨wit [(F.EF_STATUS_PG 7, 1)], 7, wit_sound _, by decide +kernel⟩,
    ⟨wit [(F.EF_CFG_w_V 7 0, 2), (F.EF_STATUS_STATE 7, Ef.on)], 7, wit_sound _, by decide +kernel⟩,
    ⟨wit [(F.EF_CTRL_ENABLE 7, 1), (F.EF_CFG_w_V 7 0, 4130), (F.EF_STATUS_STATE 7, 5)], 7, wit_sound _,
      by decide +kernel⟩,
    ⟨wits [(F.EF_STATUS_STATE 7, 3)] (fun s => { s with rails := { s.rails with hamada := 9000 } }), 7,
      wits_sound _ _ (fun _ => rfl) (fun _ => rfl), by decide +kernel⟩,
    ⟨wits [(F.EF_CFG_w_V 7 0, 2)] (fun s => { s with rails := { s.rails with hamada := 9000 } }), 7,
      wits_sound _ _ (fun _ => rfl) (fun _ => rfl), by decide +kernel⟩,
    ⟨wits [(F.EF_CTRL_ENABLE 7, 1), (F.EF_CFG_w_V 7 0, 2), (F.EF_STATUS_STATE 7, 0), (F.EF_CTRL_ON 7, 1),
      (F.EF_STATUS_CLEARED 7,
      1)] (fun s => (s.modEf 7 (fun t => { t with vinOk := true })).modEf 7 (fun t => { t with reverse := false })),
      7, wits_sound _ _ (fun _ => rfl) (fun _ => rfl), by decide +kernel⟩,
    ⟨wits [] (fun s => s.modEf 7 (fun t => { t with leave := some 4 })), 7, 4,
      wits_sound _ _ (fun _ => rfl) (fun _ => rfl), by decide +kernel⟩⟩

theorem test_wit_EfuseFaults :
    (∃ (s : State) (c : Fin 8), s.Sound ∧ s.power ≠ 4 ∧ s.efLive c.val = true ∧ (s.efc c.val).pgOut = true ∧
      s.get (F.EF_STATUS_LIMIT c.val) = 0) ∧
    (∃ (s : State) (c : Fin 8), s.Sound ∧ s.power ≠ 4 ∧ s.efLive c.val = true ∧ s.get (F.EF_STATUS_LIMIT c.val) = 1) ∧
    (∃ (s : State) (c : Fin 8), s.Sound ∧ s.power ≠ 4 ∧ s.efLive c.val = true ∧ (s.efc c.val).full = true ∧
      (s.efc c.val).fullAt + bitsOf (s.efCfg c.val 4) 12 8 ≤ s.rails.hamada) ∧
    (∃ (s : State) (c : Fin 8), s.Sound ∧ s.power ≠ 4 ∧ s.efState c.val = 2 ∧
      (s.efc c.val).since + bitsOf (s.efCfg c.val 4) 0 12 ≤ s.rails.hamada ∧ s.get (F.EF_STATUS_LIMIT c.val) = 0) ∧
    (∃ (s : State) (c : Fin 8) (b : Bool), s.Sound ∧ s.power ≠ 4 ∧ s.efState c.val = 2 ∧
      (s.efc c.val).since + bitsOf (s.efCfg c.val 4) 0 12 ≤ s.rails.hamada ∧ (b = false ∨
      s.get (F.EF_STATUS_LIMIT c.val) = 1)) ∧
    (∃ (s : State) (c : Fin 8), s.Sound ∧ s.power ≠ 4 ∧ s.efRuns c.val = true ∧ s.efState c.val ≠ 5 ∧
      s.efLive c.val = false) ∧
    (∃ (s : State) (c : Fin 8), s.Sound ∧ s.power ≠ 4 ∧ s.get (F.EF_STATUS_PG c.val) = 0 ∧ s.efState c.val ≠ 5) ∧
    (∃ (s : State) (c : Fin 8), s.Sound ∧ s.power ≠ 4 ∧ s.get (F.EF_STATUS_PG c.val) = 1) ∧
    (∃ (s : State) (c : Fin 8), s.Sound ∧ s.power ≠ 4 ∧ s.efTopo c.val = 2) := by
  exact ⟨
    ⟨wits [(F.EF_STATUS_STATE 7, Ef.on), (F.EF_STATUS_LIMIT 7,
      0)] (fun s => s.modEf 7 (fun t => { t with pgOut := true })), 7, wits_sound _ _ (fun _ => rfl) (fun _ => rfl),
      by decide +kernel⟩,
    ⟨wit [(F.EF_STATUS_STATE 7, Ef.on), (F.EF_STATUS_LIMIT 7, 1)], 7, wit_sound _, by decide +kernel⟩,
    ⟨wits [(F.EF_STATUS_STATE 7, Ef.on)] (fun s => s.modEf 7 (fun t => { t with full := true })), 7,
      wits_sound _ _ (fun _ => rfl) (fun _ => rfl), by decide +kernel⟩,
    ⟨wit [(F.EF_STATUS_STATE 7, 2), (F.EF_STATUS_LIMIT 7, 0)], 7, wit_sound _, by decide +kernel⟩,
    ⟨wit [(F.EF_STATUS_STATE 7, 2)], 7, false, wit_sound _, by decide +kernel⟩,
    ⟨wit [(F.EF_CTRL_ENABLE 7, 1), (F.EF_CFG_w_V 7 0, 2)], 7, wit_sound _, by decide +kernel⟩,
    ⟨wit [(F.EF_STATUS_PG 7, 0)], 7, wit_sound _, by decide +kernel⟩,
    ⟨wit [(F.EF_STATUS_PG 7, 1)], 7, wit_sound _, by decide +kernel⟩,
    ⟨wit [(F.EF_CFG_w_V 7 0, 2)], 7, wit_sound _, by decide +kernel⟩⟩

theorem test_wit_EmptyQueueCountsOneCycle :
    (∃ (s : State), s.Sound ∧ s.pending = [] ∧ s.counting = false) ∧
    (∃ (s : State), s.Sound ∧ s.pending = [] ∧ s.counting = true ∧ s.clock.time < s.nextBoundary) ∧
    (∃ (s : State), s.Sound ∧ s.pending = [] ∧ s.counting = true ∧ s.clock.time = s.nextBoundary) := by
  exact ⟨
    ⟨wits [] (fun s => s.modClock (fun c => { c with running := false })),
      wits_sound _ _ (fun _ => rfl) (fun _ => rfl), by decide +kernel⟩,
    ⟨wit [], wit_sound _, by decide +kernel⟩,
    ⟨wits [] (fun s => s.modClock (fun c => { c with bound := 3999 })), wits_sound _ _ (fun _ => rfl) (fun _ => rfl),
      by decide +kernel⟩⟩

theorem test_wit_ErrorRingCommands :
    (∃ (s : State) (a : Agent), s.TakesWords a.val 12582960 [1]) ∧
    (∃ (s : State) (a : Agent), s.TakesWords a.val 12582928 [1]) := by
  exact ⟨
    ⟨wit [], 0, takes_of (by decide +kernel)⟩,
    ⟨wit [], 0, takes_of (by decide +kernel)⟩⟩

theorem test_wit_EveryStepKeepsTheInvariant :
    ∃ (s : State) (t : State), s.Sound ∧ step s = Host.Outcome.next t :=
  ⟨wit [], (wit []).idle, wit_sound _, rfl⟩

theorem test_wit_EyesAndQualification :
    (∃ (s : State) (a : Agent) (g : Fin 9) (l : Fin 4), s.Sound ∧
      s.TakesField a.val (A.LN_EYE_CTRL g.val l.val) 0 1 1 ∧
      s.mayWrite a.val (WReg.lnEyeCtrl g.val l.val) 0 0 = true ∧ s.get (F.LN_EYE_RESULT_BUSY g.val l.val) = 0 ∧
      s.rxActive g.val l.val = true) ∧
    (∃ (s : State) (a : Agent) (g : Fin 9) (l : Fin 4), s.Sound ∧
      s.TakesField a.val (A.LN_EYE_CTRL g.val l.val) 0 1 1 ∧
      s.mayWrite a.val (WReg.lnEyeCtrl g.val l.val) 0 0 = true ∧ s.get (F.LN_EYE_RESULT_BUSY g.val l.val) = 0 ∧
      s.rxActive g.val l.val = false) ∧
    (∃ (s : State) (g : Fin 9) (l : Fin 4), s.Sound ∧ s.get (F.LN_EYE_RESULT_BUSY g.val l.val) = 1) ∧
    (∃ (s : State) (g : Fin 9) (l : Fin 4) (q : Qual), s.Sound ∧ s.qualRuns g.val l.val = true ∧
      s.qualVerdict g.val l.val q = some true ∧ 4 ≤ g.val) ∧
    (∃ (s : State) (g : Fin 9) (l : Fin 4) (q : Qual), s.Sound ∧ s.qualRuns g.val l.val = true ∧
      s.qualVerdict g.val l.val q = some false ∧ (vAt s.eyes (4 * g.val + l.val)).tries < 15 ∧
      (decide (g.val < 4) && !(s.clrBit (F.LG_STATUS_QUALIFYING g.val) l.val).flag (F.LN_STATUS_DIR g.val l.val)) = false) ∧
    (∃ (s : State) (g : Fin 9) (l : Fin 4), s.Sound ∧ s.qualMay g.val l.val = true ∧
      1 ≤ (vAt s.eyes (4 * g.val + l.val)).tries) ∧
    (∃ (s : State) (h : Hp) (pair : Fin 4) (block : BitVec 64) (n : Fin 10), s.Sound ∧ s.linkRuns h.val = true ∧
      s.cvState h.val = L.eq ∧ bitAt (s.failedMask h.val) pair.val = false ∧ s.sends h.val pair.val = true ∧
      trainSub block.toNat = 2 ∧ bitsOf block.toNat 20 4 = n.val ∧
      vAt (s.link h.val).reqId pair.val ≠ some (bitsOf block.toNat 24 4)) ∧
    (∃ (s : State) (h : Hp) (pair : Fin 4), s.Sound ∧ s.linkRuns h.val = true ∧ (s.cvState h.val = L.ref ∨
      s.cvState h.val = L.speed) ∧ s.get (F.LN_STATUS_DIR h.val (s.ballPair h.val pair.val)) = 0) := by
  exact ⟨
    ⟨wit [(F.LN_EYE_RESULT_BUSY 8 3, 0), (F.LN_STATUS_STATE 8 3, laneActive)], 0, 8, 3, wit_sound _,
      field_of (by decide +kernel), by decide +kernel⟩,
    ⟨wit [(F.LN_EYE_RESULT_BUSY 8 3, 0)], 0, 8, 3, wit_sound _, field_of (by decide +kernel), by decide +kernel⟩,
    ⟨wit [(F.LN_EYE_RESULT_BUSY 8 3, 1)], 8, 3, wit_sound _, by decide +kernel⟩,
    ⟨wit [(F.LG_CTRL_ENABLE 8, 1), (F.LG_CTRL_ROLE 8, 3), (F.LG_STATUS_ACTIVE 8, 8), (F.LG_STATUS_QUALIFYING 8, 8)],
      8, 3, .counted [0, 0, 0, 0], wit_sound _, by decide +kernel⟩,
    ⟨wits [(F.LG_CTRL_ENABLE 8, 1), (F.LG_CTRL_ROLE 8, 3), (F.LG_STATUS_ACTIVE 8, 8), (F.LG_STATUS_QUALIFYING 8,
      8)] (fun s => { s with eyes := vPut s.eyes 35 { eye0 with tries := 14 } }), 8, 3, .counted [0, 1, 0, 0],
      wits_sound _ _ (fun _ => rfl) (fun _ => rfl), by decide +kernel⟩,
    ⟨wits [(F.LG_CTRL_ENABLE 8, 1), (F.LG_CTRL_ROLE 8, 3), (F.LG_STATUS_ACTIVE 8, 8), (F.LG_STATUS_QUALIFYING 8,
      8)] (fun s => { s with eyes := vPut s.eyes 35 { eye0 with tries := 1 } }), 8, 3,
      wits_sound _ _ (fun _ => rfl) (fun _ => rfl), by decide +kernel⟩,
    ⟨wit [(F.CV_STATUS_STATE 3, L.eq), (F.LN_STATUS_DIR 3 3, 1)], 3, 3, 9441280, 9, wit_sound _, by decide +kernel⟩,
    ⟨wit [(F.CV_STATUS_STATE 3, L.ref), (F.LN_STATUS_DIR 3 3, 0)], 3, 3, wit_sound _, by decide +kernel⟩⟩

theorem test_wit_FieldBuses :
    (∃ (s : State) (b : Fin 20) (t : FieldTxn) (l : List FieldTxn), s.Sound ∧ s.busRuns b.val = true ∧
      (s.fb b.val).cur = none ∧ (s.fb b.val).keep = none ∧ (s.fb b.val).launched = t :: l) ∧
    (∃ (s : State) (b : Fin 20) (t : FieldTxn) (c : Fin 8), s.Sound ∧ (s.fb b.val).cur = some t ∧ c ≠ 0) ∧
    (∃ (s : State) (b : Fin 20) (k : FieldKeep), s.Sound ∧ (s.fb b.val).keep = some k ∧ (∀ t ∈ (s.fb b.val).queue,
      t.follower ≠ some k.id)) ∧
    (∃ (s : State) (b : Fin 20) (a : Agent), s.Sound ∧ s.TakesField a.val (A.WD_BUS_CTRL b.val) 0 1 0 ∧
      s.boardOrService a.val = true ∧ s.get (F.WD_BUS_CTRL_ENABLE b.val) = 1) ∧
    (∃ (s : State) (c : Fin 4) (w0 : Word), s.Sound ∧ ((∀ i < 8, s.get (F.WD_CAN_FILT_i_EN (12 + c.val) i) = 0) ∨
      ∃ i < 8, s.canMatch (12 + c.val) i (BitVec.toNat w0) = true) ∧ s.busRuns (12 + c.val) = true) ∧
    (∃ (s : State) (c : Fin 4) (st : Fin 3), s.Sound ∧ s.get (F.WD_BUS_STATUS_CAN_STATE (12 + c.val)) ≠ st.val ∧
      s.unitRuns 15 = true) ∧
    (∃ (s : State) (u : Fin 4) (bytes : RxIn), s.Sound ∧ s.busRuns (16 + u.val) = true ∧ bytes.bytes ≠ []) ∧
    (∃ (s : State) (b : Fin 20) (h : ℕ) (n : ℕ) (r : RxRec) (l : List RxRec), s.Sound ∧ s.ownerOf (busRes b.val) = h ∧
      h < 4 ∧ (s.fb b.val).rx = r :: l ∧ s.get (F.WD_RX_CTRL_DELIVERY b.val) = 0 ∧ s.linkUp h = true ∧
      s.busRuns b.val = true ∧ s.findTun h 4 (s.tunUp h) = some n) ∧
    (∃ (s : State) (a : Agent) (h : Hp), s.Sound ∧ s.TakesField a.val (A.WD_PERR_POP_h h.val) 0 1 1 ∧ a.val = h.val) := by
  exact ⟨
    ⟨wits [(F.WD_BUS_CTRL_ENABLE 19,
      1)] (fun s => s.modFb 19 (fun f => { f with launched := [⟨0, 3, 7, true, false, 0, [], none, false⟩] })), 19,
      ⟨0, 3, 7, true, false, 0, [], none, false⟩, [], wits_sound _ _ (fun _ => rfl) (fun _ => rfl), by decide +kernel⟩,
    ⟨wits [] (fun s => s.modFb 19 (fun f => { f with cur := some ⟨0, 3, 7, true, false, 0, [], none, false⟩ })), 19,
      ⟨0, 3, 7, true, false, 0, [], none, false⟩, 7, wits_sound _ _ (fun _ => rfl) (fun _ => rfl), by decide +kernel⟩,
    ⟨wits [] (fun s => s.modFb 19 (fun f => { f with keep := some ⟨3, 0, 0, 0⟩ })), 19, ⟨3, 0, 0, 0⟩,
      wits_sound _ _ (fun _ => rfl) (fun _ => rfl), by decide +kernel⟩,
    ⟨wit [(F.WD_BUS_CTRL_ENABLE 19, 1)], 19, 4, wit_sound _, field_of (by decide +kernel), by decide +kernel⟩,
    ⟨wit [(F.WD_BUS_CTRL_ENABLE 15, 1)], 3, 0, wit_sound _, .inl (by decide +kernel), by decide +kernel⟩,
    ⟨wit [], 3, 2, wit_sound _, by decide +kernel⟩,
    ⟨wit [(F.WD_BUS_CTRL_ENABLE 19, 1)], 3, ⟨0, [1]⟩, wit_sound _, by decide +kernel⟩,
    ⟨wits [(F.WD_RX_CTRL_DELIVERY 19, 0), (F.CV_STATUS_STATE 0, 7), (F.WD_RX_CTRL_WATERMARK 19, 1),
      (F.WD_RX_STAT_FILL 19, 4), (F.CV_TUN_n_W0_W 0 63, 36), (F.WD_BUS_CTRL_ENABLE 19,
      1)] (fun s => s.modFb 19 (fun f => { f with rx := [⟨[0], 4, 0⟩] })), 19, 0, 63, ⟨[0], 4, 0⟩, [],
      wits_sound _ _ (fun _ => rfl) (fun _ => rfl), by decide +kernel⟩,
    ⟨wit [], 3, 3, wit_sound _, field_of (by decide +kernel), by decide +kernel⟩⟩

theorem test_wit_GrainPools :
    (∃ (s : State) (g : ℕ), s.Sound ∧ g ≠ noGrain) ∧
    (∃ (s : State) (h : Hp) (n : ℕ) (p : Packet) (g : ℕ) (rest : List ℕ), s.Sound ∧ s.grainMsg h.val n = none ∧
      s.surfFmt (bitsOf (s.tunW0 h.val n) 6 3 % 2) (pktBits p 41 5) ≠ 0 ∧
      pktBits p 46 6 < s.surfW (bitsOf (s.tunW0 h.val n) 6 3 % 2) (pktBits p 41 5) ∧
      pktBits p 52 6 < s.surfH (bitsOf (s.tunW0 h.val n) 6 3 % 2) (pktBits p 41 5) ∧
      vAt s.pl.free (bitsOf (s.tunW0 h.val n) 6 3 % 2) = g :: rest) ∧
    (∃ (s : State) (h : Hp) (n : ℕ) (p : Packet), s.Sound ∧ s.grainMsg h.val n = none ∧
      s.surfFmt (bitsOf (s.tunW0 h.val n) 6 3 % 2) (pktBits p 41 5) ≠ 0 ∧
      pktBits p 46 6 < s.surfW (bitsOf (s.tunW0 h.val n) 6 3 % 2) (pktBits p 41 5) ∧
      pktBits p 52 6 < s.surfH (bitsOf (s.tunW0 h.val n) 6 3 % 2) (pktBits p 41 5) ∧
      vAt s.pl.free (bitsOf (s.tunW0 h.val n) 6 3 % 2) = []) := by
  exact ⟨
    ⟨wit [], 0, wit_sound _, by decide +kernel⟩,
    ⟨wits [(F.SURF_W0_V 0 0, 65793)] (fun s => { s with pl := { s.pl with free := vPut s.pl.free 0 [5] } }), 3, 63,
      ⟨0, []⟩, 5, [], wits_sound _ _ (fun _ => rfl) (fun _ => rfl), by decide +kernel⟩,
    ⟨wit [(F.SURF_W0_V 0 0, 65793)], 3, 63, ⟨0, []⟩, wit_sound _, by decide +kernel⟩⟩

theorem test_wit_HeadCommits :
    (∃ (s : State) (x : Fin 2) (a : Agent), s.Sound ∧ s.TakesField a.val (A.HD_COMMIT x.val) 0 1 1 ∧
      s.owns a.val x.val = true ∧ s.get (F.HD_STATUS_PENDING x.val) = 0) ∧
    (∃ (s : State) (x : Fin 2) (a : Agent), s.Sound ∧ s.TakesField a.val (A.HD_COMMIT x.val) 1 1 1 ∧
      s.owns a.val x.val = true ∧ s.get (F.HD_STATUS_PENDING x.val) = 1 ∧ vAt s.pl.taken x.val = false) ∧
    (∃ (s : State) (x : Fin 2), s.Sound ∧ s.get (F.HD_STATUS_PENDING x.val) = 1 ∧
      s.get (F.HD_STATUS_CHECKED x.val) = 0 ∧ s.geometryOk x.val = false) ∧
    (∃ (s : State) (x : Fin 2), s.Sound ∧ s.get (F.HD_STATUS_PENDING x.val) = 1 ∧
      s.get (F.HD_STATUS_CHECKED x.val) = 0 ∧ s.geometryOk x.val = true) ∧
    (∃ (s : State) (x : Fin 2), s.Sound ∧ s.get (F.HD_STATUS_RUNNING x.val) = 1 ∧
      s.get (F.HD_STATUS_PENDING x.val) = 1 ∧ s.hdWaitMet x.val = true ∧ s.get (F.HD_STATUS_CHECKED x.val) = 1) ∧
    (∃ (s : State) (x : Fin 2), s.Sound ∧ s.get (F.HD_STATUS_RUNNING x.val) = 1 ∧
      s.get (F.HD_STATUS_PENDING x.val) = 1 ∧ s.hdWaitMet x.val = false ∧ (s.get (F.HD_WAIT_MAX_FRAMES x.val) = 0 ∨
      vAt s.pl.waits x.val + 1 < s.get (F.HD_WAIT_MAX_FRAMES x.val))) ∧
    (∃ (s : State) (x : Fin 2), s.Sound ∧ s.get (F.HD_STATUS_RUNNING x.val) = 1 ∧
      s.get (F.HD_STATUS_PENDING x.val) = 1 ∧ s.hdWaitMet x.val = false ∧ s.get (F.HD_WAIT_MAX_FRAMES x.val) ≠ 0 ∧
      s.get (F.HD_WAIT_MAX_FRAMES x.val) ≤ vAt s.pl.waits x.val + 1) ∧
    (∃ (s : State) (r : Fin 8), s.Sound ∧ 2 ≤ r.val ∧ r.val ≤ 4) ∧
    (∃ (s : State) (x : Fin 2) (a : Agent), s.Sound ∧ s.TakesField a.val (A.HD_CTRL x.val) 0 1 1 ∧
      s.owns a.val x.val = true ∧ s.get (F.HD_CTRL_ENABLE x.val) = 0 ∧ s.hdTimingOk x.val = true ∧
      (s.put (F.HD_CTRL_ENABLE x.val) 1).ledgerSumNow 8 ≤ (s.put (F.HD_CTRL_ENABLE x.val) 1).ledgerLimitNow 8) ∧
    (∃ (s : State) (x : Fin 2) (a : Agent), s.Sound ∧ s.TakesField a.val (A.HD_CTRL x.val) 0 1 0 ∧
      s.owns a.val x.val = true ∧ s.get (F.HD_CTRL_ENABLE x.val) = 1) := by
  exact ⟨
    ⟨wit [(F.OWN_k_OWNER 1, 3), (F.HD_STATUS_PENDING 1, 0)], 1, 3, wit_sound _, field_of (by decide +kernel),
      by decide +kernel⟩,
    ⟨wit [(F.OWN_k_OWNER 1, 3), (F.HD_STATUS_PENDING 1, 1)], 1, 3, wit_sound _, field_of (by decide +kernel),
      by decide +kernel⟩,
    ⟨wit [(F.HD_STATUS_PENDING 1, 1), (F.HD_STATUS_CHECKED 1, 0), (⟨A.LY_CTRL 1 7, 0, 32⟩, 0x00FF0001)], 1,
      wit_sound _, by decide +kernel⟩,
    ⟨wit [(F.HD_STATUS_PENDING 1, 1), (F.HD_STATUS_CHECKED 1, 0)], 1, wit_sound _, by decide +kernel⟩,
    ⟨wit [(F.HD_STATUS_RUNNING 1, 1), (F.HD_STATUS_PENDING 1, 1), (F.HD_STATUS_CHECKED 1, 1)], 1, wit_sound _,
      by decide +kernel⟩,
    ⟨wit [(F.HD_STATUS_RUNNING 1, 1), (F.HD_STATUS_PENDING 1, 1), (F.HD_WAIT_MAX_FRAMES 1, 0), (F.HD_WAIT_EN 1, 1),
      (F.HD_WAIT_SEQ 1, 1)], 1, wit_sound _, by decide +kernel⟩,
    ⟨wit [(F.HD_STATUS_RUNNING 1, 1), (F.HD_STATUS_PENDING 1, 1), (F.HD_WAIT_EN 1, 1), (F.HD_WAIT_SEQ 1, 1),
      (F.HD_WAIT_MAX_FRAMES 1, 1)], 1, wit_sound _, by decide +kernel⟩,
    ⟨wit [], 4, wit_sound _, by decide +kernel⟩,
    ⟨wit [(F.OWN_k_OWNER 1, 3), (F.HD_CTRL_ENABLE 1, 0), (⟨A.HD_PCLK 1, 0, 32⟩, 655361), (⟨A.HD_HTIM 1, 0, 32⟩,
      52429440), (⟨A.HD_HSYNC 1, 0, 32⟩, 6292112), (⟨A.HD_VTIM 1, 0, 32⟩, 34406880), (⟨A.HD_VSYNC 1, 0, 32⟩, 131562)],
      1, 3, wit_sound _, field_of (by decide +kernel), by decide +kernel⟩,
    ⟨wit [(F.OWN_k_OWNER 1, 3), (F.HD_CTRL_ENABLE 1, 1)], 1, 3, wit_sound _, field_of (by decide +kernel),
      by decide +kernel⟩⟩

theorem test_wit_HeartbeatsAndOwnership :
    (∃ (s : State) (tr : Transport) (tag : Byte) (h : Hp), s.Sound ∧
      s.Admits h.val tr (mkFrame 5 (BitVec.toNat tag) 0 0 0 []) ∧ s.linkUp h.val = true ∧
      s.get (F.MGMT_HB_h_ARMED h.val) = 0) ∧
    (∃ (s : State) (tr : Transport) (tag : Byte) (h : Hp), s.Sound ∧
      s.Admits h.val tr (mkFrame 5 (BitVec.toNat tag) 1 0 0 [1])) ∧
    (∃ (s : State) (a : Agent) (tr : Transport) (tag : Byte) (data : List Word), s.Sound ∧
      s.Admits a.val tr (mkFrame 32 (BitVec.toNat tag) data.length 0 0 data)) ∧
    (∃ (s : State) (a : Agent) (tr : Transport) (tag : Byte) (data : List Word), s.Sound ∧
      s.Admits a.val tr (mkFrame 33 (BitVec.toNat tag) data.length 0 0 data)) ∧
    (∃ (s : State) (a : Agent) (tr : Transport) (tag : Byte) (data : List Word), s.Sound ∧
      s.Admits a.val tr (mkFrame 34 (BitVec.toNat tag) data.length 0 0 data)) ∧
    (∃ (s : State) (a : Agent) (tr : Transport) (tag : Byte), s.Sound ∧
      s.Admits a.val tr (mkFrame 49 (BitVec.toNat tag) 0 0 0 [])) ∧
    (∃ (s : State) (a : Agent) (tr : Transport) (tag : Byte) (target : Word), s.Sound ∧
      s.Admits a.val tr (mkFrame 48 (BitVec.toNat tag) 0 0 (BitVec.toNat target) []) ∧
      bitAt (s.passTurn a.val).enterAgents a.val = true ∧
      bitAt (s.passTurn a.val).allow (BitVec.toNat target - 1) = true ∧
      (s.passTurn a.val).veto (BitVec.toNat target) (s.passTurn a.val).pwr.isSome = none ∧ (2 ≤ BitVec.toNat target ∧
      BitVec.toNat target ≤ 4)) ∧
    (∃ (s : State) (a : Agent) (tr : Transport) (tag : Byte) (target : Word), s.Sound ∧
      s.Admits a.val tr (mkFrame 48 (BitVec.toNat tag) 0 0 (BitVec.toNat target) []) ∧
      bitAt (s.passTurn a.val).enterAgents a.val = true ∧
      bitAt (s.passTurn a.val).allow (BitVec.toNat target - 1) = true ∧
      (s.passTurn a.val).veto (BitVec.toNat target) (s.passTurn a.val).pwr.isSome = none ∧ target = 1) := by
  exact ⟨
    ⟨wit [(F.CV_STATUS_STATE 3, 7), (F.MGMT_HB_h_ARMED 3, 0)], .usb, 7, 3, wit_sound _, admits_of (by decide +kernel),
      by decide +kernel⟩,
    ⟨wit [], .usb, 7, 3, wit_sound _, admits_of (by decide +kernel)⟩,
    ⟨wit [], 0, .usb, 7, [1, 0], wit_sound _, admits_of (by decide +kernel)⟩,
    ⟨wit [], 0, .usb, 7, [1, 0], wit_sound _, admits_of (by decide +kernel)⟩,
    ⟨wit [], 0, .usb, 7, [1, 0], wit_sound _, admits_of (by decide +kernel)⟩,
    ⟨wit [], 0, .usb, 7, wit_sound _, admits_of (by decide +kernel)⟩,
    ⟨wit [], 4, .spi, 7, 4, wit_sound _, admits_of (by decide +kernel), by decide +kernel⟩,
    ⟨wit [], 4, .spi, 7, 1, wit_sound _, admits_of (by decide +kernel), by decide +kernel⟩⟩

theorem test_wit_IsolationAndFatals :
    (∃ (s : State) (u : Fin 24) (a : Agent), s.Sound ∧ s.TakesField a.val (A.ISO_u u.val) 8 1 1 ∧
      s.inService a.val = true ∧ s.get (F.ISO_u_STATE u.val) = 0) ∧
    (∃ (s : State) (u : Fin 24) (a : Agent), s.Sound ∧ s.TakesField a.val (A.ISO_u u.val) 9 1 1 ∧
      s.boardOrService a.val = true ∧ s.get (F.ISO_u_STATE u.val) = 3) ∧
    (∃ (s : State) (u : Fin 24) (code : Word), s.Sound ∧
      (s.logHw (s.unitOwner u.val) 3 0 21 u.val (BitVec.toNat code)).get (F.ISO_u_STATE u.val) ≠ 0) ∧
    (∃ (s : State) (u : Fin 24) (code : Word), s.Sound ∧
      (s.logHw (s.unitOwner u.val) 3 0 21 u.val (BitVec.toNat code)).get (F.ISO_u_STATE u.val) = 0 ∧
      vAt (s.logHw (s.unitOwner u.val) 3 0 21 u.val (BitVec.toNat code)).oa.fatalAt u.val = none) ∧
    (∃ (s : State) (u : Fin 24) (code : Word) (t : ℕ), s.Sound ∧
      (s.logHw (s.unitOwner u.val) 3 0 21 u.val (BitVec.toNat code)).get (F.ISO_u_STATE u.val) = 0 ∧
      vAt (s.logHw (s.unitOwner u.val) 3 0 21 u.val (BitVec.toNat code)).oa.fatalAt u.val = some t) ∧
    (∃ (s : State) (b : Fin 42), s.Sound ∧ 32 ≤ b.val) ∧
    (∃ (s : State) (u : Fin 24) (t : ℕ), s.Sound ∧ vAt s.oa.leftAt u.val = some t) := by
  exact ⟨
    ⟨wits [(F.ISO_u_STATE 23, 0)] (fun s => s.modAgent 0 (fun g => { g with service := true })), 23, 0,
      wits_sound _ _ (fun _ => rfl) (fun _ => rfl), field_of (by decide +kernel), by decide +kernel⟩,
    ⟨wit [(F.ISO_u_STATE 23, 3)], 23, 4, wit_sound _, field_of (by decide +kernel), by decide +kernel⟩,
    ⟨wit [(F.ISO_u_STATE 23, 1)], 23, 0, wit_sound _, by decide +kernel⟩,
    ⟨wit [], 23, 0, wit_sound _, by decide +kernel⟩,
    ⟨wits [] (fun s => { s with oa := { s.oa with fatalAt := vPut s.oa.fatalAt 23 (some 5) } }), 23, 0, 5,
      wits_sound _ _ (fun _ => rfl) (fun _ => rfl), by decide +kernel⟩,
    ⟨wit [], 41, wit_sound _, by decide +kernel⟩,
    ⟨wits [] (fun s => { s with oa := { s.oa with leftAt := vPut s.oa.leftAt 23 (some 5) } }), 23, 5,
      wits_sound _ _ (fun _ => rfl) (fun _ => rfl), by decide +kernel⟩⟩

theorem test_wit_LaneSpares :
    (∃ (s : State) (g : Fin 9) (a : Agent), s.Sound ∧ s.TakesField a.val (A.LG_SERVICE g.val) 0 1 1 ∧
      s.get (F.LG_STATUS_PLL_SEL g.val) = 0 ∧ s.get (F.LG_STATUS_SPARE_PLL_OK g.val) = 1 ∧ s.inService a.val = true) ∧
    (∃ (s : State) (g : Fin 9), s.Sound ∧ s.get (F.LG_STATUS_SPARE_PLL_OK g.val) = 0) ∧
    (∃ (s : State) (g : Fin 9), s.Sound ∧ bitAt s.mainLost g.val = false) ∧
    (∃ (s : State) (g : Fin 9), s.Sound ∧ bitAt s.mainLost g.val = true) ∧
    (∃ (s : State) (g : Fin 9) (l : Fin 4) (a : Agent), s.Sound ∧
      s.TakesField a.val (A.LG_SERVICE g.val) 1 4 (2 ^ l.val) ∧ s.get (F.LG_STATUS_SPARE_SLICE_FREE g.val) = 1 ∧
      s.inService a.val = true) ∧
    (∃ (s : State) (g : Fin 9), s.Sound ∧ s.get (F.LG_STATUS_SPARE_SLICE_FREE g.val) = 0) := by
  exact ⟨
    ⟨wits [(F.LG_STATUS_PLL_SEL 8, 0), (F.LG_STATUS_SPARE_PLL_OK 8,
      1)] (fun s => s.modAgent 0 (fun g => { g with service := true })), 8, 0,
      wits_sound _ _ (fun _ => rfl) (fun _ => rfl), field_of (by decide +kernel), by decide +kernel⟩,
    ⟨wit [(F.LG_STATUS_SPARE_PLL_OK 8, 0)], 8, wit_sound _, by decide +kernel⟩,
    ⟨wit [], 8, wit_sound _, by decide +kernel⟩,
    ⟨wits [] (fun s => { s with mainLost := 256 }), 8, wits_sound _ _ (fun _ => rfl) (fun _ => rfl),
      by decide +kernel⟩,
    ⟨wits [(F.LG_STATUS_SPARE_SLICE_FREE 8, 1)] (fun s => s.modAgent 0 (fun g => { g with service := true })), 8, 3,
      0, wits_sound _ _ (fun _ => rfl) (fun _ => rfl), field_of (by decide +kernel), by decide +kernel⟩,
    ⟨wit [(F.LG_STATUS_SPARE_SLICE_FREE 8, 0)], 8, wit_sound _, by decide +kernel⟩⟩

theorem test_wit_Launches :
    (∃ (s : State) (h : Hp) (words : List Word) (n : ℕ), s.Sound ∧ s.hears h.val = true ∧
      ((s.findTun h.val 5 fun (x : ℕ) => true) = some n) ∧ words.length % 4 = 0 ∧ 0 < words.length ∧
      words.length ≤ 256) ∧
    (∃ (s : State) (h : Hp) (words : List Word) (n : ℕ), s.Sound ∧ s.hears h.val = true ∧
      ((s.findTun h.val 5 fun (x : ℕ) => true) = some n) ∧ words.length % 2 = 0 ∧ 0 < words.length ∧
      words.length ≤ 256) ∧
    (∃ (s : State) (h : Hp) (words : List Word) (n : ℕ), s.Sound ∧ s.hears h.val = true ∧
      ((s.findTun h.val 5 fun (x : ℕ) => true) = some n) ∧ (words.length % 2 ≠ 0 ∨ words.length = 0 ∨
      256 < words.length)) ∧
    (∃ (s : State) (a : Agent) (w0 : Word) (w1 : Word) (w2 : Word) (w3 : Word), s.Sound ∧
      s.TakesWords a.val (A.SR_SUBMIT_W 0) [w0, w1, w2, w3]) ∧
    (∃ (s : State) (a : Agent) (w0 : Word) (w1 : Word), s.Sound ∧ s.TakesWords a.val (A.SR_CANCEL_W 0) [w0, w1]) ∧
    (∃ (s : State) (l : Launch), s.Sound ∧ s.nextLaunch = some l ∧ s.awake = true ∧ s.counting = true ∧
      l.at_ ≤ s.nextBoundary ∧ s.sr.seconds = []) ∧
    (∃ (s : State) (p : Firing), s.Sound ∧ s.nextSecond = some p ∧ s.awake = true ∧ s.counting = true ∧
      p.1 ≤ s.nextBoundary ∧ s.sr.queue = []) := by
  exact ⟨
    ⟨wit [(F.CV_TUN_n_W0_W 3 63, 5), (F.CV_STATUS_STATE 3, 7)], 3, List.replicate 256 0, 63, wit_sound _,
      by decide +kernel⟩,
    ⟨wit [(F.CV_TUN_n_W0_W 3 63, 5), (F.CV_STATUS_STATE 3, 7)], 3, List.replicate 256 0, 63, wit_sound _,
      by decide +kernel⟩,
    ⟨wit [(F.CV_TUN_n_W0_W 3 63, 5), (F.CV_STATUS_STATE 3, 7)], 3, [], 63, wit_sound _, by decide +kernel⟩,
    ⟨wit [], 0, 0, 0, 0, 0, wit_sound _, takes_of (by decide +kernel)⟩,
    ⟨wit [], 0, 0, 0, wit_sound _, takes_of (by decide +kernel)⟩,
    ⟨wits [] (fun s => { s with sr := { s.sr with queue := [⟨500125000, 500125000, 0, 0, 0, 0, false, 0, 0, false, 0, false, 3, none, [], 0⟩] } }),
      ⟨500125000, 500125000, 0, 0, 0, 0, false, 0, 0, false, 0, false, 3, none, [], 0⟩,
      wits_sound _ _ (fun _ => rfl) (fun _ => rfl), by decide +kernel⟩,
    ⟨wits [] (fun s => { s with sr := { s.sr with seconds := [(5, ⟨600000000, 600000000, 0, 0, 0, 0, false, 0, 0, false, 0, false, 3, none, [], 0⟩)] } }),
      (5, ⟨600000000, 600000000, 0, 0, 0, 0, false, 0, 0, false, 0, false, 3, none, [], 0⟩),
      wits_sound _ _ (fun _ => rfl) (fun _ => rfl), by decide +kernel⟩⟩

theorem test_wit_LinkLocks :
    (∃ (s : State) (h : Hp) (pair : Fin 4) (hs : List (BitVec 2)) (f : ℕ), s.Sound ∧ 2 ≤ s.cvState h.val ∧
      s.linkRuns h.val = true ∧ s.regaining h.val pair.val = false ∧
      huntLock (s.fecOn h.val) (vAt (s.link h.val).rx.phase pair.val) hs = some f) ∧
    (∃ (s : State) (h : Hp) (pair : Fin 4) (hs : List (BitVec 2)), s.Sound ∧ 2 ≤ s.cvState h.val ∧
      s.linkRuns h.val = true ∧ s.regaining h.val pair.val = false ∧
      huntLock (s.fecOn h.val) (vAt (s.link h.val).rx.phase pair.val) hs = none) ∧
    (∃ (s : State) (h : Hp) (pair : Fin 4) (hs : List (BitVec 2)), s.Sound ∧ 2 ≤ s.cvState h.val ∧
      s.linkRuns h.val = true ∧ s.regaining h.val pair.val = true ∧
      regains (s.fecOn h.val) (vAt (s.link h.val).rx.place pair.val) hs = true) ∧
    (∃ (s : State) (h : Hp) (pair : Fin 4) (hs : List (BitVec 2)), s.Sound ∧ 2 ≤ s.cvState h.val ∧
      s.linkRuns h.val = true ∧ s.regaining h.val pair.val = true ∧
      regains (s.fecOn h.val) (vAt (s.link h.val).rx.place pair.val) hs = false) ∧
    (∃ (s : State) (h : Hp) (hs : List (BitVec 2)) (k : ℕ), s.Sound ∧ 2 ≤ s.cvState h.val ∧ s.linkRuns h.val = true ∧
      s.fecOn h.val = true ∧ cwFound hs = some k) ∧
    (∃ (s : State) (h : Hp) (pair : Fin 4) (hs : List (BitVec 2)), s.Sound ∧ 2 ≤ s.cvState h.val ∧
      s.linkRuns h.val = true ∧ isUpState (s.cvState h.val) = true ∧
      (s.link h.val).blockLock &&& 15 - 2 ^ pair.val &&& s.downMask h.val ≠ 0 ∧ lockGone (s.fecOn h.val) hs = true) ∧
    (∃ (s : State) (h : Hp) (pair : Fin 4) (hs : List (BitVec 2)), s.Sound ∧ 2 ≤ s.cvState h.val ∧
      s.linkRuns h.val = true ∧ isUpState (s.cvState h.val) = true ∧
      (s.link h.val).blockLock &&& 15 - 2 ^ pair.val &&& s.downMask h.val ≠ 0 ∧ s.fecOn h.val = true ∧
      cwGone hs (vAt (s.link h.val).rx.place pair.val) = true) ∧
    (∃ (s : State) (h : Hp) (pair : Fin 4) (hs : List (BitVec 2)), s.Sound ∧ 2 ≤ s.cvState h.val ∧
      s.linkRuns h.val = true ∧ isUpState (s.cvState h.val) = true ∧
      (s.link h.val).blockLock &&& 15 - 2 ^ pair.val &&& s.downMask h.val = 0 ∧ lockGone (s.fecOn h.val) hs = true) ∧
    (∃ (s : State) (h : Hp) (pair : Fin 4) (hs : List (BitVec 2)), s.Sound ∧ 2 ≤ s.cvState h.val ∧
      s.linkRuns h.val = true ∧ isUpState (s.cvState h.val) = true ∧
      (s.link h.val).blockLock &&& 15 - 2 ^ pair.val &&& s.downMask h.val = 0 ∧ s.fecOn h.val = true ∧
      cwGone hs (vAt (s.link h.val).rx.place pair.val) = true) ∧
    (∃ (s : State) (h : Hp) (b : BitVec 64) (skew : ℕ), s.Sound ∧ 2 ≤ s.cvState h.val ∧ s.linkRuns h.val = true ∧
      bitAt b.toNat 15 = false ∧ ((s.link h.val).marker = none ∨ 8 < skew ∨
      (s.link h.val).marker = some (bitsOf b.toNat 16 48))) ∧
    (∃ (s : State) (h : Hp) (b : BitVec 64) (skew : ℕ), s.Sound ∧ 2 ≤ s.cvState h.val ∧ s.linkRuns h.val = true ∧
      bitAt b.toNat 15 = false ∧ (s.link h.val).marker ≠ none ∧ skew ≤ 8 ∧
      (s.link h.val).marker ≠ some (bitsOf b.toNat 16 48)) ∧
    (∃ (s : State) (h : Hp) (pair : Fin 4) (b : BitVec 64) (pos : ℕ) (t : Turn) (m : ℕ), s.Sound ∧
      2 ≤ s.cvState h.val ∧ s.linkRuns h.val = true ∧ bitAt b.toNat 15 = true ∧ (s.link h.val).turn = some t ∧
      t.started = true ∧ t.pair = pair.val ∧ t.dir = 0 ∧ (s.link h.val).marker = some m ∧
      m % 2 ^ 32 = bitsOf b.toNat 16 32 ∧ bitsOf b.toNat 48 16 = pos) ∧
    (∃ (s : State) (h : Hp) (pair : Fin 4) (b : BitVec 64), s.Sound ∧ (∀ (t : Turn), (s.link h.val).turn = some t →
      t.pair ≠ pair.val) ∧ 2 ≤ s.cvState h.val ∧ s.linkRuns h.val = true ∧ bitAt b.toNat 15 = true) ∧
    (∃ (s : State) (h : Hp) (pair : Fin 4), s.Sound ∧ 2 ≤ s.cvState h.val ∧ s.linkRuns h.val = true ∧
      isUpState (s.cvState h.val) = true ∧
      ((s.link h.val).recovering ||| 2 ^ pair.val) &&& s.downMask h.val ≠ s.downMask h.val) ∧
    (∃ (s : State) (h : Hp) (pair : Fin 4), s.Sound ∧ 2 ≤ s.cvState h.val ∧ s.linkRuns h.val = true ∧
      isUpState (s.cvState h.val) = true ∧
      ((s.link h.val).recovering ||| 2 ^ pair.val) &&& s.downMask h.val = s.downMask h.val) ∧
    (∃ (s : State) (h : Hp) (b : BitVec 64), s.Sound ∧ 2 ≤ s.cvState h.val ∧ s.linkRuns h.val = true ∧
      knownType (blkType { hdr := 2, pay := b : Blk }) = false ∧ isUpState (s.cvState h.val) = true) ∧
    (∃ (s : State) (h : Hp) (b : BitVec 64), s.Sound ∧ 2 ≤ s.cvState h.val ∧ s.linkRuns h.val = true ∧
      knownType (blkType { hdr := 2, pay := b : Blk }) = true) := by
  exact ⟨
    ⟨wit [(F.CV_STATUS_STATE 3, 7)], 3, 3, List.replicate 128 1, 0, wit_sound _, by decide +kernel⟩,
    ⟨wit [(F.CV_STATUS_STATE 3, 7)], 3, 3, List.replicate 127 1, wit_sound _, by decide +kernel⟩,
    ⟨wit [(F.CV_STATUS_STATE 3, L.recovery), (F.LN_STATUS_DOWN_VALID 3 3, 1)], 3, 3, List.replicate 32 1, wit_sound _,
      by decide +kernel⟩,
    ⟨wit [(F.CV_STATUS_STATE 3, L.recovery), (F.LN_STATUS_DOWN_VALID 3 3, 1)], 3, 3, [], wit_sound _,
      by decide +kernel⟩,
    ⟨wit [(F.CV_STATUS_STATE 3, 7), (F.CV_STATUS_FEC 3, 1)], 3, List.replicate 60 3, 0, wit_sound _,
      by decide +kernel⟩,
    ⟨wits [(F.CV_STATUS_STATE 3, 7), (F.CV_STATUS_DOWN_MASK 3,
      15)] (fun s => s.modLink 3 (fun t => { t with blockLock := 15 })), 3, 3, List.replicate 16 0,
      wits_sound _ _ (fun _ => rfl) (fun _ => rfl), by decide +kernel⟩,
    ⟨wits [(F.CV_STATUS_STATE 3, 7), (F.CV_STATUS_FEC 3, 1), (F.CV_STATUS_DOWN_MASK 3,
      15)] (fun s => s.modLink 3 (fun t => { t with blockLock := 15 })), 3, 3, List.replicate 165 0,
      wits_sound _ _ (fun _ => rfl) (fun _ => rfl), by decide +kernel⟩,
    ⟨wit [(F.CV_STATUS_STATE 3, 7)], 3, 3, List.replicate 16 0, wit_sound _, by decide +kernel⟩,
    ⟨wit [(F.CV_STATUS_STATE 3, 7), (F.CV_STATUS_FEC 3, 1)], 3, 3, List.replicate 165 0, wit_sound _,
      by decide +kernel⟩,
    ⟨wits [(F.CV_STATUS_STATE 3, 7)] (fun s => s.modLink 3 (fun t => { t with marker := none })), 3, 0, 9,
      wits_sound _ _ (fun _ => rfl) (fun _ => rfl), by decide +kernel⟩,
    ⟨wits [(F.CV_STATUS_STATE 3, 7)] (fun s => s.modLink 3 (fun t => { t with marker := some 1 })), 3, 0, 8,
      wits_sound _ _ (fun _ => rfl) (fun _ => rfl), by decide +kernel⟩,
    ⟨wits [(F.CV_STATUS_STATE 3,
      7)] (fun s => (s.modLink 3 (fun t => { t with turn := some ⟨3, 0, false, 4000, true, false, true, false⟩ })).modLink 3 (fun t => { t with marker := some 0 })),
      3, 3, 32768, 0, ⟨3, 0, false, 4000, true, false, true, false⟩, 0, wits_sound _ _ (fun _ => rfl) (fun _ => rfl),
      by decide +kernel⟩,
    ⟨wit [(F.CV_STATUS_STATE 3, 7)], 3, 3, 32768, wit_sound _,
      fun t h => absurd h (by rw [show (State.link _ _).turn = none from rfl]; exact nofun), by decide +kernel⟩,
    ⟨wit [(F.CV_STATUS_STATE 3, L.active), (F.CV_STATUS_DOWN_MASK 3, 15)], 3, 3, wit_sound _, by decide +kernel⟩,
    ⟨wit [(F.CV_STATUS_STATE 3, L.active)], 3, 3, wit_sound _, by decide +kernel⟩,
    ⟨wit [(F.CV_STATUS_STATE 3, L.active)], 3, 0, wit_sound _, by decide +kernel⟩,
    ⟨wit [(F.CV_STATUS_STATE 3, 2)], 3, 0x0A, wit_sound _, by decide +kernel⟩⟩

theorem test_wit_LinkTimeouts :
    (∃ (s : State) (h : Hp), s.Sound ∧ s.linkRuns h.val = true ∧ s.cvState h.val = L.ref) ∧
    (∃ (s : State) (h : Hp), s.Sound ∧ s.linkRuns h.val = true ∧ s.cvState h.val = L.speed) ∧
    (∃ (s : State) (h : Hp), s.Sound ∧ s.linkRuns h.val = true ∧ s.cvState h.val = L.eq) ∧
    (∃ (s : State) (h : Hp), s.Sound ∧ s.linkRuns h.val = true ∧ s.cvState h.val = L.fec) ∧
    (∃ (s : State) (h : Hp), s.Sound ∧ s.linkRuns h.val = true ∧ s.cvState h.val = L.block) ∧
    (∃ (s : State) (h : Hp), s.Sound ∧ s.linkRuns h.val = true ∧ s.cvState h.val = L.recovery ∧
      (s.link h.val).blockLock &&& (s.link h.val).aligned &&& s.downMask h.val = s.downMask h.val ∧
      (∀ p ∈ pairsIn (s.downMask h.val), s.get (F.LN_STATUS_DOWN_VALID h.val (s.ballPair h.val p)) = 1)) ∧
    (∃ (s : State) (h : Hp), s.Sound ∧ s.linkRuns h.val = true ∧ s.cvState h.val = L.recovery ∧
      ((s.link h.val).blockLock &&& (s.link h.val).aligned &&& s.downMask h.val ≠ s.downMask h.val ∨
      ∃ p ∈ pairsIn (s.downMask h.val), s.get (F.LN_STATUS_DOWN_VALID h.val (s.ballPair h.val p)) = 0)) := by
  exact ⟨
    ⟨wit [(F.CV_STATUS_STATE 3, L.ref)], 3, wit_sound _, by decide +kernel⟩,
    ⟨wit [(F.CV_STATUS_STATE 3, L.speed)], 3, wit_sound _, by decide +kernel⟩,
    ⟨wit [(F.CV_STATUS_STATE 3, L.eq)], 3, wit_sound _, by decide +kernel⟩,
    ⟨wit [(F.CV_STATUS_STATE 3, L.fec)], 3, wit_sound _, by decide +kernel⟩,
    ⟨wit [(F.CV_STATUS_STATE 3, L.block)], 3, wit_sound _, by decide +kernel⟩,
    ⟨wit [(F.CV_STATUS_STATE 3, L.recovery)], 3, wit_sound _, by decide +kernel⟩,
    ⟨wit [(F.CV_STATUS_STATE 3, L.recovery), (F.CV_STATUS_DOWN_MASK 3, 15)], 3, wit_sound _, by decide +kernel⟩⟩

theorem test_wit_LinkTraining :
    (∃ (s : State) (h : Hp) (b : BitVec 64), s.Sound ∧ s.linkRuns h.val = true ∧ trainSub b.toNat = 0 ∧
      s.cvState h.val = L.speed) ∧
    (∃ (s : State) (h : Hp) (b : BitVec 64), s.Sound ∧ s.linkRuns h.val = true ∧ trainSub b.toNat = 0 ∧
      s.cvState h.val = L.ref ∧ (s.link h.val).blockLock &&& 10 ≠ 0) ∧
    (∃ (s : State) (h : Hp) (b : BitVec 64), s.Sound ∧ s.linkRuns h.val = true ∧ trainSub b.toNat = 1 ∧
      s.cvState h.val = L.speed ∧ (s.pickGear h.val).isSome = true ∧ (s.link h.val).echoed = false ∧
      bitAt b.toNat 20 = false) ∧
    (∃ (s : State) (h : Hp) (b : BitVec 64), s.Sound ∧ s.linkRuns h.val = true ∧ trainSub b.toNat = 1 ∧
      s.cvState h.val = L.speed ∧ (s.pickGear h.val).isSome = true ∧ (s.link h.val).echoed = false ∧
      bitAt b.toNat 20 = true ∧ bitAt b.toNat 21 = false ∧ (s.link h.val).goSeen < 16) ∧
    (∃ (s : State) (h : Hp) (b : BitVec 64), s.Sound ∧ s.linkRuns h.val = true ∧ trainSub b.toNat = 1 ∧
      s.cvState h.val = L.speed ∧ (s.pickGear h.val).isSome = true ∧ (s.link h.val).echoed = true ∧
      bitAt b.toNat 21 = true ∧ (s.link h.val).goSeen = 15) ∧
    (∃ (s : State) (h : Hp) (pair : Fin 4) (q : Fin 4), s.Sound ∧ s.linkRuns h.val = true ∧ s.cvState h.val = L.eq ∧
      s.equalising h.val pair.val = true ∧ s.eqReady h.val pair.val = true ∧
      bitAt (15 - s.failedMask h.val) q.val = true ∧ vAt (s.link h.val).eqCount q.val < 15) ∧
    (∃ (s : State) (h : Hp) (pair : Fin 4), s.Sound ∧ s.linkRuns h.val = true ∧ s.cvState h.val = L.eq ∧
      s.equalising h.val pair.val = true ∧ s.eqReady h.val pair.val = true ∧ (∀ (q : Fin 4),
      bitAt (15 - s.failedMask h.val) q.val = true →
      16 ≤ vAt (((s.sendTrain h.val (if bitAt (s.txMask h.val) pair.val = true then pair.val else s.returnPair h.val pair.val) pair.val 2 (2 ^ 20 * 15 + 2 ^ 38 + s.eqTaps h.val (s.ballPair h.val (if bitAt (s.txMask h.val) pair.val = true then pair.val else s.returnPair h.val pair.val)))).modLink h.val fun l => { l with eqCount := vMod l.eqCount pair.val fun (x : ℕ) => x + 1 }).link h.val).eqCount q.val)) ∧
    (∃ (s : State) (h : Hp) (b : BitVec 64) (i : ℕ) (sent : ℕ), s.Sound ∧ s.linkRuns h.val = true ∧
      s.cvState h.val = L.block ∧ trainSub b.toNat = 4 ∧ bitsOf b.toNat 16 2 = 1 ∧
      (List.find? (fun (x : ℕ × ℕ) => x.1 == bitsOf b.toNat 18 4) (s.link h.val).pings = some (i, sent)) ∧
      (s.link h.val).latCount < 15) ∧
    (∃ (s : State) (h : Hp) (b : BitVec 64) (i : ℕ) (sent : ℕ), s.Sound ∧ s.linkRuns h.val = true ∧
      s.cvState h.val = L.block ∧ trainSub b.toNat = 4 ∧ bitsOf b.toNat 16 2 = 1 ∧
      (List.find? (fun (x : ℕ × ℕ) => x.1 == bitsOf b.toNat 18 4) (s.link h.val).pings = some (i, sent)) ∧
      15 ≤ (s.link h.val).latCount) ∧
    (∃ (s : State) (h : Hp) (a : Agent), s.Sound ∧ s.TakesField a.val (A.CV_CTRL h.val) 1 1 1 ∧
      s.linkRuns h.val = true ∧ (s.boardOrService a.val = true ∨ a.val = h.val)) := by
  exact ⟨
    ⟨wit [(F.CV_STATUS_STATE 3, L.speed)], 3, 0, wit_sound _, by decide +kernel⟩,
    ⟨wits [(F.CV_STATUS_STATE 3, L.ref)] (fun s => s.modLink 3 (fun t => { t with blockLock := 2 })), 3, 0,
      wits_sound _ _ (fun _ => rfl) (fun _ => rfl), by decide +kernel⟩,
    ⟨wits [(F.CV_STATUS_STATE 3, L.speed), (F.PD_CABLE_LIM_GEAR 3, 1), (F.CV_CFG0_W 3,
      1)] (fun s => (s.modLink 3 (fun t => { t with echoed := false })).modLink 3 (fun t => { t with cap := some 0x20000, gearCap := 3 })),
      3, 0x800, wits_sound _ _ (fun _ => rfl) (fun _ => rfl), by decide +kernel⟩,
    ⟨wits [(F.CV_STATUS_STATE 3, L.speed), (F.PD_CABLE_LIM_GEAR 3, 1), (F.CV_CFG0_W 3,
      1)] (fun s => (s.modLink 3 (fun t => { t with echoed := false })).modLink 3 (fun t => { t with cap := some 0x20000, gearCap := 3, goSeen := 15 })),
      3, 0x100800, wits_sound _ _ (fun _ => rfl) (fun _ => rfl), by decide +kernel⟩,
    ⟨wits [(F.CV_STATUS_STATE 3, L.speed), (F.PD_CABLE_LIM_GEAR 3, 1), (F.CV_CFG0_W 3,
      1)] (fun s => s.modLink 3 (fun t => { t with cap := some 0x20000, gearCap := 3, echoed := true, goSeen := 15 })),
      3, 0x200800, wits_sound _ _ (fun _ => rfl) (fun _ => rfl), by decide +kernel⟩,
    ⟨wit [(F.CV_STATUS_STATE 3, L.eq)], 3, 3, 3, wit_sound _, by decide +kernel⟩,
    ⟨wits [(F.CV_STATUS_STATE 3, L.eq)] (fun s => s.modLink 3 (fun t => { t with eqCount := #v[16, 16, 16, 15] })), 3,
      3, wits_sound _ _ (fun _ => rfl) (fun _ => rfl), by decide +kernel⟩,
    ⟨wits [(F.CV_STATUS_STATE 3,
      L.block)] (fun s => s.modLink 3 (fun t => { t with pings := [(15, 4)], latCount := 14 })), 3, 0x3D2000, 15, 4,
      wits_sound _ _ (fun _ => rfl) (fun _ => rfl), by decide +kernel⟩,
    ⟨wits [(F.CV_STATUS_STATE 3,
      L.block)] (fun s => s.modLink 3 (fun t => { t with pings := [(15, 4)], latCount := 15 })), 3, 0x3D2000, 15, 4,
      wits_sound _ _ (fun _ => rfl) (fun _ => rfl), by decide +kernel⟩,
    ⟨wit [], 3, 4, wit_sound _, field_of (by decide +kernel), by decide +kernel⟩⟩

theorem test_wit_LoadSessions :
    (∃ (s : State) (a : Agent) (tr : Transport) (tag : Byte) (addr : Word) (len : Word) (k : Fin 2), s.Sound ∧
      s.Admits a.val tr (mkFrame 16 (BitVec.toNat tag) 1 0 (BitVec.toNat addr) [len]) ∧
      BitVec.toNat addr = slotBase k.val ∧ imageLenOk (BitVec.toNat len) = true ∧ (s.img.phase = DevPhase.bare ∨
      s.inService a.val = true ∨ s.inForce = true ∧ bitAt s.agentsWord (8 + a.val) = true) ∧ s.img.session = none ∧
      s.get F.IMAGE_GEN_SOURCE ≠ k.val + 1) ∧
    (∃ (s : State) (a : Agent) (tr : Transport) (tag : Byte) (addr : Word) (data : List Word) (x : Session), s.Sound ∧
      s.Admits a.val tr (mkFrame 17 (BitVec.toNat tag) data.length 0 (BitVec.toNat addr) data) ∧
      s.img.session = some x ∧ x.agent = a.val ∧ x.commit = none ∧ BitVec.toNat addr = x.got ∧
      x.got + (wordsBytes data).length ≤ x.len) ∧
    (∃ (s : State) (a : Agent) (tr : Transport) (tag : Byte) (x : Session), s.Sound ∧
      s.Admits a.val tr (mkFrame 18 (BitVec.toNat tag) 0 0 0 []) ∧ s.img.session = some x ∧ x.agent = a.val ∧
      x.commit = none ∧ x.got = x.len) ∧
    (∃ (s : State) (x : Session) (tr : Transport) (tag : ℕ), s.Sound ∧ s.img.session = some x ∧ x.commit = some (tr,
      tag) ∧ s.img.pend = none ∧ (s.imageJudge (s.flashBytes (slotBase x.slot) x.len) (some x.agent)).good = none) ∧
    (∃ (s : State) (x : Session), s.Sound ∧ s.img.session = some x ∧ x.commit = none ∧ s.img.pend = none) := by
  exact ⟨
    ⟨wits [] (fun s => (s.modImg (fun i => { i with phase := .bare })).modImg (fun i => { i with session := none })),
      0, .usb, 7, 0x1000000, 264, 1, wits_sound _ _ (fun _ => rfl) (fun _ => rfl), admits_of (by decide +kernel),
      by decide +kernel⟩,
    ⟨wits [] (fun s => s.modImg (fun i => { i with session := some ⟨0, 1, 264, 260, 4000, none⟩ })), 0, .usb, 7, 260,
      [0], ⟨0, 1, 264, 260, 4000, none⟩, wits_sound _ _ (fun _ => rfl) (fun _ => rfl), admits_of (by decide +kernel),
      by decide +kernel⟩,
    ⟨wits [] (fun s => s.modImg (fun i => { i with session := some ⟨0, 1, 264, 264, 4000, none⟩ })), 0, .usb, 7, ⟨0,
      1, 264, 264, 4000, none⟩, wits_sound _ _ (fun _ => rfl) (fun _ => rfl), admits_of (by decide +kernel),
      by decide +kernel⟩,
    ⟨wits [] (fun s => s.modImg (fun i => { i with session := some ⟨0, 1, 264, 264, 4000, some (.usb, 7)⟩ })), ⟨0, 1,
      264, 264, 4000, some (.usb, 7)⟩, .usb, 7, wits_sound _ _ (fun _ => rfl) (fun _ => rfl), by decide +kernel⟩,
    ⟨wits [] (fun s => s.modImg (fun i => { i with session := some ⟨0, 1, 264, 0, 4000, none⟩ })), ⟨0, 1, 264, 0,
      4000, none⟩, wits_sound _ _ (fun _ => rfl) (fun _ => rfl), by decide +kernel⟩⟩

theorem test_wit_MemoriesAndWear :
    (∃ (s : State) (table : Option Word) (w : Word), s.Sound ∧ table = some w) ∧
    (∃ (s : State) (array : BitVec 16) (table : Option Word) (serving : Option (Agent × Byte)) (grain : Option (BitVec 21)),
      s.Sound ∧ table = none ∧ (∀ (a : Agent) (tag : Byte), serving = some (a, tag) →
      (if Config.arrayPlaya array = true then s.grainError grain else s).openCmd a.val (BitVec.toNat tag) = none)) ∧
    (∃ (s : State) (array : BitVec 16) (table : Option Word) (serving : Option (Agent × Byte)) (grain : Option (BitVec 21)) (a : Agent) (tag : Byte),
      s.Sound ∧
      (if Config.arrayPlaya array = true then s.grainError grain else s).openCmd a.val (BitVec.toNat tag) ≠ none ∧
      table = none ∧ serving = some (a, tag)) ∧
    (∃ (s : State) (a : ℕ) (tag : ℕ) (c : OpenCmd), s.Sound ∧ s.openCmd a tag = some c) ∧
    (∃ (s : State) (a : ℕ) (tag : ℕ), s.Sound ∧ s.openCmd a tag = none) ∧
    (∃ (s : State) (array : BitVec 16) (row : BitVec 16), s.Sound ∧ s.oa.repairQ.contains (array.toNat,
      row.toNat) = false) ∧
    (∃ (s : State) (array : BitVec 16) (row : BitVec 16) (bad : ℕ) (spares : ℕ), s.Sound ∧
      s.oa.repairQ.contains (array.toNat, row.toNat) = true ∧
      (List.find? (fun (n : ℕ) => !bitAt bad n) (List.filter (fun (n : ℕ) => !((s.oa.repairs.any fun (x : ℕ × ℕ × ℕ) => x.1 == array.toNat && x.2.2 == n) || s.oa.badSpares.contains (array.toNat,
      n))) (List.range spares)) = none)) ∧
    (∃ (s : State) (array : BitVec 16) (row : BitVec 16) (bad : ℕ) (spares : ℕ) (p : ℕ), s.Sound ∧
      s.oa.repairQ.contains (array.toNat, row.toNat) = true ∧
      (List.find? (fun (n : ℕ) => !bitAt bad n) (List.filter (fun (n : ℕ) => !((s.oa.repairs.any fun (x : ℕ × ℕ × ℕ) => x.1 == array.toNat && x.2.2 == n) || s.oa.badSpares.contains (array.toNat,
      n))) (List.range spares)) = some p)) ∧
    (∃ (s : State), s.Sound ∧ s.oa.recordDue = true ∧ s.img.session = none ∧ s.devState ≠ 1) ∧
    (∃ (s : State), s.Sound ∧ (s.oa.recordDue = false ∨ s.img.session ≠ none ∨ s.devState = 1)) := by
  exact ⟨
    ⟨wit [], some 0, 0, wit_sound _, by decide +kernel⟩,
    ⟨wit [], 0, none, none, none, wit_sound _, by decide +kernel⟩,
    ⟨wits [] (fun s => s.modAgent 4 (fun g => { g with openCmds := [⟨.spi, 7, 0x30, 0, 0, 4000, false⟩] })), 0, none,
      some (4, 7), none, 4, 7, wits_sound _ _ (fun _ => rfl) (fun _ => rfl), by split <;> decide +kernel,
      by decide +kernel⟩,
    ⟨wits [] (fun s => s.modAgent 4 (fun g => { g with openCmds := [⟨.spi, 7, 0x30, 0, 0, 4000, false⟩] })), 4, 7,
      ⟨.spi, 7, 0x30, 0, 0, 4000, false⟩, wits_sound _ _ (fun _ => rfl) (fun _ => rfl), by decide +kernel⟩,
    ⟨wit [], 0, 0, wit_sound _, by decide +kernel⟩,
    ⟨wit [], 0, 0, wit_sound _, by decide +kernel⟩,
    ⟨wits [] (fun s => { s with oa := { s.oa with repairQ := [(0, 0)] } }), 0, 0, 0, 0,
      wits_sound _ _ (fun _ => rfl) (fun _ => rfl), by decide +kernel⟩,
    ⟨wits [] (fun s => { s with oa := { s.oa with repairQ := [(0, 0)] } }), 0, 0, 0, 1, 0,
      wits_sound _ _ (fun _ => rfl) (fun _ => rfl), by decide +kernel⟩,
    ⟨wits [] (fun s => { (s.modImg (fun i => { i with session := none })) with oa := { s.oa with recordDue := true } }),
      wits_sound _ _ (fun _ => rfl) (fun _ => rfl), by decide +kernel⟩,
    ⟨wit [], wit_sound _, by decide +kernel⟩⟩

theorem test_wit_ModuleDecisions :
    (∃ (s : State) (a : Agent) (m : Fin 8), s.TakesField a.val (A.WD_MOD_CTRL m.val) 0 1 1 ∧
      s.approver m.val = a.val ∧ a.val < 4 ∧ s.mdState m.val = Md.await) ∧
    (∃ (s : State) (a : Agent) (m : Fin 8), s.TakesField a.val (A.WD_MOD_CTRL m.val) 0 1 1 ∧
      s.approver m.val = a.val ∧ a.val < 4 ∧ s.mdState m.val ≠ Md.await) ∧
    (∃ (s : State) (a : Agent) (m : Fin 8), s.TakesField a.val (A.WD_MOD_CTRL m.val) 1 1 1 ∧
      s.approver m.val = a.val ∧ a.val < 4 ∧ s.mdState m.val = Md.await) ∧
    (∃ (s : State) (a : Agent) (m : Fin 8), s.TakesField a.val (A.WD_MOD_CTRL m.val) 1 1 1 ∧
      s.approver m.val = a.val ∧ a.val < 4 ∧ s.mdState m.val ≠ Md.await) ∧
    (∃ (s : State) (a : Agent) (m : Fin 8), s.TakesField a.val (A.WD_MOD_CTRL m.val) 2 1 1 ∧
      s.approver m.val = a.val ∧ a.val < 4 ∧ (s.mdState m.val = Md.accepted ∨ s.mdState m.val = Md.rejected ∨
      s.mdState m.val = Md.fault)) := by
  exact ⟨
    ⟨wit [(F.WD_MOD_STATUS_STATE 7, Md.await), (F.WD_MOD_CFG_V 7 0, 0x700), (F.OWN_k_OWNER 55, 3)], 3, 7,
      field_of (by decide +kernel), by decide +kernel⟩,
    ⟨wit [(F.WD_MOD_CFG_V 7 0, 0x700), (F.OWN_k_OWNER 55, 3)], 3, 7, field_of (by decide +kernel), by decide +kernel⟩,
    ⟨wit [(F.WD_MOD_STATUS_STATE 7, Md.await), (F.WD_MOD_CFG_V 7 0, 0x700), (F.OWN_k_OWNER 55, 3)], 3, 7,
      field_of (by decide +kernel), by decide +kernel⟩,
    ⟨wit [(F.WD_MOD_CFG_V 7 0, 0x700), (F.OWN_k_OWNER 55, 3)], 3, 7, field_of (by decide +kernel), by decide +kernel⟩,
    ⟨wit [(F.WD_MOD_STATUS_STATE 7, Md.accepted), (F.WD_MOD_CFG_V 7 0, 0x700), (F.OWN_k_OWNER 55, 3)], 3, 7,
      field_of (by decide +kernel), by decide +kernel⟩⟩

theorem test_wit_NoCommandUndoesOtp :
    ∃ (s : State) (c : Instr) (t : State), s.Sound ∧ exec c s = Host.Outcome.next t :=
  ⟨wit [], .xtalCompare 0, { wit [] with clock := { (wit []).clock with disagree := false } }, wit_sound _, rfl⟩

theorem test_wit_PacketsAndCredits :
    (∃ (s : State) (h : Hp) (c : CwIn), s.Sound ∧ isUpState (s.cvState h.val) = true ∧ s.linkRuns h.val = true ∧
      c.errors ≤ 16) ∧
    (∃ (s : State) (h : Hp) (c : CwIn), s.Sound ∧ isUpState (s.cvState h.val) = true ∧ s.linkRuns h.val = true ∧
      16 < c.errors) ∧
    (∃ (s : State) (h : Hp) (shared : BitVec 4) (cws : List CwIn) (bs : List Blk), s.Sound ∧
      isUpState (s.cvState h.val) = true ∧ s.linkRuns h.val = true ∧
      (s.arrival h.val shared cws bs).1 = Arrival.uncorrectable) ∧
    (∃ (s : State) (h : Hp) (shared : BitVec 4) (cws : List CwIn) (bs : List Blk), s.Sound ∧
      isUpState (s.cvState h.val) = true ∧ s.linkRuns h.val = true ∧
      (s.arrival h.val shared cws bs).1 = Arrival.badCrc) ∧
    (∃ (s : State) (h : Hp) (shared : BitVec 4) (cws : List CwIn) (bs : List Blk), s.Sound ∧
      isUpState (s.cvState h.val) = true ∧ s.linkRuns h.val = true ∧
      (s.arrival h.val shared cws bs).1 = Arrival.framing) ∧
    (∃ (s : State) (h : Hp) (shared : BitVec 4) (cws : List CwIn) (bs : List Blk), s.Sound ∧
      isUpState (s.cvState h.val) = true ∧ s.linkRuns h.val = true ∧
      (s.arrival h.val shared cws bs).1 = Arrival.good ∧
      (2048 ≤ (pktSeq (s.arrival h.val shared cws bs).2 + 4096 - (List.foldl (fun (s : State) (c : CwIn) => s.cwTaken h.val c) s cws).get (F.CV_SEQ_RX_EXPECT h.val)) % 4096)) ∧
    (∃ (s : State) (h : Hp) (shared : BitVec 4) (cws : List CwIn) (bs : List Blk), s.Sound ∧
      isUpState (s.cvState h.val) = true ∧ s.linkRuns h.val = true ∧
      (s.arrival h.val shared cws bs).1 = Arrival.good ∧
      ((pktSeq (s.arrival h.val shared cws bs).2 + 4096 - (List.foldl (fun (s : State) (c : CwIn) => s.cwTaken h.val c) s cws).get (F.CV_SEQ_RX_EXPECT h.val)) % 4096 ≠ 0) ∧
      ((pktSeq (s.arrival h.val shared cws bs).2 + 4096 - (List.foldl (fun (s : State) (c : CwIn) => s.cwTaken h.val c) s cws).get (F.CV_SEQ_RX_EXPECT h.val)) % 4096 < 2048)) ∧
    (∃ (s : State) (h : Hp) (shared : BitVec 4) (cws : List CwIn) (bs : List Blk), s.Sound ∧
      isUpState (s.cvState h.val) = true ∧ s.linkRuns h.val = true ∧
      (s.arrival h.val shared cws bs).1 = Arrival.good ∧
      ((pktSeq (s.arrival h.val shared cws bs).2 + 4096 - (List.foldl (fun (s : State) (c : CwIn) => s.cwTaken h.val c) s cws).get (F.CV_SEQ_RX_EXPECT h.val)) % 4096 = 0)) ∧
    (∃ (s : State) (h : Hp) (idle : ℕ), s.Sound ∧ isUpState (s.cvState h.val) = true ∧ s.linkRuns h.val = true ∧
      ((s.idleBlocks h.val idle).link h.val).unacked ≠ 0) ∧
    (∃ (s : State) (h : Hp) (idle : ℕ), s.Sound ∧ isUpState (s.cvState h.val) = true ∧ s.linkRuns h.val = true ∧
      ((s.idleBlocks h.val idle).link h.val).unacked = 0) ∧
    (∃ (s : State) (h : Hp), s.Sound ∧ isUpState (s.cvState h.val) = true ∧ s.linkRuns h.val = true ∧
      (s.link h.val).replay ≠ [] ∧ (s.link h.val).replays < bitsOf (s.get (F.CV_CFG1_W h.val)) 16 4) ∧
    (∃ (s : State) (h : Hp) (b : BitVec 64), s.Sound ∧ isUpState (s.cvState h.val) = true ∧ s.linkRuns h.val = true ∧
      bitAt b.toNat 15 = true ∧ bitAt b.toNat 39 = true ∧ bitsOf b.toNat 8 6 ≠ bitsOf b.toNat 32 6) := by
  exact ⟨
    ⟨wit [(F.CV_STATUS_STATE 3, L.active)], 3, ⟨0, 16, true⟩, wit_sound _, by decide +kernel⟩,
    ⟨wit [(F.CV_STATUS_STATE 3, L.active)], 3, ⟨0, 17, true⟩, wit_sound _, by decide +kernel⟩,
    ⟨wit [(F.CV_STATUS_STATE 3, L.active)], 3, 0, [⟨0, 17, true⟩], [], wit_sound _, by decide +kernel⟩,
    ⟨wit [(F.CV_STATUS_STATE 3, L.active)], 3, 0, [], [ctlBlk BT.pktStart, dataBlk 1, ctlBlk BT.pktEnd], wit_sound _,
      by decide +kernel⟩,
    ⟨wit [(F.CV_STATUS_STATE 3, L.active)], 3, 0, [], [], wit_sound _, by decide +kernel⟩,
    ⟨wit [(F.CV_STATUS_STATE 3, L.active)], 3, 0, [], pktBlks ⟨4294967296, []⟩, wit_sound _, by decide +kernel⟩,
    ⟨wit [(F.CV_STATUS_STATE 3, L.active)], 3, 0, [], pktBlks ⟨4292870144, []⟩, wit_sound _, by decide +kernel⟩,
    ⟨wit [(F.CV_STATUS_STATE 3, L.active)], 3, 0, [], pktBlks ⟨0, []⟩, wit_sound _, by decide +kernel⟩,
    ⟨wits [(F.CV_STATUS_STATE 3, L.active)] (fun s => s.modLink 3 (fun t => { t with unacked := 1 })), 3, 0,
      wits_sound _ _ (fun _ => rfl) (fun _ => rfl), by decide +kernel⟩,
    ⟨wits [(F.CV_STATUS_STATE 3, L.active)] (fun s => s.modLink 3 (fun t => { t with unacked := 0 })), 3, 0,
      wits_sound _ _ (fun _ => rfl) (fun _ => rfl), by decide +kernel⟩,
    ⟨wits [(F.CV_STATUS_STATE 3, L.active), (F.CV_CFG1_W 3,
      65536)] (fun s => s.modLink 3 (fun t => { t with replay := [⟨0, []⟩] })), 3,
      wits_sound _ _ (fun _ => rfl) (fun _ => rfl), by decide +kernel⟩,
    ⟨wit [(F.CV_STATUS_STATE 3, L.active)], 3, 549755846912, wit_sound _, by decide +kernel⟩⟩

theorem test_wit_PortAttach :
    (∃ (s : State) (p : Fin 4), s.Sound ∧ s.power ≠ 4 ∧ s.tcState p.val = Tc.unattached ∧ s.tcMode p.val = 2) ∧
    (∃ (s : State) (p : Fin 4), s.Sound ∧ s.power ≠ 4 ∧ s.tcState p.val = Tc.snk ∧ s.isSrc p.val = false) ∧
    (∃ (s : State) (p : Fin 4) (c1 : Fin 4) (c2 : Fin 4) (seen : CcIn) (n : ℕ), s.Sound ∧ s.power ≠ 4 ∧
      (s.tcState p.val = Tc.unattached ∨ s.tcState p.val = Tc.waitSrc ∨ s.tcState p.val = Tc.waitSnk) ∧
      s.tcRuns p.val = true ∧
      tcTarget (if s.tcState p.val = Tc.waitSrc then true else if s.tcState p.val = Tc.waitSnk then false else (s.tcp p.val).rp || s.tcMode p.val == 1) c1.val c2.val seen.vbus = n ∧
      n ≠ Tc.audio ∧ n ≠ Tc.debug) ∧
    (∃ (s : State) (p : Fin 4) (c1 : Fin 4) (c2 : Fin 4) (seen : CcIn), s.Sound ∧ s.power ≠ 4 ∧
      (s.tcState p.val = Tc.unattached ∨ s.tcState p.val = Tc.waitSrc ∨ s.tcState p.val = Tc.waitSnk) ∧
      s.tcRuns p.val = true ∧
      tcTarget (if s.tcState p.val = Tc.waitSrc then true else if s.tcState p.val = Tc.waitSnk then false else (s.tcp p.val).rp || s.tcMode p.val == 1) c1.val c2.val seen.vbus = Tc.audio) ∧
    (∃ (s : State) (p : Fin 4) (c1 : Fin 4) (c2 : Fin 4) (seen : CcIn), s.Sound ∧ s.power ≠ 4 ∧
      (s.tcState p.val = Tc.unattached ∨ s.tcState p.val = Tc.waitSrc ∨ s.tcState p.val = Tc.waitSnk) ∧
      s.tcRuns p.val = true ∧
      tcTarget (if s.tcState p.val = Tc.waitSrc then true else if s.tcState p.val = Tc.waitSnk then false else (s.tcp p.val).rp || s.tcMode p.val == 1) c1.val c2.val seen.vbus = Tc.debug) ∧
    (∃ (s : State) (p : Fin 4), s.Sound ∧ s.power ≠ 4 ∧ s.tcState p.val = Tc.waitSrc ∧
      s.get (F.TC_STATUS_WET p.val) = 0) ∧
    (∃ (s : State) (p : Fin 4), s.Sound ∧ s.power ≠ 4 ∧ s.tcState p.val = Tc.waitSrc ∧
      s.get (F.TC_STATUS_WET p.val) = 1) ∧
    (∃ (s : State) (p : Fin 4), s.Sound ∧ s.power ≠ 4 ∧ s.tcState p.val = Tc.waitSnk) ∧
    (∃ (s : State) (p : Fin 4), s.Sound ∧ s.power ≠ 4 ∧ s.tcState p.val = Tc.trySrc) ∧
    (∃ (s : State) (p : Fin 4), s.Sound ∧ s.power ≠ 4 ∧ (s.tcState p.val = Tc.src ∨ s.tcState p.val = Tc.snk ∧
      s.tcBusy p.val = true ∨ s.tcState p.val = Tc.waitSrc ∨ s.tcState p.val = Tc.waitSnk)) ∧
    (∃ (s : State) (p : Fin 4), s.Sound ∧ s.power ≠ 4 ∧ s.tcState p.val = Tc.snk ∧ s.tcBusy p.val = false) ∧
    (∃ (s : State) (p : Fin 4), s.Sound ∧ s.power ≠ 4 ∧ s.tcState p.val = Tc.snk ∧ (s.tcp p.val).wait = PdWait.psRdy) ∧
    (∃ (s : State) (p : Fin 4), s.Sound ∧ s.power ≠ 4 ∧ (s.tcState p.val = Tc.audio ∨ s.tcState p.val = Tc.debug)) ∧
    (∃ (s : State) (p : Fin 4), s.Sound ∧ s.power ≠ 4 ∧ s.tcState p.val = Tc.recovery) ∧
    (∃ (s : State) (p : Fin 4) (a : Agent) (on : Bool), s.Sound ∧ s.TakesField a.val (A.TC_CTRL p.val) 0 1 (bit1 on) ∧
      s.power ≠ 4 ∧ s.boardOrService a.val = true ∧ s.get (F.TC_CTRL_ENABLE p.val) ≠ bit1 on ∧ (on = true ∨
      s.get (F.TC_STATUS_SYS_INPUT p.val) = 0)) ∧
    (∃ (s : State) (p : Fin 4) (a : Agent), s.Sound ∧ s.TakesField a.val (A.TC_CTRL p.val) 1 1 1 ∧ s.power ≠ 4 ∧
      (a.val = p.val ∨ a.val = 4 ∨ s.sharedWriter a.val = true) ∧ s.tcState p.val = Tc.disabled ∧
      s.tcRuns p.val = true) ∧
    (∃ (s : State) (p : Fin 4) (kohm : ℕ), s.Sound ∧ s.power ≠ 4 ∧ bitAt (s.tcConfig p.val) 9 = true ∧ kohm < 500) ∧
    (∃ (s : State) (p : Fin 4) (kohm : ℕ), s.Sound ∧ s.power ≠ 4 ∧ bitAt (s.tcConfig p.val) 9 = true ∧ 500 ≤ kohm) := by
  exact ⟨
    ⟨wit [(F.TC_STATUS_STATE 3, Tc.unattached), (F.TC_CFG_w_V 3 0, 2)], 3, wit_sound _, by decide +kernel⟩,
    ⟨wit [(F.TC_STATUS_STATE 3, Tc.snk)], 3, wit_sound _, by decide +kernel⟩,
    ⟨wits [(F.TC_STATUS_STATE 3, Tc.unattached), (F.TC_CTRL_ENABLE 3,
      1)] (fun s => s.modTc 3 (fun t => { t with rp := true })), 3, 2, 0, ⟨false, 0⟩, Tc.waitSrc,
      wits_sound _ _ (fun _ => rfl) (fun _ => rfl), by decide +kernel⟩,
    ⟨wits [(F.TC_STATUS_STATE 3, Tc.unattached), (F.TC_CTRL_ENABLE 3,
      1)] (fun s => s.modTc 3 (fun t => { t with rp := true })), 3, 1, 1, ⟨false, 0⟩,
      wits_sound _ _ (fun _ => rfl) (fun _ => rfl), by decide +kernel⟩,
    ⟨wits [(F.TC_STATUS_STATE 3, Tc.unattached), (F.TC_CTRL_ENABLE 3,
      1)] (fun s => s.modTc 3 (fun t => { t with rp := true })), 3, 2, 2, ⟨false, 0⟩,
      wits_sound _ _ (fun _ => rfl) (fun _ => rfl), by decide +kernel⟩,
    ⟨wit [(F.TC_STATUS_STATE 3, Tc.waitSrc), (F.TC_STATUS_WET 3, 0)], 3, wit_sound _, by decide +kernel⟩,
    ⟨wit [(F.TC_STATUS_STATE 3, Tc.waitSrc), (F.TC_STATUS_WET 3, 1)], 3, wit_sound _, by decide +kernel⟩,
    ⟨wit [(F.TC_STATUS_STATE 3, Tc.waitSnk)], 3, wit_sound _, by decide +kernel⟩,
    ⟨wit [(F.TC_STATUS_STATE 3, Tc.trySrc)], 3, wit_sound _, by decide +kernel⟩,
    ⟨wit [(F.TC_STATUS_STATE 3, Tc.src)], 3, wit_sound _, by decide +kernel⟩,
    ⟨wit [(F.TC_STATUS_STATE 3, Tc.snk)], 3, wit_sound _, by decide +kernel⟩,
    ⟨wits [(F.TC_STATUS_STATE 3, Tc.snk)] (fun s => s.modTc 3 (fun t => { t with wait := PdWait.psRdy })), 3,
      wits_sound _ _ (fun _ => rfl) (fun _ => rfl), by decide +kernel⟩,
    ⟨wit [(F.TC_STATUS_STATE 3, Tc.audio)], 3, wit_sound _, by decide +kernel⟩,
    ⟨wit [(F.TC_STATUS_STATE 3, Tc.recovery)], 3, wit_sound _, by decide +kernel⟩,
    ⟨wit [(F.TC_CTRL_ENABLE 3, 0)], 3, 4, true, wit_sound _, field_of (by decide +kernel), by decide +kernel⟩,
    ⟨wit [(F.TC_STATUS_STATE 3, Tc.disabled), (F.TC_CTRL_ENABLE 3, 1)], 3, 3, wit_sound _,
      field_of (by decide +kernel), by decide +kernel⟩,
    ⟨wit [(F.TC_CFG_w_V 3 0, 512)], 3, 499, wit_sound _, by decide +kernel⟩,
    ⟨wit [(F.TC_CFG_w_V 3 0, 512)], 3, 500, wit_sound _, by decide +kernel⟩⟩

theorem test_wit_PortEvents :
    (∃ (s : State) (n : Fin 8), s.Sound ∧ s.usbRuns = true ∧ s.dsState n.val = Ds.disconnected ∧
      s.spreadHold = false ∧ s.get (F.DS_STATUS_n_CHG n.val) ≠ 2) ∧
    (∃ (s : State) (n : Fin 8), s.Sound ∧ s.usbRuns = true ∧ s.dsState n.val = Ds.resetting) ∧
    (∃ (s : State) (n : Fin 8), s.Sound ∧ s.usbRuns = true ∧ s.dsState n.val = Ds.enabled) ∧
    (∃ (s : State) (n : Fin 8) (k : WakeIn), s.Sound ∧ s.usbRuns = true ∧ k.port = n ∧ s.dsState n.val = Ds.resuming) ∧
    (∃ (s : State) (n : Fin 8) (k : WakeIn), s.Sound ∧ s.usbRuns = true ∧ k.port = n ∧ s.dsState n.val = Ds.l1) ∧
    (∃ (s : State) (n : Fin 8) (k : WakeIn), s.Sound ∧ s.usbRuns = true ∧ k.port = n ∧ s.dsState n.val = Ds.suspended) ∧
    (∃ (s : State) (n : Fin 8) (k : WakeIn), s.Sound ∧ s.usbRuns = true ∧ k.port = n ∧ s.dsState n.val = Ds.disabled ∧
      4 ≤ s.ownerOf (40 + n.val)) ∧
    (∃ (s : State) (n : Fin 8), s.Sound ∧ s.usbRuns = true ∧ s.get (F.DS_STATUS_n_PPC n.val) = 1 ∧
      s.dsState n.val = Ds.off ∧ s.get (F.DS_CTRL_n_POWER_CYCLE n.val) = 0) ∧
    (∃ (s : State) (n : Fin 8), s.Sound ∧ s.get (F.DS_CTRL_n_POWER_CYCLE n.val) = 1) ∧
    (∃ (s : State) (n : Fin 8), s.Sound ∧ s.get (F.DS_CFG_n_PWR_MODE n.val) ≠ 2 ∧ s.get (F.DS_STATUS_n_OC n.val) = 0 ∧
      s.unitRuns 14 = true) ∧
    (∃ (s : State) (n : Fin 8), s.Sound ∧ s.get (F.DS_STATUS_n_OC n.val) = 1) ∧
    (∃ (s : State) (n : Fin 8), s.Sound ∧ vAt s.us.ocWait n.val = true ∧ s.get (F.DS_STATUS_n_OC n.val) = 0) ∧
    (∃ (s : State) (n : Fin 8) (a : Agent), s.Sound ∧ s.TakesField a.val (A.DS_CTRL_n n.val) 0 1 1 ∧
      s.owns a.val (40 + n.val) = true) := by
  exact ⟨
    ⟨wit [(F.DS_STATUS_n_STATE 7, Ds.disconnected), (F.USB_CTRL_ENABLE, 1)], 7, wit_sound _, by decide +kernel⟩,
    ⟨wit [(F.DS_STATUS_n_STATE 7, Ds.resetting), (F.USB_CTRL_ENABLE, 1)], 7, wit_sound _, by decide +kernel⟩,
    ⟨wit [(F.DS_STATUS_n_STATE 7, Ds.enabled), (F.USB_CTRL_ENABLE, 1)], 7, wit_sound _, by decide +kernel⟩,
    ⟨wit [(F.DS_STATUS_n_STATE 7, Ds.resuming), (F.USB_CTRL_ENABLE, 1), (F.OWN_k_OWNER 47, 0)], 7, ⟨7, true, false⟩,
      wit_sound _, by decide +kernel⟩,
    ⟨wit [(F.DS_STATUS_n_STATE 7, Ds.l1), (F.USB_CTRL_ENABLE, 1), (F.OWN_k_OWNER 47, 0)], 7, ⟨7, true, false⟩,
      wit_sound _, by decide +kernel⟩,
    ⟨wit [(F.DS_STATUS_n_STATE 7, Ds.suspended), (F.USB_CTRL_ENABLE, 1), (F.OWN_k_OWNER 47, 0)], 7, ⟨7, true, false⟩,
      wit_sound _, by decide +kernel⟩,
    ⟨wit [(F.DS_STATUS_n_STATE 7, Ds.disabled), (F.USB_CTRL_ENABLE, 1), (F.OWN_k_OWNER 47, 7)], 7, ⟨7, true, false⟩,
      wit_sound _, by decide +kernel⟩,
    ⟨wit [(F.DS_STATUS_n_PPC 7, 1), (F.DS_STATUS_n_STATE 7, Ds.off), (F.DS_CTRL_n_POWER_CYCLE 7, 0),
      (F.USB_CTRL_ENABLE, 1)], 7, wit_sound _, by decide +kernel⟩,
    ⟨wit [(F.DS_CTRL_n_POWER_CYCLE 7, 1)], 7, wit_sound _, by decide +kernel⟩,
    ⟨wit [(F.DS_STATUS_n_OC 7, 0)], 7, wit_sound _, by decide +kernel⟩,
    ⟨wit [(F.DS_STATUS_n_OC 7, 1)], 7, wit_sound _, by decide +kernel⟩,
    ⟨wits [(F.DS_STATUS_n_OC 7, 0)] (fun s => { s with us := { s.us with ocWait := vPut s.us.ocWait 7 true } }), 7,
      wits_sound _ _ (fun _ => rfl) (fun _ => rfl), by decide +kernel⟩,
    ⟨wit [(F.OWN_k_OWNER (40 + 7), 3)], 7, 3, wit_sound _, field_of (by decide +kernel), by decide +kernel⟩⟩

theorem test_wit_PortRequests :
    (∃ (s : State) (h : Hp) (n : Fin 9), s.Sound ∧ n ≠ 8 ∧ s.reaches h.val n.val = true ∧
      (s.dsState n.val = Ds.disabled ∨ s.dsState n.val = Ds.enabled)) ∧
    (∃ (s : State) (h : Hp) (n : Fin 9), s.Sound ∧ n ≠ 8 ∧ s.reaches h.val n.val = true ∧
      s.dsState n.val = Ds.enabled) ∧
    (∃ (s : State) (h : Hp) (n : Fin 9), s.Sound ∧ n ≠ 8 ∧ s.reaches h.val n.val = true ∧
      s.dsState n.val = Ds.suspended) ∧
    (∃ (s : State) (h : Hp) (n : Fin 9), s.Sound ∧ n ≠ 8 ∧ s.reaches h.val n.val = true ∧ s.dsState n.val = Ds.l1) ∧
    (∃ (s : State) (h : Hp) (n : Fin 9), s.Sound ∧ n ≠ 8 ∧ s.reaches h.val n.val = true ∧
      s.dsState n.val = Ds.resuming) ∧
    (∃ (s : State) (n : Fin 9) (m : Fin 9), s.Sound ∧ m ≠ n) ∧
    (∃ (s : State) (h : Hp) (n : Fin 9), s.Sound ∧ n ≠ 8 ∧ bitAt (s.get F.USB_STATUS_ATTACHED) h.val = true) ∧
    (∃ (s : State) (h : Hp), s.Sound ∧ s.mfConnected h.val = true ∧ bitAt (s.view h.val 8).st 1 = true) ∧
    (∃ (s : State) (h : Hp), s.Sound ∧ s.mfConnected h.val = true ∧ (bitAt (s.view h.val 8).st 2 = true ∨
      bitAt (s.view h.val 8).st 5 = true)) := by
  exact ⟨
    ⟨wit [(F.DS_STATUS_n_STATE 7, Ds.disabled), (F.USB_STATUS_ATTACHED, 8), (F.OWN_k_OWNER 47, 3)], 3, 7, wit_sound _,
      by decide +kernel⟩,
    ⟨wit [(F.DS_STATUS_n_STATE 7, Ds.enabled), (F.USB_STATUS_ATTACHED, 8), (F.OWN_k_OWNER 47, 3)], 3, 7, wit_sound _,
      by decide +kernel⟩,
    ⟨wit [(F.DS_STATUS_n_STATE 7, Ds.suspended), (F.USB_STATUS_ATTACHED, 8), (F.OWN_k_OWNER 47, 3)], 3, 7,
      wit_sound _, by decide +kernel⟩,
    ⟨wit [(F.DS_STATUS_n_STATE 7, Ds.l1), (F.USB_STATUS_ATTACHED, 8), (F.OWN_k_OWNER 47, 3)], 3, 7, wit_sound _,
      by decide +kernel⟩,
    ⟨wit [(F.DS_STATUS_n_STATE 7, Ds.resuming), (F.USB_STATUS_ATTACHED, 8), (F.OWN_k_OWNER 47, 3)], 3, 7, wit_sound _,
      by decide +kernel⟩,
    ⟨wit [], 8, 7, wit_sound _, by decide +kernel⟩,
    ⟨wit [(F.USB_STATUS_ATTACHED, 8)], 3, 7, wit_sound _, by decide +kernel⟩,
    ⟨wits [(F.USB_STATUS_ATTACHED, 8), (F.UF_CTRL_MF_CONNECT 3,
      1)] (fun s => s.modView 3 8 (fun v => { v with st := 2 })), 3, wits_sound _ _ (fun _ => rfl) (fun _ => rfl),
      by decide +kernel⟩,
    ⟨wits [(F.USB_STATUS_ATTACHED, 8), (F.UF_CTRL_MF_CONNECT 3,
      1)] (fun s => s.modView 3 8 (fun v => { v with st := 4 })), 3, wits_sound _ _ (fun _ => rfl) (fun _ => rfl),
      by decide +kernel⟩⟩

theorem test_wit_PowerContracts :
    (∃ (s : State) (p : Fin 4) (epr : Bool), s.Sound ∧ s.pdOn p.val = true ∧ (epr = true →
      s.get (F.TC_STATUS_EPR p.val) = 1)) ∧
    (∃ (s : State) (p : Fin 4), s.Sound ∧ s.pdOn p.val = true ∧ s.isSrc p.val = true) ∧
    (∃ (s : State) (p : Fin 4), s.Sound ∧ s.pdOn p.val = true ∧ (s.tcp p.val).wait = PdWait.accept) ∧
    (∃ (s : State) (p : Fin 4), s.Sound ∧ s.pdOn p.val = true ∧ (s.tcp p.val).wait = PdWait.swap 1) ∧
    (∃ (s : State) (p : Fin 4), s.Sound ∧ s.pdOn p.val = true ∧ (s.tcp p.val).wait = PdWait.swap 2) ∧
    (∃ (s : State) (p : Fin 4), s.Sound ∧ s.pdOn p.val = true ∧ (s.tcp p.val).wait = PdWait.swap 0) ∧
    (∃ (s : State) (p : Fin 4), s.Sound ∧ s.pdOn p.val = true ∧ (s.tcp p.val).wait = PdWait.swap 3) ∧
    (∃ (s : State) (p : Fin 4), s.Sound ∧ s.pdOn p.val = true ∧ (s.tcp p.val).wait = PdWait.soft) ∧
    (∃ (s : State) (p : Fin 4) (k : ℕ), s.Sound ∧ s.pdOn p.val = true ∧ (s.tcp p.val).wait = PdWait.swap k) ∧
    (∃ (s : State) (p : Fin 4), s.Sound ∧ s.pdOn p.val = true ∧ (s.tcp p.val).wait = PdWait.psRdy) ∧
    (∃ (s : State) (p : Fin 4), s.Sound ∧ s.pdOn p.val = true ∧ (s.tcp p.val).wait = PdWait.swapRdy 0) ∧
    (∃ (s : State) (p : Fin 4), s.Sound ∧ s.pdOn p.val = true ∧ (s.tcp p.val).wait = PdWait.swapRdy 3) ∧
    (∃ (s : State) (p : Fin 4), s.Sound ∧ s.pdOn p.val = true ∧ (s.tcp p.val).wait = PdWait.swapRdy 2) ∧
    (∃ (s : State) (p : Fin 4) (rdo : ℕ), s.Sound ∧ s.pdOn p.val = true ∧ (s.tcp p.val).trans = some rdo) ∧
    (∃ (s : State) (p : Fin 4), s.Sound ∧ s.pdOn p.val = true ∧ (s.tcp p.val).wait = PdWait.cable) := by
  exact ⟨
    ⟨wit [(F.TC_STATUS_STATE 3, Tc.snk), (F.TC_STATUS_EPR 3, 1)], 3, true, wit_sound _, by decide +kernel⟩,
    ⟨wit [(F.TC_STATUS_STATE 3, Tc.src), (F.TC_STATUS_PR 3, 1)], 3, wit_sound _, by decide +kernel⟩,
    ⟨wits [(F.TC_STATUS_STATE 3, Tc.snk)] (fun s => s.modTc 3 (fun t => { t with wait := PdWait.accept })), 3,
      wits_sound _ _ (fun _ => rfl) (fun _ => rfl), by decide +kernel⟩,
    ⟨wits [(F.TC_STATUS_STATE 3, Tc.snk)] (fun s => s.modTc 3 (fun t => { t with wait := PdWait.swap 1 })), 3,
      wits_sound _ _ (fun _ => rfl) (fun _ => rfl), by decide +kernel⟩,
    ⟨wits [(F.TC_STATUS_STATE 3, Tc.snk)] (fun s => s.modTc 3 (fun t => { t with wait := PdWait.swap 2 })), 3,
      wits_sound _ _ (fun _ => rfl) (fun _ => rfl), by decide +kernel⟩,
    ⟨wits [(F.TC_STATUS_STATE 3, Tc.snk)] (fun s => s.modTc 3 (fun t => { t with wait := PdWait.swap 0 })), 3,
      wits_sound _ _ (fun _ => rfl) (fun _ => rfl), by decide +kernel⟩,
    ⟨wits [(F.TC_STATUS_STATE 3, Tc.snk)] (fun s => s.modTc 3 (fun t => { t with wait := PdWait.swap 3 })), 3,
      wits_sound _ _ (fun _ => rfl) (fun _ => rfl), by decide +kernel⟩,
    ⟨wits [(F.TC_STATUS_STATE 3, Tc.snk)] (fun s => s.modTc 3 (fun t => { t with wait := PdWait.soft })), 3,
      wits_sound _ _ (fun _ => rfl) (fun _ => rfl), by decide +kernel⟩,
    ⟨wits [(F.TC_STATUS_STATE 3, Tc.snk)] (fun s => s.modTc 3 (fun t => { t with wait := .swap 2 })), 3, 2,
      wits_sound _ _ (fun _ => rfl) (fun _ => rfl), by decide +kernel⟩,
    ⟨wits [(F.TC_STATUS_STATE 3, Tc.snk)] (fun s => s.modTc 3 (fun t => { t with wait := PdWait.psRdy })), 3,
      wits_sound _ _ (fun _ => rfl) (fun _ => rfl), by decide +kernel⟩,
    ⟨wits [(F.TC_STATUS_STATE 3, Tc.snk)] (fun s => s.modTc 3 (fun t => { t with wait := PdWait.swapRdy 0 })), 3,
      wits_sound _ _ (fun _ => rfl) (fun _ => rfl), by decide +kernel⟩,
    ⟨wits [(F.TC_STATUS_STATE 3, Tc.snk)] (fun s => s.modTc 3 (fun t => { t with wait := PdWait.swapRdy 3 })), 3,
      wits_sound _ _ (fun _ => rfl) (fun _ => rfl), by decide +kernel⟩,
    ⟨wits [(F.TC_STATUS_STATE 3, Tc.snk)] (fun s => s.modTc 3 (fun t => { t with wait := PdWait.swapRdy 2 })), 3,
      wits_sound _ _ (fun _ => rfl) (fun _ => rfl), by decide +kernel⟩,
    ⟨wits [(F.TC_STATUS_STATE 3, Tc.snk)] (fun s => s.modTc 3 (fun t => { t with trans := some 0 })), 3, 0,
      wits_sound _ _ (fun _ => rfl) (fun _ => rfl), by decide +kernel⟩,
    ⟨wits [(F.TC_STATUS_STATE 3, Tc.snk)] (fun s => s.modTc 3 (fun t => { t with wait := PdWait.cable })), 3,
      wits_sound _ _ (fun _ => rfl) (fun _ => rfl), by decide +kernel⟩⟩

theorem test_wit_PowerDrainsAndWakes :
    (∃ (s : State) (p : PwrReq) (d : ℕ) (o : OpenCmd), s.Sound ∧ s.pwr = some p ∧ p.drain = some d ∧
      s.drained = true ∧ s.openCmd p.agent p.tag = some o ∧ p.target = 2) ∧
    (∃ (s : State) (p : PwrReq) (d : ℕ) (o : OpenCmd), s.Sound ∧ s.pwr = some p ∧ p.drain = some d ∧
      s.drained = true ∧ s.openCmd p.agent p.tag = some o ∧ p.target = 3) ∧
    (∃ (s : State) (p : PwrReq) (d : ℕ) (o : OpenCmd), s.Sound ∧ s.pwr = some p ∧ p.drain = some d ∧
      s.drained = true ∧ s.openCmd p.agent p.tag = some o ∧ p.target = 4) ∧
    (∃ (s : State) (w : Fin 9), s.Sound ∧ w.val ≠ 5 ∧ s.wakeEnabled w.val = true ∧ s.power = 2 ∧
      wakeIn w.val 2 = true) ∧
    (∃ (s : State) (w : Fin 9), s.Sound ∧ w.val ≠ 5 ∧ s.wakeEnabled w.val = true ∧ s.power = 3 ∧
      wakeIn w.val 3 = true) ∧
    (∃ (s : State) (w : Fin 9), s.Sound ∧ w.val ≠ 5 ∧ s.wakeEnabled w.val = true ∧ s.power = 4 ∧
      wakeIn w.val 4 = true) ∧
    (∃ (s : State) (w : Fin 9) (p : PwrReq), s.Sound ∧ w.val ≠ 5 ∧ s.wakeEnabled w.val = true ∧ s.power ≤ 1 ∧
      s.pwr = some p ∧ wakeIn w.val p.target = true) ∧
    (∃ (s : State) (w : Fin 9), s.Sound ∧ w.val ≠ 5 ∧ s.wakeEnabled w.val = true ∧ s.power ≤ 1 ∧ s.pwr = none) ∧
    (∃ (s : State) (f : ℕ), s.Sound ∧ s.wakeEnabled 5 = true ∧ s.power = 2 ∧ (∃ l ∈ s.sr.queue, l.at_ = f) ∧
      (∀ l ∈ s.sr.queue, f ≤ l.at_)) ∧
    (∃ (s : State) (w : ℕ) (st : ℕ), s.Sound ∧ 0 < w ∧ w < 9 ∧ st < 8) ∧
    (∃ (s : State) (a : Agent) (on : Bool), s.Sound ∧ s.TakesField a.val A.PWR_STAY 0 1 (bit1 on) ∧ a.val < 4 ∧
      s.get (stayRef a.val) ≠ bit1 on) ∧
    (∃ (s : State) (m : ℕ) (t : ℕ), s.Sound ∧ s.own.suspend = some (m, t) ∧ s.awake = true) := by
  exact ⟨
    ⟨wits [] (fun s => ({ s with pwr := some ⟨4, 7, 2, some 4000⟩ }).modAgent 4 (fun g => { g with openCmds := [⟨.spi, 7, 0x30, 0, 0, 4000, false⟩] })),
      ⟨4, 7, 2, some 4000⟩, 4000, ⟨.spi, 7, 0x30, 0, 0, 4000, false⟩, wits_sound _ _ (fun _ => rfl) (fun _ => rfl),
      by decide +kernel⟩,
    ⟨wits [] (fun s => ({ s with pwr := some ⟨4, 7, 3, some 4000⟩ }).modAgent 4 (fun g => { g with openCmds := [⟨.spi, 7, 0x30, 0, 0, 4000, false⟩] })),
      ⟨4, 7, 3, some 4000⟩, 4000, ⟨.spi, 7, 0x30, 0, 0, 4000, false⟩, wits_sound _ _ (fun _ => rfl) (fun _ => rfl),
      by decide +kernel⟩,
    ⟨wits [] (fun s => ({ s with pwr := some ⟨4, 7, 4, some 4000⟩ }).modAgent 4 (fun g => { g with openCmds := [⟨.spi, 7, 0x30, 0, 0, 4000, false⟩] })),
      ⟨4, 7, 4, some 4000⟩, 4000, ⟨.spi, 7, 0x30, 0, 0, 4000, false⟩, wits_sound _ _ (fun _ => rfl) (fun _ => rfl),
      by decide +kernel⟩,
    ⟨wit [(F.PWR_STATE_STATE, 2)], 8, wit_sound _, by decide +kernel⟩,
    ⟨wit [(F.PWR_STATE_STATE, 3)], 8, wit_sound _, by decide +kernel⟩,
    ⟨wits [(F.PWR_STATE_STATE, 4)] (fun s => { s with rails := ⟨127, 63, 30, 127, 0⟩ }), 8,
      wits_sound _ _ (fun _ => rfl) (fun _ => rfl), by decide +kernel⟩,
    ⟨wits [] (fun s => { s with pwr := some ⟨4, 7, 4, none⟩ }), 8, ⟨4, 7, 4, none⟩,
      wits_sound _ _ (fun _ => rfl) (fun _ => rfl), by decide +kernel⟩,
    ⟨wit [], 8, wit_sound _, by decide +kernel⟩,
    ⟨wits [(F.PWR_STATE_STATE,
      2)] (fun s => { s with sr := { s.sr with queue := [⟨600000000, 600000000, 0, 0, 0, 0, false, 0, 0, false, 0, false, 3, none, [], 0⟩] } }),
      600000000, wits_sound _ _ (fun _ => rfl) (fun _ => rfl), by decide +kernel⟩,
    ⟨wit [], 8, 7, wit_sound _, by decide +kernel⟩,
    ⟨wit [], 3, true, wit_sound _, field_of (by decide +kernel), by decide +kernel⟩,
    ⟨wits [] (fun s => { s with own := { s.own with suspend := some (8, 4000) } }), 8, 4000,
      wits_sound _ _ (fun _ => rfl) (fun _ => rfl), by decide +kernel⟩⟩

theorem test_wit_PowerMessages :
    (∃ (s : State) (p : Fin 4) (obj : Word), s.Sound ∧ (s.get (F.PD_CABLE_LIM_V50 p.val) = 1 ∧
      s.hasContract p.val = true ∧ ∃ i ∈ [7, 8, 9, 10], s.srcObj p.val i ≠ 0) ∧ s.pdOn p.val = true ∧
      bitsOf (BitVec.toNat obj) 24 8 = 1 ∧ s.isSrc p.val = true) ∧
    (∃ (s : State) (p : Fin 4) (obj : Word), s.Sound ∧ (¬(s.get (F.PD_CABLE_LIM_V50 p.val) = 1 ∧
      s.hasContract p.val = true ∧ ∃ i ∈ [7, 8, 9, 10], s.srcObj p.val i ≠ 0)) ∧ s.pdOn p.val = true ∧
      bitsOf (BitVec.toNat obj) 24 8 = 1 ∧ s.isSrc p.val = true) ∧
    (∃ (s : State) (p : Fin 4) (obj : Word), s.Sound ∧ s.pdOn p.val = true ∧ bitsOf (BitVec.toNat obj) 24 8 = 3 ∧
      s.isSrc p.val = false ∧ (s.tcp p.val).wait = PdWait.epr) ∧
    (∃ (s : State) (p : Fin 4) (obj : Word), s.Sound ∧ s.pdOn p.val = true ∧ bitsOf (BitVec.toNat obj) 24 8 = 5 ∧
      s.get (F.TC_STATUS_EPR p.val) = 1) ∧
    (∃ (s : State) (p : Fin 4), s.Sound ∧ s.pdOn p.val = true ∧ s.isSrc p.val = true ∧
      s.get (F.TC_STATUS_EPR p.val) = 1) ∧
    (∃ (s : State) (p : Fin 4) (svid : BitVec 16), s.Sound ∧ s.pdOn p.val = true ∧ svid ≠ 12122) ∧
    (∃ (s : State) (p : Fin 4) (svid : BitVec 16) (mode : Fin 8) (vdo : Word), s.Sound ∧ s.pdOn p.val = true ∧
      (svid = 12122 ∧ mode = 1 ∧ s.get (F.TC_STATUS_DR p.val) = 0 ∧ bitsOf (BitVec.toNat vdo) 0 3 = 1 ∧
      bitAt (BitVec.toNat vdo) 4 = true ∧ bitAt (BitVec.toNat vdo) 5 = true ∧ s.get (F.CV_CTRL_ENABLE p.val) = 1 ∧
      s.get (F.PD_CABLE_LIM_GEAR p.val) ≠ 0)) ∧
    (∃ (s : State) (p : Fin 4) (svid : BitVec 16) (mode : Fin 8) (vdo : Word), s.Sound ∧ s.pdOn p.val = true ∧
      (¬(svid = 12122 ∧ mode = 1 ∧ s.get (F.TC_STATUS_DR p.val) = 0 ∧ bitsOf (BitVec.toNat vdo) 0 3 = 1 ∧
      bitAt (BitVec.toNat vdo) 4 = true ∧ bitAt (BitVec.toNat vdo) 5 = true ∧ s.get (F.CV_CTRL_ENABLE p.val) = 1 ∧
      s.get (F.PD_CABLE_LIM_GEAR p.val) ≠ 0))) ∧
    (∃ (s : State) (p : Fin 4), s.Sound ∧ s.pdOn p.val = true ∧ s.get (F.TC_STATUS_CARAVAN p.val) = 1) := by
  exact ⟨
    ⟨wit [(F.TC_STATUS_STATE 3, Tc.src), (F.TC_STATUS_PR 3, 1), (F.TC_CFG_w_V 3 13, 1), (F.PD_CABLE_LIM_V50 3, 1),
      (F.TC_STATUS_CONTRACT 3, 1)], 3, 16777216, wit_sound _, ⟨by decide +kernel, by decide +kernel, 10, by decide,
      by decide +kernel⟩, by decide +kernel⟩,
    ⟨wit [(F.TC_STATUS_STATE 3, Tc.src), (F.TC_STATUS_PR 3, 1)], 3, 16777216, wit_sound _,
      fun h => absurd h.1 (by decide +kernel), by decide +kernel⟩,
    ⟨wits [(F.TC_STATUS_STATE 3, Tc.snk)] (fun s => s.modTc 3 (fun t => { t with wait := PdWait.epr })), 3, 50331648,
      wits_sound _ _ (fun _ => rfl) (fun _ => rfl), by decide +kernel⟩,
    ⟨wit [(F.TC_STATUS_STATE 3, Tc.snk), (F.TC_STATUS_EPR 3, 1)], 3, 83886080, wit_sound _, by decide +kernel⟩,
    ⟨wit [(F.TC_STATUS_STATE 3, Tc.src), (F.TC_STATUS_PR 3, 1), (F.TC_STATUS_EPR 3, 1)], 3, wit_sound _,
      by decide +kernel⟩,
    ⟨wit [(F.TC_STATUS_STATE 3, Tc.snk)], 3, 0, wit_sound _, by decide +kernel⟩,
    ⟨wit [(F.TC_STATUS_STATE 3, Tc.snk), (F.CV_CTRL_ENABLE 3, 1), (F.PD_CABLE_LIM_GEAR 3, 1)], 3, 12122, 1, 49,
      wit_sound _, by decide +kernel⟩,
    ⟨wit [(F.TC_STATUS_STATE 3, Tc.snk)], 3, 0, 7, 0, wit_sound _, by decide +kernel⟩,
    ⟨wit [(F.TC_STATUS_STATE 3, Tc.snk), (F.TC_STATUS_CARAVAN 3, 1)], 3, wit_sound _, by decide +kernel⟩⟩

theorem test_wit_PowerRefusals :
    (∃ (s : State) (k : Fin 16) (i : Fin 16), s.Sound ∧ i ≠ k) ∧
    (∃ (s : State) (r : ℕ), s.Sound ∧ r ≠ R.ok) ∧
    (∃ (s : State) (q : PwrReq), s.Sound ∧ s.pwr = some q) := by
  exact ⟨
    ⟨wit [], 15, 0, wit_sound _, by decide +kernel⟩,
    ⟨wit [], 1, wit_sound _, by decide +kernel⟩,
    ⟨wits [] (fun s => { s with pwr := some ⟨4, 7, 2, none⟩ }), ⟨4, 7, 2, none⟩,
      wits_sound _ _ (fun _ => rfl) (fun _ => rfl), by decide +kernel⟩⟩

theorem test_wit_PowerTimeouts :
    (∃ (s : State) (p : Fin 4), s.Sound ∧ s.pdOn p.val = true ∧ (s.tcp p.val).wait = PdWait.cable) ∧
    (∃ (s : State) (p : Fin 4), s.Sound ∧ ((s.tcp p.val).wait = PdWait.request ∨ (s.tcp p.val).wait = PdWait.accept ∨
      (s.tcp p.val).wait = PdWait.soft ∨ (s.tcp p.val).wait = PdWait.epr ∨ (s.tcp p.val).wait = PdWait.sinkCaps ∨
      ∃ (k : ℕ), (s.tcp p.val).wait = PdWait.swap k) ∧ s.pdOn p.val = true) ∧
    (∃ (s : State) (p : Fin 4), s.Sound ∧ ((s.tcp p.val).wait = PdWait.psRdy ∨ ∃ (k : ℕ),
      (s.tcp p.val).wait = PdWait.swapRdy k) ∧ s.pdOn p.val = true) ∧
    (∃ (s : State) (p : Fin 4), s.Sound ∧ s.pdOn p.val = true ∧ (s.tcp p.val).hard = true ∧
      s.hasContract p.val = false ∧ (s.tcp p.val).hardFails = 0) ∧
    (∃ (s : State) (p : Fin 4), s.Sound ∧ s.pdOn p.val = true ∧ (s.tcp p.val).hard = true ∧
      s.hasContract p.val = false ∧ (s.tcp p.val).hardFails ≠ 0) ∧
    (∃ (s : State) (p : Fin 4), s.Sound ∧ s.pdOn p.val = true ∧ s.isSrc p.val = true ∧ s.hasContract p.val = true ∧
      (s.get (F.PD_CONTRACT_TYPE p.val) = 1 ∨ s.get (F.PD_CONTRACT_TYPE p.val) = 2)) ∧
    (∃ (s : State) (p : Fin 4), s.Sound ∧ s.pdOn p.val = true ∧ s.isSrc p.val = true ∧
      s.get (F.TC_STATUS_EPR p.val) = 1) ∧
    (∃ (s : State) (p : Fin 4), s.Sound ∧ s.pdOn p.val = true ∧ s.tcBusy p.val = true) ∧
    (∃ (s : State) (p : Fin 4), s.Sound ∧ s.power ≠ 4 ∧ s.tcState p.val = Tc.debug ∧ (s.tcp p.val).srcEn = true) ∧
    (∃ (s : State) (p : Fin 4), s.Sound ∧ s.power ≠ 4 ∧ s.get (F.TC_STATUS_VCONN p.val) = 1) ∧
    (∃ (s : State), s.Sound ∧ s.awake = false) ∧
    (∃ (s : State), s.Sound ∧ s.get F.OA_STATUS_SHED_ACTIVE = 1 ∧ s.get F.TC_PWR_LOCAL_OK = 1 ∧
      s.oa.okSince + s.get F.OA_SHED_RESTORE ≤ s.rails.hamada) := by
  exact ⟨
    ⟨wits [(F.TC_STATUS_STATE 3, Tc.snk)] (fun s => s.modTc 3 (fun t => { t with wait := PdWait.cable })), 3,
      wits_sound _ _ (fun _ => rfl) (fun _ => rfl), by decide +kernel⟩,
    ⟨wits [(F.TC_STATUS_STATE 3, Tc.snk)] (fun s => s.modTc 3 (fun t => { t with wait := PdWait.request })), 3,
      wits_sound _ _ (fun _ => rfl) (fun _ => rfl), .inl (by decide +kernel), by decide +kernel⟩,
    ⟨wits [(F.TC_STATUS_STATE 3, Tc.snk)] (fun s => s.modTc 3 (fun t => { t with wait := PdWait.psRdy })), 3,
      wits_sound _ _ (fun _ => rfl) (fun _ => rfl), .inl (by decide +kernel), by decide +kernel⟩,
    ⟨wits [(F.TC_STATUS_STATE 3,
      Tc.snk)] (fun s => (s.modTc 3 (fun t => { t with hard := true })).modTc 3 (fun t => { t with hardFails := 0 })),
      3, wits_sound _ _ (fun _ => rfl) (fun _ => rfl), by decide +kernel⟩,
    ⟨wits [(F.TC_STATUS_STATE 3,
      Tc.snk)] (fun s => (s.modTc 3 (fun t => { t with hard := true })).modTc 3 (fun t => { t with hardFails := 1 })),
      3, wits_sound _ _ (fun _ => rfl) (fun _ => rfl), by decide +kernel⟩,
    ⟨wit [(F.TC_STATUS_STATE 3, Tc.src), (F.TC_STATUS_PR 3, 1), (F.TC_STATUS_CONTRACT 3, 1), (F.PD_CONTRACT_TYPE 3,
      1)], 3, wit_sound _, by decide +kernel⟩,
    ⟨wit [(F.TC_STATUS_STATE 3, Tc.src), (F.TC_STATUS_PR 3, 1), (F.TC_STATUS_EPR 3, 1)], 3, wit_sound _,
      by decide +kernel⟩,
    ⟨wits [(F.TC_STATUS_STATE 3, Tc.snk)] (fun s => s.modTc 3 (fun t => { t with hard := true })), 3,
      wits_sound _ _ (fun _ => rfl) (fun _ => rfl), by decide +kernel⟩,
    ⟨wits [(F.TC_STATUS_STATE 3, Tc.debug)] (fun s => s.modTc 3 (fun t => { t with srcEn := true })), 3,
      wits_sound _ _ (fun _ => rfl) (fun _ => rfl), by decide +kernel⟩,
    ⟨wit [(F.TC_STATUS_VCONN 3, 1)], 3, wit_sound _, by decide +kernel⟩,
    ⟨wit [(F.PWR_STATE_STATE, 2)], wit_sound _, by decide +kernel⟩,
    ⟨wit [(F.OA_STATUS_SHED_ACTIVE, 1), (F.TC_PWR_LOCAL_OK, 1)], wit_sound _, by decide +kernel⟩⟩

theorem test_wit_ReferenceSwitches :
    (∃ (s : State), s.Sound ∧ s.get F.REF_STATUS_ACTIVE = 0) ∧
    (∃ (s : State), s.Sound ∧ s.get F.REF_STATUS_ACTIVE = 1) := by
  exact ⟨
    ⟨wit [(F.REF_STATUS_ACTIVE, 0)], wit_sound _, by decide +kernel⟩,
    ⟨wit [(F.REF_STATUS_ACTIVE, 1)], wit_sound _, by decide +kernel⟩⟩

theorem test_wit_RegisterReads :
    (∃ (s : State) (a : Agent) (tr : Transport) (tag : Byte) (fixed : Bool) (addr : Word) (len : BitVec 12), s.Sound ∧
      s.Admits a.val tr (mkFrame 1 (BitVec.toNat tag) len.toNat (bit1 fixed) (BitVec.toNat addr) []) ∧
      inField (BitVec.toNat addr) = false ∧
      (s.passTurn a.val).readJudge a.val (mkFrame 1 (BitVec.toNat tag) len.toNat (bit1 fixed) (BitVec.toNat addr) []) = R.ok) ∧
    (∃ (s : State) (a : Agent) (tr : Transport) (tag : Byte) (addr : Word), s.Sound ∧
      s.Admits a.val tr (mkFrame 1 (BitVec.toNat tag) 1 0 (BitVec.toNat addr) []) ∧
      inField (BitVec.toNat addr) = false ∧
      (s.passTurn a.val).readJudge a.val (mkFrame 1 (BitVec.toNat tag) 1 0 (BitVec.toNat addr) []) = R.ok ∧
      BitVec.toNat addr < 2147483648 ∧ BitVec.toNat addr ≠ A.TIME_LO) ∧
    (∃ (s : State) (a : Agent) (tr : Transport) (tag : Byte) (g : Fin 4) (r : ℕ × ℕ × ℕ) (rest : List (ℕ × ℕ × ℕ)),
      s.Sound ∧ s.Admits a.val tr (mkFrame 1 (BitVec.toNat tag) 4 0 (A.CAP_REC_W g.val 0) []) ∧
      (s.passTurn a.val).readJudge a.val (mkFrame 1 (BitVec.toNat tag) 4 0 (A.CAP_REC_W g.val 0) []) = R.ok ∧
      (vAt s.sr.caps g.val).recs = r :: rest ∧ s.get (F.CAP_CTRL_g_DELIVERY g.val) = 1) := by
  exact ⟨
    ⟨wit [], 0, .usb, 7, true, 0, 1, wit_sound _, admits_of (by decide +kernel), by decide +kernel⟩,
    ⟨wit [], 0, .usb, 7, 0, wit_sound _, admits_of (by decide +kernel), by decide +kernel⟩,
    ⟨wits [(F.CAP_CTRL_g_DELIVERY 3,
      1)] (fun s => { s with sr := { s.sr with caps := vPut s.sr.caps 3 ⟨[(1, 2, 3)], false⟩ } }), 0, .usb, 7, 3, (1,
      2, 3), [], wits_but _ _ (by decide +kernel) (by decide +kernel) (fun _ => rfl), admits_of (by decide +kernel),
      by decide +kernel⟩⟩

theorem test_wit_RegisterWrites :
    (∃ (s : State) (a : Agent) (addr : Word) (v : Word) (r : WReg), s.Sound ∧ inField (BitVec.toNat addr) = false ∧
      BitVec.toNat addr < 2 ^ 31 ∧ wregAt (BitVec.toNat addr) = some r ∧
      (s.passTurn a.val).written a.val r (BitVec.toNat v) = []) ∧
    (∃ (s : State) (a : Agent) (addr : Word) (v : Word), s.Sound ∧ inField (BitVec.toNat addr) = false ∧
      BitVec.toNat addr < 2 ^ 31 ∧
      ((s.passTurn a.val).writeWord a.val (BitVec.toNat addr) (BitVec.toNat v)).1 ≠ R.ok ∧
      wregAt (BitVec.toNat addr) ≠ some WReg.tickCommit) ∧
    (∃ (s : State) (a : Agent) (addr : Word) (v : Word) (tr : Transport) (tag : Byte), s.Sound ∧
      s.Admits a.val tr (mkFrame 2 (BitVec.toNat tag) 1 0 (BitVec.toNat addr) [v]) ∧
      inField (BitVec.toNat addr) = false ∧ BitVec.toNat addr < 2 ^ 31 ∧
      (s.passTurn a.val).writeJudge a.val (mkFrame 2 (BitVec.toNat tag) 1 0 (BitVec.toNat addr) [v]) = R.ok) ∧
    (∃ (s : State) (a : Agent) (addr : Word) (v : Word) (tr : Transport) (tag : Byte), s.Sound ∧
      s.Admits a.val tr (mkFrame 3 (BitVec.toNat tag) 1 0 (BitVec.toNat addr) [v]) ∧
      inField (BitVec.toNat addr) = false ∧ BitVec.toNat addr < 2 ^ 31 ∧
      (s.passTurn a.val).writeJudge a.val (mkFrame 3 (BitVec.toNat tag) 1 0 (BitVec.toNat addr) [v]) = R.ok) ∧
    (∃ (s : State) (a : Agent) (addr : Word) (v : Word) (tr : Transport) (tag : Byte), s.Sound ∧
      s.Admits a.val tr (mkFrame 3 (BitVec.toNat tag) 1 2 (BitVec.toNat addr) [v]) ∧
      inField (BitVec.toNat addr) = false ∧ BitVec.toNat addr < 2 ^ 31 ∧
      (s.passTurn a.val).writeJudge a.val (mkFrame 3 (BitVec.toNat tag) 1 2 (BitVec.toNat addr) [v]) = R.ok) ∧
    (∃ (s : State) (a : Agent) (addr : Word) (v : Word), s.Sound ∧ s.TakesWords a.val (BitVec.toNat addr) [v] ∧
      inField (BitVec.toNat addr) = false ∧ BitVec.toNat addr < 2 ^ 31) := by
  exact ⟨
    ⟨wit [], 0, BitVec.ofNat 32 A.PWR_STAY, 0, .pwrStay, wit_sound _, by decide +kernel⟩,
    ⟨wit [], 0, w32 (A.ISO_u 0), 256, wit_sound _, by decide +kernel⟩,
    ⟨wit [], 0, 0, 0, .usb, 7, wit_sound _, admits_of (by decide +kernel), by decide +kernel⟩,
    ⟨wit [], 0, 0, 0, .usb, 7, wit_sound _, admits_of (by decide +kernel), by decide +kernel⟩,
    ⟨wit [], 0, 0, 0, .usb, 7, wit_sound _, admits_of (by decide +kernel), by decide +kernel⟩,
    ⟨wit [], 0, 0, 0, wit_sound _, takes_of (by decide +kernel), by decide +kernel⟩⟩

theorem test_wit_Resets :
    (∃ (s : State) (r : Fin 7), s.Sound ∧ s.img.phase = DevPhase.held ∧ bitAt s.rails.valid r.val = false ∧ r.val = 0) ∧
    (∃ (s : State) (r : Fin 7), s.Sound ∧ s.img.phase = DevPhase.held ∧ bitAt s.rails.valid r.val = false ∧
      1 ≤ r.val ∧ bitAt s.rails.valid 0 = true ∧ (r.val = 1 ∨ bitAt s.rails.en (r.val - 1) = true)) ∧
    (∃ (s : State) (r : Fin 6), s.Sound ∧ s.img.phase = DevPhase.held ∧ bitAt s.rails.en r.val = true ∧
      bitAt s.rails.valid (r.val + 1) = false) ∧
    (∃ (s : State), s.Sound ∧ s.img.phase ≠ DevPhase.held ∧ s.clock.running = true ∧ s.power ≠ 3 ∧ s.power ≠ 4) ∧
    (∃ (s : State), s.Sound ∧ s.img.phase = DevPhase.held ∧ s.rails.valid = 127) := by
  exact ⟨
    ⟨wits [] (fun s => { (s.modImg (fun i => { i with phase := .held })) with rails := ⟨126, 63, 30, 0, 0⟩ }), 0,
      wits_sound _ _ (fun _ => rfl) (fun _ => rfl), by decide +kernel⟩,
    ⟨wits [] (fun s => { (s.modImg (fun i => { i with phase := .held })) with rails := ⟨63, 63, 30, 0, 0⟩ }), 6,
      wits_sound _ _ (fun _ => rfl) (fun _ => rfl), by decide +kernel⟩,
    ⟨wits [] (fun s => { (s.modImg (fun i => { i with phase := .held })) with rails := ⟨63, 63, 30, 0, 0⟩ }), 5,
      wits_sound _ _ (fun _ => rfl) (fun _ => rfl), by decide +kernel⟩,
    ⟨wit [], wit_sound _, by decide +kernel⟩,
    ⟨wits [] (fun s => s.modImg (fun i => { i with phase := .held })), wits_sound _ _ (fun _ => rfl) (fun _ => rfl),
      by decide +kernel⟩⟩

theorem test_wit_RoleSwapsAndResets :
    (∃ (s : State) (p : Fin 4), s.Sound ∧ s.pdOn p.val = true ∧ s.swapCross p.val = true) ∧
    (∃ (s : State) (p : Fin 4), s.Sound ∧ (bitAt (s.tcConfig p.val) 5 = true ∧ s.tcMode p.val = 2 ∧
      (s.isSrc p.val = true ∨ s.dryPort p.val = true ∧ ∃ i < 10, s.srcObj p.val (i + 1) ≠ 0)) ∧ s.pdOn p.val = true ∧
      s.swapCross p.val = false) ∧
    (∃ (s : State) (p : Fin 4), s.Sound ∧ (¬(bitAt (s.tcConfig p.val) 5 = true ∧ s.tcMode p.val = 2 ∧
      (s.isSrc p.val = true ∨ s.dryPort p.val = true ∧ ∃ i < 10, s.srcObj p.val (i + 1) ≠ 0))) ∧ s.pdOn p.val = true ∧
      s.swapCross p.val = false) ∧
    (∃ (s : State) (p : Fin 4), s.Sound ∧ s.pdOn p.val = true ∧ s.swapCross p.val = false ∧
      s.get (F.TC_STATUS_DR p.val) = 1) ∧
    (∃ (s : State) (p : Fin 4), s.Sound ∧ s.pdOn p.val = true ∧ s.swapCross p.val = false ∧
      s.get (F.TC_STATUS_DR p.val) = 0 ∧ bitAt (s.tcConfig p.val) 6 = true ∧ s.get (F.TC_STATUS_CARAVAN p.val) = 0) ∧
    (∃ (s : State) (p : Fin 4), s.Sound ∧ s.pdOn p.val = true ∧ s.swapCross p.val = false ∧
      s.get (F.TC_STATUS_DR p.val) = 0 ∧ (bitAt (s.tcConfig p.val) 6 = false ∨ s.get (F.TC_STATUS_CARAVAN p.val) = 1)) ∧
    (∃ (s : State) (p : Fin 4), s.Sound ∧ s.pdOn p.val = true ∧ s.swapCross p.val = false ∧
      s.get (F.TC_STATUS_VCONN p.val) = 0) ∧
    (∃ (s : State) (p : Fin 4), s.Sound ∧ s.pdOn p.val = true ∧ s.swapCross p.val = false ∧
      s.get (F.TC_STATUS_VCONN p.val) = 1 ∧ bitAt (s.tcConfig p.val) 7 = true) ∧
    (∃ (s : State) (p : Fin 4), s.Sound ∧ s.pdOn p.val = true ∧ s.swapCross p.val = false ∧
      s.get (F.TC_STATUS_VCONN p.val) = 1 ∧ bitAt (s.tcConfig p.val) 7 = false) ∧
    (∃ (s : State) (p : Fin 4), s.Sound ∧ s.pdOn p.val = true ∧ (s.tcp p.val).frs = true ∧ s.isSrc p.val = false) ∧
    (∃ (s : State) (p : Fin 4), s.Sound ∧ s.pdOn p.val = true ∧ s.tcState p.val = Tc.snk ∧
      s.hasContract p.val = true ∧ s.frsAble p.val = true ∧ s.get (F.TC_STATUS_WET p.val) = 0) ∧
    (∃ (s : State) (p : Fin 4) (a : Agent), s.Sound ∧ s.TakesField a.val (A.TC_CTRL p.val) 4 1 1 ∧
      s.pdOn p.val = true ∧ (a.val = p.val ∨ a.val = 4 ∨ s.sharedWriter a.val = true) ∧ s.hasContract p.val = true) ∧
    (∃ (s : State) (p : Fin 4) (a : Agent), s.Sound ∧ s.TakesField a.val (A.TC_CTRL p.val) 5 1 1 ∧
      s.pdOn p.val = true ∧ (a.val = p.val ∨ a.val = 4 ∨ s.sharedWriter a.val = true) ∧ s.hasContract p.val = true) ∧
    (∃ (s : State) (p : Fin 4) (a : Agent), s.Sound ∧ s.TakesField a.val (A.TC_CTRL p.val) 6 1 1 ∧
      s.pdOn p.val = true ∧ (a.val = p.val ∨ a.val = 4 ∨ s.sharedWriter a.val = true) ∧ s.hasContract p.val = true) ∧
    (∃ (s : State) (p : Fin 4) (a : Agent), s.Sound ∧ s.TakesField a.val (A.TC_CTRL p.val) 7 1 1 ∧
      s.pdOn p.val = true ∧ (a.val = p.val ∨ a.val = 4 ∨ s.sharedWriter a.val = true)) ∧
    (∃ (s : State) (p : Fin 4) (a : Agent), s.Sound ∧ s.TakesField a.val (A.TC_CTRL p.val) 8 1 1 ∧
      s.pdOn p.val = true ∧ (a.val = p.val ∨ a.val = 4 ∨ s.sharedWriter a.val = true) ∧ s.inService a.val = true) := by
  exact ⟨
    ⟨wits [(F.TC_STATUS_STATE 3, Tc.snk)] (fun s => s.modTc 3 (fun t => { t with wait := .swap 1 })), 3,
      wits_sound _ _ (fun _ => rfl) (fun _ => rfl), by decide +kernel⟩,
    ⟨wit [(F.TC_STATUS_STATE 3, Tc.src), (F.TC_STATUS_PR 3, 1), (F.TC_CFG_w_V 3 0, 34)], 3, wit_sound _,
      ⟨by decide +kernel, by decide +kernel, .inl (by decide +kernel)⟩, by decide +kernel⟩,
    ⟨wit [(F.TC_STATUS_STATE 3, Tc.src), (F.TC_STATUS_PR 3, 1), (F.TC_CFG_w_V 3 0, 0)], 3, wit_sound _,
      fun h => absurd h.1 (by decide +kernel), by decide +kernel⟩,
    ⟨wit [(F.TC_STATUS_STATE 3, Tc.snk), (F.TC_STATUS_DR 3, 1)], 3, wit_sound _, by decide +kernel⟩,
    ⟨wit [(F.TC_STATUS_STATE 3, Tc.snk), (F.TC_STATUS_DR 3, 0), (F.TC_STATUS_CARAVAN 3, 0), (F.TC_CFG_w_V 3 0, 64)],
      3, wit_sound _, by decide +kernel⟩,
    ⟨wit [(F.TC_STATUS_STATE 3, Tc.snk), (F.TC_STATUS_DR 3, 0)], 3, wit_sound _, by decide +kernel⟩,
    ⟨wit [(F.TC_STATUS_STATE 3, Tc.snk), (F.TC_STATUS_VCONN 3, 0)], 3, wit_sound _, by decide +kernel⟩,
    ⟨wit [(F.TC_STATUS_STATE 3, Tc.snk), (F.TC_STATUS_VCONN 3, 1), (F.TC_CFG_w_V 3 0, 128)], 3, wit_sound _,
      by decide +kernel⟩,
    ⟨wit [(F.TC_STATUS_STATE 3, Tc.snk), (F.TC_STATUS_VCONN 3, 1)], 3, wit_sound _, by decide +kernel⟩,
    ⟨wits [(F.TC_STATUS_STATE 3, Tc.snk)] (fun s => s.modTc 3 (fun t => { t with frs := true })), 3,
      wits_sound _ _ (fun _ => rfl) (fun _ => rfl), by decide +kernel⟩,
    ⟨wits [(F.TC_STATUS_STATE 3, Tc.snk), (F.TC_STATUS_CONTRACT 3, 1), (F.TC_STATUS_WET 3, 0), (F.TC_CFG_w_V 3 3,
      102450)] (fun s => s.modTc 3 (fun t => { t with frsField := 1 })), 3,
      wits_sound _ _ (fun _ => rfl) (fun _ => rfl), by decide +kernel⟩,
    ⟨wit [(F.TC_STATUS_STATE 3, Tc.snk), (F.TC_STATUS_CONTRACT 3, 1)], 3, 3, wit_sound _,
      field_of (by decide +kernel), by decide +kernel⟩,
    ⟨wit [(F.TC_STATUS_STATE 3, Tc.snk), (F.TC_STATUS_CONTRACT 3, 1)], 3, 3, wit_sound _,
      field_of (by decide +kernel), by decide +kernel⟩,
    ⟨wit [(F.TC_STATUS_STATE 3, Tc.snk), (F.TC_STATUS_CONTRACT 3, 1)], 3, 3, wit_sound _,
      field_of (by decide +kernel), by decide +kernel⟩,
    ⟨wit [(F.TC_STATUS_STATE 3, Tc.snk)], 3, 3, wit_sound _, field_of (by decide +kernel), by decide +kernel⟩,
    ⟨wits [(F.TC_STATUS_STATE 3, Tc.snk)] (fun s => s.modAgent 3 (fun g => { g with service := true })), 3, 3,
      wits_sound _ _ (fun _ => rfl) (fun _ => rfl), field_of (by decide +kernel), by decide +kernel⟩⟩

theorem test_wit_ServiceMode :
    (∃ (s : State) (a : Agent) (tr : Transport) (tag : Byte), s.Sound ∧
      s.Admits a.val tr (mkFrame 64 (BitVec.toNat tag) 0 0 0 []) ∧ s.mayService a.val = true ∧
      s.lockedOut a.val = false) ∧
    (∃ (s : State) (a : Agent) (tr : Transport) (tag : Byte), s.Sound ∧
      s.Admits a.val tr (mkFrame 65 (BitVec.toNat tag) 0 0 0 [])) ∧
    (∃ (s : State) (a : Agent) (tr : Transport) (tag : Byte) (data : List Word) (n : BitVec 384) (t : ℕ), s.Sound ∧
      s.Admits a.val tr (mkFrame 65 (BitVec.toNat tag) data.length 0 0 data) ∧ data.length = 48 ∧
      (s.agent a.val).nonce = some (n, t) ∧ s.tick < t + 8000 ∧ s.mayService a.val = true ∧
      (((((s.passTurn a.val).modAgent a.val fun g => { g with nonce := none }).trustedSlot (List.take 96 (wordsBytes data))).isSome && Config.ecdsaVerify (List.take 96 (wordsBytes data)) (Config.sha384 (serviceText n a.val)) (List.drop 96 (wordsBytes data))) = false)) ∧
    (∃ (s : State) (a : Agent) (t : ℕ), s.Sound ∧ (s.agent a.val).lockout = some t) := by
  exact ⟨
    ⟨wit [], 4, .spi, 7, wit_sound _, admits_of (by decide +kernel), by decide +kernel⟩,
    ⟨wit [], 4, .spi, 7, wit_sound _, admits_of (by decide +kernel)⟩,
    ⟨wits [] (fun s => s.modAgent 4 (fun g => { g with nonce := some (0, 4000) })), 4, .spi, 7, List.replicate 48 0,
      0, 4000, wits_sound _ _ (fun _ => rfl) (fun _ => rfl), admits_of (by decide +kernel), by decide +kernel⟩,
    ⟨wits [] (fun s => s.modAgent 4 (fun g => { g with lockout := some 4000 })), 4, 4000,
      wits_sound _ _ (fun _ => rfl) (fun _ => rfl), by decide +kernel⟩⟩

theorem test_wit_ShedRelease :
    (∃ (s : State), s.Sound ∧ s.get F.OA_STATUS_SHED_ACTIVE = 1 ∧ s.get F.TC_PWR_LOCAL_OK = 1 ∧
      s.oa.okSince + s.get F.OA_SHED_RESTORE ≤ s.rails.hamada) ∧
    (∃ (s : State) (c : Fin 8), s.Sound ∧ s.get F.OA_STATUS_SHED_ACTIVE = 0 ∧ s.oa.releasing = true ∧
      s.efState c.val = 4 ∧ (∀ (d : Fin 8), s.efState d.val = 4 → s.efPrio d.val < s.efPrio c.val ∨
      s.efPrio d.val = s.efPrio c.val ∧ c ≤ d)) ∧
    (∃ (s : State), s.Sound ∧ s.get F.OA_STATUS_SHED_ACTIVE = 0 ∧ s.oa.releasing = true ∧ (∀ (c : Fin 8),
      s.efState c.val ≠ 4)) ∧
    (∃ (s : State), s.Sound ∧ s.get F.OA_STATUS_SHED_ACTIVE = 0 ∧ s.oa.releasing = false) ∧
    (∃ (s : State), s.Sound ∧ s.power ≠ 4) := by
  exact ⟨
    ⟨wit [(F.OA_STATUS_SHED_ACTIVE, 1), (F.TC_PWR_LOCAL_OK, 1)], wit_sound _, by decide +kernel⟩,
    ⟨wits [(F.OA_STATUS_SHED_ACTIVE, 0), (F.EF_STATUS_STATE 7,
      4)] (fun s => { s with oa := { s.oa with releasing := true } }), 7,
      wits_sound _ _ (fun _ => rfl) (fun _ => rfl), by decide +kernel⟩,
    ⟨wits [(F.OA_STATUS_SHED_ACTIVE, 0)] (fun s => { s with oa := { s.oa with releasing := true } }),
      wits_sound _ _ (fun _ => rfl) (fun _ => rfl), by decide +kernel⟩,
    ⟨wit [(F.OA_STATUS_SHED_ACTIVE, 0)], wit_sound _, by decide +kernel⟩,
    ⟨wit [], wit_sound _, by decide +kernel⟩⟩

theorem test_wit_SourceHardResets :
    (∃ (s : State) (p : Fin 4), s.Sound ∧ s.pdOn p.val = true ∧ s.isSrc p.val = true ∧ s.hasContract p.val = true ∧
      (s.get (F.PD_CONTRACT_TYPE p.val) = 1 ∨ s.get (F.PD_CONTRACT_TYPE p.val) = 2)) ∧
    (∃ (s : State) (p : Fin 4), s.Sound ∧ s.pdOn p.val = true ∧ s.isSrc p.val = true ∧ s.hasContract p.val = true ∧
      s.get (F.PD_CONTRACT_TYPE p.val) = 0) ∧
    (∃ (s : State) (p : Fin 4), s.Sound ∧ s.pdOn p.val = true ∧ s.isSrc p.val = true ∧
      s.get (F.TC_STATUS_EPR p.val) = 1) ∧
    (∃ (s : State) (p : Fin 4), s.Sound ∧ s.pdOn p.val = true ∧ s.isSrc p.val = true ∧
      s.get (F.TC_STATUS_EPR p.val) = 0) := by
  exact ⟨
    ⟨wit [(F.TC_STATUS_STATE 3, Tc.src), (F.TC_STATUS_PR 3, 1), (F.TC_STATUS_CONTRACT 3, 1), (F.PD_CONTRACT_TYPE 3,
      1)], 3, wit_sound _, by decide +kernel⟩,
    ⟨wit [(F.TC_STATUS_STATE 3, Tc.src), (F.TC_STATUS_PR 3, 1), (F.TC_STATUS_CONTRACT 3, 1), (F.PD_CONTRACT_TYPE 3,
      0)], 3, wit_sound _, by decide +kernel⟩,
    ⟨wit [(F.TC_STATUS_STATE 3, Tc.src), (F.TC_STATUS_PR 3, 1), (F.TC_STATUS_EPR 3, 1)], 3, wit_sound _,
      by decide +kernel⟩,
    ⟨wit [(F.TC_STATUS_STATE 3, Tc.src), (F.TC_STATUS_PR 3, 1), (F.TC_STATUS_EPR 3, 0)], 3, wit_sound _,
      by decide +kernel⟩⟩

theorem test_wit_StagingSets :
    (∃ (s : State) (a : Agent) (addr : ℕ) (v : ℕ) (r : WReg), s.Sound ∧
      ((s.modAgent a.val fun g => { g with staged := s.staging a.val (s.written a.val r v) }).wordAction a.val r (s.written a.val r v) = s.modAgent a.val fun g => { g with staged := s.staging a.val (s.written a.val r v) }) ∧
      (∀ (p : ℕ), r ≠ WReg.pxCtrl p) ∧ wregAt addr = some r ∧ s.written a.val r v ≠ [] ∧ (∀ w ∈ s.written a.val r v,
      w.acc = Acc.rw ∧ w.cls = Cls.tick ∧ s.mayField a.val r (r.word v) w = true ∧ valueOk r w.f.lsb w.v = true) ∧
      s.wordDenied r (s.written a.val r v) = false ∧ s.wordBusy r (s.written a.val r v) = false ∧
      s.commitPending a.val = false ∧ (s.staging a.val (s.written a.val r v)).length ≤ 256 ∧ r.source = none ∧
      r ≠ WReg.tickCommit ∧ r ≠ WReg.pwrStay) ∧
    (∃ (s : State) (a : Agent) (addr : ℕ) (v : ℕ) (r : WReg), s.Sound ∧ wregAt addr = some r ∧
      s.written a.val r v ≠ [] ∧ (∀ w ∈ s.written a.val r v, w.acc = Acc.rw ∧ w.cls = Cls.tick ∧
      s.mayField a.val r (r.word v) w = true ∧ valueOk r w.f.lsb w.v = true) ∧
      s.wordDenied r (s.written a.val r v) = false ∧ s.wordBusy r (s.written a.val r v) = false ∧
      (s.commitPending a.val = true ∨ 256 < (s.staging a.val (s.written a.val r v)).length)) ∧
    (∃ (s : State) (a : Agent) (addr : ℕ) (v : ℕ) (r : WReg) (w : Wr) (x : Staged), s.Sound ∧ wregAt addr = some r ∧
      s.written a.val r v ≠ [] ∧ (∀ w ∈ s.written a.val r v, w.acc = Acc.rw ∧ w.cls = Cls.tick ∧
      s.mayField a.val r (r.word v) w = true ∧ valueOk r w.f.lsb w.v = true) ∧
      s.wordDenied r (s.written a.val r v) = false ∧ s.wordBusy r (s.written a.val r v) = false ∧
      s.written a.val r v = [w] ∧ (∃ x ∈ (s.agent a.val).staged, x.f = w.f) ∧
      x ∈ s.staging a.val (s.written a.val r v)) ∧
    (∃ (s : State) (a : Agent) (addr : ℕ) (v : ℕ) (r : WReg) (w : Wr), s.Sound ∧ wregAt addr = some r ∧
      s.written a.val r v ≠ [] ∧ (∀ w ∈ s.written a.val r v, w.acc = Acc.rw ∧ w.cls = Cls.tick ∧
      s.mayField a.val r (r.word v) w = true ∧ valueOk r w.f.lsb w.v = true) ∧
      s.wordDenied r (s.written a.val r v) = false ∧ s.wordBusy r (s.written a.val r v) = false ∧
      s.written a.val r v = [w] ∧ (∀ x ∈ (s.agent a.val).staged, x.f ≠ w.f)) := by
  exact ⟨
    ⟨wit [], 4, A.MGMT_NP_TIMEOUT, 500, .mgmtNpTimeout, wit_sound _, rfl, nofun, by decide +kernel⟩,
    ⟨wits [] (fun s => s.modImg (fun i => { i with commits := [⟨4, []⟩] })), 4, A.MGMT_NP_TIMEOUT, 500,
      .mgmtNpTimeout, wits_sound _ _ (fun _ => rfl) (fun _ => rfl), by decide +kernel⟩,
    ⟨wits [] (fun s => s.modAgent 4 (fun g => { g with staged := [⟨⟨A.MGMT_NP_TIMEOUT, 0, 16⟩, 400⟩] })), 4,
      A.MGMT_NP_TIMEOUT, 500, .mgmtNpTimeout, ⟨⟨A.MGMT_NP_TIMEOUT, 0, 16⟩, .rw, .tick, 500⟩, ⟨⟨A.MGMT_NP_TIMEOUT, 0,
      16⟩, 500⟩, wits_sound _ _ (fun _ => rfl) (fun _ => rfl), by decide +kernel⟩,
    ⟨wit [], 4, A.MGMT_NP_TIMEOUT, 500, .mgmtNpTimeout, ⟨⟨A.MGMT_NP_TIMEOUT, 0, 16⟩, .rw, .tick, 500⟩, wit_sound _,
      by decide +kernel⟩⟩

theorem test_wit_StepRunsTheFrontCommand :
    ∃ (s : State) (c : Instr) (rest : List Instr), s.pending = c :: rest :=
  ⟨wits [] (fun s => { s with pending := [.refPllLock, .selfTestEnd] }), .refPllLock, [.selfTestEnd],
    by decide +kernel⟩

theorem test_wit_SwitchAndGptp :
    (∃ (s : State) (q : Fin 8), s.Sound ∧ s.awake = true ∧ q.val < 4) ∧
    (∃ (s : State) (q : Fin 8), s.Sound ∧ s.awake = true ∧ 4 ≤ q.val) ∧
    (∃ (s : State), s.Sound ∧ s.get F.ETH_AGE_SEC ≠ 0) ∧
    (∃ (s : State) (a : Agent) (v : Word), s.Sound ∧ s.TakesWords a.val A.ETH_FDB_FLUSH [v] ∧
      s.sharedWriter a.val = true ∧ (bitsOf (BitVec.toNat v) 0 12 ≠ 0 ∨ bitsOf (BitVec.toNat v) 16 1 = 1)) ∧
    (∃ (s : State) (p : Fin 4) (l : ℕ) (t0 : ℕ) (e : ℕ), s.Sound ∧ vAt s.et.oper p.val = some (l, t0) ∧
      ((List.map (fun (x : ℕ × ℕ) => x.2) (s.gclEntries p.val l)).sum ≠ 0) ∧ t0 ≤ s.clock.time ∧
      (List.find? (fun (e : ℕ) => decide ((s.clock.time - t0) % (List.map (fun (x : ℕ × ℕ) => x.2) (s.gclEntries p.val l)).sum < e)) (List.map (fun (i : ℕ) => (List.map (fun (x : ℕ × ℕ) => x.2) (List.take (i + 1) (s.gclEntries p.val l))).sum) (List.range (s.gclEntries p.val l).length)) = some e)) ∧
    (∃ (s : State) (p : Fin 4), s.Sound ∧ s.get (F.GP_CTRL_p_EN p.val) = 1 ∧ s.unitRuns 13 = true ∧
      s.get (F.ETH_PSTATUS_LINK p.val) = 1 ∧ s.awake = true) ∧
    (∃ (s : State) (p : Fin 4), s.Sound ∧ s.get (F.GP_CTRL_p_EN p.val) = 1 ∧
      s.get (F.GP_STATUS_p_AS_CAPABLE p.val) = 1) ∧
    (∃ (s : State) (p : Fin 4), s.Sound ∧ s.unitRuns 13 = true ∧ s.ethLane p.val ≠ none ∧
      s.get (F.ETH_PCTRL_ENABLE p.val) = 1 ∧ s.ethGroupOn p.val = true ∧ s.awake = true) := by
  exact ⟨
    ⟨wit [], 3, wit_sound _, by decide +kernel⟩,
    ⟨wit [], 7, wit_sound _, by decide +kernel⟩,
    ⟨wit [(F.ETH_AGE_SEC, 300)], wit_sound _, by decide +kernel⟩,
    ⟨wit [], 0, 65536, wit_sound _, takes_of (by decide +kernel), by decide +kernel⟩,
    ⟨wits [(F.ETH_GCL_LEN1 3, 1), (F.ETH_GCE_V 3 1 0,
      256000)] (fun s => { s with et := { s.et with oper := vPut s.et.oper 3 (some (1, 0)) } }), 3, 1, 0, 1000,
      wits_sound _ _ (fun _ => rfl) (fun _ => rfl), by decide +kernel⟩,
    ⟨wit [(F.GP_CTRL_p_EN 3, 1), (F.ETH_PSTATUS_LINK 3, 1)], 3, wit_sound _, by decide +kernel⟩,
    ⟨wit [(F.GP_CTRL_p_EN 3, 1), (F.GP_STATUS_p_AS_CAPABLE 3, 1)], 3, wit_sound _, by decide +kernel⟩,
    ⟨wits [(F.ETH_PCTRL_ENABLE 3, 1), (F.LG_CTRL_ENABLE 4, 1), (F.LG_CTRL_ENABLE 5, 1), (F.LG_CTRL_ENABLE 6, 1),
      (F.LG_CTRL_ENABLE 7, 1), (F.LG_CTRL_ENABLE 8,
      1)] (fun s => s.modImg (fun i => { i with recs := ⟨3, 0, 0, [0x00300003]⟩ :: i.recs })), 3,
      wits_sound _ _ (fun _ => rfl) (fun _ => rfl), by decide +kernel⟩⟩

theorem test_wit_TimebaseCommands :
    (∃ (s : State) (ppm : ℤ), s.Sound ∧ 250 < ppm.natAbs) ∧
    (∃ (s : State) (ppm : ℤ), s.Sound ∧ ppm.natAbs ≤ 250) ∧
    (∃ (s : State) (h : Hp), s.Sound ∧ s.hears h.val = true ∧ s.discSources.contains (5 + h.val) = true) := by
  exact ⟨
    ⟨wit [], -251, wit_sound _, by decide +kernel⟩,
    ⟨wit [], -250, wit_sound _, by decide +kernel⟩,
    ⟨wit [(F.DISC_CTRL_SRC0, 8), (F.CV_STATUS_STATE 3, 7)], 3, wit_sound _, by decide +kernel⟩⟩

theorem test_wit_TransportSteps :
    (∃ (s : State), s.Sound ∧ s.transportShut Transport.usb = false) ∧
    (∃ (s : State) (n : Fin 64), s.Sound ∧ s.transportShut (Transport.tunnel n) = false) ∧
    (∃ (s : State) (a : Agent) (tr : Transport) (f : Frame) (rest : List (Transport × Frame)), s.Sound ∧
      (s.agent a.val).held = (tr, f) :: rest ∧ s.heldTurn = some a.val) ∧
    (∃ (s : State) (bytes : List Byte) (f : Frame), s.Sound ∧ s.Admits 4 Transport.spi f ∧
      frameOfBytes bytes = some f) ∧
    (∃ (s : State), s.Sound ∧ s.transportShut Transport.spi = false ∧ s.spiQ = []) ∧
    (∃ (s : State) (r : Reply) (rest : List Reply), s.Sound ∧ s.transportShut Transport.spi = false ∧
      s.spiQ = r :: rest) ∧
    (∃ (s : State) (a : Agent) (tag : Byte) (c : OpenCmd), s.Sound ∧ s.openCmd a.val (BitVec.toNat tag) = some c ∧
      c.opcode ≤ 3) ∧
    (∃ (s : State) (h : Hp), s.Sound ∧ (∀ (t : ℕ), (s.agent h.val).lastEcho = some t → t + 250 ≤ s.clock.time) ∧
      (s.attnF h.val = true ∨ (s.agent h.val).ownChg = true) ∧ (s.link h.val).parked = none ∧
      s.statusWord h.val (s.agent h.val).lastResult ≠ (s.agent h.val).lastStatus ∧
      isUpState (s.cvState h.val) = true ∧ s.ownRoom h.val = true) := by
  exact ⟨
    ⟨wit [], wit_sound _, by decide +kernel⟩,
    ⟨wit [], 63, wit_sound _, by decide +kernel⟩,
    ⟨wits [] (fun s => s.modAgent 3 (fun g => { g with held := [(.usb, mkFrame 5 7 0 0 0 [])] })), 3, .usb,
      mkFrame 5 7 0 0 0 [], [], wits_sound _ _ (fun _ => rfl) (fun _ => rfl), by decide +kernel⟩,
    ⟨wit [], [49, 7, 0, 0, 0, 0, 0, 0], mkFrame 49 7 0 0 0 [], wit_sound _, admits_of (by decide +kernel),
      by decide +kernel⟩,
    ⟨wit [], wit_sound _, by decide +kernel⟩,
    ⟨wits [] (fun s => { s with spiQ := [⟨0, 7, 5, []⟩] }), ⟨0, 7, 5, []⟩, [],
      wits_sound _ _ (fun _ => rfl) (fun _ => rfl), by decide +kernel⟩,
    ⟨wits [] (fun s => s.modAgent 3 (fun g => { g with openCmds := [⟨.usb, 7, 1, 0, 1, 0, false⟩] })), 3, 7, ⟨.usb, 7,
      1, 0, 1, 0, false⟩, wits_sound _ _ (fun _ => rfl) (fun _ => rfl), by decide +kernel⟩,
    ⟨wits [(F.CV_STATUS_STATE 3, L.active), (F.CV_STATUS_UP_MASK 3, 15), (F.CV_STATUS_GEAR 3,
      3)] (fun s => (s.modLink 3 (fun t => { t with parked := none })).modAgent 3 (fun g => { g with ownChg := true })),
      3, wits_sound _ _ (fun _ => rfl) (fun _ => rfl),
      fun t h => absurd h (by rw [show (State.agent _ _).lastEcho = none from rfl]; exact nofun), by decide +kernel⟩⟩

theorem test_wit_Turns :
    (∃ (s : State) (h : Hp), s.Sound ∧ s.linkRuns h.val = true ∧ s.cvState h.val = L.active ∧
      width4 (s.upMask h.val) + width4 (s.downMask h.val) = 4) ∧
    (∃ (s : State) (h : Hp) (t : Turn) (b : BitVec 64), s.Sound ∧ s.linkRuns h.val = true ∧
      (s.link h.val).turn = some t ∧ t.started = false ∧ t.cancelled = false ∧ bitsOf b.toNat 8 2 = 1 ∧
      bitsOf b.toNat 10 2 = t.pair ∧ bitsOf b.toNat 16 48 = t.tick % 2 ^ 48) ∧
    (∃ (s : State) (h : Hp) (t : Turn), s.Sound ∧ s.linkRuns h.val = true ∧ (s.link h.val).turn = some t ∧
      t.acked = false ∧ t.started = false ∧ t.cancelled = false ∧
      (s.link h.val).turnTries + 1 ≤ bitsOf (s.get (F.CV_CFG1_W h.val)) 24 4) ∧
    (∃ (s : State) (h : Hp) (t : Turn), s.Sound ∧ s.linkRuns h.val = true ∧ (s.link h.val).turn = some t ∧
      t.acked = false ∧ t.started = false ∧ t.cancelled = false ∧
      bitsOf (s.get (F.CV_CFG1_W h.val)) 24 4 < (s.link h.val).turnTries + 1) ∧
    (∃ (s : State) (h : Hp) (t : Turn), s.Sound ∧ s.linkRuns h.val = true ∧ (s.link h.val).turn = some t ∧
      t.started = true ∧ t.idleSeen = false) ∧
    (∃ (s : State) (h : Hp) (t : Turn) (hd : List (BitVec 2)), s.Sound ∧ s.linkRuns h.val = true ∧
      (s.link h.val).turn = some t ∧ t.started = true ∧ (t.dir = 1 ∧ t.idleSeen = false ∨ t.dir ≠ 1 ∧
      ¬(s.regaining h.val t.pair = true ∧ regains (s.fecOn h.val) (vAt (s.link h.val).rx.place t.pair) hd = true))) ∧
    (∃ (s : State) (h : Hp) (t : Turn) (hd : List (BitVec 2)), s.Sound ∧ s.linkRuns h.val = true ∧
      (s.link h.val).turn = some t ∧ t.started = true ∧ (t.dir = 1 ∧ t.idleSeen = true ∨ t.dir ≠ 1 ∧
      s.regaining h.val t.pair = true ∧ regains (s.fecOn h.val) (vAt (s.link h.val).rx.place t.pair) hd = true)) ∧
    (∃ (s : State) (h : Hp) (pair : Fin 4), s.Sound ∧ s.linkRuns h.val = true ∧ isUpState (s.cvState h.val) = true ∧
      bitAt (s.failedMask h.val) pair.val = false) ∧
    (∃ (s : State) (h : Hp) (b : BitVec 64), s.Sound ∧ s.linkRuns h.val = true ∧ isUpState (s.cvState h.val) = true ∧
      bitAt (s.failedMask h.val) (bitsOf b.toNat 10 2) = false) ∧
    (∃ (s : State) (h : Hp) (k : Fin 36), s.Sound ∧ s.linkRuns h.val = true ∧ k.val < 4) ∧
    (∃ (s : State) (h : Hp) (k : Fin 36), s.Sound ∧ s.linkRuns h.val = true ∧ 4 ≤ k.val ∧ k.val < 8) ∧
    (∃ (s : State) (h : Hp) (k : Fin 36), s.Sound ∧ s.linkRuns h.val = true ∧ 8 ≤ k.val ∧ k.val < 16) ∧
    (∃ (s : State) (h : Hp) (k : Fin 36), s.Sound ∧ s.linkRuns h.val = true ∧ 16 ≤ k.val) := by
  exact ⟨
    ⟨wit [(F.CV_STATUS_STATE 3, L.active), (F.CV_STATUS_UP_MASK 3, 3), (F.CV_STATUS_DOWN_MASK 3, 12)], 3, wit_sound _,
      by decide +kernel⟩,
    ⟨wits [] (fun s => s.modLink 3 (fun t => { t with turn := some ⟨3, 0, false, 4000, false, false, false, false⟩ })),
      3, ⟨3, 0, false, 4000, false, false, false, false⟩, 262147328, wits_sound _ _ (fun _ => rfl) (fun _ => rfl),
      by decide +kernel⟩,
    ⟨wits [(F.CV_CFG1_W 3,
      251658240)] (fun s => (s.modLink 3 (fun t => { t with turn := some ⟨3, 0, false, 4000, false, false, false, false⟩ })).modLink 3 (fun t => { t with turnTries := 14 })),
      3, ⟨3, 0, false, 4000, false, false, false, false⟩, wits_sound _ _ (fun _ => rfl) (fun _ => rfl),
      by decide +kernel⟩,
    ⟨wits [(F.CV_CFG1_W 3,
      251658240)] (fun s => (s.modLink 3 (fun t => { t with turn := some ⟨3, 0, false, 4000, false, false, false, false⟩ })).modLink 3 (fun t => { t with turnTries := 15 })),
      3, ⟨3, 0, false, 4000, false, false, false, false⟩, wits_sound _ _ (fun _ => rfl) (fun _ => rfl),
      by decide +kernel⟩,
    ⟨wits [] (fun s => s.modLink 3 (fun t => { t with turn := some ⟨3, 0, false, 4000, true, false, true, false⟩ })),
      3, ⟨3, 0, false, 4000, true, false, true, false⟩, wits_sound _ _ (fun _ => rfl) (fun _ => rfl),
      by decide +kernel⟩,
    ⟨wits [] (fun s => s.modLink 3 (fun t => { t with turn := some ⟨3, 1, false, 4000, true, false, true, false⟩ })),
      3, ⟨3, 1, false, 4000, true, false, true, false⟩, [], wits_sound _ _ (fun _ => rfl) (fun _ => rfl),
      by decide +kernel⟩,
    ⟨wits [(F.LN_STATUS_DOWN_VALID 3 3,
      1)] (fun s => s.modLink 3 (fun t => { t with turn := some ⟨3, 0, false, 4000, true, false, true, false⟩ })), 3,
      ⟨3, 0, false, 4000, true, false, true, false⟩, List.replicate 32 1,
      wits_sound _ _ (fun _ => rfl) (fun _ => rfl), by decide +kernel⟩,
    ⟨wit [(F.CV_STATUS_STATE 3, L.active)], 3, 3, wit_sound _, by decide +kernel⟩,
    ⟨wit [(F.CV_STATUS_STATE 3, L.active)], 3, 0, wit_sound _, by decide +kernel⟩,
    ⟨wit [], 3, 3, wit_sound _, by decide +kernel⟩,
    ⟨wit [], 3, 7, wit_sound _, by decide +kernel⟩,
    ⟨wit [], 3, 15, wit_sound _, by decide +kernel⟩,
    ⟨wit [], 3, 35, wit_sound _, by decide +kernel⟩⟩

theorem test_wit_UsbFaces :
    (∃ (s : State) (h : Hp), s.Sound ∧ bitAt (s.get F.USB_STATUS_ATTACHED) h.val = true) ∧
    (∃ (s : State) (h : Hp) (st : ℕ) (mf : ℕ), s.Sound ∧ s.get (F.UF_STATUS_STATE h.val) = st ∧
      s.get (F.UF_STATUS_MF_STATE h.val) = mf ∧ 1 ≤ st ∧ st ≤ 3) ∧
    (∃ (s : State) (h : Hp) (st : ℕ) (mf : ℕ), s.Sound ∧ s.get (F.UF_STATUS_STATE h.val) = st ∧
      s.get (F.UF_STATUS_MF_STATE h.val) = mf ∧ (st = 4 ∨ st = 5) ∧ s.mfConnected h.val = true ∧
      (vAt s.us.wakeEn h.val).1 = true ∧ vAt s.us.driven h.val = none ∧ (s.attnF h.val = true ∨ s.attnN h.val = true ∨
      (s.agent h.val).ownChg = true)) ∧
    (∃ (s : State) (h : Hp) (splits : List Split), s.Sound ∧
      ((List.foldl (fun (s : State) (x : Split) => s.takeSplit h.val x) s splits).get (F.UF_CTRL_LPM_EN h.val) = 1 ∧
      vAt (List.foldl (fun (s : State) (x : Split) => s.takeSplit h.val x) s splits).usbQ h.val = [] ∧
      (List.foldl (fun (s : State) (x : Split) => s.takeSplit h.val x) s splits).ep3Due h.val = false ∧ ∀ n < 8,
      (List.foldl (fun (s : State) (x : Split) => s.takeSplit h.val x) s splits).visible h.val n = true →
      (List.foldl (fun (s : State) (x : Split) => s.takeSplit h.val x) s splits).get (F.DS_STATUS_n_TT_BUSY n) = 0) ∧
      (1 ≤ (List.foldl (fun (s : State) (x : Split) => s.takeSplit h.val x) s splits).get (F.UF_STATUS_STATE h.val)) ∧
      ((List.foldl (fun (s : State) (x : Split) => s.takeSplit h.val x) s splits).get (F.UF_STATUS_STATE h.val) ≤ 3)) ∧
    (∃ (s : State) (h : Hp) (splits : List Split), s.Sound ∧
      (¬((List.foldl (fun (s : State) (x : Split) => s.takeSplit h.val x) s splits).get (F.UF_CTRL_LPM_EN h.val) = 1 ∧
      vAt (List.foldl (fun (s : State) (x : Split) => s.takeSplit h.val x) s splits).usbQ h.val = [] ∧
      (List.foldl (fun (s : State) (x : Split) => s.takeSplit h.val x) s splits).ep3Due h.val = false ∧ ∀ n < 8,
      (List.foldl (fun (s : State) (x : Split) => s.takeSplit h.val x) s splits).visible h.val n = true →
      (List.foldl (fun (s : State) (x : Split) => s.takeSplit h.val x) s splits).get (F.DS_STATUS_n_TT_BUSY n) = 0)) ∧
      (1 ≤ (List.foldl (fun (s : State) (x : Split) => s.takeSplit h.val x) s splits).get (F.UF_STATUS_STATE h.val)) ∧
      ((List.foldl (fun (s : State) (x : Split) => s.takeSplit h.val x) s splits).get (F.UF_STATUS_STATE h.val) ≤ 3)) ∧
    (∃ (s : State) (h : Hp), s.Sound ∧ s.mfConnected h.val = true ∧ 1 ≤ s.get (F.UF_STATUS_MF_STATE h.val) ∧
      s.get (F.UF_STATUS_MF_STATE h.val) ≤ 3) ∧
    (∃ (s : State) (h : Hp) (r : Reply) (rest : List Reply), s.Sound ∧ s.mfConnected h.val = true ∧
      s.get (F.UF_STATUS_MF_STATE h.val) = 3 ∧ vAt s.usbQ h.val = r :: rest) ∧
    (∃ (s : State) (h : Hp), s.Sound ∧ s.mfConnected h.val = true ∧ s.get (F.UF_STATUS_MF_STATE h.val) = 3 ∧
      s.transportShut Transport.usb = false ∧ (∃ x ∈ (s.agent h.val).held, x.1 = Transport.usb)) ∧
    (∃ (s : State) (h : Hp) (bytes : List Byte) (f : Frame), s.Sound ∧ s.mfConnected h.val = true ∧
      s.get (F.UF_STATUS_MF_STATE h.val) = 3 ∧ s.transportShut Transport.usb = false ∧ (∀ x ∈ (s.agent h.val).held,
      x.1 ≠ Transport.usb) ∧ vAt s.us.part h.val ++ bytes ≠ [] ∧
      (vAt s.us.part h.val ++ bytes).length = 8 + 4 * frameWords (w32 (ofBytesLE (List.take 4 (vAt s.us.part h.val ++ bytes)))) ∧
      frameOfBytes (vAt s.us.part h.val ++ bytes) = some f) ∧
    (∃ (s : State) (h : Hp) (bytes : List Byte), s.Sound ∧ s.mfConnected h.val = true ∧
      s.get (F.UF_STATUS_MF_STATE h.val) = 3 ∧ s.transportShut Transport.usb = false ∧ (∀ x ∈ (s.agent h.val).held,
      x.1 ≠ Transport.usb) ∧ vAt s.us.part h.val ++ bytes ≠ [] ∧
      (vAt s.us.part h.val ++ bytes).length < 8 + 4 * frameWords (w32 (ofBytesLE (List.take 4 (vAt s.us.part h.val ++ bytes))))) ∧
    (∃ (s : State) (h : Hp) (bytes : List Byte), s.Sound ∧ s.mfConnected h.val = true ∧
      s.get (F.UF_STATUS_MF_STATE h.val) = 3 ∧ s.transportShut Transport.usb = false ∧ (∀ x ∈ (s.agent h.val).held,
      x.1 ≠ Transport.usb) ∧ vAt s.us.part h.val ++ bytes ≠ [] ∧
      8 + 4 * frameWords (w32 (ofBytesLE (List.take 4 (vAt s.us.part h.val ++ bytes)))) < (vAt s.us.part h.val ++ bytes).length) ∧
    (∃ (s : State) (h : Hp) (a : Agent) (on : Bool), s.Sound ∧ s.TakesField a.val (A.UF_CTRL h.val) 0 1 (bit1 on) ∧
      (a.val = h.val ∨ a.val = 4) ∧ s.get (F.UF_CTRL_MF_CONNECT h.val) ≠ bit1 on) := by
  exact ⟨
    ⟨wit [(F.USB_STATUS_ATTACHED, 8)], 3, wit_sound _, by decide +kernel⟩,
    ⟨wits [(F.UF_STATUS_STATE 3, 3), (F.UF_STATUS_MF_STATE 3, 3), (F.UF_CTRL_LPM_EN 3,
      1)] (fun s => { s with us := { s.us with ep3 := vPut s.us.ep3 3 ⟨1, some (512, 0, 4000)⟩ } }), 3, 3, 3,
      wits_sound _ _ (fun _ => rfl) (fun _ => rfl), by decide +kernel⟩,
    ⟨wits [(F.UF_STATUS_STATE 3, 5), (F.UF_STATUS_MF_STATE 3, 5), (F.USB_STATUS_ATTACHED, 8), (F.UF_CTRL_MF_CONNECT 3,
      1)] (fun s => { (s.modAgent 3 (fun g => { g with ownChg := true })) with us := { s.us with wakeEn := vPut s.us.wakeEn 3 (true, false) } }),
      3, 5, 5, wits_sound _ _ (fun _ => rfl) (fun _ => rfl), by decide +kernel⟩,
    ⟨wits [(F.UF_CTRL_LPM_EN 3, 1), (F.UF_STATUS_STATE 3,
      3)] (fun s => { s with us := { s.us with ep3 := vPut s.us.ep3 3 ⟨1, some (512, 0, 4000)⟩ } }), 3, [],
      wits_sound _ _ (fun _ => rfl) (fun _ => rfl), ⟨by decide +kernel, by decide +kernel, by decide +kernel,
      by decide +kernel⟩, by decide +kernel⟩,
    ⟨wit [(F.UF_CTRL_LPM_EN 3, 0), (F.UF_STATUS_STATE 3, 3)], 3, [], wit_sound _,
      fun h => absurd h.1 (by decide +kernel), by decide +kernel⟩,
    ⟨wit [(F.USB_STATUS_ATTACHED, 8), (F.UF_CTRL_MF_CONNECT 3, 1), (F.UF_STATUS_MF_STATE 3, 3)], 3, wit_sound _,
      by decide +kernel⟩,
    ⟨wits [(F.UF_STATUS_MF_STATE 3, 3), (F.USB_STATUS_ATTACHED, 8), (F.UF_CTRL_MF_CONNECT 3,
      1)] (fun s => { s with usbQ := vPut s.usbQ 3 [⟨0, 7, 5, []⟩] }), 3, ⟨0, 7, 5, []⟩, [],
      wits_sound _ _ (fun _ => rfl) (fun _ => rfl), by decide +kernel⟩,
    ⟨wits [(F.UF_STATUS_MF_STATE 3, 3), (F.USB_STATUS_ATTACHED, 8), (F.UF_CTRL_MF_CONNECT 3,
      1)] (fun s => s.modAgent 3 (fun g => { g with held := [(.usb, mkFrame 5 7 0 0 0 [])] })), 3,
      wits_sound _ _ (fun _ => rfl) (fun _ => rfl), by decide +kernel⟩,
    ⟨wit [(F.UF_STATUS_MF_STATE 3, 3), (F.USB_STATUS_ATTACHED, 8), (F.UF_CTRL_MF_CONNECT 3, 1)], 3, [49, 7, 0, 0, 0,
      0, 0, 0], mkFrame 49 7 0 0 0 [], wit_sound _, by decide +kernel⟩,
    ⟨wit [(F.UF_STATUS_MF_STATE 3, 3), (F.USB_STATUS_ATTACHED, 8), (F.UF_CTRL_MF_CONNECT 3, 1)], 3, [1], wit_sound _,
      by decide +kernel⟩,
    ⟨wit [(F.UF_STATUS_MF_STATE 3, 3), (F.USB_STATUS_ATTACHED, 8), (F.UF_CTRL_MF_CONNECT 3, 1)], 3, [49, 7, 0, 0, 0,
      0, 0, 0, 0], wit_sound _, by decide +kernel⟩,
    ⟨wit [(F.UF_CTRL_MF_CONNECT 3, 0)], 3, 3, true, wit_sound _, field_of (by decide +kernel), by decide +kernel⟩⟩

theorem test_wit_WearMonitors :
    (∃ (s : State) (slot : ℕ), s.Sound ∧ s.choreDue 8 0 = some slot) ∧
    (∃ (s : State) (slot : ℕ), s.Sound ∧ s.choreDue 8 1 = some slot) ∧
    (∃ (s : State) (slot : ℕ), s.Sound ∧ s.choreDue 8 2 = some slot) ∧
    (∃ (s : State) (slot : ℕ), s.Sound ∧ s.choreDue 8 3 = some slot) ∧
    (∃ (s : State) (slot : ℕ), s.Sound ∧ s.choreDue 8 4 = some slot) ∧
    (∃ (s : State) (slot : ℕ), s.Sound ∧ s.choreDue 8 5 = some slot) ∧
    (∃ (s : State) (slot : ℕ), s.Sound ∧ s.choreDue 8 6 = some slot) ∧
    (∃ (s : State) (slot : ℕ), s.Sound ∧ s.choreDue 8 7 = some slot) := by
  exact ⟨
    ⟨wit [(F.CHORE_LO_W 0, 73728), (F.CHORE_HI_W 0, 0)], 0, wit_sound _, by decide +kernel⟩,
    ⟨wit [(F.CHORE_LO_W 0, 73728), (F.CHORE_HI_W 0, 65536)], 0, wit_sound _, by decide +kernel⟩,
    ⟨wit [(F.CHORE_LO_W 0, 73728), (F.CHORE_HI_W 0, 131072)], 0, wit_sound _, by decide +kernel⟩,
    ⟨wit [(F.CHORE_LO_W 0, 73728), (F.CHORE_HI_W 0, 196608)], 0, wit_sound _, by decide +kernel⟩,
    ⟨wit [(F.CHORE_LO_W 0, 73728), (F.CHORE_HI_W 0, 262144)], 0, wit_sound _, by decide +kernel⟩,
    ⟨wit [(F.CHORE_LO_W 0, 73728), (F.CHORE_HI_W 0, 327680)], 0, wit_sound _, by decide +kernel⟩,
    ⟨wit [(F.CHORE_LO_W 0, 73728), (F.CHORE_HI_W 0, 393216)], 0, wit_sound _, by decide +kernel⟩,
    ⟨wit [(F.CHORE_LO_W 0, 73728), (F.CHORE_HI_W 0, 458752)], 0, wit_sound _, by decide +kernel⟩⟩

theorem test_wit_SlotsAreProgrammedOnlyInBare :
    (∃ (s : State) (i : ℕ), s.Sound ∧ vAt s.img.otp i ≠ none) ∧
    (∃ (s : State), s.Sound ∧ (s.img.phase ≠ DevPhase.bare ∨ ∀ x, s.img.session = some x →
      s.inService x.agent = false)) ∧
    (∃ (s : State), s.Sound ∧ (s.img.phase ≠ DevPhase.bare ∨ ∀ x, s.img.session = some x →
      s.inService x.agent = false)) := by
  exact ⟨
    ⟨wits [] (fun s => s.modImg (fun i => { i with otp := vPut i.otp 3 (some 0) })), 3,
      wits_sound _ _ (fun _ => rfl) (fun _ => rfl), by decide +kernel⟩,
    ⟨wit [], wit_sound _, by decide +kernel⟩,
    ⟨wit [], wit_sound _, by decide +kernel⟩⟩

/-- The clause of ServiceMode for a right response, where the signature check passes. -/
theorem test_wit_ServiceMode_right
    (h : Config.ecdsaVerify (List.replicate 96 0) (Config.sha384 (serviceText 0 4)) (List.replicate 96 0) = true) :
    ∃ (s : State) (a : Agent) (tr : Transport) (tag : Byte) (data : List Word) (n : BitVec 384) (t : ℕ), s.Sound ∧
      s.Admits a.val tr (mkFrame 65 tag.toNat data.length 0 0 data) ∧ data.length = 48 ∧
      (s.agent a.val).nonce = some (n, t) ∧ s.tick < t + 8000 ∧ s.mayService a.val = true ∧
      ((((s.passTurn a.val).modAgent a.val fun g => { g with nonce := none }).trustedSlot ((wordsBytes data).take 96)).isSome
        && Config.ecdsaVerify ((wordsBytes data).take 96) (Config.sha384 (serviceText n a.val))
          ((wordsBytes data).drop 96)) = true := by
  refine ⟨wits [] (fun s => (s.modAgent 4 (fun g => { g with nonce := some (0, 4000) })).modImg (fun i => { i with
    otp := vPut i.otp 0 (some (Config.sha384 (List.replicate 96 0))) })), 4, .spi, 7, List.replicate 48 0, 0, 4000,
    wits_sound _ _ (fun _ => rfl) (fun _ => rfl), admits_of (by decide +kernel), by decide +kernel, by decide +kernel,
    by decide +kernel, by decide +kernel, ?_⟩
  have hk : (wordsBytes (List.replicate 48 0)).take 96 = List.replicate 96 0 := by decide +kernel
  have hd : (wordsBytes (List.replicate 48 0)).drop 96 = List.replicate 96 0 := by decide +kernel
  rw [hk, hd]
  refine Bool.and_eq_true_iff.mpr ⟨?_, h⟩
  unfold State.trustedSlot firstIx
  rw [List.find?_isSome]
  refine ⟨0, by decide, ?_⟩
  show (some (Config.sha384 (List.replicate 96 0)) == some (Config.sha384 (List.replicate 96 0)) && true) = true
  simp

/-! ### One step each, with the result worked out from the rule named -/

/-- The state that a command leads to. -/
def after (c : Instr) (s : State) : State := match exec c s with
  | .next t => t
  | _ => s

/-- R34: a step with nothing queued counts one cycle of 4 ns. -/
theorem test_idle_counts_4_ns : (match step (wit []) with
  | .next t => t.clock.time
  | _ => 0) = 500000004 := by decide +kernel

/-- R43, R59: crystals 251 ppm apart disagree, 250 ppm apart do not. -/
theorem test_xtal_251_ppm : (after (.xtalCompare (-251)) (wit [])).get F.TIME_EVT_XTAL_DISAGREE = 1 := by decide +kernel
theorem test_xtal_250_ppm : (after (.xtalCompare (-250)) (wit [])).get F.TIME_EVT_XTAL_DISAGREE = 0 := by decide +kernel

/-- R73: a counter at all ones stays there. -/
theorem test_chore_skip_saturates :
    (after (.discServo true) (wit [(F.CHORE_SKIP_COUNT, 0xFFFFFFFF), (F.CHORE_LO_W 0, 72704)])).get F.CHORE_SKIP_COUNT
      = 0xFFFFFFFF := by
  decide +kernel

/-- R539, R636: the owner host switches channel 7 on, another host does not. -/
theorem test_ef_on_by_owner :
    (after (.efCtrlOn 3 7 true) (wit [(F.OWN_k_OWNER 55, 3)])).get (F.EF_CTRL_ON 7) = 1 := by decide +kernel
theorem test_ef_on_by_another :
    (after (.efCtrlOn 2 7 true) (wit [(F.OWN_k_OWNER 55, 3)])).get (F.EF_CTRL_ON 7) = 0 := by decide +kernel

/-- R500: a DRP port that is UNATTACHED presents the other termination; an attached one does not. -/
theorem test_drp_toggles : (vAt (after (.drpToggle 3) (wit [(F.TC_CFG_w_V 3 0, 2)])).tc 3).rp = true := by decide +kernel
theorem test_attached_keeps_rd :
    (vAt (after (.drpToggle 3) (wit [(F.TC_CFG_w_V 3 0, 2), (F.TC_STATUS_STATE 3, Tc.snk)])).tc 3).rp = false := by
  decide +kernel

/-- R574: ISOLATE by an agent in service mode takes the unit out of RUNNING; without service mode nothing happens. -/
theorem test_iso_in_service : (after (.isoIsolate 4 23)
    ((wit []).modAgent 4 (fun g => { g with service := true }))).get (F.ISO_u_STATE 23) ≠ 0 := by decide +kernel
theorem test_iso_without_service : (after (.isoIsolate 4 23) (wit [])).get (F.ISO_u_STATE 23) = 0 := by decide +kernel

/-- R610: a pop takes the oldest entry of the ring. -/
theorem test_ring_pop : (vAt (after (.errRingPop 4)
    { wit [] with logs := Vector.replicate 5 ⟨[⟨1, 2, 3⟩, ⟨4, 5, 6⟩], none, 0⟩ }).logs 4).ring = [⟨4, 5, 6⟩] := by
  decide +kernel

/-- The CRC-32 of the nine digits 1 to 9 is 0xCBF4_3926. -/
theorem test_crc32 : crc32 [0x31, 0x32, 0x33, 0x34, 0x35, 0x36, 0x37, 0x38, 0x39] = 0xCBF43926 := by decide +kernel

/-- R179: 00, 01, 11, 10 drive -3, -1, +1, +3, the first bit emitted the more significant. -/
theorem test_levels_of_gear_p :
    levelsOf 3 [false, false, false, true, true, true, true, false] = [-3, -1, 1, 3] := by decide +kernel

/-- R217: from all ones the first 39 bits are 1 XOR 1; the next 19 are 0 XOR 1. -/
theorem test_scrambler_starts : (scrRun 58 scrOnes).2 = 2 ^ 58 - 2 ^ 39 := by decide +kernel

/-- R219: α^10 = α^3 + 1. -/
theorem test_field_polynomial : gfMul (2 ^ 5) (2 ^ 5) = 2 ^ 3 + 1 := by decide +kernel

/-- R222: the 127th valid header gives no lock, the 128th does; a slip at each of two invalid ones before them. -/
theorem test_block_lock : huntLock false 65 ([0, 3] ++ List.replicate 128 2) = some 1 := by decide +kernel
theorem test_no_block_lock : huntLock false 0 (List.replicate 127 2) = none := by decide +kernel

/-- R228 to R230: the blocks of a packet give it back; one payload bit changed gives a wrong CRC. -/
theorem test_packet_blocks : judgeBlks (pktBlks ⟨0x1400, [1, 2, 3, 4, 5]⟩) = (.good, ⟨0x1400, [1, 2, 3, 4, 5]⟩) := by
  decide +kernel
theorem test_packet_crc : (judgeBlks ((pktBlks ⟨0x1400, [1, 2, 3, 4, 5]⟩).map
    (fun b => if b = dataBlk 0x0504030201 then dataBlk 0x0504030200 else b))).1 = .badCrc := by decide +kernel

end Sys2Proof.Machine
end

section
/-! What the hub's reports change, and the switch of the reference (O8). -/
namespace Sys2Proof.Machine

/-! ### What a report of the hub to its agents leaves unchanged -/

/-- From `s` to `t` the hub only reported something: outside the registers, the event router, the error logs and Oasis' own
state nothing changed, of the registers none but those named, and they stay canonical. -/
structure State.ReportsOnly (s t : State) (but : List Nat) : Prop where
  wf : cellsWf 0 t.regs = true
  frame : t = { s with regs := t.regs, router := t.router, logs := t.logs, oa := t.oa }
  same : s.SameRegs t but

section
variable {s t u : State}

theorem State.ReportsOnly.trans {l m : List Nat} (a : s.ReportsOnly t l) (b : t.ReportsOnly u m) :
    s.ReportsOnly u (l ++ m) where
  wf := b.wf
  frame := b.frame.trans (by rw [a.frame])
  same g hg := by
    rw [List.mem_append, not_or] at hg
    exact (b.same g hg.2).trans (a.same g hg.1)

theorem State.ReportsOnly.mono {l m : List Nat} (a : s.ReportsOnly t l) (h : ∀ x ∈ l, x ∈ m) : s.ReportsOnly t m :=
  ⟨a.wf, a.frame, fun g hg => a.same g (fun hl => hg (h _ hl))⟩

theorem State.put_reports (f : FRef) (v : Nat) (h : cellsWf 0 s.regs = true) : s.ReportsOnly (s.put f v) [f.addr] where
  wf := State.put_wf f v h
  frame := rfl
  same g hg := State.get_put_ne f g v h (List.ne_of_not_mem_cons hg)

theorem State.raise_frame (s : State) (n : Nat) (f : FRef) :
    s.raise n f = { s with regs := (s.raise n f).regs, router := (s.raise n f).router } := by
  unfold State.raise State.watching
  dsimp only
  split <;> rfl

theorem State.raise_reports (n : Nat) (f : FRef) (h : cellsWf 0 s.regs = true) :
    s.ReportsOnly (s.raise n f) [f.addr, A.EVT_RISE_s n] where
  wf := State.raise_wf n f h
  frame := by
    conv_lhs => rw [State.raise_frame]
    simp only [State.raise_logs, State.raise_oa]
  same g hg := by
    simp only [List.mem_cons, List.not_mem_nil, or_false, not_or] at hg
    exact State.get_raise_ne n f g h hg.1 hg.2

theorem State.logTo_frame (s : State) (a cls result cause unit agent detail : Nat) :
    ∃ r k l, s.logTo a cls result cause unit agent detail = { s with regs := r, router := k, logs := l } := by
  unfold State.logTo
  dsimp only
  split
  · exact ⟨_, _, _, State.raise_frame _ _ _⟩
  · exact ⟨_, _, _, rfl⟩

theorem State.logHw_frame (s : State) (owner cls result cause unit detail : Nat) :
    ∃ r k l, s.logHw owner cls result cause unit detail = { s with regs := r, router := k, logs := l } := by
  unfold State.logHw
  split
  · exact ⟨_, _, _, rfl⟩
  · refine foldl_inv (fun t : State => ∃ r k l, t = { s with regs := r, router := k, logs := l }) _ ?_ _ _ ⟨_, _, _, rfl⟩
    rintro t a ⟨r, k, l, rfl⟩
    split
    · obtain ⟨r', k', l', e⟩ := State.logTo_frame { s with regs := r, router := k, logs := l } a cls result cause unit 7 detail
      exact ⟨r', k', l', e⟩
    · exact ⟨r, k, l, rfl⟩

theorem State.logHw_reports (owner cls result cause unit detail : Nat) (h : cellsWf 0 s.regs = true) :
    s.ReportsOnly (s.logHw owner cls result cause unit detail) [A.OA_EVT, A.EVT_RISE_s 1] where
  wf := State.logHw_wf _ _ _ _ _ _ h
  frame := by
    obtain ⟨r, k, l, e⟩ := State.logHw_frame s owner cls result cause unit detail
    rw [e]
  same g hg := by
    simp only [List.mem_cons, List.not_mem_nil, or_false, not_or] at hg
    exact State.get_logHw_ne _ _ _ _ _ _ g h hg.1 hg.2

theorem State.notice_reports (n inst : Nat) (h : cellsWf 0 s.regs = true) :
    s.ReportsOnly (s.notice n inst) [A.OA_NOTICE, A.OA_NOTICE_DETAIL_n n, A.OA_EVT, A.EVT_RISE_s 0] where
  wf := State.notice_wf _ _ h
  frame := by
    unfold State.notice
    dsimp only
    conv_lhs => rw [State.raise_frame]
    simp only [State.raise_logs, State.raise_oa]
    rfl
  same g hg := by
    simp only [List.mem_cons, List.not_mem_nil, or_false, not_or] at hg
    obtain ⟨h1, h2, h3, h4⟩ := hg
    exact State.get_notice_ne n inst g h h1 h2 h3 h4

/-- A spare's report, by the entry and by source 2. -/
theorem State.spareTookOver_reports (owner unit detail : Nat) (h : cellsWf 0 s.regs = true) :
    s.ReportsOnly (s.spareTookOver owner unit detail) [A.OA_EVT, A.EVT_RISE_s 1, A.OA_EVT, A.EVT_RISE_s 2] :=
  have a := State.logHw_reports owner 1 0 0x14 unit detail h
  a.trans (State.raise_reports 2 ⟨A.OA_EVT, 2, 1⟩ a.wf)

/-- A spare's report leaves the other bits of OA_EVT as they were. -/
theorem State.get_spareTookOver_evt (owner unit detail : Nat) (g : FRef) (h : cellsWf 0 s.regs = true)
    (he : g.addr = A.OA_EVT) (hd : 3 ≤ g.lsb) : (s.spareTookOver owner unit detail).get g = s.get g := by
  unfold State.spareTookOver
  rw [State.get_raise_disj 2 ⟨A.OA_EVT, 2, 1⟩ g (State.logHw_wf _ _ _ _ _ _ h) (by decide) he (.inr hd) (by rw [he]; decide),
    State.get_logHw_evt _ _ _ _ _ _ g h he (.inr (by omega))]

end

/-! ### The switch of the reference -/

/-- Source 4, the spare's report and notice XTAL_SWITCH of a switch to XTAL_B (R607, R617, R639). -/
def State.switchReport (s : State) : State := ((s.raise 4 ⟨A.OA_EVT, 4, 1⟩).spareTookOver 7 38 0).notice 4 0

theorem State.refSwitch_of_xtalA {s : State} (h : s.get F.REF_STATUS_ACTIVE = 0) :
    s.refSwitch
      = (((s.put F.REF_CTRL_SEL 1).put F.REF_STATUS_ACTIVE 1).put F.SYS_STATE_REF_SPARE 1).switchReport := by
  unfold State.refSwitch
  rw [if_neg (by simp [State.flag, h])]
  rfl

theorem State.refSwitch_of_xtalB {s : State} (h : s.get F.REF_STATUS_ACTIVE = 1) : s.refSwitch = s := by
  unfold State.refSwitch
  rw [if_pos (by simp [State.flag, h])]

theorem State.switchReport_reports {s : State} (h : cellsWf 0 s.regs = true) :
    s.ReportsOnly s.switchReport [A.OA_EVT, A.OA_NOTICE, A.OA_NOTICE_DETAIL_n 4, A.EVT_RISE_s 0, A.EVT_RISE_s 1,
      A.EVT_RISE_s 2, A.EVT_RISE_s 4] :=
  have a := State.raise_reports 4 ⟨A.OA_EVT, 4, 1⟩ h
  have b := a.trans (State.spareTookOver_reports 7 38 0 a.wf)
  (b.trans (State.notice_reports 4 0 b.wf)).mono (by decide)

theorem State.switchReport_evt {s : State} (h : cellsWf 0 s.regs = true) : s.switchReport.get ⟨A.OA_EVT, 4, 1⟩ = 1 := by
  have a := State.raise_reports 4 ⟨A.OA_EVT, 4, 1⟩ h
  have b := State.spareTookOver_reports 7 38 0 a.wf
  unfold State.switchReport
  rw [State.get_notice_evt 4 0 _ b.wf rfl (by decide) (by decide), State.get_spareTookOver_evt 7 38 0 _ a.wf rfl (by decide),
    State.get_raise_same 4 _ h (by decide) (by decide)]
  rfl

/-- The registers that a switch to XTAL_B changes, its cause in REF_STATUS included. -/
def switchRegs : List Nat :=
  [A.REF_STATUS, A.REF_CTRL, A.SYS_STATE, A.OA_EVT, A.OA_NOTICE, A.OA_NOTICE_DETAIL_n 4, A.EVT_RISE_s 0, A.EVT_RISE_s 1,
    A.EVT_RISE_s 2, A.EVT_RISE_s 4]

/-- What a switch to XTAL_B leaves, from a state whose registers are canonical: REF runs from XTAL_B, the switch is reported, and
the rest of REF_STATUS stays. -/
structure State.SwitchedToB (s t : State) : Prop where
  active : t.get F.REF_STATUS_ACTIVE = 1
  sel : t.get F.REF_CTRL_SEL = 1
  spare : t.get F.SYS_STATE_REF_SPARE = 1
  evt : t.get ⟨A.OA_EVT, 4, 1⟩ = 1
  status : ∀ g : FRef, g.addr = A.REF_STATUS →
    (g.lsb + g.width ≤ F.REF_STATUS_ACTIVE.lsb ∨ F.REF_STATUS_ACTIVE.lsb + F.REF_STATUS_ACTIVE.width ≤ g.lsb) → t.get g = s.get g
  reports : s.ReportsOnly t switchRegs

theorem State.refSwitch_switches {s : State} (h : cellsWf 0 s.regs = true) (ha : s.get F.REF_STATUS_ACTIVE = 0) :
    s.SwitchedToB s.refSwitch := by
  have r1 := State.put_reports F.REF_CTRL_SEL 1 h
  have r2 := State.put_reports F.REF_STATUS_ACTIVE 1 r1.wf
  have r3 := State.put_reports F.SYS_STATE_REF_SPARE 1 r2.wf
  have r4 := State.switchReport_reports r3.wf
  rw [State.refSwitch_of_xtalA ha]
  refine ⟨?_, ?_, ?_, State.switchReport_evt r3.wf, fun g hg hd => ?_, (((r1.trans r2).trans r3).trans r4).mono (by decide)⟩
  · rw [r4.same _ (by decide), r3.same _ (by decide), State.get_put_same _ _ r1.wf (by decide)]
    rfl
  · rw [r4.same _ (by decide), r3.same _ (by decide), r2.same _ (by decide), State.get_put_same _ _ h (by decide)]
    rfl
  · rw [r4.same _ (by decide), State.get_put_same _ _ r2.wf (by decide)]
    rfl
  · rw [r4.same _ (by rw [hg]; decide), r3.same _ (by rw [hg]; decide), State.get_put_disj _ _ _ r1.wf (by decide) hg hd,
      r1.same _ (by rw [hg]; decide)]

/-! A field of REF_STATUS beside ACTIVE, cleared as the switch's cause. -/

section
variable {s : State} (f : FRef) (h : cellsWf 0 s.regs = true) (hf : f.addr = A.REF_STATUS) (hw : f.lsb + f.width ≤ 32)
  (hd : f.lsb + f.width ≤ F.REF_STATUS_ACTIVE.lsb ∨ F.REF_STATUS_ACTIVE.lsb + F.REF_STATUS_ACTIVE.width ≤ f.lsb)
include h hf hw hd

theorem State.active_put_cause : (s.put f 0).get F.REF_STATUS_ACTIVE = s.get F.REF_STATUS_ACTIVE :=
  State.get_put_disj f _ 0 h hw hf.symm hd.symm

/-- With XTAL_A in use the switch follows its cause. -/
theorem State.refSwitch_put_cause (ha : s.get F.REF_STATUS_ACTIVE = 0) :
    (s.put f 0).SwitchedToB (s.put f 0).refSwitch ∧ (s.put f 0).refSwitch.get f = 0
      ∧ s.ReportsOnly (s.put f 0).refSwitch switchRegs := by
  have r := State.put_reports f 0 h
  have w := State.refSwitch_switches r.wf ((State.active_put_cause f h hf hw hd).trans ha)
  refine ⟨w, ?_, (r.trans w.reports).mono ?_⟩
  · rw [w.status f hf hd, State.get_put_same f 0 h hw, Nat.zero_mod]
  · rw [hf]
    decide

/-- With XTAL_B in use there is nothing to switch to (log entry 108). -/
theorem State.refSwitch_put_cause_of_xtalB (hb : s.get F.REF_STATUS_ACTIVE = 1) : (s.put f 0).refSwitch = s.put f 0 :=
  State.refSwitch_of_xtalB ((State.active_put_cause f h hf hw hd).trans hb)

end

/-- Settles O8: either cause leaves ACTIVE as it was, so that XTAL_A in use switches and XTAL_B in use stays. -/
theorem referenceSwitches : Obligations.ReferenceSwitches := by
  intro s hs
  refine ⟨fun ha => ?_, fun ha => ?_, fun hb => ⟨congrArg Host.Outcome.next ?_, congrArg Host.Outcome.next ?_⟩⟩
  · obtain ⟨w, hf, r⟩ := State.refSwitch_put_cause F.REF_STATUS_PLL_LOCK hs.regs rfl (by decide) (by decide) ha
    exact ⟨_, rfl, w.active, w.sel, hf, w.spare, w.evt, r.frame, r.same⟩
  · obtain ⟨w, hf, r⟩ := State.refSwitch_put_cause F.REF_STATUS_XTAL_A_OK hs.regs rfl (by decide) (by decide) ha
    exact ⟨_, rfl, w.active, w.sel, hf, w.spare, w.evt, r.frame, r.same⟩
  · exact State.refSwitch_put_cause_of_xtalB F.REF_STATUS_PLL_LOCK hs.regs rfl (by decide) (by decide) hb
  · exact State.refSwitch_put_cause_of_xtalB F.REF_STATUS_XTAL_A_OK hs.regs rfl (by decide) (by decide) hb

end Sys2Proof.Machine
end

section
/-! TIME between boundaries and the boundary itself (O2, O10). -/
namespace Sys2Proof.Machine

/-! ### TIME between boundaries -/

section
variable {s : State}

/-- TIME that does not count stays. -/
theorem State.advanceTo_of_not_counting (t : Nat) (h : s.counting = false) : s.advanceTo t = s := by
  unfold State.advanceTo
  simp [h]

/-- TIME that counts moves on to a multiple of 4 ahead that is not past the next boundary. -/
theorem State.advanceTo_ahead (t : Nat) (hc : s.counting = true) (h4 : t % 4 = 0) (hl : s.clock.time < t)
    (hb : t ≤ s.nextBoundary) : s.advanceTo t = s.modClock (fun c => { c with time := t }) := by
  have ht : min ((t + 3) / 4 * 4) s.nextBoundary = t := by
    have : (t + 3) / 4 * 4 = t := by omega
    rw [this]
    exact min_eq_left hb
  unfold State.advanceTo
  dsimp only
  rw [ht, if_pos (by simp [hc, hl])]

/-- TIME that stands at the next boundary waits for its steps. -/
theorem State.advanceTo_at_boundary (t : Nat) (h : s.clock.time = s.nextBoundary) : s.advanceTo t = s := by
  unfold State.advanceTo
  dsimp only
  rw [if_neg]
  simp only [Bool.and_eq_true, decide_eq_true_eq, not_and, not_lt]
  intro _
  rw [h]
  exact min_le_right _ _

/-- TIME that counts reaches an instant before the next boundary. -/
theorem State.le_advanceTo_time (t : Nat) (hc : s.counting = true) (hb : t ≤ s.nextBoundary) :
    t ≤ (s.advanceTo t).clock.time := by
  have ht : t ≤ min ((t + 3) / 4 * 4) s.nextBoundary := le_min (by omega) hb
  unfold State.advanceTo
  dsimp only
  split
  · exact ht
  · rename_i h
    simp only [hc, Bool.true_and, decide_eq_true_eq, not_lt] at h
    exact ht.trans h

theorem State.nextBoundary_mod (s : State) : s.nextBoundary % 4 = 0 := by
  unfold State.nextBoundary
  omega

/-- Settles O2: the three cases of a cycle with nothing queued, by what TIME can do in it. -/
theorem emptyQueueCountsOneCycle : Obligations.EmptyQueueCountsOneCycle := by
  intro s hs hq
  have hstep : step s = .next s.idle := by
    unfold step
    rw [hq]
  rw [hstep]
  have h4 := hs.time
  refine ⟨fun hc => congrArg _ ?_, fun hc hl => congrArg _ ?_, fun hc he => congrArg _ ?_⟩
  · unfold State.idle
    rw [if_neg (by simp [hc]), State.advanceTo_of_not_counting _ hc]
  · have hn := s.nextBoundary_mod
    unfold State.idle
    rw [if_neg (by simp [hl.ne]), State.advanceTo_ahead _ hc (by omega) (by omega) (by omega)]
    rfl
  · unfold State.idle
    rw [if_pos (by simp [hc, he])]

/-! ### The boundary (R31) -/

/-- Without a launch or a second edge waiting, nothing fires. -/
theorem State.fireUpTo_of_none_waiting (t : Nat) (hq : s.sr.queue = []) (h2 : s.sr.seconds = []) : s.fireUpTo t = s := by
  unfold State.fireUpTo State.firings
  rw [hq, h2]
  rfl

/-- Delayed edges that drive their lines leave TIME as it is. -/
@[simp] theorem State.settleLines_clock (s : State) : s.settleLines.clock = s.clock := by
  unfold State.settleLines
  dsimp only
  refine foldl_inv (fun t : State => t.clock = s.clock) _ (fun t e ht => ?_) _ _ rfl
  exact ht

theorem State.advanceTo_nextBoundary_time (hc : s.counting = true) (hl : s.clock.time ≤ s.nextBoundary) :
    (s.advanceTo s.nextBoundary).clock.time = s.nextBoundary := by
  rcases hl.eq_or_lt with he | hl
  · rw [State.advanceTo_at_boundary _ he, he]
  · rw [State.advanceTo_ahead _ hc s.nextBoundary_mod hl le_rfl]
    rfl

/-- TIME is the next boundary once it has reached it, and the boundary after that is the next. -/
theorem State.reachBoundary_clock (hc : s.counting = true) (hl : s.clock.time ≤ s.nextBoundary) (hq : s.sr.queue = [])
    (h2 : s.sr.seconds = []) :
    s.reachBoundary.clock.time = s.nextBoundary ∧ s.reachBoundary.clock.bound = s.nextBoundary / 125000 := by
  have hf : (s.iff s.awake fun t => t.fireUpTo s.nextBoundary) = s := by
    simp [State.iff, State.fireUpTo_of_none_waiting _ hq h2]
  unfold State.reachBoundary
  dsimp only
  rw [hf]
  simp only [State.modClock, State.settleLines_clock, State.advanceTo_nextBoundary_time hc hl, and_self]

theorem State.passBoundary_of_awake (hc : s.counting = true) (ha : s.awake = true) :
    s.passBoundary = s.reachBoundary.boundary := by
  simp [State.passBoundary, State.iff, hc, ha]

/-- In SLEEP a boundary passes without its steps (R581). -/
theorem State.passBoundary_of_asleep (hc : s.counting = true) (ha : s.awake = false) : s.passBoundary = s.reachBoundary := by
  simp [State.passBoundary, State.iff, hc, ha]

theorem exec_tickBoundary (m : List EfMeas) (s : State) :
    exec (.tickBoundary m) s = .next (s.passBoundary.pda (fun s => s.hamadaTick m)) := rfl

theorem exec_wheelSlot_of_awake (n : Fin 1000) (ha : s.awake = true) :
    exec (.wheelSlot n) s = .next (s.advanceTo (s.tick * 125000 + n.val * 125)).wheelDue :=
  if_pos ha

end

/-- Settles O10: the steps of the boundary in the order of State.boundary, the boundary in SLEEP, TIME at the boundary, and TIME at
a slot, which lies before the next boundary. -/
theorem boundaryOrder : Obligations.BoundaryOrder := by
  refine ⟨fun m s hc ha => ?_, fun m s hc ha hp => ?_, fun s hc hl hq h2 => ?_, fun n s ha hc ht => ?_⟩
  · intro b r
    have hr : b.ownStep = r := rfl
    clear_value r
    obtain ⟨changes, u⟩ := r
    intro s1 s2 s3 s4 s5 s6 s7 s8
    have h3 : b.boundaryCommits = s3 := by
      unfold State.boundaryCommits
      generalize b.ownStep = x at hr ⊢
      subst hr
      rfl
    have h8 : s.reachBoundary.boundary = s8 := by
      unfold State.boundary
      rw [h3]
    rw [exec_tickBoundary, State.passBoundary_of_awake hc ha, h8]
    rfl
  · rw [exec_tickBoundary, State.passBoundary_of_asleep hc ha, State.pda, if_neg hp]
  · obtain ⟨ht, hb⟩ := State.reachBoundary_clock hc hl hq h2
    refine ⟨ht, hb.trans ?_⟩
    rw [State.nextBoundary, Nat.mul_div_cancel _ (by decide)]
  · have hn := n.isLt
    refine ⟨exec_wheelSlot_of_awake n ha, State.le_advanceTo_time _ hc ?_⟩
    unfold State.nextBoundary
    omega

end Sys2Proof.Machine
end

section
/-! The die bridge, and the class of a source (O23). -/
namespace Sys2Proof.Machine

/-! ### The die bridge (R12) -/

/-- The third failure in a row of a word in direction `dir` is noted. -/
def State.thirdFailure (s : State) (dir : Nat) : State :=
  { s with oa := { s.oa with bridge := vPut s.oa.bridge dir 3, bridgeAt := some s.tick } }

/-- The report of a bridge that is marked degraded: source 3, the entry and notice 5 (R12, R617, R622). -/
def State.bridgeReport (s : State) (dir : Nat) : State :=
  ((s.raise 3 ⟨A.OA_EVT, 3, 1⟩).logHw 7 2 0 0x18 39 dir).notice 5 dir

section
variable {s : State}

theorem State.thirdFailure_reports (dir : Nat) (h : cellsWf 0 s.regs = true) : s.ReportsOnly (s.thirdFailure dir) [] :=
  ⟨h, rfl, fun _ _ => rfl⟩

theorem State.bridgeReport_reports (dir : Nat) (h : cellsWf 0 s.regs = true) :
    s.ReportsOnly (s.bridgeReport dir) [A.OA_EVT, A.OA_NOTICE, A.OA_NOTICE_DETAIL_n 5, A.EVT_RISE_s 0, A.EVT_RISE_s 1,
      A.EVT_RISE_s 3] :=
  have a := State.raise_reports 3 ⟨A.OA_EVT, 3, 1⟩ h
  have b := a.trans (State.logHw_reports 7 2 0 0x18 39 dir a.wf)
  (b.trans (State.notice_reports 5 dir b.wf)).mono (by decide)

theorem State.bridgeReport_evt (dir : Nat) (h : cellsWf 0 s.regs = true) :
    (s.bridgeReport dir).get ⟨A.OA_EVT, 3, 1⟩ = 1 := by
  have a := State.raise_reports 3 ⟨A.OA_EVT, 3, 1⟩ h
  have b := State.logHw_reports 7 2 0 0x18 39 dir a.wf
  unfold State.bridgeReport
  rw [State.get_notice_evt 5 dir _ b.wf rfl (by decide) (by decide),
    State.get_logHw_evt _ _ _ _ _ _ _ a.wf rfl (.inr (by decide)), State.get_raise_same 3 _ h (by decide) (by decide)]
  rfl

/-- A word that fails for the third time in a row marks the bridge degraded and reports it. -/
theorem exec_dieBridgeWordFail_third (dir : Fin 2) (h : vAt s.oa.bridge dir = 2) :
    exec (.dieBridgeWordFail dir true) s
      = .next (((s.thirdFailure dir).put F.SYS_STATE_BRIDGE_DEGRADED 1).bridgeReport dir) := by
  show execDieBridgeWordFail dir true s = _
  unfold execDieBridgeWordFail
  simp only [h]
  rfl

end

/-! ### The class of a source (R160) -/

theorem wregAt_fevtClass : ∀ n : Fin 8, wregAt (0x300A0 + 4 * n) = some (.fevtClass n) := by
  decide +kernel

section
variable {s : State}

/-- A word for FEVT_CLASS_n writes all of it, or nothing where it is what the register holds. -/
theorem State.written_fevtClass (s : State) (a n : Nat) (v : Word) :
    s.written a (.fevtClass n) v.toNat
      = if v.toNat = s.get (F.FEVT_CLASS_n_FAST a n) then [] else [⟨F.FEVT_CLASS_n_FAST a n, .rw, .live, v.toNat⟩] := by
  have hv : bitsOf v.toNat 0 32 = v.toNat := by
    simp [bitsOf, Nat.mod_eq_of_lt v.isLt]
  unfold State.written WReg.fields
  simp only [List.filterMap_cons, List.filterMap_nil, WReg.word, hv]
  split <;> simp_all [WReg.fref, WReg.key, F.FEVT_CLASS_n_FAST]

/-- Any agent may write its own FEVT_CLASS_n, with any value and at any time (R160). -/
theorem State.wordJudge_fevtClass (s : State) (a n v x : Nat) :
    s.wordJudge a (.fevtClass n) v [⟨F.FEVT_CLASS_n_FAST a n, .rw, .live, x⟩] = R.ok := by
  simp [State.wordJudge, State.mayField, State.mayWrite, valueOk, State.wordDenied, State.wordBusy]

/-- FEVT_CLASS_n takes a LIVE value, and nothing follows from it. -/
theorem State.wordEffect_fevtClass (s : State) (a n x : Nat) :
    s.wordEffect a (.fevtClass n) [⟨F.FEVT_CLASS_n_FAST a n, .rw, .live, x⟩]
      = (R.ok, s.put (F.FEVT_CLASS_n_FAST a n) x) := rfl

theorem State.writeWord_fevtClass (s : State) (a n addr : Nat) (v : Word) (hr : wregAt addr = some (.fevtClass n)) :
    (s.writeWord a addr v.toNat).2
      = if v.toNat = s.get (F.FEVT_CLASS_n_FAST a n) then s else s.put (F.FEVT_CLASS_n_FAST a n) v.toNat := by
  unfold State.writeWord
  rw [hr]
  dsimp only
  rw [State.written_fevtClass]
  split
  · rfl
  · rw [State.wordJudge_fevtClass]
    rfl

/-- What a word for FEVT_CLASS_n leaves: the word in the register, and nothing else changed. -/
theorem State.writeWord_fevtClass_spec (s : State) (a n addr : Nat) (v : Word) (hr : wregAt addr = some (.fevtClass n))
    (h : cellsWf 0 s.regs = true) :
    (s.writeWord a addr v.toNat).2.get (F.FEVT_CLASS_n_FAST a n) = v.toNat
      ∧ (s.writeWord a addr v.toNat).2 = { s with regs := (s.writeWord a addr v.toNat).2.regs }
      ∧ s.SameRegs (s.writeWord a addr v.toNat).2 [A.FEVT_CLASS_n a n] := by
  rw [State.writeWord_fevtClass s a n addr v hr]
  split
  · rename_i hv
    exact ⟨hv.symm, rfl, fun _ _ => rfl⟩
  · refine ⟨?_, rfl, (State.put_reports _ _ h).same⟩
    rw [State.get_put_same (F.FEVT_CLASS_n_FAST a n) _ h (Nat.le_refl 32)]
    exact Nat.mod_eq_of_lt v.isLt

end

/-- Settles O23: of the bridge's three failures the third reports, and a storm's auto-mask and window and a source's class change what
R160 and R165 name. -/
theorem bridgeAndStorms : Obligations.BridgeAndStorms := by
  intro s hs
  refine ⟨fun dir hd => ?_, fun dir => rfl, fun src hsrc => congrArg _ (if_pos hsrc), fun ht hw => congrArg _ (if_pos ?_),
    fun a n v htake => ?_⟩
  · have r0 := State.thirdFailure_reports dir hs.regs
    have r1 := State.put_reports F.SYS_STATE_BRIDGE_DEGRADED 1 r0.wf
    have r2 := State.bridgeReport_reports dir r1.wf
    have r := ((r0.trans r1).trans r2).mono (m := [A.SYS_STATE, A.OA_EVT, A.OA_NOTICE, A.OA_NOTICE_DETAIL_n 5, A.EVT_RISE_s 0,
      A.EVT_RISE_s 1, A.EVT_RISE_s 2, A.EVT_RISE_s 3]) (by decide)
    refine ⟨_, exec_dieBridgeWordFail_third dir hd, ?_, State.bridgeReport_evt dir r1.wf, r.frame, r.same⟩
    rw [r2.same _ (by decide), State.get_put_same _ _ r0.wf (by decide)]
    rfl
  · simp [ht, hw]
  · have ha : 0x300A0 + 4 * n.val < 2 ^ 31 := by omega
    have hexec : exec (.fevtClassWrite a n v) s = .next (s.writeWord a (0x300A0 + 4 * n) v.toNat).2 :=
      congrArg Host.Outcome.next (State.wordsArrive_one s a _ v htake ha)
    exact ⟨_, hexec, State.writeWord_fevtClass_spec s a n _ v (wregAt_fevtClass n) hs.regs⟩

end Sys2Proof.Machine
end

section
/-! HEARTBEAT, ownership commands and power requests (O20). -/
namespace Sys2Proof.Machine

/-! ### Replies to frames that commands make -/

section
variable {s : State} {a : Nat} {tr : Transport} {tag : Byte} {op len flags addr : Nat} {ws : List Word}

/-- The answer to a frame that a command makes with ADDRESS outside the field window. -/
theorem State.answer_mkFrame (res : Nat) (data : List Word) (ho : op < 256) (ha : addr < 0x40000000) :
    s.answer a tr (mkFrame op tag.toNat len flags addr ws) res data = s.reply a tr tag.toNat op res data := by
  have hw : (mkFrame op tag.toNat len flags addr ws).w1.toNat = addr := by
    unfold mkFrame w32
    rw [BitVec.toNat_ofNat]
    omega
  have hb : fieldIx addr = 31 := by
    simp [fieldIx, inField, ha]
  unfold State.answer
  rw [frameTag_mk, frameOp_mk _ _ _ _ _ _ ho, hw, hb]

end

section
variable {s : State}

/-! ### HEARTBEAT (R143) -/

/-- HEARTBEAT of a host that is not supervised and whose link is up arms its supervision. -/
theorem State.heartbeatBody_arms (h : Hp) (tr : Transport) (tag : Byte) (hl : s.linkUp h = true)
    (ha : s.get (F.MGMT_HB_h_ARMED h) = 0) :
    s.heartbeatBody h tr (mkFrame 5 tag.toNat 0 0 0 [])
      = (((s.modAgent h (fun g => { g with hbSeen := true })).put (F.MGMT_HB_h_ARMED h) 1).modAgent h
          (fun g => { g with misses := 0 })).reply h tr tag.toNat 5 R.ok [w32 s.tick] := by
  have hh : ¬ 4 ≤ h.val := by omega
  have hflag : (s.modAgent h (fun g => { g with hbSeen := true })).flag (F.MGMT_HB_h_ARMED h) = false := by
    simp [State.flag, ha]
  have hup : (s.modAgent h (fun g => { g with hbSeen := true })).linkUp h = true := hl
  unfold State.heartbeatBody
  rw [State.answer_mkFrame _ _ (by decide) (by decide), if_neg hh, framePayload_mk, if_neg (by decide)]
  dsimp only
  rw [hflag, hup]
  rfl

/-- HEARTBEAT with DISARM ends a host's supervision. -/
theorem State.heartbeatBody_disarms (h : Hp) (tr : Transport) (tag : Byte) :
    s.heartbeatBody h tr (mkFrame 5 tag.toNat 1 0 0 [1])
      = ((s.put (F.MGMT_HB_h_ARMED h) 0).modAgent h (fun g => { g with misses := 0 })).reply h tr tag.toNat 5 R.ok
          [w32 s.tick] := by
  have hh : ¬ 4 ≤ h.val := by omega
  unfold State.heartbeatBody
  rw [State.answer_mkFrame _ _ (by decide) (by decide), if_neg hh, framePayload_mk, if_pos (by decide)]
  rfl

/-! ### CLAIM, RELEASE, HANDOVER (R131 to R133) -/

/-- An ownership command that is recorded with RESULT `res`, before it marks any resource. -/
def State.ownRecorded (s : State) (a : Nat) (tr : Transport) (tag op : Nat) (data : List Word) (res : Nat) : State :=
  (s.openNp a tr tag op 0 0).modOwn (fun o => { o with reqs := o.reqs ++ [⟨a, tr, tag, op, maskOfWords data, res, true, false⟩] })

/-- The resources of a list are marked PENDING. -/
def State.markPending (s : State) (l : List Nat) : State := s.each l (fun s k => s.put (F.OWN_k_PENDING k) 1)

/-- The RESULT that an ownership command is recorded with. -/
def State.ownVerdict (s : State) (a op : Nat) (data : List Word) : Nat :=
  if op = 0x20 && a = 4 then R.denied else judgeMask (maskOfWords data) (s.ownJudge a op)

theorem State.ownVerdict_claim (s : State) (a : Nat) (data : List Word) :
    s.ownVerdict a 0x20 data = if a = 4 then R.denied else judgeMask (maskOfWords data) (s.claimJudge a) := by
  have hj : s.ownJudge a 0x20 = s.claimJudge a := rfl
  simp [State.ownVerdict, hj]

theorem State.ownVerdict_of_not_claim (s : State) (a op : Nat) (data : List Word) (h : op ≠ 0x20) :
    s.ownVerdict a op data = judgeMask (maskOfWords data) (s.ownJudge a op) := by
  simp [State.ownVerdict, h]

/-- A CLAIM is to change what its agent does not own. -/
theorem State.ownMoves_claim (s : State) (a mask : Nat) :
    s.ownMoves a 0x20 mask = (maskList mask).filter (fun k => !s.owns a k) := by
  simp [State.ownMoves]

/-- A RELEASE or HANDOVER is to change all that it names. -/
theorem State.ownMoves_of_not_claim (s : State) (a op mask : Nat) (h : op ≠ 0x20) : s.ownMoves a op mask = maskList mask := by
  simp [State.ownMoves, h]

section
variable (a : Nat) (tr : Transport) (tag : Byte) (data : List Word)

/-- An ownership command is recorded with its verdict, and one that is not refused marks what it is to change. -/
theorem State.ownBody_mkFrame (op : Nat) (ho : op < 256) :
    s.ownBody a tr (mkFrame op tag.toNat data.length 0 0 data)
      = (let t := s.ownRecorded a tr tag.toNat op data (s.ownVerdict a op data)
         if s.ownVerdict a op data = R.ok then t.markPending (t.ownMoves a op (maskOfWords data)) else t) := by
  unfold State.ownBody State.recordOwn
  rw [frameTag_mk, frameOp_mk _ _ _ _ _ _ ho, framePayload_mk]
  rfl

theorem State.ownBody_claim :
    s.ownBody a tr (mkFrame 0x20 tag.toNat data.length 0 0 data)
      = (let res := if a = 4 then R.denied else judgeMask (maskOfWords data) (s.claimJudge a)
         let t := s.ownRecorded a tr tag.toNat 0x20 data res
         if res = R.ok then t.markPending ((maskList (maskOfWords data)).filter (fun k => !t.owns a k)) else t) := by
  rw [State.ownBody_mkFrame a tr tag data 0x20 (by decide)]
  dsimp only
  rw [State.ownVerdict_claim, State.ownMoves_claim]

theorem State.ownBody_of_not_claim (op : Nat) (ho : op < 256) (hc : op ≠ 0x20) :
    s.ownBody a tr (mkFrame op tag.toNat data.length 0 0 data)
      = (let res := judgeMask (maskOfWords data) (s.ownJudge a op)
         let t := s.ownRecorded a tr tag.toNat op data res
         if res = R.ok then t.markPending (maskList (maskOfWords data)) else t) := by
  rw [State.ownBody_mkFrame a tr tag data op ho]
  dsimp only
  rw [State.ownVerdict_of_not_claim _ _ _ _ hc, State.ownMoves_of_not_claim _ _ _ _ hc]

end

/-! ### POWER_ENTER, POWER_QUERY (R582, R592) -/

section
variable (a : Nat) (tr : Transport) (tag : Byte) (target : Word)

/-- The request for a state of 2 to 4 stays open. -/
def State.powerAsked (s : State) (a : Nat) (tr : Transport) (tag target : Nat) : State :=
  { s.openNp a tr tag 0x30 target 0 with pwr := some ⟨a, tag, target, none⟩ }

/-- The request for a state of 2 to 4 stays open and pends. -/
def State.powerPends (s : State) (a : Nat) (tr : Transport) (tag target : Nat) : State :=
  ((s.powerAsked a tr tag target).put F.PWR_STATE_PEND 1).put F.PWR_STATE_TARGET target

section
variable (hag : bitAt s.enterAgents a = true) (hal : bitAt s.allow (target.toNat - 1) = true)
  (hv : s.veto target.toNat s.pwr.isSome = none)
include hag hal hv

/-- A state of 2 to 4 that the agent may enter and nothing vetoes pends. -/
theorem State.powerEnter_pends (h2 : 2 ≤ target.toNat) (h4 : target.toNat ≤ 4) :
    s.powerEnter a tr (mkFrame 0x30 tag.toNat 0 0 target.toNat []) = s.powerPends a tr tag.toNat target.toNat := by
  have h0 : ¬ target.toNat = 0 := by omega
  have h1 : ¬ target.toNat = 1 := by omega
  have h5 : ¬ 4 < target.toNat := by omega
  unfold State.powerEnter
  dsimp only
  rw [frameAddr_mk, frameTag_mk, frameOp_mk _ _ _ _ _ _ (by decide), hag, hal, if_neg (by simp [h5]), if_neg h0, hv]
  dsimp only
  rw [if_neg h1]
  rfl

/-- IDLE, where the agent may enter it and nothing vetoes it, is entered at once. -/
theorem State.powerEnter_idle (h1 : target = 1) :
    s.powerEnter a tr (mkFrame 0x30 tag.toNat 0 0 target.toNat [])
      = (s.put F.PWR_STATE_STATE 1).powerReply a tr (mkFrame 0x30 tag.toNat 0 0 1 []) R.ok 0 := by
  unfold State.powerEnter
  dsimp only
  rw [frameAddr_mk, hag, hal, hv]
  subst h1
  rfl

end

/-- A pending request changes PWR_STATE, the request and its agent's open commands alone. -/
theorem State.powerPends_frame (s : State) (t : Nat) :
    s.powerPends a tr tag.toNat t = { s with
      regs := (s.powerPends a tr tag.toNat t).regs
      pwr := (s.powerPends a tr tag.toNat t).pwr
      mgmt := (s.openNp a tr tag.toNat 0x30 t 0).mgmt } := rfl

/-- What a pending request leaves in PWR_STATE, and nothing else of the registers changed. -/
theorem State.powerPends_spec (h : cellsWf 0 s.regs = true) (h4 : target.toNat ≤ 4) :
    (s.powerPends a tr tag.toNat target.toNat).get F.PWR_STATE_PEND = 1
      ∧ (s.powerPends a tr tag.toNat target.toNat).get F.PWR_STATE_TARGET = target.toNat
      ∧ s.SameRegs (s.powerPends a tr tag.toNat target.toNat) [A.PWR_STATE] := by
  have h0 : cellsWf 0 (s.powerAsked a tr tag.toNat target.toNat).regs = true := h
  have r1 := State.put_reports F.PWR_STATE_PEND 1 h0
  have r2 := State.put_reports F.PWR_STATE_TARGET target.toNat r1.wf
  refine ⟨?_, ?_, ((r1.trans r2).mono (by decide)).same⟩
  · unfold State.powerPends
    rw [State.get_put_disj F.PWR_STATE_TARGET F.PWR_STATE_PEND _ r1.wf (by decide) rfl (by decide), State.get_put_same _ _ h0 (by decide)]
    rfl
  · unfold State.powerPends
    rw [State.get_put_same _ _ r1.wf (by decide)]
    exact Nat.mod_eq_of_lt (Nat.lt_of_le_of_lt h4 (by decide))

theorem State.powerQuery_mkFrame :
    s.powerQuery a tr (mkFrame 0x31 tag.toNat 0 0 0 []) = s.reply a tr tag.toNat 0x31 R.ok
      [w32 (s.reg A.PWR_STATE), w32 (s.reg A.PWR_LAST_REFUSE), w32 (s.reg A.PWR_WAKE), w32 (s.reg A.BROWNOUT_CAUSE)] := by
  unfold State.powerQuery
  rw [frameTag_mk, frameOp_mk _ _ _ _ _ _ (by decide)]

end
end

/-- Settles O20: an admitted frame acts on the state after its turn, by the lemma of its opcode. -/
theorem heartbeatsAndOwnership : Obligations.HeartbeatsAndOwnership := by
  intro s a tr tag hs u recorded
  refine ⟨fun h hl ha hadm => congrArg Host.Outcome.next ?_, fun h hadm => congrArg Host.Outcome.next ?_,
    fun data hadm => congrArg Host.Outcome.next ?_, fun data hadm => congrArg Host.Outcome.next ?_,
    fun data hadm => congrArg Host.Outcome.next ?_, fun hadm => congrArg Host.Outcome.next ?_,
    fun target hadm hag hal hv => ⟨fun ⟨h2, h4⟩ => ?_, fun h1 => congrArg Host.Outcome.next ?_⟩⟩
  · exact (State.arrive_admits hadm _).trans (State.heartbeatBody_arms h tr tag hl ha)
  · exact (State.arrive_admits hadm _).trans (State.heartbeatBody_disarms h tr tag)
  · exact (State.arrive_admits hadm _).trans (State.ownBody_claim a tr tag data)
  · exact (State.arrive_admits hadm _).trans (State.ownBody_of_not_claim a tr tag data 0x21 (by decide) (by decide))
  · exact (State.arrive_admits hadm _).trans (State.ownBody_of_not_claim a tr tag data 0x22 (by decide) (by decide))
  · exact (State.arrive_admits hadm _).trans (State.powerQuery_mkFrame a tr tag)
  · have e : exec (.powerEnter a tr tag target) s = .next (u.powerPends a tr tag.toNat target.toNat) :=
      congrArg Host.Outcome.next ((State.arrive_admits hadm _).trans (State.powerEnter_pends a tr tag target hag hal hv h2 h4))
    obtain ⟨hp, ht, hr⟩ := State.powerPends_spec (s := u) a tr tag target hs.regs h4
    exact ⟨_, e, hp, ht, rfl, State.powerPends_frame a tr tag u target.toNat, hr⟩
  · exact (State.arrive_admits hadm _).trans (State.powerEnter_idle a tr tag target hag hal hv h1)

end Sys2Proof.Machine
end

section
/-! Frames in and out of the transports, and the status echo (O22). -/
namespace Sys2Proof.Machine

/-! ### Frames in and out of the transports (R19, R120, R673) -/

section
variable {s : State}

/-- A malformed frame on an open transport is discarded. -/
theorem exec_malformedFrame_of_open (a : Agent) (tr : Transport) (h : s.transportShut tr = false) :
    exec (.malformedFrame a tr) s = .next (s.malformed a tr) :=
  congrArg Host.Outcome.next (if_neg (by simp [h]))

/-- A malformed frame on EP1 of a face counts in the face's length errors. -/
theorem State.malformed_usb (h : Hp) : s.malformed h .usb = (s.bump (F.UF_MF_ERR_LEN_ERR h) 1).ufEvt h 4 :=
  if_pos h.isLt

/-- The oldest held frame of the agent whose turn has come is served. -/
theorem exec_heldFrameRelease_of_turn (a : Agent) (tr : Transport) (f : Frame) (rest : List (Transport × Frame))
    (hh : (s.agent a).held = (tr, f) :: rest) (ht : s.heldTurn = some a.val) :
    exec (.heldFrameRelease a) s
      = .next (((s.modAgent a (fun g => { g with held := rest })).serve a tr f (fun s => s.frameAct a tr f)).ep1Free a) := by
  show execHeldFrameRelease a s = _
  unfold execHeldFrameRelease
  rw [hh]
  dsimp only
  rw [if_neg (by simp [ht])]

/-- Bytes that are one whole frame that is admitted are carried out as BOARD's. -/
theorem exec_frameIn_of_admits (bytes : List Byte) (f : Frame) (hf : frameOfBytes bytes = some f) (h : s.Admits 4 .spi f) :
    exec (.frameIn bytes) s = .next ((s.passTurn 4).frameAct 4 .spi f) := by
  show execFrameIn bytes s = _
  unfold execFrameIn
  rw [if_neg (by simp [h.opened]), hf]
  exact congrArg Host.Outcome.next (State.arrive_admits h _)

theorem exec_frameOut_of_open (h : s.transportShut .spi = false) : exec .frameOut s = .next s.spiLeaves :=
  congrArg Host.Outcome.next (if_neg (by simp [h]))

theorem State.spiLeaves_nil (h : s.spiQ = []) : s.spiLeaves = s.emit (.spi [0]) := by
  unfold State.spiLeaves
  rw [h]

/-- The oldest reply leaves the queue, and its frame goes out with the status word of that moment. -/
theorem State.spiLeaves_cons (r : Reply) (rest : List Reply) (h : s.spiQ = r :: rest) :
    s.spiLeaves.spiQ = rest
      ∧ s.spiLeaves.out = .spi (bytesWords (replyBytes (s.statusWord 4 r.result) r.tag r.opcode r.data)) :: s.out := by
  unfold State.spiLeaves
  rw [h]
  exact ⟨rfl, rfl⟩

theorem exec_readStatus_of_open (h : s.transportShut .spi = false) :
    exec .readStatus s
      = .next ((s.emit (.spi [w32 (s.statusWord 4 R.ok + 2 ^ 16 * s.spiQueued + 2 ^ 24 * bit1 s.spiReady)])).statusSent 4) :=
  congrArg Host.Outcome.next (if_neg (by simp [h]))

/-- A READ, WRITE or field command that is open when its ticks end completes with TIMEOUT (R127, log entry 135). -/
theorem exec_npTimeout_of_open (a : Agent) (tag : Byte) (c : OpenCmd) (hc : s.openCmd a tag.toNat = some c)
    (ho : c.opcode ≤ 3) :
    exec (.npTimeout a tag) s
      = .next (((s.advanceTo ((c.tick + s.get F.MGMT_NP_TIMEOUT_TICKS) * 125000)).fieldForget a tag.toNat).complete a
          tag.toNat R.timeout []) := by
  show execNpTimeout a tag s = _
  unfold execNpTimeout
  rw [hc]
  dsimp only
  rw [if_neg (by omega)]

/-! ### STATUS_ECHO (R145, R146) -/

/-- The payload of a STATUS_ECHO to host `h`: the last reply's TAG and OPCODE, and the status word (R145). -/
def State.echoPayload (s : State) (h : Nat) : Nat :=
  0x6A + 2 ^ 8 * (s.agent h).lastTag + 2 ^ 16 * (s.agent h).lastOp + 2 ^ 24 * s.statusWord h (s.agent h).lastResult

/-- The host's record of an echo with status word `st`. -/
def State.echoNoted (s : State) (h st now : Nat) : State :=
  (s.modAgent h (fun g => { g with lastStatus := st, lastEcho := some now })).statusSent h

/-- A STATUS_ECHO goes out where R146 and R231 leave it a place. -/
theorem exec_statusEcho_of_room (h : Hp) (hr : s.attnF h = true ∨ (s.agent h).ownChg = true)
    (hp : (s.link h).parked = none) (ht : ∀ t, (s.agent h).lastEcho = some t → t + 250 ≤ s.clock.time)
    (hst : s.statusWord h (s.agent h).lastResult ≠ (s.agent h).lastStatus) (hup : isUpState (s.cvState h) = true)
    (hroom : s.ownRoom h = true) :
    exec (.statusEcho h) s
      = .next ((s.sendUpCtl h (s.echoPayload h)).echoNoted h (s.statusWord h (s.agent h).lastResult)
          (s.sendUpCtl h (s.echoPayload h)).clock.time) := by
  show execStatusEcho h s = _
  unfold execStatusEcho
  rw [if_pos (by simpa using hr)]
  unfold State.statusEcho
  dsimp only
  rw [if_neg]
  · rfl
  · cases he : (s.agent h).lastEcho with
    | none => simp [hup, hp, hst, hroom]
    | some t => simp [hup, hp, hst, hroom, ht t he]

/-- A block that joins the stream leaves TIME and what the arbiter holds as they were. -/
theorem State.sendUpCtl_parts (h x : Nat) :
    (s.sendUpCtl h x).mgmt = s.mgmt ∧ (s.sendUpCtl h x).clock = s.clock := by
  have a : s.SendsOnly (s.sendUpCtl h x) h := State.sendUpCtl_sends x
  rw [a.same]
  exact ⟨rfl, rfl⟩

/-- The host's record of an echo is all that it changes beside what goes out. -/
theorem State.echoNoted_mgmt (t : State) (h st now : Nat) (hm : t.mgmt = s.mgmt) :
    { t.echoNoted h st now with mgmt := s.mgmt } = t := by
  rw [← hm]
  rfl

theorem State.echoNoted_out (t : State) (h st now : Nat) : (t.echoNoted h st now).out = t.out := rfl

/-- The record of an echo: the status word, its time, and OWN_CHG used up. -/
theorem State.echoNoted_agent (t : State) (h st now : Nat) :
    (t.echoNoted h st now).agent h = { t.agent h with lastStatus := st, lastEcho := some now, ownChg := false } := by
  unfold State.echoNoted State.statusSent
  rw [State.agent_modAgent, State.agent_modAgent]

end

/-- Settles O22: each command of a transport by its lemma; an echo's block is one that joins the stream. -/
theorem transportSteps : Obligations.TransportSteps := by
  intro s hs
  refine ⟨fun ho a => exec_malformedFrame_of_open a .spi ho, fun h ho => ?_,
    fun a n ho => exec_malformedFrame_of_open a (.tunnel n) ho, fun a tr f rest => exec_heldFrameRelease_of_turn a tr f rest,
    fun bytes f => exec_frameIn_of_admits bytes f, fun ho hq => ?_, fun r rest ho hq => ?_,
    fun ho => ⟨_, exec_readStatus_of_open ho, rfl, rfl, rfl⟩, fun a tag c => exec_npTimeout_of_open a tag c,
    fun h hr hp ht hst hup hroom => ?_⟩
  · rw [exec_malformedFrame_of_open _ _ ho]
    exact congrArg Host.Outcome.next (State.malformed_usb h)
  · rw [exec_frameOut_of_open ho, State.spiLeaves_nil hq]
  · exact ⟨_, exec_frameOut_of_open ho, State.spiLeaves_cons r rest hq⟩
  · have hsends : s.SendsOnly (s.sendUpCtl h (s.echoPayload h)) h := State.sendUpCtl_sends _
    obtain ⟨hm, hc⟩ := State.sendUpCtl_parts (s := s) h (s.echoPayload h)
    have ha := State.echoNoted_agent (s.sendUpCtl h (s.echoPayload h)) h (s.statusWord h (s.agent h).lastResult)
      (s.sendUpCtl h (s.echoPayload h)).clock.time
    refine ⟨_, exec_statusEcho_of_room h hr hp ht hst hup hroom, ?_, ?_, ?_, ?_, ?_⟩
    · rw [State.echoNoted_out]
      exact State.sendUpCtl_mem (s.echoPayload h)
    · rw [ha]
    · rw [ha, hc]
    · rw [ha]
    · rw [State.echoNoted_mgmt _ _ _ _ hm]
      exact hsends

end Sys2Proof.Machine
end

section
/-! The invariant of a run: it holds at reset and every step keeps it (O3, O4). -/
namespace Sys2Proof.Machine

/-- Every command keeps what it found: the invariant, the queue's rest and OTP. One lemma of Laws/Kept* for each command. -/
theorem exec_kept {z s : State} (c : Instr) (hs : Kept z s) : KeptBy z (exec c s) :=
  match c with
  | .tickBoundary .. => execTickBoundary_kept _ hs
  | .wheelSlot .. => execWheelSlot_kept _ hs
  | .sidebandPoll .. => execSidebandPoll_kept _ _ _ _ hs
  | .pdKeepalive .. => execPdKeepalive_kept _ _ hs
  | .efuseThermal .. => execEfuseThermal_kept _ _ hs
  | .eyeSample .. => execEyeSample_kept _ _ _ hs
  | .queueStats .. => execQueueStats_kept _ _ hs
  | .heartbeatChore .. => execHeartbeatChore_kept _ hs
  | .discServo .. => execDiscServo_kept _ hs
  | .wearSample .. => execWearSample_kept _ _ _ _ hs
  | .refPllLock => execRefPllLock_kept hs
  | .refPllLockLoss => execRefPllLockLoss_kept hs
  | .xtalAStopped => execXtalAStopped_kept hs
  | .xtalCompare .. => execXtalCompare_kept _ hs
  | .timeLoRead .. => execTimeLoRead_kept _ hs
  | .dieBridgeWordFail .. => execDieBridgeWordFail_kept _ _ hs
  | .hostTimeBeacon .. => execHostTimeBeacon_kept _ _ hs
  | .selfTestEnd => execSelfTestEnd_kept hs
  | .flashReady => execFlashReady_kept hs
  | .bootSlotChecked => execBootSlotChecked_kept hs
  | .imageBegin .. => execImageBegin_kept _ _ _ _ _ hs
  | .imageData .. => execImageData_kept _ _ _ _ _ hs
  | .imageCommit .. => execImageCommit_kept _ _ _ _ _ hs
  | .imageCheckDone => execImageCheckDone_kept hs
  | .imagePatch .. => execImagePatch_kept _ _ _ _ _ hs
  | .sessionTimeout => execSessionTimeout_kept hs
  | .tickCommit .. => execTickCommit_kept _ hs
  | .tickDiscard .. => execTickDiscard_kept _ hs
  | .read .. => execRead_kept _ _ _ _ _ _ hs
  | .capRecRead .. => execCapRecRead_kept _ _ _ _ hs
  | .write .. => execWrite_kept _ _ _ _ _ _ hs
  | .registerWrite .. => execRegisterWrite_kept _ _ _ hs
  | .writePosted .. => execWritePosted_kept _ _ _ _ _ _ _ hs
  | .heartbeat .. => execHeartbeat_kept _ _ _ _ hs
  | .claim .. => execClaim_kept _ _ _ _ hs
  | .release .. => execRelease_kept _ _ _ _ hs
  | .handover .. => execHandover_kept _ _ _ _ hs
  | .powerEnter .. => execPowerEnter_kept _ _ _ _ hs
  | .powerQuery .. => execPowerQuery_kept _ _ _ hs
  | .serviceChallenge .. => execServiceChallenge_kept _ _ _ hs
  | .serviceResponse .. => execServiceResponse_kept _ _ _ _ hs
  | .nonceExpiry .. => execNonceExpiry_kept _ hs
  | .serviceLockoutEnd .. => execServiceLockoutEnd_kept _ hs
  | .malformedFrame .. => execMalformedFrame_kept _ _ hs
  | .heldFrameRelease .. => execHeldFrameRelease_kept _ hs
  | .frameIn .. => execFrameIn_kept _ hs
  | .frameOut => execFrameOut_kept hs
  | .readStatus => execReadStatus_kept hs
  | .npTimeout .. => execNpTimeout_kept _ _ hs
  | .statusEcho .. => execStatusEcho_kept _ hs
  | .evtStormAutomask .. => execEvtStormAutomask_kept _ hs
  | .stormWindowStart => execStormWindowStart_kept hs
  | .fevtClassWrite .. => execFevtClassWrite_kept _ _ _ hs
  | .mainPllLockLoss .. => execMainPllLockLoss_kept _ hs
  | .sparePllFail .. => execSparePllFail_kept _ hs
  | .pcsSliceParityError .. => execPcsSliceParityError_kept _ _ hs
  | .forceSparePll .. => execForceSparePll_kept _ _ hs
  | .forceSlice .. => execForceSlice_kept _ _ _ hs
  | .lnEyeStart .. => execLnEyeStart_kept _ _ _ hs
  | .eyePointDone .. => execEyePointDone_kept _ _ _ hs
  | .qualificationDone .. => execQualificationDone_kept _ _ _ hs
  | .qualRetry .. => execQualRetry_kept _ _ hs
  | .coeffRequest .. => execCoeffRequest_kept _ _ _ hs
  | .turnIdleDetected .. => execTurnIdleDetected_kept _ hs
  | .turnAbort .. => execTurnAbort_kept _ hs
  | .blockLockAcquired .. => execBlockLockAcquired_kept _ _ hs
  | .blockLockLost .. => execBlockLockLost_kept _ _ hs
  | .codewordLock .. => execCodewordLock_kept _ _ hs
  | .codewordLockLost .. => execCodewordLockLost_kept _ _ hs
  | .alignMarker .. => execAlignMarker_kept _ _ _ hs
  | .packetReceive .. => execPacketReceive_kept _ _ _ _ hs
  | .ackNakReceive .. => execAckNakReceive_kept _ _ hs
  | .ackSend .. => execAckSend_kept _ hs
  | .replayTimeout .. => execReplayTimeout_kept _ hs
  | .creditReceive .. => execCreditReceive_kept _ _ hs
  | .creditSend .. => execCreditSend_kept _ hs
  | .controlBlockUnknown .. => execControlBlockUnknown_kept _ _ hs
  | .speedCap .. => execSpeedCap_kept _ _ hs
  | .speedSel .. => execSpeedSel_kept _ _ hs
  | .eqDone .. => execEqDone_kept _ _ hs
  | .latBlock .. => execLatBlock_kept _ _ _ hs
  | .recoverBlock .. => execRecoverBlock_kept _ _ hs
  | .refTimer .. => execRefTimer_kept _ hs
  | .refTimeout .. => execRefTimeout_kept _ hs
  | .speedTimeout .. => execSpeedTimeout_kept _ hs
  | .eqTimeout .. => execEqTimeout_kept _ hs
  | .blockTimeout .. => execBlockTimeout_kept _ hs
  | .fecTimeout .. => execFecTimeout_kept _ hs
  | .recoveryRelock .. => execRecoveryRelock_kept _ hs
  | .recoveryTimeout .. => execRecoveryTimeout_kept _ hs
  | .cvRetrain .. => execCvRetrain_kept _ _ hs
  | .splitEvaluation .. => execSplitEvaluation_kept _ hs
  | .turnAck .. => execTurnAck_kept _ _ hs
  | .turnCancel .. => execTurnCancel_kept _ hs
  | .turnJoin .. => execTurnJoin_kept _ _ hs
  | .pairFailed .. => execPairFailed_kept _ _ hs
  | .turnDrop .. => execTurnDrop_kept _ _ hs
  | .sendOpportunity .. => execSendOpportunity_kept _ hs
  | .launchDescriptors .. => execLaunchDescriptors_kept _ _ hs
  | .srSubmit .. => execSrSubmit_kept _ _ _ _ _ hs
  | .launchCancel .. => execLaunchCancel_kept _ _ hs
  | .srCancel .. => execSrCancel_kept _ _ _ hs
  | .launchFire => execLaunchFire_kept hs
  | .linePulseSecondEdge => execLinePulseSecondEdge_kept hs
  | .delayCalibration => execDelayCalibration_kept hs
  | .captureEdge .. => execCaptureEdge_kept _ _ _ hs
  | .capturePacket .. => execCapturePacket_kept _ hs
  | .grainPiece .. => execGrainPiece_kept _ _ hs
  | .hdCommit .. => execHdCommit_kept _ _ hs
  | .coverageCheckDone .. => execCoverageCheckDone_kept _ hs
  | .hdCancel .. => execHdCancel_kept _ _ hs
  | .commitPoint .. => execCommitPoint_kept _ hs
  | .verticalBlanking .. => execVerticalBlanking_kept _ hs
  | .headEnable .. => execHeadEnable_kept _ _ _ hs
  | .hpdHigh .. => execHpdHigh_kept _ _ hs
  | .hpdLow .. => execHpdLow_kept _ hs
  | .irqHpd .. => execIrqHpd_kept _ _ hs
  | .crWait .. => execCrWait_kept _ _ _ hs
  | .eqWait .. => execEqWait_kept _ _ _ hs
  | .dpRetrain .. => execDpRetrain_kept _ _ hs
  | .auxStart .. => execAuxStart_kept _ _ hs
  | .auxReply .. => execAuxReply_kept _ _ _ hs
  | .downstreamTlp .. => execDownstreamTlp_kept _ _ _ _ hs
  | .upstreamTlp .. => execUpstreamTlp_kept _ _ hs
  | .surpriseRemoval .. => execSurpriseRemoval_kept _ hs
  | .dpcTrigger .. => execDpcTrigger_kept _ _ _ hs
  | .portResetComplete .. => execPortResetComplete_kept _ _ _ hs
  | .resetDeadlineExpiry .. => execResetDeadlineExpiry_kept _ hs
  | .perstRelease .. => execPerstRelease_kept _ hs
  | .clkreqChange .. => execClkreqChange_kept _ _ hs
  | .linkDownTrigger .. => execLinkDownTrigger_kept _ hs
  | .watchInstant .. => execWatchInstant_kept _ hs
  | .ethFrameReceive .. => execEthFrameReceive_kept _ _ _ _ _ _ _ hs
  | .fdbAgeOut => execFdbAgeOut_kept hs
  | .ethFdbFlush .. => execEthFdbFlush_kept _ _ hs
  | .gateEntryStart .. => execGateEntryStart_kept _ hs
  | .pdelayExchange .. => execPdelayExchange_kept _ _ _ _ hs
  | .syncReceive .. => execSyncReceive_kept _ _ _ hs
  | .syncTimeout .. => execSyncTimeout_kept _ hs
  | .ethLinkChange .. => execEthLinkChange_kept _ _ hs
  | .faceAttachChange .. => execFaceAttachChange_kept _ hs
  | .faceBusReset .. => execFaceBusReset_kept _ _ hs
  | .setPortReset .. => execSetPortReset_kept _ _ hs
  | .setPortPower .. => execSetPortPower_kept _ _ hs
  | .clearPortPower .. => execClearPortPower_kept _ _ hs
  | .clearPortEnable .. => execClearPortEnable_kept _ _ hs
  | .setPortSuspend .. => execSetPortSuspend_kept _ _ hs
  | .clearPortSuspend .. => execClearPortSuspend_kept _ _ hs
  | .setPortL1 .. => execSetPortL1_kept _ _ _ hs
  | .portConnectDetect .. => execPortConnectDetect_kept _ _ hs
  | .portDisconnect .. => execPortDisconnect_kept _ hs
  | .portResetDone .. => execPortResetDone_kept _ _ hs
  | .portResumeDone .. => execPortResumeDone_kept _ hs
  | .portBabble .. => execPortBabble_kept _ hs
  | .deviceRemoteWake .. => execDeviceRemoteWake_kept _ hs
  | .pwr2goodElapsed .. => execPwr2goodElapsed_kept _ hs
  | .overCurrent .. => execOverCurrent_kept _ hs
  | .overCurrentClear .. => execOverCurrentClear_kept _ hs
  | .ocRetry .. => execOcRetry_kept _ hs
  | .dsPowerCycle .. => execDsPowerCycle_kept _ _ hs
  | .ep1Packet .. => execEp1Packet_kept _ _ hs
  | .ep2Reply .. => execEp2Reply_kept _ hs
  | .ep3Poll .. => execEp3Poll_kept _ hs
  | .getReport .. => execGetReport_kept _ hs
  | .mfAbort .. => execMfAbort_kept _ hs
  | .lpmL1Request .. => execLpmL1Request_kept _ hs
  | .mfRemoteWake .. => execMfRemoteWake_kept _ hs
  | .mfConnectWrite .. => execMfConnectWrite_kept _ _ _ hs
  | .fieldTransactionStart .. => execFieldTransactionStart_kept _ hs
  | .fieldTransactionEnd .. => execFieldTransactionEnd_kept _ _ _ _ hs
  | .keepTimeout .. => execKeepTimeout_kept _ hs
  | .busDisable .. => execBusDisable_kept _ _ hs
  | .canFrameReceive .. => execCanFrameReceive_kept _ _ _ _ hs
  | .uartRecordClose .. => execUartRecordClose_kept _ _ _ hs
  | .fieldRxDelivery .. => execFieldRxDelivery_kept _ hs
  | .wdPerrPop .. => execWdPerrPop_kept _ _ hs
  | .moduleApprove .. => execModuleApprove_kept _ _ hs
  | .moduleReject .. => execModuleReject_kept _ _ hs
  | .moduleRecheck .. => execModuleRecheck_kept _ _ hs
  | .drpToggle .. => execDrpToggle_kept _ hs
  | .ccTerminationChange .. => execCcTerminationChange_kept _ _ _ _ hs
  | .ccDebounce .. => execCcDebounce_kept _ _ hs
  | .tryCcDebounce .. => execTryCcDebounce_kept _ _ hs
  | .drpTryTimeout .. => execDrpTryTimeout_kept _ hs
  | .ccOpen .. => execCcOpen_kept _ hs
  | .vbusLoss .. => execVbusLoss_kept _ hs
  | .accessoryDetach .. => execAccessoryDetach_kept _ hs
  | .errorRecoveryEnd .. => execErrorRecoveryEnd_kept _ hs
  | .tcEnable .. => execTcEnable_kept _ _ _ hs
  | .tcRearm .. => execTcRearm_kept _ _ hs
  | .moistureTest .. => execMoistureTest_kept _ _ hs
  | .sourceCapabilities .. => execSourceCapabilities_kept _ _ _ hs
  | .request .. => execRequest_kept _ _ hs
  | .eprRequest .. => execEprRequest_kept _ _ _ hs
  | .accept .. => execAccept_kept _ hs
  | .reject .. => execReject_kept _ hs
  | .wait .. => execWait_kept _ hs
  | .psRdy .. => execPsRdy_kept _ hs
  | .cableIdentityResponse .. => execCableIdentityResponse_kept _ _ _ _ hs
  | .getSourceCap .. => execGetSourceCap_kept _ hs
  | .getSinkCap .. => execGetSinkCap_kept _ hs
  | .sinkCapabilities .. => execSinkCapabilities_kept _ _ hs
  | .prSwap .. => execPrSwap_kept _ hs
  | .drSwap .. => execDrSwap_kept _ hs
  | .vconnSwap .. => execVconnSwap_kept _ hs
  | .frSwap .. => execFrSwap_kept _ hs
  | .softReset .. => execSoftReset_kept _ hs
  | .hardResetReceived .. => execHardResetReceived_kept _ hs
  | .eprMode .. => execEprMode_kept _ _ hs
  | .eprKeepalive .. => execEprKeepalive_kept _ hs
  | .alert .. => execAlert_kept _ _ hs
  | .unsupportedMessage .. => execUnsupportedMessage_kept _ hs
  | .discoverIdentity .. => execDiscoverIdentity_kept _ hs
  | .discoverSvids .. => execDiscoverSvids_kept _ hs
  | .discoverModes .. => execDiscoverModes_kept _ _ hs
  | .enterMode .. => execEnterMode_kept _ _ _ _ hs
  | .exitMode .. => execExitMode_kept _ _ hs
  | .senderResponseTimeout .. => execSenderResponseTimeout_kept _ hs
  | .noResponseTimeout .. => execNoResponseTimeout_kept _ hs
  | .psTransitionTimeout .. => execPsTransitionTimeout_kept _ hs
  | .ppsTimeout .. => execPpsTimeout_kept _ hs
  | .eprKeepaliveTimeout .. => execEprKeepaliveTimeout_kept _ hs
  | .vbusOcp .. => execVbusOcp_kept _ hs
  | .vconnOcp .. => execVconnOcp_kept _ hs
  | .ccOpenInTransition .. => execCcOpenInTransition_kept _ hs
  | .hamadaThermalLimit .. => execHamadaThermalLimit_kept _ hs
  | .localSupplyTrip => execLocalSupplyTrip_kept hs
  | .shedEnd => execShedEnd_kept hs
  | .systemInputChange .. => execSystemInputChange_kept _ hs
  | .tcSwapPr .. => execTcSwapPr_kept _ _ hs
  | .tcSwapDr .. => execTcSwapDr_kept _ _ hs
  | .tcSwapVconn .. => execTcSwapVconn_kept _ _ hs
  | .tcSoftReset .. => execTcSoftReset_kept _ _ hs
  | .tcHardReset .. => execTcHardReset_kept _ _ hs
  | .efCtrlOn .. => execEfCtrlOn_kept _ _ _ hs
  | .efClear .. => execEfClear_kept _ _ hs
  | .efEnable .. => execEfEnable_kept _ _ _ hs
  | .insertionDelayEnd .. => execInsertionDelayEnd_kept _ hs
  | .slewEnd .. => execSlewEnd_kept _ hs
  | .shortedBSample .. => execShortedBSample_kept _ _ hs
  | .powerGoodAssert .. => execPowerGoodAssert_kept _ hs
  | .pgLost .. => execPgLost_kept _ hs
  | .rampTimeout .. => execRampTimeout_kept _ _ hs
  | .gateRiseTimeout .. => execGateRiseTimeout_kept _ hs
  | .limitEpisodeStart .. => execLimitEpisodeStart_kept _ hs
  | .limitEpisodeEnd .. => execLimitEpisodeEnd_kept _ hs
  | .faultTimerExpiry .. => execFaultTimerExpiry_kept _ hs
  | .fastTrip .. => execFastTrip_kept _ hs
  | .vinOvervoltage .. => execVinOvervoltage_kept _ hs
  | .vinUndervoltage .. => execVinUndervoltage_kept _ hs
  | .shortedFetDetect .. => execShortedFetDetect_kept _ hs
  | .degradedFet .. => execDegradedFet_kept _ hs
  | .reverseCurrent .. => execReverseCurrent_kept _ hs
  | .reverseEnd .. => execReverseEnd_kept _ hs
  | .retryDelayEnd .. => execRetryDelayEnd_kept _ hs
  | .retriesClear .. => execRetriesClear_kept _ hs
  | .thermalSelfStep .. => execThermalSelfStep_kept _ hs
  | .coldReset .. => execColdReset_kept _ hs
  | .railSequenceFail .. => execRailSequenceFail_kept _ hs
  | .warmReset => execWarmReset_kept hs
  | .warmResetEnd => execWarmResetEnd_kept hs
  | .fatalError .. => execFatalError_kept _ _ hs
  | .isoIsolate .. => execIsoIsolate_kept _ _ hs
  | .isoRestart .. => execIsoRestart_kept _ _ hs
  | .isolationExit .. => execIsolationExit_kept _ hs
  | .powerDrainDone => execPowerDrainDone_kept hs
  | .powerDrainTimeout => execPowerDrainTimeout_kept hs
  | .wake .. => execWake_kept _ _ _ _ _ hs
  | .pwrStayWrite .. => execPwrStayWrite_kept _ _ hs
  | .failoverSuspendEnd => execFailoverSuspendEnd_kept hs
  | .brownOut => execBrownOut_kept hs
  | .eccError .. => execEccError_kept _ _ _ _ hs
  | .scrub .. => execScrub_kept _ hs
  | .rowRepair .. => execRowRepair_kept _ _ _ _ hs
  | .wearRecordWrite => execWearRecordWrite_kept hs
  | .errRingPop .. => execErrRingPop_kept _ hs
  | .errFirstAck .. => execErrFirstAck_kept _ hs
  | .pairInverted .. => execPairInverted_kept _ _ hs
  | .driveInsertion .. => execDriveInsertion_kept _ hs
  | .driveLinkChange .. => execDriveLinkChange_kept _ _ _ _ hs
  | .faceSuspend .. => execFaceSuspend_kept _ hs
  | .faceResume .. => execFaceResume_kept _ hs
  | .canStateChange .. => execCanStateChange_kept _ _ hs
  | .frSwapSignal .. => execFrSwapSignal_kept _ hs
  | .vinWithinRange .. => execVinWithinRange_kept _ hs
  | .voutLeavesWindow .. => execVoutLeavesWindow_kept _ hs
  | .voltageTransitionDone .. => execVoltageTransitionDone_kept _ hs
  | .railValid .. => execRailValid_kept _ hs
  | .sleepPdKeepalive => execSleepPdKeepalive_kept hs

/-- A command that answers a next state keeps the invariant. -/
theorem exec_sound {s t : State} (c : Instr) (hs : s.Sound) (h : exec c s = .next t) : t.Sound := by
  have hk := exec_kept c (Kept.refl hs)
  rw [h] at hk
  exact hk.sound

/-- The invariant says nothing about the queue. -/
theorem State.Sound.withPending {s : State} (hs : s.Sound) (q : List Instr) : ({ s with pending := q } : State).Sound :=
  ⟨hs.cells, hs.time, hs.rings, hs.caps, hs.perr, hs.fdb⟩

/-- Settles O3: the reset registers are in canonical form, and everything else that the invariant bounds is empty. -/
theorem resetIsSound : Obligations.ResetIsSound where
  cells := by decide +kernel
  time := rfl
  rings := by decide +kernel
  caps := by decide +kernel
  perr := by decide +kernel
  fdb := by decide +kernel

/-- Settles O4: a step is a cycle of the timebase or the command at the front of the queue, and each keeps the invariant. -/
theorem everyStepKeepsTheInvariant : Obligations.EveryStepKeepsTheInvariant := by
  intro s t hs h
  unfold step at h
  split at h
  case h_1 =>
    cases h
    exact (State.idle_kept (Kept.refl hs)).sound
  case h_2 c rest _ => exact exec_sound c (hs.withPending rest) h

end Sys2Proof.Machine
end

section
/-! The reset values of the registers (O55). -/
namespace Sys2Proof.Machine

/-- Settles O55: the reset cells hold the values of the Reset columns, block by block. -/
theorem resetValues : Obligations.ResetValues := by
  unfold Obligations.ResetValues
  refine ⟨?time, ?lanes, ?captures, ?heads, ?network, ?ports, ?buses, ?oasis⟩ <;> decide +kernel

end Sys2Proof.Machine
end

section
/-! The timebase's commands (O9). -/
namespace Sys2Proof.Machine

/-! ### Reports that leave the logs and Oasis as they were -/

section
variable {s t : State}

/-- A report that enters nothing in a log and leaves Oasis changes registers and the event router alone. -/
theorem State.ReportsOnly.frame_of_quiet {l : List Nat} (r : s.ReportsOnly t l) (hl : t.logs = s.logs) (ho : t.oa = s.oa) :
    t = { s with regs := t.regs, router := t.router } := by
  conv_lhs => rw [r.frame, hl, ho]

theorem State.ReportsOnly.refl (h : cellsWf 0 s.regs = true) : s.ReportsOnly s [] := ⟨h, rfl, fun _ _ => rfl⟩

/-- A pass over a list whose every step reports to a list of registers at most. -/
theorem State.each_reports {but : List Nat} (f : State → Nat → State) :
    ∀ (l : List Nat), (∀ n ∈ l, ∀ u : State, cellsWf 0 u.regs = true → u.ReportsOnly (f u n) but) →
      ∀ s : State, cellsWf 0 s.regs = true → s.ReportsOnly (s.each l f) but
  | [], _, s, h => (State.ReportsOnly.refl h).mono (by simp)
  | n :: l, hf, s, h =>
    have a := hf n List.mem_cons_self s h
    have b := State.each_reports f l (fun k hk => hf k (List.mem_cons_of_mem _ hk)) (f s n) a.wf
    (a.trans b).mono (by simp)

end

/-! ### The lock of the reference PLL (R35) -/

/-- The PLLs of a lane group lock with REF. -/
def State.groupLocks (s : State) (g : Nat) : State := (s.put (F.LG_STATUS_PLL_LOCK g) 1).put (F.LG_STATUS_SPARE_PLL_OK g) 1

/-- The registers that say that REF's PLL has locked. -/
def lockRegs : List Nat := A.REF_STATUS :: A.USB_STATUS :: (List.range 9).map A.LG_STATUS

/-- The marks of a lock: REF, the USB PLL and the nine lane groups'. -/
def State.lockMarks (s : State) : State :=
  ((s.put F.REF_STATUS_PLL_LOCK 1).put F.USB_STATUS_PLL_LOCK 1).each (List.range 9) State.groupLocks

theorem exec_refPllLock (s : State) :
    exec .refPllLock s = .next (s.lockMarks.modClock (fun c => { c with running := true })) := rfl

section
variable {s : State}

theorem State.groupLocks_reports (g : Nat) (h : cellsWf 0 s.regs = true) :
    s.ReportsOnly (s.groupLocks g) [A.LG_STATUS g] :=
  have a := State.put_reports (F.LG_STATUS_PLL_LOCK g) 1 h
  (a.trans (State.put_reports (F.LG_STATUS_SPARE_PLL_OK g) 1 a.wf)).mono
    (by simp [F.LG_STATUS_PLL_LOCK, F.LG_STATUS_SPARE_PLL_OK])

theorem State.groupsLock_reports (h : cellsWf 0 s.regs = true) :
    s.ReportsOnly (s.each (List.range 9) State.groupLocks) ((List.range 9).map A.LG_STATUS) :=
  State.each_reports _ _ (fun n hn _ hu => (State.groupLocks_reports n hu).mono (by
    intro x hx
    rw [List.mem_singleton.mp hx]
    exact List.mem_map_of_mem hn)) s h

theorem State.lockMarks_reports (h : cellsWf 0 s.regs = true) : s.ReportsOnly s.lockMarks lockRegs :=
  have a := State.put_reports F.REF_STATUS_PLL_LOCK 1 h
  have b := State.put_reports F.USB_STATUS_PLL_LOCK 1 a.wf
  (a.trans b).trans (State.groupsLock_reports b.wf)

theorem State.lockMarks_ref (h : cellsWf 0 s.regs = true) : s.lockMarks.get F.REF_STATUS_PLL_LOCK = 1 := by
  have a := State.put_reports F.REF_STATUS_PLL_LOCK 1 h
  have b := State.put_reports F.USB_STATUS_PLL_LOCK 1 a.wf
  unfold State.lockMarks
  rw [(State.groupsLock_reports b.wf).same _ (by decide), b.same _ (by decide), State.get_put_same _ _ h (by decide)]
  rfl

theorem State.lockMarks_usb (h : cellsWf 0 s.regs = true) : s.lockMarks.get F.USB_STATUS_PLL_LOCK = 1 := by
  have a := State.put_reports F.REF_STATUS_PLL_LOCK 1 h
  have b := State.put_reports F.USB_STATUS_PLL_LOCK 1 a.wf
  unfold State.lockMarks
  rw [(State.groupsLock_reports b.wf).same _ (by decide), State.get_put_same _ _ a.wf (by decide)]
  rfl

/-- The marks of a lock are in registers alone. -/
theorem State.lockMarks_frame (s : State) : s.lockMarks = { s with regs := s.lockMarks.regs } :=
  foldl_inv (fun t : State => t = { s with regs := t.regs }) _ (fun t g ht => by
    show t.groupLocks g = _
    conv_lhs => rw [ht]
    rfl) _ _ rfl

/-! ### A read of TIME_LO (R37) -/

theorem State.timeLatch_reports (a : Nat) (h : cellsWf 0 s.regs = true) :
    s.ReportsOnly (s.timeLatch a) [A.TIME_HI a, A.TOD_NS a, A.TOD_SEC_LO a, A.TOD_SEC_HI a] :=
  have r1 := State.put_reports (F.TIME_HI_VALUE a) _ h
  have r2 := r1.trans (State.put_reports (F.TOD_NS_NS a) _ r1.wf)
  have r3 := r2.trans (State.put_reports (F.TOD_SEC_LO_SEC a) _ r2.wf)
  r3.trans (State.put_reports (F.TOD_SEC_HI_SEC a) _ r3.wf)

/-- The four words that a read of TIME_LO latches are in four registers. -/
theorem latchRegs_ne (a : Nat) :
    A.TIME_HI a ≠ A.TOD_NS a ∧ A.TIME_HI a ≠ A.TOD_SEC_LO a ∧ A.TIME_HI a ≠ A.TOD_SEC_HI a ∧ A.TOD_NS a ≠ A.TOD_SEC_LO a
      ∧ A.TOD_NS a ≠ A.TOD_SEC_HI a ∧ A.TOD_SEC_LO a ≠ A.TOD_SEC_HI a := by
  simp [A.TIME_HI, A.TOD_NS, A.TOD_SEC_LO, A.TOD_SEC_HI]

/-- What a read of TIME_LO latches. -/
theorem State.timeLatch_values (a : Nat) (h : cellsWf 0 s.regs = true) :
    (s.timeLatch a).get (F.TIME_HI_VALUE a) = s.clock.time / 2 ^ 32 % 2 ^ 32
      ∧ (s.timeLatch a).get (F.TOD_NS_NS a) = s.todAt s.clock.time % 1000000000
      ∧ (s.timeLatch a).get (F.TOD_SEC_LO_SEC a) = s.todAt s.clock.time / 1000000000 % 2 ^ 32
      ∧ (s.timeLatch a).get (F.TOD_SEC_HI_SEC a) = s.todAt s.clock.time / 1000000000 / 2 ^ 32 % 2 ^ 16 := by
  obtain ⟨h12, h13, h14, h23, h24, h34⟩ := latchRegs_ne a
  have w1 := State.put_wf (F.TIME_HI_VALUE a) (s.clock.time / 2 ^ 32) h
  have w2 := State.put_wf (F.TOD_NS_NS a) (s.todAt s.clock.time % 1000000000) w1
  have w3 := State.put_wf (F.TOD_SEC_LO_SEC a) (s.todAt s.clock.time / 1000000000) w2
  unfold State.timeLatch
  refine ⟨?_, ?_, ?_, ?_⟩
  · rw [State.get_put_ne _ _ _ w3 h14, State.get_put_ne _ _ _ w2 h13, State.get_put_ne _ _ _ w1 h12,
      State.get_put_same (F.TIME_HI_VALUE a) _ h (Nat.le_refl 32)]
    rfl
  · have hns : s.todAt s.clock.time % 1000000000 % 2 ^ 30 = s.todAt s.clock.time % 1000000000 := by omega
    rw [State.get_put_ne _ _ _ w3 h24, State.get_put_ne _ _ _ w2 h23,
      State.get_put_same (F.TOD_NS_NS a) _ w1 (by simp [F.TOD_NS_NS])]
    exact hns
  · rw [State.get_put_ne _ _ _ w3 h34, State.get_put_same (F.TOD_SEC_LO_SEC a) _ w2 (Nat.le_refl 32)]
    rfl
  · rw [State.get_put_same (F.TOD_SEC_HI_SEC a) _ w3 (by simp [F.TOD_SEC_HI_SEC])]
    rfl

/-! ### The crystals (R43) and a host's beacon (R51, R242) -/

/-- Crystals more than 250 ppm apart disagree, which is remembered and raises source 8. -/
theorem exec_xtalCompare_of_apart {ppm : Int} (hp : 250 < ppm.natAbs) :
    exec (.xtalCompare ppm) s
      = .next ((s.modClock (fun c => { c with disagree := true })).raise 8 F.TIME_EVT_XTAL_DISAGREE) := by
  show Host.Outcome.next ((s.modClock (fun c => { c with disagree := decide (250 < ppm.natAbs) })).xtalEvt) = _
  rw [decide_eq_true hp]
  rfl

/-- Crystals within 250 ppm agree, which is remembered. -/
theorem exec_xtalCompare_of_close {ppm : Int} (hp : ppm.natAbs ≤ 250) :
    exec (.xtalCompare ppm) s = .next (s.modClock (fun c => { c with disagree := false })) := by
  show Host.Outcome.next ((s.modClock (fun c => { c with disagree := decide (250 < ppm.natAbs) })).xtalEvt) = _
  rw [decide_eq_false (Nat.not_lt.mpr hp)]
  rfl

end

/-- The phase error that a beacon of a source gives: its block's time, the seconds completed to those nearest the hub's own, less
the hub's time of day at the boundary it names. -/
def State.beaconError (s : State) (b : Nat) : Int :=
  let mine : Int := (s.todAt ((s.tick - (s.tick + 256 - bitsOf b 8 8) % 256) * 125000) : Nat)
  let ahead := (((bitsOf b 16 16 : Nat) : Int) - mine / 1000000000 + 32768) % 65536 - 32768
  (mine / 1000000000 + ahead) * 1000000000 + ((bitsOf b 32 30 : Nat) : Int) - mine

/-- A beacon that the hub hears from a configured source is measured. -/
theorem exec_hostTimeBeacon_of_heard {s : State} (h : Hp) (b : BitVec 64) (hh : s.hears h = true)
    (hc : s.discSources.contains (5 + h.val) = true) :
    exec (.hostTimeBeacon h b) s = .next (s.measured (5 + h.val) (s.beaconError b.toNat)) := by
  show execHostTimeBeacon h b s = _
  unfold execHostTimeBeacon
  rw [hh, hc]
  rfl

/-- Settles O9: the marks of a lock, the words of a latch, the crystals on either side of 250 ppm, and a beacon that is heard
from a configured source. -/
theorem timebaseCommands : Obligations.TimebaseCommands := by
  intro s hs
  refine ⟨?_, fun a => ?_, fun ppm hp => ?_, fun ppm hp => exec_xtalCompare_of_close hp, fun h b hh hc => ?_⟩
  · refine ⟨_, exec_refPllLock s, rfl, ?_, ?_, ?_, ?_, fun g hg => ?_⟩
    · rw [State.modClock, s.lockMarks_frame]
    · rw [State.get_modClock, State.lockMarks_ref hs.regs]
    · rw [State.get_modClock, State.lockMarks_usb hs.regs]
    · conv_lhs => rw [s.lockMarks_frame]
      rfl
    · rw [State.get_modClock, (State.lockMarks_reports hs.regs).same g hg]
  · obtain ⟨h1, h2, h3, h4⟩ := State.timeLatch_values a.val hs.regs
    exact ⟨_, rfl, h1, h2, h3, h4, rfl, (State.timeLatch_reports a.val hs.regs).same⟩
  · have r := State.raise_reports (s := s.modClock (fun c => { c with disagree := true })) 8 F.TIME_EVT_XTAL_DISAGREE hs.regs
    have hset := State.get_raise_same (s := s.modClock (fun c => { c with disagree := true })) 8 F.TIME_EVT_XTAL_DISAGREE hs.regs
      (by decide) (by decide)
    refine ⟨_, exec_xtalCompare_of_apart hp, hset, ?_, ?_, r.same⟩
    · rw [State.raise_clock]
      rfl
    · conv_lhs => rw [State.raise_frame]
      rw [State.raise_clock]
      rfl
  · intro k mine sec e
    have he : s.beaconError b.toNat = e := by
      unfold State.beaconError
      dsimp only
      rw [← Int.add_sub_assoc]
    rw [exec_hostTimeBeacon_of_heard h b hh hc, he]
    rfl

end Sys2Proof.Machine
end

section
/-! Chores that come to their slot: skipped (O11), and the servo's run (O13). -/
namespace Sys2Proof.Machine

/-! ### A chore at its slot (R60, R63) -/

section
variable {s : State} {kind arg slot : Nat}

@[simp] theorem State.choreTurn_regs (s : State) (slot : Nat) : (s.choreTurn slot).regs = s.regs := s.advanceTo_regs _

@[simp] theorem State.get_choreTurn (s : State) (slot : Nat) (g : FRef) : (s.choreTurn slot).get g = s.get g :=
  s.get_advanceTo _ g

@[simp] theorem State.choreTurn_eyes (s : State) (slot : Nat) : (s.choreTurn slot).eyes = s.eyes := s.advanceTo_eyes _

/-- A due chore whose previous run is open skips this one. -/
theorem State.chore_of_open (act : State → State) (hd : s.choreDue kind arg = some slot) :
    s.chore kind arg true act = (s.choreTurn slot).choreSkip kind slot := by
  unfold State.chore
  rw [hd]
  rfl

/-- A due chore whose previous run has ended runs. -/
theorem State.chore_of_ended (act : State → State) (hd : s.choreDue kind arg = some slot) :
    s.chore kind arg false act = act (s.choreTurn slot) := by
  unfold State.chore
  rw [hd]
  rfl

/-- The registers of a skipped run's marks before its event. -/
def State.skipMarks (s : State) (kind slot : Nat) : State :=
  ((s.bump F.CHORE_SKIP_COUNT 1).put F.CHORE_LAST_SKIP_SLOT slot).put F.CHORE_LAST_SKIP_KIND kind

theorem State.choreSkip_eq (s : State) (kind slot : Nat) :
    s.choreSkip kind slot = (s.skipMarks kind slot).raise 6 F.TIME_EVT_CHORE_SKIP := rfl

theorem State.skipMarks_reports (kind slot : Nat) (h : cellsWf 0 s.regs = true) :
    s.ReportsOnly (s.skipMarks kind slot) [A.CHORE_SKIP, A.CHORE_LAST_SKIP] :=
  have a := State.put_reports F.CHORE_SKIP_COUNT (satAdd 32 (s.get F.CHORE_SKIP_COUNT) 1) h
  have b := a.trans (State.put_reports F.CHORE_LAST_SKIP_SLOT slot a.wf)
  (b.trans (State.put_reports F.CHORE_LAST_SKIP_KIND kind b.wf)).mono (by decide)

theorem State.choreSkip_reports (kind slot : Nat) (h : cellsWf 0 s.regs = true) :
    s.ReportsOnly (s.choreSkip kind slot) [A.CHORE_SKIP, A.CHORE_LAST_SKIP, A.TIME_EVT, A.EVT_RISE_s 6] :=
  have a := State.skipMarks_reports kind slot h
  a.trans (State.raise_reports 6 F.TIME_EVT_CHORE_SKIP a.wf)

theorem satAdd_lt (w v n : Nat) : satAdd w v n < 2 ^ w := by
  have := Nat.two_pow_pos w
  unfold satAdd
  omega

/-- What a skipped run leaves in the registers: the count, the kind and the slot. -/
theorem State.skipMarks_values (h : cellsWf 0 s.regs = true) (hk : kind < 64) (hs : slot < 1024) :
    (s.skipMarks kind slot).get F.CHORE_SKIP_COUNT = satAdd 32 (s.get F.CHORE_SKIP_COUNT) 1
      ∧ (s.skipMarks kind slot).get F.CHORE_LAST_SKIP_KIND = kind
      ∧ (s.skipMarks kind slot).get F.CHORE_LAST_SKIP_SLOT = slot := by
  have w1 := State.bump_wf F.CHORE_SKIP_COUNT 1 h
  have w2 := State.put_wf F.CHORE_LAST_SKIP_SLOT slot w1
  unfold State.skipMarks
  refine ⟨?_, ?_, ?_⟩
  · rw [State.get_put_ne _ _ _ w2 (by decide), State.get_put_ne _ _ _ w1 (by decide), State.bump,
      State.get_put_same _ _ h (by decide)]
    exact Nat.mod_eq_of_lt (satAdd_lt 32 _ 1)
  · rw [State.get_put_same _ _ w2 (by decide)]
    exact Nat.mod_eq_of_lt hk
  · rw [State.get_put_disj F.CHORE_LAST_SKIP_KIND F.CHORE_LAST_SKIP_SLOT _ w2 (by decide) rfl (by decide),
      State.get_put_same _ _ w1 (by decide)]
    exact Nat.mod_eq_of_lt hs

/-- A skipped run's event leaves its marks. -/
theorem State.get_choreSkip_of_mark (f : FRef) (h : cellsWf 0 s.regs = true)
    (hf : f.addr = A.CHORE_SKIP ∨ f.addr = A.CHORE_LAST_SKIP) :
    (s.choreSkip kind slot).get f = (s.skipMarks kind slot).get f := by
  rw [State.choreSkip_eq]
  refine (State.raise_reports 6 F.TIME_EVT_CHORE_SKIP (State.skipMarks_reports kind slot h).wf).same f ?_
  rcases hf with hf | hf <;> rw [hf] <;> decide

theorem State.choreSkip_event (h : cellsWf 0 s.regs = true) : (s.choreSkip kind slot).get F.TIME_EVT_CHORE_SKIP = 1 := by
  rw [State.choreSkip_eq,
    State.get_raise_same 6 F.TIME_EVT_CHORE_SKIP (State.skipMarks_reports kind slot h).wf (by decide) (by decide)]
  rfl

theorem State.choreSkip_frame (h : cellsWf 0 s.regs = true) :
    s.choreSkip kind slot = { s with regs := (s.choreSkip kind slot).regs, router := (s.choreSkip kind slot).router } :=
  (State.choreSkip_reports kind slot h).frame_of_quiet (State.raise_logs _ _ _) (State.raise_oa _ _ _)

end

/-- The eight chore commands with their previous run open, each with its kind and its target in the table (R60). -/
def openChore (c : Instr) (kind arg : Nat) : Prop :=
  (∃ m l p, c = .sidebandPoll m true l p ∧ kind = 1 ∧ arg = 257 * m.val) ∨ (∃ p, c = .pdKeepalive p true ∧ kind = 2 ∧ arg = p.val)
    ∨ (∃ x, c = .efuseThermal x true ∧ kind = 3 ∧ arg = x.val) ∨ (∃ i e, c = .eyeSample i true e ∧ kind = 4 ∧ arg = i.val)
    ∨ (∃ n, c = .queueStats n true ∧ kind = 5 ∧ arg = n.val) ∨ (c = .heartbeatChore true ∧ kind = 6 ∧ arg = 0)
    ∨ (c = .discServo true ∧ kind = 7 ∧ arg = 0) ∨ (∃ m x g, c = .wearSample m true x g ∧ kind = 8 ∧ arg = m.val)

/-- Each of them is a chore of its kind and target that finds its previous run open. -/
theorem exec_of_openChore {c : Instr} {kind arg : Nat} (h : openChore c kind arg) (s : State) :
    kind < 64 ∧ ∃ act, exec c s = .next (s.chore kind arg true act) := by
  rcases h with ⟨_, _, _, rfl, rfl, rfl⟩ | ⟨_, rfl, rfl, rfl⟩ | ⟨_, rfl, rfl, rfl⟩ | ⟨_, _, rfl, rfl, rfl⟩ | ⟨_, rfl, rfl, rfl⟩ |
    ⟨rfl, rfl, rfl⟩ | ⟨rfl, rfl, rfl⟩ | ⟨_, _, _, rfl, rfl, rfl⟩ <;> exact ⟨by decide, _, rfl⟩

/-- Settles O11: every chore command is a chore of its kind, and a skipped run leaves the marks of R63. -/
theorem choreSkips : Obligations.ChoreSkips := by
  intro c kind arg slot s hs hd hslot hc u
  obtain ⟨hk, act, he⟩ := exec_of_openChore hc s
  have hu : cellsWf 0 u.regs = true := by
    rw [State.choreTurn_regs]
    exact hs.regs
  have hget : ∀ g, u.get g = s.get g := s.get_choreTurn slot
  obtain ⟨h1, h2, h3⟩ := State.skipMarks_values hu hk hslot
  refine ⟨u.choreSkip kind slot, ?_, ?_, ?_, ?_, State.choreSkip_event hu, State.choreSkip_frame hu, fun g hg => ?_⟩
  · rw [he, State.chore_of_open act hd]
  · rw [State.get_choreSkip_of_mark _ hu (.inl rfl), h1, hget]
  · rw [State.get_choreSkip_of_mark _ hu (.inr rfl), h2]
  · rw [State.get_choreSkip_of_mark _ hu (.inr rfl), h3]
  · rw [(State.choreSkip_reports kind slot hu).same g hg, hget]

end Sys2Proof.Machine
end

section
/-! What a run of DISC_SERVO does (O13). -/
namespace Sys2Proof.Machine

/-! ### A change of the servo's state (R53) -/

section
variable {s : State}

/-- The registers that a change of the servo's state may change. -/
def discRegs : List Nat := [A.DISC_STATUS, A.TIME_EVT, A.EVT_RISE_s 5]

theorem State.discState_reports (st : Nat) (h : cellsWf 0 s.regs = true) : s.ReportsOnly (s.discState st) discRegs := by
  unfold State.discState
  split
  · exact (State.ReportsOnly.refl h).mono (by simp)
  · have a := State.put_reports F.DISC_STATUS_STATE st h
    exact a.trans (State.raise_reports 5 F.TIME_EVT_DISC_CHG a.wf)

@[simp] theorem State.discState_clock (s : State) (st : Nat) : (s.discState st).clock = s.clock := by
  unfold State.discState
  split
  · rfl
  · exact State.raise_clock _ _ _

@[simp] theorem State.discState_logs (s : State) (st : Nat) : (s.discState st).logs = s.logs := by
  unfold State.discState
  split
  · rfl
  · exact State.raise_logs _ _ _

@[simp] theorem State.discState_oa (s : State) (st : Nat) : (s.discState st).oa = s.oa := by
  unfold State.discState
  split
  · rfl
  · exact State.raise_oa _ _ _

/-- A change to the state that the servo is in is none. -/
theorem State.discState_self (s : State) : s.discState (s.get F.DISC_STATUS_STATE) = s := if_pos rfl

/-- The servo is in the state it changed to. -/
theorem State.get_discState_same {st : Nat} (h : cellsWf 0 s.regs = true) (hst : st < 4) :
    (s.discState st).get F.DISC_STATUS_STATE = st := by
  unfold State.discState
  split
  · assumption
  · rw [State.get_raise_ne _ _ _ (State.put_wf _ _ h) (by decide) (by decide), State.get_put_same _ _ h (by decide)]
    exact Nat.mod_eq_of_lt hst

/-- A change of the servo's state leaves the other fields of DISC_STATUS, and every register but those of the change. -/
theorem State.get_discState_ne (st : Nat) (g : FRef) (h : cellsWf 0 s.regs = true)
    (hg : g.addr = A.DISC_STATUS ∧ 2 ≤ g.lsb ∨ g.addr ∉ discRegs) : (s.discState st).get g = s.get g := by
  rcases hg with ⟨ha, hl⟩ | hg
  · unfold State.discState
    split
    · rfl
    · rw [State.get_raise_ne _ _ _ (State.put_wf _ _ h) (by rw [ha]; decide) (by rw [ha]; decide),
        State.get_put_disj F.DISC_STATUS_STATE g st h (by decide) ha (.inr hl)]
  · exact (State.discState_reports st h).same g hg

end

/-! ### The servo leaves a source (R53) -/

/-- The servo goes to state `st` with no active source and the clock changed by `f`. -/
def State.servoIdles (s : State) (f : Clock → Clock) (st : Nat) : State :=
  ((s.modClock f).put F.DISC_STATUS_ACTIVE_SRC 0).discState st

section
variable {s : State} (f : Clock → Clock) (st : Nat)

theorem State.servoIdles_clock : (s.servoIdles f st).clock = f s.clock := State.discState_clock _ _

theorem State.servoIdles_active (h : cellsWf 0 s.regs = true) : (s.servoIdles f st).get F.DISC_STATUS_ACTIVE_SRC = 0 := by
  have w : cellsWf 0 (s.modClock f).regs = true := h
  unfold State.servoIdles
  rw [State.get_discState_ne _ _ (State.put_wf _ _ w) (.inl (by decide)), State.get_put_same _ _ w (by decide)]
  rfl

theorem State.servoIdles_reports (h : cellsWf 0 s.regs = true) : (s.modClock f).ReportsOnly (s.servoIdles f st) discRegs :=
  have a := State.put_reports (s := s.modClock f) F.DISC_STATUS_ACTIVE_SRC 0 h
  (a.trans (State.discState_reports st a.wf)).mono (by decide)

theorem State.servoIdles_frame (h : cellsWf 0 s.regs = true) :
    s.servoIdles f st
      = { s with regs := (s.servoIdles f st).regs, router := (s.servoIdles f st).router, clock := f s.clock } :=
  (State.servoIdles_reports f st h).frame_of_quiet (State.discState_logs _ _) (State.discState_oa _ _)

end

section
variable {s : State}

/-- Without a source the servo is FREE. -/
theorem State.servoStep_of_no_source (h : s.discSources = []) :
    s.servoStep = s.servoIdles (fun c => { c with target := 0, integ := 0 }) Disc.free := by
  unfold State.servoStep State.discWritten
  rw [h]
  rfl

/-- The target that HOLDOVER holds (R53, log entry 107). -/
def State.holdTarget (s : State) : Int :=
  if 16 ≤ s.clock.targets.length then s.clock.targets.sum / (16 : Int) else signedOf 32 (s.get F.REF_ADJ_VALUE)

/-- Without a qualified source the servo goes to HOLDOVER. -/
theorem State.servoStep_of_no_qualified (h : s.discSources ≠ []) (hq : s.discSources.find? s.discQualified = none)
    (hst : s.get F.DISC_STATUS_STATE ≠ Disc.holdover) :
    s.servoStep = s.servoIdles (fun c => { c with target := s.holdTarget }) Disc.holdover := by
  unfold State.servoStep
  rw [if_neg (by simpa using h), hq]
  exact if_neg hst

/-- A servo that follows its active source runs on that source's measurement. -/
theorem State.servoStep_of_active {src at_ : Nat} {e : Int} (hq : s.discSources.find? s.discQualified = some src)
    (hp : vAt s.clock.phases src = some ⟨e, at_⟩) (ha : s.get F.DISC_STATUS_ACTIVE_SRC = src)
    (hst : s.get F.DISC_STATUS_STATE = Disc.locked ∨ s.get F.DISC_STATUS_STATE = Disc.acquire) :
    s.servoStep = s.servoRun e := by
  have hne : s.discSources ≠ [] := by
    intro h
    simp [h] at hq
  have hsame : (s.get F.DISC_STATUS_STATE = Disc.holdover || s.get F.DISC_STATUS_STATE = Disc.free
      || s.get F.DISC_STATUS_ACTIVE_SRC != src) = false := by
    rcases hst with hst | hst <;> rw [hst, ha] <;> simp [Disc.locked, Disc.acquire, Disc.holdover, Disc.free]
  unfold State.servoStep
  rw [if_neg (by simpa using hne), hq]
  dsimp only
  rw [hsame]
  simp only [Bool.false_eq_true, if_false, hp]

/-! ### A run on a source (R52) -/

/-- The phase error as DISC_PHASE and LOCK_RUN take it. -/
def State.phaseNoted (s : State) (e : Int) : State :=
  (s.put F.DISC_PHASE_E (toBits 32 (clampSigned 32 e))).put F.DISC_STATUS_LOCK_RUN
    (if e.natAbs < s.get F.DISC_LOOP_LOCK_NS then min 255 (s.get F.DISC_STATUS_LOCK_RUN + 1) else 0)

/-- A run in ACQUIRE whose error is more than STEP_US microseconds steps TOD. -/
def State.stepsTod (s : State) (e : Int) : Prop :=
  s.get F.DISC_STATUS_STATE = Disc.acquire ∧ s.get F.DISC_LIMITS_STEP_US * 1000 < e.natAbs

/-- The target that a run steers to. -/
def State.servoTarget (s : State) (e : Int) : Int :=
  (e / (2 ^ s.get F.DISC_LOOP_KP_SHIFT : Nat) + (s.clock.integ + e) / (2 ^ s.get F.DISC_LOOP_KI_SHIFT : Nat)) * 1100

/-- The clock after a run that steps TOD. -/
def State.stepClock (s : State) (e : Int) : Clock := { s.clock with step := some e, integ := 0 }

/-- The clock after a run that steers. -/
def State.steerClock (s : State) (e : Int) : Clock :=
  { s.clock with integ := s.clock.integ + e, target := s.servoTarget e,
                 targets := (s.servoTarget e :: s.clock.targets).take 16 }

section
variable (h : cellsWf 0 s.regs = true)
include h

theorem State.phaseNoted_reports (e : Int) : s.ReportsOnly (s.phaseNoted e) [A.DISC_PHASE, A.DISC_STATUS] :=
  have a := State.put_reports F.DISC_PHASE_E (toBits 32 (clampSigned 32 e)) h
  a.trans (State.put_reports F.DISC_STATUS_LOCK_RUN _ a.wf)

theorem State.phaseNoted_phase (e : Int) :
    (s.phaseNoted e).get F.DISC_PHASE_E = toBits 32 (clampSigned 32 e) % 2 ^ 32 := by
  unfold State.phaseNoted
  rw [State.get_put_ne _ _ _ (State.put_wf _ _ h) (by decide), State.get_put_same _ _ h (by decide)]
  rfl

theorem State.phaseNoted_lockRun (e : Int) :
    (s.phaseNoted e).get F.DISC_STATUS_LOCK_RUN
      = if e.natAbs < s.get F.DISC_LOOP_LOCK_NS then min 255 (s.get F.DISC_STATUS_LOCK_RUN + 1) else 0 := by
  unfold State.phaseNoted
  rw [State.get_put_same _ _ (State.put_wf _ _ h) (by decide)]
  refine Nat.mod_eq_of_lt ?_
  show _ < 256
  split <;> omega

/-- A run on a source, its phase error noted. -/
theorem State.servoRun_eq (e : Int) :
    s.servoRun e
      = if s.get F.DISC_STATUS_STATE = Disc.acquire && decide (s.get F.DISC_LIMITS_STEP_US * 1000 < e.natAbs) then
          (s.phaseNoted e).modClock (fun _ => s.stepClock e)
        else
          let t := (s.phaseNoted e).modClock (fun _ => s.steerClock e)
          if s.get F.DISC_STATUS_STATE = Disc.acquire && 16 ≤ t.get F.DISC_STATUS_LOCK_RUN then t.discState Disc.locked
          else if s.get F.DISC_STATUS_STATE = Disc.locked && decide (4 * (s.get F.DISC_LOOP_LOCK_NS : Int) < (e.natAbs : Int))
            then t.discState Disc.acquire
          else t := by
  have hr := (State.phaseNoted_reports h e).same
  unfold State.servoRun
  dsimp only
  rw [State.get_put_ne F.DISC_PHASE_E F.DISC_STATUS_LOCK_RUN _ h (by decide)]
  simp only [Nat.cast_lt]
  rw [← State.phaseNoted, hr F.DISC_LIMITS_STEP_US (by decide), hr F.DISC_LOOP_KP_SHIFT (by decide),
    hr F.DISC_LOOP_KI_SHIFT (by decide)]
  rfl

/-- A run that does not step TOD steers and takes the state that follows. -/
theorem State.servoRun_of_steering {e : Int} (hc : ¬ s.stepsTod e) :
    ∃ st, s.servoRun e = ((s.phaseNoted e).modClock (fun _ => s.steerClock e)).discState st := by
  rw [State.servoRun_eq h, if_neg (by simpa [State.stepsTod] using hc)]
  dsimp only
  split
  · exact ⟨_, rfl⟩
  · split
    · exact ⟨_, rfl⟩
    · exact ⟨_, (State.discState_self _).symm⟩

/-- A run notes the phase error, changes the clock by a step of TOD or by steering, and takes the state that follows. -/
theorem State.servoRun_cases (e : Int) :
    ∃ c st, s.servoRun e = ((s.phaseNoted e).modClock (fun _ => c)).discState st
      ∧ (s.stepsTod e → c = s.stepClock e) ∧ (¬ s.stepsTod e → c = s.steerClock e) := by
  by_cases hc : s.stepsTod e
  · have hrun : s.servoRun e = (s.phaseNoted e).modClock (fun _ => s.stepClock e) := by
      rw [State.servoRun_eq h, if_pos (by simpa [State.stepsTod] using hc)]
    exact ⟨_, _, hrun.trans (State.discState_self _).symm, fun _ => rfl, fun hn => absurd hc hn⟩
  · obtain ⟨st, hst⟩ := State.servoRun_of_steering h hc
    exact ⟨_, st, hst, fun hn => absurd hn hc, fun _ => rfl⟩

/-- The state of a run whose phase error has been noted and whose clock has changed. -/
theorem State.phaseNoted_get (e : Int) (c : Clock) (st : Nat) :
    ((((s.phaseNoted e).modClock (fun _ => c)).discState st).get F.DISC_PHASE_E = toBits 32 (clampSigned 32 e) % 2 ^ 32)
      ∧ (((s.phaseNoted e).modClock (fun _ => c)).discState st).get F.DISC_STATUS_LOCK_RUN
        = if e.natAbs < s.get F.DISC_LOOP_LOCK_NS then min 255 (s.get F.DISC_STATUS_LOCK_RUN + 1) else 0 := by
  have w : cellsWf 0 ((s.phaseNoted e).modClock (fun _ => c)).regs = true := (State.phaseNoted_reports h e).wf
  refine ⟨?_, ?_⟩
  · rw [State.get_discState_ne _ _ w (.inr (by decide)), State.get_modClock, State.phaseNoted_phase h]
  · rw [State.get_discState_ne _ _ w (.inl (by decide)), State.get_modClock, State.phaseNoted_lockRun h]

end

end

/-- Settles O13: FREE, HOLDOVER, and a run on the active source. -/
theorem disciplineServo : Obligations.DisciplineServo := by
  intro s slot hs hd u
  have hu : cellsWf 0 u.regs = true := by
    rw [State.choreTurn_regs]
    exact hs.regs
  have he : exec (.discServo false) s = .next u.servoStep :=
    congrArg Host.Outcome.next (State.chore_of_ended State.servoStep hd)
  clear_value u
  refine ⟨fun h => ?_, fun h hq hst => ?_, fun src e at_ hq hp ha hst => ?_⟩
  · rw [he, State.servoStep_of_no_source h]
    refine ⟨_, rfl, State.get_discState_same ?_ (by decide), State.servoIdles_active _ _ hu, State.servoIdles_clock _ _, ?_,
      (State.servoIdles_reports _ _ hu).same⟩
    · exact State.put_wf _ _ hu
    · rw [State.servoIdles_clock]
      exact State.servoIdles_frame _ _ hu
  · rw [he, State.servoStep_of_no_qualified h hq hst]
    refine ⟨_, rfl, State.get_discState_same ?_ (by decide), State.servoIdles_active _ _ hu, ?_, ?_,
      (State.servoIdles_reports _ _ hu).same⟩
    · exact State.put_wf _ _ hu
    · rw [State.servoIdles_clock]
      rfl
    · rw [State.servoIdles_clock]
      exact State.servoIdles_frame _ _ hu
  · obtain ⟨c, st, hrun, hstep, hsteer⟩ := State.servoRun_cases hu e
    obtain ⟨hphase, hlock⟩ := State.phaseNoted_get hu e c st
    have r := State.phaseNoted_reports hu e
    have r' := State.discState_reports (s := (u.phaseNoted e).modClock (fun _ => c)) st r.wf
    have hc := State.discState_clock ((u.phaseNoted e).modClock (fun _ => c)) st
    rw [he, State.servoStep_of_active hq hp ha hst, hrun]
    refine ⟨_, rfl, hphase, hlock, fun hs => hc.trans (hstep hs), fun hs => ?_, ?_, fun g hg => ?_⟩
    · rw [hc]
      show c.integ = _ ∧ c.target = _ ∧ c = _
      rw [hsteer hs]
      exact ⟨rfl, rfl, rfl⟩
    · rw [hc]
      exact r'.frame_of_quiet (State.discState_logs _ _) (State.discState_oa _ _)
    · simp only [List.mem_cons, List.not_mem_nil, or_false, not_or] at hg
      obtain ⟨h1, h2, h3, h4⟩ := hg
      rw [r'.same g (by simp [discRegs, h1, h3, h4]), State.get_modClock, r.same g (by simp [h1, h2])]

end Sys2Proof.Machine
end

section
/-! What each wear monitor's run does (O14). -/
namespace Sys2Proof.Machine

/-! ### Thresholds (R617, R618) -/

section
variable {s : State}

theorem State.withOa_reports (o : Oasis) (h : cellsWf 0 s.regs = true) : s.ReportsOnly { s with oa := o } [] :=
  ⟨h, rfl, fun _ _ => rfl⟩

theorem State.threshold_reports (n inst : Nat) (above : Bool) (h : cellsWf 0 s.regs = true) :
    s.ReportsOnly (s.threshold n inst above) [A.OA_NOTICE, A.OA_NOTICE_DETAIL_n n, A.OA_EVT, A.EVT_RISE_s 0] := by
  unfold State.threshold
  dsimp only
  split
  · have a := State.withOa_reports { s.oa with crossed := s.oa.crossed ++ [(n, inst)] } h
    exact a.trans (State.notice_reports n inst a.wf)
  · split
    · exact (State.withOa_reports _ h).mono (by simp)
    · exact (State.ReportsOnly.refl h).mono (by simp)

/-! ### Monitor 0: the junction (R615) -/

/-- The hottest sample and the peak as OA_TJ takes them. -/
def State.heatNoted (s : State) (sample : Int) : State :=
  (s.put F.OA_TJ_NOW (toBits 12 (clampSigned 12 sample))).put F.OA_TJ_PEAK
    (toBits 12 (clampSigned 12 (max (signedOf 12 (s.get F.OA_TJ_PEAK)) sample)))

/-- The ageing of a run of monitor 0 and the hours above 125 degC. -/
def State.heatAged (s : State) (sample : Int) : State :=
  let period := s.wearPeriod 0
  let age := s.oa.ageFrac.1 + Config.ageStep sample period
  let hot := s.oa.ageFrac.2 + (if sample > 500 then period else 0)
  let s := (s.bump F.OA_AGE_EQ (age / 2 ^ 32)).bump F.OA_HOT_H (hot / 1800000)
  { s with oa := { s.oa with ageFrac := (age % 2 ^ 32, hot % 1800000) } }

/-- What monitor 0 reports of the ageing. -/
def State.ageReport (s : State) : State :=
  let s := s.threshold 13 0 (decide (225000 * 16 ≤ s.get F.OA_AGE_EQ))
  s.threshold 14 0 (decide (1800 * 16 ≤ s.get F.OA_HOT_H))

/-- A sample above 150 degC is logged. -/
def State.heatLogged (s : State) (sample : Int) : State :=
  if sample > 600 then s.logHw 7 2 0 0x1A 41 (sample / 4).toNat else s

/-- A sample above the warning limit raises source 11. -/
def State.heatWarned (s : State) (sample : Int) : State :=
  if sample > (400 + 40 * s.get F.OA_CFG_TJ_WARN : Nat) then s.raise 11 ⟨A.OA_EVT, 6, 1⟩ else s

/-- What monitor 0 reports of the sample. -/
def State.heatReport (s : State) (sample : Int) : State :=
  ((s.heatLogged sample).threshold 15 0 (decide (sample > 600))).heatWarned sample

theorem State.wearHeat_eq (s : State) (sample : Int) :
    s.wearHeat sample = (((s.heatNoted sample).heatAged sample).ageReport).heatReport sample := rfl

/-- The registers by which monitor 0 reports. -/
def heatRegs : List Nat :=
  [A.OA_AGE, A.OA_HOT, A.OA_NOTICE, A.OA_NOTICE_DETAIL_n 13, A.OA_NOTICE_DETAIL_n 14, A.OA_NOTICE_DETAIL_n 15, A.OA_EVT,
    A.EVT_RISE_s 0, A.EVT_RISE_s 1, A.EVT_RISE_s 11]

section
variable (h : cellsWf 0 s.regs = true)
include h

theorem State.heatAged_reports (sample : Int) : s.ReportsOnly (s.heatAged sample) heatRegs :=
  have a := State.put_reports F.OA_AGE_EQ _ h
  have b := a.trans (State.put_reports F.OA_HOT_H _ a.wf)
  (b.trans (State.withOa_reports _ b.wf)).mono (by decide)

theorem State.ageReport_reports : s.ReportsOnly s.ageReport heatRegs :=
  have a := State.threshold_reports 13 0 _ h
  (a.trans (State.threshold_reports 14 0 _ a.wf)).mono (by decide)

theorem State.heatLogged_reports (sample : Int) : s.ReportsOnly (s.heatLogged sample) heatRegs := by
  unfold State.heatLogged
  split
  · exact (State.logHw_reports _ _ _ _ _ _ h).mono (by decide)
  · exact (State.ReportsOnly.refl h).mono (by decide)

theorem State.heatWarned_reports (sample : Int) : s.ReportsOnly (s.heatWarned sample) heatRegs := by
  unfold State.heatWarned
  split
  · exact (State.raise_reports 11 ⟨A.OA_EVT, 6, 1⟩ h).mono (by decide)
  · exact (State.ReportsOnly.refl h).mono (by decide)

theorem State.heatReport_reports (sample : Int) : s.ReportsOnly (s.heatReport sample) heatRegs :=
  have a := State.heatLogged_reports h sample
  have b := a.trans (State.threshold_reports 15 0 _ a.wf)
  (b.trans (State.heatWarned_reports b.wf sample)).mono (by decide)

/-- OA_TJ after a run of monitor 0. -/
theorem State.get_wearHeat_tj (sample : Int) (g : FRef) (hg : g.addr = A.OA_TJ) :
    (s.wearHeat sample).get g = (s.heatNoted sample).get g := by
  have hn : g.addr ∉ heatRegs := by
    rw [hg]
    decide
  have w : cellsWf 0 (s.heatNoted sample).regs = true := State.put_wf _ _ (State.put_wf _ _ h)
  have a := State.heatAged_reports w sample
  have b := State.ageReport_reports a.wf
  rw [State.wearHeat_eq, (State.heatReport_reports b.wf sample).same g hn, b.same g hn, a.same g hn]

theorem State.wearHeat_now (sample : Int) :
    (s.wearHeat sample).get F.OA_TJ_NOW = toBits 12 (clampSigned 12 sample) % 2 ^ 12 := by
  rw [State.get_wearHeat_tj h _ _ rfl]
  unfold State.heatNoted
  rw [State.get_put_disj F.OA_TJ_PEAK F.OA_TJ_NOW _ (State.put_wf _ _ h) (by decide) rfl (by decide),
    State.get_put_same _ _ h (by decide)]
  rfl

theorem State.wearHeat_peak (sample : Int) :
    (s.wearHeat sample).get F.OA_TJ_PEAK
      = toBits 12 (clampSigned 12 (max (signedOf 12 (s.get F.OA_TJ_PEAK)) sample)) % 2 ^ 12 := by
  rw [State.get_wearHeat_tj h _ _ rfl]
  unfold State.heatNoted
  rw [State.get_put_same _ _ (State.put_wf _ _ h) (by decide)]
  rfl

end

/-! ### Monitor 1: the ring oscillators (R615, R645) -/

/-- The slowdown as OA_RO takes it; VDD_CORE goes up as it grows. -/
def State.ringNoted (s : State) (slow : Nat) : State :=
  let t := s.put F.OA_RO_SLOW (min slow 255)
  if s.get F.OA_RO_SLOW < min slow 255 then
    ({ t with rails := { t.rails with vid := min 40 (t.rails.vid + t.freeVal 1) } } : State).took
  else t

theorem State.wearRing_eq (s : State) (slow : Nat) :
    s.wearRing slow = (s.ringNoted slow).threshold 12 0 (decide (40 < slow)) := rfl

theorem State.ringNoted_regs (s : State) (slow : Nat) :
    (s.ringNoted slow).regs = (s.put F.OA_RO_SLOW (min slow 255)).regs := by
  unfold State.ringNoted
  dsimp only
  split <;> rfl

theorem State.wearRing_slow (h : cellsWf 0 s.regs = true) (slow : Nat) : (s.wearRing slow).get F.OA_RO_SLOW = min slow 255 := by
  have hr := s.ringNoted_regs slow
  have hw : cellsWf 0 (s.ringNoted slow).regs = true := by
    rw [hr]
    exact State.put_wf _ _ h
  rw [State.wearRing_eq, (State.threshold_reports 12 0 _ hw).same _ (by decide),
    State.get_congr (s := s.put F.OA_RO_SLOW (min slow 255)) hr, State.get_put_same _ _ h (by decide)]
  refine Nat.mod_eq_of_lt ?_
  show _ < 256
  omega

end

/-! ### Monitor 4: corrected symbols (R613) -/

/-- Monitor 4 with the samples of a port split into those of the last 8,000 ticks and the older ones. -/
theorem State.wearBer_eq (s : State) :
    s.wearBer = s.each (List.range 4) (fun s h =>
      let n := s.get (F.CV_CORR_SYM_COUNT h)
      let old := (vAt s.oa.symSeen h).filter (fun e => decide (e.1 + 8000 ≤ s.tick))
      let young := (vAt s.oa.symSeen h).filter (fun e => decide (s.tick < e.1 + 8000))
      let b : State := { s with oa := { s.oa with symSeen := vPut s.oa.symSeen h ((s.tick, n) :: (young ++ old.take 1)) } }
      b.threshold 10 h (decide (b.get F.OA_LIMIT2_CORR_SYM < n - (old.head?.map (·.2)).getD 0))) := by
  unfold State.wearBer
  simp only [List.head?_filter]

/-! ### The run of a monitor (R613) -/

/-- A monitor's run is its act at the state of the slot. -/
theorem exec_wearSample_of_ended {s : State} {slot : Nat} {m : Fin 8} {x : Int} {g : BitVec 9} (act : State → State)
    (hact : exec (.wearSample m false x g) s = .next (s.chore 8 m.val false act)) (hd : s.choreDue 8 m.val = some slot) :
    exec (.wearSample m false x g) s = .next (act (s.choreTurn slot)) := by
  rw [hact, State.chore_of_ended act hd]

/-- Monitor 7: the wear record is due once its period has passed (R619). -/
def State.wearRecordDue (s : State) : State :=
  if s.oa.recordAt + 691200000 ≤ s.tick then { s with oa := { s.oa with recordDue := true } } else s

/-- The two cases of the period are told apart before the monitor is, so that its numeral is not counted down. -/
theorem exec_wearSample_seven (s : State) (x : Int) (g : BitVec 9) :
    exec (.wearSample 7 false x g) s = .next (s.chore 8 (7 : Fin 8).val false (fun s => s.wearRecordDue)) := by
  show execWearSample 7 false x g s = _
  unfold execWearSample
  refine congrArg Host.Outcome.next (congrArg _ (funext fun u => ?_))
  unfold State.wearRecordDue
  by_cases h : u.oa.recordAt + 691200000 ≤ u.tick
  · rw [if_pos h]
    rfl
  · rw [if_neg h]
    rfl

/-- Settles O14: the run of each monitor, at the state of its slot. -/
theorem wearMonitors : Obligations.WearMonitors := by
  intro s slot x g hs u
  have hu : cellsWf 0 u.regs = true := by
    rw [State.choreTurn_regs]
    exact hs.regs
  have hpeak : u.get F.OA_TJ_PEAK = s.get F.OA_TJ_PEAK := s.get_choreTurn slot _
  refine ⟨fun hd => ⟨u.wearHeat x, ?_, State.wearHeat_now hu x, ?_⟩, fun hd => ⟨u.wearRing x.toNat, ?_, State.wearRing_slow hu _⟩,
    fun hd => ?_, fun hd => ?_, fun hd => ?_, fun hd => ?_, fun hd => ?_, fun hd => ?_⟩
  · exact exec_wearSample_of_ended (fun s => s.wearHeat x) rfl hd
  · rw [← hpeak]
    exact State.wearHeat_peak hu x
  · exact exec_wearSample_of_ended (fun s => s.wearRing x.toNat) rfl hd
  · exact exec_wearSample_of_ended _ rfl hd
  · exact exec_wearSample_of_ended (fun s => s.wearAttach) rfl hd
  · rw [exec_wearSample_of_ended (m := 4) (fun s => s.wearBer) rfl hd, State.wearBer_eq]
  · exact exec_wearSample_of_ended (fun s => s.wearEyes) rfl hd
  · exact exec_wearSample_of_ended (fun s => s.wearSlices g.toNat) rfl hd
  · exact exec_wearSample_of_ended (fun s => s.wearRecordDue) (exec_wearSample_seven s x g) hd

end Sys2Proof.Machine
end

section
/-! What a run of each chore does (O12). -/
namespace Sys2Proof.Machine

/-! ### SIDEBAND_POLL (R483, R488, R491) -/

section
variable {u : State} {m : Nat} {v : BitVec 8} {p : Option (BitVec 128)}

/-- The lines that a poll finds: those of the GP group, or the byte of its read. -/
def State.pollRead (u : State) (m : Nat) (v : BitVec 8) : BitVec 8 :=
  if bitsOf (u.mdCfg m 0) 1 2 = 1 then u.mdGroup m v else v

/-- The state of a poll with the lines found: a one-byte read on the bus but for a GP group, and the lines stored (R482). -/
def State.pollLines (u : State) (m : Nat) (v : BitVec 8) : State :=
  (if bitsOf (u.mdCfg m 0) 1 2 = 1 then u.took else u.mdAsk m (bitsOf (u.mdCfg m 1) 0 7) (bitsOf (u.mdCfg m 1) 8 8) 1).mdLines m
    ((u.pollRead m v).toNat ^^^ bitsOf (u.mdCfg m 0) 24 8)

/-- A poll finds its lines where its GP group or a running bus gives them. -/
theorem State.mdSense_of_runs (hb : bitsOf (u.mdCfg m 0) 1 2 ≠ 1 → u.busRuns m = true) :
    u.mdSense m (some v) = (some (u.pollRead m v),
      if bitsOf (u.mdCfg m 0) 1 2 = 1 then u.took else u.mdAsk m (bitsOf (u.mdCfg m 1) 0 7) (bitsOf (u.mdCfg m 1) 8 8) 1) := by
  unfold State.mdSense State.pollRead
  by_cases hg : bitsOf (u.mdCfg m 0) 1 2 = 1
  · simp only [if_pos hg, Option.getD_some]
  · simp only [if_neg hg, if_pos (hb hg)]

/-- A run on an idle bus polls the slot at once. -/
theorem State.mdRun_of_idle (hc : (u.fb m).cur = none) (hk : (u.fb m).keep = none) (l : Option (BitVec 8)) :
    u.mdRun m l p = u.mdPoll m true l p := by
  unfold State.mdRun
  rw [hc, hk]
  rfl

/-- A slot in use that reads no record only looks at its lines. -/
theorem State.mdPoll_of_not_reading (hp : u.mdPolled m = true) (hr : u.unitRuns 15 = true) (hn : u.mdReads m = false)
    (l : Option (BitVec 8)) : u.mdPoll m true l p = (u.mdLook m l).mdClear m := by
  unfold State.mdPoll
  rw [hp, hr, hn]
  rfl

section
variable (hb : bitsOf (u.mdCfg m 0) 1 2 ≠ 1 → u.busRuns m = true)
include hb

/-- Without ID_EN a look at the lines leaves the slot unconfirmed. -/
theorem State.mdLook_without_id (hid : bitAt (u.mdCfg m 0) 3 = false) :
    u.mdLook m (some v) = (u.pollLines m v).setSlot m (fun d => { d with confirm := false }) := by
  unfold State.mdLook
  simp only [State.mdSense_of_runs hb, hid]
  rfl

/-- With ID_EN a module found in an EMPTY slot is an insertion, and its record is read. -/
theorem State.mdLook_of_inserted (hid : bitAt (u.mdCfg m 0) 3 = true) (hh : (u.pollLines m v).present m = true)
    (he : (u.pollLines m v).mdState m = Md.empty) :
    u.mdLook m (some v) = ((u.pollLines m v).bump (F.WD_MOD_COUNT_INSERTS m) 1).mdRead m true := by
  unfold State.mdLook
  simp only [State.mdSense_of_runs hb, hid, if_true]
  rw [← State.pollLines, hh, he]
  rfl

/-- With ID_EN a slot whose module is not present is EMPTY. -/
theorem State.mdLook_of_absent (hid : bitAt (u.mdCfg m 0) 3 = true) (hh : (u.pollLines m v).present m = false) :
    u.mdLook m (some v) = (((u.pollLines m v).setSlot m
      (fun d => { d with confirm := false, ready := false, piece := 0, fails := 0 })).put (F.WD_MOD_STATUS_VALID m) 0).mdTo m
        Md.empty := by
  unfold State.mdLook
  simp only [State.mdSense_of_runs hb, hid, if_true]
  rw [← State.pollLines, hh]
  rfl

end
end

theorem exec_sidebandPoll_of_ended {s : State} {slot : Nat} (m : Fin 8) (l : Option (BitVec 8)) (p : Option (BitVec 128))
    (hd : s.choreDue 1 (257 * m.val) = some slot) :
    exec (.sidebandPoll m false l p) s = .next ((s.choreTurn slot).mdRun m l p) :=
  congrArg Host.Outcome.next (State.chore_of_ended (fun s => s.mdRun m l p) hd)

/-! ### PD_KEEPALIVE (R516) -/

section
variable {u : State} {p : Nat} (hon : u.pdOn p = true) (hsink : u.isSrc p = false) (hcon : u.hasContract p = true)
include hon hsink hcon

/-- A sink in EPR mode with a contract that needs no repeated request sends the EPR keep-alive. -/
theorem State.pdKeep_of_epr (he : u.get (F.TC_STATUS_EPR p) = 1) (hk : u.get (F.PD_CONTRACT_TYPE p) = 0) :
    u.pdKeep p = u.pdExt p Msg.extControl [3, 0] := by
  unfold State.pdKeep
  simp [hon, hsink, hcon, State.flag, he, hk, State.iff]

/-- A sink outside EPR mode repeats the request of a PPS or AVS contract whose interval has passed. -/
theorem State.pdKeep_of_interval (he : u.get (F.TC_STATUS_EPR p) = 0)
    (hk : u.get (F.PD_CONTRACT_TYPE p) = 1 ∨ u.get (F.PD_CONTRACT_TYPE p) = 2) (hw : (u.tcp p).wait = .nothing)
    (hi : (u.tcp p).reqTick + 8000 * bitsOf (u.get (F.TC_CFG_w_V p 1)) 8 4 ≤ u.rails.hamada) :
    u.pdKeep p = u.sendRequest p (u.get (F.PD_RDO_V p)) := by
  unfold State.pdKeep
  simp [hon, hsink, hcon, State.flag, he, hk, hw, hi, State.iff]

end

theorem exec_pdKeepalive_of_ended {s : State} {slot : Nat} (p : Fin 4) (hd : s.choreDue 2 p.val = some slot) :
    exec (.pdKeepalive p false) s = .next ((s.choreTurn slot).pdKeep p) :=
  congrArg Host.Outcome.next (State.chore_of_ended (fun s => s.pdKeep p) hd)

/-! ### EFUSE_THERMAL (R552) -/

/-- A channel in use steps its model, and the step is not its own. -/
theorem exec_efuseThermal_of_ended {s : State} {slot : Nat} (c : Fin 8) (hd : s.choreDue 3 c.val = some slot)
    (ht : (s.choreTurn slot).efTopo c ≠ 0) :
    exec (.efuseThermal c false) s = .next ((s.choreTurn slot).efStep c false) := by
  refine congrArg Host.Outcome.next ((State.chore_of_ended _ hd).trans ?_)
  exact if_neg ht

/-! ### EYE_SAMPLE (R197 to R200) -/

section
variable {u : State} {g l errors : Nat} {e : EyeScan} (he : vAt u.eyes (4 * g + l) = e) (hat : e.at_ + 1 < 4 * u.eyesOf g l)
  (hr : e.retest = false)
include he hat hr

/-- A point that passes grows its margin, and the scan goes on to the next. -/
theorem State.eyePoint_of_pass (hp : errors ≤ u.get (F.LG_DWELL_MAX_ERR g)) :
    u.eyePoint g l errors = { u with
      eyes := vPut u.eyes (4 * g + l) { e with
        at_ := e.at_ + 1, margins := vPut e.margins e.at_ (min (marginMax e.at_) (vAt e.margins e.at_ + 1)) } } := by
  have hmod : e.at_ % (4 * u.eyesOf g l) = e.at_ := Nat.mod_eq_of_lt (by omega)
  have hnext : (e.at_ + 1) % (4 * u.eyesOf g l) = e.at_ + 1 := Nat.mod_eq_of_lt hat
  unfold State.eyePoint
  simp [he, hr, hp, hmod, hnext, hat.ne]

/-- A point that fails for the first time waits for a second test. -/
theorem State.eyePoint_of_first_failure (hp : u.get (F.LG_DWELL_MAX_ERR g) < errors) :
    u.eyePoint g l errors = { u with eyes := vPut u.eyes (4 * g + l) { e with retest := true } } := by
  have hmod : e.at_ % (4 * u.eyesOf g l) = e.at_ := Nat.mod_eq_of_lt (by omega)
  unfold State.eyePoint
  simp [he, hr, hp, hmod]

end

/-- A lane with an active receiver and no eye point of its own running is tested. -/
theorem exec_eyeSample_of_ended {s : State} {slot : Nat} (i : Fin 36) (errors : Nat) (hd : s.choreDue 4 i.val = some slot)
    (hb : s.get (F.LN_EYE_RESULT_BUSY (i.val / 4) (i.val % 4)) = 0)
    (hdir : i.val / 4 < 4 → (s.choreTurn slot).get (F.LN_STATUS_DIR (i.val / 4) (i.val % 4)) = 0)
    (ha : (s.choreTurn slot).rxActive (i.val / 4) (i.val % 4) = true) :
    exec (.eyeSample i false errors) s = .next ((s.choreTurn slot).eyePoint (i.val / 4) (i.val % 4) errors) := by
  show execEyeSample i false errors s = _
  have hopen : (false || s.flag (F.LN_EYE_RESULT_BUSY (i.val / 4) (i.val % 4))) = false := by
    simp [State.flag, hb]
  have hsends : (decide (i.val / 4 < 4) && (s.choreTurn slot).flag (F.LN_STATUS_DIR (i.val / 4) (i.val % 4))) = false := by
    by_cases h : i.val / 4 < 4
    · simp [State.flag, hdir h]
    · simp [h]
  unfold execEyeSample
  dsimp only
  rw [hopen, State.chore_of_ended _ hd, hsends, ha]
  rfl

/-- Settles O12: the run of each chore, at the state of its slot. -/
theorem choreRuns : Obligations.ChoreRuns := by
  intro s slot u
  refine ⟨fun m v p hd hp hr hb hc hk => ?_, fun p hd hon hsink hcon => ⟨fun he hk => ?_, fun he hk hw hi => ?_⟩,
    fun c hd ht => exec_efuseThermal_of_ended c hd ht, fun i errors hd => ?_,
    fun n hd => congrArg Host.Outcome.next (State.chore_of_ended _ hd),
    fun hd => congrArg Host.Outcome.next (State.chore_of_ended _ hd)⟩
  · intro gp read u1 s1
    have poll (hn : u.mdReads m = false) :
        exec (.sidebandPoll m false (some v) p) s = .next ((u.mdLook m (some v)).mdClear m) := by
      rw [exec_sidebandPoll_of_ended m _ _ hd, State.mdRun_of_idle hc hk, State.mdPoll_of_not_reading hp hr hn]
    refine ⟨fun hid => ?_, fun hid hst hh he => ?_, fun hid hst hh => ?_⟩
    · rw [poll (by simp [State.mdReads, hid]), State.mdLook_without_id hb hid]
      rfl
    · rw [poll (by simp [State.mdReads, hst, Md.empty, Md.reading]), State.mdLook_of_inserted hb hid hh he]
      rfl
    · rw [poll (by simp [State.mdReads, hst]), State.mdLook_of_absent hb hid hh]
      rfl
  · rw [exec_pdKeepalive_of_ended p hd, State.pdKeep_of_epr hon hsink hcon he hk]
  · rw [exec_pdKeepalive_of_ended p hd, State.pdKeep_of_interval hon hsink hcon he hk hw hi]
  · intro g l e hbusy hdir ha hat hretest
    have hu : u.eyes = s.eyes := s.choreTurn_eyes slot
    have he : vAt u.eyes (4 * g + l) = e := by rw [hu]
    refine ⟨fun hp => ?_, fun hp => ?_⟩
    · rw [exec_eyeSample_of_ended i errors hd hbusy hdir ha, State.eyePoint_of_pass he hat hretest hp, hu]
    · rw [exec_eyeSample_of_ended i errors hd hbusy hdir ha, State.eyePoint_of_first_failure he hat hretest hp, hu]

end Sys2Proof.Machine
end

section
/-! What OTP holds under the commands (O5, O7). -/
namespace Sys2Proof.Machine

/-- Settles O5: what every command keeps includes OTP's hashes and revoke bits. -/
theorem noCommandUndoesOtp : Obligations.NoCommandUndoesOtp := by
  intro c s t hs h
  have hk := exec_kept c (Kept.refl hs)
  rw [h] at hk
  exact hk.otp

/-! ### A reply leaves the configuration image as it was -/

section
variable (s : State)

@[simp] theorem State.relist_img (q : Nat) : (s.relist q).img = s.img := by
  unfold State.relist
  dsimp only
  repeat' split
  all_goals rfl

@[simp] theorem State.setFiling_img (q e : Nat) (f : Filing) : (s.setFiling q e f).img = s.img := by
  unfold State.setFiling
  dsimp only
  split <;> rfl

@[simp] theorem State.file_img (q : Nat) : (s.file q).img = s.img := by
  unfold State.file
  dsimp only
  split
  · exact s.setFiling_img _ _ _
  · split <;> exact s.setFiling_img _ _ _

@[simp] theorem State.accrue_img (q : Nat) : (s.accrue q).img = s.img := by
  unfold State.accrue
  split <;> rfl

@[simp] theorem State.join_img (q : Nat) (i : QItem) : (s.join q i).img = s.img := by
  unfold State.join
  dsimp only
  split <;> simp

@[simp] theorem State.enqueue_img (q : Nat) (i : QItem) : (s.enqueue q i).img = s.img := by
  unfold State.enqueue
  dsimp only
  split <;> simp

@[simp] theorem State.replyUp_img (h n tag op result bus : Nat) (data : List Word) :
    (s.replyUp h n tag op result bus data).img = s.img :=
  foldl_inv (fun t : State => t.img = s.img) _ (fun t _ ht => (t.enqueue_img _ _).trans ht) _ _ rfl

@[simp] theorem State.reply_img (a : Nat) (tr : Transport) (tag op result : Nat) (data : List Word) (bus : Nat) :
    (s.reply a tr tag op result data bus).img = s.img := by
  unfold State.reply
  split
  · split
    · exact s.replyUp_img _ _ _ _ _ _ _
    · rfl
  · split <;> rfl
  · rfl

@[simp] theorem State.complete_img (a tag result : Nat) (data : List Word) :
    (s.complete a tag result data).img = s.img := by
  unfold State.complete
  split
  · split
    · rfl
    · exact State.reply_img _ _ _ _ _ _ _ _
  · rfl

end

/-! ### The end of a commit's checks (R91) -/

section
variable {s : State}

/-- The checks of a commit that ends elsewhere than in BARE, or for an agent out of service mode, leave OTP as it was. -/
theorem State.commitChecked_otp (x : Session) (tr : Transport) (tag : Nat)
    (h : s.img.phase ≠ .bare ∨ s.inService x.agent = false) : (s.commitChecked x tr tag).img.otp = s.img.otp := by
  unfold State.commitChecked
  dsimp only
  split
  case h_1 => rw [State.complete_img]; rfl
  case h_2 e slot enrol hg =>
    cases enrol with
    | false => rfl
    | true =>
      obtain ⟨-, hbare, a, ha, hservice⟩ := State.imageJudge_enrol s _ _ e slot hg
      cases ha
      rcases h with h | h
      · exact absurd hbare h
      · exact absurd hservice (by simp [h])

/-- Of IMAGE_CHECK_DONE the checks of the open session's commit alone touch the state. -/
theorem execImageCheckDone_cases (s : State) : execImageCheckDone s = .next s ∨
    ∃ x tr tag, s.img.session = some x ∧ execImageCheckDone s = .next (s.commitChecked x tr tag) := by
  unfold execImageCheckDone
  split
  · rename_i x hx
    split
    · split
      · exact .inr ⟨x, _, _, hx, rfl⟩
      · exact .inl rfl
    · exact .inl rfl
  · exact .inl rfl

end

/-- Settles O7: no command undoes a hash, and an image that enrols its key passed its checks in BARE, for an agent in service
mode. -/
theorem slotsAreProgrammedOnlyInBare : Obligations.SlotsAreProgrammedOnlyInBare := by
  intro s hs
  have hkept : ∀ t, exec .imageCheckDone s = .next t → ∀ i, vAt s.img.otp i ≠ none → vAt t.img.otp i = vAt s.img.otp i :=
    fun t ht i hi => ((noCommandUndoesOtp .imageCheckDone s t hs ht).1 i).resolve_left hi
  rcases execImageCheckDone_cases s with e | ⟨x, tr, tag, hx, e⟩
  · exact ⟨s, e, hkept s e, fun _ => rfl⟩
  · exact ⟨_, e, hkept _ e, fun h => State.commitChecked_otp x tr tag (h.imp_right (fun hn => hn x hx))⟩

end Sys2Proof.Machine
end

section
/-! Boot (O15). -/
namespace Sys2Proof.Machine

/-! ### The outcome of an image operation (R114) -/

section
variable {s : State}

theorem State.setReg_reports (a v : Nat) (h : cellsWf 0 s.regs = true) : s.ReportsOnly (s.setReg a v) [a] where
  wf := State.setReg_wf a v h
  frame := rfl
  same g hg := State.get_setReg_ne s a v g h (List.ne_of_not_mem_cons hg)

theorem State.imageResult_reports (cause agent op col kase larger gen : Nat) (h : cellsWf 0 s.regs = true) :
    s.ReportsOnly (s.imageResult cause agent op col kase larger gen) [A.IMAGE_RESULT, A.IMAGE_RESULT_GEN] :=
  have a := State.setReg_reports A.IMAGE_RESULT
    (cause + 2 ^ 8 * (agent % 8) + 2 ^ 12 * op + 2 ^ 16 * col + 2 ^ 21 * kase + 2 ^ 24 * larger) h
  a.trans (State.put_reports F.IMAGE_RESULT_GEN_GEN gen a.wf)

theorem State.get_imageResult_cause (cause agent op col kase larger gen : Nat) (h : cellsWf 0 s.regs = true) :
    (s.imageResult cause agent op col kase larger gen).get F.IMAGE_RESULT_CAUSE = cause % 256 := by
  unfold State.imageResult
  dsimp only
  rw [State.get_put_ne _ _ _ (State.setReg_wf _ _ h) (by decide),
    State.get_setReg_same s A.IMAGE_RESULT _ F.IMAGE_RESULT_CAUSE h rfl]
  simp only [bitsOf, F.IMAGE_RESULT_CAUSE]
  omega

/-- The outcome of an image operation is in the registers alone. -/
theorem State.imageResult_frame (s : State) (cause agent op col kase larger gen : Nat) :
    s.imageResult cause agent op col kase larger gen
      = { s with regs := (s.imageResult cause agent op col kase larger gen).regs } := rfl

/-! ### Boot (R85, R567 to R569) -/

/-- The outcome of a slot that fails its checks at boot, before the hub goes on. -/
def State.bootOutcome (s : State) : State :=
  s.imageResult s.bootJudge.cause 7 0 s.bootJudge.col s.bootJudge.kase s.bootJudge.larger s.bootJudge.gen

/-- A slot fails at boot: the causes are noted, `f` the slot's field of IMAGE_BOOT, and the hub goes on as `g` says. -/
def State.bootFails (s : State) (f : FRef) (g : ImgState → ImgState) : State :=
  (s.bootOutcome.put f s.bootJudge.cause).modImg g

section
variable (hl : s.img.phase = .loading) (hp : s.img.pend = none)
include hl hp

theorem exec_bootSlotChecked_of_good (e : Erg) (key : Nat) (b : Bool) (hb : s.img.bootSlot ≠ 0)
    (hg : s.bootJudge.good = some (e, key, b)) :
    exec .bootSlotChecked s
      = .next { s with img := { s.img with pend := some ⟨e, 7, .spi, 0, s.img.bootSlot - 1, key, false⟩ } } := by
  show execBootSlotChecked s = _
  unfold execBootSlotChecked
  rw [if_pos (by simp [hl, hp, hb])]
  dsimp only
  rw [hg]
  rfl

theorem exec_bootSlotChecked_slotA_fails (hb : s.img.bootSlot = 1) (hg : s.bootJudge.good = none) :
    exec .bootSlotChecked s = .next (s.bootFails F.IMAGE_BOOT_SLOT_A (fun i => { i with bootSlot := 2 })) := by
  show execBootSlotChecked s = _
  unfold execBootSlotChecked
  rw [if_pos (by simp [hl, hp, hb])]
  dsimp only
  rw [hg, hb]
  rfl

theorem exec_bootSlotChecked_slotB_fails (hb : s.img.bootSlot = 2) (hg : s.bootJudge.good = none) :
    exec .bootSlotChecked s
      = .next (s.bootFails F.IMAGE_BOOT_SLOT_B (fun i => { i with phase := .bare, bootSlot := 0 })) := by
  show execBootSlotChecked s = _
  unfold execBootSlotChecked
  rw [if_pos (by simp [hl, hp, hb])]
  dsimp only
  rw [hg, hb]
  rfl

end

/-- A slot that fails at boot shows its cause in its 8 bits of IMAGE_BOOT and in IMAGE_RESULT. -/
theorem State.bootFails_spec (f : FRef) (g : ImgState → ImgState) (h : cellsWf 0 s.regs = true) (hf : f.addr = A.IMAGE_BOOT)
    (hw : f.width = 8) (hl : f.lsb ≤ 24) :
    (s.bootFails f g).get f = s.bootJudge.cause % 256 ∧ (s.bootFails f g).get F.IMAGE_RESULT_CAUSE = s.bootJudge.cause % 256
      ∧ s.bootFails f g = { s with regs := (s.bootFails f g).regs, img := g s.img }
      ∧ s.SameRegs (s.bootFails f g) [A.IMAGE_RESULT, A.IMAGE_RESULT_GEN, A.IMAGE_BOOT] := by
  have r1 : s.ReportsOnly s.bootOutcome _ := State.imageResult_reports _ _ _ _ _ _ _ h
  have r2 := State.put_reports f s.bootJudge.cause r1.wf
  refine ⟨?_, ?_, rfl, ((r1.trans r2).mono (by rw [hf]; decide)).same⟩
  · show (s.bootOutcome.put f _).get f = _
    rw [State.get_put_same f _ r1.wf (by omega), hw]
    rfl
  · show (s.bootOutcome.put f _).get _ = _
    rw [r2.same _ (by rw [hf]; decide)]
    exact State.get_imageResult_cause _ _ _ _ _ _ _ h

theorem exec_selfTestEnd_of_warm (ht : s.img.phase = .testing) (hw : s.img.warm = true) :
    exec .selfTestEnd s = .next (s.modImg (fun i => { i with phase := .loading })).faces := by
  show execSelfTestEnd s = _
  unfold execSelfTestEnd
  rw [if_pos (by simp [ht])]
  dsimp only
  rw [State.modImg, hw]
  rfl

theorem exec_selfTestEnd_of_cold (ht : s.img.phase = .testing) (hw : s.img.warm = false) :
    exec .selfTestEnd s = .next (s.modImg (fun i => { i with phase := .loading })).coldTested.faces := by
  show execSelfTestEnd s = _
  unfold execSelfTestEnd
  rw [if_pos (by simp [ht])]
  dsimp only
  rw [State.modImg, hw]
  rfl

theorem exec_flashReady_of_unread (hl : s.img.phase = .loading) (hb : s.img.bootSlot = 0) :
    exec .flashReady s = .next { s with img := { s.img with bootSlot := 1 } } :=
  congrArg Host.Outcome.next (if_pos (by simp [hl, hb]))

end

/-- Settles O15: each step of the boot, by the state of the configuration engine that it meets. -/
theorem bootSteps : Obligations.BootSteps := by
  intro s hs
  refine ⟨fun ht => ⟨exec_selfTestEnd_of_warm ht, exec_selfTestEnd_of_cold ht⟩, exec_flashReady_of_unread,
    fun hl hp => ⟨fun e key b hb hg => ?_, fun hb hg => ?_, fun hb hg => ?_⟩⟩
  · exact exec_bootSlotChecked_of_good hl hp e key b (by omega) hg
  · exact ⟨_, exec_bootSlotChecked_slotA_fails hl hp hb hg, State.bootFails_spec _ _ hs.regs rfl rfl (by decide)⟩
  · exact ⟨_, exec_bootSlotChecked_slotB_fails hl hp hb hg, State.bootFails_spec _ _ hs.regs rfl rfl (by decide)⟩

end Sys2Proof.Machine
end

section
/-! Load sessions (O16). -/
namespace Sys2Proof.Machine

section
variable {s : State} {a : Nat} {tr : Transport} {tag : Byte}

/-! ### IMAGE_BEGIN (R88, R89) -/

theorem wordAt_zero (w : Word) (ws : List Word) : wordAt (w :: ws) 0 = w.toNat := rfl

/-- The slot that a slot's base names. -/
theorem slotBase_div (k : Nat) : slotBase k / 0x01000000 = k := by
  unfold slotBase
  omega

section
variable {addr : Nat} {len : Word} {k : Fin 2} (hk : addr = slotBase k) (hlen : imageLenOk len.toNat = true)
  (hmay : s.img.phase = .bare ∨ s.inService a = true ∨ (s.inForce = true ∧ bitAt s.agentsWord (8 + a) = true))
  (hnone : s.img.session = none) (hrun : s.get F.IMAGE_GEN_SOURCE ≠ k + 1)
include hk hlen hmay hnone hrun

theorem State.beginJudge_of_allowed (f : Frame) (ha : f.w1.toNat = addr) (hp : f.payload = [len]) :
    s.beginJudge a f = 0 := by
  have hmay' : (s.img.phase == .bare || s.inService a || (s.inForce && bitAt s.agentsWord (8 + a))) = true := by
    rcases hmay with h | h | ⟨h1, h2⟩ <;> simp [*]
  have hbase : slotBase k = slotBase 0 ∨ slotBase k = slotBase 1 := by
    rcases k with ⟨_ | _ | k, hk⟩
    · exact .inl rfl
    · exact .inr rfl
    · omega
  unfold State.beginJudge
  dsimp only
  rw [hmay', ha, hp, wordAt_zero, hlen, hk, slotBase_div, hnone]
  rcases hbase with h | h <;> simp [h, hrun]

theorem State.imageBegin_of_allowed (ha : addr < 2 ^ 32) :
    s.imageBegin a tr (mkFrame 0x10 tag.toNat 1 0 addr [len])
      = ((s.sessionSet ⟨a, k, len.toNat, 0, s.tick, none⟩).flashErase (slotBase k / 65536)).reply
          a tr tag.toNat 0x10 R.ok [] := by
  have hw : (mkFrame 0x10 tag.toNat 1 0 addr [len]).w1.toNat = addr := Nat.mod_eq_of_lt ha
  unfold State.imageBegin
  dsimp only
  rw [State.beginJudge_of_allowed hk hlen hmay hnone hrun _ hw rfl, if_neg (by decide), hw, framePayload_mk, wordAt_zero,
    frameTag_mk, frameOp_mk _ _ _ _ _ _ (by decide), hk, slotBase_div]

end

/-- What IMAGE_SESSION shows of an open session. -/
theorem State.sessionSet_shows (x : Session) (h : cellsWf 0 s.regs = true) (ha : x.agent < 8) :
    (s.sessionSet x).get F.IMAGE_SESSION_OPEN = 1 ∧ (s.sessionSet x).get F.IMAGE_SESSION_AGENT = x.agent := by
  have hget (f : FRef) (hf : f.addr = A.IMAGE_SESSION) :
      (s.sessionSet x).get f = bitsOf ((1 + 2 * x.agent + 16 * x.slot) % 2 ^ 32) f.lsb f.width := by
    unfold State.sessionSet
    dsimp only
    refine (State.get_put_ne F.IMAGE_SESSION_BYTES_COUNT f x.got ?_ (by rw [hf]; decide)).trans ?_
    · exact State.setReg_wf _ _ h
    · exact State.get_setReg_same _ _ _ f h hf
  rw [hget _ rfl, hget _ rfl]
  simp only [bitsOf, F.IMAGE_SESSION_OPEN, F.IMAGE_SESSION_AGENT]
  omega

/-! ### IMAGE_DATA and IMAGE_COMMIT (R89 to R91) -/

/-- Erasing sectors takes no time. -/
theorem State.each_flashErase_tick (lo : Nat) (l : List Nat) :
    (s.each l (fun s k => s.flashErase (lo + k))).tick = s.tick :=
  foldl_inv (fun t : State => t.tick = s.tick) (fun s k => s.flashErase (lo + k)) (fun _ _ ht => ht) l s rfl

/-- A session's data of some bytes at the offset reached: further sectors erased, the bytes programmed, the offset moved on. -/
def State.sessionTakes (s : State) (x : Session) (bs : List Byte) : State :=
  (((s.sessionSet { x with lastTick := s.tick }).each (newSectors x.got bs.length)
    (fun s k => s.flashErase (slotBase x.slot / 65536 + k))).flashProgram (slotBase x.slot + x.got) bs).sessionSet
      { x with got := x.got + bs.length, lastTick := s.tick }

section
variable {x : Session} (hx : s.img.session = some x) (ha : x.agent = a) (hc : x.commit = none)
include hx ha hc

theorem State.sessionOf_own : s.sessionOf a = .ok x := by
  unfold State.sessionOf
  rw [hx]
  simp [ha, hc]

theorem State.imageData_at_offset {addr : Nat} {data : List Word} (hw : addr < 2 ^ 32) (hat : addr = x.got)
    (hroom : x.got + (wordsBytes data).length ≤ x.len) :
    s.imageData a tr (mkFrame 0x11 tag.toNat data.length 0 addr data)
      = (s.sessionTakes x (wordsBytes data)).reply a tr tag.toNat 0x11 R.ok [] := by
  have hw1 : (mkFrame 0x11 tag.toNat data.length 0 addr data).w1.toNat = x.got := (Nat.mod_eq_of_lt hw).trans hat
  unfold State.imageData
  rw [State.sessionOf_own hx ha hc]
  dsimp only
  rw [framePayload_mk, hw1, if_neg (by simp), if_neg (by omega), frameTag_mk, frameOp_mk _ _ _ _ _ _ (by decide)]
  have ht : ((((s.sessionSet { x with lastTick := s.tick }).each (newSectors x.got (wordsBytes data).length)
      (fun s k => s.flashErase (slotBase x.slot / 65536 + k))).flashProgram (slotBase x.slot + x.got)
        (wordsBytes data)).tick) = s.tick := State.each_flashErase_tick _ _
  rw [ht]
  rfl

theorem State.imageCommit_of_whole (hall : x.got = x.len) :
    s.imageCommit a tr (mkFrame 0x12 tag.toNat 0 0 0 [])
      = ((s.sessionSet { x with lastTick := s.tick }).openNp a tr tag.toNat 0x12 0 0).sessionSet
          { x with lastTick := s.tick, commit := some (tr, tag.toNat) } := by
  have hw1 : (mkFrame 0x12 tag.toNat 0 0 0 []).w1 = 0 := rfl
  unfold State.imageCommit
  rw [State.sessionOf_own hx ha hc]
  dsimp only
  rw [hw1, if_neg (by simp [hall]), frameTag_mk, frameOp_mk _ _ _ _ _ _ (by decide)]
  rfl

end

/-! ### The end of a session (R91, R92) -/

theorem exec_imageCheckDone_of_commit {x : Session} {tag : Nat} (hx : s.img.session = some x) (hc : x.commit = some (tr, tag))
    (hp : s.img.pend = none) : exec .imageCheckDone s = .next (s.commitChecked x tr tag) := by
  show execImageCheckDone s = _
  unfold execImageCheckDone
  rw [hx]
  dsimp only
  rw [hc, hp]
  rfl

theorem State.commitChecked_of_refused {x : Session} {tag : Nat}
    (hg : (s.imageJudge (s.flashBytes (slotBase x.slot) x.len) (some x.agent)).good = none) :
    s.commitChecked x tr tag
      = (let v := s.imageJudge (s.flashBytes (slotBase x.slot) x.len) (some x.agent)
         (s.sessionClose.imageResult v.cause x.agent 1 v.col v.kase v.larger v.gen).complete x.agent tag
           (causeResult v.cause) []) := by
  unfold State.commitChecked
  dsimp only
  rw [hg]

theorem State.commitChecked_of_passed {x : Session} {tag : Nat} {e : Erg} {slot : Nat} {enrol : Bool}
    (hg : (s.imageJudge (s.flashBytes (slotBase x.slot) x.len) (some x.agent)).good = some (e, slot, enrol)) :
    s.commitChecked x tr tag = { s with img := { s.img with
      otp := if enrol then vPut s.img.otp slot (some (Config.sha384 (wordsBytes ((findRec e.recs 1 0).elim [] (·.body)))))
        else s.img.otp,
      pend := some ⟨e, x.agent, tr, tag, x.slot, slot, s.inService x.agent⟩ } } := by
  unfold State.commitChecked
  dsimp only
  rw [hg]
  rfl

/-- An error-log entry of an operation changes nothing but the logs and what reports a FATAL one. -/
theorem State.logOp_wf (b result cause unit detail : Nat) (h : cellsWf 0 s.regs = true) :
    cellsWf 0 (s.logOp b result cause unit detail).regs = true := State.logTo_wf _ _ _ _ _ _ _ h

theorem State.sessionClose_wf (h : cellsWf 0 s.regs = true) : cellsWf 0 s.sessionClose.regs = true :=
  State.put_wf _ _ (State.setReg_wf _ _ h)

/-- A session without a commit that is closed by its timeout. -/
def State.sessionTimesOut (s : State) (x : Session) : State :=
  ((s.advanceTo ((x.lastTick + 8000) * 125000)).sessionClose.logOp x.agent R.aborted 2 37 x.got).imageResult
    0x11 x.agent 1 0 0 0 0

theorem exec_sessionTimeout_of_open {x : Session} (hx : s.img.session = some x) (hc : x.commit = none)
    (hp : s.img.pend = none) : exec .sessionTimeout s = .next (s.sessionTimesOut x) := by
  show execSessionTimeout s = _
  unfold execSessionTimeout
  rw [hx]
  dsimp only
  rw [hc]
  unfold State.sessionAbort
  rw [State.advanceTo_img, hx]
  dsimp only
  rw [hp, hc]
  rfl

theorem State.sessionTimesOut_spec (x : Session) (h : cellsWf 0 s.regs = true) :
    (s.sessionTimesOut x).img = { s.img with session := none }
      ∧ (s.sessionTimesOut x).get F.IMAGE_RESULT_CAUSE = 0x11 := by
  refine ⟨?_, State.get_imageResult_cause _ _ _ _ _ _ _ (State.logOp_wf _ _ _ _ _ (State.sessionClose_wf ?_))⟩
  · unfold State.sessionTimesOut
    rw [State.imageResult_frame]
    dsimp only
    unfold State.logOp
    rw [State.logTo_img]
    show { (s.advanceTo _).img with session := none } = _
    rw [State.advanceTo_img]
  · rw [State.advanceTo_regs]
    exact h

end

/-- Settles O16: an admitted frame acts on the state after its turn; the end of the checks and the timeout act on the open
session. -/
theorem loadSessions : Obligations.LoadSessions := by
  intro s hs
  refine ⟨fun a tr tag addr len k hadm hk hlen hmay hnone hrun => ?_, fun a tr tag addr data x hadm hx ha hc hat hroom => ?_,
    fun a tr tag x hadm hx ha hc hall => ?_,
    fun x tr tag hx hc hp => ?_, fun x hx hc hp => ?_⟩
  · have he : exec (.imageBegin a tr tag addr [len]) s = .next _ :=
      congrArg Host.Outcome.next ((State.arrive_admits hadm _).trans
        (State.imageBegin_of_allowed (s := s.passTurn a) hk hlen hmay hnone hrun addr.isLt))
    exact ⟨_, he, rfl, State.sessionSet_shows _ hs.regs (Nat.lt_trans a.isLt (by decide))⟩
  · exact congrArg Host.Outcome.next ((State.arrive_admits hadm _).trans
      (State.imageData_at_offset (s := s.passTurn a) hx ha hc addr.isLt hat hroom))
  · exact congrArg Host.Outcome.next ((State.arrive_admits hadm _).trans
      (State.imageCommit_of_whole (s := s.passTurn a) hx ha hc hall))
  · have he := exec_imageCheckDone_of_commit hx hc hp
    exact ⟨fun hg => he.trans (congrArg Host.Outcome.next (State.commitChecked_of_refused hg)),
      fun e slot enrol hg => he.trans (congrArg Host.Outcome.next (State.commitChecked_of_passed hg))⟩
  · exact ⟨_, exec_sessionTimeout_of_open hx hc hp, rfl, State.sessionTimesOut_spec x hs.regs⟩

end Sys2Proof.Machine
end

section
/-! Writes of registers: the word's outcomes (O18) and the staging sets (O59). -/
namespace Sys2Proof.Machine

/-! ### What the write of a word can come to (R634 to R636) -/

section
variable {s : State} {a addr v : Nat} {r : WReg}

/-- A word that changes no field of a register does nothing. -/
theorem State.writeWord_of_unwritten (hr : wregAt addr = some r) (hw : s.written a r v = []) :
    s.writeWord a addr v = (R.ok, s) := by
  unfold State.writeWord
  rw [hr]
  dsimp only
  rw [hw]
  rfl

/-- A word that R635 does not refuse meets the staging set, then takes effect. -/
theorem State.writeWord_of_judged (hr : wregAt addr = some r) (hw : s.written a r v ≠ [])
    (hj : s.wordJudge a r v (s.written a r v) = R.ok) :
    s.writeWord a addr v = (match s.stageBar a (s.written a r v) with
      | some c => (R.busy, s.commitResult c a 0 0 0)
      | none => s.wordEffect a r (s.written a r v)) := by
  unfold State.writeWord
  rw [hr]
  dsimp only
  rw [if_neg (by simpa using hw), hj]
  rfl

theorem State.writeWord_of_refused (hr : wregAt addr = some r) (hw : s.written a r v ≠ [])
    (hj : s.wordJudge a r v (s.written a r v) ≠ R.ok) :
    s.writeWord a addr v = (s.wordJudge a r v (s.written a r v), s) := by
  unfold State.writeWord
  rw [hr]
  dsimp only
  rw [if_neg (by simpa using hw), if_pos hj]

/-- What bars a word from the staging set is PENDING or STAGE_FULL (R98, R101). -/
theorem State.stageBar_cause {ws : List Wr} {c : Nat} (h : s.stageBar a ws = some c) : c = 0x12 ∨ c = 0x13 := by
  unfold State.stageBar at h
  split at h
  · cases h
  · split at h
    · cases h
      exact .inr rfl
    · split at h
      · cases h
        exact .inl rfl
      · cases h

/-- A word that takes effect answers OK, but for TICK_COMMIT, which answers its judgement (R100). -/
theorem State.wordEffect_ok (ws : List Wr) (h : r ≠ .tickCommit) : (s.wordEffect a r ws).1 = R.ok := by
  unfold State.wordEffect
  split
  · exact absurd rfl h
  all_goals rfl

/-- A word that answers anything but OK, of any register but TICK_COMMIT, changes nothing but IMAGE_RESULT where the staging set
does not take it. -/
theorem State.writeWord_of_not_ok (h : (s.writeWord a addr v).1 ≠ R.ok) (ht : wregAt addr ≠ some .tickCommit) :
    (s.writeWord a addr v).2 = s ∨ ∃ c, (c = 0x12 ∨ c = 0x13) ∧ (s.writeWord a addr v).2 = s.commitResult c a 0 0 0 := by
  cases hr : wregAt addr with
  | none =>
    unfold State.writeWord
    rw [hr]
    exact .inl rfl
  | some r =>
    by_cases hw : s.written a r v = []
    · rw [State.writeWord_of_unwritten hr hw]
      exact .inl rfl
    by_cases hj : s.wordJudge a r v (s.written a r v) = R.ok
    · rw [State.writeWord_of_judged hr hw hj] at h ⊢
      cases hb : s.stageBar a (s.written a r v) with
      | some c => exact .inr ⟨c, State.stageBar_cause hb, rfl⟩
      | none =>
        rw [hb] at h
        exact absurd (State.wordEffect_ok _ (fun e => ht (hr.trans (congrArg some e)))) h
    · rw [State.writeWord_of_refused hr hw hj]
      exact .inl rfl

end

/-! ### One word of a WRITE or WRITE_POSTED (R118, R123 to R126) -/

/-- The word of a one-word frame and its address. -/
theorem frameWrites_word (op tag flags addr : Nat) (w : Word) (h : addr < 2 ^ 32) :
    frameWrites (mkFrame op tag 1 flags addr [w]) = [(addr, w)] := by
  have hw1 : (mkFrame op tag 1 flags addr [w]).w1.toNat = addr := Nat.mod_eq_of_lt h
  unfold frameWrites frameAddrs spanAddrs
  rw [frameLen_mk _ _ _ _ _ _ (by decide), hw1, framePayload_mk]
  simp

/-- An address of the lower half of the space outside the field window lies below that window. -/
theorem lt_of_not_inField {addr : Nat} (ho : inField addr = false) (ha : addr < 2 ^ 31) : addr < 0x40000000 := by
  unfold inField at ho
  simp only [Bool.and_eq_false_imp, decide_eq_true_eq, decide_eq_false_iff_not] at ho
  omega

section
variable {s : State} {a : Nat} {tr : Transport} {tag : Byte} {addr : Nat} {v : Word}

/-- A span of one word is the write of that word: its RESULT, how many words were written, and the address refused. -/
theorem State.putWords_one (ha : addr < 2 ^ 31) :
    s.putWords a 0 [(addr, v)] = (let w := s.writeWord a addr v.toNat
      (w.1, if w.1 = R.ok then 1 else 0, if w.1 = R.ok then 0 else addr, w.2)) := by
  have hw : s.putWord a addr v.toNat = s.writeWord a addr v.toNat := if_neg (by omega)
  simp only [State.putWords, hw]
  split
  · rename_i h
    rw [h]
  · rfl

section
variable (ho : inField addr = false) (ha : addr < 2 ^ 31)
include ho ha

/-- The address of a one-word frame, as the command's arm reads it. -/
theorem inField_mkFrame (op flags : Nat) : inField (mkFrame op tag.toNat 1 flags addr [v]).w1.toNat = false := by
  have hw1 : (mkFrame op tag.toNat 1 flags addr [v]).w1.toNat = addr := Nat.mod_eq_of_lt (by omega)
  rw [hw1]
  exact ho

theorem State.writeBody_one (hj : s.writeJudge a (mkFrame 2 tag.toNat 1 0 addr [v]) = R.ok) :
    s.writeBody a tr (mkFrame 2 tag.toNat 1 0 addr [v])
      = (let w := s.writeWord a addr v.toNat
         w.2.reply a tr tag.toNat 2 w.1 [w32 (if w.1 = R.ok then 1 else 0)]) := by
  unfold State.writeBody
  rw [inField_mkFrame ho ha]
  dsimp only
  rw [hj, if_neg (by decide), if_neg (by decide), frameWrites_word _ _ _ _ _ (by omega), State.putWords_one ha,
    State.answer_mkFrame _ _ (by decide) (lt_of_not_inField ho ha)]

/-- A posted word is written, and one that is refused is entered in its writer's log (R126). -/
def State.postedWord (s : State) (a addr : Nat) (v : Word) : State :=
  let w := s.writeWord a addr v.toNat
  if w.1 = R.ok then w.2 else w.2.logOp a w.1 4 36 addr

theorem State.postedBody_one (flags : Nat) (hj : s.writeJudge a (mkFrame 3 tag.toNat 1 flags addr [v]) = R.ok) :
    s.postedBody a tr (mkFrame 3 tag.toNat 1 flags addr [v])
      = (s.postedAccepted a tr (mkFrame 3 tag.toNat 1 flags addr [v])).postedWord a addr v := by
  unfold State.postedBody State.postedWord
  rw [inField_mkFrame ho ha]
  dsimp only
  rw [hj, if_neg (by decide), if_neg (by decide), frameWrites_word _ _ _ _ _ (by omega), State.putWords_one ha]
  dsimp only
  split <;> rfl

theorem State.postedAccepted_of_ack :
    s.postedAccepted a tr (mkFrame 3 tag.toNat 1 2 addr [v]) = s.reply a tr tag.toNat 3 R.ok [] := by
  unfold State.postedAccepted
  rw [if_pos (by rw [frameAck_mk]; decide), State.answer_mkFrame _ _ (by decide) (lt_of_not_inField ho ha)]

end

theorem State.postedAccepted_of_no_ack : s.postedAccepted a tr (mkFrame 3 tag.toNat 1 0 addr [v]) = s :=
  if_neg (by rw [frameAck_mk]; decide)

end

/-- Settles O18: each kind of frame with one word comes to the write of that word. -/
theorem registerWrites : Obligations.RegisterWrites := by
  intro s a addr v _ ho ha u w
  refine ⟨fun r hr hw => State.writeWord_of_unwritten hr hw, State.writeWord_of_not_ok, fun tr tag hadm hj => ?_,
    fun tr tag hadm hj => ?_, fun tr tag hadm hj => ?_, fun ht => ?_⟩
  · exact congrArg Host.Outcome.next ((State.arrive_admits hadm _).trans (State.writeBody_one (s := u) ho ha hj))
  · refine congrArg Host.Outcome.next ((State.arrive_admits hadm _).trans ?_)
    exact (State.postedBody_one (s := u) ho ha 0 hj).trans (congrArg (State.postedWord · a _ v) State.postedAccepted_of_no_ack)
  · refine congrArg Host.Outcome.next ((State.arrive_admits hadm _).trans ?_)
    exact (State.postedBody_one (s := u) ho ha 2 hj).trans
      (congrArg (State.postedWord · a _ v) (State.postedAccepted_of_ack ho ha))
  · exact congrArg Host.Outcome.next (State.wordsArrive_one s a _ v ht ha)

/-! ### Words of TICK fields (R97, R98, R101) -/

theorem foldl_fixed_of_mem {α β : Type} (f : α → β → α) (x : α) :
    ∀ l : List β, (∀ b ∈ l, f x b = x) → l.foldl f x = x
  | [], _ => rfl
  | b :: l, h => by
    rw [List.foldl_cons, h b List.mem_cons_self]
    exact foldl_fixed_of_mem f x l (fun c hc => h c (List.mem_cons_of_mem _ hc))

section
variable {s : State} {a v : Nat} {r : WReg} {ws : List Wr}

section
variable (htick : ∀ w ∈ ws, w.cls = .tick)
include htick

theorem State.quietPut_of_tick : s.quietPut ws = s :=
  foldl_fixed_of_mem _ s ws (fun w hw => if_neg (by simp [htick w hw]))

theorem any_quiet_of_tick : ws.any (·.cls == .quiet) = false := by
  rw [List.any_eq_false]
  intro w hw
  simp [htick w hw]

/-- A word of TICK fields is refused for its writer, its values and what the present state refuses, for nothing else. -/
theorem State.wordJudge_of_tick (hmay : ∀ w ∈ ws, s.mayField a r (r.word v) w = true)
    (hval : ∀ w ∈ ws, valueOk r w.f.lsb w.v = true) (hd : s.wordDenied r ws = false) (hb : s.wordBusy r ws = false) :
    s.wordJudge a r v ws = R.ok := by
  unfold State.wordJudge
  rw [State.quietPut_of_tick htick, any_quiet_of_tick htick, List.all_eq_true.2 hmay, List.all_eq_true.2 hval, hd, hb]
  rfl

variable (hne : ws ≠ [])
include hne

theorem any_tick_of_tick : ws.any (·.cls == .tick) = true := by
  obtain ⟨w, hw⟩ := List.exists_mem_of_ne_nil ws hne
  exact List.any_eq_true.2 ⟨w, hw, by simp [htick w hw]⟩

theorem State.stageBar_of_tick : s.stageBar a ws
    = if s.commitPending a then some 0x13 else if 256 < (s.staging a ws).length then some 0x12 else none := by
  unfold State.stageBar
  rw [any_tick_of_tick htick hne]
  rfl

/-- A word of TICK fields is staged, and no register takes it. -/
theorem State.storeWord_of_tick (hrw : ∀ w ∈ ws, w.acc = .rw) :
    s.storeWord a ws = s.modAgent a (fun g => { g with staged := s.staging a ws }) := by
  unfold State.storeWord
  rw [any_tick_of_tick htick hne, if_pos rfl]
  refine foldl_fixed_of_mem _ _ ws (fun w hw => ?_)
  rw [hrw w hw]
  exact if_pos (by simp [htick w hw])

end

/-- A register without a source and without a meaning of its own takes a word by storing it and by its action. -/
theorem State.wordEffect_of_plain (hs : r.source = none) (hc : r ≠ .tickCommit) (hp : ∀ p : Nat, r ≠ .pxCtrl p)
    (hst : r ≠ .pwrStay) : s.wordEffect a r ws = (R.ok, (s.storeWord a ws).wordAction a r ws) := by
  unfold State.wordEffect
  split
  · exact absurd rfl hc
  · exact absurd rfl (hp _)
  · exact absurd rfl hst
  · rw [hs]

/-- One field's write on the staging set: it takes the place of the field's entry, or joins the back. -/
theorem State.staging_one (w : Wr) (hw : w.cls = .tick) :
    s.staging a [w] = if (s.agent a).staged.any (fun x => x.f == w.f) then
        (s.agent a).staged.map (fun x => if x.f == w.f then { x with v := w.v } else x)
      else (s.agent a).staged ++ [⟨w.f, w.v⟩] := by
  simp [State.staging, hw]

theorem State.staging_of_staged (w : Wr) (hw : w.cls = .tick) (h : ∃ x ∈ (s.agent a).staged, x.f = w.f) :
    (s.staging a [w]).length = (s.agent a).staged.length
      ∧ ∀ x ∈ s.staging a [w], if x.f = w.f then x.v = w.v else x ∈ (s.agent a).staged := by
  obtain ⟨y, hy, hf⟩ := h
  rw [State.staging_one w hw, if_pos (List.any_eq_true.2 ⟨y, hy, by simp [hf]⟩)]
  refine ⟨List.length_map _, fun x hx => ?_⟩
  obtain ⟨z, hz, rfl⟩ := List.mem_map.1 hx
  by_cases hzf : z.f = w.f <;> simp [hzf, hz]

theorem State.staging_of_unstaged (w : Wr) (hw : w.cls = .tick) (h : ∀ x ∈ (s.agent a).staged, x.f ≠ w.f) :
    s.staging a [w] = (s.agent a).staged ++ [⟨w.f, w.v⟩] := by
  rw [State.staging_one w hw, if_neg]
  simpa using h

end

/-- Settles O59: a word of TICK fields is judged for its writer and values, barred where the set may not take it, and staged
otherwise. -/
theorem stagingSets : Obligations.StagingSets := by
  intro s a addr v r _ hr ws hne hall hd hb t
  have htick : ∀ w ∈ ws, w.cls = .tick := fun w hw => (hall w hw).2.1
  have hj : s.wordJudge a r v ws = R.ok :=
    State.wordJudge_of_tick htick (fun w hw => (hall w hw).2.2.1) (fun w hw => (hall w hw).2.2.2) hd hb
  have hw := State.writeWord_of_judged hr hne hj
  rw [show s.stageBar a (s.written a r v) = _ from State.stageBar_of_tick htick hne] at hw
  refine ⟨fun hp hlen hsrc hc hact hpx hst => ⟨?_, fun _ => rfl⟩, fun hbar => ?_, fun w hw1 => ?_⟩
  · have hfull : ¬ 256 < (s.staging a ws).length := by omega
    rw [hw, hp, if_neg Bool.false_ne_true, if_neg hfull]
    have hstore : s.storeWord a ws = t := State.storeWord_of_tick htick hne (fun w hw => (hall w hw).1)
    exact (State.wordEffect_of_plain hsrc hc hpx hst).trans (by rw [hstore]; exact congrArg (Prod.mk R.ok) hact)
  · rw [hw]
    by_cases hp : s.commitPending a = true
    · rw [if_pos hp, if_pos hp]
    · rw [if_neg hp, if_neg hp, if_pos (hbar.resolve_left hp)]
  · have hwt : w.cls = .tick := htick w (by rw [hw1]; exact List.mem_singleton_self w)
    rw [hw1]
    exact ⟨State.staging_of_staged w hwt, State.staging_of_unstaged w hwt⟩

end Sys2Proof.Machine
end

section
/-! Tick commits and patches (O19). -/
namespace Sys2Proof.Machine

/-! ### TICK_COMMIT and TICK_DISCARD (R99 to R101) -/

theorem wregAt_tickCommit : wregAt 0x20100 = some .tickCommit := by decide +kernel

section
variable {s : State} {a : Nat}

theorem State.written_commit (s : State) (a : Nat) :
    s.written a .tickCommit 1 = [⟨F.TICK_COMMIT_COMMIT a, .wo, .live, 1⟩] := rfl

theorem State.written_discard (s : State) (a : Nat) :
    s.written a .tickCommit 2 = [⟨F.TICK_COMMIT_DISCARD a, .wo, .live, 1⟩] := rfl

/-- Any agent may write one of the two bits of its own TICK_COMMIT at any time (R99). -/
theorem State.wordJudge_tickCommit (v : Nat) (f : FRef) :
    s.wordJudge a .tickCommit v [⟨f, .wo, .live, 1⟩] = R.ok := by
  simp [State.wordJudge, State.mayField, State.mayWrite, valueOk, State.wordDenied, State.wordBusy]

theorem State.writeWord_commit : s.writeWord a 0x20100 1 = s.tickCommit a := by
  rw [State.writeWord_of_judged wregAt_tickCommit (by simp [State.written_commit])
    (by rw [State.written_commit]; exact State.wordJudge_tickCommit 1 _)]
  rfl

theorem State.writeWord_discard : s.writeWord a 0x20100 2 = s.tickDiscard a := by
  rw [State.writeWord_of_judged wregAt_tickCommit (by simp [State.written_discard])
    (by rw [State.written_discard]; exact State.wordJudge_tickCommit 2 _)]
  rfl

theorem exec_tickCommit_of_taken (a : Agent) (h : s.TakesWords a 0x20100 [1]) :
    exec (.tickCommit a) s = .next (s.tickCommit a).2 :=
  congrArg Host.Outcome.next ((State.wordsArrive_one s a _ _ h (by decide)).trans (congrArg Prod.snd State.writeWord_commit))

theorem exec_tickDiscard_of_taken (a : Agent) (h : s.TakesWords a 0x20100 [2]) :
    exec (.tickDiscard a) s = .next (s.tickDiscard a).2 :=
  congrArg Host.Outcome.next ((State.wordsArrive_one s a _ _ h (by decide)).trans (congrArg Prod.snd State.writeWord_discard))

section
variable (hp : s.commitPending a = false)
include hp

theorem State.tickCommit_of_fit (hj : (s.pendingView.overlay (s.agent a).staged).judgeView = none) :
    s.tickCommit a = (R.ok, (s.modImg (fun i => { i with commits := i.commits ++ [⟨a, (s.agent a).staged⟩] })).modAgent a
      (fun g => { g with staged := [] })) := by
  unfold State.tickCommit
  rw [hp, if_neg Bool.false_ne_true]
  dsimp only
  rw [hj]

theorem State.tickCommit_of_unfit {c col k l : Nat}
    (hj : (s.pendingView.overlay (s.agent a).staged).judgeView = some (c, col, k, l)) :
    s.tickCommit a = (causeResult c, s.commitResult c a col k l) := by
  unfold State.tickCommit
  rw [hp, if_neg Bool.false_ne_true]
  dsimp only
  rw [hj]

theorem State.tickDiscard_of_free : s.tickDiscard a = (R.ok, s.modAgent a (fun g => { g with staged := [] })) := by
  unfold State.tickDiscard
  rw [hp, if_neg Bool.false_ne_true]

end

/-! ### IMAGE_PATCH (R106, R107) -/

section
variable {tr : Transport} {tag : Byte} {addr : Nat} {data : List Word} {c col k l gen : Nat} {prs : List Rec}
  (hj : s.patchJudge a data = ((c, col, k, l), gen, prs))
include hj

theorem State.imagePatch_of_passed (hc : c = 0) :
    s.imagePatch a tr (mkFrame 0x13 tag.toNat data.length 0 addr data)
      = (s.openNp a tr tag.toNat 0x13 0 0).modImg (fun i =>
          { i with patches := i.patches ++ [⟨a, tr, tag.toNat, gen, prs⟩] }) := by
  unfold State.imagePatch
  rw [framePayload_mk, frameTag_mk, frameOp_mk _ _ _ _ _ _ (by decide), hj]
  exact if_neg (by simpa using hc)

theorem State.imagePatch_of_failed (hc : c ≠ 0) :
    s.imagePatch a tr (mkFrame 0x13 tag.toNat data.length 0 addr data)
      = (s.imageResult c a 2 col k l gen).reply a tr tag.toNat 0x13 (causeResult c) [] := by
  unfold State.imagePatch
  rw [framePayload_mk, frameTag_mk, frameOp_mk _ _ _ _ _ _ (by decide), hj]
  exact if_pos hc

end
end

/-- Settles O19: a write of TICK_COMMIT is the commit or the discard of the staging set, and an admitted patch is judged on the
state after its turn. -/
theorem commitsAndPatches : Obligations.CommitsAndPatches := by
  intro s a hs
  refine ⟨fun hp ht hj => ?_, fun c col k l hp ht hj => ?_, fun hp ht => ?_,
    fun tr tag addr data c col k l gen prs hadm hj => ⟨fun hc => ?_, fun hc => ?_⟩⟩
  · have he := exec_tickCommit_of_taken a ht
    rw [State.tickCommit_of_fit hp hj] at he
    exact ⟨_, he, rfl, rfl, rfl⟩
  · have he := exec_tickCommit_of_taken a ht
    rw [State.tickCommit_of_unfit hp hj] at he
    exact ⟨_, he, State.get_imageResult_cause _ _ _ _ _ _ _ hs.regs, rfl,
      (State.imageResult_reports _ _ _ _ _ _ _ hs.regs).same⟩
  · exact (exec_tickDiscard_of_taken a ht).trans (by rw [State.tickDiscard_of_free hp]; rfl)
  · exact congrArg Host.Outcome.next ((State.arrive_admits hadm _).trans (State.imagePatch_of_passed hj hc))
  · exact congrArg Host.Outcome.next ((State.arrive_admits hadm _).trans (State.imagePatch_of_failed hj hc))

end Sys2Proof.Machine
end

section
/-! A head's commits, its frames, and ENABLE (O33). -/
namespace Sys2Proof.Machine

/-! ### One LIVE field written (R634 to R636) -/

/-- A register whose fields share no bit and are each written on their own where their value changes. -/
structure WReg.Plain (r : WReg) : Prop where
  fields : WField.plain r.fields = true
  word : ∀ x, r.word x = x
  once : r.always = false
  width : ∀ (a : Nat) (y : WField), (r.fref a y).width = y.width

/-- A field's value counts as written: an RW field's where it is another than the one it has, any other's where it is not 0
(R634). -/
def Acc.counts (acc : Acc) (x old : Nat) : Bool :=
  match acc with
  | .rw => x != old
  | _ => x != 0

/-- R635 refuses nothing of the one LIVE field that a word writes. -/
structure State.FitsLive (s : State) (a : Nat) (r : WReg) (w : Wr) : Prop where
  live : w.cls = .live
  may : ∀ v, s.mayWrite a r w.f.lsb v = true
  value : valueOk r w.f.lsb w.v = true
  allowed : s.wordDenied r [w] = false
  free : s.wordBusy r [w] = false

section
variable {s : State} {a addr v : Nat} {r : WReg}

/-- A word that writes one LIVE field, which R635 does not refuse, takes effect. -/
theorem State.writeWord_of_live {w : Wr} (hr : wregAt addr = some r) (hw : s.written a r v = [w]) (hf : s.FitsLive a r w) :
    s.writeWord a addr v = s.wordEffect a r [w] := by
  have hj : s.wordJudge a r v [w] = R.ok := by
    simp [State.wordJudge, State.quietPut, State.mayField, hf.may, hf.live, hf.value, hf.allowed, hf.free]
  have hbar : s.stageBar a [w] = none := by
    simp [State.stageBar, hf.live]
  rw [State.writeWord_of_judged hr (by simp [hw]) (by rw [hw]; exact hj), hw, hbar]

variable {lsb width x : Nat} {acc : Acc} (hr : wregAt addr = some r) (hp : r.Plain) (hx : x < 2 ^ width)
  (hm : ⟨lsb, width, acc, .live⟩ ∈ r.fields) (hc : acc.counts x (s.get (r.fref a ⟨lsb, width, acc, .live⟩)) = true)
include hr hp hx hm hc

/-- The word that gives one field of a plain register a value that counts writes that field alone. -/
theorem State.written_of_counts : s.written a r (w32 (s.wordWith a addr lsb width x)).toNat
    = [⟨r.fref a ⟨lsb, width, acc, .live⟩, acc, .live, x⟩] := by
  refine (State.written_wordWith s a addr r lsb width x acc .live hr hm hp.fields hx hp.word hp.once (hp.width a)).trans
    (if_pos ?_)
  cases acc <;> exact hc

/-- A command that gives one LIVE field of a plain register a value that counts. -/
theorem State.fieldArrives_of_live (ha : addr < 2 ^ 31) (ht : s.TakesField a addr lsb width x)
    (hf : s.FitsLive a r ⟨r.fref a ⟨lsb, width, acc, .live⟩, acc, .live, x⟩) :
    s.fieldArrives a addr lsb width x
      = (s.wordEffect a r [⟨r.fref a ⟨lsb, width, acc, .live⟩, acc, .live, x⟩]).2 :=
  (State.wordsArrive_one s a addr _ ht ha).trans
    (congrArg Prod.snd (State.writeWord_of_live hr (State.written_of_counts hr hp hx hm hc) hf))

end

/-! ### The registers of a head -/

theorem wregAt_hdCommit : ∀ x : Fin 2, wregAt (A.HD_COMMIT x) = some (.hdCommit x) := by decide +kernel

theorem wregAt_hdCtrl : ∀ x : Fin 2, wregAt (A.HD_CTRL x) = some (.hdCtrl x) := by decide +kernel

theorem hdCommit_plain (x : Nat) : (WReg.hdCommit x).Plain := ⟨rfl, fun _ => rfl, rfl, fun _ _ => rfl⟩

theorem hdCtrl_plain (x : Nat) : (WReg.hdCtrl x).Plain := ⟨rfl, fun _ => rfl, rfl, fun _ _ => rfl⟩

section
variable {s : State} {a : Agent} {x : Fin 2}

@[simp] theorem State.iff_false (s : State) (f : State → State) : s.iff false f = s := rfl

@[simp] theorem State.iff_true (s : State) (f : State → State) : s.iff true f = f s := rfl

/-- A self-clearing bit is not stored. -/
theorem State.storeWord_sc (s : State) (a : Nat) (f : FRef) (v : Nat) : s.storeWord a [⟨f, .sc, .live, v⟩] = s := rfl

theorem State.storeWord_live (s : State) (a : Nat) (f : FRef) (v : Nat) : s.storeWord a [⟨f, .rw, .live, v⟩] = s.put f v := rfl

/-- HD_COMMIT acts by its bits CANCEL and COMMIT (R374, R377). -/
theorem State.wordEffect_hdCommit (s : State) (a x : Nat) (f : FRef) :
    (s.wordEffect a (.hdCommit x) [⟨f, .sc, .live, 1⟩]).2
      = (s.iff (wrOne [⟨f, .sc, .live, 1⟩] 1) (fun s => s.hdCancel x)).iff (wrOne [⟨f, .sc, .live, 1⟩] 0)
          (fun s => s.hdSetCommit x) := by
  rw [State.wordEffect_of_plain (r := .hdCommit x) rfl nofun nofun nofun, State.storeWord_sc]
  rfl

/-- ENABLE of HD_CTRL, stored, stops or starts the head (R373). -/
theorem State.wordEffect_hdCtrl (s : State) (a x v : Nat) :
    (s.wordEffect a (.hdCtrl x) [⟨F.HD_CTRL_ENABLE x, .rw, .live, v⟩]).2
      = ((s.put (F.HD_CTRL_ENABLE x) v).iff (v == 0) (fun s => s.headStop x)).iff (v == 1) (fun s => s.headStart x) := by
  have h0 : wrZero [⟨F.HD_CTRL_ENABLE x, .rw, .live, v⟩] 0 = (v == 0) := rfl
  have h1 : wrOne [⟨F.HD_CTRL_ENABLE x, .rw, .live, v⟩] 0 = (v == 1) := rfl
  rw [State.wordEffect_of_plain (r := .hdCtrl x) rfl nofun nofun nofun, State.storeWord_live, ← h0, ← h1]
  rfl

section
variable (ho : s.owns a x = true)
include ho

/-- The owner of a head writes its HD_COMMIT (R638). -/
theorem State.mayWrite_hdCommit (lsb v : Nat) : s.mayWrite a (.hdCommit x) lsb v = true := by
  have hx : (x : Nat) < 56 := Nat.lt_trans x.isLt (by decide)
  simpa [State.mayWrite, State.regRes, hx] using ho

/-- The owner of a head writes its HD_CTRL (R638). -/
theorem State.mayWrite_hdCtrl (lsb v : Nat) : s.mayWrite a (.hdCtrl x) lsb v = true := by
  have hx : (x : Nat) < 56 := Nat.lt_trans x.isLt (by decide)
  simpa [State.mayWrite, State.regRes, hx] using ho

/-- A bit of HD_COMMIT that the owner sets acts, whatever the state. -/
theorem State.fieldArrives_hdCommit (lsb : Nat) (hm : ⟨lsb, 1, .sc, .live⟩ ∈ (WReg.hdCommit x).fields)
    (ht : s.TakesField a (A.HD_COMMIT x) lsb 1 1) :
    s.fieldArrives a (A.HD_COMMIT x) lsb 1 1
      = (s.wordEffect a (.hdCommit x) [⟨⟨A.HD_COMMIT x, lsb, 1⟩, .sc, .live, 1⟩]).2 :=
  State.fieldArrives_of_live (acc := .sc) (wregAt_hdCommit x) (hdCommit_plain x) (by decide) hm rfl
    (by unfold A.HD_COMMIT; omega) ht ⟨rfl, State.mayWrite_hdCommit ho _, rfl, rfl, rfl⟩

theorem exec_hdCommit_of_taken (ht : s.TakesField a (A.HD_COMMIT x) 0 1 1) :
    exec (.hdCommit a x) s = .next (s.hdSetCommit x) := by
  have h := State.fieldArrives_hdCommit ho 0 List.mem_cons_self ht
  exact congrArg Host.Outcome.next (h.trans (by simp [State.wordEffect_hdCommit, wrOne, wrAt]))

theorem exec_hdCancel_of_taken (ht : s.TakesField a (A.HD_COMMIT x) 1 1 1) :
    exec (.hdCancel a x) s = .next (s.hdCancel x) := by
  have h := State.fieldArrives_hdCommit ho 1 (List.mem_cons_of_mem _ List.mem_cons_self) ht
  exact congrArg Host.Outcome.next (h.trans (by simp [State.wordEffect_hdCommit, wrOne, wrAt]))

/-- ENABLE of a head that the owner changes takes its value, where the head's timing and the ledger allow it (R370, R373). -/
theorem State.fieldArrives_hdCtrl {e : Nat} (he : e < 2) (ht : s.TakesField a (A.HD_CTRL x) 0 1 e)
    (hc : e ≠ s.get (F.HD_CTRL_ENABLE x)) (hd : s.wordDenied (.hdCtrl x) [⟨F.HD_CTRL_ENABLE x, .rw, .live, e⟩] = false)
    (hb : s.wordBusy (.hdCtrl x) [⟨F.HD_CTRL_ENABLE x, .rw, .live, e⟩] = false) :
    s.fieldArrives a (A.HD_CTRL x) 0 1 e
      = (s.wordEffect a (.hdCtrl x) [⟨F.HD_CTRL_ENABLE x, .rw, .live, e⟩]).2 :=
  State.fieldArrives_of_live (acc := .rw) (wregAt_hdCtrl x) (hdCtrl_plain x) he List.mem_cons_self (bne_iff_ne.2 hc)
    (by unfold A.HD_CTRL; omega) ht ⟨rfl, State.mayWrite_hdCtrl ho _, rfl, hd, hb⟩

theorem exec_headEnable_on (ht : s.TakesField a (A.HD_CTRL x) 0 1 1) (he : s.get (F.HD_CTRL_ENABLE x) = 0)
    (htim : s.hdTimingOk x = true)
    (hroom : (s.put (F.HD_CTRL_ENABLE x) 1).ledgerSumNow 8 ≤ (s.put (F.HD_CTRL_ENABLE x) 1).ledgerLimitNow 8) :
    exec (.headEnable a x true) s = .next ((s.put (F.HD_CTRL_ENABLE x) 1).headStart x) := by
  have hd : s.wordDenied (.hdCtrl x) [⟨F.HD_CTRL_ENABLE x, .rw, .live, 1⟩] = false := by
    simp only [State.wordDenied, htim, Bool.not_true, Bool.and_false]
  have hb : s.wordBusy (.hdCtrl x) [⟨F.HD_CTRL_ENABLE x, .rw, .live, 1⟩] = false := by
    simp only [State.wordBusy, decide_eq_false (Nat.not_lt.2 hroom), Bool.and_false]
  exact congrArg Host.Outcome.next ((State.fieldArrives_hdCtrl ho (by decide) ht (by rw [he]; decide) hd hb).trans
    (by simp [State.wordEffect_hdCtrl]))

theorem exec_headEnable_off (ht : s.TakesField a (A.HD_CTRL x) 0 1 0) (he : s.get (F.HD_CTRL_ENABLE x) = 1) :
    exec (.headEnable a x false) s = .next ((s.put (F.HD_CTRL_ENABLE x) 0).headStop x) :=
  congrArg Host.Outcome.next ((State.fieldArrives_hdCtrl ho (by decide) ht (by rw [he]; decide) rfl rfl).trans
    (by simp [State.wordEffect_hdCtrl]))

end

/-! ### A commit set and ended (R374 to R377) -/

/-- A field of a head at 0 is not set. -/
theorem State.flag_of_zero {f : FRef} (h : s.get f = 0) : s.flag f = false := by simp [State.flag, h]

theorem State.flag_of_one {f : FRef} (h : s.get f = 1) : s.flag f = true := by simp [State.flag, h]

/-- From `s` to `t` nothing changed but registers. -/
def State.OnlyRegs (s t : State) : Prop := t = { s with regs := t.regs }

theorem State.OnlyRegs.put {s t : State} (h : s.OnlyRegs t) (f : FRef) (v : Nat) : s.OnlyRegs (t.put f v) := by
  have e : t.put f v = { t with regs := (t.put f v).regs } := rfl
  unfold State.OnlyRegs
  generalize (t.put f v).regs = regs at e ⊢
  rw [e, h]

/-- COMMIT and PENDING take a value, CHECKED is clear. -/
def State.commitMarks (s : State) (x c : Nat) : State :=
  ((s.put (F.HD_COMMIT_COMMIT x) c).put (F.HD_STATUS_PENDING x) c).put (F.HD_STATUS_CHECKED x) 0

/-- The head's commit is not taken and has not been kept waiting. -/
def State.commitUnheld (t : State) (x : Nat) : State :=
  { t with pl := { t.pl with taken := vPut t.pl.taken x false, waits := vPut t.pl.waits x 0 } }

theorem State.commitMarks_onlyRegs (s : State) (x c : Nat) : s.OnlyRegs (s.commitMarks x c) :=
  ((State.OnlyRegs.put (t := s) rfl _ _).put _ _).put _ _

theorem State.commitUnheld_frame {t : State} (x : Nat) (h : s.OnlyRegs t) :
    t.commitUnheld x = { s with regs := (t.commitUnheld x).regs, pl := (t.commitUnheld x).pl } := by
  unfold State.commitUnheld
  rw [h]

theorem State.get_commitUnheld (t : State) (x : Nat) (g : FRef) : (t.commitUnheld x).get g = t.get g := by
  refine State.get_congr ?_ g
  unfold State.commitUnheld
  rfl

theorem State.commitMarks_reports (x c : Nat) (h : cellsWf 0 s.regs = true) :
    s.ReportsOnly (s.commitMarks x c) [A.HD_COMMIT x, A.HD_STATUS x] :=
  have r1 := State.put_reports (F.HD_COMMIT_COMMIT x) c h
  have r2 := State.put_reports (F.HD_STATUS_PENDING x) c r1.wf
  ((r1.trans r2).trans (State.put_reports (F.HD_STATUS_CHECKED x) 0 r2.wf)).mono
    (by simp [F.HD_COMMIT_COMMIT, F.HD_STATUS_PENDING, F.HD_STATUS_CHECKED])

theorem State.commitMarks_shows {c : Nat} (x : Nat) (h : cellsWf 0 s.regs = true) (hc : c < 2) :
    (s.commitMarks x c).get (F.HD_COMMIT_COMMIT x) = c ∧ (s.commitMarks x c).get (F.HD_STATUS_PENDING x) = c
      ∧ (s.commitMarks x c).get (F.HD_STATUS_CHECKED x) = 0 := by
  have r1 := State.put_reports (F.HD_COMMIT_COMMIT x) c h
  have r2 := State.put_reports (F.HD_STATUS_PENDING x) c r1.wf
  have r3 := State.put_reports (F.HD_STATUS_CHECKED x) 0 r2.wf
  have hne : A.HD_COMMIT x ∉ [A.HD_STATUS x] := by simp [A.HD_COMMIT, A.HD_STATUS]
  unfold State.commitMarks
  refine ⟨?_, ?_, ?_⟩
  · rw [r3.same (F.HD_COMMIT_COMMIT x) hne, r2.same (F.HD_COMMIT_COMMIT x) hne,
      State.get_put_same (F.HD_COMMIT_COMMIT x) c h (Nat.le_of_ble_eq_true rfl)]
    exact Nat.mod_eq_of_lt hc
  · rw [State.get_put_disj (F.HD_STATUS_CHECKED x) (F.HD_STATUS_PENDING x) 0 r2.wf (Nat.le_of_ble_eq_true rfl) rfl
        (.inl (Nat.le_refl 15)),
      State.get_put_same (F.HD_STATUS_PENDING x) c r1.wf (Nat.le_of_ble_eq_true rfl)]
    exact Nat.mod_eq_of_lt hc
  · exact State.get_put_same (F.HD_STATUS_CHECKED x) 0 r2.wf (Nat.le_of_ble_eq_true rfl)

theorem State.hdSetCommit_of_none (x : Nat) (hp : s.get (F.HD_STATUS_PENDING x) = 0) :
    s.hdSetCommit x = (s.commitMarks x 1).commitUnheld x :=
  if_neg (by rw [State.flag_of_zero hp]; exact Bool.false_ne_true)

/-- A commit that has ended with a RESULT, before an event says so. -/
def State.commitEnded (s : State) (x result : Nat) : State :=
  ((s.commitMarks x 0).put (F.HD_COMMIT_STATUS_RESULT x) result).commitUnheld x

theorem State.hdEndCommit_rejected {result : Nat} (x : Nat) (h2 : 2 ≤ result) (h4 : result ≤ 4) :
    s.hdEndCommit x result = (s.commitEnded x result).hdEvt x 2 := by
  unfold State.hdEndCommit
  dsimp only
  rw [if_neg (by omega), if_neg (by omega)]
  rfl

theorem State.hdEndCommit_cancelled (s : State) (x : Nat) : s.hdEndCommit x 5 = s.commitEnded x 5 := rfl

theorem State.commitEnded_frame (s : State) (x result : Nat) :
    s.commitEnded x result = { s with regs := (s.commitEnded x result).regs, pl := (s.commitEnded x result).pl } :=
  State.commitUnheld_frame x ((s.commitMarks_onlyRegs x 0).put _ _)

/-- The registers of a head that has no commit pending and whose last one ended with a RESULT. -/
structure State.CommitShown (t : State) (x result : Nat) : Prop where
  commit : t.get (F.HD_COMMIT_COMMIT x) = 0
  pending : t.get (F.HD_STATUS_PENDING x) = 0
  checked : t.get (F.HD_STATUS_CHECKED x) = 0
  result : t.get (F.HD_COMMIT_STATUS_RESULT x) = result

/-- The end of a commit shows in the head's registers, and changes COMMIT, HD_STATUS and COMMIT_STATUS alone of them. -/
theorem State.commitEnded_spec {result : Nat} (x : Nat) (h : cellsWf 0 s.regs = true) (hr : result < 8) :
    cellsWf 0 (s.commitEnded x result).regs = true ∧ (s.commitEnded x result).CommitShown x result
      ∧ s.SameRegs (s.commitEnded x result) [A.HD_COMMIT x, A.HD_STATUS x, A.HD_COMMIT_STATUS x] := by
  have r1 := State.commitMarks_reports x 0 h
  have r2 := State.put_reports (F.HD_COMMIT_STATUS_RESULT x) result r1.wf
  obtain ⟨hcommit, hpending, hchecked⟩ := State.commitMarks_shows (c := 0) x h (by decide)
  have hc : A.HD_COMMIT x ∉ [A.HD_COMMIT_STATUS x] := by simp [A.HD_COMMIT, A.HD_COMMIT_STATUS]
  have hs : A.HD_STATUS x ∉ [A.HD_COMMIT_STATUS x] := by simp [A.HD_STATUS, A.HD_COMMIT_STATUS]
  have hresult := State.get_put_same (F.HD_COMMIT_STATUS_RESULT x) result r1.wf (Nat.le_of_ble_eq_true rfl)
  unfold State.commitEnded
  generalize (s.commitMarks x 0).put (F.HD_COMMIT_STATUS_RESULT x) result = t at r2 hresult
  have unheld := State.get_commitUnheld t x
  exact ⟨r2.wf, ⟨(unheld _).trans ((r2.same _ hc).trans hcommit), (unheld _).trans ((r2.same _ hs).trans hpending),
    (unheld _).trans ((r2.same _ hs).trans hchecked), (unheld _).trans (hresult.trans (Nat.mod_eq_of_lt hr))⟩,
    fun g hg => (unheld g).trans ((r1.trans r2).same g hg)⟩

/-- A commit that ends with RESULT 2 to 4 sets REJECTED, and else changes what every end of a commit does. -/
theorem State.hdEndCommit_rejected_spec {result : Nat} (x : Nat) (h : cellsWf 0 s.regs = true) (h2 : 2 ≤ result)
    (h4 : result ≤ 4) :
    let t := s.hdEndCommit x result
    t.CommitShown x result ∧ t.get ⟨A.HD_EVT x, 2, 1⟩ = 1
      ∧ t = { s with regs := t.regs, router := t.router, pl := t.pl }
      ∧ s.SameRegs t [A.HD_COMMIT x, A.HD_STATUS x, A.HD_COMMIT_STATUS x, A.HD_EVT x, A.EVT_RISE_s (96 + 8 * x + 2)] := by
  obtain ⟨hwf, shown, same⟩ := State.commitEnded_spec x h (Nat.lt_of_le_of_lt h4 (by decide : 4 < 8))
  have r := State.raise_reports (96 + 8 * x + 2) ⟨A.HD_EVT x, 2, 1⟩ hwf
  rw [State.hdEndCommit_rejected x h2 h4]
  intro t
  have hsame (g : FRef) (hg : g.addr = A.HD_COMMIT x ∨ g.addr = A.HD_STATUS x ∨ g.addr = A.HD_COMMIT_STATUS x) :
      t.get g = (s.commitEnded x result).get g := by
    refine r.same g ?_
    simp only [List.mem_cons, List.not_mem_nil, or_false, A.HD_COMMIT, A.HD_STATUS, A.HD_COMMIT_STATUS, A.HD_EVT,
      A.EVT_RISE_s] at hg ⊢
    omega
  refine ⟨⟨(hsame _ (.inl rfl)).trans shown.commit, (hsame _ (.inr (.inl rfl))).trans shown.pending,
    (hsame _ (.inr (.inl rfl))).trans shown.checked, (hsame _ (.inr (.inr rfl))).trans shown.result⟩, ?_, ?_, fun g hg => ?_⟩
  · exact State.get_raise_same _ _ hwf (Nat.le_of_ble_eq_true rfl) (by simp only [A.HD_EVT, A.EVT_RISE_s]; omega)
  · have hpl : t.pl = (s.commitEnded x result).pl := State.raise_pl _ _ _
    have e : t = { s.commitEnded x result with regs := t.regs, router := t.router } := State.raise_frame _ _ _
    rw [hpl]
    generalize t.regs = regs, t.router = router at e ⊢
    rw [e, State.commitEnded_frame]
  · have h1 : g.addr ∉ [A.HD_COMMIT x, A.HD_STATUS x, A.HD_COMMIT_STATUS x]
        ∧ g.addr ∉ [A.HD_EVT x, A.EVT_RISE_s (96 + 8 * x + 2)] := by
      simpa [and_assoc] using hg
    exact (r.same g h1.2).trans (same g h1.1)

/-! ### The commands of a pending commit (R368, R369, R374 to R378) -/

section
variable (hp : s.get (F.HD_STATUS_PENDING x) = 1)
include hp

theorem State.hdCancel_of_untaken (ht : vAt s.pl.taken x = false) : s.hdCancel x = s.hdEndCommit x 5 := by
  unfold State.hdCancel
  rw [State.flag_of_one hp, ht]
  rfl

theorem exec_coverageCheckDone_of_unchecked (hc : s.get (F.HD_STATUS_CHECKED x) = 0) :
    exec (.coverageCheckDone x) s = .next (if s.geometryOk x = false then s.hdEndCommit x 2 else
      let m := fetchMax (s.shadowLayers x) (s.get (F.HD_HTIM_H_ACTIVE x)) (s.get (F.HD_VTIM_V_ACTIVE x))
      let u := s.put (F.HD_COMMIT_STATUS_FETCH_MAX x) (min m 4095)
      if u.bandGrains x < m then u.hdEndCommit x 3 else (u.put (F.HD_STATUS_CHECKED x) 1).hdIdleApply x) := by
  show execCoverageCheckDone x s = _
  unfold execCoverageCheckDone
  rw [State.flag_of_one hp, State.flag_of_zero hc]
  simp only [Bool.not_eq_true', Bool.not_true, Bool.or_self, Bool.false_eq_true, if_false]

section
variable (hrun : s.get (F.HD_STATUS_RUNNING x) = 1)
include hrun

theorem exec_commitPoint_of_met (hw : s.hdWaitMet x = true) (hc : s.get (F.HD_STATUS_CHECKED x) = 1) :
    exec (.commitPoint x) s = .next { s with pl := { s.pl with taken := vPut s.pl.taken x true } } := by
  show execCommitPoint x s = _
  unfold execCommitPoint
  rw [State.flag_of_one hp, State.flag_of_one hrun, State.flag_of_one hc, hw]
  rfl

theorem exec_commitPoint_of_unmet (hw : s.hdWaitMet x = false) :
    exec (.commitPoint x) s = .next (if s.get (F.HD_WAIT_MAX_FRAMES x) ≠ 0
        ∧ s.get (F.HD_WAIT_MAX_FRAMES x) ≤ vAt s.pl.waits x + 1 then s.hdEndCommit x 4
      else { s with pl := { s.pl with waits := vPut s.pl.waits x (vAt s.pl.waits x + 1) } }) := by
  show execCommitPoint x s = _
  unfold execCommitPoint
  rw [State.flag_of_one hp, State.flag_of_one hrun, hw]
  simp only [Bool.not_true, Bool.or_self, Bool.false_eq_true, if_false, Bool.and_eq_true, bne_iff_ne, decide_eq_true_eq]

end
end

theorem exec_verticalBlanking_of_running (hrun : s.get (F.HD_STATUS_RUNNING x) = 1) :
    exec (.verticalBlanking x) s = .next (
      let u := (s.composeTo x (s.bandCount x)).bump (F.HD_FRAMES_COUNT x) 1
      let u : State := { u with pl := { u.pl with vbAt := vPut u.pl.vbAt x u.clock.time } }
      let v := if u.flag (F.HD_CTRL_VBLANK_EVT x) then u.hdEvt x 0 else u
      (((if vAt v.pl.taken x then v.hdApply x else v).newFrame x).mainStream x).genlock x) := by
  show execVerticalBlanking x s = _
  unfold execVerticalBlanking
  rw [State.flag_of_one hrun]
  rfl

end

/-- Settles O33: the owner's writes set and cancel a commit, the check, the commit point and the frame's end move it on, and each
end of one shows its RESULT. -/
theorem headCommits : Obligations.HeadCommits := by
  intro s x hs
  refine ⟨fun a ho => ⟨fun ht hp => ?_, fun ht hp hn => ?_⟩, fun hp hc => ?_,
    fun hrun hp => ⟨fun hw hc => ?_, fun hw => ?_⟩, fun r h2 h4 => ?_, ?_,
    fun hrun => exec_verticalBlanking_of_running hrun, fun a ho => ⟨fun ht he htim => ?_, fun ht he => ?_⟩⟩
  · have he := exec_hdCommit_of_taken ho ht
    rw [State.hdSetCommit_of_none _ hp] at he
    obtain ⟨hcommit, hpend, hcheck⟩ := State.commitMarks_shows (c := 1) x hs.regs (by decide)
    have unheld := State.get_commitUnheld (s.commitMarks x 1) x
    exact ⟨_, he, (unheld _).trans hcommit, (unheld _).trans hpend, (unheld _).trans hcheck, rfl,
      State.commitUnheld_frame x (s.commitMarks_onlyRegs x 1),
      fun g hg => (unheld g).trans ((State.commitMarks_reports x 1 hs.regs).same g hg)⟩
  · exact (exec_hdCancel_of_taken ho ht).trans (congrArg Host.Outcome.next (State.hdCancel_of_untaken hp hn))
  · have he := exec_coverageCheckDone_of_unchecked hp hc
    exact ⟨fun hg => he.trans (congrArg Host.Outcome.next (if_pos hg)),
      fun hg => he.trans (congrArg Host.Outcome.next (if_neg (by rw [hg]; decide)))⟩
  · exact exec_commitPoint_of_met hp hrun hw hc
  · intro n max
    have he := exec_commitPoint_of_unmet hp hrun hw
    exact ⟨fun hm => he.trans (congrArg Host.Outcome.next (if_neg (by omega))),
      fun h0 hm => he.trans (congrArg Host.Outcome.next (if_pos ⟨h0, hm⟩))⟩
  · obtain ⟨shown, hevt, hframe, hsame⟩ := State.hdEndCommit_rejected_spec x hs.regs h2 h4
    exact ⟨shown.commit, shown.pending, shown.checked, shown.result, hevt, hframe, hsame⟩
  · obtain ⟨-, shown, hsame⟩ := State.commitEnded_spec (result := 5) x hs.regs (by decide)
    rw [State.hdEndCommit_cancelled]
    exact ⟨shown.commit, shown.pending, shown.checked, shown.result, State.commitEnded_frame s x 5, hsame⟩
  · intro u hroom
    exact exec_headEnable_on ho ht he htim hroom
  · exact exec_headEnable_off ho ht he

end Sys2Proof.Machine
end

section
/-! READ: the words of a span, and the pop of a capture record (O17). -/
namespace Sys2Proof.Machine

/-! ### The words of a READ (R123, R630) -/

/-- The addresses of a frame that a command makes. -/
theorem frameAddrs_mk (op tag len flags : Nat) (addr : Nat) (ws : List Word) (hl : len < 4096) (ha : addr < 2 ^ 32) :
    frameAddrs (mkFrame op tag len flags addr ws) = spanAddrs (bitAt (flags % 16) 0) addr len := by
  have hw : (mkFrame op tag len flags addr ws).w1.toNat = addr := Nat.mod_eq_of_lt ha
  unfold frameAddrs
  rw [frameFixed_mk, frameLen_mk _ _ _ _ _ _ hl, hw]

section
variable {s : State} {a : Nat}

/-- The answer to a frame whose ADDRESS lies outside the field window. -/
theorem State.answer_of_not_inField (tr : Transport) {f : Frame} (res : Nat) (data : List Word)
    (h : inField f.w1.toNat = false) :
    s.answer a tr f res data = s.reply a tr (frameTag f) (frameOp f) res data := by
  unfold State.answer fieldIx
  rw [h]
  rfl

/-- A READ outside the field window whose span passes R123. -/
theorem State.readBody_of_judged (tr : Transport) {f : Frame} (ho : inField f.w1.toNat = false)
    (hj : s.readJudge a f = R.ok) :
    s.readBody a tr f = ((s.readWords a (frameAddrs f)).2.capPops f).reply a tr (frameTag f) (frameOp f) R.ok
      (s.readWords a (frameAddrs f)).1 := by
  unfold State.readBody
  rw [ho, hj]
  dsimp only
  rw [if_neg (by decide), if_neg (by decide), State.answer_of_not_inField tr _ _ ho]

/-- A word below the grain window other than TIME_LO reads as its view, and its read changes nothing. -/
theorem State.readWord_below {addr : Nat} (hb : addr < 0x80000000) (ht : addr ≠ A.TIME_LO) :
    s.readWord a addr = (s.readView a addr, s) := by
  unfold State.readWord
  rw [if_neg ht, if_neg (by omega)]

/-- The same of the words of a span. -/
theorem State.readWords_below : ∀ l : List Nat, (∀ x ∈ l, x < 0x80000000 ∧ x ≠ A.TIME_LO) →
    s.readWords a l = (l.map (fun x => w32 (s.readView a x)), s)
  | [], _ => rfl
  | x :: l, h => by
    obtain ⟨hb, ht⟩ := h x List.mem_cons_self
    have hl := State.readWords_below l (fun y hy => h y (List.mem_cons_of_mem _ hy))
    unfold State.readWords
    rw [State.readWord_below hb ht]
    dsimp only
    rw [hl]
    rfl

/-- An admitted READ outside the field window whose span passes R123 acts on the state after its agent's turn. -/
theorem State.read_arrives {tr : Transport} {tag : Byte} {len flags addr : Nat} (hw : addr < 2 ^ 32)
    (hadm : s.Admits a tr (mkFrame 1 tag.toNat len flags addr [])) (ho : inField addr = false)
    (hj : (s.passTurn a).readJudge a (mkFrame 1 tag.toNat len flags addr []) = R.ok) :
    let f := mkFrame 1 tag.toNat len flags addr []
    s.arrive a tr f (fun s => s.readBody a tr f)
      = (((s.passTurn a).readWords a (frameAddrs f)).2.capPops f).reply a tr tag.toNat 1 R.ok
          ((s.passTurn a).readWords a (frameAddrs f)).1 := by
  intro f
  have hw1 : f.w1.toNat = addr := Nat.mod_eq_of_lt hw
  rw [State.arrive_admits hadm, State.readBody_of_judged tr (by rw [hw1]; exact ho) hj, frameTag_mk,
    frameOp_mk _ _ _ _ _ _ (by decide)]

/-! ### Capture records (R345, R632) -/

/-- A frame that does not name all four words of a capture group's record pops nothing. -/
theorem State.capPops_of_partial {f : Frame}
    (h : ∀ g : Fin 4, (List.range 4).all (fun i => (frameAddrs f).contains (A.CAP_REC_W g i)) = false) :
    s.capPops f = s := by
  refine foldl_fixed_of_mem _ s _ (fun g hg => ?_)
  rw [h ⟨g, List.mem_range.1 hg⟩, Bool.and_false]
  rfl

/-- One address does not name all four words of a capture group's record. -/
theorem capRec_words_not_one (g addr : Nat) :
    (List.range 4).all (fun i => [addr].contains (A.CAP_REC_W g i)) = false := by
  rw [List.all_eq_false]
  by_cases h : A.CAP_REC_W g 0 = addr
  · have h1 : A.CAP_REC_W g 1 ≠ addr := by
      unfold A.CAP_REC_W at h ⊢
      omega
    exact ⟨1, by decide, by simpa using h1⟩
  · exact ⟨0, by decide, by simpa using h⟩

/-- The words of one capture group's record do not contain those of another's. -/
theorem capRec_words_apart : ∀ g k : Fin 4,
    (List.range 4).all (fun i => (spanAddrs false (A.CAP_REC_W g 0) 4).contains (A.CAP_REC_W k i)) = decide (k = g) := by
  decide +kernel

/-- A pass over a list that acts at one number alone. -/
theorem State.each_one (f : State → Nat → State) (g : Nat) (l : List Nat) (s : State) (hn : l.Nodup) (hg : g ∈ l)
    (h : ∀ k ∈ l, k ≠ g → ∀ t, f t k = t) : s.each l f = f s g := by
  unfold State.each
  induction l generalizing s with
  | nil => simp at hg
  | cons k l ih =>
    rw [List.nodup_cons] at hn
    have hl : ∀ k' ∈ l, k' ≠ g → ∀ t, f t k' = t := fun k' hk => h k' (List.mem_cons_of_mem _ hk)
    rw [List.foldl_cons]
    by_cases hk : k = g
    · subst hk
      exact foldl_fixed_of_mem _ _ l (fun k' hk' => hl k' hk' (fun e => hn.1 (e ▸ hk')) _)
    · rw [h k List.mem_cons_self hk, ih s hn.2 ((List.mem_cons.1 hg).resolve_left (fun e => hk e.symm)) hl]

/-- A frame that names the four words of capture group `g`'s record pops that group alone. -/
theorem State.capPops_of_group (g : Fin 4) {f : Frame} (hf : frameFixed f = false)
    (ha : frameAddrs f = spanAddrs false (A.CAP_REC_W g 0) 4) : s.capPops f = s.capPop g := by
  have h (k : Fin 4) : (List.range 4).all (fun i => (frameAddrs f).contains (A.CAP_REC_W k i)) = decide (k = g) := by
    rw [ha]
    exact capRec_words_apart g k
  unfold State.capPops
  rw [hf, State.each_one _ g _ _ List.nodup_range (List.mem_range.2 g.isLt)]
  · rw [h g]
    simp
  · intro k hk hne t
    rw [h ⟨k, List.mem_range.1 hk⟩, decide_eq_false (fun e => hne (congrArg Fin.val e))]
    rfl

/-- A word of a capture group's record reads as the record's word. -/
theorem State.readView_capRec (g i : Fin 4) : s.readView a (A.CAP_REC_W g i) = s.capRec g i := by
  have hp : ∀ g i : Fin 4, perAgent (A.CAP_REC_W g i) = false := by decide +kernel
  have hrow : ∀ g i : Fin 4, (decide (0x340410 ≤ A.CAP_REC_W g i) && decide (A.CAP_REC_W g i < 0x340500)
      && decide (A.CAP_REC_W g i % 64 / 16 = 1)) = true := by decide +kernel
  have hg := g.isLt
  have hi := i.isLt
  have hd : A.CAP_REC_W g i / 65536 = 0x34 := by
    unfold A.CAP_REC_W
    omega
  have hgroup : (A.CAP_REC_W g i - 0x340400) / 64 = g := by
    unfold A.CAP_REC_W
    omega
  have hword : A.CAP_REC_W g i % 16 / 4 = i := by
    unfold A.CAP_REC_W
    omega
  unfold State.readView
  rw [hp, hd, if_neg Bool.false_ne_true]
  refine (if_pos (hrow g i)).trans ?_
  rw [hgroup, hword]

/-- The four words of a capture group's record, read in order. -/
theorem State.readWords_capRec (g : Fin 4) :
    s.readWords a (spanAddrs false (A.CAP_REC_W g 0) 4)
      = ([w32 (s.capRec g 0), w32 (s.capRec g 1), w32 (s.capRec g 2), w32 (s.capRec g 3)], s) := by
  have hspan : spanAddrs false (A.CAP_REC_W g 0) 4
      = [A.CAP_REC_W g 0, A.CAP_REC_W g 1, A.CAP_REC_W g 2, A.CAP_REC_W g 3] := rfl
  have hbelow : ∀ g : Fin 4, ∀ x ∈ spanAddrs false (A.CAP_REC_W g 0) 4, x < 0x80000000 ∧ x ≠ A.TIME_LO := by
    decide +kernel
  rw [State.readWords_below _ (hbelow g), hspan]
  have hview (i : Fin 4) := State.readView_capRec (s := s) (a := a) g i
  exact congrArg (·, s) (congrArg₂ _ (congrArg _ (hview 0)) (congrArg₂ _ (congrArg _ (hview 1))
    (congrArg₂ _ (congrArg _ (hview 2)) (congrArg₂ _ (congrArg _ (hview 3)) rfl))))

section
variable {g : Nat} {r : Nat × Nat × Nat} {rest : List (Nat × Nat × Nat)} (hr : (vAt s.sr.caps g).recs = r :: rest)
include hr

/-- The words of a capture group's oldest record (R345). -/
theorem State.capRec_cons (i : Nat) :
    s.capRec g i = if i = 0 then r.1 else if i = 1 then r.2.1 else if i = 2 then r.2.2 else 0 := by
  unfold State.capRec
  rw [hr]

/-- In register delivery the oldest record alone goes. -/
theorem State.capPop_cons (hd : s.get (F.CAP_CTRL_g_DELIVERY g) = 1) :
    s.capPop g = s.modCap g (fun c => { c with recs := rest }) := by
  unfold State.capPop State.modCap vMod
  rw [if_pos (State.flag_of_one hd)]
  dsimp only
  rw [hr]
  rfl

end
end

/-- Settles O17: an admitted READ answers the words of its span; of one word the view, of a capture record its four words. -/
theorem registerReads : Obligations.RegisterReads := by
  intro s hs
  refine ⟨fun a tr tag fixed addr len hadm ho hj => congrArg Host.Outcome.next (State.read_arrives addr.isLt hadm ho hj),
    fun a tr tag addr hadm ho hj hb ht => congrArg Host.Outcome.next ?_,
    fun a tr tag g r rest hadm hj hr hd => congrArg Host.Outcome.next ?_⟩
  · have haddrs : frameAddrs (mkFrame 1 tag.toNat 1 0 addr.toNat []) = [addr.toNat] :=
      frameAddrs_mk _ _ _ _ _ _ (by decide) addr.isLt
    refine (State.read_arrives addr.isLt hadm ho hj).trans ?_
    rw [haddrs, State.readWords_below [addr.toNat] (by simpa using ⟨hb, ht⟩)]
    dsimp only
    rw [State.capPops_of_partial (fun g => by rw [haddrs]; exact capRec_words_not_one g addr.toNat)]
    rfl
  · have hg := g.isLt
    have hw : A.CAP_REC_W g 0 < 0x40000000 := by
      unfold A.CAP_REC_W
      omega
    have haddrs : frameAddrs (mkFrame 1 tag.toNat 4 0 (A.CAP_REC_W g 0) []) = spanAddrs false (A.CAP_REC_W g 0) 4 :=
      frameAddrs_mk _ _ _ _ _ _ (by decide) (by omega)
    refine (State.read_arrives (by omega) hadm (by simp [inField, hw]) hj).trans ?_
    rw [haddrs, State.readWords_capRec]
    dsimp only
    rw [State.capPops_of_group g (by rw [frameFixed_mk]; rfl) haddrs, State.capPop_cons (s := s.passTurn a) hr hd]
    simp only [State.capRec_cons (s := s.passTurn a) hr]
    rfl

end Sys2Proof.Machine
end

section
/-! Service mode (O21). -/
namespace Sys2Proof.Machine

section
variable {s : State} {a : Nat} {tr : Transport} {tag : Byte}

/-! ### SERVICE_CHALLENGE (R134, R135) -/

/-- A challenge of an agent that may ask and is not locked out gives it a fresh nonce. -/
theorem State.challengeBody_of_allowed (hm : s.mayService a = true) (hl : s.lockedOut a = false) :
    s.challengeBody a tr (mkFrame 0x40 tag.toNat 0 0 0 [])
      = (s.took.modAgent a (fun g => { g with nonce := some (Config.nonce s.free, s.tick) })).reply a tr tag.toNat 0x40
          R.ok (bytesWords (toBytesLE 48 (Config.nonce s.free).toNat)) := by
  unfold State.challengeBody
  rw [hm, hl]
  exact State.answer_mkFrame _ _ (by decide) (by decide)

/-! ### SERVICE_RESPONSE (R136 to R138) -/

/-- A response with LEN 0 ends service mode. -/
theorem State.responseBody_empty :
    s.responseBody a tr (mkFrame 0x41 tag.toNat 0 0 0 []) = (s.serviceEnd a).reply a tr tag.toNat 0x41 R.ok [] := by
  unfold State.responseBody
  rw [frameLen_mk _ _ _ _ _ _ (by decide), if_pos rfl]
  exact State.answer_mkFrame _ _ (by decide) (by decide)

/-- A response's key is a trusted one and its signature of nonce, die identifier and agent verifies. -/
def State.responseGood (s : State) (a : Nat) (n : BitVec 384) (data : List Word) : Bool :=
  (s.trustedSlot ((wordsBytes data).take 96)).isSome
    && Config.ecdsaVerify ((wordsBytes data).take 96) (Config.sha384 (serviceText n a)) ((wordsBytes data).drop 96)

section
variable {data : List Word} {n : BitVec 384} {t : Nat} (hlen : data.length = 48) (hn : (s.agent a).nonce = some (n, t))
  (ht : s.tick < t + 8000) (hm : s.mayService a = true)
include hlen hn ht hm

/-- A response in time uses the nonce up and is judged by its key and signature. -/
theorem State.responseBody_in_time :
    s.responseBody a tr (mkFrame 0x41 tag.toNat data.length 0 0 data)
      = (let u := s.modAgent a (fun g => { g with nonce := none })
         if u.responseGood a n data then
           (u.modAgent a (fun g => { g with service := true, fails := 0 })).reply a tr tag.toNat 0x41 R.ok []
         else
           (u.modAgent a (fun g => { g with
             fails := satAdd 4 (u.agent a).fails 1,
             lockout := if 3 ≤ satAdd 4 (u.agent a).fails 1 then some u.tick else g.lockout })).reply
               a tr tag.toNat 0x41 R.auth []) := by
  have hm' : (s.modAgent a (fun g => { g with nonce := none })).mayService a = true := hm
  have ht' : ¬ t + 8000 ≤ (s.modAgent a (fun g => { g with nonce := none })).tick := Nat.not_le.2 ht
  unfold State.responseBody
  rw [frameLen_mk _ _ _ _ _ _ (by omega), if_neg (by omega), hn]
  dsimp only
  rw [hm', decide_eq_false ht', if_neg (by decide)]
  simp only [State.answer_mkFrame _ _ (by decide : 0x41 < 256) (by decide : 0 < 0x40000000), framePayload_mk]
  rfl

end

/-! ### The nonce's expiry and the lockout's end (R135, R137) -/

theorem exec_nonceExpiry_of_nonce (a : Agent) {n : BitVec 384} {t : Nat} (hn : (s.agent a).nonce = some (n, t)) :
    exec (.nonceExpiry a) s
      = .next ((s.advanceTo ((t + 8000) * 125000)).modAgent a (fun g => { g with nonce := none })) := by
  show execNonceExpiry a s = _
  unfold execNonceExpiry
  rw [hn]

theorem exec_serviceLockoutEnd_of_lockout (a : Agent) {t : Nat} (hl : (s.agent a).lockout = some t) :
    exec (.serviceLockoutEnd a) s
      = .next ((s.advanceTo ((t + 80000) * 125000)).modAgent a (fun g => { g with lockout := none })) := by
  show execServiceLockoutEnd a s = _
  unfold execServiceLockoutEnd
  rw [hl]

end

/-- Settles O21: an admitted frame acts on the state after its turn, a response in time by its judgement. -/
theorem serviceMode : Obligations.ServiceMode := by
  intro s a tr tag hs
  refine ⟨fun hadm hm hl => congrArg Host.Outcome.next ?_, fun hadm => congrArg Host.Outcome.next ?_,
    fun data n t hlen hadm hn ht hm => ?_, fun n t => exec_nonceExpiry_of_nonce a, fun t => exec_serviceLockoutEnd_of_lockout a⟩
  · exact (State.arrive_admits hadm _).trans (State.challengeBody_of_allowed (s := s.passTurn a) hm hl)
  · exact (State.arrive_admits hadm _).trans State.responseBody_empty
  · have he := (State.arrive_admits hadm (fun s => s.responseBody a tr (mkFrame 0x41 tag.toNat data.length 0 0 data))).trans
      (State.responseBody_in_time (s := s.passTurn a) hlen hn ht hm)
    exact ⟨fun hg => congrArg Host.Outcome.next (he.trans (if_pos hg)),
      fun hg => congrArg Host.Outcome.next (he.trans (if_neg (ne_true_of_eq_false hg)))⟩

end Sys2Proof.Machine
end

section
/-! Cold and warm resets, the rails and brown-out (O51). -/
namespace Sys2Proof.Machine

/-! ### Fields put one after another -/

section
variable (f : Nat → FRef) (v : Nat → Nat)

/-- Fields of a list of numbers put in turn. -/
def State.putEach (s : State) (l : List Nat) : State := s.each l (fun s n => s.put (f n) (v n))

theorem State.putEach_reports {s : State} (l : List Nat) (h : cellsWf 0 s.regs = true) :
    s.ReportsOnly (s.putEach f v l) (l.map (fun n => (f n).addr)) :=
  State.each_reports _ l (fun n hn u hu => (State.put_reports (f n) (v n) hu).mono (by
    intro x hx
    rw [List.mem_singleton.1 hx]
    exact List.mem_map_of_mem hn)) s h

/-- Of fields in as many registers each holds the value put to it. -/
theorem State.get_putEach {s : State} (k : Nat) (l : List Nat) (h : cellsWf 0 s.regs = true)
    (hf : (f k).lsb + (f k).width ≤ 32) (hne : ∀ j, j ≠ k → (f k).addr ≠ (f j).addr) (hk : k ∈ l) :
    (s.putEach f v l).get (f k) = v k % 2 ^ (f k).width := by
  induction l using List.reverseRecOn with
  | nil => cases hk
  | append_singleton l j ih =>
    have hlast : s.putEach f v (l ++ [j]) = (s.putEach f v l).put (f j) (v j) := List.foldl_append ..
    have hw := (State.putEach_reports f v l h).wf
    rw [hlast]
    by_cases e : k = j
    · rw [e] at hf ⊢
      exact State.get_put_same _ _ hw hf
    · rw [State.get_put_ne _ _ _ hw (hne j (fun e' => e e'.symm))]
      exact ih ((List.mem_append.1 hk).resolve_right (by simpa using e))

end

/-- A register reads as it was written whole. -/
theorem State.get_setReg_whole {s : State} (a v : Nat) (h : cellsWf 0 s.regs = true) :
    (s.setReg a v).get ⟨a, 0, 32⟩ = v % 2 ^ 32 := by
  rw [State.get_setReg_same s a v ⟨a, 0, 32⟩ h rfl]
  simp [bitsOf]

/-! ### Cold reset (R557, R559, R561) -/

/-- The keep words of `s` come back (R640). -/
def State.keepWords (r s : State) : State :=
  r.putEach F.SYS_KEEP_n_DATA (fun n => s.get (F.SYS_KEEP_n_DATA n)) (List.range 4)

/-- What the keep domain brings back after a cold reset of another cause than a supply (R590, R640). -/
def State.keepBack (r s : State) : State := (r.keepWords s).setReg A.BROWNOUT_CAUSE (s.reg A.BROWNOUT_CAUSE)

/-- What the keep domain brings back is in registers alone. -/
theorem State.keepBack_frame (r s : State) : r.keepBack s = { r with regs := (r.keepBack s).regs } := rfl

/-- The registers that the keep domain brings back. -/
def keepRegs : List Nat := A.BROWNOUT_CAUSE :: (List.range 4).map A.SYS_KEEP_n

section
variable {r : State} (s : State) (h : cellsWf 0 r.regs = true)
include h

theorem State.keepWords_reports : r.ReportsOnly (r.keepWords s) ((List.range 4).map A.SYS_KEEP_n) :=
  State.putEach_reports _ _ _ h

theorem State.keepBack_reports : r.ReportsOnly (r.keepBack s) keepRegs :=
  have a := State.keepWords_reports s h
  (a.trans (State.setReg_reports A.BROWNOUT_CAUSE (s.reg A.BROWNOUT_CAUSE) a.wf)).mono (by decide)

theorem State.keepBack_keep (n : Fin 4) :
    (r.keepBack s).get (F.SYS_KEEP_n_DATA n) = s.get (F.SYS_KEEP_n_DATA n) := by
  have hbrownout : (F.SYS_KEEP_n_DATA n).addr ≠ A.BROWNOUT_CAUSE := by
    simp only [F.SYS_KEEP_n_DATA, A.SYS_KEEP_n, A.BROWNOUT_CAUSE]
    omega
  have hapart : ∀ j, j ≠ n.val → (F.SYS_KEEP_n_DATA n).addr ≠ (F.SYS_KEEP_n_DATA j).addr := by
    intro j hj
    simp only [F.SYS_KEEP_n_DATA, A.SYS_KEEP_n]
    omega
  unfold State.keepBack
  rw [State.get_setReg_ne _ _ _ _ (State.keepWords_reports s h).wf hbrownout]
  exact (State.get_putEach F.SYS_KEEP_n_DATA _ n.val _ h (Nat.le_refl 32) hapart (List.mem_range.2 n.isLt)).trans
    (State.get_mod s _)

theorem State.keepBack_brownout :
    (r.keepBack s).get ⟨A.BROWNOUT_CAUSE, 0, 32⟩ = s.get ⟨A.BROWNOUT_CAUSE, 0, 32⟩ := by
  unfold State.keepBack
  rw [State.get_setReg_whole _ _ (State.keepWords_reports s h).wf]
  simp [State.get, bitsOf]

end

section
variable {s : State}

/-- What outlasts every cold reset, in the state after a power-on reset: the flash, the OTP and the model's own record. -/
def State.coldBase (s : State) : State :=
  ({ State.reset with pending := s.pending, out := s.out, free := s.free } : State).modImg (fun i =>
    { i with flash := s.img.flash, otp := s.img.otp, revoked := s.img.revoked, phase := .held })

/-- A cold reset recorded with its code, before the modules' digests come back. -/
def State.coldCoded (s : State) (code : Nat) : State :=
  if code = 1 then s.coldBase.setReg A.SYS_RESET_CAUSE code else (s.coldBase.setReg A.SYS_RESET_CAUSE code).keepBack s

/-- A state whose field units change, where they do at all. -/
theorem State.ite_wd (r : State) (b : Bool) (w : Wadi) : ∃ w', (if b then { r with wd := w } else r) = { r with wd := w' } := by
  cases b
  · exact ⟨r.wd, rfl⟩
  · exact ⟨w, rfl⟩

theorem State.coldState_coded (code : Nat) (vham : Bool) : ∃ w, s.coldState code vham = { s.coldCoded code with wd := w } :=
  State.ite_wd (s.coldCoded code) vham _

theorem State.coldBase_regs : cellsWf 0 s.coldBase.regs = true := resetIsSound.regs

/-- Beside the registers nothing of what the keep domain brings back differs from the state after power-on. -/
theorem State.coldCoded_frame (code : Nat) : s.coldCoded code = { s.coldBase with regs := (s.coldCoded code).regs } := by
  unfold State.coldCoded
  split
  · rfl
  · exact State.keepBack_frame _ _

/-- What the registers show after a cold reset for a supply. -/
theorem State.coldCoded_supply : (s.coldCoded 1).get ⟨A.SYS_RESET_CAUSE, 0, 32⟩ = 1
    ∧ State.reset.SameRegs (s.coldCoded 1) [A.SYS_RESET_CAUSE] :=
  ⟨State.get_setReg_whole A.SYS_RESET_CAUSE 1 s.coldBase_regs,
    (State.setReg_reports A.SYS_RESET_CAUSE 1 s.coldBase_regs).same⟩

/-- What the registers show after a cold reset of another cause. -/
structure State.ColdKept (s t : State) (code : Nat) : Prop where
  cause : t.get ⟨A.SYS_RESET_CAUSE, 0, 32⟩ = code
  keep : ∀ n : Fin 4, t.get (F.SYS_KEEP_n_DATA n) = s.get (F.SYS_KEEP_n_DATA n)
  brownout : t.get ⟨A.BROWNOUT_CAUSE, 0, 32⟩ = s.get ⟨A.BROWNOUT_CAUSE, 0, 32⟩
  same : State.reset.SameRegs t (A.SYS_RESET_CAUSE :: keepRegs)

theorem State.coldCoded_kept {code : Nat} (hc : code ≠ 1) (hl : code < 2 ^ 32) : s.ColdKept (s.coldCoded code) code := by
  have a := State.setReg_reports A.SYS_RESET_CAUSE code s.coldBase_regs
  have b := State.keepBack_reports s a.wf
  unfold State.coldCoded
  rw [if_neg hc]
  refine ⟨?_, State.keepBack_keep s a.wf, State.keepBack_brownout s a.wf, (a.trans b).same⟩
  rw [b.same _ (by decide), State.get_setReg_whole A.SYS_RESET_CAUSE code s.coldBase_regs, Nat.mod_eq_of_lt hl]

/-! ### The rails (R557, R643, R644) -/

/-- New rails show in the rails, and in the phase once all are valid. -/
theorem State.railsTo_frame (valid en : Nat) : ∃ p, (p = s.img.phase ∨ p = .testing) ∧ s.railsTo valid en
    = { s with rails := { s.rails with valid := valid, en := en }, img := { s.img with phase := p } } := by
  unfold State.railsTo
  dsimp only
  split
  · exact ⟨_, .inr rfl, rfl⟩
  · exact ⟨_, .inl rfl, rfl⟩

theorem State.railsTo_all (en : Nat) (hp : s.img.phase = .held) : (s.railsTo 127 en).img.phase = .testing := by
  unfold State.railsTo
  dsimp only
  rw [hp]
  rfl

/-- A cold reset is its registers and what outlasts it, with the rails that its cause leaves. -/
theorem State.coldReset_rails (cause : Nat) : ∃ valid en,
    s.coldReset cause = (s.coldState (if cause < 7 then 1 else cause - 5) (cause != 0)).railsTo valid en := by
  unfold State.coldReset
  dsimp only
  repeat' split
  all_goals exact ⟨_, _, rfl⟩

/-- What a cold reset leaves beside its registers. -/
structure State.ColdFrom (s t : State) : Prop where
  flash : t.img.flash = s.img.flash
  otp : t.img.otp = s.img.otp
  revoked : t.img.revoked = s.img.revoked
  inForce : t.inForce = false
  clock : t.clock = clock0
  mgmt : t.mgmt = State.reset.mgmt
  links : t.links = State.reset.links
  bc : t.bc = State.reset.bc
  tc : t.tc = State.reset.tc
  ef : t.ef = State.reset.ef
  sr : t.sr = State.reset.sr
  pending : t.pending = s.pending

theorem State.coldReset_from (cause : Nat) :
    s.ColdFrom (s.coldReset cause) ∧ (s.coldReset cause).regs = (s.coldCoded (if cause < 7 then 1 else cause - 5)).regs := by
  obtain ⟨valid, en, hrails⟩ := State.coldReset_rails (s := s) cause
  generalize (if cause < 7 then 1 else cause - 5) = code at hrails ⊢
  obtain ⟨w, hcoded⟩ := State.coldState_coded (s := s) code (cause != 0)
  have hframe := State.coldCoded_frame (s := s) code
  generalize (s.coldCoded code).regs = r at hframe ⊢
  rw [hrails, hcoded, hframe]
  obtain ⟨p, hp, ht⟩ := State.railsTo_frame (s := { s.coldBase with regs := r, wd := w }) valid en
  rw [ht]
  refine ⟨⟨rfl, rfl, rfl, ?_, rfl, rfl, rfl, rfl, rfl, rfl, rfl, rfl⟩, rfl⟩
  rcases hp with rfl | rfl <;> rfl

/-- What the registers show after a cold reset, by its cause. -/
theorem State.coldReset_shows (cause : Fin 9) :
    let t := s.coldReset cause
    t.get ⟨A.SYS_RESET_CAUSE, 0, 32⟩ = (if cause.val < 7 then 1 else cause.val - 5)
      ∧ (7 ≤ cause.val → ∀ n : Fin 4, t.get (F.SYS_KEEP_n_DATA n) = s.get (F.SYS_KEEP_n_DATA n))
      ∧ (7 ≤ cause.val → t.get ⟨A.BROWNOUT_CAUSE, 0, 32⟩ = s.get ⟨A.BROWNOUT_CAUSE, 0, 32⟩)
      ∧ (cause.val < 7 → State.reset.SameRegs t [A.SYS_RESET_CAUSE])
      ∧ State.reset.SameRegs t (A.SYS_RESET_CAUSE :: keepRegs) := by
  intro t
  have hget : ∀ g : FRef, t.get g = _ := State.get_congr (State.coldReset_from (s := s) cause).2
  by_cases hc : cause.val < 7
  · rw [if_pos hc] at hget ⊢
    obtain ⟨hcause, hsame⟩ := State.coldCoded_supply (s := s)
    have hsupply : State.reset.SameRegs t [A.SYS_RESET_CAUSE] := fun g hg => (hget g).trans (hsame g hg)
    exact ⟨(hget _).trans hcause, fun h => absurd hc (by omega), fun h => absurd hc (by omega), fun _ => hsupply,
      fun g hg => hsupply g (fun h => hg (by rw [List.mem_singleton.1 h]; exact List.mem_cons_self))⟩
  · have hlt := cause.isLt
    rw [if_neg hc] at hget ⊢
    have k := State.coldCoded_kept (s := s) (code := cause - 5) (by omega) (by omega)
    exact ⟨(hget _).trans k.cause, fun _ n => (hget _).trans (k.keep n), fun _ => (hget _).trans k.brownout,
      fun h => absurd h hc, fun g hg => (hget g).trans (k.same g hg)⟩

/-- VHAM_IN comes up first. -/
theorem exec_railValid_first (hp : s.img.phase = .held) (r : Fin 7) (hv : bitAt s.rails.valid r = false) (h0 : r.val = 0) :
    exec (.railValid r) s = .next (s.railsTo (s.rails.valid ||| 1) (s.rails.en ||| 1)) := by
  show execRailValid r s = _
  unfold execRailValid
  dsimp only
  rw [hp, hv, if_neg (by decide), if_pos h0]

/-- The rail of an enable comes up in its turn. -/
theorem exec_railValid_next (hp : s.img.phase = .held) (r : Fin 7) (hv : bitAt s.rails.valid r = false) (h1 : 1 ≤ r.val)
    (hvin : bitAt s.rails.valid 0 = true) (hturn : r.val = 1 ∨ bitAt s.rails.en (r - 1) = true) :
    exec (.railValid r) s
      = .next (s.railsTo (s.rails.valid ||| 2 ^ r.val) ((s.rails.en ||| 2 ^ (r.val - 1) ||| 2 ^ r.val) % 64)) := by
  show execRailValid r s = _
  unfold execRailValid
  dsimp only
  rw [hp, hv, if_neg (by decide), if_neg (by omega), if_neg]
  rw [hvin]
  simpa [or_iff_not_imp_left] using hturn

/-- An enabled rail that does not come up drops every enable. -/
theorem exec_railSequenceFail_of_down (hp : s.img.phase = .held) (r : Fin 6) (he : bitAt s.rails.en r = true)
    (hv : bitAt s.rails.valid (r + 1) = false) :
    exec (.railSequenceFail r) s = .next (s.railsTo (s.rails.valid % 2) 0) := by
  show execRailSequenceFail r s = _
  unfold execRailSequenceFail
  rw [hp, he, hv]
  rfl

end

/-! ### Warm reset (R558, R561) -/

/-- What a warm reset leaves as it was, and what it empties. -/
structure State.WarmFrom (s t : State) : Prop where
  regs : cellsWf 0 t.regs = true
  time : t.clock.time = s.clock.time
  flash : t.img.flash = s.img.flash
  otp : t.img.otp = s.img.otp
  phase : t.img.phase = .held
  logs : t.logs = s.logs
  tc : t.tc = s.tc
  ef : t.ef = s.ef
  queue : t.sr.queue = []
  pixels : t.pl.pixels = s.pl.pixels

section
variable {s t : State}

theorem State.WarmFrom.put (w : s.WarmFrom t) (f : FRef) (v : Nat) : s.WarmFrom (t.put f v) :=
  { w with regs := State.put_wf f v w.regs }

theorem State.WarmFrom.modLink (w : s.WarmFrom t) (h : Nat) (f : Link → Link) : s.WarmFrom (t.modLink h f) :=
  { w with }

theorem State.WarmFrom.took (w : s.WarmFrom t) : s.WarmFrom t.took :=
  { w with }

theorem State.WarmFrom.each (w : s.WarmFrom t) (l : List Nat) (f : State → Nat → State)
    (hf : ∀ u n, s.WarmFrom u → s.WarmFrom (f u n)) : s.WarmFrom (t.each l f) :=
  foldl_inv (fun u : State => s.WarmFrom u) f hf l t w

theorem State.WarmFrom.adaptStop (w : s.WarmFrom t) (g b : Nat) : s.WarmFrom (t.adaptStop g b) := by
  unfold State.adaptStop State.adaptMove
  split
  · exact ((w.put _ _).put _ _).took.put _ _
  · exact w

theorem State.WarmFrom.lanesIdle (w : s.WarmFrom t) (g : Nat) : s.WarmFrom (t.lanesIdle g) := by
  refine w.each _ _ (fun u b hu => ?_)
  dsimp only
  split
  · exact (hu.adaptStop g b).put _ _
  · exact hu

theorem State.WarmFrom.warmLink (w : s.WarmFrom t) (old : State) (h : Nat) : s.WarmFrom (t.warmLink old h) :=
  (((w.put _ _).lanesIdle h).each _ _ (fun _ _ hu => hu.put _ _)).modLink h _

/-- Grains that return to their pools change the free lists alone. -/
theorem State.freeGrains_frame (l : List (Nat × GrainMsg)) : ∃ f,
    l.foldl (fun s m => s.freeGrain m.2.x m.2.grain) s = { s with pl := { s.pl with free := f } } := by
  refine foldl_inv (fun t : State => ∃ f, t = { s with pl := { s.pl with free := f } }) _ ?_ l s ⟨s.pl.free, rfl⟩
  rintro t m ⟨f, rfl⟩
  unfold State.freeGrain
  split
  · exact ⟨f, rfl⟩
  · exact ⟨_, rfl⟩

/-- Grain messages that end change Playa's messages and free lists alone. -/
theorem State.quitMsgs_frame (p : GrainMsg → Bool) :
    ∃ m f, s.quitMsgs p = { s with pl := { s.pl with msgs := m, free := f } } := by
  obtain ⟨f, hf⟩ := State.freeGrains_frame (s := s) (s.pl.msgs.filter (fun m => p m.2))
  unfold State.quitMsgs
  rw [hf]
  exact ⟨_, f, rfl⟩

/-- A warm reset ends with its cause and its count. -/
theorem State.warmState_from (s : State) (n : Nat) : ∃ u, s.WarmFrom u
    ∧ s.warmState n = (u.put F.SYS_RESET_CAUSE_CAUSE 4).bump F.SYS_RESET_CAUSE_WARM_COUNT 1 := by
  obtain ⟨m, f, hq⟩ := State.quitMsgs_frame (s := s) (fun _ => true)
  unfold State.warmState
  rw [hq]
  refine ⟨_, ?_, rfl⟩
  refine State.WarmFrom.put (State.WarmFrom.each ?_ _ _ (fun _ _ hu => hu.warmLink _ _)) _ _
  exact ⟨warmRegs_wf _, rfl, rfl, rfl, rfl, rfl, rfl, rfl, rfl, rfl⟩

theorem State.warmState_warm (s : State) (n : Nat) : s.WarmFrom (s.warmState n) := by
  obtain ⟨u, hu, he⟩ := State.warmState_from s n
  rw [he]
  exact (hu.put _ _).put _ _

theorem State.warmState_cause (s : State) (n : Nat) : (s.warmState n).get F.SYS_RESET_CAUSE_CAUSE = 4 := by
  obtain ⟨u, hu, he⟩ := State.warmState_from s n
  rw [he]
  unfold State.bump
  rw [State.get_put_disj F.SYS_RESET_CAUSE_WARM_COUNT F.SYS_RESET_CAUSE_CAUSE _ (State.put_wf _ _ hu.regs) (by decide) rfl
    (by decide), State.get_put_same _ _ hu.regs (by decide)]
  rfl

theorem exec_warmReset_of_running (hp : s.img.phase ≠ .held) (hr : s.clock.running = true) (h3 : s.power ≠ 3)
    (h4 : s.power ≠ 4) : exec .warmReset s = .next (s.sessionAbort.warmState s.sessionAbort.sr.queue.length) := by
  show execWarmReset s = _
  unfold execWarmReset
  rw [if_neg (by simp [hp, hr, h4])]
  dsimp only
  rw [if_neg (by simp [h3])]

end

/-- Settles O51: a cold reset by its registers and what outlasts it, the rails by the sequence, a warm reset by what it carries
over. -/
theorem resets : Obligations.Resets := by
  intro s hs
  refine ⟨fun cause => ⟨_, rfl, ?_⟩,
    fun hp => ⟨fun r hv => ⟨exec_railValid_first hp r hv, exec_railValid_next hp r hv⟩,
      exec_railSequenceFail_of_down hp, fun e => State.railsTo_all e hp⟩, rfl,
    fun hp hr h3 h4 => ⟨_, exec_warmReset_of_running hp hr h3 h4, rfl⟩, fun n => ?_, fun hp hv => ?_⟩
  · obtain ⟨hcause, hkeep, hbrownout, hsupply, hother⟩ := State.coldReset_shows (s := s) cause
    obtain ⟨c, -⟩ := State.coldReset_from (s := s) cause
    exact ⟨hcause, hkeep, hbrownout, hsupply, hother, c.flash, c.otp, c.revoked, c.inForce, c.clock, c.mgmt, c.links, c.bc,
      c.tc, c.ef, c.sr, c.pending⟩
  · have w := State.warmState_warm s n
    exact ⟨w.time, w.flash, w.otp, w.phase, w.logs, w.tc, w.ef, w.queue, w.pixels, State.warmState_cause s n⟩
  · exact congrArg Host.Outcome.next (if_pos (by simp [hp, hv]))

end Sys2Proof.Machine
end

section
/-! SRAM errors, scrub passes, row repairs and the wear record (O54). -/
namespace Sys2Proof.Machine

/-! ### Counters (R73) -/

/-- A counter that is advanced shows the sum, held at all ones. -/
theorem State.get_bump_same {s : State} (f : FRef) (n : Nat) (h : cellsWf 0 s.regs = true) (hf : f.lsb + f.width ≤ 32) :
    (s.bump f n).get f = satAdd f.width (s.get f) n :=
  (State.get_put_same f _ h hf).trans (Nat.mod_eq_of_lt (satAdd_lt _ _ _))

theorem satAdd_satAdd (w v m n : Nat) : satAdd w (satAdd w v m) n = satAdd w v (m + n) := by
  unfold satAdd
  omega

/-! ### SRAM errors (R595 to R598) -/

/-- DETAIL of an SRAM error names its array and row whole. -/
theorem rowDetail_of_bits (array row : BitVec 16) : rowDetail array.toNat row.toNat = array.toNat + 65536 * row.toNat := by
  unfold rowDetail
  rw [Nat.mod_eq_of_lt array.isLt, Nat.mod_eq_of_lt row.isLt]

section
variable {s : State} {array row : BitVec 16} {serving : Option (Agent × Byte)} {grain : Option (BitVec 21)}

theorem exec_eccError_corrected (table : Option Word) :
    exec (.eccError array row false ⟨table, serving, grain⟩) s
      = .next (let unit := (Config.arrayUnit array).toNat
        (s.bump F.OA_SRAM_CE_COUNT 1).logHw (s.unitOwner unit) 1 0 0x10 unit (array.toNat + 65536 * row.toNat)) := by
  rw [← rowDetail_of_bits]
  rfl

theorem exec_eccError_table (w : Word) :
    exec (.eccError array row true ⟨some w, serving, grain⟩) s
      = .next (let unit := (Config.arrayUnit array).toNat
        (s.logHw (s.unitOwner unit) 1 0 0x13 unit w.toNat).queueRepair array.toNat row.toNat) := rfl

/-- An uncorrectable word without a second copy is lost, and its row is queued for repair. -/
theorem exec_eccError_lost :
    exec (.eccError array row true ⟨none, serving, grain⟩) s
      = .next ((s.eccLost array (array.toNat + 65536 * row.toNat) ⟨none, serving, grain⟩).queueRepair array.toNat
          row.toNat) := by
  rw [← rowDetail_of_bits]
  rfl

/-- Playa's part of an error in its memories: what the composer met (R354). -/
def State.playaError (s : State) (array : BitVec 16) (grain : Option (BitVec 21)) : State :=
  if Config.arrayPlaya array then s.grainError grain else s

theorem State.ite_playaError : (if Config.arrayPlaya array then s.grainError grain else s) = s.playaError array grain := rfl

theorem State.eccLost_unserved (table : Option Word) (detail : Nat)
    (h : ∀ (a : Agent) (tag : Byte), serving = some (a, tag) → (s.playaError array grain).openCmd a tag.toNat = none) :
    s.eccLost array detail ⟨table, serving, grain⟩ = (let p := s.playaError array grain
      let unit := (Config.arrayUnit array).toNat
      p.logHw (p.unitOwner unit) 2 0 0x11 unit detail) := by
  have hmet : (s.playaError array grain).metBy ⟨table, serving, grain⟩ = none := by
    unfold State.metBy
    cases serving with
    | none => rfl
    | some x => exact if_neg (by simp [h x.1 x.2 rfl])
  unfold State.eccLost
  dsimp only
  rw [State.ite_playaError, hmet]

theorem State.eccLost_served (table : Option Word) (detail : Nat) (a : Agent) (tag : Byte)
    (h : (s.playaError array grain).openCmd a tag.toNat ≠ none) :
    s.eccLost array detail ⟨table, some (a, tag), grain⟩ = (let p := s.playaError array grain
      let unit := (Config.arrayUnit array).toNat
      ((p.internalError a tag.toNat unit).logHw (p.unitOwner unit) 2 15 0x11 unit detail).fatalMet unit) := by
  have hmet : (s.playaError array grain).metBy ⟨table, some (a, tag), grain⟩ = some (a.val, tag.toNat) :=
    if_pos (Option.isSome_iff_ne_none.2 h)
  unfold State.eccLost
  dsimp only
  rw [State.ite_playaError, hmet]
  rfl

theorem State.internalError_of_open {a tag : Nat} (unit : Nat) {c : OpenCmd} (h : s.openCmd a tag = some c) :
    s.internalError a tag unit = (s.logOp a R.internal 6 unit c.addr).complete a tag R.internal [] := by
  unfold State.internalError
  rw [h]

theorem State.internalError_of_closed {a tag : Nat} (unit : Nat) (h : s.openCmd a tag = none) :
    s.internalError a tag unit = s := by
  unfold State.internalError
  rw [h]

/-- A row that joins the repair queue, where it does, changes that queue alone. -/
theorem State.queueRepair_frame (a r : Nat) : ∃ q, s.queueRepair a r = { s with oa := { s.oa with repairQ := q } } := by
  unfold State.queueRepair
  dsimp only
  split
  · exact ⟨s.oa.repairQ, rfl⟩
  · exact ⟨_, rfl⟩

/-! ### Scrub passes (R596, R598) -/

/-- A corrected error changes, beside what counts it, the logs alone: only a FATAL entry reports itself. -/
theorem State.logHw_corrected_frame (owner result cause unit detail : Nat) :
    ∃ l, s.logHw owner 1 result cause unit detail = { s with logs := l } := by
  unfold State.logHw
  split
  · exact ⟨s.logs, rfl⟩
  · refine foldl_inv (fun t : State => ∃ l, t = { s with logs := l }) _ ?_ _ _ ⟨s.logs, rfl⟩
    rintro t a ⟨l, rfl⟩
    split
    · exact ⟨_, rfl⟩
    · exact ⟨l, rfl⟩

/-- One word that a scrub pass corrected. -/
def State.scrubFix (s : State) (f : BitVec 16 × BitVec 16) : State :=
  let unit := (Config.arrayUnit f.1).toNat
  (s.bump F.OA_SRAM_CE_COUNT 1).logHw (s.unitOwner unit) 1 0 0x10 unit (rowDetail f.1.toNat f.2.toNat)

/-- What a number of corrected words leaves: that many more in the count, entries in logs, and nothing else changed. -/
structure State.Corrected (s t : State) (n : Nat) : Prop where
  wf : cellsWf 0 t.regs = true
  frame : t = { s with regs := t.regs, logs := t.logs }
  same : s.SameRegs t [A.OA_SRAM_CE]
  count : t.get F.OA_SRAM_CE_COUNT = satAdd 32 (s.get F.OA_SRAM_CE_COUNT) n

theorem State.Corrected.trans {t u : State} {m n : Nat} (a : s.Corrected t m) (b : t.Corrected u n) :
    s.Corrected u (m + n) where
  wf := b.wf
  frame := b.frame.trans (by rw [a.frame])
  same g hg := (b.same g hg).trans (a.same g hg)
  count := by rw [b.count, a.count, satAdd_satAdd]

theorem State.scrubFix_corrected (f : BitVec 16 × BitVec 16) (h : cellsWf 0 s.regs = true) : s.Corrected (s.scrubFix f) 1 := by
  obtain ⟨l, hl⟩ := State.logHw_corrected_frame (s := s.bump F.OA_SRAM_CE_COUNT 1)
    (s.unitOwner (Config.arrayUnit f.1).toNat) 0 0x10 (Config.arrayUnit f.1).toNat (rowDetail f.1.toNat f.2.toNat)
  have he : s.scrubFix f = { s.bump F.OA_SRAM_CE_COUNT 1 with logs := l } := hl
  rw [he]
  have r : s.ReportsOnly (s.bump F.OA_SRAM_CE_COUNT 1) [A.OA_SRAM_CE] := State.put_reports F.OA_SRAM_CE_COUNT _ h
  exact ⟨r.wf, rfl, r.same, State.get_bump_same F.OA_SRAM_CE_COUNT 1 h (by decide)⟩

theorem State.scrubFixes_corrected : ∀ (fixes : List (BitVec 16 × BitVec 16)) (s : State), cellsWf 0 s.regs = true →
    s.Corrected (fixes.foldl State.scrubFix s) fixes.length
  | [], s, h => ⟨h, rfl, fun _ _ => rfl, by
      have hlt : s.get F.OA_SRAM_CE_COUNT < 2 ^ 32 := Nat.mod_lt _ (by decide)
      simp only [List.foldl_nil, List.length_nil, satAdd]
      omega⟩
  | f :: l, s, h => by
    have a := State.scrubFix_corrected f h
    rw [List.length_cons, Nat.add_comm]
    exact a.trans (State.scrubFixes_corrected l (s.scrubFix f) a.wf)

/-- Queueing rows for repair changes Oasis' own record alone. -/
theorem State.queueRepairs_frame (t : State) (o : Oasis) (l : List ((Nat × Nat) × Nat)) :
    ∃ o', l.foldl (fun s e => s.queueRepair e.1.1 e.1.2) { t with oa := o } = { t with oa := o' } := by
  refine foldl_inv (fun u : State => ∃ o', u = { t with oa := o' }) _ ?_ l _ ⟨o, rfl⟩
  rintro u e ⟨o', rfl⟩
  obtain ⟨q, hq⟩ := State.queueRepair_frame (s := { t with oa := o' }) e.1.1 e.1.2
  exact ⟨_, hq⟩

/-- The record of passes after one that corrected words of these rows, from the record before it. -/
def scrubHistory (before : List ((Nat × Nat) × Nat)) (fixes : List (BitVec 16 × BitVec 16)) : List ((Nat × Nat) × Nat) :=
  let hits : List (Nat × Nat) := fixes.map (fun f => (f.1.toNat, f.2.toNat))
  let old := before.map (fun e => (e.1, 2 * e.2 % 16 + bit1 (hits.contains e.1)))
  let fresh := (hits.eraseDups.filter (fun r => old.all (fun e => e.1 != r))).map (fun r => (r, 1))
  (old ++ fresh).filter (fun e => e.2 != 0)

/-- A pass counts its words, renews the record of passes and queues the rows that it condemns. -/
theorem exec_scrub (fixes : List (BitVec 16 × BitVec 16)) : exec (.scrub fixes) s = .next (
    let u := fixes.foldl State.scrubFix s
    let all := scrubHistory u.oa.scrubs fixes
    (all.filter (fun e => decide (2 ≤ popCount 4 e.2))).foldl (fun s e => s.queueRepair e.1.1 e.1.2)
      { u with oa := { u.oa with scrubs := all } }) := rfl

theorem exec_scrub_frame (fixes : List (BitVec 16 × BitVec 16)) :
    ∃ o, exec (.scrub fixes) s = .next { fixes.foldl State.scrubFix s with oa := o } := by
  obtain ⟨o, ho⟩ := State.queueRepairs_frame (fixes.foldl State.scrubFix s) _ _
  exact ⟨o, (exec_scrub fixes).trans (congrArg Host.Outcome.next ho)⟩

/-- A pass that corrected nothing, with no earlier one recorded, changes nothing. -/
theorem exec_scrub_nil (h : s.oa.scrubs = []) : exec (.scrub []) s = .next s := by
  have hall : scrubHistory s.oa.scrubs [] = [] := by
    rw [h]
    rfl
  have hsame : ({ s with oa := { s.oa with scrubs := [] } } : State) = s := by rw [← h]
  rw [exec_scrub]
  dsimp only [List.foldl_nil]
  rw [hall, hsame]
  rfl

/-! ### Row repairs (R599, R600) -/

/-- The spare rows of an array that are neither in use nor marked bad, of `spares` in all. -/
def State.freeSpares (s : State) (a spares : Nat) : List Nat :=
  (List.range spares).filter (fun n => !(s.oa.repairs.any (fun x => x.1 == a && x.2.2 == n) || s.oa.badSpares.contains (a, n)))

theorem exec_rowRepair_unqueued (bad spares : Nat) (h : s.oa.repairQ.contains (array.toNat, row.toNat) = false) :
    exec (.rowRepair array row bad spares) s = .next s := by
  show execRowRepair array row bad spares s = _
  unfold execRowRepair
  dsimp only
  rw [h]
  rfl

/-- A repair that finds no good spare. -/
theorem exec_rowRepair_no_spare (bad spares : Nat) (h : s.oa.repairQ.contains (array.toNat, row.toNat) = true)
    (hn : (s.freeSpares array.toNat spares).find? (fun n => !bitAt bad n) = none) :
    exec (.rowRepair array row bad spares) s = .next { s with oa := { s.oa with
      repairQ := s.oa.repairQ.filter (· != (array.toNat, row.toNat)),
      badSpares := s.oa.badSpares ++ (s.freeSpares array.toNat spares).map (fun n => (array.toNat, n)) } } := by
  show execRowRepair array row bad spares s = _
  unfold State.freeSpares at hn
  unfold execRowRepair
  dsimp only
  rw [h, hn]
  rfl

/-- A repaired row counts, with `used` of the array's `spares` rows in use or bad (R600). -/
def State.repairCounts (s : State) (used spares : Nat) : State :=
  (s.put F.OA_SRAM_WORST_PCT (max (s.get F.OA_SRAM_WORST_PCT) (min 100 (100 * used / max 1 spares)))).bump F.OA_SRAM_REPAIRS 1

/-- The entry and source 2 of a repaired row (R607, R622). -/
def State.repairNoted (s : State) (unit detail : Nat) : State :=
  (s.logHw (s.unitOwner unit) 1 0 0x12 unit detail).raise 2 ⟨A.OA_EVT, 2, 1⟩

/-- The report of a row of array `a` that has been repaired: the counts, the entry and source 2, and notice 6 where three
quarters of the array's spares are used. -/
def State.repairReport (s : State) (a unit detail spares : Nat) : State :=
  let used := (s.oa.repairs.filter (·.1 == a)).length + (s.oa.badSpares.filter (·.1 == a)).length
  let s := (s.repairCounts used spares).repairNoted unit detail
  if 75 * spares ≤ 100 * used && !s.oa.crossed.contains (6, a) then
    ({ s with oa := { s.oa with crossed := s.oa.crossed ++ [(6, a)] } } : State).notice 6 a
  else s

/-- A repair that takes the first good spare `p` marks the spares before it as bad. -/
theorem exec_rowRepair_spare (bad spares p : Nat) (h : s.oa.repairQ.contains (array.toNat, row.toNat) = true)
    (hp : (s.freeSpares array.toNat spares).find? (fun n => !bitAt bad n) = some p) :
    ∃ b, exec (.rowRepair array row bad spares) s = .next (({ s with oa := { s.oa with
      repairQ := s.oa.repairQ.filter (· != (array.toNat, row.toNat)), badSpares := b,
      repairs := s.oa.repairs ++ [(array.toNat, row.toNat, p)] } } : State).repairReport array.toNat
        (Config.arrayUnit array).toNat (rowDetail array.toNat row.toNat) spares) := by
  show ∃ b, execRowRepair array row bad spares s = _
  unfold State.freeSpares at hp
  unfold execRowRepair
  dsimp only
  rw [h, hp]
  exact ⟨_, rfl⟩

theorem State.notice_oa (n inst : Nat) : (s.notice n inst).oa = { s.oa with recordDue := true } := by
  unfold State.notice
  dsimp only
  rw [State.raise_oa]
  rfl

/-- What a repair shows once it is counted and noted: one repair more, its event, and Oasis' own record as it was. -/
structure State.RepairShown (s t : State) : Prop where
  wf : cellsWf 0 t.regs = true
  oa : t.oa = s.oa
  count : t.get F.OA_SRAM_REPAIRS = satAdd 16 (s.get F.OA_SRAM_REPAIRS) 1
  evt : t.get ⟨A.OA_EVT, 2, 1⟩ = 1

theorem State.repairNoted_shown (used spares unit detail : Nat) (h : cellsWf 0 s.regs = true) :
    s.RepairShown ((s.repairCounts used spares).repairNoted unit detail) := by
  have w1 : s.ReportsOnly _ [A.OA_SRAM] := State.put_reports F.OA_SRAM_WORST_PCT
    (max (s.get F.OA_SRAM_WORST_PCT) (min 100 (100 * used / max 1 spares))) h
  have w2 : cellsWf 0 (s.repairCounts used spares).regs = true := State.bump_wf _ _ w1.wf
  have r3 := State.logHw_reports ((s.repairCounts used spares).unitOwner unit) 1 0 0x12 unit detail w2
  have r4 := r3.trans (State.raise_reports 2 ⟨A.OA_EVT, 2, 1⟩ r3.wf)
  refine ⟨r4.wf, ?_, ?_, State.get_raise_same 2 _ r3.wf (by decide) (by decide)⟩
  · unfold State.repairNoted
    rw [State.raise_oa, State.logHw_oa]
    rfl
  · refine (r4.same _ (by decide)).trans ((State.get_bump_same F.OA_SRAM_REPAIRS 1 w1.wf (by decide)).trans ?_)
    rw [State.get_put_disj F.OA_SRAM_WORST_PCT F.OA_SRAM_REPAIRS _ h (by decide) rfl (by decide)]
    rfl

/-- A repair's report leaves the repairs and the queue, counts one repair more and sets its event. -/
theorem State.repairReport_spec (a unit detail spares : Nat) (h : cellsWf 0 s.regs = true) :
    let t := s.repairReport a unit detail spares
    t.oa.repairs = s.oa.repairs ∧ t.oa.repairQ = s.oa.repairQ
      ∧ t.get F.OA_SRAM_REPAIRS = satAdd F.OA_SRAM_REPAIRS.width (s.get F.OA_SRAM_REPAIRS) 1
      ∧ t.get ⟨A.OA_EVT, 2, 1⟩ = 1 := by
  unfold State.repairReport
  dsimp only
  generalize (s.oa.repairs.filter (·.1 == a)).length + (s.oa.badSpares.filter (·.1 == a)).length = used
  obtain ⟨hw, hoa, hcount, hevt⟩ := State.repairNoted_shown used spares unit detail h
  generalize (s.repairCounts used spares).repairNoted unit detail = u at *
  split
  · have hw' : cellsWf 0 ({ u with oa := { u.oa with crossed := u.oa.crossed ++ [(6, a)] } } : State).regs = true := hw
    rw [State.notice_oa, State.get_notice_evt 6 a ⟨A.OA_EVT, 2, 1⟩ hw' rfl (by decide) (by decide),
      (State.notice_reports 6 a hw').same _ (by decide), hoa]
    exact ⟨rfl, rfl, hcount, hevt⟩
  · rw [hoa]
    exact ⟨rfl, rfl, hcount, hevt⟩

/-! ### The wear record (R613, R619) -/

theorem State.wearWrite_written : s.wearWrite.oa.recordDue = false ∧ s.wearWrite.oa.recordAt = s.tick := by
  unfold State.wearWrite
  extract_lets at_ seq u body v w
  have ht : v.tick = s.tick := by
    unfold v u
    split <;> rfl
  exact ⟨rfl, ht⟩

theorem exec_wearRecordWrite_due (hd : s.oa.recordDue = true) (hn : s.img.session = none) (hl : s.devState ≠ 1) :
    exec .wearRecordWrite s = .next (if s.freeVal 1 = 0 then s.took.wearWrite else s.took.notice 18 0) :=
  congrArg Host.Outcome.next (if_pos (by simp [hd, hn, hl]))

theorem exec_wearRecordWrite_not_due (h : s.oa.recordDue = false ∨ s.img.session ≠ none ∨ s.devState = 1) :
    exec .wearRecordWrite s = .next s := by
  refine congrArg Host.Outcome.next (if_neg ?_)
  rcases h with h | h | h <;> simp [h]

end

/-- Settles O54: each kind of SRAM error, a scrub pass by the words it corrected, a repair by the first good spare, and the wear
record by whether one is due. -/
theorem memoriesAndWear : Obligations.MemoriesAndWear := by
  intro s hs
  refine ⟨fun array row table serving grain => ⟨exec_eccError_corrected table, fun w hw => ?_, fun ht => ⟨fun hopen => ?_,
      fun a tag hserving hopen => ?_⟩⟩, ⟨rfl, fun b => rfl⟩,
    fun a tag unit => ⟨fun c => State.internalError_of_open unit, State.internalError_of_closed unit⟩, fun a r => rfl,
    fun fixes => ?_, fun array row bad spares => ⟨exec_rowRepair_unqueued bad spares, exec_rowRepair_no_spare bad spares,
      fun p hq hp => ?_⟩,
    fun hd hn hl => ⟨exec_wearRecordWrite_due hd hn hl, State.wearWrite_written⟩, exec_wearRecordWrite_not_due⟩
  · rw [hw]
    exact exec_eccError_table w
  · rw [ht, exec_eccError_lost, State.eccLost_unserved none _ hopen]
    rfl
  · rw [ht, hserving, exec_eccError_lost, State.eccLost_served none _ a tag hopen]
    rfl
  · obtain ⟨o, ho⟩ := exec_scrub_frame (s := s) fixes
    have c := State.scrubFixes_corrected fixes s hs.regs
    refine ⟨_, ho, ?_, c.same, c.count, fun hf hsc => ?_⟩
    · conv_lhs => rw [c.frame]
    · rw [hf] at ho ⊢
      exact Host.Outcome.next.inj (ho.symm.trans (exec_scrub_nil hsc))
  · obtain ⟨b, he⟩ := exec_rowRepair_spare bad spares p hq hp
    exact ⟨_, he, State.repairReport_spec _ _ _ _ hs.regs⟩

end Sys2Proof.Machine
end

section
/-! A lane group goes over to its spare PLL, and a lane to the spare slice (O24). -/
namespace Sys2Proof.Machine

/-! ### What a service notice shows (R617, R618) -/

/-- A service notice in its registers, before it reports itself. -/
def State.noticeRegs (s : State) (n inst : Nat) : State :=
  ((s.put ⟨A.OA_NOTICE, n, 1⟩ 1).put (F.OA_NOTICE_DETAIL_n_INSTANCE n) inst).bump (F.OA_NOTICE_DETAIL_n_COUNT n) 1

theorem State.notice_eq (s : State) (n inst : Nat) : s.notice n inst
    = State.raise { s.noticeRegs n inst with oa := { s.oa with recordDue := true } } 0 ⟨A.OA_EVT, 0, 1⟩ := rfl

/-- A rise on a state whose Oasis part has changed leaves the other registers. -/
theorem State.get_raise_oa_ne {u : State} {n : Nat} {f g : FRef} (o : Oasis) (h : cellsWf 0 u.regs = true)
    (hf : g.addr ≠ f.addr) (hr : g.addr ≠ A.EVT_RISE_s n) : (State.raise { u with oa := o } n f).get g = u.get g :=
  State.get_raise_ne (s := { u with oa := o }) n f g h hf hr

section
variable {s : State} {n inst : Nat} (h : cellsWf 0 s.regs = true) (hn : n < 19)
include h hn

/-- The report of a notice leaves the notice's own registers. -/
theorem State.get_notice_noticeRegs {f : FRef} (hf : f.addr = A.OA_NOTICE ∨ f.addr = A.OA_NOTICE_DETAIL_n n) :
    (s.notice n inst).get f = (s.noticeRegs n inst).get f := by
  have hw : cellsWf 0 (s.noticeRegs n inst).regs = true := State.bump_wf _ _ (State.put_wf _ _ (State.put_wf _ _ h))
  have hevt : f.addr ≠ A.OA_EVT := by
    simp only [A.OA_NOTICE, A.OA_NOTICE_DETAIL_n, A.OA_EVT] at hf ⊢
    omega
  have hrise : f.addr ≠ A.EVT_RISE_s 0 := by
    simp only [A.OA_NOTICE, A.OA_NOTICE_DETAIL_n, A.EVT_RISE_s] at hf ⊢
    omega
  rw [State.notice_eq, State.get_raise_oa_ne _ hw hevt hrise]

theorem State.get_notice_bit : (s.notice n inst).get ⟨A.OA_NOTICE, n, 1⟩ = 1 := by
  have w1 := State.put_wf ⟨A.OA_NOTICE, n, 1⟩ 1 h
  have hne : A.OA_NOTICE ≠ A.OA_NOTICE_DETAIL_n n := by unfold A.OA_NOTICE A.OA_NOTICE_DETAIL_n; omega
  rw [State.get_notice_noticeRegs h hn (.inl rfl)]
  unfold State.noticeRegs
  rw [State.get_bump_ne _ _ _ (State.put_wf _ _ w1) hne, State.get_put_ne _ _ _ w1 hne,
    State.get_put_same _ _ h (Nat.le_of_lt_succ (by simp only; omega))]
  rfl

theorem State.get_notice_place (hi : inst < 256) : (s.notice n inst).get (F.OA_NOTICE_DETAIL_n_INSTANCE n) = inst := by
  have w1 := State.put_wf ⟨A.OA_NOTICE, n, 1⟩ 1 h
  rw [State.get_notice_noticeRegs h hn (.inr rfl)]
  unfold State.noticeRegs State.bump
  rw [State.get_put_disj (F.OA_NOTICE_DETAIL_n_COUNT n) (F.OA_NOTICE_DETAIL_n_INSTANCE n) _ (State.put_wf _ _ w1)
        (Nat.le_refl 32) rfl
      (.inl (Nat.le_of_ble_eq_true rfl)),
    State.get_put_same _ _ w1 (Nat.le_of_ble_eq_true rfl)]
  exact Nat.mod_eq_of_lt hi

end

/-! ### A spare reports that it took over (R206, R207, R212) -/

theorem lgEvt_ne_evtRise (g : Nat) : A.LG_EVT g ≠ A.EVT_RISE_s (48 + g) := by
  simp [A.LG_EVT, A.EVT_RISE_s]
  omega

/-- LG_STATUS is none of the registers of an event of its group. -/
theorem lgStatus_notMem_lgEvt (g : Nat) : A.LG_STATUS g ∉ [A.LG_EVT g, A.EVT_RISE_s (48 + g)] := by
  simp [A.LG_STATUS, A.LG_EVT, A.EVT_RISE_s]
  omega

/-- The report of a spare that takes over for lane `l` of group `g`: LG_EVT bit and notice `n`, LANE_EVT, the entry and source 2. -/
def State.spareReport (s : State) (g n l : Nat) : State :=
  let u := ((s.lgEvt g n).laneEvt 59 20 g).notice n g
  u.spareTookOver (u.laneOwner g l) g (g + 256 * l)

/-- The registers of a spare's report. -/
def spareRegs (g n : Nat) : List Nat :=
  [A.LG_EVT g, A.LANE_EVT, A.OA_NOTICE, A.OA_NOTICE_DETAIL_n n, A.OA_EVT, A.EVT_RISE_s 0, A.EVT_RISE_s 1, A.EVT_RISE_s 2,
    A.EVT_RISE_s (48 + g), A.EVT_RISE_s 59]

/-- The marks of a spare of group `g` that took over, under event bit and notice `n`. -/
structure State.ShowsSpare (t : State) (g n : Nat) : Prop where
  evt : t.get ⟨A.LG_EVT g, n, 1⟩ = 1
  lane : t.get ⟨A.LANE_EVT, 20 + g, 1⟩ = 1
  notice : t.get ⟨A.OA_NOTICE, n, 1⟩ = 1
  place : t.get (F.OA_NOTICE_DETAIL_n_INSTANCE n) = g

/-- From `s` to `t` a spare of group `g` has reported that it took over. -/
structure State.SpareReported (s t : State) (g n : Nat) : Prop where
  reports : s.ReportsOnly t (spareRegs g n)
  shows : t.ShowsSpare g n
  due : t.oa = { s.oa with recordDue := true }

theorem State.spareTookOver_oa (s : State) (owner unit detail : Nat) : (s.spareTookOver owner unit detail).oa = s.oa := by
  unfold State.spareTookOver
  rw [State.raise_oa, State.logHw_oa]

theorem State.spareReport_reported {s : State} {g n : Nat} (l : Nat) (h : cellsWf 0 s.regs = true) (hg : g < 9) (hn : n < 2) :
    s.SpareReported (s.spareReport g n l) g n := by
  have r1 : s.ReportsOnly (s.lgEvt g n) [A.LG_EVT g, A.EVT_RISE_s (48 + g)] :=
    State.raise_reports (48 + g) ⟨A.LG_EVT g, n, 1⟩ h
  have r2 : (s.lgEvt g n).ReportsOnly ((s.lgEvt g n).laneEvt 59 20 g) [A.LANE_EVT, A.EVT_RISE_s 59] :=
    State.raise_reports 59 ⟨A.LANE_EVT, 20 + g, 1⟩ r1.wf
  have r3 := State.notice_reports n g r2.wf
  have r4 := State.spareTookOver_reports
    ((((s.lgEvt g n).laneEvt 59 20 g).notice n g).laneOwner g l) g (g + 256 * l) r3.wf
  refine ⟨(((r1.trans r2).trans r3).trans r4).mono (by simp [spareRegs]), ⟨?_, ?_, ?_, ?_⟩, ?_⟩
  · refine (((r2.trans r3).trans r4).same ⟨A.LG_EVT g, n, 1⟩ ?_).trans (State.get_raise_same (48 + g) _ h ?_ ?_)
    all_goals simp [A.LG_EVT, A.LANE_EVT, A.OA_NOTICE, A.OA_NOTICE_DETAIL_n, A.OA_EVT, A.EVT_RISE_s]
    all_goals omega
  · refine ((r3.trans r4).same ⟨A.LANE_EVT, 20 + g, 1⟩ ?_).trans (State.get_raise_same 59 _ r1.wf ?_
        (show A.LANE_EVT ≠ A.EVT_RISE_s 59 by decide))
    all_goals simp [A.LANE_EVT, A.OA_NOTICE, A.OA_NOTICE_DETAIL_n, A.OA_EVT, A.EVT_RISE_s]
    all_goals omega
  · have hne : A.OA_NOTICE ∉ [A.OA_EVT, A.EVT_RISE_s 1, A.OA_EVT, A.EVT_RISE_s 2] := by decide
    exact (r4.same ⟨A.OA_NOTICE, n, 1⟩ hne).trans (State.get_notice_bit r2.wf (by omega))
  · refine (r4.same (F.OA_NOTICE_DETAIL_n_INSTANCE n) ?_).trans (State.get_notice_place r2.wf (by omega) (by omega))
    simp [F.OA_NOTICE_DETAIL_n_INSTANCE, A.OA_NOTICE_DETAIL_n, A.OA_EVT, A.EVT_RISE_s]
    omega
  · refine (State.spareTookOver_oa _ _ _ _).trans ((State.notice_oa _ _).trans ?_)
    unfold State.laneEvt State.lgEvt
    rw [State.raise_oa, State.raise_oa]

/-! ### The spare PLL (R205, R206) -/

section
variable {s : State} {g : Nat}

/-- What the group's other owners are told stands in their logs alone. -/
theorem State.tellOwners_frame (s : State) (g : Nat) : ∃ l, s.tellOwners g = { s with logs := l } := by
  unfold State.tellOwners
  dsimp only
  split
  · exact ⟨s.logs, rfl⟩
  · refine foldl_inv (fun t : State => ∃ l, t = { s with logs := l }) _ ?_ _ _ ⟨s.logs, rfl⟩
    rintro t a ⟨l, rfl⟩
    split
    · exact ⟨_, rfl⟩
    · exact ⟨l, rfl⟩

/-- A group's lock and its choice of PLL once it runs on the spare. -/
def State.onSpare (s : State) (g : Nat) : State := (s.put (F.LG_STATUS_PLL_SEL g) 1).put (F.LG_STATUS_PLL_LOCK g) 1

theorem State.pllSwitch_eq (s : State) (g : Nat) : s.pllSwitch g = ((s.onSpare g).spareReport g 0 0).tellOwners g := rfl

/-- What a group's move to its spare PLL leaves. -/
structure State.MovedToSpare (s t : State) (g : Nat) : Prop where
  sel : t.get (F.LG_STATUS_PLL_SEL g) = 1
  lock : t.get (F.LG_STATUS_PLL_LOCK g) = 1
  status : ∀ f : FRef, f.addr = A.LG_STATUS g → 2 ≤ f.lsb → t.get f = s.get f
  shows : t.ShowsSpare g 0
  reports : s.ReportsOnly t (A.LG_STATUS g :: spareRegs g 0)
  due : t.oa = { s.oa with recordDue := true }

theorem State.onSpare_shows (h : cellsWf 0 s.regs = true) :
    (s.onSpare g).get (F.LG_STATUS_PLL_SEL g) = 1 ∧ (s.onSpare g).get (F.LG_STATUS_PLL_LOCK g) = 1
      ∧ ∀ f : FRef, f.addr = A.LG_STATUS g → 2 ≤ f.lsb → (s.onSpare g).get f = s.get f := by
  have w1 := State.put_wf (F.LG_STATUS_PLL_SEL g) 1 h
  unfold State.onSpare
  refine ⟨?_, ?_, fun f hf hl => ?_⟩
  · rw [State.get_put_disj (F.LG_STATUS_PLL_LOCK g) (F.LG_STATUS_PLL_SEL g) 1 w1 (Nat.le_of_ble_eq_true rfl) rfl
        (.inr (Nat.le_refl 1)), State.get_put_same (F.LG_STATUS_PLL_SEL g) 1 h (Nat.le_of_ble_eq_true rfl)]
    rfl
  · rw [State.get_put_same (F.LG_STATUS_PLL_LOCK g) 1 w1 (Nat.le_of_ble_eq_true rfl)]
    rfl
  · rw [State.get_put_disj (F.LG_STATUS_PLL_LOCK g) f 1 w1 (Nat.le_of_ble_eq_true rfl) hf (.inr (Nat.le_of_succ_le hl)),
      State.get_put_disj (F.LG_STATUS_PLL_SEL g) f 1 h (Nat.le_of_ble_eq_true rfl) hf (.inr hl)]

/-- LG_STATUS is none of the registers of a spare's report. -/
theorem lgStatus_notMem_spareRegs (hg : g < 9) (n : Nat) : A.LG_STATUS g ∉ spareRegs g n := by
  simp [spareRegs, A.LG_STATUS, A.LG_EVT, A.LANE_EVT, A.OA_NOTICE, A.OA_NOTICE_DETAIL_n, A.OA_EVT, A.EVT_RISE_s]
  omega

theorem State.pllSwitch_moved (h : cellsWf 0 s.regs = true) (hg : g < 9) : s.MovedToSpare (s.pllSwitch g) g := by
  have r : s.ReportsOnly (s.onSpare g) [A.LG_STATUS g, A.LG_STATUS g] :=
    have r1 := State.put_reports (F.LG_STATUS_PLL_SEL g) 1 h
    r1.trans (State.put_reports (F.LG_STATUS_PLL_LOCK g) 1 r1.wf)
  obtain ⟨hsel, hlock, hkept⟩ := State.onSpare_shows (g := g) h
  obtain ⟨q, hshows, hdue⟩ := State.spareReport_reported (g := g) (n := 0) 0 r.wf hg (by decide)
  have hsame : ∀ f : FRef, f.addr = A.LG_STATUS g → ((s.onSpare g).spareReport g 0 0).get f = (s.onSpare g).get f :=
    fun f hf => q.same f (by rw [hf]; exact lgStatus_notMem_spareRegs hg 0)
  have rq : s.ReportsOnly ((s.onSpare g).spareReport g 0 0) (A.LG_STATUS g :: spareRegs g 0) := (r.trans q).mono (by simp)
  obtain ⟨l, hl⟩ := State.tellOwners_frame ((s.onSpare g).spareReport g 0 0) g
  rw [State.pllSwitch_eq, hl]
  generalize (s.onSpare g).spareReport g 0 0 = u at *
  exact ⟨(hsame _ rfl).trans hsel, (hsame _ rfl).trans hlock, fun f hf hb => (hsame f hf).trans (hkept f hf hb),
    ⟨hshows.evt, hshows.lane, hshows.notice, hshows.place⟩, ⟨rq.wf, by rw [rq.frame], rq.same⟩, hdue⟩

end

/-! ### LG_SERVICE (R213) -/

theorem wregAt_lgService : ∀ g : Fin 9, wregAt (A.LG_SERVICE g) = some (.lgService g) := by decide +kernel

theorem lgService_plain (g : Nat) : (WReg.lgService g).Plain := ⟨rfl, fun _ => rfl, rfl, fun _ _ => rfl⟩

section
variable {s : State} {a : Agent} {g : Fin 9}

/-- LG_SERVICE acts by its bits FORCE_SPARE_PLL and FORCE_SLICE. -/
theorem State.wordEffect_lgService (s : State) (a g lsb width v : Nat) :
    (s.wordEffect a (.lgService g) [⟨⟨A.LG_SERVICE g, lsb, width⟩, .sc, .live, v⟩]).2
      = (s.iff (wrOne [⟨⟨A.LG_SERVICE g, lsb, width⟩, .sc, .live, v⟩] 0) (fun s => s.forceSpare g)).iff
          (wrAt [⟨⟨A.LG_SERVICE g, lsb, width⟩, .sc, .live, v⟩] 1).isSome
          (fun s => s.forceSlices g ((wrAt [⟨⟨A.LG_SERVICE g, lsb, width⟩, .sc, .live, v⟩] 1).getD 0)) := by
  rw [State.wordEffect_of_plain (r := .lgService g) rfl nofun nofun nofun, State.storeWord_sc]
  rfl

/-- A field of LG_SERVICE that a writer in service mode sets acts. -/
theorem State.fieldArrives_lgService {lsb width v : Nat} (hi : s.inService a = true) (hv : v < 2 ^ width) (h0 : v ≠ 0)
    (hm : ⟨lsb, width, .sc, .live⟩ ∈ (WReg.lgService g).fields) (ht : s.TakesField a (A.LG_SERVICE g) lsb width v) :
    s.fieldArrives a (A.LG_SERVICE g) lsb width v
      = (s.wordEffect a (.lgService g) [⟨⟨A.LG_SERVICE g, lsb, width⟩, .sc, .live, v⟩]).2 :=
  State.fieldArrives_of_live (acc := .sc) (wregAt_lgService g) (lgService_plain g) hv hm (bne_iff_ne.2 h0)
    (by unfold A.LG_SERVICE; omega) ht ⟨rfl, fun _ => hi, rfl, rfl, rfl⟩

theorem exec_forceSparePll_of_taken (ht : s.TakesField a (A.LG_SERVICE g) 0 1 1) (hi : s.inService a = true) :
    exec (.forceSparePll a g) s = .next (s.forceSpare g) :=
  congrArg Host.Outcome.next ((State.fieldArrives_lgService hi (by decide) (by decide) List.mem_cons_self ht).trans
    (by simp [State.wordEffect_lgService, wrOne, wrAt]))

/-- FORCE_SLICE of one lane acts where the group's spare slice is free. -/
theorem State.forceSlices_one (s : State) (g : Nat) (l : Fin 4) : s.forceSlices g (2 ^ l.val)
    = if s.flag (F.LG_STATUS_SPARE_SLICE_FREE g) then s.sliceSwap g l else s := by
  fin_cases l <;> rfl

theorem exec_forceSlice_of_taken {l : Fin 4} (ht : s.TakesField a (A.LG_SERVICE g) 1 4 (2 ^ l.val))
    (hi : s.inService a = true) (hf : s.get (F.LG_STATUS_SPARE_SLICE_FREE g) = 1) :
    exec (.forceSlice a g l) s = .next (s.sliceSwap g l) := by
  have hv : 2 ^ l.val < 2 ^ 4 := Nat.pow_lt_pow_right (by decide) l.isLt
  refine congrArg Host.Outcome.next ((State.fieldArrives_lgService hi hv (by positivity)
    (List.mem_cons_of_mem _ List.mem_cons_self) ht).trans ?_)
  simp [State.wordEffect_lgService, wrOne, wrAt, State.forceSlices_one, State.flag_of_one hf]

/-! ### The PLLs of a group (R206) -/

/-- A main PLL is lost whose group has its spare. -/
theorem exec_mainPllLockLoss_spared (hsel : s.get (F.LG_STATUS_PLL_SEL g) = 0) (hok : s.get (F.LG_STATUS_SPARE_PLL_OK g) = 1) :
    exec (.mainPllLockLoss g) s = .next (({ s with mainLost := s.mainLost ||| 2 ^ g.val } : State).pllSwitch g) := by
  have hok' : ({ s with mainLost := s.mainLost ||| 2 ^ g.val } : State).flag (F.LG_STATUS_SPARE_PLL_OK g) = true :=
    State.flag_of_one hok
  have hsel' : ({ s with mainLost := s.mainLost ||| 2 ^ g.val } : State).flag (F.LG_STATUS_PLL_SEL g) = false :=
    State.flag_of_zero hsel
  show execMainPllLockLoss g s = _
  unfold execMainPllLockLoss
  dsimp only
  rw [hok', hsel']
  rfl

/-- A main PLL is lost whose group has no spare: every lane of the group fails. -/
theorem exec_mainPllLockLoss_unspared (hok : s.get (F.LG_STATUS_SPARE_PLL_OK g) = 0) :
    exec (.mainPllLockLoss g) s = .next (({ s with mainLost := s.mainLost ||| 2 ^ g.val } : State).groupFail g) := by
  have hok' : ({ s with mainLost := s.mainLost ||| 2 ^ g.val } : State).flag (F.LG_STATUS_SPARE_PLL_OK g) = false :=
    State.flag_of_zero hok
  show execMainPllLockLoss g s = _
  unfold execMainPllLockLoss
  dsimp only
  rw [hok']
  rfl

theorem State.forceSpare_spared (hsel : s.get (F.LG_STATUS_PLL_SEL g) = 0) (hok : s.get (F.LG_STATUS_SPARE_PLL_OK g) = 1) :
    s.forceSpare g = s.pllSwitch g :=
  if_pos (by rw [State.flag_of_zero hsel, State.flag_of_one hok]; rfl)

/-- A spare PLL is marked as lost. -/
def State.spareLost (s : State) (g : Nat) : State := (s.put (F.LG_STATUS_SPARE_PLL_OK g) 0).lgEvt g 4

theorem exec_sparePllFail (s : State) (g : Fin 9) : exec (.sparePllFail g) s
    = .next (if bitAt s.mainLost g then (s.spareLost g).groupFail g else (s.spareLost g).put (F.LG_STATUS_PLL_SEL g) 0) := by
  have hm : (s.spareLost g).mainLost = s.mainLost := State.raise_mainLost _ _ _
  rw [← hm]
  rfl

/-- What a spare PLL leaves that fails while the main one runs. -/
structure State.BackOnMain (s t : State) (g : Nat) : Prop where
  ok : t.get (F.LG_STATUS_SPARE_PLL_OK g) = 0
  sel : t.get (F.LG_STATUS_PLL_SEL g) = 0
  evt : t.get ⟨A.LG_EVT g, 4, 1⟩ = 1
  status : ∀ f : FRef, f.addr = A.LG_STATUS g → f.lsb + f.width ≤ 1 ∨ 3 ≤ f.lsb → t.get f = s.get f
  frame : t = { s with regs := t.regs, router := t.router }
  same : s.SameRegs t [A.LG_STATUS g, A.LG_EVT g, A.EVT_RISE_s (48 + g)]

theorem State.spareLost_backOnMain (h : cellsWf 0 s.regs = true) :
    s.BackOnMain ((s.spareLost g).put (F.LG_STATUS_PLL_SEL g) 0) g := by
  have r1 : s.ReportsOnly (s.put (F.LG_STATUS_SPARE_PLL_OK g) 0) [A.LG_STATUS g] := State.put_reports _ 0 h
  have r2 : (s.put (F.LG_STATUS_SPARE_PLL_OK g) 0).ReportsOnly (s.spareLost g) [A.LG_EVT g, A.EVT_RISE_s (48 + g)] :=
    State.raise_reports (48 + g) ⟨A.LG_EVT g, 4, 1⟩ r1.wf
  have r3 : (s.spareLost g).ReportsOnly ((s.spareLost g).put (F.LG_STATUS_PLL_SEL g) 0) [A.LG_STATUS g] :=
    State.put_reports _ 0 r2.wf
  have hout := lgStatus_notMem_lgEvt g
  have hevt : A.LG_EVT g ∉ [A.LG_STATUS g] := by simp [A.LG_STATUS, A.LG_EVT]
  refine ⟨?_, ?_, ?_, fun f hf hd => ?_, ?_, ?_⟩
  · rw [State.get_put_disj (F.LG_STATUS_PLL_SEL g) (F.LG_STATUS_SPARE_PLL_OK g) 0 r2.wf (Nat.le_of_ble_eq_true rfl) rfl
        (.inr (Nat.le_refl 2)), r2.same (F.LG_STATUS_SPARE_PLL_OK g) hout,
      State.get_put_same (F.LG_STATUS_SPARE_PLL_OK g) 0 h (Nat.le_of_ble_eq_true rfl), Nat.zero_mod]
  · rw [State.get_put_same (F.LG_STATUS_PLL_SEL g) 0 r2.wf (Nat.le_of_ble_eq_true rfl), Nat.zero_mod]
  · exact (r3.same ⟨A.LG_EVT g, 4, 1⟩ hevt).trans (State.get_raise_same (48 + g) _ r1.wf (Nat.le_of_ble_eq_true rfl)
      (lgEvt_ne_evtRise g))
  · rw [State.get_put_disj (F.LG_STATUS_PLL_SEL g) f 0 r2.wf (Nat.le_of_ble_eq_true rfl) hf
        (hd.imp_right Nat.le_of_succ_le), r2.same f (by rwa [hf]),
      State.get_put_disj (F.LG_STATUS_SPARE_PLL_OK g) f 0 h (Nat.le_of_ble_eq_true rfl) hf (hd.imp_left Nat.le_succ_of_le)]
  · have hlogs : (s.spareLost g).logs = s.logs := State.raise_logs _ _ _
    have hoa : (s.spareLost g).oa = s.oa := State.raise_oa _ _ _
    exact ((r1.trans r2).trans r3).frame_of_quiet hlogs hoa
  · exact ((((r1.trans r2).trans r3)).mono (by simp)).same

end

/-! ### The spare slice (R207, R208) -/

section
variable {s : State} {g : Nat}

/-- The slice map once lane `l` is served by the spare slice. -/
def State.onSpareSlice (s : State) (g l : Nat) : State :=
  (s.put (F.LG_STATUS_SLICE_MAP g) (withBits (s.get (F.LG_STATUS_SLICE_MAP g)) (3 * l) 3 (s.spareSlice g))).put
    (F.LG_STATUS_SPARE_SLICE_FREE g) 0

/-- A lane's move to the spare slice up to its traffic, R207's report included. -/
def State.sliceMoves (s : State) (g l : Nat) : State := (s.onSpareSlice g l).spareReport g 1 l

theorem State.sliceSwap_eq (s : State) (g l : Nat) : s.sliceSwap g l = (s.sliceMoves g l).swapTraffic g l := rfl

/-- What a lane's move to the spare slice shows. -/
structure State.MovedToSlice (s t : State) (g l : Nat) : Prop where
  map : t.get (F.LG_STATUS_SLICE_MAP g) = withBits (s.get (F.LG_STATUS_SLICE_MAP g)) (3 * l) 3 (s.spareSlice g)
  free : t.get (F.LG_STATUS_SPARE_SLICE_FREE g) = 0
  shows : t.ShowsSpare g 1

theorem State.sliceMoves_moved {l : Nat} (h : cellsWf 0 s.regs = true) (hg : g < 9) (hl : l < 4) :
    s.MovedToSlice (s.sliceMoves g l) g l := by
  have w1 := State.put_wf (F.LG_STATUS_SLICE_MAP g)
    (withBits (s.get (F.LG_STATUS_SLICE_MAP g)) (3 * l) 3 (s.spareSlice g)) h
  have w2 := State.put_wf (F.LG_STATUS_SPARE_SLICE_FREE g) 0 w1
  obtain ⟨q, hshows, -⟩ := State.spareReport_reported (s := s.onSpareSlice g l) (g := g) (n := 1) l w2 hg (by decide)
  have hsame : ∀ f : FRef, f.addr = A.LG_STATUS g → (s.sliceMoves g l).get f = (s.onSpareSlice g l).get f :=
    fun f hf => q.same f (by rw [hf]; exact lgStatus_notMem_spareRegs hg 1)
  have hlt : withBits (s.get (F.LG_STATUS_SLICE_MAP g)) (3 * l) 3 (s.spareSlice g) < 2 ^ 12 :=
    withBits_lt _ _ _ _ 12 (Nat.mod_lt _ (Nat.two_pow_pos 12)) (by omega)
  refine ⟨(hsame _ rfl).trans ?_, (hsame _ rfl).trans ?_, hshows⟩
  · unfold State.onSpareSlice
    rw [State.get_put_disj (F.LG_STATUS_SPARE_SLICE_FREE g) (F.LG_STATUS_SLICE_MAP g) 0 w1 (Nat.le_of_ble_eq_true rfl) rfl
        (.inr (Nat.le_of_ble_eq_true rfl)), State.get_put_same (F.LG_STATUS_SLICE_MAP g) _ h (Nat.le_of_ble_eq_true rfl)]
    exact Nat.mod_eq_of_lt hlt
  · unfold State.onSpareSlice
    rw [State.get_put_same (F.LG_STATUS_SPARE_SLICE_FREE g) 0 w1 (Nat.le_of_ble_eq_true rfl), Nat.zero_mod]

end

theorem exec_pcsSliceParityError_spared {s : State} {g : Fin 9} (l : Fin 4)
    (hf : s.get (F.LG_STATUS_SPARE_SLICE_FREE g) = 1) : exec (.pcsSliceParityError g l) s = .next (s.sliceSwap g l) :=
  congrArg Host.Outcome.next (if_pos (State.flag_of_one hf))

theorem exec_pcsSliceParityError_unspared {s : State} {g : Fin 9} (l : Fin 4)
    (hf : s.get (F.LG_STATUS_SPARE_SLICE_FREE g) = 0) : exec (.pcsSliceParityError g l) s = .next (s.laneFail g l) :=
  congrArg Host.Outcome.next (if_neg (by rw [State.flag_of_zero hf]; decide))

/-- Settles O24: a group's move to its spare PLL, by loss or by FORCE_SPARE_PLL, leaves the marks of one lemma, a lane's move to the
spare slice those of another, and the remaining cases fail lanes. -/
theorem laneSpares : Obligations.LaneSpares := by
  intro s g hs kept onSpare moved
  have hfields : ∀ f ∈ [F.LG_STATUS_SPARE_PLL_OK g, F.LG_STATUS_SPARE_SLICE_FREE g, F.LG_STATUS_SLICE_MAP g,
      F.LG_STATUS_ACTIVE g, F.LG_STATUS_QUALIFYING g], f.addr = A.LG_STATUS g ∧ 2 ≤ f.lsb := by
    simp [F.LG_STATUS_SPARE_PLL_OK, F.LG_STATUS_SPARE_SLICE_FREE, F.LG_STATUS_SLICE_MAP, F.LG_STATUS_ACTIVE,
      F.LG_STATUS_QUALIFYING]
  have hothers : ∀ f ∈ [F.LG_STATUS_PLL_LOCK g, F.LG_STATUS_SPARE_SLICE_FREE g, F.LG_STATUS_SLICE_MAP g,
      F.LG_STATUS_ACTIVE g, F.LG_STATUS_QUALIFYING g],
      f.addr = A.LG_STATUS g ∧ (f.lsb + f.width ≤ 1 ∨ 3 ≤ f.lsb) := by
    simp [F.LG_STATUS_PLL_LOCK, F.LG_STATUS_SPARE_SLICE_FREE, F.LG_STATUS_SLICE_MAP, F.LG_STATUS_ACTIVE,
      F.LG_STATUS_QUALIFYING]
  have hpll : ∀ m : Nat, let t := ({ s with mainLost := m } : State).pllSwitch g
      onSpare t ∧ t.oa = { s.oa with recordDue := true }
        ∧ t = { s with regs := t.regs, router := t.router, logs := t.logs, oa := t.oa, mainLost := m } := by
    intro m
    obtain ⟨hsel, hlock, hstatus, hshows, hr, hdue⟩ :=
      State.pllSwitch_moved (s := { s with mainLost := m }) (g := g) hs.regs g.isLt
    exact ⟨⟨hsel, hlock, hshows.evt, hshows.lane, hshows.notice, hshows.place,
      fun f hf => hstatus f (hfields f hf).1 (hfields f hf).2, hr.same⟩, hdue, hr.frame⟩
  have hslice : ∀ l : Fin 4, moved l (s.sliceMoves g l) := by
    intro l
    obtain ⟨hmap, hfree, hshows⟩ := State.sliceMoves_moved (g := g) hs.regs g.isLt l.isLt
    exact ⟨hmap, hfree, hshows.evt, hshows.lane, hshows.notice⟩
  refine ⟨fun hsel hok => ?_, fun a hsel hok ht hi => ?_, exec_mainPllLockLoss_unspared, fun hm => ?_, fun hm => ?_,
    fun l hf => ⟨⟨_, exec_pcsSliceParityError_spared l hf, hslice l⟩,
      fun a ht hi => ⟨_, exec_forceSlice_of_taken ht hi hf, hslice l⟩⟩, exec_pcsSliceParityError_unspared⟩
  · obtain ⟨hon, hdue, hframe⟩ := hpll (s.mainLost ||| 2 ^ g.val)
    have hlost := congrArg State.mainLost hframe
    exact ⟨_, exec_mainPllLockLoss_spared hsel hok, hon, hlost, hdue, by rw [hlost]; exact hframe⟩
  · obtain ⟨hon, hdue, hframe⟩ := hpll s.mainLost
    exact ⟨_, (exec_forceSparePll_of_taken ht hi).trans (congrArg Host.Outcome.next (State.forceSpare_spared hsel hok)), hon,
      hdue, hframe⟩
  · obtain ⟨hok, hsel, hevt, hstatus, hframe, hsame⟩ := State.spareLost_backOnMain (g := g) hs.regs
    exact ⟨_, (exec_sparePllFail s g).trans (by rw [hm]; rfl), hok, hsel, hevt,
      fun f hf => hstatus f (hothers f hf).1 (hothers f hf).2, hframe, hsame⟩
  · rw [exec_sparePllFail, hm]
    rfl

end Sys2Proof.Machine
end

section
/-! Eye points, qualification, coefficient requests and inversion of a lane (O25). -/
namespace Sys2Proof.Machine

/-! ### An eye point ends or starts (R200) -/

section
variable {s u : State} {g l : Nat}

theorem lnEyeCtrl_ne_lnEyeResult (g l : Nat) : A.LN_EYE_CTRL g l ≠ A.LN_EYE_RESULT g l := by
  simp [A.LN_EYE_CTRL, A.LN_EYE_RESULT]

/-- LANE_EVT and its rise counter are none of the registers of one lane. -/
theorem laneEvt_notMem_eyeRegs {x : Nat} (hx : x = A.LN_EYE_CTRL g l ∨ x = A.LN_EYE_RESULT g l) :
    x ∉ [A.LANE_EVT, A.EVT_RISE_s 57] := by
  simp only [A.LN_EYE_CTRL, A.LN_EYE_RESULT] at hx
  simp only [A.LANE_EVT, A.EVT_RISE_s, List.mem_cons, List.not_mem_nil, or_false]
  omega

/-- The registers of an eye point and of the event that it ends with. -/
def eyeRegs (g l : Nat) : List Nat := [A.LN_EYE_RESULT g l, A.LN_EYE_CTRL g l, A.LANE_EVT, A.EVT_RISE_s 57]

/-- What the end of an eye point leaves: DONE without BUSY or START, the event, and everything else of its registers as it was. -/
structure State.EyeEnded (u t : State) (g l : Nat) : Prop where
  busy : t.get (F.LN_EYE_RESULT_BUSY g l) = 0
  done : t.get (F.LN_EYE_RESULT_DONE g l) = 1
  start : t.get (F.LN_EYE_CTRL_START g l) = 0
  evt : t.get ⟨A.LANE_EVT, g, 1⟩ = 1
  result : ∀ f : FRef, f.addr = A.LN_EYE_RESULT g l → f.lsb + f.width ≤ 30 → t.get f = u.get f
  settings : ∀ f : FRef, f.addr = A.LN_EYE_CTRL g l → 1 ≤ f.lsb → t.get f = u.get f
  reports : u.ReportsOnly t (eyeRegs g l)
  frame : t = { u with regs := t.regs, router := t.router }

theorem State.eyeDone_ended (h : cellsWf 0 u.regs = true) (hg : g < 9) : u.EyeEnded (u.eyeDone g l) g l := by
  have r1 := State.put_reports (F.LN_EYE_RESULT_BUSY g l) 0 h
  have r2 := State.put_reports (F.LN_EYE_RESULT_DONE g l) 1 r1.wf
  have r3 := State.put_reports (F.LN_EYE_CTRL_START g l) 0 r2.wf
  have r4 := State.raise_reports 57 ⟨A.LANE_EVT, 0 + g, 1⟩ r3.wf
  have hne := lnEyeCtrl_ne_lnEyeResult g l
  have hres := laneEvt_notMem_eyeRegs (g := g) (l := l) (.inr rfl)
  have hctrl := laneEvt_notMem_eyeRegs (g := g) (l := l) (.inl rfl)
  have hout : A.LANE_EVT ≠ A.EVT_RISE_s 57 := by decide
  have hrep := ((r1.trans r2).trans r3).trans r4
  refine ⟨?_, ?_, ?_, ?_, fun f hf hb => ?_, fun f hf hb => ?_, hrep.mono ?_,
    hrep.frame_of_quiet (State.raise_logs _ _ _) (State.raise_oa _ _ _)⟩
  · refine (r4.same (F.LN_EYE_RESULT_BUSY g l) hres).trans ?_
    rw [State.get_put_ne (F.LN_EYE_CTRL_START g l) (F.LN_EYE_RESULT_BUSY g l) 0 r2.wf hne.symm,
      State.get_put_disj (F.LN_EYE_RESULT_DONE g l) (F.LN_EYE_RESULT_BUSY g l) 1 r1.wf (Nat.le_refl 32)
        rfl (.inl (Nat.le_refl 31)),
      State.get_put_same (F.LN_EYE_RESULT_BUSY g l) 0 h (Nat.le_of_ble_eq_true rfl), Nat.zero_mod]
  · refine (r4.same (F.LN_EYE_RESULT_DONE g l) hres).trans ?_
    rw [State.get_put_ne (F.LN_EYE_CTRL_START g l) (F.LN_EYE_RESULT_DONE g l) 0 r2.wf hne.symm,
      State.get_put_same (F.LN_EYE_RESULT_DONE g l) 1 r1.wf (Nat.le_refl 32)]
    rfl
  · refine (r4.same (F.LN_EYE_CTRL_START g l) hctrl).trans ?_
    rw [State.get_put_same (F.LN_EYE_CTRL_START g l) 0 r2.wf (Nat.le_of_ble_eq_true rfl), Nat.zero_mod]
  · have e : (u.eyeDone g l).get ⟨A.LANE_EVT, 0 + g, 1⟩ = 1 := State.get_raise_same 57 _ r3.wf (by simp only; omega) hout
    rwa [Nat.zero_add] at e
  · refine (r4.same f (hf ▸ hres)).trans ?_
    rw [State.get_put_ne (F.LN_EYE_CTRL_START g l) f 0 r2.wf (hf ▸ hne.symm),
      State.get_put_disj (F.LN_EYE_RESULT_DONE g l) f 1 r1.wf (Nat.le_refl 32) hf (.inl (Nat.le_succ_of_le hb)),
      State.get_put_disj (F.LN_EYE_RESULT_BUSY g l) f 0 h (Nat.le_of_ble_eq_true rfl) hf (.inl hb)]
  · refine (r4.same f (hf ▸ hctrl)).trans ?_
    rw [State.get_put_disj (F.LN_EYE_CTRL_START g l) f 0 r2.wf (Nat.le_of_ble_eq_true rfl) hf (.inr hb),
      State.get_put_ne (F.LN_EYE_RESULT_DONE g l) f 1 r1.wf (hf ▸ hne),
      State.get_put_ne (F.LN_EYE_RESULT_BUSY g l) f 0 h (hf ▸ hne)]
  · simp [eyeRegs, F.LN_EYE_RESULT_BUSY, F.LN_EYE_RESULT_DONE, F.LN_EYE_CTRL_START]

/-- An eye point's result is cleared and its START is set. -/
def State.eyeBegins (s : State) (g l : Nat) : State := (s.setReg (A.LN_EYE_RESULT g l) 0).put (F.LN_EYE_CTRL_START g l) 1

/-- What a point that begins leaves: an empty result, START, and the settings as they were. -/
structure State.EyeBegun (s t : State) (g l : Nat) : Prop where
  start : t.get (F.LN_EYE_CTRL_START g l) = 1
  result : ∀ f : FRef, f.addr = A.LN_EYE_RESULT g l → t.get f = 0
  settings : ∀ f : FRef, f.addr = A.LN_EYE_CTRL g l → 1 ≤ f.lsb → t.get f = s.get f
  reports : s.ReportsOnly t [A.LN_EYE_RESULT g l, A.LN_EYE_CTRL g l]
  frame : t = { s with regs := t.regs }

theorem State.eyeBegins_begun (h : cellsWf 0 s.regs = true) : s.EyeBegun (s.eyeBegins g l) g l := by
  have r1 := State.setReg_reports (A.LN_EYE_RESULT g l) 0 h
  have r2 := State.put_reports (F.LN_EYE_CTRL_START g l) 1 r1.wf
  have hne := lnEyeCtrl_ne_lnEyeResult g l
  unfold State.eyeBegins
  refine ⟨?_, fun f hf => ?_, fun f hf hb => ?_, r1.trans r2, rfl⟩
  · rw [State.get_put_same (F.LN_EYE_CTRL_START g l) 1 r1.wf (Nat.le_of_ble_eq_true rfl)]
    rfl
  · rw [State.get_put_ne (F.LN_EYE_CTRL_START g l) f 1 r1.wf (hf ▸ hne.symm), State.get_setReg_same _ _ _ f h hf]
    simp [bitsOf]
  · rw [State.get_put_disj (F.LN_EYE_CTRL_START g l) f 1 r1.wf (Nat.le_of_ble_eq_true rfl) hf (.inr hb),
      State.get_setReg_ne _ _ _ f h (hf ▸ hne)]

/-- The receiver of a lane is as it was when an eye point begins. -/
theorem State.rxActive_eyeBegins (h : cellsWf 0 s.regs = true) : (s.eyeBegins g l).rxActive g l = s.rxActive g l := by
  have hsame := (State.eyeBegins_begun (g := g) (l := l) h).reports.same
  have hstate : (s.eyeBegins g l).get (F.LN_STATUS_STATE g l) = s.get (F.LN_STATUS_STATE g l) :=
    hsame _ (by simp [F.LN_STATUS_STATE, A.LN_STATUS, A.LN_EYE_RESULT, A.LN_EYE_CTRL])
  have hdir : (s.eyeBegins g l).get (F.LN_STATUS_DIR g l) = s.get (F.LN_STATUS_DIR g l) :=
    hsame _ (by simp [F.LN_STATUS_DIR, A.LN_STATUS, A.LN_EYE_RESULT, A.LN_EYE_CTRL])
  have hrole : (s.eyeBegins g l).get (F.LG_CTRL_ROLE g) = s.get (F.LG_CTRL_ROLE g) := by
    refine hsame _ ?_
    simp [F.LG_CTRL_ROLE, A.LG_CTRL, A.LN_EYE_RESULT, A.LN_EYE_CTRL]
    omega
  unfold State.rxActive State.flag
  rw [hstate, hdir, hrole]

/-- A point that begins on an idle lane: BUSY where the receiver is active, else its end at once with ABORTED. -/
theorem State.eyeStart_of_idle (h : cellsWf 0 s.regs = true) (hb : s.get (F.LN_EYE_RESULT_BUSY g l) = 0) :
    s.eyeStart g l = if s.rxActive g l then (s.eyeBegins g l).put (F.LN_EYE_RESULT_BUSY g l) 1
      else ((s.eyeBegins g l).put (F.LN_EYE_RESULT_ABORTED g l) 1).eyeDone g l := by
  rw [← State.rxActive_eyeBegins h]
  unfold State.eyeStart
  rw [State.flag_of_zero hb]
  rfl

/-- What an eye point under test leaves of the lane it began on. -/
structure State.EyeRunning (s t : State) (g l : Nat) : Prop where
  busy : t.get (F.LN_EYE_RESULT_BUSY g l) = 1
  start : t.get (F.LN_EYE_CTRL_START g l) = 1
  result : ∀ f : FRef, f.addr = A.LN_EYE_RESULT g l → f.lsb + f.width ≤ 30 ∨ 31 ≤ f.lsb → t.get f = 0
  settings : ∀ f : FRef, f.addr = A.LN_EYE_CTRL g l → 1 ≤ f.lsb → t.get f = s.get f
  frame : t = { s with regs := t.regs }
  same : s.SameRegs t [A.LN_EYE_RESULT g l, A.LN_EYE_CTRL g l]

theorem State.eyeBegins_running (h : cellsWf 0 s.regs = true) :
    s.EyeRunning ((s.eyeBegins g l).put (F.LN_EYE_RESULT_BUSY g l) 1) g l := by
  obtain ⟨hstart, hresult, hsettings, r, -⟩ := State.eyeBegins_begun (g := g) (l := l) h
  have hne := lnEyeCtrl_ne_lnEyeResult g l
  refine ⟨?_, ?_, fun f hf hd => ?_, fun f hf hb => ?_, rfl,
    ((r.trans (State.put_reports (F.LN_EYE_RESULT_BUSY g l) 1 r.wf)).mono ?_).same⟩
  · rw [State.get_put_same (F.LN_EYE_RESULT_BUSY g l) 1 r.wf (Nat.le_of_ble_eq_true rfl)]
    rfl
  · rw [State.get_put_ne (F.LN_EYE_RESULT_BUSY g l) (F.LN_EYE_CTRL_START g l) 1 r.wf hne, hstart]
  · rw [State.get_put_disj (F.LN_EYE_RESULT_BUSY g l) f 1 r.wf (Nat.le_of_ble_eq_true rfl) hf hd, hresult f hf]
  · rw [State.get_put_ne (F.LN_EYE_RESULT_BUSY g l) f 1 r.wf (hf ▸ hne), hsettings f hf hb]
  · simp [F.LN_EYE_RESULT_BUSY]

/-- What an eye point that has ended leaves, with the count of its errors and whether it was aborted. -/
structure State.EyeOver (s t : State) (g l errors : Nat) : Prop where
  errors : t.get (F.LN_EYE_RESULT_ERRORS g l) = errors
  busy : t.get (F.LN_EYE_RESULT_BUSY g l) = 0
  done : t.get (F.LN_EYE_RESULT_DONE g l) = 1
  start : t.get (F.LN_EYE_CTRL_START g l) = 0
  evt : t.get ⟨A.LANE_EVT, g, 1⟩ = 1
  settings : ∀ f : FRef, f.addr = A.LN_EYE_CTRL g l → 1 ≤ f.lsb → t.get f = s.get f
  frame : t = { s with regs := t.regs, router := t.router }
  same : s.SameRegs t (eyeRegs g l)

/-- From an eye point's end to what it leaves of the state before it. -/
theorem State.EyeEnded.over {t : State} {errors : Nat} (e : u.EyeEnded t g l) (hu : u = { s with regs := u.regs })
    (hr : s.ReportsOnly u [A.LN_EYE_RESULT g l, A.LN_EYE_CTRL g l]) (he : u.get (F.LN_EYE_RESULT_ERRORS g l) = errors)
    (hs : ∀ f : FRef, f.addr = A.LN_EYE_CTRL g l → 1 ≤ f.lsb → u.get f = s.get f) : s.EyeOver t g l errors where
  errors := (e.result (F.LN_EYE_RESULT_ERRORS g l) rfl (Nat.le_of_ble_eq_true rfl)).trans he
  busy := e.busy
  done := e.done
  start := e.start
  evt := e.evt
  settings f hf hb := (e.settings f hf hb).trans (hs f hf hb)
  frame := e.frame.trans (by rw [hu])
  same := ((hr.trans e.reports).mono (by simp [eyeRegs])).same

/-- A point that begins without an active receiver ends at once. -/
theorem State.eyeBegins_aborted (h : cellsWf 0 s.regs = true) (hg : g < 9) :
    let t := ((s.eyeBegins g l).put (F.LN_EYE_RESULT_ABORTED g l) 1).eyeDone g l
    t.get (F.LN_EYE_RESULT_ABORTED g l) = 1 ∧ s.EyeOver t g l 0 := by
  obtain ⟨-, hresult, hsettings, r, -⟩ := State.eyeBegins_begun (g := g) (l := l) h
  have r' := State.put_reports (F.LN_EYE_RESULT_ABORTED g l) 1 r.wf
  have hne := lnEyeCtrl_ne_lnEyeResult g l
  have e := State.eyeDone_ended (l := l) r'.wf hg
  refine ⟨(e.result (F.LN_EYE_RESULT_ABORTED g l) rfl (Nat.le_refl 30)).trans ?_,
    e.over rfl ((r.trans r').mono (by simp [F.LN_EYE_RESULT_ABORTED])) ?_ fun f hf hb => ?_⟩
  · rw [State.get_put_same (F.LN_EYE_RESULT_ABORTED g l) 1 r.wf (Nat.le_of_ble_eq_true rfl)]
    rfl
  · rw [State.get_put_disj (F.LN_EYE_RESULT_ABORTED g l) (F.LN_EYE_RESULT_ERRORS g l) 1 r.wf (Nat.le_of_ble_eq_true rfl) rfl
      (.inl (Nat.le_of_ble_eq_true rfl)), hresult _ rfl]
  · rw [State.get_put_ne (F.LN_EYE_RESULT_ABORTED g l) f 1 r.wf (hf ▸ hne), hsettings f hf hb]

/-- The end of a point under test stores the count of its errors. -/
theorem State.eyePoint_over (errors : Nat) (h : cellsWf 0 s.regs = true) (hg : g < 9) :
    s.EyeOver ((s.put (F.LN_EYE_RESULT_ERRORS g l) (min errors (2 ^ 24 - 1))).eyeDone g l) g l (min errors (2 ^ 24 - 1)) := by
  have r := State.put_reports (F.LN_EYE_RESULT_ERRORS g l) (min errors (2 ^ 24 - 1)) h
  refine (State.eyeDone_ended (l := l) r.wf hg).over rfl (r.mono (by simp [F.LN_EYE_RESULT_ERRORS])) ?_ fun f hf _ => ?_
  · rw [State.get_put_same (F.LN_EYE_RESULT_ERRORS g l) _ h (Nat.le_of_ble_eq_true rfl)]
    exact Nat.mod_eq_of_lt (Nat.lt_of_le_of_lt (Nat.min_le_right _ _) (Nat.sub_lt (Nat.two_pow_pos 24) Nat.one_pos))
  · exact State.get_put_ne (F.LN_EYE_RESULT_ERRORS g l) f _ h (hf ▸ lnEyeCtrl_ne_lnEyeResult g l)

end

/-! ### The commands of an eye point (R200) -/

theorem wregAt_lnEyeCtrl : ∀ (g : Fin 9) (l : Fin 4), wregAt (A.LN_EYE_CTRL g l) = some (.lnEyeCtrl g l) := by
  decide +kernel

theorem lnEyeCtrl_plain (g l : Nat) : (WReg.lnEyeCtrl g l).Plain := ⟨rfl, fun _ => rfl, rfl, fun _ _ => rfl⟩

section
variable {s : State} {g : Fin 9} {l : Fin 4}

/-- START of LN_EYE_CTRL starts an eye point. -/
theorem State.wordEffect_lnEyeCtrl (s : State) (a g l : Nat) :
    (s.wordEffect a (.lnEyeCtrl g l) [⟨F.LN_EYE_CTRL_START g l, .sc, .live, 1⟩]).2 = s.eyeStart g l := by
  rw [State.wordEffect_of_plain (r := .lnEyeCtrl g l) rfl nofun nofun nofun, State.storeWord_sc]
  rfl

theorem exec_lnEyeStart_of_taken {a : Agent} (ht : s.TakesField a (A.LN_EYE_CTRL g l) 0 1 1)
    (hm : s.mayWrite a (.lnEyeCtrl g l) 0 0 = true) : exec (.lnEyeStart a g l) s = .next (s.eyeStart g l) :=
  congrArg Host.Outcome.next ((State.fieldArrives_of_live (acc := .sc) (wregAt_lnEyeCtrl g l) (lnEyeCtrl_plain g l) (by decide)
    List.mem_cons_self rfl (by unfold A.LN_EYE_CTRL; omega) ht ⟨rfl, fun _ => hm, rfl, rfl, rfl⟩).trans
    (State.wordEffect_lnEyeCtrl s a g l))

theorem exec_eyePointDone_busy (errors : Nat) (hb : s.get (F.LN_EYE_RESULT_BUSY g l) = 1) :
    exec (.eyePointDone g l errors) s
      = .next ((s.put (F.LN_EYE_RESULT_ERRORS g l) (min errors (2 ^ 24 - 1))).eyeDone g l) :=
  congrArg Host.Outcome.next (if_pos (State.flag_of_one hb))

end

/-! ### Qualification (R201, R202) -/

section
variable {s : State} {g l : Nat}

theorem State.SameRegs.trans {t u : State} {l m : List Nat} (a : s.SameRegs t l) (b : t.SameRegs u m) :
    s.SameRegs u (l ++ m) := fun g hg => by
  rw [List.mem_append, not_or] at hg
  exact (b g hg.2).trans (a g hg.1)

theorem State.SameRegs.mono {t : State} {l m : List Nat} (a : s.SameRegs t l) (h : ∀ x ∈ l, x ∈ m) : s.SameRegs t m :=
  fun g hg => a g (mt (h _) hg)

/-- A flex lane takes a state; a pair of a host keeps its own. -/
def State.flexState (s : State) (g l v : Nat) : State := s.iff (decide (4 ≤ g)) (fun s => s.put (F.LN_STATUS_STATE g l) v)

theorem State.ite_flexState (s : State) (v : Nat) :
    (if g < 4 then s else s.put (F.LN_STATUS_STATE g l) v) = s.flexState g l v := by
  unfold State.flexState State.iff
  by_cases hg : g < 4
  · rw [if_pos hg, if_neg (by simpa using hg)]
  · rw [if_neg hg, if_pos (by simpa using hg)]

theorem State.flexState_reports (v : Nat) (h : cellsWf 0 s.regs = true) :
    s.ReportsOnly (s.flexState g l v) [A.LN_STATUS g l] := by
  unfold State.flexState State.iff
  split
  · exact State.put_reports (F.LN_STATUS_STATE g l) v h
  · exact (State.ReportsOnly.refl h).mono (by simp)

theorem State.flexState_frame (v : Nat) : s.flexState g l v = { s with regs := (s.flexState g l v).regs } := by
  unfold State.flexState State.iff
  split <;> rfl

theorem State.get_flexState {v : Nat} (hv : v < 8) (h : cellsWf 0 s.regs = true) :
    (s.flexState g l v).get (F.LN_STATUS_STATE g l) = if 4 ≤ g then v else s.get (F.LN_STATUS_STATE g l) := by
  unfold State.flexState State.iff
  simp only [decide_eq_true_eq]
  split
  · rw [State.get_put_same (F.LN_STATUS_STATE g l) v h (Nat.le_of_ble_eq_true rfl)]
    exact Nat.mod_eq_of_lt hv
  · rfl

/-- A lane is no longer under qualification. -/
theorem State.get_clrBit_qualifying (h : cellsWf 0 s.regs = true) :
    (s.clrBit (F.LG_STATUS_QUALIFYING g) l).get (F.LG_STATUS_QUALIFYING g)
      = s.get (F.LG_STATUS_QUALIFYING g) &&& (15 - 2 ^ l) := by
  unfold State.clrBit
  rw [State.get_put_same (F.LG_STATUS_QUALIFYING g) _ h (Nat.le_of_ble_eq_true rfl)]
  exact Nat.mod_eq_of_lt (Nat.lt_of_le_of_lt Nat.and_le_left (Nat.mod_lt _ (Nat.two_pow_pos 4)))

/-- A lane comes under qualification. -/
theorem State.get_setBit_qualifying (h : cellsWf 0 s.regs = true) (hl : l < 4) :
    (s.setBit (F.LG_STATUS_QUALIFYING g) l).get (F.LG_STATUS_QUALIFYING g)
      = s.get (F.LG_STATUS_QUALIFYING g) ||| 2 ^ l := by
  unfold State.setBit
  rw [State.get_put_same (F.LG_STATUS_QUALIFYING g) _ h (Nat.le_of_ble_eq_true rfl)]
  exact Nat.mod_eq_of_lt (Nat.or_lt_two_pow (Nat.mod_lt _ (Nat.two_pow_pos 4)) (Nat.pow_lt_pow_right (by decide) hl))

theorem lgEvt_ne_lnStatus (g l : Nat) : A.LG_EVT g ≠ A.LN_STATUS g l := by
  simp only [A.LG_EVT, A.LN_STATUS]
  omega

theorem lgStatus_ne_lnStatus (g l : Nat) : A.LG_STATUS g ≠ A.LN_STATUS g l := by
  simp only [A.LG_STATUS, A.LN_STATUS]
  omega

theorem lnStatus_ne_lnRxeq (g l : Nat) : A.LN_STATUS g l ≠ A.LN_RXEQ g l := by
  simp [A.LN_STATUS, A.LN_RXEQ]

/-- LG_STATUS is none of the registers of a lane. -/
theorem lgStatus_notMem_laneRegs (g l : Nat) : A.LG_STATUS g ∉ [A.LN_STATUS g l, A.LN_RXEQ g l] := by
  simp [A.LG_STATUS, A.LN_STATUS, A.LN_RXEQ]
  omega

end

section
variable {s : State} {g : Fin 9} {l : Fin 4}

/-- The hub tells the host its verdict on a pair that it receives. -/
def State.tellsVerdict (s : State) (g l : Nat) : Bool := decide (g < 4) && !s.flag (F.LN_STATUS_DIR g l)

/-- A verdict of a lane under qualification ends it, is told where it has to be, and passes or fails the lane. -/
theorem exec_qualificationDone_verdict {q : Qual} {pass : Bool} (hr : s.qualRuns g l = true)
    (hv : s.qualVerdict g l q = some pass) :
    exec (.qualificationDone g l q) s = .next (
      let u := s.clrBit (F.LG_STATUS_QUALIFYING g) l
      let v := u.iff (u.tellsVerdict g l) (fun s => s.qualTell g l pass)
      if pass then v.qualPass g l else v.qualFail g l) := by
  show execQualificationDone g l q s = _
  unfold execQualificationDone
  rw [hr, hv]
  rfl

/-- A verdict that the host is not told. -/
theorem exec_qualificationDone_untold {q : Qual} {pass : Bool} (hr : s.qualRuns g l = true)
    (hv : s.qualVerdict g l q = some pass) (ht : (s.clrBit (F.LG_STATUS_QUALIFYING g) l).tellsVerdict g l = false) :
    exec (.qualificationDone g l q) s = .next (
      let u := s.clrBit (F.LG_STATUS_QUALIFYING g) l
      if pass then u.qualPass g l else u.qualFail g l) := by
  rw [exec_qualificationDone_verdict hr hv]
  dsimp only
  rw [ht, State.iff_false]

/-- No host is told a verdict on a flex lane. -/
theorem State.tellsVerdict_flex {g : Nat} (l : Nat) (hg : 4 ≤ g) : s.tellsVerdict g l = false := by
  simp [State.tellsVerdict, Nat.not_lt.2 hg]

end

section
variable {s : State} {g l : Nat}

/-- The state with another record of the eye scans. -/
def State.withEyes (s : State) (e : Vector EyeScan 36) : State := { s with eyes := e }

/-- A flex lane that passes carries its block again. -/
theorem State.qualPass_flex (hg : 4 ≤ g) : s.qualPass g l
    = ((s.withEyes (vMod s.eyes (4 * g + l) (fun e => { e with tries := 0 }))).put (F.LN_STATUS_STATE g l) laneActive).put
        (F.LN_RXEQ_ADAPTING g l) 1 :=
  if_neg (by omega)

/-- Before its sixteenth failure a lane counts the try, and a flex lane trains again. -/
theorem State.qualFail_early (ht : (vAt s.eyes (4 * g + l)).tries < 15) : s.qualFail g l
    = ((s.lgEvt g 2).withEyes (vMod s.eyes (4 * g + l) (fun e =>
        { e with tries := (vAt s.eyes (4 * g + l)).tries + 1 }))).flexState g l laneTraining := by
  have hmin : min ((vAt s.eyes (4 * g + l)).tries + 1) 16 = (vAt s.eyes (4 * g + l)).tries + 1 := by omega
  unfold State.qualFail
  dsimp only
  rw [hmin, if_neg (by omega), State.ite_flexState]
  rfl

theorem State.OnlyRegs.eq {t : State} (h : s.OnlyRegs t) : t = { s with regs := t.regs } := h

theorem State.OnlyRegs.refl (s : State) : s.OnlyRegs s := rfl

/-- With another record of the eyes, then registers alone changed. -/
theorem State.OnlyRegs.of_withEyes {u t : State} {e : Vector EyeScan 36} (h : (u.withEyes e).OnlyRegs t) :
    t.eyes = e ∧ t = { u with regs := t.regs, eyes := e } :=
  ⟨congrArg State.eyes h, h⟩

/-- What a flex lane that passes its qualification leaves. -/
structure State.QualPassed (s t : State) (g l : Nat) : Prop where
  qualifying : t.get (F.LG_STATUS_QUALIFYING g) = s.get (F.LG_STATUS_QUALIFYING g) &&& (15 - 2 ^ l)
  state : t.get (F.LN_STATUS_STATE g l) = 3
  adapting : t.get (F.LN_RXEQ_ADAPTING g l) = 1
  eyes : t.eyes = vMod s.eyes (4 * g + l) (fun e => { e with tries := 0 })
  frame : t = { s with regs := t.regs, eyes := t.eyes }
  same : s.SameRegs t [A.LG_STATUS g, A.LN_STATUS g l, A.LN_RXEQ g l]

theorem State.qualPass_passed (h : cellsWf 0 s.regs = true) (hg : 4 ≤ g) :
    s.QualPassed ((s.clrBit (F.LG_STATUS_QUALIFYING g) l).qualPass g l) g l := by
  have r0 : s.ReportsOnly (s.clrBit (F.LG_STATUS_QUALIFYING g) l) [A.LG_STATUS g] := State.put_reports _ _ h
  have hu : s.OnlyRegs (s.clrBit (F.LG_STATUS_QUALIFYING g) l) := rfl
  have hq := State.get_clrBit_qualifying (g := g) (l := l) h
  have heyes : (s.clrBit (F.LG_STATUS_QUALIFYING g) l).eyes = s.eyes := rfl
  rw [State.qualPass_flex hg, heyes]
  generalize s.clrBit (F.LG_STATUS_QUALIFYING g) l = u at *
  generalize hv : vMod s.eyes (4 * g + l) (fun e => { e with tries := 0 }) = e
  have r1 : (u.withEyes e).ReportsOnly _ [A.LN_STATUS g l] := State.put_reports (F.LN_STATUS_STATE g l) laneActive r0.wf
  have r2 := r1.trans (State.put_reports (F.LN_RXEQ_ADAPTING g l) 1 r1.wf)
  obtain ⟨he, hframe⟩ := (((State.OnlyRegs.refl (u.withEyes e)).put (F.LN_STATUS_STATE g l) laneActive).put
    (F.LN_RXEQ_ADAPTING g l) 1).of_withEyes
  refine ⟨(r2.same (F.LG_STATUS_QUALIFYING g) (lgStatus_notMem_laneRegs g l)).trans hq, ?_, ?_, he.trans hv.symm, ?_,
    (r0.same.trans r2.same).mono (by simp [F.LN_RXEQ_ADAPTING])⟩
  · rw [State.get_put_ne (F.LN_RXEQ_ADAPTING g l) (F.LN_STATUS_STATE g l) 1 r1.wf (lnStatus_ne_lnRxeq g l),
      State.get_put_same (s := u.withEyes e) (F.LN_STATUS_STATE g l) laneActive r0.wf (Nat.le_of_ble_eq_true rfl)]
    rfl
  · rw [State.get_put_same (F.LN_RXEQ_ADAPTING g l) 1 r1.wf (Nat.le_refl 32)]
    rfl
  · rw [he]
    exact hframe.trans (by rw [hu])

/-- What an early failure to qualify leaves of a lane. -/
structure State.QualFailed (s t : State) (g l : Nat) : Prop where
  evt : t.get ⟨A.LG_EVT g, 2, 1⟩ = 1
  qualifying : t.get (F.LG_STATUS_QUALIFYING g) = s.get (F.LG_STATUS_QUALIFYING g) &&& (15 - 2 ^ l)
  state : t.get (F.LN_STATUS_STATE g l) = if 4 ≤ g then 1 else s.get (F.LN_STATUS_STATE g l)
  eyes : t.eyes = vMod s.eyes (4 * g + l) (fun e => { e with tries := (vAt s.eyes (4 * g + l)).tries + 1 })
  frame : t = { s with regs := t.regs, router := t.router, eyes := t.eyes }
  same : s.SameRegs t [A.LG_STATUS g, A.LG_EVT g, A.LN_STATUS g l, A.EVT_RISE_s (48 + g)]

theorem State.qualFail_failed (h : cellsWf 0 s.regs = true) (ht : (vAt s.eyes (4 * g + l)).tries < 15) :
    s.QualFailed ((s.clrBit (F.LG_STATUS_QUALIFYING g) l).qualFail g l) g l := by
  have r0 : s.ReportsOnly (s.clrBit (F.LG_STATUS_QUALIFYING g) l) [A.LG_STATUS g] := State.put_reports _ _ h
  have hq := State.get_clrBit_qualifying (g := g) (l := l) h
  have heyes : (s.clrBit (F.LG_STATUS_QUALIFYING g) l).eyes = s.eyes := rfl
  have r1 : (s.clrBit (F.LG_STATUS_QUALIFYING g) l).ReportsOnly ((s.clrBit (F.LG_STATUS_QUALIFYING g) l).lgEvt g 2)
    [A.LG_EVT g, A.EVT_RISE_s (48 + g)] := State.raise_reports (48 + g) ⟨A.LG_EVT g, 2, 1⟩ r0.wf
  have hevt : ((s.clrBit (F.LG_STATUS_QUALIFYING g) l).lgEvt g 2).get ⟨A.LG_EVT g, 2, 1⟩ = 1 :=
    State.get_raise_same (48 + g) _ r0.wf (Nat.le_of_ble_eq_true rfl) (lgEvt_ne_evtRise g)
  have hu := (r0.trans r1).frame_of_quiet (State.raise_logs _ _ _) (State.raise_oa _ _ _)
  rw [State.qualFail_early (s := s.clrBit (F.LG_STATUS_QUALIFYING g) l) ht, heyes]
  generalize (s.clrBit (F.LG_STATUS_QUALIFYING g) l).lgEvt g 2 = u at *
  generalize hv : vMod s.eyes (4 * g + l) (fun e => { e with tries := (vAt s.eyes (4 * g + l)).tries + 1 }) = e
  have r2 : (u.withEyes e).ReportsOnly _ [A.LN_STATUS g l] := State.flexState_reports laneTraining r1.wf
  obtain ⟨he, hframe⟩ := State.OnlyRegs.of_withEyes (State.flexState_frame (s := u.withEyes e) (g := g) (l := l) laneTraining)
  have hstate := State.get_flexState (s := u.withEyes e) (g := g) (l := l) (v := laneTraining) (by decide) r1.wf
  generalize (u.withEyes e).flexState g l laneTraining = t at *
  refine ⟨(r2.same ⟨A.LG_EVT g, 2, 1⟩ (mt List.mem_singleton.1 (lgEvt_ne_lnStatus g l))).trans hevt,
    (r2.same (F.LG_STATUS_QUALIFYING g) (mt List.mem_singleton.1 (lgStatus_ne_lnStatus g l))).trans
      ((r1.same (F.LG_STATUS_QUALIFYING g) (lgStatus_notMem_lgEvt g)).trans hq),
    hstate.trans (if_congr Iff.rfl rfl ((r0.trans r1).same (F.LN_STATUS_STATE g l) ?_)), he.trans hv.symm, ?_,
    ((r0.trans r1).same.trans r2.same).mono (by simp)⟩
  · simp [F.LN_STATUS_STATE, A.LN_STATUS, A.LG_STATUS, A.LG_EVT, A.EVT_RISE_s]
    omega
  · have hrouter : t.router = u.router := (congrArg State.router hframe :)
    rw [hrouter, he]
    exact hframe.trans (by rw [hu])

/-- What another try to qualify leaves of a lane. -/
structure State.QualRetried (s t : State) (g l : Nat) : Prop where
  qualifying : t.get (F.LG_STATUS_QUALIFYING g) = s.get (F.LG_STATUS_QUALIFYING g) ||| 2 ^ l
  state : t.get (F.LN_STATUS_STATE g l) = if 4 ≤ g then 2 else s.get (F.LN_STATUS_STATE g l)
  frame : t = { s with regs := t.regs }
  same : s.SameRegs t [A.LG_STATUS g, A.LN_STATUS g l]

theorem State.setBit_retried (h : cellsWf 0 s.regs = true) (hl : l < 4) :
    s.QualRetried ((s.setBit (F.LG_STATUS_QUALIFYING g) l).flexState g l laneQual) g l := by
  have r0 : s.ReportsOnly (s.setBit (F.LG_STATUS_QUALIFYING g) l) [A.LG_STATUS g] := State.put_reports _ _ h
  have r1 := State.flexState_reports (g := g) (l := l) laneQual r0.wf
  refine ⟨(r1.same (F.LG_STATUS_QUALIFYING g) (mt List.mem_singleton.1 (lgStatus_ne_lnStatus g l))).trans
      (State.get_setBit_qualifying h hl), (State.get_flexState (by decide) r0.wf).trans (if_congr Iff.rfl rfl
      (r0.same (F.LN_STATUS_STATE g l) (mt List.mem_singleton.1 (lgStatus_ne_lnStatus g l).symm))),
    State.flexState_frame laneQual, r0.same.trans r1.same⟩

end

theorem exec_qualRetry_due {s : State} {g : Fin 9} {l : Fin 4} (hm : s.qualMay g l = true)
    (ht : 1 ≤ (vAt s.eyes (4 * g + l)).tries) :
    exec (.qualRetry g l) s = .next ((s.setBit (F.LG_STATUS_QUALIFYING g) l).flexState g l laneQual) :=
  congrArg Host.Outcome.next (if_pos (by simp [hm, ht]))

/-! ### Inversion (R176) -/

theorem exec_pairInverted_received {s : State} {h : Hp} {pair : Fin 4} (hr : s.linkRuns h = true)
    (hc : s.cvState h = L.ref ∨ s.cvState h = L.speed) (hd : s.get (F.LN_STATUS_DIR h (s.ballPair h pair)) = 0) :
    exec (.pairInverted h pair) s = .next (s.put (F.LN_STATUS_RX_INV h (s.ballPair h pair)) 1) :=
  congrArg Host.Outcome.next ((if_pos hr).trans (if_pos (by simp [hc, State.flag_of_zero hd])))

/-! ### Coefficient requests (R182 to R184, R190, R245) -/

/-- A request for a preset of R183 is UPDATED whatever the taps were. -/
theorem eqRequest_preset {b n : Nat} (t : Nat × Nat × Nat) (hb : bitsOf b 20 4 = n) (hn : n < 10) :
    eqRequest b t = (((presetTaps n).1, 48 - (presetTaps n).1 - (presetTaps n).2, (presetTaps n).2), (0, 0)) := by
  unfold eqRequest
  dsimp only
  rw [hb, if_neg (by omega), if_pos hn]

section
variable {s : State} {g b : Nat} {n : Fin 10}

/-- The taps and PRESET that preset `n` puts in LN_TXEQ and in an UP set. -/
def presetSet (n : Nat) : TxSet :=
  ⟨(64 - (presetTaps n).1) % 64, 48 - (presetTaps n).1 - (presetTaps n).2, (64 - (presetTaps n).2) % 64, n⟩

/-- LN_TXEQ of a lane shows the taps and PRESET of a set. -/
structure State.ShowsTaps (t : State) (g b : Nat) (r : TxSet) : Prop where
  m1 : t.get (F.LN_TXEQ_C_M1 g b) = r.m1
  c0 : t.get (F.LN_TXEQ_C0 g b) = r.c0
  p1 : t.get (F.LN_TXEQ_C_P1 g b) = r.p1
  preset : t.get (F.LN_TXEQ_PRESET g b) = r.preset

theorem State.setPreset_shows (h : cellsWf 0 s.regs = true) : (s.setPreset g b n).ShowsTaps g b (presetSet n) := by
  have w1 := State.put_wf (F.LN_TXEQ_C_M1 g b) ((64 - (presetTaps n).1) % 64) h
  have w2 := State.put_wf (F.LN_TXEQ_C0 g b) (48 - (presetTaps n).1 - (presetTaps n).2) w1
  have w3 := State.put_wf (F.LN_TXEQ_C_P1 g b) ((64 - (presetTaps n).2) % 64) w2
  have hle {f : FRef} (hf : f.width = 6) {x : Nat} (hx : x < 64) : x % 2 ^ f.width = x := Nat.mod_eq_of_lt (by rw [hf]; exact hx)
  unfold State.setPreset State.setTaps
  refine ⟨?_, ?_, ?_, ?_⟩
  · rw [State.get_put_disj (F.LN_TXEQ_PRESET g b) (F.LN_TXEQ_C_M1 g b) _ w3 (Nat.le_of_ble_eq_true rfl) rfl
        (.inl (Nat.le_of_ble_eq_true rfl)),
      State.get_put_disj (F.LN_TXEQ_C_P1 g b) (F.LN_TXEQ_C_M1 g b) _ w2 (Nat.le_of_ble_eq_true rfl) rfl
        (.inl (Nat.le_of_ble_eq_true rfl)),
      State.get_put_disj (F.LN_TXEQ_C0 g b) (F.LN_TXEQ_C_M1 g b) _ w1 (Nat.le_of_ble_eq_true rfl) rfl
        (.inl (Nat.le_of_ble_eq_true rfl)), State.get_put_same (F.LN_TXEQ_C_M1 g b) _ h (Nat.le_of_ble_eq_true rfl)]
    exact hle rfl (Nat.mod_lt _ (by decide))
  · rw [State.get_put_disj (F.LN_TXEQ_PRESET g b) (F.LN_TXEQ_C0 g b) _ w3 (Nat.le_of_ble_eq_true rfl) rfl
        (.inl (Nat.le_of_ble_eq_true rfl)),
      State.get_put_disj (F.LN_TXEQ_C_P1 g b) (F.LN_TXEQ_C0 g b) _ w2 (Nat.le_of_ble_eq_true rfl) rfl
        (.inl (Nat.le_of_ble_eq_true rfl)), State.get_put_same (F.LN_TXEQ_C0 g b) _ w1 (Nat.le_of_ble_eq_true rfl)]
    exact hle rfl (by omega)
  · rw [State.get_put_disj (F.LN_TXEQ_PRESET g b) (F.LN_TXEQ_C_P1 g b) _ w3 (Nat.le_of_ble_eq_true rfl) rfl
        (.inl (Nat.le_of_ble_eq_true rfl)), State.get_put_same (F.LN_TXEQ_C_P1 g b) _ w2 (Nat.le_of_ble_eq_true rfl)]
    exact hle rfl (Nat.mod_lt _ (by decide))
  · rw [State.get_put_same (F.LN_TXEQ_PRESET g b) _ w3 (Nat.le_of_ble_eq_true rfl)]
    exact Nat.mod_eq_of_lt (Nat.lt_trans n.isLt (Nat.le_of_ble_eq_true rfl))

theorem State.setPreset_reports (h : cellsWf 0 s.regs = true) : s.ReportsOnly (s.setPreset g b n) [A.LN_TXEQ g b] := by
  have r1 := State.put_reports (F.LN_TXEQ_C_M1 g b) ((64 - (presetTaps n).1) % 64) h
  have r2 := r1.trans (State.put_reports (F.LN_TXEQ_C0 g b) (48 - (presetTaps n).1 - (presetTaps n).2) r1.wf)
  have r3 := r2.trans (State.put_reports (F.LN_TXEQ_C_P1 g b) ((64 - (presetTaps n).2) % 64) r2.wf)
  exact (r3.trans (State.put_reports (F.LN_TXEQ_PRESET g b) n r3.wf)).mono
    (by simp [F.LN_TXEQ_C_M1, F.LN_TXEQ_C0, F.LN_TXEQ_C_P1, F.LN_TXEQ_PRESET])

theorem State.setPreset_onlyRegs (s : State) (g b n : Nat) : s.OnlyRegs (s.setPreset g b n) := by
  unfold State.setPreset State.setTaps
  exact (((State.OnlyRegs.refl s).put _ _).put _ _ |>.put _ _).put _ _

/-- A TRAIN block leaves the links of the other ports. -/
theorem State.sendTrain_others {h : Nat} (on pair sub f : Nat) {k : Nat} (hk : k % 4 ≠ h % 4) :
    (s.sendTrain h on pair sub f).link k = s.link k :=
  (State.sendTrain_sends on pair sub f).others k hk

/-- An UP set takes the taps in use (R190). -/
theorem State.storeTx_of_shows {h : Nat} {r : TxSet} (hs : s.ShowsTaps h b r) :
    s.storeTx h b = s.modLink h (fun l => { l with up := vPut l.up b r }) := by
  unfold State.storeTx
  rw [hs.m1, hs.c0, hs.p1, hs.preset]

/-- A port whose UP set took taps asked for under a REQ_ID about logical pair `p`. -/
def State.tapsKept (s : State) (h b p id : Nat) (r : TxSet) : State :=
  (s.modLink h (fun l => { l with up := vPut l.up b r })).modLink h (fun k => { k with reqId := vPut k.reqId p (some id) })

theorem State.tapsKept_frame (s : State) (h b p id : Nat) (r : TxSet) :
    s.tapsKept h b p id r = { s with links := (s.tapsKept h b p id r).links } := rfl

theorem State.get_tapsKept (s : State) (h b p id : Nat) (r : TxSet) (g : FRef) : (s.tapsKept h b p id r).get g = s.get g := by
  refine State.get_congr ?_ g
  unfold State.tapsKept
  rw [State.modLink_regs, State.modLink_regs]

theorem State.tapsKept_link (s : State) (h b p id : Nat) (r : TxSet) : (s.tapsKept h b p id r).link h
    = { s.link h with up := vPut (s.link h).up b r, reqId := vPut (s.link h).reqId p (some id) } := by
  simp only [State.tapsKept, State.link_modLink]

theorem State.tapsKept_others (s : State) (h b p id : Nat) (r : TxSet) {k : Nat} (hk : k % 4 ≠ h % 4) :
    (s.tapsKept h b p id r).link k = s.link k :=
  (vAt_vMod_ne _ _ _ _ hk.symm).trans (vAt_vMod_ne _ _ _ _ hk.symm)

/-- A request with a new REQ_ID for a preset of R183: the taps, the UP set, the REQ_ID, and the report. -/
theorem State.coeffAct_preset {h p q : Nat} (hb : bitsOf q 20 4 = n) (hid : vAt (s.link h).reqId p ≠ some (bitsOf q 24 4))
    (hw : cellsWf 0 s.regs = true) : ∃ f, s.coeffAct h p q
      = ((s.setPreset h (s.ballPair h p) n).tapsKept h (s.ballPair h p) p (bitsOf q 24 4) (presetSet n)).sendTrain h p p 2 f := by
  have hs : (s.setPreset h (s.ballPair h p) n).ShowsTaps h (s.ballPair h p) (presetSet n) := State.setPreset_shows hw
  unfold State.setPreset at hs
  unfold State.coeffAct State.setPreset
  dsimp only
  rw [if_neg hid, eqRequest_preset _ hb n.isLt, hb, if_pos n.isLt]
  simp only [decide_true, Bool.or_self, if_true]
  rw [State.storeTx_of_shows hs]
  exact ⟨_, rfl⟩

/-- Registers change, then links, then what goes out. -/
theorem State.frame_of_train {u v t : State} {x : Nat} (hu : s.OnlyRegs u) (hv : v = { u with links := v.links })
    (ht : t = { v with out := t.out, free := x, links := t.links }) :
    t = { s with regs := t.regs, links := t.links, out := t.out, free := t.free } := by
  have hvregs : v.regs = u.regs := (congrArg State.regs hv :)
  have hregs : t.regs = u.regs := (congrArg State.regs ht :).trans hvregs
  have hfree : t.free = x := (congrArg State.free ht :)
  rw [hregs, hfree]
  exact ht.trans (by rw [hv, hu.eq])

/-- What a request for preset `n` leaves that acted on ball pair `b` of port `h`, under a REQ_ID about logical pair `p`. -/
structure State.PresetTaken (s t : State) (h b p n id : Nat) : Prop where
  shows : t.ShowsTaps h b (presetSet n)
  link : t.link h = { s.link h with
    up := vPut (s.link h).up b (presetSet n), reqId := vPut (s.link h).reqId p (some id), tx := (t.link h).tx }
  others : ∀ k, k % 4 ≠ h % 4 → t.link k = s.link k
  frame : t = { s with regs := t.regs, links := t.links, out := t.out, free := t.free }
  same : s.SameRegs t [A.LN_TXEQ h b]

theorem State.preset_taken {h : Nat} (p id f : Nat) (hw : cellsWf 0 s.regs = true) :
    s.PresetTaken (((s.setPreset h b n).tapsKept h b p id (presetSet n)).sendTrain h p p 2 f) h b p n id := by
  obtain ⟨hm1, hc0, hp1, hpreset⟩ : (s.setPreset h b n).ShowsTaps h b (presetSet n) := State.setPreset_shows hw
  have hsame := (State.setPreset_reports (g := h) (b := b) (n := n) hw).same
  have hregs : s.OnlyRegs (s.setPreset h b n) := State.setPreset_onlyRegs s h b n
  have hlinks : (s.setPreset h b n).links = s.links := (congrArg State.links hregs.eq :)
  have hlink (k : Nat) : (s.setPreset h b n).link k = s.link k := congrArg (fun v => vAt v k) hlinks
  generalize s.setPreset h b n = u at *
  have hget (g : FRef) : ((u.tapsKept h b p id (presetSet n)).sendTrain h p p 2 f).get g = u.get g :=
    (State.sendTrain_get p p 2 f g).trans (u.get_tapsKept h b p id _ g)
  refine ⟨⟨(hget _).trans hm1, (hget _).trans hc0, (hget _).trans hp1, (hget _).trans hpreset⟩, ?_, fun k hk => ?_, ?_,
    fun g hg => (hget g).trans (hsame g hg)⟩
  · rw [State.sendTrain_link, State.tapsKept_link, hlink]
  · exact (State.sendTrain_others p p 2 f hk).trans ((State.tapsKept_others u h b p id _ hk).trans (hlink k))
  · exact State.frame_of_train hregs (u.tapsKept_frame h b p id (presetSet n)) (State.sendTrain_frame p p 2 f)

end

theorem exec_coeffRequest_preset {s : State} {h : Hp} {pair : Fin 4} {block : BitVec 64} (eyes : List (Nat × Nat))
    (hr : s.linkRuns h = true) (hc : s.cvState h = L.eq) (hf : bitAt (s.failedMask h) pair = false)
    (hs : s.sends h pair = true) (hk : trainSub block.toNat = 2) :
    exec (.coeffRequest h pair ⟨block, eyes⟩) s = .next (s.coeffAct h pair block.toNat) := by
  have he : s.equalising h pair = true := by simp [State.equalising, hc, hf]
  show execCoeffRequest h pair ⟨block, eyes⟩ s = _
  unfold execCoeffRequest State.onLink
  simp only [hr, he, hk, hs]
  rfl

/-- Settles O25: an eye point that starts or ends, a verdict told or not, another try, a preset taken, and an inversion, each by what
its command leaves. -/
theorem eyesAndQualification : Obligations.EyesAndQualification := by
  intro s hs eyeKept
  have hkept : ∀ {g l : Nat} {t : State},
      (∀ f : FRef, f.addr = A.LN_EYE_CTRL g l → 1 ≤ f.lsb → t.get f = s.get f) → eyeKept g l t :=
    fun h => ⟨h _ rfl (Nat.le_of_ble_eq_true rfl), h _ rfl (Nat.le_of_ble_eq_true rfl), h _ rfl (Nat.le_of_ble_eq_true rfl),
      h _ rfl (Nat.le_of_ble_eq_true rfl)⟩
  refine ⟨fun a g l ht hm hb => ?_, fun g l errors hb => ?_, fun g l q hr => ⟨exec_qualificationDone_verdict hr, fun hv hg => ?_,
    exec_qualificationDone_verdict hr, fun hv htries htells => ?_⟩, fun g l hm ht => ?_,
    fun h pair block eyes n hr hc hf hsend hk hb hid => ?_, fun h pair => exec_pairInverted_received⟩
  · rw [exec_lnEyeStart_of_taken ht hm, State.eyeStart_of_idle hs.regs hb]
    refine ⟨fun hact => ?_, fun hact => ?_⟩
    · obtain ⟨hbusy, hstart, hresult, hsettings, hframe, hsame⟩ := State.eyeBegins_running (g := g) (l := l) hs.regs
      exact ⟨_, congrArg Host.Outcome.next (if_pos hact), hbusy, hresult _ rfl (.inl (Nat.le_of_ble_eq_true rfl)),
        hresult _ rfl (.inl (Nat.le_refl 30)), hresult _ rfl (.inr (Nat.le_refl 31)), hstart, hkept hsettings, hframe, hsame⟩
    · obtain ⟨habort, herrors, hbusy, hdone, hstart, hevt, hsettings, hframe, hsame⟩ :=
        State.eyeBegins_aborted (l := l) hs.regs g.isLt
      exact ⟨_, congrArg Host.Outcome.next (if_neg (by rw [hact]; decide)), habort, hdone, hbusy, herrors, hstart,
        hkept hsettings, hevt, hframe, hsame⟩
  · obtain ⟨herrors, hbusy, hdone, hstart, hevt, hsettings, hframe, hsame⟩ :=
      State.eyePoint_over (l := l) errors hs.regs g.isLt
    exact ⟨_, exec_eyePointDone_busy errors hb, herrors, hdone, hbusy, hstart, hkept hsettings, hevt, hframe, hsame⟩
  · obtain ⟨hqual, hstate, hadapt, heyes, hframe, hsame⟩ := State.qualPass_passed (l := l) hs.regs hg
    exact ⟨_, exec_qualificationDone_untold hr hv (State.tellsVerdict_flex l hg), hqual, hstate, hadapt, heyes, hframe, hsame⟩
  · obtain ⟨hevt, hqual, hstate, heyes, hframe, hsame⟩ := State.qualFail_failed hs.regs htries
    exact ⟨_, exec_qualificationDone_untold hr hv htells, hevt, hqual, hstate, heyes, hframe, hsame⟩
  · obtain ⟨hqual, hstate, hframe, hsame⟩ := State.setBit_retried (g := g) hs.regs l.isLt
    exact ⟨_, exec_qualRetry_due hm ht, hqual, hstate, hframe, hsame⟩
  · obtain ⟨f, hact⟩ := State.coeffAct_preset hb hid hs.regs
    obtain ⟨⟨hm1, hc0, hp1, hpreset⟩, hlink, hothers, hframe, hsame⟩ :=
      State.preset_taken (b := s.ballPair h pair) (n := n) pair.val (bitsOf block.toNat 24 4) f hs.regs (h := h.val)
    exact ⟨_, (exec_coeffRequest_preset eyes hr hc hf hsend hk).trans (congrArg Host.Outcome.next hact), hpreset, hm1, hc0, hp1,
      hlink, fun k hne => hothers k (by rwa [Nat.mod_eq_of_lt h.isLt]), hframe, hsame⟩

end Sys2Proof.Machine
end

section
/-! A turn of a pair from its evaluation to its join or abort, pairs that fail, and the send opportunities (O30). -/
namespace Sys2Proof.Machine

section
variable {s : State} {h : Hp} (hr : s.linkRuns h = true)
include hr

/-- Where the port's link runs, a command of the link acts. -/
theorem State.onLink_of_runs (f : State → State) : s.onLink h f = .next (f s) :=
  congrArg Host.Outcome.next (if_pos hr)

/-! ### SPLIT_EVALUATION (R250, R320) -/

theorem State.awake_of_linkRuns : s.awake = true := by
  simp only [State.linkRuns, Bool.and_eq_true] at hr
  exact hr.1.1

theorem State.inForce_of_linkRuns : s.inForce = true := by
  simp only [State.linkRuns, Bool.and_eq_true] at hr
  exact hr.1.2

/-- With the link ACTIVE on all four pairs the split registers are written, and a turn is requested towards the target. -/
theorem exec_splitEvaluation_active (ha : s.cvState h = L.active) (hw : width4 (s.upMask h) + width4 (s.downMask h) = 4) :
    exec (.splitEvaluation h) s = .next (
      let v := (s.advanceTo (s.tick * 125000 + 50000)).splitRegs h
      let t := v.get (F.PORT_SPLIT_h_TARGET h)
      let cur := width4 (s.upMask h)
      let pair := (((List.range 4).filter (fun l => bitAt (if t < cur then s.upMask h else s.downMask h) l)).getLast?).getD 0
      if t = cur ∨ t = 0 ∨ (v.link h).turn.isSome = true ∨ v.setsValid h pair = false then v
      else v.requestTurn h pair (if t < cur then 0 else 1) false (v.tick + 1)) := by
  have hup : (s.advanceTo (s.tick * 125000 + 50000)).upMask h = s.upMask h := State.get_advanceTo _ _ _
  have hdown : (s.advanceTo (s.tick * 125000 + 50000)).downMask h = s.downMask h := State.get_advanceTo _ _ _
  have hcv : (s.advanceTo (s.tick * 125000 + 50000)).cvState h = L.active := (State.get_advanceTo _ _ _).trans ha
  show execSplitEvaluation h s = _
  unfold execSplitEvaluation
  simp [State.awake_of_linkRuns hr, State.inForce_of_linkRuns hr, ha, isUpState, hup, hdown, hcv, hw, or_assoc]

/-! ### A pending turn (R251 to R254) -/

section
variable {t : Turn} (ht : (s.link h).turn = some t)
include ht

/-- The host's ACK that names the pending turn acknowledges it. -/
theorem exec_turnAck_named {b : BitVec 64} (hs : t.started = false) (hc : t.cancelled = false)
    (hkind : bitsOf b.toNat 8 2 = 1) (hpair : bitsOf b.toNat 10 2 = t.pair) (htick : bitsOf b.toNat 16 48 = t.tick % 2 ^ 48) :
    exec (.turnAck h b) s = .next (s.modLink h (fun l => { l with turn := some { t with acked := true } })) := by
  show execTurnAck h b s = _
  unfold execTurnAck
  rw [State.onLink_of_runs hr]
  simp only [ht, hs, hc, hkind, hpair, htick]
  rfl

/-- A turn that nothing has settled is cancelled. -/
theorem exec_turnCancel_open (ha : t.acked = false) (hs : t.started = false) (hc : t.cancelled = false) :
    exec (.turnCancel h) s = .next (s.cancelTurn h t) := by
  show execTurnCancel h s = _
  unfold execTurnCancel
  rw [State.onLink_of_runs hr]
  simp only [ht, ha, hs, hc]
  rfl

variable (hs : t.started = true)
include hs

/-- Idle seen on a turning pair for the first time. -/
theorem exec_turnIdleDetected_first (hi : t.idleSeen = false) :
    exec (.turnIdleDetected h) s = .next (
      let u := (s.modLink h (fun l => { l with turn := some { t with idleSeen := true } })).put
        (F.LN_STATUS_DIR h (s.ballPair h t.pair)) t.dir
      if t.dir = 1 then (u.loadTx h (u.ballPair h t.pair)).sendTrain h t.pair t.pair 5 0 else u) := by
  show execTurnIdleDetected h s = _
  unfold execTurnIdleDetected
  rw [State.onLink_of_runs hr]
  simp only [ht, hs, hi]
  rfl

theorem exec_turnAbort_started : exec (.turnAbort h) s = .next (s.turnAborted h t) := by
  show execTurnAbort h s = _
  unfold execTurnAbort
  rw [State.onLink_of_runs hr]
  simp only [ht, hs]
  rfl

end

end

/-- The host's side of a turn is ready to join: idle seen on a pair towards UP, the stored alignment confirmed by the received headers
on one towards DOWN (R226, R253). -/
def State.turnConfirmed (s : State) (h : Nat) (t : Turn) (hd : List (BitVec 2)) : Bool :=
  if t.dir = 1 then t.idleSeen else s.regaining h t.pair && regains (s.fecOn h) (vAt (s.link h).rx.place t.pair) hd

theorem State.turnConfirmed_eq_true {s : State} {h : Nat} {t : Turn} {hd : List (BitVec 2)} :
    s.turnConfirmed h t hd = true ↔ (t.dir = 1 ∧ t.idleSeen = true)
      ∨ (t.dir ≠ 1 ∧ s.regaining h t.pair = true ∧ regains (s.fecOn h) (vAt (s.link h).rx.place t.pair) hd = true) := by
  by_cases hdir : t.dir = 1 <;> simp [State.turnConfirmed, hdir]

theorem State.turnConfirmed_eq_false {s : State} {h : Nat} {t : Turn} {hd : List (BitVec 2)} :
    s.turnConfirmed h t hd = false ↔ (t.dir = 1 ∧ t.idleSeen = false)
      ∨ (t.dir ≠ 1 ∧ ¬ (s.regaining h t.pair = true ∧ regains (s.fecOn h) (vAt (s.link h).rx.place t.pair) hd = true)) := by
  by_cases hdir : t.dir = 1 <;> simp [State.turnConfirmed, hdir]

/-- A pair joins its stripe at J, after `n` more TURN_SYNC blocks towards UP (R253). -/
def State.turnJoins (s : State) (h : Nat) (t : Turn) (n : Nat) : State :=
  if t.dir = 1 then (s.each (List.range n) (fun s _ => s.sendTrain h t.pair t.pair 5 0)).joinUp h t.pair
  else ((s.setMasks h (s.upMask h) (s.downMask h ||| 2 ^ t.pair)).regain h t.pair).modLink h
    (fun l => { l with aligned := l.aligned ||| 2 ^ t.pair })

/-- What a joined turn leaves of its pair and of the port: the pair's direction, its state ACTIVE, and the turn over and counted. -/
def State.turnCounted (s : State) (h b : Nat) (t : Turn) : State :=
  ((((s.put (F.LN_STATUS_DIR h b) t.dir).put (F.LN_STATUS_STATE h b) 3).put (F.LN_RXEQ_ADAPTING h b) (1 - t.dir)).bump
    (F.CV_TURNS_DONE h) 1).modLink h (fun l => { l with
      turn := none, reEq := vPut l.reEq t.pair 0, qualified := l.qualified &&& (15 - 2 ^ t.pair) })

section
variable {s : State} {h : Hp}

/-- What a turn joined at J leaves, from the state at J: a rejoined pair is failed no more, another turn changes the split, and
the link is up (R253, R257, R261). -/
def State.turnEnds (w : State) (h : Nat) (t : Turn) : State :=
  let x := if t.rejoin then (w.put (F.CV_STATUS_FAILED h) (w.failedMask h &&& (15 - 2 ^ t.pair))).widthChg h
    else w.raise 69 ⟨A.BC_EVT, 5, 1⟩
  x.setCv h (if x.failedMask h = 0 then L.active else L.degraded)

section
variable {t : Turn} {n : Nat} {hd : List (BitVec 2)} (hr : s.linkRuns h = true) (ht : (s.link h).turn = some t)
  (hs : t.started = true)
include hr ht hs

/-- A turn that may not join when J comes is aborted (R254). -/
theorem exec_turnJoin_unconfirmed (hc : s.turnConfirmed h t hd = false) :
    exec (.turnJoin h ⟨n, hd⟩) s = .next (s.turnAborted h t) := by
  unfold State.turnConfirmed at hc
  show execTurnJoin h ⟨n, hd⟩ s = _
  unfold execTurnJoin
  rw [State.onLink_of_runs hr]
  simp only [ht, hs, hc]
  rfl

/-- A confirmed turn joins its stripe at J. -/
theorem exec_turnJoin_confirmed (hc : s.turnConfirmed h t hd = true) :
    exec (.turnJoin h ⟨n, hd⟩) s = .next (
      let u := s.advanceTo (t.tick * 125000 + 1240)
      ((u.turnJoins h t n).turnCounted h (u.ballPair h t.pair) t).turnEnds h t) := by
  unfold State.turnConfirmed at hc
  show execTurnJoin h ⟨n, hd⟩ s = _
  unfold execTurnJoin
  rw [State.onLink_of_runs hr]
  simp only [ht, hs, hc]
  rfl

end

/-! ### A turn without ACK (R252) -/

/-- CANCEL goes out and counts; the turn is given up where it was the last repeat. -/
theorem State.cancelTurn_eq (t : Turn) (hw : cellsWf 0 s.regs = true) : s.cancelTurn h t = (
    let u := (s.sendOwn h (turnBlock 2 t.pair t.dir t.rejoin t.tick)).bump (F.CV_TURNS_CANCELLED h) 1
    if bitsOf (s.get (F.CV_CFG1_W h)) 24 4 < (s.link h).turnTries + 1 then
      (u.modLink h (fun l => { l with turn := none, turnTries := 0 })).raise (19 + 8 * h) (F.CV_EVT_TURN_FAIL h)
    else u.modLink h (fun l => { l with turn := some { t with cancelled := true }, turnTries := (s.link h).turnTries + 1 })) := by
  have a : s.SendsOnly _ h := State.sendOwn_sends (turnBlock 2 t.pair t.dir t.rejoin t.tick)
  have hwa : cellsWf 0 (s.sendOwn h (turnBlock 2 t.pair t.dir t.rejoin t.tick)).regs = true := by rwa [a.same]
  have hne : (F.CV_CFG1_W h).addr ≠ (F.CV_TURNS_CANCELLED h).addr := by
    simp [F.CV_CFG1_W, F.CV_TURNS_CANCELLED, A.CV_CFG1, A.CV_TURNS]
  have hcfg := (State.get_bump_ne _ (F.CV_CFG1_W h) 1 hwa hne).trans (a.get _)
  have htries : (((s.sendOwn h (turnBlock 2 t.pair t.dir t.rejoin t.tick)).bump (F.CV_TURNS_CANCELLED h) 1).link h).turnTries
      = (s.link h).turnTries := (congrArg Link.turnTries a.link :)
  unfold State.cancelTurn
  dsimp only
  rw [hcfg, htries]
  rfl

/-! ### Pairs that fail (R255), and the send opportunities (R307) -/

theorem exec_pairFailed_good {pair : Fin 4} (hr : s.linkRuns h = true) (hu : isUpState (s.cvState h) = true)
    (hf : bitAt (s.failedMask h) pair = false) : exec (.pairFailed h pair) s = .next (s.dropPair h pair true) :=
  (State.onLink_of_runs hr _).trans (congrArg Host.Outcome.next (if_pos (by simp [hu, hf])))

theorem exec_turnDrop_good {b : BitVec 64} (hr : s.linkRuns h = true) (hu : isUpState (s.cvState h) = true)
    (hf : bitAt (s.failedMask h) (bitsOf b.toNat 10 2) = false) :
    exec (.turnDrop h b) s = .next (s.dropPair h (bitsOf b.toNat 10 2) false) :=
  (State.onLink_of_runs hr _).trans (congrArg Host.Outcome.next (if_pos (by simp [hu, hf])))

/-- The engine that a stream's send opportunity belongs to. -/
theorem exec_sendOpportunity (k : Fin 36) : exec (.sendOpportunity k) s = .next (if k.val < 4 then s.sendUp k
    else if k.val < 8 then s.sendDown (k.val - 4)
    else if k.val < 16 then s.sendSwitch (k.val - 8)
    else s.fieldStart (k.val - 16) true 16) := rfl

end

/-- Settles O30: the evaluation, and the pending turn's acknowledgement, cancel, idle, abort and join, each by the lemma of its command;
whether a turn joins or is aborted turns on what the other side has confirmed. -/
theorem turns : Obligations.Turns := by
  intro s h hs hr
  refine ⟨exec_splitEvaluation_active hr, fun t b ht hst hc => exec_turnAck_named hr ht hst hc, fun t ht ha hst hc => ?_,
    fun t ht hst => ⟨exec_turnIdleDetected_first hr ht hst, exec_turnAbort_started hr ht hst,
      fun n hd => ⟨fun hno => ?_, fun hyes => ?_⟩⟩,
    fun hu => ⟨fun pair => exec_pairFailed_good hr hu, fun b => exec_turnDrop_good hr hu⟩, fun k => ?_⟩
  · rw [exec_turnCancel_open hr ht ha hst hc, State.cancelTurn_eq t hs.regs]
    exact ⟨fun hle => congrArg Host.Outcome.next (if_neg (Nat.not_lt.2 hle)),
      fun hlt => congrArg Host.Outcome.next (if_pos hlt)⟩
  · exact exec_turnJoin_unconfirmed hr ht hst (State.turnConfirmed_eq_false.2 hno)
  · exact exec_turnJoin_confirmed hr ht hst (State.turnConfirmed_eq_true.2 hyes)
  · rw [exec_sendOpportunity]
    refine ⟨fun h4 => ?_, fun h4 h8 => ?_, fun h8 h16 => ?_, fun h16 => ?_⟩
    · rw [if_pos h4]
    · rw [if_neg (by omega), if_pos h8]
    · rw [if_neg (by omega), if_neg (by omega), if_pos h16]
    · rw [if_neg (by omega), if_neg (by omega), if_neg (by omega)]

end Sys2Proof.Machine
end

section
/-! What each training state's timeout does, and the relock of a link in RECOVERY (O28). -/
namespace Sys2Proof.Machine

/-- Where the port's link runs, a command of the link takes it where its action does. -/
theorem State.onLink_acts {s t : State} {h : Hp} {f : State → State} (hr : s.linkRuns h = true) (hf : f s = t) :
    s.onLink h f = .next t :=
  (State.onLink_of_runs hr f).trans (congrArg Host.Outcome.next hf)

/-- Each direction keeps the width it needs (R248). -/
theorem State.widthOk_iff {s : State} {h up down : Nat} :
    s.widthOk h up down = true ↔ s.minWidth h 1 ≤ width4 up ∧ s.minWidth h 0 ≤ width4 down := by
  simp [State.widthOk]

/-- A link in RECOVERY has its stripe back: every pair of the DOWN stripe is locked and aligned, at a valid stored set (R248). -/
def State.stripeBack (s : State) (h : Nat) : Bool :=
  ((s.link h).blockLock &&& (s.link h).aligned &&& s.downMask h) == s.downMask h
    && (pairsIn (s.downMask h)).all (fun p => s.flag (F.LN_STATUS_DOWN_VALID h (s.ballPair h p)))

section
variable {s : State} {h : Nat}

theorem State.stripeBack_of_valid (hl : (s.link h).blockLock &&& (s.link h).aligned &&& s.downMask h = s.downMask h)
    (hv : ∀ p ∈ pairsIn (s.downMask h), s.get (F.LN_STATUS_DOWN_VALID h (s.ballPair h p)) = 1) : s.stripeBack h = true := by
  simp only [State.stripeBack, hl, beq_self_eq_true, Bool.true_and, List.all_eq_true]
  exact fun p hp => State.flag_of_one (hv p hp)

theorem State.not_stripeBack (hb : (s.link h).blockLock &&& (s.link h).aligned &&& s.downMask h ≠ s.downMask h
    ∨ ∃ p ∈ pairsIn (s.downMask h), s.get (F.LN_STATUS_DOWN_VALID h (s.ballPair h p)) = 0) : s.stripeBack h = false := by
  rcases hb with hl | ⟨p, hp, h0⟩
  · simp [State.stripeBack, hl]
  · have hall : (pairsIn (s.downMask h)).all (fun p => s.flag (F.LN_STATUS_DOWN_VALID h (s.ballPair h p))) = false :=
      List.all_eq_false.2 ⟨p, hp, by simp [State.flag_of_zero h0]⟩
    simp only [State.stripeBack, hall, Bool.and_false]

end

section
variable {s : State} {h : Hp} (hr : s.linkRuns h = true)
include hr

theorem exec_refTimeout_ref (hc : s.cvState h = L.ref) : exec (.refTimeout h) s
    = .next ((((s.raise (20 + 8 * h) (F.CV_EVT_REF_FAIL h)).refFail h).refOff h).linkDetect h) := by
  show execRefTimeout h s = _
  exact State.onLink_acts hr (if_neg (not_not.2 hc))

theorem exec_speedTimeout_speed (hc : s.cvState h = L.speed) : exec (.speedTimeout h) s
    = .next (if ((s.refFail h).link h).refFails < 3 then (s.refFail h).linkRef h
      else (((s.refFail h).raise (20 + 8 * h) (F.CV_EVT_REF_FAIL h)).refOff h).linkDetect h) := by
  show execSpeedTimeout h s = _
  exact State.onLink_acts hr (if_neg (not_not.2 hc))

theorem exec_eqTimeout_eq (hc : s.cvState h = L.eq) : exec (.eqTimeout h) s = .next (s.lowerGear h) :=
  State.onLink_acts hr (if_pos hc)

theorem exec_fecTimeout_fec (hc : s.cvState h = L.fec) : exec (.fecTimeout h) s = .next (s.lowerGear h) :=
  State.onLink_acts hr (if_pos hc)

/-- BLOCK ends without the pairs that have no lock or no marker, or the gear is lowered where too few are left. -/
theorem exec_blockTimeout_block (hc : s.cvState h = L.block) : exec (.blockTimeout h) s = .next (
    let u := s.each (pairsIn (s.rxMask h)) (fun s l =>
      if bitAt ((s.link h).blockLock &&& ((s.link h).aligned ||| (s.link h).rx.got)) l then s else s.markFailed h l)
    if u.minWidth h 1 ≤ width4 (u.txMask h) ∧ u.minWidth h 0 ≤ width4 (u.rxMask h) then
      (u.modLink h (fun l => { l with aligned := l.aligned ||| l.rx.got })).tryBlock h
    else u.lowerGear h) := by
  show execBlockTimeout h s = _
  exact State.onLink_acts hr ((if_neg (not_not.2 hc)).trans (if_congr State.widthOk_iff rfl rfl))

/-- The link resumes where its stripe is back. -/
theorem exec_recoveryRelock_recovery (hc : s.cvState h = L.recovery) :
    exec (.recoveryRelock h) s = .next (if s.stripeBack h then s.relocked h else s) := by
  refine State.onLink_acts hr (if_congr ?_ rfl rfl)
  simp only [State.stripeBack, hc, decide_true, Bool.true_and]

theorem exec_recoveryTimeout_recovery (hc : s.cvState h = L.recovery) : exec (.recoveryTimeout h) s
    = .next ((s.each (pairsIn (s.downMask h &&& (15 - ((s.link h).blockLock &&& (s.link h).aligned))))
        (fun s l => (s.markFailed h l).widthChg h)).linkSpeed h) := by
  show execRecoveryTimeout h s = _
  exact State.onLink_acts hr (if_neg (not_not.2 hc))

end

/-- Settles O28: each timeout acts in its own state, by the lemma of its command; the relock turns on whether the stripe is back. -/
theorem linkTimeouts : Obligations.LinkTimeouts := by
  intro s h _ hr
  refine ⟨exec_refTimeout_ref hr, exec_speedTimeout_speed hr, exec_eqTimeout_eq hr, exec_fecTimeout_fec hr,
    exec_blockTimeout_block hr, fun hc => ⟨fun hl hv => ?_, fun hb => ?_, exec_recoveryTimeout_recovery hr hc⟩⟩
  · rw [exec_recoveryRelock_recovery hr hc, if_pos (State.stripeBack_of_valid hl hv)]
  · rw [exec_recoveryRelock_recovery hr hc, State.not_stripeBack hb]
    rfl

end Sys2Proof.Machine
end

section
/-! Block, codeword and alignment locks of a port's pairs, and unknown control blocks (O27). -/
namespace Sys2Proof.Machine

theorem cvStatus_ne_cvLockLoss (h : Nat) : A.CV_STATUS h ≠ A.CV_LOCK_LOSS h := by
  unfold A.CV_STATUS A.CV_LOCK_LOSS
  omega

theorem cvStatus_ne_cvUnknownCtl (h : Nat) : A.CV_STATUS h ≠ A.CV_UNKNOWN_CTL h := by
  unfold A.CV_STATUS A.CV_UNKNOWN_CTL
  omega

/-! ### A pair loses its lock (R222, R224) -/

section
variable {s : State} {h : Nat}

/-- A pair that lost its lock: the loss counted, and its locks, its alignment and its mark in the present group gone. -/
def State.lockCleared (s : State) (h p : Nat) : State :=
  (s.bump (F.CV_LOCK_LOSS_COUNT h) 1).modLink h (fun l => { l with
    blockLock := l.blockLock &&& (15 - 2 ^ p), cwLock := l.cwLock &&& (15 - 2 ^ p),
    aligned := l.aligned &&& (15 - 2 ^ p), rx := { l.rx with got := l.rx.got &&& (15 - 2 ^ p) } })

theorem State.get_lockCleared_status (p : Nat) (g : FRef) (hw : cellsWf 0 s.regs = true) (hg : g.addr = A.CV_STATUS h) :
    (s.lockCleared h p).get g = s.get g :=
  State.get_bump_ne (F.CV_LOCK_LOSS_COUNT h) g 1 hw (hg ▸ cvStatus_ne_cvLockLoss h)

theorem State.blockLock_lockCleared (p : Nat) :
    ((s.lockCleared h p).link h).blockLock = (s.link h).blockLock &&& (15 - 2 ^ p) := by
  unfold State.lockCleared
  rw [State.link_modLink]
  rfl

/-- A lock loss takes a link that is up to RECOVERY where no pair of the DOWN stripe keeps its lock, and else clears the pair alone. -/
theorem State.lockLost_eq (p : Nat) (hw : cellsWf 0 s.regs = true) : s.lockLost h p
    = if isUpState (s.cvState h) = true ∧ (s.link h).blockLock &&& (15 - 2 ^ p) &&& s.downMask h = 0
      then (s.lockCleared h p).linkRecovery h else s.lockCleared h p := by
  have hcv : (s.lockCleared h p).cvState h = s.cvState h := State.get_lockCleared_status p _ hw rfl
  have hdown : (s.lockCleared h p).downMask h = s.downMask h := State.get_lockCleared_status p _ hw rfl
  show (if isUpState ((s.lockCleared h p).cvState h)
    && (((s.lockCleared h p).link h).blockLock &&& (s.lockCleared h p).downMask h) == 0 then _ else _) = _
  rw [hcv, hdown, State.blockLock_lockCleared]
  exact if_congr (by rw [Bool.and_eq_true, beq_iff_eq]) rfl rfl

end

section
variable {s : State} {h : Hp} {pair : Fin 4} {hd : List (BitVec 2)}

theorem State.listens_of_runs (h2 : 2 ≤ s.cvState h) (hr : s.linkRuns h = true) : s.listens h = true := by
  simp [State.listens, h2, hr]

/-- A known type has no effect (R216). -/
theorem exec_controlBlockUnknown_known {b : BitVec 64} (inPacket : Bool) (hk : knownType (blkType ⟨0b10, b⟩) = true) :
    exec (.controlBlockUnknown h ⟨b, inPacket⟩) s = .next s :=
  congrArg Host.Outcome.next (if_pos (by rw [hk, Bool.or_true]))

variable (hl : s.listens h = true)
include hl

/-! ### Locks found and lost (R222, R223) -/

/-- Headers that lock a pair. -/
theorem exec_blockLockAcquired_locked {f : Nat} (hn : s.regaining h pair = false)
    (hf : huntLock (s.fecOn h) (vAt (s.link h).rx.phase pair) hd = some f) :
    exec (.blockLockAcquired h ⟨pair, hd⟩) s = .next ((s.modLink h (fun l => { l with
      blockLock := l.blockLock ||| 2 ^ pair.val, rx := { l.rx with phase := vPut l.rx.phase pair f } })).tryBlock h) := by
  show execBlockLockAcquired h ⟨pair, hd⟩ s = _
  unfold execBlockLockAcquired
  simp only [hl, hn, hf]
  rfl

theorem exec_blockLockAcquired_hunting (hn : s.regaining h pair = false)
    (hf : huntLock (s.fecOn h) (vAt (s.link h).rx.phase pair) hd = none) :
    exec (.blockLockAcquired h ⟨pair, hd⟩) s = .next s := by
  show execBlockLockAcquired h ⟨pair, hd⟩ s = _
  unfold execBlockLockAcquired
  simp only [hl, hn, hf]
  rfl

/-- A regained pair is locked at its stored place or not at all. -/
theorem exec_blockLockAcquired_regaining (hn : s.regaining h pair = true) :
    exec (.blockLockAcquired h ⟨pair, hd⟩) s
      = .next (if regains (s.fecOn h) (vAt (s.link h).rx.place pair) hd then s.regain h pair else s) := by
  show execBlockLockAcquired h ⟨pair, hd⟩ s = _
  unfold execBlockLockAcquired
  simp only [hl, hn]
  rfl

theorem exec_codewordLock_found {k : Nat} (hfec : s.fecOn h = true) (hk : cwFound hd = some k) :
    exec (.codewordLock h ⟨pair, hd⟩) s = .next ((s.modLink h (fun l => { l with
      cwLock := l.cwLock ||| 2 ^ pair.val, rx := { l.rx with place := vPut l.rx.place pair k } })).tryFec h) := by
  show execCodewordLock h ⟨pair, hd⟩ s = _
  unfold execCodewordLock
  simp only [hl, hfec, hk]
  rfl

theorem exec_blockLockLost_gone (hg : lockGone (s.fecOn h) hd = true) :
    exec (.blockLockLost h ⟨pair, hd⟩) s = .next (s.lockLost h pair) :=
  congrArg Host.Outcome.next (if_pos (by simp [hl, hg]))

theorem exec_codewordLockLost_gone (hfec : s.fecOn h = true) (hg : cwGone hd (vAt (s.link h).rx.place pair) = true) :
    exec (.codewordLockLost h ⟨pair, hd⟩) s = .next (s.lockLost h pair) :=
  congrArg Host.Outcome.next (if_pos (by simp [hl, hfec, hg]))

/-! ### Alignment markers (R225, R226) -/

section
variable {b : BitVec 64} {skew pos : Nat}

theorem exec_alignMarker_plain (hj : bitAt b.toNat 15 = false) :
    exec (.alignMarker h pair ⟨b, skew, pos⟩) s = .next (s.markerTaken h pair (bitsOf b.toNat 16 48) skew) := by
  show execAlignMarker h pair ⟨b, skew, pos⟩ s = _
  unfold execAlignMarker
  simp only [hl, hj]
  rfl

theorem exec_alignMarker_join (hj : bitAt b.toNat 15 = true) :
    exec (.alignMarker h pair ⟨b, skew, pos⟩) s = .next (s.joinTaken h pair ⟨b, skew, pos⟩) := by
  show execAlignMarker h pair ⟨b, skew, pos⟩ s = _
  unfold execAlignMarker
  simp only [hl, hj]
  rfl

end

/-! ### Unknown control blocks (R216, R230) -/

/-- A block of an unknown type counts; inside a packet of a link that is up it breaks the framing too. -/
theorem exec_controlBlockUnknown_unknown {b : BitVec 64} (inPacket : Bool) (hw : cellsWf 0 s.regs = true)
    (hk : knownType (blkType ⟨0b10, b⟩) = false) : exec (.controlBlockUnknown h ⟨b, inPacket⟩) s = .next (
      let u := s.bump (F.CV_UNKNOWN_CTL_COUNT h) 1
      if inPacket && isUpState (s.cvState h) then (u.raise (18 + 8 * h) (F.CV_EVT_PROTOCOL h)).sendNak h 4 else u) := by
  have hcv : (s.bump (F.CV_UNKNOWN_CTL_COUNT h) 1).cvState h = s.cvState h :=
    State.get_bump_ne (F.CV_UNKNOWN_CTL_COUNT h) (F.CV_STATUS_STATE h) 1 hw (cvStatus_ne_cvUnknownCtl h)
  show execControlBlockUnknown h ⟨b, inPacket⟩ s = _
  unfold execControlBlockUnknown
  simp only [hl, hk, hcv]
  rfl

end

section
variable {s : State} {h p m skew : Nat}

/-- A marker that begins a group or agrees with its group's is taken. -/
theorem State.markerTaken_of_agree (ha : (s.link h).marker = none ∨ 8 < skew ∨ (s.link h).marker = some m) :
    s.markerTaken h p m skew = (
      let got := (if (s.link h).marker = none ∨ 8 < skew then 0 else (s.link h).rx.got) ||| 2 ^ p
      (s.modLink h (fun l => { l with
        marker := some m, rx := { l.rx with got := got },
        aligned := if got &&& s.rxMask h = s.rxMask h then l.aligned ||| got else l.aligned })).tryBlock h) := by
  unfold State.markerTaken
  have hno : (!((s.link h).marker.isNone || decide (8 < skew)) && (s.link h).marker != some m) = false := by
    rcases ha with h0 | h8 | hm
    · simp [h0]
    · simp [h8]
    · simp [hm]
  simp only [hno, Bool.or_eq_true, Option.isNone_iff_eq_none, decide_eq_true_eq, beq_iff_eq]
  rfl

theorem State.markerTaken_of_disagree (h0 : (s.link h).marker ≠ none) (h8 : skew ≤ 8) (hm : (s.link h).marker ≠ some m) :
    s.markerTaken h p m skew = s.lockLost h p :=
  if_pos (by simp [Option.isSome_iff_ne_none, h0, h8, hm])

end

section
variable {s : State} {h p : Nat} {t : Turn} {a : MarkerIn}

/-- A JOIN marker on the pair that turns to DOWN, with the group's COUNT at its position, aligns the pair. -/
theorem State.joinTaken_of_agree {m : Nat} (ht : (s.link h).turn = some t) (hs : t.started = true) (hp : t.pair = p) (hd : t.dir = 0)
    (hm : (s.link h).marker = some m) (hcount : m % 2 ^ 32 = bitsOf a.block.toNat 16 32)
    (hpos : bitsOf a.block.toNat 48 16 = a.pos) :
    s.joinTaken h p a = s.modLink h (fun l => { l with aligned := l.aligned ||| 2 ^ p }) := by
  unfold State.joinTaken
  simp only [ht, hs, hp, hd, hm, hpos, Option.any_some, hcount, beq_self_eq_true, bne_self_eq_false]
  rfl

theorem State.joinTaken_of_other_pair (hno : ∀ t : Turn, (s.link h).turn = some t → t.pair ≠ p) : s.joinTaken h p a = s := by
  unfold State.joinTaken
  dsimp only
  split
  · next t ht => exact if_pos (by simp [hno t ht])
  · rfl

end

theorem not_not_isUpState {st : Nat} (hu : isUpState st = true) : ¬ (!isUpState st) = true := by simp [hu]

/-! ### RECOVER blocks (R248) -/

theorem exec_recoverBlock_up {s : State} {h : Hp} (pair : Fin 4) (hr : s.linkRuns h = true) (hu : isUpState (s.cvState h) = true) :
    exec (.recoverBlock h pair) s = .next (
      let u := s.modLink h (fun l => { l with recovering := l.recovering ||| 2 ^ pair.val })
      if ((s.link h).recovering ||| 2 ^ pair.val) &&& s.downMask h = s.downMask h then u.linkRecovery h else u) := by
  show execRecoverBlock h pair s = _
  refine State.onLink_acts hr ((if_neg (not_not_isUpState hu)).trans (if_congr ?_ rfl rfl))
  rw [beq_iff_eq, State.link_modLink]
  rfl

/-- Settles O27: each lock is found or lost by the lemma of its command, a marker is taken or disagrees, and what a lock loss and an
unknown block set going turns on whether the link is up. -/
theorem linkLocks : Obligations.LinkLocks := by
  intro s h pair hd hs h2 hr
  have hl : s.listens h = true := State.listens_of_runs h2 hr
  refine ⟨fun hn f hf => exec_blockLockAcquired_locked hl hn hf, exec_blockLockAcquired_hunting hl,
    fun hn => ?_, fun hfec k hk => exec_codewordLock_found hl hfec hk, ?_, fun b skew pos hj => ⟨fun ha => ?_, fun h0 h8 hm => ?_⟩,
    fun b skew pos hj => ⟨fun t m ht hst hp hdir hm hcount hpos => ?_, fun hno => ?_⟩, fun hu => ?_,
    fun b hk => ⟨exec_controlBlockUnknown_unknown hl false hs.regs hk, fun hu => ?_⟩,
    fun b inPacket => exec_controlBlockUnknown_known inPacket⟩
  · rw [exec_blockLockAcquired_regaining hl hn]
    exact ⟨fun hy => by rw [if_pos hy]; rfl, fun hy => by rw [hy]; rfl⟩
  · have hlost := State.lockLost_eq (h := h) pair.val hs.regs
    refine ⟨fun hu hk => ?_, fun hu h0 => ?_⟩
    · have hcleared : s.lockLost h pair = s.lockCleared h pair := hlost.trans (if_neg (fun hc => hk hc.2))
      exact ⟨fun hg => (exec_blockLockLost_gone hl hg).trans (congrArg _ hcleared),
        fun hfec hg => (exec_codewordLockLost_gone hl hfec hg).trans (congrArg _ hcleared)⟩
    · have hrec : s.lockLost h pair = (s.lockCleared h pair).linkRecovery h := hlost.trans (if_pos ⟨hu, h0⟩)
      exact ⟨fun hg => (exec_blockLockLost_gone hl hg).trans (congrArg _ hrec),
        fun hfec hg => (exec_codewordLockLost_gone hl hfec hg).trans (congrArg _ hrec)⟩
  · exact (exec_alignMarker_plain hl hj).trans (congrArg _ (State.markerTaken_of_agree ha))
  · exact (exec_alignMarker_plain hl hj).trans (congrArg _ (State.markerTaken_of_disagree h0 h8 hm))
  · exact (exec_alignMarker_join hl hj).trans (congrArg _
      (State.joinTaken_of_agree ht hst hp hdir hm hcount hpos))
  · exact (exec_alignMarker_join hl hj).trans (congrArg _ (State.joinTaken_of_other_pair fun t ht => hno t ht))
  · rw [exec_recoverBlock_up pair hr hu]
    exact ⟨fun hne => congrArg _ (if_neg hne), fun he => congrArg _ (if_pos he)⟩
  · exact (exec_controlBlockUnknown_unknown hl true hs.regs hk).trans (congrArg _ (if_pos (by simp [hu])))

end Sys2Proof.Machine
end

section
/-! A packet's codewords and what it comes to, acknowledgements, replays and credits (O29). -/
namespace Sys2Proof.Machine

theorem cvEvt_ne_evtRise (h : Fin 4) : A.CV_EVT h ≠ A.EVT_RISE_s (18 + 8 * h) := by
  have := h.isLt
  unfold A.CV_EVT A.EVT_RISE_s
  omega

/-! ### Codewords (R221) -/

/-- Registers that a received codeword can change. -/
def cwRegs (h : Nat) : List Nat := [A.CV_CORR_SYM h, A.CV_UNCORR h, A.CV_EVT h, A.EVT_RISE_s (18 + 8 * h)]

theorem cvStatus_notMem_cwRegs (h : Fin 4) : A.CV_STATUS h ∉ cwRegs h := by
  have := h.isLt
  simp only [cwRegs, A.CV_STATUS, A.CV_CORR_SYM, A.CV_UNCORR, A.CV_EVT, A.EVT_RISE_s, List.mem_cons, List.not_mem_nil,
    or_false, not_or]
  omega

section
variable {s : State} {h : Nat} {c : CwIn}

/-- A codeword noted as correctable or not in its pair's tail (R221). -/
def State.tailNoted (s : State) (h : Nat) (c : CwIn) : State :=
  s.modLink h (fun l => { l with rx := { l.rx with
    tailBad := (l.rx.tailBad &&& (15 - 2 ^ c.pair.val)) ||| (if !cwCorrects c.errors then 2 ^ c.pair.val else 0) } })

theorem State.cwTaken_of_corrected (hc : c.errors ≤ 16) :
    s.cwTaken h c = (s.tailNoted h c).bump (F.CV_CORR_SYM_COUNT h) c.errors :=
  if_pos (decide_eq_true hc)

theorem State.cwTaken_of_uncorrectable (hc : 16 < c.errors) :
    s.cwTaken h c = ((s.tailNoted h c).bump (F.CV_UNCORR_COUNT h) 1).raise (18 + 8 * h) (F.CV_EVT_UNCORR h) :=
  if_neg (by simp [cwCorrects, hc])

variable (hw : cellsWf 0 s.regs = true)
include hw

/-- A codeword changes its counters and its event. -/
theorem State.cwTaken_regs (c : CwIn) : cellsWf 0 (s.cwTaken h c).regs = true ∧ s.SameRegs (s.cwTaken h c) (cwRegs h) := by
  rcases Nat.lt_or_ge 16 c.errors with hc | hc
  · rw [State.cwTaken_of_uncorrectable hc]
    have hb := State.bump_wf (s := s.tailNoted h c) (F.CV_UNCORR_COUNT h) 1 hw
    refine ⟨State.raise_wf _ _ hb, fun g hg => ?_⟩
    simp only [cwRegs, List.mem_cons, not_or] at hg
    obtain ⟨-, hu, he, hr, -⟩ := hg
    rw [State.get_raise_ne _ _ g hb he hr]
    exact State.get_bump_ne (F.CV_UNCORR_COUNT h) g 1 hw hu
  · rw [State.cwTaken_of_corrected hc]
    refine ⟨State.bump_wf (s := s.tailNoted h c) _ _ hw, fun g hg => ?_⟩
    exact State.get_bump_ne (F.CV_CORR_SYM_COUNT h) g _ hw (List.ne_of_not_mem_cons hg)

theorem State.cwsTaken_regs (cws : List CwIn) : cellsWf 0 (cws.foldl (fun s c => s.cwTaken h c) s).regs = true
    ∧ s.SameRegs (cws.foldl (fun s c => s.cwTaken h c) s) (cwRegs h) := by
  refine foldl_inv (fun t : State => cellsWf 0 t.regs = true ∧ s.SameRegs t (cwRegs h)) _ (fun t c ht => ?_) cws s
    ⟨hw, fun _ _ => rfl⟩
  obtain ⟨hwt, hst⟩ := ht
  obtain ⟨hwc, hsc⟩ := State.cwTaken_regs (h := h) hwt c
  exact ⟨hwc, fun g hg => (hsc g hg).trans (hst g hg)⟩

theorem State.get_cwTaken_corrected (hc : c.errors ≤ 16) :
    (s.cwTaken h c).get (F.CV_CORR_SYM_COUNT h) = satAdd 32 (s.get (F.CV_CORR_SYM_COUNT h)) c.errors := by
  rw [State.cwTaken_of_corrected hc]
  exact (State.get_put_same (s := s.tailNoted h c) (F.CV_CORR_SYM_COUNT h) _ hw (Nat.le_of_ble_eq_true rfl)).trans
    (Nat.mod_eq_of_lt (satAdd_lt 32 _ _))

end

/-- An uncorrectable codeword counts and raises UNCORR. -/
theorem State.get_cwTaken_uncorrectable {s : State} {h : Hp} {c : CwIn} (hw : cellsWf 0 s.regs = true) (hc : 16 < c.errors) :
    (s.cwTaken h c).get (F.CV_UNCORR_COUNT h) = satAdd 32 (s.get (F.CV_UNCORR_COUNT h)) 1
      ∧ (s.cwTaken h c).get (F.CV_EVT_UNCORR h) = 1 := by
  have hb := State.bump_wf (s := s.tailNoted h c) (F.CV_UNCORR_COUNT h) 1 hw
  have he : A.CV_UNCORR h ≠ A.CV_EVT h := by
    unfold A.CV_UNCORR A.CV_EVT
    omega
  have hrise : A.CV_UNCORR h ≠ A.EVT_RISE_s (18 + 8 * h) := by
    have := h.isLt
    unfold A.CV_UNCORR A.EVT_RISE_s
    omega
  rw [State.cwTaken_of_uncorrectable hc]
  refine ⟨?_, State.get_raise_same _ _ hb (Nat.le_of_ble_eq_true rfl) (cvEvt_ne_evtRise h)⟩
  rw [State.get_raise_ne _ (F.CV_EVT_UNCORR h) (F.CV_UNCORR_COUNT h) hb he hrise]
  exact (State.get_put_same (s := s.tailNoted h c) (F.CV_UNCORR_COUNT h) _ hw (Nat.le_of_ble_eq_true rfl)).trans
    (Nat.mod_eq_of_lt (satAdd_lt 32 _ _))

/-! ### Packets (R230, R233 to R236) -/

theorem block_le_of_isUpState {st : Nat} (hu : isUpState st = true) : L.block ≤ st := by
  simp only [isUpState, Bool.or_eq_true, beq_iff_eq] at hu
  rcases hu with (rfl | rfl) | rfl <;> decide

section
variable {s : State} {h : Nat} {got : Arrival × Packet}

/-- The expected packet is taken: the next number is expected, and the packet waits for its ACK (R233, R235). -/
def State.packetTaken (s : State) (h : Nat) : State :=
  (s.put (F.CV_SEQ_RX_EXPECT h) (s.get (F.CV_SEQ_RX_EXPECT h) + 1)).modLink h (fun l => { l with
    unacked := l.unacked + 1, nakFor := none, oldest := if l.unacked = 0 then s.clock.time else l.oldest })

theorem State.judgePacket_uncorrectable (hg : got.1 = .uncorrectable) :
    s.judgePacket h got = (s.sendNak h 1).countArrival h := by
  unfold State.judgePacket
  rw [hg]

theorem State.judgePacket_badCrc (hg : got.1 = .badCrc) :
    s.judgePacket h got = ((s.bump (F.CV_CRC_ERR_COUNT h) 1).sendNak h 2).countArrival h := by
  unfold State.judgePacket
  rw [hg]

theorem State.judgePacket_framing (hg : got.1 = .framing) :
    s.judgePacket h got = ((s.raise (18 + 8 * h) (F.CV_EVT_PROTOCOL h)).sendNak h 4).countArrival h := by
  unfold State.judgePacket
  rw [hg]

/-- A good packet by its distance from the expected number. -/
theorem State.judgePacket_good (hg : got.1 = .good) : s.judgePacket h got = (
    let d := (pktSeq got.2 + 4096 - s.get (F.CV_SEQ_RX_EXPECT h)) % 4096
    if 2048 ≤ d then s.sendAck h
    else if d ≠ 0 then (s.sendNak h 3).countArrival h
    else ((s.packetTaken h).countArrival h).rxAccept h got.2) := by
  unfold State.judgePacket
  rw [hg]
  rfl

end

section
variable {s : State} {h : Hp} (hu : isUpState (s.cvState h) = true) (hr : s.linkRuns h = true)
include hu hr

/-- On a link that is up a packet is judged after its codewords are taken. -/
theorem exec_packetReceive_up (hw : cellsWf 0 s.regs = true) (shared : BitVec 4) (cws : List CwIn) (bs : List Blk) :
    exec (.packetReceive h shared cws bs) s
      = .next ((cws.foldl (fun s c => s.cwTaken h c) s).judgePacket h (s.arrival h shared cws bs)) := by
  have hcv : (cws.foldl (fun s c => s.cwTaken h c) s).cvState h = s.cvState h :=
    (State.cwsTaken_regs (h := h) hw cws).2 _ (cvStatus_notMem_cwRegs h)
  show execPacketReceive h shared cws bs s = _
  refine State.onLink_acts hr ((if_neg (Nat.not_lt.2 (block_le_of_isUpState hu))).trans ?_)
  exact if_pos (by rw [hcv, hu])

/-! ### Acknowledgements and replays (R235 to R237) -/

theorem exec_ackNakReceive_up (b : BitVec 64) : exec (.ackNakReceive h b) s = .next (
    let u := s.ackUpTo h (bitsOf b.toNat 8 12)
    if bitAt b.toNat 20 then (u.bump (F.CV_NAK_RCVD_COUNT h) 1).replayDue h else u) := by
  show execAckNakReceive h b s = _
  exact State.onLink_acts hr (if_neg (by simp [hu]))

theorem exec_ackSend_up (idle : Nat) : exec (.ackSend ⟨h, idle⟩) s = .next (
    let u := s.idleBlocks h idle
    if (u.link h).unacked = 0 then u else (u.advanceTo ((u.link h).oldest + u.ackMax h)).sendAck h) := by
  show execAckSend ⟨h, idle⟩ s = _
  unfold execAckSend
  exact State.onLink_acts hr (if_neg (not_not_isUpState hu))

theorem exec_creditSend_up (idle : Nat) : exec (.creditSend ⟨h, idle⟩) s = .next ((s.idleBlocks h idle).sendCredits h) := by
  show execCreditSend ⟨h, idle⟩ s = _
  exact State.onLink_acts hr (if_pos hu)

/-- Fewer replays in a row than REPLAY_LIMIT: another one starts. -/
theorem exec_replayTimeout_below_limit (hp : (s.link h).replay ≠ [])
    (hlt : (s.link h).replays < bitsOf (s.get (F.CV_CFG1_W h)) 16 4) : exec (.replayTimeout h) s = .next (s.startReplay h) := by
  have hstart : s.replayDue h = s.startReplay h :=
    (if_neg (by simp [hp])).trans (if_neg (by simp [hlt]))
  show execReplayTimeout h s = _
  exact State.onLink_acts hr ((if_pos hu).trans hstart)

/-! ### Credits (R239) -/

theorem exec_creditReceive_both {b : BitVec 64} (h1 : bitAt b.toNat 15 = true) (h2 : bitAt b.toNat 39 = true) :
    exec (.creditReceive h b) s
      = .next ((s.put (F.CV_TUN_n_CRED_TX_LIMIT h (bitsOf b.toNat 8 6)) (bitsOf b.toNat 16 16)).put
          (F.CV_TUN_n_CRED_TX_LIMIT h (bitsOf b.toNat 32 6)) (bitsOf b.toNat 40 16)) := by
  show execCreditReceive h b s = _
  unfold execCreditReceive
  refine State.onLink_acts hr ((if_neg (not_not_isUpState hu)).trans ?_)
  dsimp only
  rw [if_pos h1, if_pos h2]

end

theorem bitsOf_lt (v l w : Nat) : bitsOf v l w < 2 ^ w := Nat.mod_lt _ (Nat.two_pow_pos w)

theorem cvTunCred_ne {h m n : Nat} (hne : m ≠ n) : A.CV_TUN_n_CRED h m ≠ A.CV_TUN_n_CRED h n := by
  unfold A.CV_TUN_n_CRED
  omega

/-- Two tunnels' send limits, and no other register. -/
theorem State.limits_written {s : State} {h m n v w : Nat} (hw : cellsWf 0 s.regs = true) (hne : m ≠ n) (hv : v < 2 ^ 16)
    (hx : w < 2 ^ 16) :
    let t := (s.put (F.CV_TUN_n_CRED_TX_LIMIT h m) v).put (F.CV_TUN_n_CRED_TX_LIMIT h n) w
    t.get (F.CV_TUN_n_CRED_TX_LIMIT h m) = v ∧ t.get (F.CV_TUN_n_CRED_TX_LIMIT h n) = w ∧ t = { s with regs := t.regs }
      ∧ s.SameRegs t [A.CV_TUN_n_CRED h m, A.CV_TUN_n_CRED h n] := by
  have hwm := State.put_wf (F.CV_TUN_n_CRED_TX_LIMIT h m) v hw
  refine ⟨?_, ?_, rfl, fun g hg => ?_⟩
  · rw [State.get_put_ne _ _ _ hwm (cvTunCred_ne hne), State.get_put_same _ _ hw (Nat.le_of_ble_eq_true rfl)]
    exact Nat.mod_eq_of_lt hv
  · rw [State.get_put_same _ _ hwm (Nat.le_of_ble_eq_true rfl)]
    exact Nat.mod_eq_of_lt hx
  · simp only [List.mem_cons, not_or] at hg
    obtain ⟨hm, hn, -⟩ := hg
    exact (State.get_put_ne _ g _ hwm hn).trans (State.get_put_ne _ g _ hw hm)

/-- Settles O29: a packet is judged after its codewords; ACKs, replays and credits each by the lemma of their command. -/
theorem packetsAndCredits : Obligations.PacketsAndCredits := by
  intro s h hs hu hr
  refine ⟨fun c => ⟨State.get_cwTaken_corrected hs.regs, State.get_cwTaken_uncorrectable hs.regs⟩, fun shared cws bs => ?_,
    exec_ackNakReceive_up hu hr, fun idle => ?_, rfl, exec_replayTimeout_below_limit hu hr, fun b h1 h2 hne => ?_⟩
  · have hx := exec_packetReceive_up hu hr hs.regs shared cws bs
    refine ⟨fun hg => hx.trans (congrArg _ (State.judgePacket_uncorrectable hg)),
      fun hg => hx.trans (congrArg _ (State.judgePacket_badCrc hg)), fun hg => hx.trans (congrArg _ (State.judgePacket_framing hg)),
      fun hg => ?_⟩
    have hj := hx.trans (congrArg _ (State.judgePacket_good hg))
    exact ⟨fun hp => hj.trans (congrArg _ (if_pos hp)),
      fun hd hf => hj.trans (congrArg _ ((if_neg (Nat.not_le.2 hf)).trans (if_pos hd))),
      fun hd => hj.trans (congrArg _ ((if_neg (by rw [hd]; decide)).trans (if_neg (not_not.2 hd))))⟩
  · have hx := exec_ackSend_up hu hr idle
    exact ⟨fun hne => hx.trans (congrArg _ (if_neg hne)), fun h0 => hx.trans (congrArg _ (if_pos h0)),
      exec_creditSend_up hu hr idle⟩
  · exact ⟨_, exec_creditReceive_both hu hr h1 h2, State.limits_written hs.regs hne (bitsOf_lt _ _ _) (bitsOf_lt _ _ _)⟩

end Sys2Proof.Machine
end

section
/-! SPEED_CAP, SPEED_SEL, EQ_DONE, the latency echoes and CV_RETRAIN on a link that trains (O26). -/
namespace Sys2Proof.Machine

section
variable {s : State} {h : Hp} (hr : s.linkRuns h = true)
include hr

/-! ### Capabilities and speed (R244, R246) -/

theorem exec_refTimer_ref (hc : s.cvState h = L.ref) : exec (.refTimer h) s = .next (
    let f := 2 ^ 16 * s.ownGears h + 2 ^ 20 * bitsOf (s.get (F.CV_CFG0_W h)) 2 1
      + 2 ^ 21 * bitsOf (s.get (F.CV_CFG0_W h)) 3 1 + 2 ^ 22 * bitsOf (s.get (F.CV_CFG0_W h)) 4 3 + 2 ^ 25
    (s.sendTrain h 0 0 0 f).sendTrain h 2 2 0 f) := by
  show execRefTimer h s = _
  exact State.onLink_acts hr (if_neg (not_not.2 hc))

section
variable {b : BitVec 64} (hk : trainSub b.toNat = 0)
include hk

theorem exec_speedCap_speed (hc : s.cvState h = L.speed) :
    exec (.speedCap h b) s = .next ((s.modLink h (fun l => { l with cap := some b.toNat })).speedOffer h) := by
  show execSpeedCap h b s = _
  exact State.onLink_acts hr ((if_neg (not_not.2 hk)).trans (if_pos hc))

theorem exec_speedCap_ref (hc : s.cvState h = L.ref) (hlock : (s.link h).blockLock &&& 10 ≠ 0) :
    exec (.speedCap h b) s = .next ((s.modLink h (fun l => { l with cap := some b.toNat })).linkSpeed h) := by
  have hns : s.cvState h ≠ L.speed := hc.symm ▸ by decide
  show execSpeedCap h b s = _
  exact State.onLink_acts hr ((if_neg (not_not.2 hk)).trans ((if_neg hns).trans (if_pos (by simp [hc, hlock]))))

end

section
variable {b : BitVec 64} (hc : s.cvState h = L.speed) (hk : trainSub b.toNat = 1) (hg : (s.pickGear h).isSome = true)
include hc hk hg

/-- Before the host's echo the hub's selection answers. -/
theorem exec_speedSel_before_echo (he : (s.link h).echoed = false) (hb : bitAt b.toNat 20 = false) :
    exec (.speedSel h b) s = .next (s.speedSel h false) := by
  show execSpeedSel h b s = _
  unfold execSpeedSel
  rw [State.onLink_of_runs hr]
  simp [hc, hk, Option.isNone_eq_false_iff.2 hg, he, hb]

/-- The host's first echo, without GO. -/
theorem exec_speedSel_first_echo (he : (s.link h).echoed = false) (hb : bitAt b.toNat 20 = true) (hgo : bitAt b.toNat 21 = false)
    (hlt : (s.link h).goSeen < 16) : exec (.speedSel h b) s
      = .next ((s.modLink h (fun l => { l with echoed := true, echoResume := bitAt b.toNat 19 })).speedSel h true) := by
  obtain ⟨x, hx⟩ := State.speedSel_link (s := s.modLink h (fun l => { l with echoed := true, echoResume := bitAt b.toNat 19 }))
    (h := h) true
  show execSpeedSel h b s = _
  unfold execSpeedSel
  rw [State.onLink_of_runs hr]
  simp [hc, hk, Option.isNone_eq_false_iff.2 hg, he, hb, hgo, hx, hlt]

/-- The host's sixteenth GO. -/
theorem exec_speedSel_last_go (he : (s.link h).echoed = true) (hgo : bitAt b.toNat 21 = true) (h15 : (s.link h).goSeen = 15) :
    exec (.speedSel h b) s
      = .next (((s.speedSel h true).modLink h (fun l => { l with goSeen := l.goSeen + 1 })).linkEq h) := by
  obtain ⟨x, hx⟩ := State.speedSel_link (s := s) (h := h) true
  show execSpeedSel h b s = _
  unfold execSpeedSel
  rw [State.onLink_of_runs hr]
  simp [hc, hk, Option.isNone_eq_false_iff.2 hg, he, hgo, hx, h15]

end

/-! ### Latency (R247) -/

/-- An echo that answers a PING: its flight joins the sum, and the sixteenth ends the measurement. -/
theorem exec_latBlock_answer {arrival i sent : Nat} {b : BitVec 64} (hc : s.cvState h = L.block) (hk : trainSub b.toNat = 4)
    (he : bitsOf b.toNat 16 2 = 1)
    (hf : (s.link h).pings.find? (fun x => x.1 == bitsOf b.toNat 18 4) = some (i, sent)) :
    exec (.latBlock h arrival b) s = .next (
      let flight := (arrival + 2 ^ 40 - sent) % 2 ^ 40 - bitsOf b.toNat 24 40
      let v := ((s.link h).latSum + flight) / 16 / 2
      let u := s.modLink h (fun l => { l with
        pings := l.pings.filter (fun y => y.1 != i), latCount := l.latCount + 1, latSum := l.latSum + flight })
      if (s.link h).latCount + 1 < 16 then u
      else (((u.put (F.CV_LAT_ONE_WAY h) v).modLink h (fun l => { l with latDone := true })).sendTrain h 0 0 4
        (2 ^ 16 * 2 + 2 ^ 24 * v)).tryBlock h) := by
  show execLatBlock h arrival b s = _
  unfold execLatBlock
  rw [State.onLink_of_runs hr]
  simp [hc, hk, he, hf]

end

/-! ### Equalisation (R245, R246) -/

theorem mem_pairsIn {m p : Nat} : p ∈ pairsIn m ↔ p < 4 ∧ bitAt m p = true := by
  rw [pairsIn, List.mem_filter, List.mem_range]

section
variable {s : State} {h p : Nat}

/-- A change of a link after blocks went out. -/
theorem State.modLink_frame_of_sent {t : State} {x : Nat} (k : Link → Link)
    (ht : t = { s with out := t.out, free := x, links := t.links }) :
    t.modLink h k = { s with links := (t.modLink h k).links, out := t.out, free := t.free } := by
  have hfree : t.free = x := (congrArg State.free ht :)
  rw [hfree]
  conv_lhs => rw [ht]
  rfl

/-- A pair that sent one more EQ block with EQ_DONE (R246). -/
def State.eqDoneSent (s : State) (h p : Nat) : State :=
  let on := if bitAt (s.txMask h) p then p else s.returnPair h p
  (s.sendTrain h on p 2 (2 ^ 20 * 15 + 2 ^ 38 + s.eqTaps h (s.ballPair h on))).modLink h
    (fun l => { l with eqCount := vMod l.eqCount p (· + 1) })

theorem State.get_eqDoneSent (g : FRef) : (s.eqDoneSent h p).get g = s.get g := State.sendTrain_get _ _ _ _ g

theorem State.eqDoneSent_frame :
    s.eqDoneSent h p = { s with links := (s.eqDoneSent h p).links, out := (s.eqDoneSent h p).out,
                                free := (s.eqDoneSent h p).free } :=
  State.modLink_frame_of_sent _ (State.sendTrain_frame _ _ _ _)

theorem State.eqDoneSent_link : (s.eqDoneSent h p).link h
    = { s.link h with eqCount := vMod (s.link h).eqCount p (· + 1), tx := ((s.eqDoneSent h p).link h).tx } := by
  unfold State.eqDoneSent
  dsimp only
  rw [State.link_modLink, State.sendTrain_link]

/-- Every good pair of the port has its 16 EQ_DONE. -/
def State.eqAllDone (s : State) (h : Nat) : Bool :=
  (pairsIn (15 - s.failedMask h)).all (fun q => decide (16 ≤ vAt (s.link h).eqCount q))

theorem State.eqAllDone_eq_true :
    s.eqAllDone h = true ↔ ∀ q, q < 4 → bitAt (15 - s.failedMask h) q = true → 16 ≤ vAt (s.link h).eqCount q := by
  simp [State.eqAllDone, List.all_eq_true, mem_pairsIn]

end

/-- While a good pair has fewer than 15 its phase does not end with one more. -/
theorem State.not_eqAllDone_of_few {s : State} {h : Nat} {p q : Fin 4} (hg : bitAt (15 - s.failedMask h) q = true)
    (hlt : vAt (s.link h).eqCount q < 15) : (s.eqDoneSent h p).eqAllDone h = false := by
  have hfailed : (s.eqDoneSent h p).failedMask h = s.failedMask h := State.get_eqDoneSent _
  refine Bool.eq_false_iff.2 (fun hall => ?_)
  have h16 := State.eqAllDone_eq_true.1 hall q q.isLt (by rw [hfailed, hg])
  rw [State.eqDoneSent_link] at h16
  by_cases hpq : p = q
  · rw [hpq, vAt_vMod_same] at h16
    omega
  · rw [vAt_vMod_ne _ _ _ _ (by omega)] at h16
    omega

/-- In EQ a pair that may end counts its EQ_DONE, and the phase ends with the last pair's sixteenth. -/
theorem exec_eqDone_eq {s : State} {h : Hp} {pair : Fin 4} (hr : s.linkRuns h = true) (hc : s.cvState h = L.eq)
    (he : s.equalising h pair = true) (hy : s.eqReady h pair = true) : exec (.eqDone h pair) s
      = .next (if (s.eqDoneSent h pair).eqAllDone h then (s.eqDoneSent h pair).eqPhaseEnds h else s.eqDoneSent h pair) := by
  have hcv : (s.eqDoneSent h pair).cvState h = L.eq := (State.get_eqDoneSent _).trans hc
  show execEqDone h pair s = _
  unfold execEqDone
  exact State.onLink_acts hr ((if_neg (by simp [he, hy])).trans (if_pos hcv))

/-! ### CV_RETRAIN (R261) -/

theorem wregAt_cvCtrl : ∀ h : Fin 4, wregAt (A.CV_CTRL h) = some (.cvCtrl h) := by decide +kernel

theorem cvCtrl_plain (h : Nat) : (WReg.cvCtrl h).Plain := ⟨rfl, fun _ => rfl, rfl, fun _ _ => rfl⟩

/-- RETRAIN of CV_CTRL retrains the link. -/
theorem State.wordEffect_cvCtrl_retrain (s : State) (a h : Nat) :
    (s.wordEffect a (.cvCtrl h) [⟨F.CV_CTRL_RETRAIN h, .sc, .live, 1⟩]).2 = s.retrain h := by
  rw [State.wordEffect_of_plain (r := .cvCtrl h) rfl nofun nofun nofun, State.storeWord_sc]
  rfl

theorem exec_cvRetrain_of_taken {s : State} {a : Agent} {h : Hp} (ht : s.TakesField a (A.CV_CTRL h) 1 1 1)
    (hm : s.boardOrService a = true ∨ a.val = h.val) : exec (.cvRetrain a h) s = .next (s.retrain h) := by
  have hmay (v : Nat) : s.mayWrite a (.cvCtrl h) 1 v = true := by simpa [State.mayWrite] using hm
  exact congrArg Host.Outcome.next ((State.fieldArrives_of_live (acc := .sc) (wregAt_cvCtrl h) (cvCtrl_plain h) (by decide)
    (List.mem_cons_of_mem _ List.mem_cons_self) rfl (by unfold A.CV_CTRL; omega) ht ⟨rfl, hmay, rfl, rfl, rfl⟩).trans
    (State.wordEffect_cvCtrl_retrain s a h))

/-- Settles O26: each block acts by the lemma of its command; the phase of equalisation ends with the last pair's sixteenth EQ_DONE,
and the latency with the sixteenth echo. -/
theorem linkTraining : Obligations.LinkTraining := by
  intro s h _ hr
  refine ⟨exec_refTimer_ref hr, fun b hk => ⟨exec_speedCap_speed hr hk, exec_speedCap_ref hr hk⟩,
    fun b hk hc hg => ⟨exec_speedSel_before_echo hr hc hk hg, exec_speedSel_first_echo hr hc hk hg,
      exec_speedSel_last_go hr hc hk hg⟩,
    fun pair hc he hy => ?_, fun arrival b i sent hc hk he hf => ?_, fun a ht hm => exec_cvRetrain_of_taken ht hm⟩
  · have hx := exec_eqDone_eq hr hc he hy
    have hfailed : (s.eqDoneSent h pair).failedMask h = s.failedMask h := State.get_eqDoneSent _
    exact ⟨fun q hg hlt => ⟨hx.trans (congrArg _ (if_neg (Bool.eq_false_iff.1 (State.not_eqAllDone_of_few hg hlt)))),
        State.eqDoneSent_frame, State.eqDoneSent_link⟩,
      fun hall => hx.trans (congrArg _ (if_pos (State.eqAllDone_eq_true.2 fun q hq hg => hall ⟨q, hq⟩ (hfailed ▸ hg))))⟩
  · have hx := exec_latBlock_answer (arrival := arrival) hr hc hk he hf
    exact ⟨fun hlt => hx.trans (congrArg _ (if_pos (by omega))), fun hge => hx.trans (congrArg _ (if_neg (by omega)))⟩

end Sys2Proof.Machine
end

section
/-! TLPs of both directions, a drive port's reset, clock and removal, and the triggers of an absent host (O35). -/
namespace Sys2Proof.Machine

/-- A choice by a field that is not 0. -/
theorem State.ite_flag {α : Type} (s : State) (f : FRef) (a b : α) :
    (if s.flag f = true then a else b) = if s.get f = 0 then b else a := by
  by_cases h0 : s.get f = 0
  · rw [if_neg (by rw [State.flag_of_zero h0]; decide), if_pos h0]
  · rw [if_pos (by simp [State.flag, h0]), if_neg h0]

section
variable {s : State} {p : Fin 2}

section
variable (hu : s.unitRuns (11 + p) = true)
include hu

/-! ### TLPs (R389, R396, R397, R403) -/

/-- A TLP of the owner host. -/
theorem exec_downstreamTlp_owned {h : Hp} {cls : Fin 3} {tlp : List Byte} (ho : s.owns h (2 + p) = true) (ha : s.awake = true) :
    exec (.downstreamTlp h p cls tlp) s = .next (s.pxDown p cls tlp) :=
  congrArg Host.Outcome.next ((if_neg (by simp [ho, ha])).trans (if_pos hu))

section
variable {tlp : List Byte} (hup : s.get (F.PX_STATUS_LINK_UP p) = 1)
include hup

theorem State.drive_heard : ¬ (!s.unitRuns (11 + p) || !s.flag (F.PX_STATUS_LINK_UP p)) = true := by
  simp [hu, State.flag_of_one hup]

/-- A contained port, or one without a host owner, only counts what the drive sends. -/
theorem exec_upstreamTlp_discarded (hd : s.pxContained p = true ∨ 4 ≤ s.pxOwner p) :
    exec (.upstreamTlp p tlp) s = .next (s.bump (F.PX_UP_DISCARD_COUNT p) 1) :=
  congrArg Host.Outcome.next ((if_neg (State.drive_heard hu hup)).trans (if_pos (by simpa using hd)))

section
variable (hc : s.pxContained p = false) (ho : s.pxOwner p < 4)
include hc ho

theorem exec_upstreamTlp_malformed (hf : s.tlpFormOk p tlp = false) :
    exec (.upstreamTlp p tlp) s = .next (s.pxMalformed p tlp) :=
  congrArg Host.Outcome.next ((if_neg (State.drive_heard hu hup)).trans ((if_neg (by simp [hc, ho])).trans (if_pos (by simp [hf]))))

variable (hf : s.tlpFormOk p tlp = true)
include hf

/-- An ACS violation, completed where the TLP asks for a completion. -/
theorem exec_upstreamTlp_acs (ha : s.acsBad p tlp = true) : exec (.upstreamTlp p tlp) s = .next (
    if tlpClass (tlpKind tlp) = 1 then (s.pxError p 21 tlp).emit (.tlp p ((s.pxError p 21 tlp).cplOf p 4 tlp none))
    else s.pxError p 21 tlp) :=
  congrArg Host.Outcome.next ((if_neg (State.drive_heard hu hup)).trans ((if_neg (by simp [hc, ho])).trans
    ((if_neg (by simp [hf])).trans (if_pos ha))))

/-- What is no message goes up with its class, an ECRC error counted first. -/
theorem exec_upstreamTlp_sent_up (ha : s.acsBad p tlp = false) (hk : tlpKind tlp ≠ .msg) :
    exec (.upstreamTlp p tlp) s = .next ((if s.cfgF p 0x46 8 1 = 1 ∧ ecrcOk tlp = false
      then (s.bump (F.PX_ECRC_ERR_COUNT p) 1).pxError p 19 tlp else s).pxUp p (tlpClass (tlpKind tlp)) tlp) := by
  show execUpstreamTlp p tlp s = _
  unfold execUpstreamTlp
  simp [hu, State.flag_of_one hup, hc, ho, hf, ha, hk]

end
end

/-! ### The drive link (R398, R400) -/

theorem exec_portResetComplete_running (speed width : Fin 5) :
    exec (.portResetComplete p speed width) s = .next (s.pxDlUp p speed width) :=
  congrArg Host.Outcome.next (if_pos hu)

end

/-- What the drive's link reports of replays and of entries to Recovery is counted. -/
def State.driveCounted (s : State) (p : Nat) (l : DriveIn) : State :=
  (s.bump (F.PX_REPLAYS_COUNT p) l.replays).bump (F.PX_LINK_RECOVERIES p) l.recoveries

section
variable (hw : cellsWf 0 s.regs = true) (l : DriveIn)
include hw

theorem State.get_driveCounted (g : FRef) (hr : g.addr ≠ A.PX_REPLAYS p) (hl : g.addr ≠ A.PX_LINK p) :
    (s.driveCounted p l).get g = s.get g :=
  (State.get_bump_ne (F.PX_LINK_RECOVERIES p) g _ (State.bump_wf _ _ hw) hl).trans
    (State.get_bump_ne (F.PX_REPLAYS_COUNT p) g _ hw hr)

theorem State.unitRuns_driveCounted : (s.driveCounted p l).unitRuns (11 + p) = s.unitRuns (11 + p) := by
  have := p.isLt
  unfold State.unitRuns
  rw [State.get_driveCounted hw]
  · show A.ISO_u (11 + p) ≠ A.PX_REPLAYS p
    unfold A.ISO_u A.PX_REPLAYS
    omega
  · show A.ISO_u (11 + p) ≠ A.PX_LINK p
    unfold A.ISO_u A.PX_LINK
    omega

theorem State.present_driveCounted : (s.driveCounted p l).get (F.PX_STATUS_PRESENT p) = s.get (F.PX_STATUS_PRESENT p) := by
  refine State.get_driveCounted hw l _ ?_ ?_
  · show A.PX_STATUS p ≠ A.PX_REPLAYS p
    unfold A.PX_STATUS A.PX_REPLAYS
    omega
  · show A.PX_STATUS p ≠ A.PX_LINK p
    unfold A.PX_STATUS A.PX_LINK
    omega

variable (hu : s.unitRuns (11 + p) = true) (speed : Fin 5)
include hu

theorem exec_driveLinkChange_up : exec (.driveLinkChange p true speed l) s
    = .next (((s.driveCounted p l).pxEqualise p speed l.eq).pxDlUp p speed l.width) := by
  have hrun : ¬ (!(s.driveCounted p l).unitRuns (11 + p)) = true := by simp [State.unitRuns_driveCounted hw, hu]
  exact congrArg Host.Outcome.next ((if_neg hrun).trans (if_pos rfl))

theorem exec_driveLinkChange_down (hp : s.get (F.PX_STATUS_PRESENT p) = 1) : exec (.driveLinkChange p false speed l) s
    = .next ((s.driveCounted p l).pxDlDown p) := by
  have hrun : ¬ (!(s.driveCounted p l).unitRuns (11 + p)) = true := by simp [State.unitRuns_driveCounted hw, hu]
  have hthere : (s.driveCounted p l).flag (F.PX_STATUS_PRESENT p) = true :=
    State.flag_of_one ((State.present_driveCounted hw l).trans hp)
  refine congrArg Host.Outcome.next ((if_neg hrun).trans ((if_neg Bool.false_ne_true).trans (if_neg ?_)))
  show ¬ (!(s.driveCounted p l).flag (F.PX_STATUS_PRESENT p) && _) = true
  simp [hthere]

end

/-! ### Removal and insertion (R399) -/

/-- A change of presence, with its event and its bit of Slot Status. -/
def State.presenceSet (s : State) (p v : Nat) : State := ((s.put (F.PX_STATUS_PRESENT p) v).pxEvt p 1).cfgSet p 0x1E (2 ^ 19)

/-- The notification that Slot Control may ask for at a change of presence. -/
def State.presenceTold (s : State) (p : Nat) : State :=
  if s.cfgF p 0x1E 5 1 = 1 ∧ s.cfgF p 0x1E 3 1 = 1 then s.pxNotify p else s

/-- The drive's mark that it is or is not to be met as a new one. -/
def State.newDrive (s : State) (p : Nat) (v : Bool) : State :=
  s.modPc p (fun c => { c with begun := (c.begun.1, c.begun.2.1, c.begun.2.2.1, v) })

/-- The owner host's requests that wait for the drive end. -/
def State.ownerSwept (s : State) (p : Nat) : State := if s.pxOwner p < 4 then s.pxSweep (s.pxOwner p) p 1 else s

section
variable (hu : s.unitRuns (11 + p) = true)
include hu

theorem exec_surpriseRemoval_present (hp : s.get (F.PX_STATUS_PRESENT p) = 1) : exec (.surpriseRemoval p) s = .next (
    let v := ((s.presenceSet p 0).presenceTold p).newDrive p true
    ((if v.get (F.PX_STATUS_LINK_UP p) = 0 then v else v.pxError p 5 []).pxDlDown p).ownerSwept p) := by
  show execSurpriseRemoval p s = _
  unfold execSurpriseRemoval
  simp only [hu, State.flag_of_one hp, State.ite_flag, Bool.not_true, Bool.true_and, Bool.false_eq_true, if_false, if_true,
    Bool.and_eq_true, decide_eq_true_eq]
  rfl

/-- A removal noticed again, the link down already. -/
theorem exec_surpriseRemoval_gone (hw : cellsWf 0 s.regs = true) (hp : s.get (F.PX_STATUS_PRESENT p) = 0)
    (hd : s.get (F.PX_STATUS_LINK_UP p) = 0) :
    exec (.surpriseRemoval p) s = .next ((((s.put (F.PX_STATUS_PRESENT p) 0).newDrive p true).pxDlDown p).ownerSwept p) := by
  have hlink : ((s.put (F.PX_STATUS_PRESENT p) 0).newDrive p true).get (F.PX_STATUS_LINK_UP p) = 0 :=
    (State.get_put_disj (F.PX_STATUS_PRESENT p) (F.PX_STATUS_LINK_UP p) 0 hw (Nat.le_of_ble_eq_true rfl) rfl
      (.inl (Nat.le_of_ble_eq_true rfl))).trans hd
  unfold State.newDrive at hlink
  show execSurpriseRemoval p s = _
  unfold execSurpriseRemoval
  simp only [hu, State.flag_of_zero hp, State.flag_of_zero hlink, Bool.not_true, Bool.false_and, Bool.false_eq_true, if_false]
  rfl

theorem exec_driveInsertion_absent (hp : s.get (F.PX_STATUS_PRESENT p) = 0) : exec (.driveInsertion p) s = .next (
    let v := (s.presenceSet p 1).presenceTold p
    if (v.pc p).begun.2.2.2 then (v.newDrive p false).pxResetMade p else v) := by
  show execDriveInsertion p s = _
  unfold execDriveInsertion
  simp only [hu, State.flag_of_zero hp, Bool.not_true, Bool.or_false, Bool.false_eq_true, if_false, Bool.and_eq_true,
    decide_eq_true_eq]
  rfl

/-! ### Containment, reset and clock (R398, R400 to R402) -/

theorem exec_dpcTrigger_taken {fatal : Bool} (source : BitVec 16) (ht : s.dpcTakes p fatal = true) :
    exec (.dpcTrigger p fatal source) s
      = .next ((s.pxEvt p (if fatal then 4 else 5)).pxDpc p (if fatal then 2 else 1) source.toNat) :=
  congrArg Host.Outcome.next (if_pos (by simp [hu, ht]))

end

theorem exec_resetDeadlineExpiry_due (hd : (s.pc p).deadline = true) (h0 : s.get (F.PX_DEADLINE_TICKS p) = 0) :
    exec (.resetDeadlineExpiry p) s
      = .next (((s.modPc p (fun c => { c with deadline := false, expired := true })).pxEvt p 3).pxPerst p) :=
  congrArg Host.Outcome.next (if_neg (by simp [hd, h0]))

theorem exec_perstRelease_free (hh : s.perstHeld p = false) (hc : s.get (F.PX_STATUS_REFCLK_ON p) = 1) (ha : s.awake = true) :
    exec (.perstRelease p) s = .next (s.put (F.PX_STATUS_PERST p) 0) :=
  congrArg Host.Outcome.next (if_neg (by simp [hh, State.flag_of_one hc, ha]))

theorem exec_clkreqChange_enabled (he : s.get (F.PX_CTRL_ENABLE p) = 1) (hc : s.get (F.PX_CTRL_CLKREQ_EN p) = 1) (high : Bool) :
    exec (.clkreqChange p high) s = .next (s.put (F.PX_STATUS_REFCLK_ON p) (if high then 0 else 1)) := by
  have hbit : bit1 (!high) = if high then 0 else 1 := by cases high <;> rfl
  rw [← hbit]
  exact congrArg Host.Outcome.next (if_neg (by simp [State.flag_of_one he, State.flag_of_one hc]))

/-- A field written alone. -/
theorem State.put_alone {f : FRef} {v : Nat} (hw : cellsWf 0 s.regs = true) (hf : f.lsb + f.width ≤ 32) (hv : v < 2 ^ f.width) :
    (s.put f v).get f = v ∧ s.put f v = { s with regs := (s.put f v).regs } ∧ s.SameRegs (s.put f v) [f.addr] :=
  ⟨(State.get_put_same f v hw hf).trans (Nat.mod_eq_of_lt hv), rfl, (State.put_reports f v hw).same⟩

end

/-! ### A host that is absent (R249, R282, R294) -/

section
variable {s : State} {h : Hp} {n : Nat}

theorem exec_linkDownTrigger_absent (hd : (s.link h).downSince = some n) (hup : s.linkUp h = false)
    (hwatch : vAt s.own.watch h = none) (hf : s.inForce = true) : exec (.linkDownTrigger h) s = .next (
      let u := s.advanceTo (n + 4004)
      let v := if vAt u.own.linkTrig h = true then u else u.linkAbsent h
      (v.modOwn (fun o => { o with linkTrig := vPut o.linkTrig h true })).recordTrigger h false) := by
  have hiff (u : State) : u.iff (!vAt u.own.linkTrig h) (fun s => s.linkAbsent h)
      = if vAt u.own.linkTrig h = true then u else u.linkAbsent h := by
    cases vAt u.own.linkTrig h <;> rfl
  show execLinkDownTrigger h s = _
  unfold execLinkDownTrigger
  simp only [hd, hup, hwatch, hf, hiff]
  rfl

/-- TIME's advance leaves whether a link is up. -/
theorem State.linkUp_advanceTo (t : Nat) : (s.advanceTo t).linkUp h = s.linkUp h := by
  simp only [State.linkUp, State.link, State.get_advanceTo, State.advanceTo_links]

theorem exec_watchInstant_down (hwatch : vAt s.own.watch h = some n) (hup : s.linkUp h = false) :
    exec (.watchInstant h) s = .next (((s.advanceTo n).modOwn (fun o => { o with watch := vPut o.watch h none })).modLink h
      (fun l => { l with downSince := some n })) := by
  have hdown : ¬ ((s.advanceTo n).modOwn (fun o => { o with watch := vPut o.watch h none })).linkUp h = true := by
    show ¬ (s.advanceTo n).linkUp h = true
    rw [State.linkUp_advanceTo, hup]
    decide
  show execWatchInstant h s = _
  unfold execWatchInstant
  simp only [hwatch, if_neg hdown]

end

/-- Settles O35: a TLP, the drive's link, its presence, an error, the deadline, PERST, the clock and the instants of an absent host, each
by the lemma of its command. -/
theorem drivePorts : Obligations.DrivePorts := by
  intro s p hs
  refine ⟨fun hu => ⟨fun h cls tlp => exec_downstreamTlp_owned hu, fun tlp hup => ⟨exec_upstreamTlp_discarded hu hup,
      exec_upstreamTlp_malformed hu hup, exec_upstreamTlp_acs hu hup, exec_upstreamTlp_sent_up hu hup⟩,
      fun speed width l => ⟨exec_portResetComplete_running hu speed width, exec_driveLinkChange_up hs.regs l hu speed,
        exec_driveLinkChange_down hs.regs l hu speed⟩,
      exec_surpriseRemoval_present hu, exec_surpriseRemoval_gone hu hs.regs, exec_driveInsertion_absent hu,
      fun fatal source => exec_dpcTrigger_taken hu source⟩,
    exec_resetDeadlineExpiry_due, fun hh hc ha => ?_, fun he hc high => ?_, fun h n => exec_linkDownTrigger_absent,
    fun h n => exec_watchInstant_down⟩
  · exact ⟨_, exec_perstRelease_free hh hc ha, State.put_alone hs.regs (Nat.le_of_ble_eq_true rfl) (Nat.le_of_ble_eq_true rfl)⟩
  · exact ⟨_, exec_clkreqChange_enabled he hc high, State.put_alone hs.regs (Nat.le_of_ble_eq_true rfl)
      (by cases high <;> exact Nat.le_of_ble_eq_true rfl)⟩

end Sys2Proof.Machine
end

section
/-! The other PD messages: capabilities, EPR, alert, and the structured VDMs of the Caravan mode (O45). -/
namespace Sys2Proof.Machine

/-- A field of one bit is set where it reads 1. -/
theorem State.flag_iff_get_eq_one {s : State} {f : FRef} (hf : f.width = 1) : s.flag f = true ↔ s.get f = 1 := by
  have hlt : s.get f < 2 ^ f.width := Nat.mod_lt _ (Nat.two_pow_pos _)
  rw [hf] at hlt
  simp only [State.flag, bne_iff_ne]
  omega

section
variable {s : State} {p : Fin 4} (hon : s.pdOn p = true)
include hon

/-- PD runs, so a message is heard. -/
theorem State.pd_heard : ¬ (!s.pdOn p) = true := by simp [hon]

/-! ### Capabilities (R507, R516, R520) -/

theorem exec_getSourceCap_on : exec (.getSourceCap p) s = .next (
    if s.isSrc p then (s.sendCaps p).tcSettle p else s.pdSend p 0 Msg.sourceCaps false (s.srcOffer p)) :=
  congrArg Host.Outcome.next (if_neg (State.pd_heard hon))

theorem exec_getSinkCap_on : exec (.getSinkCap p) s
    = .next (s.pdSend p 0 Msg.sinkCaps false (s.snkOffer p (List.range 7))) :=
  congrArg Host.Outcome.next (if_pos hon)

end

/-- What the hub keeps of the partner's first sink object; an exchange that awaited it is over. -/
def State.sinkCapsKept (s : State) (p : Nat) (objs : List Word) : State := s.modTc p (fun t =>
  { t with frsField := bitsOf (wordAt objs 0) 23 2, dual := bitAt (wordAt objs 0) 29,
           wait := if t.wait = .sinkCaps then .nothing else t.wait })

/-- The partner's objects in PD_PARTNER. -/
def State.partnerKept (s : State) (p : Nat) (objs : List Word) : State :=
  s.putEach (F.PD_PARTNER_i_V p) (wordAt objs) (List.range 11)

/-- The role of the port stays as the objects are kept. -/
theorem State.isSrc_partnerKept {s : State} (p : Nat) (objs : List Word) (hw : cellsWf 0 s.regs = true) :
    (s.partnerKept p objs).isSrc p = s.isSrc p := by
  have hstatus : (F.TC_STATUS_PR p).addr ∉ (List.range 11).map (fun i => (F.PD_PARTNER_i_V p i).addr) := by
    simp only [List.mem_map, not_exists, not_and, F.TC_STATUS_PR, F.PD_PARTNER_i_V, A.TC_STATUS, A.PD_PARTNER_i]
    omega
  unfold State.isSrc State.flag State.partnerKept
  rw [(State.putEach_reports _ _ (List.range 11) hw).same _ hstatus]

theorem State.isSrc_sinkCapsKept (s : State) (p : Nat) (objs : List Word) : (s.sinkCapsKept p objs).isSrc p = s.isSrc p := rfl

/-- A source arms a fast role swap where one is enabled and the partner asks for it. -/
def State.frsArmed (s : State) (p : Nat) (objs : List Word) : State :=
  if s.isSrc p then
    s.put (F.TC_STATUS_FRS_ARMED p) (bit1 (bitAt (s.tcConfig p) 8 && bitsOf (wordAt objs 0) 23 2 != 0))
  else s

section
variable {s : State} {p : Fin 4} (hon : s.pdOn p = true)
include hon

theorem exec_sinkCapabilities_on (objs : List Word) : exec (.sinkCapabilities p objs) s = .next (
    (((s.iff (s.isSrc p) (fun s => s.partnerKept p objs)).sinkCapsKept p objs).frsArmed p objs).tcSettle p) :=
  congrArg Host.Outcome.next (if_neg (State.pd_heard hon))

theorem exec_sinkCapabilities_sink (objs : List Word) (hk : s.isSrc p = false) :
    exec (.sinkCapabilities p objs) s = .next ((s.sinkCapsKept p objs).tcSettle p) := by
  have hskip : s.iff (s.isSrc p) (fun s => s.partnerKept p objs) = s := by rw [hk]; rfl
  have hkept : ¬ (s.sinkCapsKept p objs).isSrc p = true := by rw [State.isSrc_sinkCapsKept, hk]; decide
  rw [exec_sinkCapabilities_on hon, hskip, State.frsArmed, if_neg hkept]

/-- A source keeps all the objects, and arms a fast role swap where one is enabled and asked for. -/
theorem exec_sinkCapabilities_source (objs : List Word) (hw : cellsWf 0 s.regs = true) (hk : s.isSrc p = true) :
    exec (.sinkCapabilities p objs) s = .next (
      let u := (s.partnerKept p objs).sinkCapsKept p objs
      (u.put (F.TC_STATUS_FRS_ARMED p) (bit1 (bitAt (u.tcConfig p) 8 && bitsOf (wordAt objs 0) 23 2 != 0))).tcSettle p) := by
  have hkeep : s.iff (s.isSrc p) (fun s => s.partnerKept p objs) = s.partnerKept p objs := by rw [hk]; rfl
  have hkept : ((s.partnerKept p objs).sinkCapsKept p objs).isSrc p = true :=
    (State.isSrc_sinkCapsKept _ _ _).trans ((State.isSrc_partnerKept p objs hw).trans hk)
  rw [exec_sinkCapabilities_on hon, hkeep, State.frsArmed, if_pos hkept]

end

/-! ### EPR (R516, R518) -/

/-- The hub says an action of EPR_Mode. -/
def State.eprSay (s : State) (p a : Nat) : State := s.pdSend p 0 Msg.eprMode false [w32 (a * 2 ^ 24)]

/-- A source can enter EPR: the cable bears its voltage, a contract is in force, and there is an EPR object to offer. -/
def State.EprAble (s : State) (p : Nat) : Prop :=
  s.get (F.PD_CABLE_LIM_V50 p) = 1 ∧ s.hasContract p = true ∧ ∃ i ∈ [7, 8, 9, 10], s.srcObj p i ≠ 0

theorem State.eprAble_iff {s : State} {p : Nat} : (s.flag (F.PD_CABLE_LIM_V50 p) && s.hasContract p
    && [7, 8, 9, 10].any (fun i => s.srcObj p i != 0)) = true ↔ s.EprAble p := by
  simp only [Bool.and_eq_true, State.flag_iff_get_eq_one (f := F.PD_CABLE_LIM_V50 p) rfl, List.any_eq_true, bne_iff_ne, and_assoc,
    State.EprAble]

section
variable {s : State} {p : Fin 4} (hon : s.pdOn p = true)
include hon

section
variable {obj : Word}

section
variable (ha : bitsOf obj.toNat 24 8 = 1) (hk : s.isSrc p = true)
include ha hk

theorem exec_eprMode_enter (he : s.EprAble p) : exec (.eprMode p obj) s
    = .next (((((s.eprSay p 2).eprSay p 3).put (F.TC_STATUS_EPR p) 1).sendCaps p).tcSettle p) :=
  congrArg Host.Outcome.next ((if_neg (State.pd_heard hon)).trans ((if_pos (by simp [ha, hk])).trans
    (if_pos (State.eprAble_iff.2 he))))

theorem exec_eprMode_refuse (he : ¬ s.EprAble p) : exec (.eprMode p obj) s = .next (s.eprSay p 4) :=
  congrArg Host.Outcome.next ((if_neg (State.pd_heard hon)).trans ((if_pos (by simp [ha, hk])).trans
    (if_neg (mt State.eprAble_iff.1 he))))

end

/-- Enter Succeeded, to a sink that asked. -/
theorem exec_eprMode_succeeded (ha : bitsOf obj.toNat 24 8 = 3) (hk : s.isSrc p = false) (hwait : (s.tcp p).wait = .epr) :
    exec (.eprMode p obj) s = .next ((((s.pdAnswered p).put (F.TC_STATUS_EPR p) 1).pdAwait p .caps).tcSettle p) :=
  congrArg Host.Outcome.next ((if_neg (State.pd_heard hon)).trans ((if_neg (by simp [ha])).trans ((if_neg (by simp [ha])).trans
    (if_pos (by simp [ha, hk, hwait])))))

theorem exec_eprMode_exit (ha : bitsOf obj.toNat 24 8 = 5) (he : s.get (F.TC_STATUS_EPR p) = 1) :
    exec (.eprMode p obj) s = .next (let u := s.put (F.TC_STATUS_EPR p) 0
      (if u.isSrc p then u.sendCaps p else u.pdAwait p .caps).tcSettle p) :=
  congrArg Host.Outcome.next ((if_neg (State.pd_heard hon)).trans ((if_neg (by simp [ha])).trans ((if_neg (by simp [ha])).trans
    ((if_neg (by simp [ha])).trans ((if_neg (by simp [ha])).trans (if_pos (by simp [ha, State.flag_of_one he])))))))

end

theorem exec_eprKeepalive_source (hk : s.isSrc p = true) (he : s.get (F.TC_STATUS_EPR p) = 1) :
    exec (.eprKeepalive p) s = .next (s.pdExt p Msg.extControl [4, 0]) :=
  congrArg Host.Outcome.next (if_pos (by simp [hon, hk, State.flag_of_one he]))

/-! ### Alert and the messages without a row (R507, R508) -/

theorem exec_alert_on (ado : Word) : exec (.alert p ado) s = .next ((s.put (F.PD_ALERT_V p) ado.toNat).tcEvt p 5) :=
  congrArg Host.Outcome.next (if_pos hon)

theorem exec_unsupportedMessage_on (m : PdMsg) : exec (.unsupportedMessage ⟨p, m⟩) s = .next (s.pdOther p m) :=
  congrArg Host.Outcome.next (if_pos hon)

end

/-- An Alert is kept with its event, and nothing else changes but the count of the event's rises. -/
theorem State.alert_keeps {s : State} (hw : cellsWf 0 s.regs = true) (p : Fin 4) (ado : Word) :
    let t := (s.put (F.PD_ALERT_V p) ado.toNat).tcEvt p 5
    t.get (F.PD_ALERT_V p) = ado.toNat ∧ t.get ⟨A.TC_EVT p, 5, 1⟩ = 1
      ∧ t = { s with regs := t.regs, router := t.router }
      ∧ s.SameRegs t [A.PD_ALERT p, A.TC_EVT p, A.EVT_RISE_s (240 + 2 * p)] := by
  have hwput : cellsWf 0 (s.put (F.PD_ALERT_V p) ado.toNat).regs = true := State.put_wf _ _ hw
  have hput : (s.put (F.PD_ALERT_V p) ado.toNat).get (F.PD_ALERT_V p) = ado.toNat :=
    (State.get_put_same (F.PD_ALERT_V p) _ hw (Nat.le_refl 32)).trans (Nat.mod_eq_of_lt ado.isLt)
  have hevt : A.PD_ALERT p ≠ A.TC_EVT p := by unfold A.PD_ALERT A.TC_EVT; omega
  have hrise : A.PD_ALERT p ≠ A.EVT_RISE_s (240 + 2 * p) := by unfold A.PD_ALERT A.EVT_RISE_s; omega
  have hevtRise : A.TC_EVT p ≠ A.EVT_RISE_s (240 + 2 * p) := by unfold A.TC_EVT A.EVT_RISE_s; omega
  have htold := State.raise_reports (240 + 2 * p) ⟨A.TC_EVT p, 5, 1⟩ hwput
  exact ⟨(State.get_raise_ne _ _ _ hwput hevt hrise).trans hput,
    State.get_raise_same _ _ hwput (Nat.le_of_ble_eq_true rfl) hevtRise, State.raise_frame _ _ _,
    ((State.put_reports (F.PD_ALERT_V p) _ hw).trans htold).same⟩

/-! ### Structured VDMs (R274, R511 to R513) -/

/-- The VDO of an Enter Mode of the Caravan mode is kept, whatever the answer. -/
def State.vdoKept (s : State) (p : Nat) (svid : BitVec 16) (v : Nat) : State :=
  if svid = 0x2F5A then s.put (F.CV_MODE_VDO_VDO p) v else s

/-- An Enter Mode that the hub acknowledges: of Mode 1 as UFP, with VERSION 1 and both gears, on an enabled port whose cable
allows it. -/
def State.EntersMode (s : State) (p : Nat) (svid : BitVec 16) (mode : Fin 8) (v : Nat) : Prop :=
  svid = 0x2F5A ∧ mode = 1 ∧ s.get (F.TC_STATUS_DR p) = 0 ∧ bitsOf v 0 3 = 1 ∧ bitAt v 4 = true ∧ bitAt v 5 = true
    ∧ s.get (F.CV_CTRL_ENABLE p) = 1 ∧ s.get (F.PD_CABLE_LIM_GEAR p) ≠ 0

theorem State.get_vdoKept {s : State} (hw : cellsWf 0 s.regs = true) (p : Nat) (svid : BitVec 16) (v : Nat) {g : FRef}
    (hg : g.addr ≠ A.CV_MODE_VDO p) : (s.vdoKept p svid v).get g = s.get g := by
  unfold State.vdoKept
  split
  · exact State.get_put_ne (F.CV_MODE_VDO_VDO p) g v hw hg
  · rfl

/-- The kept VDO bears on none of the fields that decide the answer. -/
theorem State.entersMode_vdoKept {s : State} (hw : cellsWf 0 s.regs = true) (p : Fin 4) (svid : BitVec 16) (mode : Fin 8)
    (v w : Nat) : (s.vdoKept p svid w).EntersMode p svid mode v ↔ s.EntersMode p svid mode v := by
  have := p.isLt
  have hrole : (F.TC_STATUS_DR p).addr ≠ A.CV_MODE_VDO p := by simp only [F.TC_STATUS_DR, A.TC_STATUS, A.CV_MODE_VDO]; omega
  have henable : (F.CV_CTRL_ENABLE p).addr ≠ A.CV_MODE_VDO p := by simp only [F.CV_CTRL_ENABLE, A.CV_CTRL, A.CV_MODE_VDO]; omega
  have hcable : (F.PD_CABLE_LIM_GEAR p).addr ≠ A.CV_MODE_VDO p := by
    simp only [F.PD_CABLE_LIM_GEAR, A.PD_CABLE_LIM, A.CV_MODE_VDO]; omega
  unfold State.EntersMode
  rw [State.get_vdoKept hw _ _ _ hrole, State.get_vdoKept hw _ _ _ henable, State.get_vdoKept hw _ _ _ hcable]

/-- The check that ENTER_MODE makes. -/
theorem State.entersMode_iff {s : State} {p : Nat} {svid : BitVec 16} {mode : Fin 8} {v : Nat} :
    (svid = 0x2F5A && mode = 1 && !s.flag (F.TC_STATUS_DR p) && bitsOf v 0 3 = 1 && bitAt v 4 && bitAt v 5
      && s.flag (F.CV_CTRL_ENABLE p) && s.get (F.PD_CABLE_LIM_GEAR p) != 0) = true ↔ s.EntersMode p svid mode v := by
  have hrole : (!s.flag (F.TC_STATUS_DR p)) = true ↔ s.get (F.TC_STATUS_DR p) = 0 := by simp [State.flag]
  simp only [Bool.and_eq_true, decide_eq_true_eq, hrole, State.flag_iff_get_eq_one (f := F.CV_CTRL_ENABLE p) rfl, bne_iff_ne,
    and_assoc, State.EntersMode]

section
variable {s : State} {p : Fin 4} (hon : s.pdOn p = true)
include hon

theorem exec_discoverIdentity_on : exec (.discoverIdentity p) s = .next (s.vdmReply p 0xFF00 true 1 0
    [w32 (2 ^ 30 + 2 ^ 27 + 2 ^ 26 + s.get (F.PX_IDS_VENDOR 0)), 0, w32 (0x9640 * 65536 + 0x100 + Config.revMain.toNat),
      w32 (3 * 2 ^ 29 + 2 ^ 24 + 2 ^ 5)]) :=
  congrArg Host.Outcome.next (if_pos hon)

theorem exec_discoverSvids_on : exec (.discoverSvids p) s = .next (s.vdmReply p 0xFF00 true 2 0 [w32 (0x2F5A * 65536)]) :=
  congrArg Host.Outcome.next (if_pos hon)

theorem exec_discoverModes_caravan : exec (.discoverModes p 0x2F5A) s
    = .next (s.vdmReply p 0x2F5A true 3 0 [w32 (s.modeVdo p)]) :=
  congrArg Host.Outcome.next ((if_neg (State.pd_heard hon)).trans (if_pos rfl))

theorem exec_discoverModes_other (svid : BitVec 16) (hne : svid ≠ 0x2F5A) : exec (.discoverModes p svid) s
    = .next (s.vdmReply p svid.toNat false 3 0 []) :=
  congrArg Host.Outcome.next ((if_neg (State.pd_heard hon)).trans (if_neg hne))

section
variable (hw : cellsWf 0 s.regs = true) {svid : BitVec 16} {mode : Fin 8} {vdo : Word}
include hw

/-- An Enter Mode acknowledged: the link may enter REF. -/
theorem exec_enterMode_acknowledged (hok : s.EntersMode p svid mode vdo.toNat) : exec (.enterMode p svid mode vdo) s
    = .next (((((s.vdoKept p svid vdo.toNat).vdmReply p 0x2F5A true 4 1 []).put (F.TC_STATUS_CARAVAN p) 1).modLink p
      (fun l => { l with entered := true })).tryRef p) := by
  have htest := State.entersMode_iff.2 ((State.entersMode_vdoKept hw p svid mode vdo.toNat vdo.toNat).2 hok)
  obtain ⟨-, rfl, -⟩ := hok
  exact congrArg Host.Outcome.next ((if_neg (State.pd_heard hon)).trans (if_pos htest))

theorem exec_enterMode_refused (hno : ¬ s.EntersMode p svid mode vdo.toNat) : exec (.enterMode p svid mode vdo) s
    = .next ((s.vdoKept p svid vdo.toNat).vdmReply p svid.toNat false 4 mode.val []) :=
  congrArg Host.Outcome.next ((if_neg (State.pd_heard hon)).trans
    (if_neg (mt (fun h => (State.entersMode_vdoKept hw p svid mode vdo.toNat vdo.toNat).1 (State.entersMode_iff.1 h)) hno)))

end

theorem exec_exitMode_caravan (hc : s.get (F.TC_STATUS_CARAVAN p) = 1) :
    exec (.exitMode p 0x2F5A) s = .next ((s.vdmReply p 0x2F5A true 5 1 []).modeExit p) :=
  congrArg Host.Outcome.next ((if_neg (State.pd_heard hon)).trans (if_pos (by simp [State.flag_of_one hc])))

end

/-- Settles O45: each message by the lemma of its command; what a message is answered is decided by the port's fields as they are
before it, since the objects and the VDO that it brings are kept in other registers. -/
theorem powerMessages : Obligations.PowerMessages := by
  intro s p hs hon
  exact ⟨exec_getSourceCap_on hon, exec_getSinkCap_on hon,
    fun objs => ⟨exec_sinkCapabilities_sink hon objs, exec_sinkCapabilities_source hon objs hs.regs⟩,
    fun obj => ⟨exec_eprMode_enter hon, exec_eprMode_refuse hon, exec_eprMode_succeeded hon, exec_eprMode_exit hon⟩,
    exec_eprKeepalive_source hon, fun ado => ⟨_, exec_alert_on hon ado, State.alert_keeps hs.regs p ado⟩,
    exec_unsupportedMessage_on hon, exec_unsupportedMessage_on hon .other, exec_discoverIdentity_on hon,
    exec_discoverSvids_on hon, exec_discoverModes_caravan hon, exec_discoverModes_other hon,
    fun svid mode vdo => ⟨exec_enterMode_acknowledged hon hs.regs, exec_enterMode_refused hon hs.regs⟩,
    exec_exitMode_caravan hon⟩

end Sys2Proof.Machine
end

section
/-! Launch descriptors and cancels, the firing of launches, and second edges (O31). -/
namespace Sys2Proof.Machine

/-! ### Descriptors and cancels of a TIME tunnel (R329, R340) -/

/-- A TIME packet of whole records, one at least and no more than a packet may hold, has its form. -/
theorem timeForm_of_whole {size most : Nat} {words : List Word} (hwhole : words.length % size = 0) (hsome : 0 < words.length)
    (hfit : words.length ≤ size * most) : timeForm size most words = true := by
  simp [timeForm, hwhole, hsome, hfit]

theorem timeForm_eq_false {size most : Nat} {words : List Word}
    (h : words.length % size ≠ 0 ∨ words.length = 0 ∨ size * most < words.length) : timeForm size most words = false := by
  rcases h with h | h | h <;> simp [timeForm, h]

section
variable {s : State} {h : Hp} {n : Nat} (hh : s.hears h = true) (ht : s.findTun h 5 (fun _ => true) = some n)
include hh ht

theorem State.timeTun_of_hears : s.timeTun h = some n := (if_pos hh).trans ht

theorem exec_launchDescriptors_heard (words : List Word) : exec (.launchDescriptors h words) s
    = .next (if timeForm 4 64 words then s.srDescriptors h n words else s.timeDiscard h) := by
  show execLaunchDescriptors h words s = _
  unfold execLaunchDescriptors
  rw [State.timeTun_of_hears hh ht]

theorem exec_launchCancel_heard (words : List Word) : exec (.launchCancel h words) s
    = .next (if timeForm 2 128 words then s.srCancels h n words else s.timeDiscard h) := by
  show execLaunchCancel h words s = _
  unfold execLaunchCancel
  rw [State.timeTun_of_hears hh ht]

end

/-! ### SR_SUBMIT and SR_CANCEL (R329, R340) -/

theorem wregAt_srSubmitW : ∀ i : Fin 4, wregAt (A.SR_SUBMIT_W i) = some (.srSubmitW i) := by decide +kernel

theorem wregAt_srCancelW : ∀ i : Fin 2, wregAt (A.SR_CANCEL_W i) = some (.srCancelW i) := by decide +kernel

/-- A field of 32 bits takes a word whole. -/
theorem bitsOf_word (v : Word) : bitsOf v.toNat 0 32 = v.toNat := by
  unfold bitsOf
  rw [Nat.pow_zero, Nat.div_one, Nat.mod_eq_of_lt v.isLt]

/-- A register that takes each word whole, whatever its value (R634). -/
structure WReg.Buffer (r : WReg) : Prop where
  fields : r.fields = [⟨0, 32, .wo, .live⟩]
  word : ∀ x, r.word x = x
  always : r.always = true

theorem srSubmitW_buffer (i : Nat) : (WReg.srSubmitW i).Buffer := ⟨rfl, fun _ => rfl, rfl⟩

theorem srCancelW_buffer (i : Nat) : (WReg.srCancelW i).Buffer := ⟨rfl, fun _ => rfl, rfl⟩

section
variable {s : State} {a : Nat}

theorem State.written_of_buffer {r : WReg} (hb : r.Buffer) (v : Word) :
    s.written a r v.toNat = [⟨r.fref a ⟨0, 32, .wo, .live⟩, .wo, .live, v.toNat⟩] := by
  simp [State.written, hb.fields, hb.word, hb.always, bitsOf_word]

/-- A word of a submission is taken whoever writes it, and acts (R329). -/
theorem State.writeWord_srSubmitW {i : Nat} (hi : i < 4) (v : Word) : s.writeWord a (A.SR_SUBMIT_W i) v.toNat
    = (R.ok, s.wordAction a (.srSubmitW i) [⟨F.SR_SUBMIT_W_V i, .wo, .live, v.toNat⟩]) := by
  rw [State.writeWord_of_live (wregAt_srSubmitW ⟨i, hi⟩) (State.written_of_buffer (srSubmitW_buffer i) v)
    ⟨rfl, fun _ => rfl, rfl, rfl, rfl⟩]
  exact State.wordEffect_of_plain rfl nofun nofun nofun

/-- A word of a cancel is taken whoever writes it, and acts (R340). -/
theorem State.writeWord_srCancelW {i : Nat} (hi : i < 2) (v : Word) : s.writeWord a (A.SR_CANCEL_W i) v.toNat
    = (R.ok, s.wordAction a (.srCancelW i) [⟨F.SR_CANCEL_W_V i, .wo, .live, v.toNat⟩]) := by
  rw [State.writeWord_of_live (wregAt_srCancelW ⟨i, hi⟩) (State.written_of_buffer (srCancelW_buffer i) v)
    ⟨rfl, fun _ => rfl, rfl, rfl, rfl⟩]
  exact State.wordEffect_of_plain rfl nofun nofun nofun

/-- The words of a WRITE and their addresses. -/
theorem frameWrites_mk {len addr : Nat} (hl : len < 4096) (ha : addr < 2 ^ 32) (ws : List Word) :
    frameWrites (mkFrame 2 1 len 0 addr ws) = (spanAddrs false addr len).zip ws := by
  unfold frameWrites
  rw [frameAddrs_mk _ _ _ _ _ _ hl ha, framePayload_mk]
  rfl

/-- A span that the hub takes is written word by word. -/
theorem State.wordsArrive_of_taken {addr : Nat} {ws : List Word} (h : s.TakesWords a addr ws) :
    s.wordsArrive a addr ws = (s.putWords a 0 (frameWrites (mkFrame 2 1 ws.length 0 addr ws))).2.2.2 :=
  if_neg (by simp [h.takes, h.outside, h.judged])

/-- A word that is taken passes the rest of its span on to the state it leaves. -/
theorem State.putWords_cons_of_ok {t : State} {n x : Nat} {v : Word} {l : List (Nat × Word)} (hx : x < 2 ^ 31)
    (hw : s.writeWord a x v.toNat = (R.ok, t)) : s.putWords a n ((x, v) :: l) = t.putWords a (n + 1) l := by
  have hput : s.putWord a x v.toNat = (R.ok, t) := (if_neg (by omega)).trans hw
  simp only [State.putWords, hput, if_true]

theorem State.putWords_srSubmitW {i n : Nat} (hi : i < 4) (v : Word) (l : List (Nat × Word)) :
    s.putWords a n ((A.SR_SUBMIT_W i, v) :: l)
      = (s.wordAction a (.srSubmitW i) [⟨F.SR_SUBMIT_W_V i, .wo, .live, v.toNat⟩]).putWords a (n + 1) l :=
  State.putWords_cons_of_ok (by unfold A.SR_SUBMIT_W; omega) (State.writeWord_srSubmitW hi v)

theorem State.putWords_srCancelW {i n : Nat} (hi : i < 2) (v : Word) (l : List (Nat × Word)) :
    s.putWords a n ((A.SR_CANCEL_W i, v) :: l)
      = (s.wordAction a (.srCancelW i) [⟨F.SR_CANCEL_W_V i, .wo, .live, v.toNat⟩]).putWords a (n + 1) l :=
  State.putWords_cons_of_ok (by unfold A.SR_CANCEL_W; omega) (State.writeWord_srCancelW hi v)

/-- Two changes of the registers alone change the registers alone. -/
theorem State.regsOnly_trans {t u : State} (ht : t = { s with regs := t.regs }) (hu : u = { t with regs := u.regs }) :
    u = { s with regs := u.regs } := hu.trans (by rw [ht])

/-- Fields put in turn change the registers alone. -/
theorem State.putEach_frame (f : Nat → FRef) (v : Nat → Nat) (l : List Nat) :
    s.putEach f v l = { s with regs := (s.putEach f v l).regs } :=
  foldl_inv (fun t : State => t = { s with regs := t.regs }) _ (fun t n ht => by rw [ht]; rfl) l s rfl

/-- The buffer of SR_SUBMIT before its last word, holding the three others. -/
def State.submitHeld (s : State) (w0 w1 w2 : Word) : State :=
  s.putEach F.SR_SUBMIT_W_V (fun j => ([w0, w1, w2].getD j 0).toNat) [0, 1, 2]

/-- The buffer of SR_SUBMIT as a submission leaves it. -/
def State.submitCleared (s : State) (w0 w1 w2 : Word) : State :=
  (s.submitHeld w0 w1 w2).putEach F.SR_SUBMIT_W_V (fun _ => 0) (List.range 4)

theorem State.submitCleared_frame (w0 w1 w2 : Word) :
    s.submitCleared w0 w1 w2 = { s with regs := (s.submitCleared w0 w1 w2).regs } :=
  State.regsOnly_trans (State.putEach_frame ..) (State.putEach_frame ..)

section
variable (h : cellsWf 0 s.regs = true) (w0 w1 w2 : Word)
include h

theorem State.get_submitHeld (j : Nat) (hj : j < 3) :
    (s.submitHeld w0 w1 w2).get (F.SR_SUBMIT_W_V j) = ([w0, w1, w2].getD j 0).toNat := by
  refine (State.get_putEach F.SR_SUBMIT_W_V _ j _ h (Nat.le_refl 32) (fun k hk => ?_) ?_).trans
    (Nat.mod_eq_of_lt ([w0, w1, w2].getD j 0).isLt)
  · show A.SR_SUBMIT_W j ≠ A.SR_SUBMIT_W k
    unfold A.SR_SUBMIT_W
    omega
  · have : j = 0 ∨ j = 1 ∨ j = 2 := by omega
    simpa using this

theorem State.submitCleared_same : s.SameRegs (s.submitCleared w0 w1 w2)
    [A.SR_SUBMIT_W 0, A.SR_SUBMIT_W 1, A.SR_SUBMIT_W 2, A.SR_SUBMIT_W 3] := by
  have held := State.putEach_reports F.SR_SUBMIT_W_V (fun j => ([w0, w1, w2].getD j 0).toNat) [0, 1, 2] h
  exact ((held.trans (State.putEach_reports F.SR_SUBMIT_W_V (fun _ => 0) (List.range 4) held.wf)).mono (by decide)).same

/-- Four words that the hub takes submit one descriptor of the agent's own (R329). -/
theorem exec_srSubmit_taken {a : Agent} {w3 : Word} (ht : s.TakesWords a (A.SR_SUBMIT_W 0) [w0, w1, w2, w3]) :
    exec (.srSubmit a w0 w1 w2 w3) s
      = .next ((s.submitCleared w0 w1 w2).srSubmit a none w0.toNat w1.toNat w2.toNat w3.toNat) := by
  have hspan : frameWrites (mkFrame 2 1 [w0, w1, w2, w3].length 0 (A.SR_SUBMIT_W 0) [w0, w1, w2, w3])
      = [(A.SR_SUBMIT_W 0, w0), (A.SR_SUBMIT_W 1, w1), (A.SR_SUBMIT_W 2, w2), (A.SR_SUBMIT_W 3, w3)] :=
    frameWrites_mk (Nat.le_of_ble_eq_true rfl) (by decide) _
  refine congrArg Host.Outcome.next ((State.wordsArrive_of_taken ht).trans ?_)
  rw [hspan, State.putWords_srSubmitW (i := 0) (by decide), State.putWords_srSubmitW (i := 1) (by decide),
    State.putWords_srSubmitW (i := 2) (by decide), State.putWords_srSubmitW (i := 3) (by decide)]
  show (s.submitCleared w0 w1 w2).srSubmit a none ((s.submitHeld w0 w1 w2).get (F.SR_SUBMIT_W_V 0))
    ((s.submitHeld w0 w1 w2).get (F.SR_SUBMIT_W_V 1)) ((s.submitHeld w0 w1 w2).get (F.SR_SUBMIT_W_V 2)) w3.toNat = _
  rw [State.get_submitHeld h w0 w1 w2 0 (by decide), State.get_submitHeld h w0 w1 w2 1 (by decide),
    State.get_submitHeld h w0 w1 w2 2 (by decide)]
  rfl

/-- Two words that the hub takes are one cancel of the agent's own (R340). -/
theorem exec_srCancel_taken {a : Agent} (ht : s.TakesWords a (A.SR_CANCEL_W 0) [w0, w1]) :
    exec (.srCancel a w0 w1) s = .next (((s.put (F.SR_CANCEL_W_V 0) w0.toNat).put (F.SR_CANCEL_W_V 0) 0).srCancel a none
      w0.toNat w1.toNat) := by
  have hspan : frameWrites (mkFrame 2 1 [w0, w1].length 0 (A.SR_CANCEL_W 0) [w0, w1])
      = [(A.SR_CANCEL_W 0, w0), (A.SR_CANCEL_W 1, w1)] := frameWrites_mk (Nat.le_of_ble_eq_true rfl) (by decide) _
  have hheld : (s.put (F.SR_CANCEL_W_V 0) w0.toNat).get (F.SR_CANCEL_W_V 0) = w0.toNat :=
    (State.get_put_same (F.SR_CANCEL_W_V 0) _ h (Nat.le_refl 32)).trans (Nat.mod_eq_of_lt w0.isLt)
  refine congrArg Host.Outcome.next ((State.wordsArrive_of_taken ht).trans ?_)
  rw [hspan, State.putWords_srCancelW (i := 0) (by decide), State.putWords_srCancelW (i := 1) (by decide)]
  show ((s.put (F.SR_CANCEL_W_V 0) w0.toNat).put (F.SR_CANCEL_W_V 0) 0).srCancel a none
    ((s.put (F.SR_CANCEL_W_V 0) w0.toNat).get (F.SR_CANCEL_W_V 0)) w1.toNat = _
  rw [hheld]

theorem State.cancelCleared_same :
    s.SameRegs ((s.put (F.SR_CANCEL_W_V 0) w0.toNat).put (F.SR_CANCEL_W_V 0) 0) [A.SR_CANCEL_W 0, A.SR_CANCEL_W 1] := by
  have held := State.put_reports (F.SR_CANCEL_W_V 0) w0.toNat h
  exact ((held.trans (State.put_reports (F.SR_CANCEL_W_V 0) 0 held.wf)).mono (by decide)).same

end
end

/-! ### Launches and second edges at their time (R333, R335) -/

/-- No event comes before itself. -/
theorem Firing.before_irrefl (e : Firing) : Firing.before e e = false := by
  simp [Firing.before]

section
variable {s : State}

theorem State.nextLaunch_of_nil (h : s.sr.queue = []) : s.nextLaunch = none := by
  unfold State.nextLaunch
  rw [h]
  rfl

theorem State.nextSecond_of_nil (h : s.sr.seconds = []) : s.nextSecond = none := by
  unfold State.nextSecond
  rw [h]
  rfl

/-- Where no event is to fire, none fires. -/
theorem State.fireWhile_of_none {last : Firing → Bool} (h : s.nextFiring last = none) (n : Nat) : s.fireWhile last n = s := by
  cases n with
  | zero => rfl
  | succ n => rw [State.fireWhile, h]

/-- With no second edge waiting nothing fires before the first launch. -/
theorem State.fireBefore_nextLaunch {l : Launch} (hl : s.nextLaunch = some l) (h : s.sr.seconds = []) :
    s.fireBefore (l.at_, l) = s := by
  refine State.fireWhile_of_none ?_ _
  unfold State.nextFiring
  rw [hl, State.nextSecond_of_nil h]
  exact if_neg (by simp [Firing.before_irrefl])

/-- With no launch queued nothing fires before the first second edge. -/
theorem State.fireBefore_nextSecond {p : Firing} (hp : s.nextSecond = some p) (h : s.sr.queue = []) : s.fireBefore p = s := by
  refine State.fireWhile_of_none ?_ _
  unfold State.nextFiring
  rw [hp, State.nextLaunch_of_nil h]
  exact if_neg (by simp [Firing.before_irrefl])

section
variable (ha : s.awake = true) (hc : s.counting = true)
include ha hc

theorem State.launching_of_due {t : Nat} (hb : t ≤ s.nextBoundary) : s.launching t = true := by
  simp [State.launching, ha, hc, hb]

theorem exec_launchFire_due {l : Launch} (hl : s.nextLaunch = some l) (hb : l.at_ ≤ s.nextBoundary) :
    exec .launchFire s = .next ((s.fireBefore (l.at_, l)).fireLaunch l) := by
  show execLaunchFire s = _
  unfold execLaunchFire
  rw [hl]
  exact congrArg Host.Outcome.next (if_pos (State.launching_of_due ha hc hb))

theorem exec_linePulseSecondEdge_due {p : Firing} (hp : s.nextSecond = some p) (hb : p.1 ≤ s.nextBoundary) :
    exec .linePulseSecondEdge s = .next (
      let u := (s.fireBefore p).advanceTo p.1
      let r := ({ u with sr := { u.sr with seconds := u.sr.seconds.filter (· != p) } } : State).lineEdge
        { p.2 with at_ := p.1 } (!bitAt p.2.arg 8)
      r.2.srResult p.2.agent p.2.tun p.2.id r.1.1 r.1.2.1 p.2.res r.1.2.2.1 p.2.report) := by
  show execLinePulseSecondEdge s = _
  unfold execLinePulseSecondEdge
  rw [hp]
  refine congrArg Host.Outcome.next ((if_pos (State.launching_of_due ha hc hb)).trans ?_)
  unfold State.fireSecond State.launchEnds
  rfl

end
end

/-- Settles O31: a TIME packet by its form, the two spans word by word up to the one that acts, and the firings by what is due
before them. -/
theorem launches : Obligations.Launches := by
  intro s hs
  refine ⟨fun h words n hh ht => ⟨fun hwhole hsome hfit => ?_, fun hwhole hsome hfit => ?_, fun hbad => ⟨?_, ?_⟩⟩,
    fun a w0 w1 w2 w3 ht => ⟨s.submitCleared w0 w1 w2, exec_srSubmit_taken hs.regs w0 w1 w2 ht,
      State.submitCleared_frame w0 w1 w2, State.submitCleared_same hs.regs w0 w1 w2⟩,
    fun a w0 w1 ht => ⟨_, exec_srCancel_taken hs.regs w0 w1 ht, rfl, State.cancelCleared_same hs.regs w0⟩,
    fun l hl ha hc hb => ⟨exec_launchFire_due ha hc hl hb, State.fireBefore_nextLaunch hl⟩,
    fun p hp ha hc hb => ⟨?_, State.fireBefore_nextSecond hp⟩, rfl⟩
  · rw [exec_launchDescriptors_heard hh ht, timeForm_of_whole hwhole hsome hfit]
    rfl
  · rw [exec_launchCancel_heard hh ht, timeForm_of_whole hwhole hsome hfit]
    rfl
  · rw [exec_launchDescriptors_heard hh ht, timeForm_eq_false (by omega)]
    rfl
  · rw [exec_launchCancel_heard hh ht, timeForm_eq_false (by omega)]
    rfl
  · exact exec_linePulseSecondEdge_due ha hc hp hb

end Sys2Proof.Machine
end

section
/-! Captured edges, capture packets, and the packets of grains (O32). -/
namespace Sys2Proof.Machine

/-! ### Captured edges (R342 to R344) -/

/-- A capture line has taken a level, at a stamp that counts as its last accepted one. -/
def State.edgeTaken (s : State) (c : Nat) (rising : Bool) (stamp : Nat) : State :=
  { s with sr := { s.sr with levels := vPut s.sr.levels c (some rising), lastStamp := vPut s.sr.lastStamp c (some stamp) } }

/-- A record that finds a group's FIFO full is counted, and the loss is remembered for the next record (R344). -/
def State.captureLost (s : State) (g : Nat) : State :=
  let t := (s.bump (F.CAP_STAT_g_LOST g) 1).raise (88 + g) (F.CAP_EVT_g_OVERFLOW g)
  { t with sr := { t.sr with caps := vMod t.sr.caps g (fun f => { f with ovf := true }) } }

/-- EDGE 1 selects rising edges, 2 falling ones and 3 both. -/
theorem selects_of_edge {e : Nat} {rising : Bool} (h : e = 3 ∨ e = if rising then 1 else 2) :
    (if rising then e == 1 || e == 3 else e == 2 || e == 3) = true := by
  cases rising <;> rcases h with rfl | rfl <;> rfl

section
variable {s : State} {c : Fin 32} {rising : Bool} {half : Fin 8} {width : Nat}

/-- An edge that EDGE selects, wide enough and far enough from the last one, is accepted: its record joins the FIFO or is lost. -/
theorem exec_captureEdge_accepted (he : s.get (F.CAP_LINE_c_EDGE c) = 3 ∨ s.get (F.CAP_LINE_c_EDGE c) = if rising then 1 else 2)
    (hfar : ∀ l, vAt s.sr.lastStamp c = some l → l + 16 ≤ 2 * s.clock.time + half.val) (hc : s.counting = true)
    (hwide : 4 * s.get (F.CAP_LINE_c_FILTER c) ≤ width) (hnew : vAt s.sr.levels c ≠ some rising) :
    exec (.captureEdge c rising ⟨half, width⟩) s = .next (
      let g := c.val / 8
      let stamp := 2 * s.clock.time + half.val
      let f := vAt s.sr.caps g
      let u := s.edgeTaken c rising stamp
      if 128 ≤ f.recs.length then u.captureLost g
      else u.modCap g (fun f => ⟨f.recs ++ [(stamp / 2 % 2 ^ 32, stamp / 2 / 2 ^ 32,
        stamp % 2 + 2 ^ 8 * c.val + 2 ^ 16 * bit1 rising + 2 ^ 17 * bit1 f.ovf)], false⟩)) := by
  show execCaptureEdge c rising ⟨half, width⟩ s = _
  unfold execCaptureEdge
  have hshort : decide (width < 4 * s.get (F.CAP_LINE_c_FILTER c)) = false := by simpa using hwide
  refine congrArg Host.Outcome.next ((if_neg ?_).trans ((if_neg ?_).trans rfl))
  · simp [hshort, hnew, hc]
  · rw [selects_of_edge he, Bool.not_true, Bool.false_or]
    cases hl : vAt s.sr.lastStamp c with
    | none => exact Bool.false_ne_true
    | some l =>
      have := hfar l hl
      simp only [decide_eq_true_eq]
      omega

end

section
variable {s : State} (hw : cellsWf 0 s.regs = true) (g : Nat)
include hw

theorem State.captureLost_same : s.SameRegs (s.captureLost g) [A.CAP_STAT_g g, A.CAP_EVT_g g, A.EVT_RISE_s (88 + g)] :=
  ((State.put_reports (F.CAP_STAT_g_LOST g) _ hw).trans
    (State.raise_reports (88 + g) (F.CAP_EVT_g_OVERFLOW g) (State.bump_wf _ _ hw))).same

variable (hg : g < 4)
include hg

theorem State.get_captureLost_overflow : (s.captureLost g).get (F.CAP_EVT_g_OVERFLOW g) = 1 := by
  refine State.get_raise_same (88 + g) (F.CAP_EVT_g_OVERFLOW g) (State.bump_wf _ _ hw) (Nat.le_of_ble_eq_true rfl) ?_
  show A.CAP_EVT_g g ≠ A.EVT_RISE_s (88 + g)
  unfold A.CAP_EVT_g A.EVT_RISE_s
  omega

theorem State.get_captureLost_lost :
    (s.captureLost g).get (F.CAP_STAT_g_LOST g) = satAdd 16 (s.get (F.CAP_STAT_g_LOST g)) 1 := by
  refine (State.get_raise_ne (88 + g) (F.CAP_EVT_g_OVERFLOW g) (F.CAP_STAT_g_LOST g) (State.bump_wf _ _ hw) ?_ ?_).trans
    (State.get_bump_same (F.CAP_STAT_g_LOST g) 1 hw (Nat.le_refl 32))
  · show A.CAP_STAT_g g ≠ A.CAP_EVT_g g
    unfold A.CAP_STAT_g A.CAP_EVT_g
    omega
  · show A.CAP_STAT_g g ≠ A.EVT_RISE_s (88 + g)
    unfold A.CAP_STAT_g A.EVT_RISE_s
    omega

end

/-- A lost record changes, beside the registers and the event router, its FIFO alone. -/
theorem State.captureLost_frame (s : State) (g : Nat) : s.captureLost g = { s with
    regs := (s.captureLost g).regs, router := (s.captureLost g).router,
    sr := { s.sr with caps := vMod s.sr.caps g (fun f => { f with ovf := true }) } } := by
  unfold State.captureLost
  dsimp only
  rw [State.raise_sr]
  conv_lhs => rw [State.raise_frame]
  rfl

theorem State.captureLost_sr (s : State) (g : Nat) :
    (s.captureLost g).sr = { s.sr with caps := vMod s.sr.caps g (fun f => { f with ovf := true }) } :=
  congrArg State.sr (State.captureLost_frame s g)

/-! ### Capture packets (R345) -/

/-- The state from which a group's packet is built: at once with 64 records, else at the flush. -/
def State.flushReached (s : State) (g : Nat) : State :=
  if 64 ≤ (vAt s.sr.caps g).recs.length then s else s.advanceTo (s.capFlushAt g)

theorem exec_capturePacket_due {s : State} {g : Fin 4} {h n : Nat} (ho : s.ownerOf (32 + g) = h) (hh : h < 4)
    (hd : s.get (F.CAP_CTRL_g_DELIVERY g) = 0) (hup : s.linkUp h = true) (ha : s.awake = true)
    (hne : (vAt s.sr.caps g).recs ≠ []) (ht : s.findTun h 5 (fun n => s.tunUp h n) = some n)
    (hdue : 64 ≤ (vAt s.sr.caps g).recs.length ∨ (s.flushReached g).capFlushAt g ≤ (s.flushReached g).clock.time)
    (hroom : (s.flushReached g).qTakes ((s.flushReached g).upQueue h n false) = true) :
    exec (.capturePacket g) s = .next (
      let out := (vAt s.sr.caps g).recs.take 64
      ((s.flushReached g).queueUp h n (2 + 2 ^ 3 * out.length) true none
        (wordsBytes (out.flatMap (fun r => [w32 r.1, w32 r.2.1, w32 r.2.2, w32 0])))).modCap g
        (fun f => { f with recs := f.recs.drop 64 })) := by
  subst ho
  show execCapturePacket g s = _
  unfold execCapturePacket
  refine congrArg Host.Outcome.next ((if_neg ?_).trans ?_)
  · simp [State.flag_of_zero hd, hh, hup, ha, hne]
  · rw [ht]
    refine if_neg ?_
    show ¬ (decide ((vAt s.sr.caps g).recs.length < 64)
      && decide ((s.flushReached g).clock.time < (s.flushReached g).capFlushAt g)
      || !(s.flushReached g).qTakes ((s.flushReached g).upQueue (s.ownerOf (32 + g)) n false)) = true
    rw [hroom]
    simp only [Bool.not_true, Bool.or_false, Bool.and_eq_true, decide_eq_true_eq]
    omega

/-! ### Packets of grains (R360 to R362) -/

/-- A grain packet of a tunnel waits in the tunnel's DOWN queue. -/
def State.grainWaits (s : State) (h n : Nat) : Bool :=
  (s.queue (vAt (vAt s.bc.downMap h) n)).items.any (fun i => match i.body with
    | .cv t 1 _ _ _ _ _ _ => t == n
    | _ => false)

theorem State.grainWaits_iff {s : State} {h n : Nat} : s.grainWaits h n = true ↔
    ∃ i ∈ (s.queue (vAt (vAt s.bc.downMap h) n)).items, ∃ b l y d e z, i.body = .cv n 1 b l y d e z := by
  unfold State.grainWaits
  rw [List.any_eq_true]
  refine exists_congr fun i => and_congr_right fun _ => ⟨fun hi => ?_, ?_⟩
  · split at hi
    · next b l y d e z hb => exact ⟨b, l, y, d, e, z, by rw [hb, beq_iff_eq.1 hi]⟩
    · cases hi
  · rintro ⟨b, l, y, d, e, z, hb⟩
    rw [hb]
    exact beq_self_eq_true n

theorem exec_grainPiece_display {s : State} {h : Hp} {p : Packet} (hd : s.tunType h (pktTun p) = 1)
    (hr : s.unitRuns (9 + bitsOf (s.tunW0 h (pktTun p)) 6 3 % 2) = true) :
    exec (.grainPiece h p) s = .next (
      let n := pktTun p
      if s.grainWaits h n || !s.grainMayStart h n then
        s.enqueue (vAt (vAt s.bc.downMap h) n) ⟨.cv n 1 (pktTsf p) false (pktLast p) false false none, p.payload,
          8 * ceilDiv p.payload.length 8, false, 0⟩
      else s.grainPacket h n p) :=
  congrArg Host.Outcome.next (if_neg (by simp [hd, hr]))

/-- Settles O32: an accepted edge by the room of its FIFO, a packet that is due, and a grain packet by what waits before it. -/
theorem capturesAndGrains : Obligations.CapturesAndGrains := by
  intro s hs
  refine ⟨fun c rising half width he hfar hc hwide hnew => ?_,
    fun g h n ho hh hd hup ha hne ht hdue hroom => exec_capturePacket_due ho hh hd hup ha hne ht hdue hroom,
    fun h p hd hr => ⟨fun hm hw => ?_, fun hwait => ?_⟩⟩
  · have hexec := exec_captureEdge_accepted he hfar hc hwide hnew
    have hg : c.val / 8 < 4 := by omega
    refine ⟨fun hroom => hexec.trans (congrArg _ (if_neg (by omega))), fun hfull => ?_⟩
    let u := s.edgeTaken c rising (2 * s.clock.time + half.val)
    have hsr := State.captureLost_sr u (c.val / 8)
    refine ⟨_, hexec.trans (congrArg _ (if_pos hfull)), ?_, State.get_captureLost_overflow (s := u) hs.regs _ hg,
      State.get_captureLost_lost (s := u) hs.regs _ hg, ?_, (State.captureLost_frame u _).trans ?_,
      State.captureLost_same (s := u) hs.regs _⟩
    · exact congrArg Sirocco.caps hsr
    · rw [hsr]
      rfl
    · rw [hsr]
      rfl
  · have hwf : s.grainWaits h (pktTun p) = false := Bool.eq_false_iff.2 (fun hw' => hw (State.grainWaits_iff.1 hw'))
    rw [exec_grainPiece_display hd hr]
    exact congrArg _ (if_neg (by simp [hwf, hm]))
  · rw [exec_grainPiece_display hd hr]
    refine congrArg _ (if_pos ?_)
    rw [← State.grainWaits_iff] at hwait
    simpa [or_comm] using hwait

end Sys2Proof.Machine
end

section
/-! A head's DisplayPort link and its AUX channel (O34). -/
namespace Sys2Proof.Machine

/-! ### What a report leaves of the lane groups -/

section
variable {s t : State} {l : List Nat} (r : s.ReportsOnly t l)
include r

theorem State.ReportsOnly.groupOf (role inst : Nat) : t.groupOf role inst = s.groupOf role inst := by
  rw [r.frame]
  rfl

theorem State.ReportsOnly.awake (h : A.PWR_STATE ∉ l) : t.awake = s.awake := by
  unfold State.awake State.power
  rw [r.same F.PWR_STATE_STATE h]

theorem State.ReportsOnly.groupOn_groupOf (h : ∀ g, A.LG_CTRL g ∉ l) (role inst : Nat) :
    t.groupOn (t.groupOf role inst) = s.groupOn (s.groupOf role inst) := by
  rw [r.groupOf]
  cases s.groupOf role inst with
  | none => rfl
  | some g =>
    show t.flag (F.LG_CTRL_ENABLE g) = s.flag (F.LG_CTRL_ENABLE g)
    unfold State.flag
    rw [r.same (F.LG_CTRL_ENABLE g) (h g)]

end

/-! ### Hot-plug detect (R383) -/

/-- HPD takes a level, and its event says so. -/
def State.hpdEdge (s : State) (x v : Nat) : State := (s.put (F.HD_LINK_STATUS_HPD x) v).hdEvt x 3

/-- HPD is seen high: its event where it was low. -/
def State.hpdSeen (s : State) (x : Nat) : State := if s.get (F.HD_LINK_STATUS_HPD x) = 0 then s.hpdEdge x 1 else s

/-- The registers that a change of HPD may change. -/
def hpdRegs (x : Nat) : List Nat := [A.HD_LINK_STATUS x, A.HD_EVT x, A.EVT_RISE_s (96 + 8 * x + 3)]

/-- A head that sees HPD high reads its sink: it waits for it, awake and with its lane group enabled. -/
def State.readsSink (s : State) (x : Nat) : Bool :=
  s.dpState x = Dp.waitHpd && s.awake && s.groupOn (s.groupOf 1 x)

theorem pwrState_notMem_hpdRegs (x : Nat) : A.PWR_STATE ∉ hpdRegs x := by
  simp only [hpdRegs, A.PWR_STATE, A.HD_LINK_STATUS, A.HD_EVT, A.EVT_RISE_s, List.mem_cons, List.not_mem_nil, or_false]
  omega

theorem lgCtrl_notMem_hpdRegs (x g : Nat) : A.LG_CTRL g ∉ hpdRegs x := by
  simp only [hpdRegs, A.LG_CTRL, A.HD_LINK_STATUS, A.HD_EVT, A.EVT_RISE_s, List.mem_cons, List.not_mem_nil, or_false]
  omega

section
variable {s : State} {x : Fin 2} (hw : cellsWf 0 s.regs = true)
include hw

/-- An event of a head leaves the state of its link. -/
theorem State.dpState_hdEvt {i : Nat} (hi : i < 8) : (s.hdEvt x i).dpState x = s.dpState x := by
  refine State.get_raise_ne (96 + 8 * x + i) _ (F.HD_LINK_STATUS_STATE x) hw ?_ ?_
  · show A.HD_LINK_STATUS x ≠ A.HD_EVT x
    unfold A.HD_LINK_STATUS A.HD_EVT
    omega
  · show A.HD_LINK_STATUS x ≠ A.EVT_RISE_s (96 + 8 * x + i)
    unfold A.HD_LINK_STATUS A.EVT_RISE_s
    omega

theorem State.dpState_hpdEdge (v : Nat) : (s.hpdEdge x v).dpState x = s.dpState x :=
  (State.dpState_hdEvt (State.put_wf _ v hw) (by decide)).trans
    (State.get_put_disj (F.HD_LINK_STATUS_HPD x) (F.HD_LINK_STATUS_STATE x) v hw (Nat.le_of_ble_eq_true rfl) rfl
      (.inl (Nat.le_of_ble_eq_true rfl)))

theorem State.hpdEdge_reports (v : Nat) : s.ReportsOnly (s.hpdEdge x v) (hpdRegs x) :=
  (State.put_reports (F.HD_LINK_STATUS_HPD x) v hw).trans (State.raise_reports _ _ (State.put_wf _ v hw))

theorem State.readsSink_hpdSeen : (s.hpdSeen x).readsSink x = s.readsSink x := by
  unfold State.hpdSeen
  split
  · have r := State.hpdEdge_reports (x := x) hw 1
    unfold State.readsSink
    rw [State.dpState_hpdEdge hw, r.awake (pwrState_notMem_hpdRegs x), r.groupOn_groupOf (lgCtrl_notMem_hpdRegs x)]
  · rfl

theorem State.groupOf_hpdSeen : (s.hpdSeen x).groupOf 1 x = s.groupOf 1 x := by
  unfold State.hpdSeen
  split
  · exact (State.hpdEdge_reports hw 1).groupOf 1 x
  · rfl

section
variable (hr : s.unitRuns (9 + x) = true)
include hr

theorem exec_hpdHigh_of_runs (dpcd : List Byte) :
    exec (.hpdHigh x dpcd) s = .next (if s.readsSink x then
      ((s.groupOf 1 x).elim (s.hpdSeen x) (s.hpdSeen x).flexForget).dpCaps x dpcd else s.hpdSeen x) := by
  have hseen : (if s.flag (F.HD_LINK_STATUS_HPD x) then s else (s.put (F.HD_LINK_STATUS_HPD x) 1).hdEvt x 3)
      = s.hpdSeen x := by
    by_cases h : s.get (F.HD_LINK_STATUS_HPD x) = 0 <;> simp [State.flag, State.hpdSeen, State.hpdEdge, h]
  show execHpdHigh x dpcd s = _
  unfold execHpdHigh
  rw [hr]
  refine congrArg Host.Outcome.next ((if_neg (by decide)).trans ?_)
  dsimp only
  rw [hseen, ← State.readsSink_hpdSeen hw, ← State.groupOf_hpdSeen hw]
  unfold State.readsSink
  cases (s.hpdSeen x).groupOf 1 x with
  | none => rfl
  | some g => simp only [Option.elim_some]

theorem exec_hpdLow_of_runs : exec (.hpdLow x) s
    = .next (if s.dpState x = Dp.off then s.hpdEdge x 0 else (s.hpdEdge x 0).dpIdle x Dp.waitHpd) := by
  show execHpdLow x s = _
  unfold execHpdLow
  rw [hr, ← State.dpState_hpdEdge hw 0]
  rfl

theorem exec_irqHpd_of_runs (lost : Bool) : exec (.irqHpd x lost) s
    = .next (if lost = true ∧ s.dpState x = Dp.active then ((s.hdEvt x 4).hdEvt x 5).dpTrain x (vAt s.pl.cand x)
      else s.hdEvt x 4) := by
  have hpl : (s.hdEvt x 4).pl = s.pl := State.raise_pl _ _ _
  show execIrqHpd x lost s = _
  unfold execIrqHpd
  simp only [hr, Bool.not_true, Bool.false_eq_true, if_false, State.dpState_hdEvt hw (by decide : 4 < 8), hpl, Bool.and_eq_true,
    decide_eq_true_eq]

end
end

/-! ### The head's own AUX writes (R384, log entry 155) -/

section
variable {s : State} {x addr : Nat} {bs : List Nat}

theorem State.auxWrite_of_free (h : vAt s.pl.aux x = none) : s.auxWrite x addr bs = s.auxPut x addr bs :=
  if_neg (by simp [h])

/-- While a host's transaction runs the write is held back behind it. -/
theorem State.auxWrite_of_busy (h : vAt s.pl.aux x ≠ none) : s.auxWrite x addr bs
    = { s with pl := { s.pl with auxOwn := vMod s.pl.auxOwn x (· ++ [(addr, bs)]) } } :=
  if_pos (Option.isSome_iff_ne_none.2 h)

theorem State.auxWrite_frame (s : State) (x addr : Nat) (bs : List Nat) : s.auxWrite x addr bs
    = { s with out := (s.auxWrite x addr bs).out, pl := (s.auxWrite x addr bs).pl } := by
  cases h : vAt s.pl.aux x with
  | none => rw [State.auxWrite_of_free h]; rfl
  | some r => rw [State.auxWrite_of_busy (by simp [h])]

theorem State.auxWrite_regs (s : State) (x addr : Nat) (bs : List Nat) : (s.auxWrite x addr bs).regs = s.regs := by
  rw [State.auxWrite_frame]

theorem State.get_auxWrite (s : State) (x addr : Nat) (bs : List Nat) (g : FRef) :
    (s.auxWrite x addr bs).get g = s.get g :=
  State.get_congr (State.auxWrite_regs s x addr bs) g

end

/-! ### The training steps (R382, R383) -/

/-- Clock recovery is done: the link is in EQ, and no read of its sink counts yet. -/
def State.eqEntered (s : State) (x : Nat) : State :=
  let u := s.put (F.HD_LINK_STATUS_STATE x) Dp.eq
  { u with pl := { u.pl with reads := vPut u.pl.reads x 0 } }

section
variable {s : State} {x : Fin 2}

theorem State.eqEntered_dpPattern (hw : cellsWf 0 s.regs = true) : (s.eqEntered x).dpPattern x = s.dpPattern x := by
  have hrate : (s.eqEntered x).get (F.HD_LINK_STATUS_RATE x) = s.get (F.HD_LINK_STATUS_RATE x) :=
    State.get_put_disj (F.HD_LINK_STATUS_STATE x) (F.HD_LINK_STATUS_RATE x) _ hw (Nat.le_of_ble_eq_true rfl) rfl
      (.inr (Nat.le_of_ble_eq_true rfl))
  unfold State.dpPattern
  rw [hrate]
  rfl

section
variable (hcr : s.dpState x = Dp.cr) (adj : BitVec 16)
include hcr

theorem exec_crWait_done (hw : cellsWf 0 s.regs = true) :
    exec (.crWait x true adj) s = .next ((s.eqEntered x).auxWrite x 0x102 [s.dpPattern x]) := by
  show execCrWait x true adj s = _
  unfold execCrWait
  rw [hcr, ← State.eqEntered_dpPattern hw]
  rfl

theorem exec_crWait_undone : exec (.crWait x false adj) s = .next (
    let n := s.get (F.HD_LINK_STATUS_LANES x)
    let reads := vAt s.pl.reads x + 1
    let asked (l : Nat) : Nat := bitsOf adj.toNat (4 * l) 2
    let same := (List.range n).all (fun l => s.dpSwing x l == asked l)
    let u : State := { s with pl := { s.pl with reads := vPut s.pl.reads x (if same then reads else 0) } }
    if (∃ l < n, s.dpSwing x l = 3) ∨ 5 ≤ reads then s.dpTrain x (vAt s.pl.cand x + 1)
    else u.dpLevels x asked (fun l => bitsOf adj.toNat (4 * l + 2) 2)) := by
  show execCrWait x false adj s = _
  unfold execCrWait
  rw [hcr]
  simp only [bne_self_eq_false, Bool.false_eq_true, if_false, Bool.or_eq_true, List.any_eq_true, List.mem_range,
    beq_iff_eq, decide_eq_true_eq]

end

section
variable (heq : s.dpState x = Dp.eq)
include heq

theorem exec_eqWait_succeeds : exec (.eqWait x true true) s
    = .next ((((s.auxWrite x 0x102 [0]).put (F.HD_LINK_STATUS_STATE x) Dp.active).dpLanes x laneActive).hdEvt x 5) := by
  show execEqWait x true true s = _
  unfold execEqWait
  rw [heq]
  rfl

theorem exec_eqWait_of_not {crOk eqOk : Bool} (hf : (crOk && eqOk) = false) : exec (.eqWait x crOk eqOk) s = .next (
    let reads := vAt s.pl.reads x + 1
    if crOk = false ∨ 6 ≤ reads then s.dpTrain x (vAt s.pl.cand x + 1)
    else { s with pl := { s.pl with reads := vPut s.pl.reads x reads } }) := by
  show execEqWait x crOk eqOk s = _
  unfold execEqWait
  rw [heq, hf]
  simp only [bne_self_eq_false, Bool.false_eq_true, if_false, Bool.or_eq_true, Bool.not_eq_true', decide_eq_true_eq]

end
end

/-! ### The owner's writes (R383, R384) -/

theorem wregAt_hdLinkCfg : ∀ x : Fin 2, wregAt (A.HD_LINK_CFG x) = some (.hdLinkCfg x) := by decide +kernel

theorem wregAt_hdAuxCtrl : ∀ x : Fin 2, wregAt (A.HD_AUX_CTRL x) = some (.hdAuxCtrl x) := by decide +kernel

theorem hdLinkCfg_plain (x : Nat) : (WReg.hdLinkCfg x).Plain := ⟨rfl, fun _ => rfl, rfl, fun _ _ => rfl⟩

theorem hdAuxCtrl_plain (x : Nat) : (WReg.hdAuxCtrl x).Plain := ⟨rfl, fun _ => rfl, rfl, fun _ _ => rfl⟩

/-- RETRAIN of HD_LINK_CFG acts by itself. -/
theorem State.wordEffect_retrain (s : State) (a x : Nat) :
    (s.wordEffect a (.hdLinkCfg x) [⟨F.HD_LINK_CFG_RETRAIN x, .sc, .live, 1⟩]).2 = s.dpRetrain x := by
  rw [State.wordEffect_of_plain (r := .hdLinkCfg x) rfl nofun nofun nofun, State.storeWord_sc]
  rfl

/-- START of HD_AUX_CTRL acts by itself. -/
theorem State.wordEffect_auxStart (s : State) (a x : Nat) :
    (s.wordEffect a (.hdAuxCtrl x) [⟨F.HD_AUX_CTRL_START x, .sc, .live, 1⟩]).2 = s.auxStart x := by
  rw [State.wordEffect_of_plain (r := .hdAuxCtrl x) rfl nofun nofun nofun, State.storeWord_sc]
  rfl

/-- The request that a host has put in a head's AUX registers. -/
def State.auxAsked (s : State) (x : Nat) : AuxReq :=
  ⟨s.get (F.HD_AUX_REQ_CMD x), s.get (F.HD_AUX_REQ_ADDR x), s.get (F.HD_AUX_REQ_LEN_M1 x) + 1, 0, 0⟩

/-- A host's transaction has begun: START is set, DONE clear, and its request kept. -/
def State.auxBegun (s : State) (x : Nat) : State :=
  let u := (s.put (F.HD_AUX_CTRL_START x) 1).put (F.HD_AUX_STATUS_DONE x) 0
  { u with pl := { u.pl with aux := vPut u.pl.aux x (some (s.auxAsked x)) } }

section
variable {s : State} {a : Agent} {x : Fin 2}

section
variable (ho : s.owns a x = true)
include ho

/-- The owner of a head writes its HD_LINK_CFG (R638). -/
theorem State.mayWrite_hdLinkCfg (lsb v : Nat) : s.mayWrite a (.hdLinkCfg x) lsb v = true := by
  have hx : (x : Nat) < 56 := Nat.lt_trans x.isLt (by decide)
  simpa [State.mayWrite, State.regRes, hx] using ho

/-- The owner of a head writes its HD_AUX_CTRL (R638). -/
theorem State.mayWrite_hdAuxCtrl (lsb v : Nat) : s.mayWrite a (.hdAuxCtrl x) lsb v = true := by
  have hx : (x : Nat) < 56 := Nat.lt_trans x.isLt (by decide)
  simpa [State.mayWrite, State.regRes, hx] using ho

theorem exec_dpRetrain_of_taken (ht : s.TakesField a (A.HD_LINK_CFG x) 8 1 1) :
    exec (.dpRetrain a x) s = .next (s.dpRetrain x) := by
  have h := State.fieldArrives_of_live (acc := .sc) (wregAt_hdLinkCfg x) (hdLinkCfg_plain x) (by decide)
    (List.mem_cons_of_mem _ (List.mem_cons_of_mem _ List.mem_cons_self)) rfl (by unfold A.HD_LINK_CFG; omega) ht
    ⟨rfl, State.mayWrite_hdLinkCfg ho _, rfl, rfl, rfl⟩
  exact congrArg Host.Outcome.next (h.trans (State.wordEffect_retrain s a x))

theorem exec_auxStart_of_taken (ht : s.TakesField a (A.HD_AUX_CTRL x) 0 1 1)
    (hd : auxDenied (s.auxAsked x).cmd (s.auxAsked x).addr (s.auxAsked x).len = false) :
    exec (.auxStart a x) s = .next (s.auxStart x) := by
  have h := State.fieldArrives_of_live (acc := .sc) (wregAt_hdAuxCtrl x) (hdAuxCtrl_plain x) (by decide)
    List.mem_cons_self rfl (by unfold A.HD_AUX_CTRL; omega) ht
    ⟨rfl, State.mayWrite_hdAuxCtrl ho _, rfl, hd, rfl⟩
  exact congrArg Host.Outcome.next (h.trans (State.wordEffect_auxStart s a x))

end

theorem State.auxStart_of_free (x : Nat) (h : vAt s.pl.aux x = none) :
    s.auxStart x = (s.auxBegun x).auxSend x (s.auxAsked x) :=
  if_neg (by simp [h])

/-- The registers at the start of a transaction: START, DONE, and no other. -/
theorem State.auxBegun_shows (hw : cellsWf 0 s.regs = true) :
    (s.auxBegun x).get (F.HD_AUX_CTRL_START x) = 1 ∧ (s.auxBegun x).get (F.HD_AUX_STATUS_DONE x) = 0
      ∧ s.SameRegs (s.auxBegun x) [A.HD_AUX_CTRL x, A.HD_AUX_STATUS x] := by
  have r1 := State.put_reports (F.HD_AUX_CTRL_START x) 1 hw
  have r2 := State.put_reports (F.HD_AUX_STATUS_DONE x) 0 r1.wf
  have hne : A.HD_AUX_CTRL x ∉ [A.HD_AUX_STATUS x] := by simp [A.HD_AUX_CTRL, A.HD_AUX_STATUS]
  refine ⟨?_, State.get_put_same (F.HD_AUX_STATUS_DONE x) 0 r1.wf (Nat.le_of_ble_eq_true rfl), (r1.trans r2).same⟩
  exact (r2.same (F.HD_AUX_CTRL_START x) hne).trans
    (State.get_put_same (F.HD_AUX_CTRL_START x) 1 hw (Nat.le_of_ble_eq_true rfl))

end

/-- Settles O34: plug events by what they leave of the link's state, the training waits by their state, the owner's writes, and
a reply by its kind. -/
theorem displayLinks : Obligations.DisplayLinks := by
  intro s x hs
  refine ⟨fun hrun => ⟨fun dpcd => ⟨fun hno => ?_, fun g hst ha hg hen => ?_⟩, exec_hpdLow_of_runs hs.regs hrun,
      fun lost hno => ?_, fun hst => ?_⟩,
    fun hcr adj => ⟨?_, fun hend => ?_, fun hlow hreads => ?_⟩,
    fun heq => ⟨exec_eqWait_succeeds heq, fun ok => ?_, fun hreads => ?_, fun hreads => ?_⟩,
    fun a ho => ⟨fun ht hst => ?_, fun ht hfree hok => ?_⟩, fun r data haux => ?_⟩
  · rw [exec_hpdHigh_of_runs hs.regs hrun]
    refine congrArg _ (if_neg ?_)
    unfold State.readsSink
    obtain h | h | h := hno <;> simp [h]
  · rw [exec_hpdHigh_of_runs hs.regs hrun, hg, Option.elim_some, if_pos]
    · rfl
    · simp [State.readsSink, hst, ha, hg, State.groupOn, State.flag_of_one hen]
  · exact (exec_irqHpd_of_runs hs.regs hrun lost).trans (congrArg _ (if_neg (by rintro ⟨rfl, h⟩; simp [h] at hno)))
  · exact (exec_irqHpd_of_runs hs.regs hrun true).trans (congrArg _ (if_pos ⟨rfl, hst⟩))
  · have hget := State.get_auxWrite (s.eqEntered x) x 0x102 [s.dpPattern x]
    refine ⟨_, exec_crWait_done hcr adj hs.regs, ?_, fun hfree => ?_, fun hbusy => ?_, ?_, fun g hg => ?_⟩
    · exact (hget _).trans (State.get_put_same (F.HD_LINK_STATUS_STATE x) Dp.eq hs.regs (Nat.le_of_ble_eq_true rfl))
    · rw [State.auxWrite_of_free (s := s.eqEntered x) hfree]
      exact ⟨rfl, rfl⟩
    · rw [State.auxWrite_of_busy (s := s.eqEntered x) hbusy]
      exact ⟨rfl, rfl⟩
    · refine (State.auxWrite_frame (s.eqEntered x) x 0x102 [s.dpPattern x]).trans ?_
      rw [State.auxWrite_regs]
      rfl
    · exact (hget g).trans ((State.put_reports (F.HD_LINK_STATUS_STATE x) Dp.eq hs.regs).same g hg)
  · exact (exec_crWait_undone hcr adj).trans (congrArg _ (if_pos hend))
  · refine (exec_crWait_undone hcr adj).trans (congrArg _ (if_neg ?_))
    rintro (⟨l, hl, h3⟩ | h5)
    · exact hlow l hl h3
    · omega
  · exact (exec_eqWait_of_not heq rfl).trans (congrArg _ (if_pos (.inl rfl)))
  · exact (exec_eqWait_of_not heq rfl).trans (congrArg _ (if_pos (.inr hreads)))
  · exact (exec_eqWait_of_not heq rfl).trans (congrArg _ (if_neg (not_or.2 ⟨nofun, Nat.not_le.2 hreads⟩)))
  · exact (exec_dpRetrain_of_taken ho ht).trans (congrArg _ (if_pos hst))
  · obtain ⟨hstart, hdone, same⟩ := State.auxBegun_shows (x := x) hs.regs
    exact ⟨s.auxBegun x, (exec_auxStart_of_taken ho ht hok).trans (congrArg _ (State.auxStart_of_free x hfree)), hstart,
      hdone, rfl, rfl, same⟩
  · have hreply (kind : Fin 6) : exec (.auxReply x kind data) s = execAuxReply x kind data s := rfl
    simp only [hreply, execAuxReply, haux]
    exact ⟨rfl, rfl, rfl, rfl, rfl, rfl⟩

end Sys2Proof.Machine
end

section
/-! The free grains of a pool (O58). -/
namespace Sys2Proof.Machine

section
variable {s : State}

theorem State.freeGrain_of_grain (x : Nat) {g : Nat} (h : g ≠ noGrain) :
    s.freeGrain x g = { s with pl := { s.pl with free := vPut s.pl.free x (vAt s.pl.free x ++ [g]) } } :=
  if_neg h

/-- The first grain of head `x`'s list has gone to host `h`'s message on tunnel `n` (R352, R361). -/
def State.grainTaken (s : State) (h n x g : Nat) (rest : List Nat) : State :=
  { s with pl := { s.pl with
    free := vPut s.pl.free x rest, tags := cellSet 7 s.pl.tags g h,
    started := cellSet 0 s.pl.started (64 * h + n) (cellGet 0 s.pl.started (64 * h + n) + 1) } }

/-- The message that a packet with no message before it begins, as yet without a grain. -/
def State.grainNew (s : State) (h n : Nat) (p : Packet) : GrainMsg :=
  ⟨false, bitsOf (s.tunW0 h n) 6 3 % 2, pktBits p 41 5, pktBits p 46 6, pktBits p 52 6, pktBits p 58 2, noGrain, 0, 0⟩

/-- The first packet of a message to a place inside a surface in use is decided by the free list of the surface's head. -/
theorem State.grainPacket_first {h n : Nat} {p : Packet} (hm : s.grainMsg h n = none) :
    let m := s.grainNew h n p
    s.surfFmt m.x m.surf ≠ 0 → m.gx < s.surfW m.x m.surf → m.gy < s.surfH m.x m.surf →
      (∀ g rest, vAt s.pl.free m.x = g :: rest →
        s.grainPacket h n p = ((s.grainTaken h n m.x g rest).poolRegs m.x).grainPut h n { m with grain := g } p)
      ∧ (vAt s.pl.free m.x = [] → s.grainPacket h n p = s.grainDiscard h n m 3 (pktLast p)) := by
  intro m hfmt hgx hgy
  dsimp only [m, State.grainNew] at hfmt hgx hgy ⊢
  unfold State.grainPacket
  simp only [hm, hfmt, Nat.not_le.2 hgx, Nat.not_le.2 hgy, decide_false, Bool.or_self, Bool.false_eq_true, if_false]
  refine ⟨fun g rest hf => ?_, fun hf => ?_⟩
  · rw [hf]
    rfl
  · rw [hf]

end

/-- Settles O58: a grain joins the back of the list, and a message's first packet takes the front or finds none. -/
theorem grainPools : Obligations.GrainPools := by
  intro s _
  refine ⟨fun x g hg => ?_, fun h n p hm => ?_⟩
  · rw [State.freeGrain_of_grain x hg]
    exact ⟨vAt_vPut_same _ _ _, rfl⟩
  · intro x surf gx gy m hfmt hgx hgy
    obtain ⟨takes, discards⟩ := State.grainPacket_first hm hfmt hgx hgy
    exact ⟨fun g rest hf => ⟨vAt_vPut_same _ _ _, takes g rest hf⟩, discards⟩

end Sys2Proof.Machine
end

section
/-! A frame on a switch port, the forwarding table, the gates, gPTP and a port's link (O36). -/
namespace Sys2Proof.Machine

/-! ### ETH_FDB_FLUSH (R416, R432) -/

theorem wregAt_ethFdbFlush : wregAt A.ETH_FDB_FLUSH = some .ethFdbFlush := by decide +kernel

section
variable {s : State} {a v : Nat} {ws : List Wr}

section
variable {r : WReg} (hlive : ∀ w ∈ ws, w.cls = .live)
include hlive

/-- A word of LIVE fields is refused for its writer, its values and what the present state refuses, for nothing else. -/
theorem State.wordJudge_of_live (hmay : ∀ w ∈ ws, s.mayField a r (r.word v) w = true)
    (hval : ∀ w ∈ ws, valueOk r w.f.lsb w.v = true) (hd : s.wordDenied r ws = false) (hb : s.wordBusy r ws = false) :
    s.wordJudge a r v ws = R.ok := by
  have hquiet : s.quietPut ws = s := foldl_fixed_of_mem _ s ws (fun w hw => if_neg (by simp [hlive w hw]))
  have hnone : ws.any (·.cls == .quiet) = false := List.any_eq_false.2 (fun w hw => by simp [hlive w hw])
  unfold State.wordJudge
  rw [hquiet, hnone, List.all_eq_true.2 hmay, List.all_eq_true.2 hval, hd, hb]
  rfl

theorem any_tick_of_live : ws.any (·.cls == .tick) = false :=
  List.any_eq_false.2 (fun w hw => by simp [hlive w hw])

/-- The staging set bars no word of LIVE fields. -/
theorem State.stageBar_of_live : s.stageBar a ws = none :=
  if_pos (by rw [any_tick_of_live hlive]; rfl)

/-- A word of write-only LIVE fields leaves nothing in its register. -/
theorem State.storeWord_of_wo (hwo : ∀ w ∈ ws, w.acc = .wo) : s.storeWord a ws = s := by
  unfold State.storeWord
  rw [any_tick_of_live hlive]
  exact foldl_fixed_of_mem _ s ws (fun w hw => by rw [hwo w hw])

end

section
variable (s a v)

/-- The fields of the flush word are write-only and LIVE. -/
theorem State.written_ethFdbFlush_wo : ∀ w ∈ s.written a .ethFdbFlush v, w.acc = .wo ∧ w.cls = .live := by
  intro w hw
  obtain ⟨f, hf, hit⟩ := List.mem_filterMap.1 hw
  have hfield : f.acc = .wo ∧ f.cls = .live := by
    rcases List.mem_pair.1 hf with rfl | rfl <;> exact ⟨rfl, rfl⟩
  obtain ⟨-, hsome⟩ := Option.ite_none_right_eq_some.1 hit
  obtain rfl := Option.some.inj hsome
  exact hfield

/-- VID and ALL of the flush word, where it writes them and where it leaves them 0. -/
theorem State.wrAt_written_ethFdbFlush :
    (wrAt (s.written a .ethFdbFlush v) 0).getD 0 = bitsOf v 0 12
      ∧ (wrAt (s.written a .ethFdbFlush v) 16).getD 0 = bitsOf v 16 1 := by
  by_cases hvid : bitsOf v 0 12 = 0 <;> by_cases hall : bitsOf v 16 1 = 0 <;>
    simp [State.written, WReg.fields, WReg.word, WReg.always, WReg.fref, wrAt, hvid, hall]

end

section
variable (hs : s.sharedWriter a = true) (hv : bitsOf v 0 12 ≠ 0 ∨ bitsOf v 16 1 = 1)
include hs hv

/-- A flush word that names a VLAN or all of them, from a shared writer, flushes the table. -/
theorem State.writeWord_ethFdbFlush :
    (s.writeWord a A.ETH_FDB_FLUSH v).2 = s.fdbFlush (bitsOf v 0 12 + 2 ^ 16 * bitsOf v 16 1) := by
  have hwo := fun w hw => (s.written_ethFdbFlush_wo a v w hw).1
  have hlive := fun w hw => (s.written_ethFdbFlush_wo a v w hw).2
  obtain ⟨hvid, hall⟩ := s.wrAt_written_ethFdbFlush a v
  have hne : s.written a .ethFdbFlush v ≠ [] := by
    intro h
    rw [h] at hvid hall
    change 0 = _ at hvid hall
    omega
  have hmay (w : Wr) : s.mayField a .ethFdbFlush v w = true := by
    simp [State.mayField, State.mayWrite, State.regRes, hs]
  have hj : s.wordJudge a .ethFdbFlush v (s.written a .ethFdbFlush v) = R.ok :=
    State.wordJudge_of_live hlive (fun w _ => hmay w) (fun _ _ => rfl) rfl rfl
  rw [State.writeWord_of_judged wregAt_ethFdbFlush hne hj, State.stageBar_of_live hlive]
  show (s.wordEffect a .ethFdbFlush _).2 = _
  rw [State.wordEffect_of_plain (r := .ethFdbFlush) rfl nofun nofun nofun, State.storeWord_of_wo hlive hwo]
  show s.fdbFlush ((wrAt _ 0).getD 0 + 2 ^ 16 * (wrAt _ 16).getD 0) = _
  rw [hvid, hall]

end
end

theorem exec_ethFdbFlush_taken {s : State} {a : Agent} {v : Word} (ht : s.TakesWords a A.ETH_FDB_FLUSH [v])
    (hs : s.sharedWriter a = true) (hv : bitsOf v.toNat 0 12 ≠ 0 ∨ bitsOf v.toNat 16 1 = 1) :
    exec (.ethFdbFlush a v) s = .next (s.fdbFlush (bitsOf v.toNat 0 12 + 2 ^ 16 * bitsOf v.toNat 16 1)) :=
  congrArg Host.Outcome.next ((State.wordsArrive_one s a _ v ht (by decide)).trans (State.writeWord_ethFdbFlush hs hv))

/-! ### Frames and the age of entries (R415, R416) -/

section
variable {s : State}

section
variable (frame : List Byte) (wire : EthIn) (n : Fin 64) (req : Bool) (i : Byte) (tc : Fin 8) (ha : s.awake = true) {q : Fin 8}
include ha

theorem exec_ethFrameReceive_external (hq : q.val < 4) :
    exec (.ethFrameReceive q frame wire n req i tc) s = .next (s.ethFromWire q frame wire) :=
  congrArg Host.Outcome.next ((if_neg (by simp [ha])).trans (if_pos hq))

theorem exec_ethFrameReceive_tunnel (hq : 4 ≤ q.val) :
    exec (.ethFrameReceive q frame wire n req i tc) s = .next (s.ethFromHost (q.val - 4) n tc i.toNat req frame) :=
  congrArg Host.Outcome.next ((if_neg (by simp [ha])).trans (if_neg (Nat.not_lt.2 hq)))

end

theorem exec_fdbAgeOut_aged (h : s.get F.ETH_AGE_SEC ≠ 0) : exec .fdbAgeOut s
    = .next (s.fdbPut (s.et.fdb.filter (fun e => decide (s.clock.time < e.time + s.get F.ETH_AGE_SEC * 1000000000)))) :=
  congrArg Host.Outcome.next (if_neg h)

/-! ### The gates (R421) -/

variable {p : Fin 4}

/-- TIME goes to the end of the entry in which it stands. -/
theorem exec_gateEntryStart_running {l t0 e : Nat} (ho : vAt s.et.oper p = some (l, t0)) :
    let es := s.gclEntries p l
    let cycle := (es.map (·.2)).sum
    let pos := (s.clock.time - t0) % cycle
    cycle ≠ 0 → t0 ≤ s.clock.time →
      ((List.range es.length).map (fun i => ((es.take (i + 1)).map (·.2)).sum)).find? (fun e => decide (pos < e)) = some e →
      exec (.gateEntryStart p) s = .next (s.advanceTo (s.clock.time + (e - pos))) := by
  intro es cycle pos hcycle htime hend
  have hruns : ¬ (cycle = 0 || decide (s.clock.time < t0)) = true := by simp [hcycle, htime]
  show execGateEntryStart p s = _
  unfold execGateEntryStart
  rw [ho]
  refine congrArg Host.Outcome.next ((if_neg hruns).trans ?_)
  dsimp only
  rw [hend]

/-! ### gPTP (R428, R429) -/

section
variable (he : s.get (F.GP_CTRL_p_EN p) = 1)
include he

section
variable (hu : s.unitRuns 13 = true) (ha : s.awake = true)
include hu ha

section
variable (hl : s.get (F.ETH_PSTATUS_LINK p) = 1)
include hl

/-- gPTP runs on the port, so that the exchange that is due is made. -/
theorem State.pdelay_runs :
    ¬ (!s.flag (F.GP_CTRL_p_EN p) || !s.unitRuns 13 || !s.flag (F.ETH_PSTATUS_LINK p) || !s.awake) = true := by
  simp [State.flag_of_one he, State.flag_of_one hl, hu, ha]

/-- A good exchange, which counts where its delay is within THRESH. -/
theorem exec_pdelayExchange_good (d : Nat) (ppb : Int) :
    let r := (s.advanceTo (vAt s.et.pdNext p)).pdRequest p
    let u := (r.put (F.GP_DELAY_p_NS p) (min d (2 ^ 32 - 1))).put (F.GP_RATIO_p_PPB p) (toBits 32 (clampSigned 32 ppb))
    let n := min 3 (vAt r.et.good p + 1)
    let v : State := { u with et := { u.et with good := vPut u.et.good p n } }
    exec (.pdelayExchange p true d ppb) s
      = .next (if d ≤ 16 * u.get (F.GP_CTRL_p_THRESH p) then (if n = 3 then v.asCapable p true else v)
        else ({ u with et := { u.et with good := vPut u.et.good p 0 } } : State).asCapable p false) := by
  intro r u n v
  refine congrArg Host.Outcome.next ((if_neg (State.pdelay_runs he hu ha hl)).trans ?_)
  by_cases hd : d ≤ 16 * u.get (F.GP_CTRL_p_THRESH p)
  · exact (if_pos (decide_eq_true hd)).trans (if_pos hd).symm
  · exact (if_neg (fun h => hd (of_decide_eq_true h))).trans (if_neg hd).symm

/-- An exchange that is not good starts the count anew. -/
theorem exec_pdelayExchange_bad (d : Nat) (ppb : Int) :
    let r := (s.advanceTo (vAt s.et.pdNext p)).pdRequest p
    exec (.pdelayExchange p false d ppb) s
      = .next (({ r with et := { r.et with good := vPut r.et.good p 0 } } : State).asCapable p false) :=
  congrArg Host.Outcome.next ((if_neg (State.pdelay_runs he hu ha hl)).trans (if_neg Bool.false_ne_true))

end

theorem exec_syncTimeout_running :
    exec (.syncTimeout p) s = .next ((s.put (F.GP_STATUS_p_SYNC_OK p) 0).gptpChg p) :=
  congrArg Host.Outcome.next (if_pos (by simp [State.flag_of_one he, hu, ha]))

end

/-- A Sync on a port that is asCapable. -/
theorem exec_syncReceive_capable (hc : s.get (F.GP_STATUS_p_AS_CAPABLE p) = 1) (o : SyncIn) (c : Int) :
    exec (.syncReceive p o c) s = .next ((s.put (F.GP_STATUS_p_SYNC_OK p) 1).measured (1 + p)
      ((o.origin : Int) + c + (((s.get (F.GP_DELAY_p_NS p) : Nat) : Int) * (1000000000 + signedOf 32 (s.get (F.GP_RATIO_p_PPB p))))
        / 16000000000 - ((s.todAt (s.clock.time + o.fine) : Nat) : Int))) :=
  congrArg Host.Outcome.next (if_neg (by simp [State.flag_of_one he, State.flag_of_one hc]))

end

/-! ### The link of an external port (R408, R432) -/

section
variable (hu : s.unitRuns 13 = true) (hl : s.ethLane p ≠ none)
include hu hl

theorem exec_ethLinkChange_up (he : s.get (F.ETH_PCTRL_ENABLE p) = 1) (hg : s.ethGroupOn p = true) (ha : s.awake = true) :
    exec (.ethLinkChange p true) s = .next ((s.ethFresh p).ethLink p true) :=
  congrArg Host.Outcome.next ((if_neg (by simp [hu, hl, State.flag_of_one he, hg, ha])).trans (if_pos rfl))

theorem exec_ethLinkChange_down : exec (.ethLinkChange p false) s = .next ((s.ethLink p false).gptpStop p) :=
  congrArg Host.Outcome.next ((if_neg (by simp [hu, hl])).trans (if_neg Bool.false_ne_true))

end
end

/-- Settles O36: frames, the table, the gates, gPTP and link changes, each by the lemma of its command; a flush word is one of
write-only LIVE fields, so that it comes to the flush that it names. -/
theorem switchAndGptp : Obligations.SwitchAndGptp := by
  intro s _
  refine ⟨fun q frame ok n req i tc ha => ⟨exec_ethFrameReceive_external frame ok n req i tc ha,
      exec_ethFrameReceive_tunnel frame ok n req i tc ha⟩,
    exec_fdbAgeOut_aged, fun a v => exec_ethFdbFlush_taken, fun p => ⟨fun l t0 e => exec_gateEntryStart_running,
      fun he hu hl ha d ppb => ⟨exec_pdelayExchange_good he hu ha hl d ppb, exec_pdelayExchange_bad he hu ha hl d ppb⟩,
      exec_syncReceive_capable, exec_syncTimeout_running, fun hu hl => ⟨exec_ethLinkChange_up hu hl, exec_ethLinkChange_down hu hl⟩⟩⟩

end Sys2Proof.Machine
end

section
/-! A face's attach, reset, suspend, resume and L1, and its management function's transfers (O37). -/
namespace Sys2Proof.Machine

/-! ### A face's hub starts anew (R440, R442, R455) -/

section
variable {s : State}

theorem State.iff_reports {c : Bool} {f : State → State} {l : List Nat} (hw : cellsWf 0 s.regs = true)
    (hf : s.ReportsOnly (f s) l) : s.ReportsOnly (s.iff c f) l := by
  cases c
  · exact (State.ReportsOnly.refl hw).mono (by simp)
  · exact hf

/-- TT_BUSY of every port follows the translators: of the registers, the ports' status words alone change. -/
theorem State.ttShows_reports (hw : cellsWf 0 s.regs = true) :
    s.ReportsOnly (s.each (List.range 8) State.ttShow) ((List.range 8).map A.DS_STATUS_n) :=
  State.each_reports _ _ (fun n hn u hu => (State.put_reports (F.DS_STATUS_n_TT_BUSY n) _ hu).mono
    (fun x hx => by rw [List.mem_singleton.1 hx]; exact List.mem_map_of_mem hn)) s hw

theorem ufStatus_notMem_dsStatus (h : Nat) : A.UF_STATUS h ∉ (List.range 8).map A.DS_STATUS_n := by
  simp only [List.mem_map, not_exists, not_and]
  intro n _ heq
  unfold A.DS_STATUS_n A.UF_STATUS at heq
  omega

/-- A face's leaving of suspend or L1, where it is in one, is reported. -/
def State.leaveReported (s : State) (h : Nat) : State :=
  s.iff (decide (4 ≤ s.get (F.UF_STATUS_STATE h))) (fun s => s.ufEvt h 3)

/-- UF_STATUS of a face that starts anew in a state: without address, single TT. -/
def State.faceWord (s : State) (h st : Nat) : State :=
  ((s.put (F.UF_STATUS_STATE h) st).put (F.UF_STATUS_ADDRESS h) 0).put (F.UF_STATUS_ALT_TT h) 0

/-- What no register shows of a face that starts anew: empty translators, no K driven, no remote wake. -/
def State.faceRests (s : State) (h : Nat) : State :=
  { s with us := { s.us with tt := vPut s.us.tt h (Vector.replicate 8 (0, 0)), driven := vPut s.us.driven h none,
                             wakeEn := vMod s.us.wakeEn h (fun w => (w.1, false)) } }

theorem State.faceFall_eq (s : State) (h st : Nat) :
    s.faceFall h st = (((s.leaveReported h).faceWord h st).faceRests h).each (List.range 8) State.ttShow := rfl

theorem State.leaveReported_wf (h : Nat) (hw : cellsWf 0 s.regs = true) : cellsWf 0 (s.leaveReported h).regs = true :=
  (State.iff_reports hw (State.raise_reports (152 + h) ⟨A.UF_EVT h, 3, 1⟩ hw)).wf

theorem State.faceWord_shows (h : Nat) {st : Nat} (hst : st < 8) (hw : cellsWf 0 s.regs = true) :
    cellsWf 0 (s.faceWord h st).regs = true ∧ (s.faceWord h st).get (F.UF_STATUS_STATE h) = st
      ∧ (s.faceWord h st).get (F.UF_STATUS_ADDRESS h) = 0 ∧ (s.faceWord h st).get (F.UF_STATUS_ALT_TT h) = 0 := by
  have w1 := State.put_wf (F.UF_STATUS_STATE h) st hw
  have w2 := State.put_wf (F.UF_STATUS_ADDRESS h) 0 w1
  have alt (g : FRef) (ha : g.addr = A.UF_STATUS h) (hd : g.lsb + g.width ≤ 5 ∨ 6 ≤ g.lsb) :
      (s.faceWord h st).get g = ((s.put (F.UF_STATUS_STATE h) st).put (F.UF_STATUS_ADDRESS h) 0).get g :=
    State.get_put_disj (F.UF_STATUS_ALT_TT h) g 0 w2 (Nat.le_of_ble_eq_true rfl) ha hd
  refine ⟨State.put_wf _ _ w2, ?_, ?_, State.get_put_same _ _ w2 (Nat.le_of_ble_eq_true rfl)⟩
  · rw [alt _ rfl (.inl (Nat.le_of_ble_eq_true rfl)), State.get_put_disj (F.UF_STATUS_ADDRESS h) (F.UF_STATUS_STATE h) 0 w1
      (Nat.le_of_ble_eq_true rfl) rfl (.inl (Nat.le_of_ble_eq_true rfl)),
      State.get_put_same _ _ hw (Nat.le_of_ble_eq_true rfl)]
    exact Nat.mod_eq_of_lt hst
  · rw [alt _ rfl (.inr (Nat.le_of_ble_eq_true rfl)), State.get_put_same _ _ w1 (Nat.le_of_ble_eq_true rfl)]
    rfl

theorem State.faceFall_shows (h : Nat) {st : Nat} (hst : st < 8) (hw : cellsWf 0 s.regs = true) :
    (s.faceFall h st).get (F.UF_STATUS_STATE h) = st ∧ (s.faceFall h st).get (F.UF_STATUS_ADDRESS h) = 0
      ∧ (s.faceFall h st).get (F.UF_STATUS_ALT_TT h) = 0
      ∧ vAt (s.faceFall h st).us.tt h = Vector.replicate 8 (0, 0) := by
  obtain ⟨hword, hstate, haddr, halt⟩ := State.faceWord_shows h hst (State.leaveReported_wf h hw)
  have r := State.ttShows_reports (s := ((s.leaveReported h).faceWord h st).faceRests h) hword
  rw [State.faceFall_eq]
  refine ⟨(r.same _ (ufStatus_notMem_dsStatus h)).trans hstate, (r.same _ (ufStatus_notMem_dsStatus h)).trans haddr,
    (r.same _ (ufStatus_notMem_dsStatus h)).trans halt, ?_⟩
  rw [r.frame]
  exact vAt_vPut_same _ _ _

theorem exec_faceBusReset_attached {h : Hp} (ha : bitAt (s.get F.USB_STATUS_ATTACHED) h = true) (high : Bool) :
    exec (.faceBusReset h high) s = .next (
      let u := ((s.ufEvt h 0).faceFall h 1).put (F.UF_STATUS_SPEED h) (if high then 2 else 1)
      (((u.each (List.range 8) (fun s n =>
        let s := s.modView h n (fun v => v.upd 0 0x100 0)
        if s.visible h n then s.ppc n else s)).modView h 8 (fun v => v.upd 0 0x736 0)).mfFall h 0).mfReset h) :=
  congrArg Host.Outcome.next (if_neg (by simp [ha]))

end

/-! ### Suspend, L1 and resume (R444, R452, R455) -/

section
variable {s : State}

/-- What a face and its function were in, kept; of a function that port 9 already holds asleep, what was kept before. -/
def State.sleepKept (s : State) (h : Nat) : State :=
  { s with us := { s.us with before := vMod s.us.before h (fun b => (s.get (F.UF_STATUS_STATE h),
    if s.get (F.UF_STATUS_MF_STATE h) ≤ 3 then s.get (F.UF_STATUS_MF_STATE h) else b.2)) } }

/-- A face shows a state of rest, and with it a function from DEFAULT to CONFIGURED. -/
def State.sleepShown (s : State) (h st : Nat) : State :=
  (s.put (F.UF_STATUS_STATE h) st).iff (1 ≤ s.get (F.UF_STATUS_MF_STATE h) && s.get (F.UF_STATUS_MF_STATE h) ≤ 3)
    (fun s => s.put (F.UF_STATUS_MF_STATE h) st)

theorem State.faceSleeps_eq (s : State) (h st : Nat) :
    s.faceSleeps h st = ((s.sleepKept h).sleepShown h st).ufEvt h 3 := rfl

theorem State.sleepShown_reports (h st : Nat) (hw : cellsWf 0 s.regs = true) :
    s.ReportsOnly (s.sleepShown h st) [A.UF_STATUS h] :=
  have r := State.put_reports (F.UF_STATUS_STATE h) st hw
  (r.trans (State.iff_reports r.wf (State.put_reports (F.UF_STATUS_MF_STATE h) st r.wf))).mono
    (fun _ hx => (List.mem_append.1 hx).elim id id)

theorem State.get_sleepShown (h : Nat) {st : Nat} (hst : st < 8) (hw : cellsWf 0 s.regs = true) :
    (s.sleepShown h st).get (F.UF_STATUS_STATE h) = st ∧ (s.sleepShown h st).get (F.UF_STATUS_MF_STATE h)
      = if 1 ≤ s.get (F.UF_STATUS_MF_STATE h) ∧ s.get (F.UF_STATUS_MF_STATE h) ≤ 3 then st
        else s.get (F.UF_STATUS_MF_STATE h) := by
  have w := State.put_wf (F.UF_STATUS_STATE h) st hw
  have hmod : st % 2 ^ 3 = st := Nat.mod_eq_of_lt hst
  have hface : (s.put (F.UF_STATUS_STATE h) st).get (F.UF_STATUS_STATE h) = st :=
    (State.get_put_same _ _ hw (Nat.le_of_ble_eq_true rfl)).trans hmod
  unfold State.sleepShown
  by_cases hm : 1 ≤ s.get (F.UF_STATUS_MF_STATE h) ∧ s.get (F.UF_STATUS_MF_STATE h) ≤ 3
  · rw [if_pos hm, State.iff, if_pos (by simpa using hm)]
    exact ⟨(State.get_put_disj (F.UF_STATUS_MF_STATE h) (F.UF_STATUS_STATE h) st w (Nat.le_of_ble_eq_true rfl) rfl
        (.inl (Nat.le_of_ble_eq_true rfl))).trans hface,
      (State.get_put_same _ _ w (Nat.le_of_ble_eq_true rfl)).trans hmod⟩
  · rw [if_neg hm, State.iff, if_neg (by simpa using hm)]
    exact ⟨hface, State.get_put_disj (F.UF_STATUS_STATE h) (F.UF_STATUS_MF_STATE h) st hw (Nat.le_of_ble_eq_true rfl) rfl
      (.inr (Nat.le_of_ble_eq_true rfl))⟩

theorem State.sleepShown_onlyRegs (s : State) (h st : Nat) : s.OnlyRegs (s.sleepShown h st) := by
  unfold State.sleepShown State.iff
  split <;> rfl

/-- An event after a change of registers alone. -/
theorem State.OnlyRegs.raise {t : State} (ht : s.OnlyRegs t) (n : Nat) (f : FRef) :
    t.raise n f = { s with regs := (t.raise n f).regs, router := (t.raise n f).router } := by
  unfold State.OnlyRegs at ht
  generalize t.regs = r at ht
  subst ht
  exact State.raise_frame _ n f

/-- What a face's rest in a state leaves: the states shown, what they were kept, and the event. -/
theorem State.faceSleeps_spec (h : Hp) {st : Nat} (hst : st < 8) (hw : cellsWf 0 s.regs = true) :
    let t := s.faceSleeps h st
    let mf := s.get (F.UF_STATUS_MF_STATE h)
    t.get (F.UF_STATUS_STATE h) = st ∧ t.get (F.UF_STATUS_MF_STATE h) = (if 1 ≤ mf ∧ mf ≤ 3 then st else mf)
      ∧ t.us = (s.sleepKept h).us ∧ t.get ⟨A.UF_EVT h, 3, 1⟩ = 1
      ∧ t = { s with regs := t.regs, router := t.router, us := t.us }
      ∧ s.SameRegs t [A.UF_STATUS h, A.UF_EVT h, A.EVT_RISE_s (152 + h)] := by
  intro t mf
  obtain ⟨hface, hmf⟩ := State.get_sleepShown (s := s.sleepKept h) h hst hw
  have r := State.sleepShown_reports (s := s.sleepKept h) h st hw
  have e := State.raise_reports (152 + h) ⟨A.UF_EVT h, 3, 1⟩ r.wf
  have hframe : t = { s.sleepKept h with regs := t.regs, router := t.router } :=
    (State.sleepShown_onlyRegs (s.sleepKept h) h st).raise (152 + h) ⟨A.UF_EVT h, 3, 1⟩
  have hus : t.us = (s.sleepKept h).us := (congrArg State.us hframe :)
  have hrise : A.UF_EVT h ≠ A.EVT_RISE_s (152 + h) := by unfold A.UF_EVT A.EVT_RISE_s; omega
  have hword : A.UF_STATUS h ∉ [A.UF_EVT h, A.EVT_RISE_s (152 + h)] := by
    simp only [List.mem_cons, List.not_mem_nil, or_false, not_or]
    unfold A.UF_STATUS A.UF_EVT A.EVT_RISE_s
    omega
  refine ⟨(e.same _ hword).trans hface, (e.same _ hword).trans hmf, hus,
    State.get_raise_same (152 + h) _ r.wf (Nat.le_of_ble_eq_true rfl) hrise, ?_, (r.trans e).same⟩
  rw [hus]
  exact hframe

theorem exec_faceSuspend_awake {h : Hp} (h1 : 1 ≤ s.get (F.UF_STATUS_STATE h)) (h3 : s.get (F.UF_STATUS_STATE h) ≤ 3) :
    exec (.faceSuspend h) s = .next (s.faceSleeps h 4) :=
  congrArg Host.Outcome.next (if_pos (by simp [h1, h3]))

section
variable {h : Hp} (hst : s.get (F.UF_STATUS_STATE h) = 4 ∨ s.get (F.UF_STATUS_STATE h) = 5)
include hst

/-- A resume gives the function back what it was in only where port 9 does not hold it asleep. -/
theorem exec_faceResume_asleep : exec (.faceResume h) s = .next (
    let b := vAt s.us.before h
    let u := (s.resumeMeets h).put (F.UF_STATUS_STATE h) b.1
    (if bitAt (u.view h 8).st 2 = false ∧ bitAt (u.view h 8).st 5 = false then u.put (F.UF_STATUS_MF_STATE h) b.2
      else u).ufEvt h 3) := by
  have hport (u : State) (x : Nat) : u.iff (!bitAt (u.view h 8).st 2 && !bitAt (u.view h 8).st 5)
        (fun s => s.put (F.UF_STATUS_MF_STATE h) x)
      = if bitAt (u.view h 8).st 2 = false ∧ bitAt (u.view h 8).st 5 = false then u.put (F.UF_STATUS_MF_STATE h) x
        else u := by
    simp only [State.iff, Bool.and_eq_true, Bool.not_eq_true']
  dsimp only
  rw [← hport]
  exact congrArg Host.Outcome.next (if_pos (by simpa using hst))

theorem exec_mfRemoteWake_asleep (hc : s.mfConnected h = true) (he : (vAt s.us.wakeEn h).1 = true)
    (hd : vAt s.us.driven h = none) (ha : s.attnF h = true ∨ s.attnN h = true ∨ (s.agent h).ownChg = true) :
    exec (.mfRemoteWake h) s = .next (s.faceDrives h 8) :=
  congrArg Host.Outcome.next (if_pos (by simp [hst, hc, he, hd, ha, or_assoc]))

end

/-! ### LPM requests (R452) -/

/-- A face may enter L1: its host allows it, nothing waits for the function's host, and no visible port's translator is busy. -/
def State.lpmIdle (s : State) (h : Nat) : Prop :=
  s.get (F.UF_CTRL_LPM_EN h) = 1 ∧ vAt s.usbQ h = [] ∧ s.ep3Due h = false
    ∧ ∀ n < 8, s.visible h n = true → s.get (F.DS_STATUS_n_TT_BUSY n) = 0

theorem State.lpmIdle_iff (h : Nat) :
    (s.flag (F.UF_CTRL_LPM_EN h) && (vAt s.usbQ h).isEmpty && !s.ep3Due h
        && !(List.range 8).any (fun n => s.visible h n && s.flag (F.DS_STATUS_n_TT_BUSY n))) = true ↔ s.lpmIdle h := by
  have hfree (n : Nat) : s.flag (F.DS_STATUS_n_TT_BUSY n) = false ↔ s.get (F.DS_STATUS_n_TT_BUSY n) = 0 := by
    simp [State.flag]
  simp [State.lpmIdle, State.flag_iff_get_eq_one (f := F.UF_CTRL_LPM_EN h) rfl, hfree, and_assoc]

section
variable {h : Hp} (splits : List Split)

theorem exec_lpmL1Request_awake (h1 : 1 ≤ (splits.foldl (fun s x => s.takeSplit h x) s).get (F.UF_STATUS_STATE h))
    (h3 : (splits.foldl (fun s x => s.takeSplit h x) s).get (F.UF_STATUS_STATE h) ≤ 3) :
    let u := splits.foldl (fun s x => s.takeSplit h x) s
    (u.lpmIdle h → exec (.lpmL1Request ⟨h, splits⟩) s = .next ((u.faceSleeps h 5).emit (.usbSignal h 2)))
      ∧ (¬ u.lpmIdle h → exec (.lpmL1Request ⟨h, splits⟩) s = .next (u.emit (.usbSignal h 3))) := by
  intro u
  have hawake : ¬ (!(1 ≤ u.get (F.UF_STATUS_STATE h) && u.get (F.UF_STATUS_STATE h) ≤ 3)) = true := by simp [u, h1, h3]
  exact ⟨fun hi => congrArg Host.Outcome.next ((if_neg hawake).trans (if_pos ((State.lpmIdle_iff h).2 hi))),
    fun hi => congrArg Host.Outcome.next ((if_neg hawake).trans (if_neg (fun hb => hi ((State.lpmIdle_iff h).1 hb))))⟩

end
end

/-! ### The function's transfers (R448 to R451, R453) -/

/-- The bytes of a frame, by the header that it begins with. -/
def frameBytes (bs : List Byte) : Nat := 8 + 4 * frameWords (w32 (ofBytesLE (bs.take 4)))

/-- The bytes of a frame that EP1 has taken so far. -/
def State.partPut (s : State) (h : Nat) (bs : List Byte) : State :=
  { s with us := { s.us with part := vPut s.us.part h bs } }

/-- A whole frame that ends with a packet is counted and arrives, and EP1's buffer is free once it has been passed on. -/
def State.frameTaken (s : State) (h : Nat) (bytes : List Byte) (f : Frame) : State :=
  ((((s.partPut h []).ep1Put h bytes).bump (F.UF_MF_COUNT_FRAMES_IN h) 1).frameArrives h .usb f).ep1Free h

section
variable {s : State} {h : Hp} (hc : s.mfConnected h = true)
include hc

theorem exec_mfAbort_connected : exec (.mfAbort h) s = .next (s.mfReset h) :=
  congrArg Host.Outcome.next (if_pos hc)

theorem exec_getReport_awake (h1 : 1 ≤ s.get (F.UF_STATUS_MF_STATE h)) (h3 : s.get (F.UF_STATUS_MF_STATE h) ≤ 3) :
    exec (.getReport ⟨h, .report⟩) s = .next (s.ep3Send h 0) :=
  congrArg Host.Outcome.next (if_pos (by simp [State.ep0Runs, ep0Dev, devField, hc, h1, h3]))

section
variable (hm : s.get (F.UF_STATUS_MF_STATE h) = 3)
include hm

theorem State.mfReady_of_configured : s.mfReady h = true := by
  simp [State.mfReady, hc, hm]

theorem exec_ep3Poll_configured :
    exec (.ep3Poll h) s = .next (if s.ep3Due h then s.ep3Send h 3 else s.mfSays h 4) :=
  congrArg Host.Outcome.next (if_pos (State.mfReady_of_configured hc hm))

theorem exec_ep2Reply_configured {r : Reply} {rest : List Reply} (hq : vAt s.usbQ h = r :: rest) :
    exec (.ep2Reply h) s = .next (
      let st := s.statusWord h r.result
      let u := (s.modAgent h (fun g => { g with
        lastTag := r.tag, lastOp := r.opcode, lastResult := r.result, lastStatus := st })).statusSent h
      let ps := usbPackets (s.bulkSize h) (replyBytes st r.tag r.opcode r.data)
      let v : State := { u with usbQ := vPut u.usbQ h rest,
                                us := { u.us with bufs := vMod u.us.bufs h (fun b => { b with ep2 := ps.getLastD [] }) } }
      (ps.foldl (fun s p => s.emit (.usb h 2 p)) v).bump (F.UF_MF_COUNT_REPLIES_OUT h) 1) := by
  refine congrArg Host.Outcome.next ((if_pos (State.mfReady_of_configured hc hm)).trans ?_)
  show s.usbLeaves h = _
  unfold State.usbLeaves
  rw [hq]
  rfl

section
variable (ho : s.transportShut .usb = false) (bytes : List Byte)
include ho

/-- EP1 takes a packet of an open transport: the function is configured. -/
theorem State.ep1_heard : ¬ (!s.mfReady h || s.transportShut .usb) = true := by
  simp [State.mfReady_of_configured hc hm, ho]

/-- While a frame of the function is held, its host is told to wait: NAK, at high speed NYET. -/
theorem exec_ep1Packet_held (hh : ∃ x ∈ (s.agent h).held, x.1 = .usb) :
    exec (.ep1Packet h bytes) s = .next (s.mfSays h (if s.get (F.UF_STATUS_SPEED h) = 2 then 3 else 4)) := by
  have hspeed : (if s.faceHigh h then 3 else 4) = if s.get (F.UF_STATUS_SPEED h) = 2 then 3 else 4 := by
    simp only [State.faceHigh, beq_iff_eq]
  rw [← hspeed]
  exact congrArg Host.Outcome.next ((if_neg (State.ep1_heard hc hm ho)).trans (if_pos (by simpa using hh)))

section
variable (hh : ∀ x ∈ (s.agent h).held, x.1 ≠ .usb) (hb : vAt s.us.part h ++ bytes ≠ [])
include hh hb

/-- With no frame held, the bytes so far are judged by the length that their header gives. -/
theorem exec_ep1Packet_taken : exec (.ep1Packet h bytes) s = .next (
    let bs := vAt s.us.part h ++ bytes
    if bs.length < frameBytes bs then
      (if bytes.length < s.bulkSize h then (s.partPut h []).malformed h .usb else s.partPut h bs)
    else if frameBytes bs < bs.length then (s.partPut h []).malformed h .usb
    else match frameOfBytes bs with
      | some f => s.frameTaken h bytes f
      | none => s.partPut h []) :=
  have hnone : ¬ (s.agent h).held.any (fun x => x.1 == .usb) = true := fun hany =>
    have ⟨x, hx, hx1⟩ := List.any_eq_true.1 hany
    hh x hx (beq_iff_eq.1 hx1)
  congrArg Host.Outcome.next ((if_neg (State.ep1_heard hc hm ho)).trans
    ((if_neg hnone).trans (if_neg (by simpa using hb))))

theorem exec_ep1Packet_whole {f : Frame} (hl : (vAt s.us.part h ++ bytes).length = frameBytes (vAt s.us.part h ++ bytes))
    (hf : frameOfBytes (vAt s.us.part h ++ bytes) = some f) :
    exec (.ep1Packet h bytes) s = .next (s.frameTaken h bytes f) := by
  refine (exec_ep1Packet_taken hc hm ho bytes hh hb).trans (congrArg Host.Outcome.next ?_)
  refine (if_neg (Nat.not_lt.2 hl.ge)).trans ((if_neg (Nat.not_lt.2 hl.le)).trans ?_)
  rw [hf]

/-- Bytes short of the length are kept, unless the packet is short itself and so ends the transfer. -/
theorem exec_ep1Packet_partial (hl : (vAt s.us.part h ++ bytes).length < frameBytes (vAt s.us.part h ++ bytes)) :
    exec (.ep1Packet h bytes) s = .next (if bytes.length < (if s.get (F.UF_STATUS_SPEED h) = 2 then 512 else 64)
      then (s.partPut h []).malformed h .usb else s.partPut h (vAt s.us.part h ++ bytes)) := by
  have hroom : s.bulkSize h = if s.get (F.UF_STATUS_SPEED h) = 2 then 512 else 64 := by
    simp only [State.bulkSize, State.faceHigh, beq_iff_eq]
  rw [← hroom]
  exact (exec_ep1Packet_taken hc hm ho bytes hh hb).trans (congrArg Host.Outcome.next (if_pos hl))

theorem exec_ep1Packet_over (hl : frameBytes (vAt s.us.part h ++ bytes) < (vAt s.us.part h ++ bytes).length) :
    exec (.ep1Packet h bytes) s = .next ((s.partPut h []).malformed h .usb) :=
  (exec_ep1Packet_taken hc hm ho bytes hh hb).trans (congrArg Host.Outcome.next
    ((if_neg (Nat.not_lt.2 hl.le)).trans (if_pos hl)))

end
end
end
end

/-! ### The function's connection (R445) -/

theorem wregAt_ufCtrl : ∀ h : Fin 4, wregAt (A.UF_CTRL h) = some (.ufCtrl h) := by decide +kernel

theorem ufCtrl_plain (h : Nat) : (WReg.ufCtrl h).Plain := ⟨rfl, fun _ => rfl, rfl, fun _ _ => rfl⟩

/-- MF_CONNECT of UF_CTRL, stored, connects or disconnects the function of an attached face. -/
theorem State.wordEffect_ufCtrl (s : State) (a h v : Nat) :
    (s.wordEffect a (.ufCtrl h) [⟨F.UF_CTRL_MF_CONNECT h, .rw, .live, v⟩]).2 = (
      let u := s.put (F.UF_CTRL_MF_CONNECT h) v
      if bitAt (u.get F.USB_STATUS_ATTACHED) h then u.mfConnect h (u.mfConnected h) else u) := by
  rw [State.wordEffect_of_plain (r := .ufCtrl h) rfl nofun nofun nofun, State.storeWord_live]
  rfl

/-- The host of a face and BOARD write its UF_CTRL. -/
theorem State.mayWrite_ufCtrl {s : State} {a : Agent} {h : Hp} (ha : a.val = h.val ∨ a.val = 4) (lsb v : Nat) :
    s.mayWrite a (.ufCtrl h) lsb v = true := by
  simpa [State.mayWrite, State.regRes] using ha

theorem exec_mfConnectWrite_of_taken {s : State} {a : Agent} {h : Hp} {on : Bool} (ha : a.val = h.val ∨ a.val = 4)
    (ht : s.TakesField a (A.UF_CTRL h) 0 1 (bit1 on)) (hne : s.get (F.UF_CTRL_MF_CONNECT h) ≠ bit1 on) :
    exec (.mfConnectWrite a h on) s = .next (
      let u := s.put (F.UF_CTRL_MF_CONNECT h) (bit1 on)
      if bitAt (u.get F.USB_STATUS_ATTACHED) h then u.mfConnect h (u.mfConnected h) else u) := by
  have h1 := State.fieldArrives_of_live (acc := .rw) (wregAt_ufCtrl h) (ufCtrl_plain h) (by cases on <;> decide)
    List.mem_cons_self (bne_iff_ne.2 hne.symm) (by unfold A.UF_CTRL; omega) ht
    ⟨rfl, State.mayWrite_ufCtrl ha _, rfl, rfl, rfl⟩
  exact congrArg Host.Outcome.next (h1.trans (State.wordEffect_ufCtrl s a h (bit1 on)))

/-- Settles O37: a face that starts anew or rests by its status word and by what no register shows, each transfer by the lemma of
its command, the connection by the write of its field. -/
theorem usbFaces : Obligations.UsbFaces := by
  intro s h hs
  refine ⟨rfl, fun st => State.faceFall_shows h st.isLt hs.regs, fun high ha => exec_faceBusReset_attached ha high,
    fun st mf hst hmf => ⟨fun h1 h3 => ?_, fun hasleep => ?_⟩, fun splits => exec_lpmL1Request_awake splits,
    fun hc => ⟨exec_mfAbort_connected hc, exec_getReport_awake hc⟩,
    fun hc hm => ⟨exec_ep3Poll_configured hc hm, fun r rest => exec_ep2Reply_configured hc hm,
      fun ho bytes => ⟨exec_ep1Packet_held hc hm ho bytes, fun hh hb => ⟨fun f => exec_ep1Packet_whole hc hm ho bytes hh hb,
        exec_ep1Packet_partial hc hm ho bytes hh hb, exec_ep1Packet_over hc hm ho bytes hh hb⟩⟩⟩,
    fun a on ha ht hne => exec_mfConnectWrite_of_taken ha ht hne⟩
  · subst hst hmf
    exact ⟨_, exec_faceSuspend_awake h1 h3, State.faceSleeps_spec h (by decide) hs.regs⟩
  · subst hst
    exact ⟨exec_faceResume_asleep hasleep, exec_mfRemoteWake_asleep hasleep⟩

end Sys2Proof.Machine
end

section
/-! The hub requests of a face, to a port that it sees and to port 9 (O38). -/
namespace Sys2Proof.Machine

/-! ### A port's state taken with a change of one view (R435, R442) -/

section
variable {s : State}

/-- A field of a register is written and a view changed: that field, no other register, and that view. -/
theorem State.put_modView_alone {f : FRef} {v : Nat} (hw : cellsWf 0 s.regs = true) (hf : f.lsb + f.width ≤ 32)
    (hv : v < 2 ^ f.width) (h n : Nat) (k : View → View) :
    ((s.put f v).modView h n k).get f = v
      ∧ ((s.put f v).modView h n k).us = { s.us with views := vMod s.us.views h (fun v => vMod v n k) }
      ∧ (s.put f v).modView h n k
        = { s with regs := ((s.put f v).modView h n k).regs, us := ((s.put f v).modView h n k).us }
      ∧ s.SameRegs ((s.put f v).modView h n k) [f.addr] := by
  obtain ⟨hget, -, hsame⟩ := State.put_alone hw hf hv
  exact ⟨hget, rfl, rfl, hsame⟩

/-- The state of another port stands in another register. -/
theorem State.SameRegs.dsState {t : State} {n m : Nat} (hst : s.SameRegs t [A.DS_STATUS_n n]) (hm : m ≠ n) :
    t.dsState m = s.dsState m := by
  refine hst (F.DS_STATUS_n_STATE m) (List.mem_singleton.not.2 ?_)
  show A.DS_STATUS_n m ≠ A.DS_STATUS_n n
  unfold A.DS_STATUS_n
  omega

end

/-! ### Requests to a port that the face reaches (R442, R444) -/

section
variable {s : State} {h : Hp} {n : Fin 9} (hn : n ≠ 8) (hr : s.reaches h n = true)
include hn hr

theorem exec_setPortReset_reached (hd : s.dsState n = Ds.disabled ∨ s.dsState n = Ds.enabled) :
    exec (.setPortReset h n) s = .next ((s.dsTo n Ds.resetting).modView h n (fun v => v.upd 0x10 2 0)) :=
  congrArg Host.Outcome.next ((if_neg hn).trans (if_pos (by simp [hr, hd])))

section
variable (hd : s.dsState n = Ds.enabled)
include hd

theorem exec_clearPortEnable_reached :
    exec (.clearPortEnable h n) s = .next ((s.dsTo n Ds.disabled).modView h n (fun v => v.upd 0 2 0)) :=
  congrArg Host.Outcome.next ((if_neg hn).trans (if_pos (by simp [hr, hd])))

theorem exec_setPortSuspend_reached :
    exec (.setPortSuspend h n) s = .next ((s.dsTo n Ds.suspended).modView h n (fun v => v.upd 4 0 0)) :=
  congrArg Host.Outcome.next ((if_neg hn).trans (if_pos (by simp [hr, hd])))

theorem exec_setPortL1_reached :
    exec (.setPortL1 h n true) s = .next ((s.dsTo n Ds.l1).modView h n (fun v => v.upd 0x20 0 0)) :=
  congrArg Host.Outcome.next ((if_neg hn).trans (if_pos (by simp [hr, hd])))

end

/-- CLEAR_PORT_SUSPEND acts by the state of its port. -/
theorem exec_clearPortSuspend_reached : exec (.clearPortSuspend h n) s = .next (
    if s.dsState n = Ds.suspended then s.dsTo n Ds.resuming
    else if s.dsState n = Ds.l1 then (s.dsTo n Ds.enabled).modView h n (fun v => v.upd 0 0x20 0)
    else if s.dsState n = Ds.resuming then s.bump (F.DS_WAKE_n_COLLISIONS n) 1
    else s) :=
  congrArg Host.Outcome.next ((if_neg hn).trans (if_neg (by simp [hr])))

theorem exec_clearPortSuspend_suspended (hd : s.dsState n = Ds.suspended) :
    exec (.clearPortSuspend h n) s = .next (s.dsTo n Ds.resuming) := by
  rw [exec_clearPortSuspend_reached hn hr, if_pos hd]

theorem exec_clearPortSuspend_l1 (hd : s.dsState n = Ds.l1) :
    exec (.clearPortSuspend h n) s = .next ((s.dsTo n Ds.enabled).modView h n (fun v => v.upd 0 0x20 0)) := by
  rw [exec_clearPortSuspend_reached hn hr, if_neg (by rw [hd]; decide), if_pos hd]

theorem exec_clearPortSuspend_resuming (hd : s.dsState n = Ds.resuming) :
    exec (.clearPortSuspend h n) s = .next (s.bump (F.DS_WAKE_n_COLLISIONS n) 1) := by
  rw [exec_clearPortSuspend_reached hn hr, if_neg (by rw [hd]; decide), if_neg (by rw [hd]; decide), if_pos hd]

end

/-! ### PORT_POWER of a view (R435, R438) -/

section
variable {s : State} {h : Hp} {n : Fin 9} (hn : n ≠ 8) (ha : bitAt (s.get F.USB_STATUS_ATTACHED) h = true)
include hn ha

theorem exec_setPortPower_attached : exec (.setPortPower h n) s = .next (
    let u := s.modView h n (fun v => v.upd 0x100 0 0)
    if u.visible h n then u.ppc n else u) :=
  congrArg Host.Outcome.next (if_neg (by simp [hn, ha]))

theorem exec_clearPortPower_attached : exec (.clearPortPower h n) s = .next (
    let u := s.modView h n (fun v => v.upd 0 0x100 0)
    if u.visible h n then u.ppc n else u) :=
  congrArg Host.Outcome.next (if_neg (by simp [hn, ha]))

end

/-! ### Requests to port 9 (R445, R453) -/

section
variable {s : State} {h : Hp} (hc : s.mfConnected h = true)
include hc

theorem exec_setPortReset_nine : exec (.setPortReset h 8) s = .next (((s.modView h 8 (fun v =>
    v.upd (if s.get (F.UF_STATUS_SPEED h) = 2 then 0x402 else 2) 0x424 0x10)).mfFall h 1).mfReset h) := by
  have hspeed : (if s.faceHigh h then 0x402 else 2) = if s.get (F.UF_STATUS_SPEED h) = 2 then 0x402 else 2 := by
    simp only [State.faceHigh, beq_iff_eq]
  rw [← hspeed]
  exact congrArg Host.Outcome.next ((if_pos rfl).trans (if_pos hc))

theorem exec_clearPortEnable_nine :
    exec (.clearPortEnable h 8) s = .next (s.modView h 8 (fun v => v.upd 0 2 0)) :=
  congrArg Host.Outcome.next ((if_pos rfl).trans (if_pos hc))

section
variable (he : bitAt (s.view h 8).st 1 = true)
include he

theorem exec_setPortSuspend_nine :
    exec (.setPortSuspend h 8) s = .next ((s.modView h 8 (fun v => v.upd 4 0 0)).mfSleeps h 4) :=
  congrArg Host.Outcome.next ((if_pos rfl).trans (if_pos (by simp [hc, he])))

theorem exec_setPortL1_nine :
    exec (.setPortL1 h 8 true) s = .next ((s.modView h 8 (fun v => v.upd 0x20 0 0)).mfSleeps h 5) :=
  congrArg Host.Outcome.next ((if_pos rfl).trans (if_pos (by simp [hc, he])))

end

theorem exec_clearPortSuspend_nine (hv : bitAt (s.view h 8).st 2 = true ∨ bitAt (s.view h 8).st 5 = true) :
    exec (.clearPortSuspend h 8) s
      = .next ((s.modView h 8 (fun v => v.upd 0 0x24 (if bitAt v.st 2 then 4 else 0))).put (F.UF_STATUS_MF_STATE h)
        (vAt s.us.before h).2) :=
  congrArg Host.Outcome.next ((if_pos rfl).trans (if_pos (by simp [hc, hv])))

end

/-- Settles O38: each request by the lemma of its command and of the port's state; what a port's state taken with a change of a
view writes, by the field written. -/
theorem portRequests : Obligations.PortRequests := by
  intro s h hs
  refine ⟨fun n hn hr => ⟨exec_setPortReset_reached hn hr, fun hd => ⟨exec_clearPortEnable_reached hn hr hd,
      exec_setPortSuspend_reached hn hr hd, exec_setPortL1_reached hn hr hd⟩, exec_clearPortSuspend_suspended hn hr,
      exec_clearPortSuspend_l1 hn hr, exec_clearPortSuspend_resuming hn hr⟩,
    fun n st f => ?_, fun n hn ha => ⟨exec_setPortPower_attached hn ha, exec_clearPortPower_attached hn ha⟩,
    fun hc => ⟨exec_setPortReset_nine hc, exec_clearPortEnable_nine hc, fun he => ⟨exec_setPortSuspend_nine hc he,
      exec_setPortL1_nine hc he⟩, exec_clearPortSuspend_nine hc⟩⟩
  obtain ⟨hst, hus, hframe, hsame⟩ := State.put_modView_alone (f := F.DS_STATUS_n_STATE n) (v := st) hs.regs
    (Nat.le_of_ble_eq_true rfl) (Nat.lt_trans st.isLt (by decide : 8 < 2 ^ 4)) h n f
  exact ⟨hst, hus, hframe, hsame, fun m hm => hsame.dsState (Fin.val_ne_of_ne hm)⟩

end Sys2Proof.Machine
end

section
/-! What happens on a downstream port: connects, resets, resumes, wakes, power and over-current (O39). -/
namespace Sys2Proof.Machine

section
variable {s : State} {n : Fin 8}

/-! ### Devices that come, go and are reset (R438, R441, R442) -/

section
variable (hu : s.usbRuns = true)
include hu

theorem exec_portConnectDetect_heard (d : ConnIn) (hd : s.dsState n = Ds.disconnected) (hh : s.spreadHold = false)
    (hc : s.get (F.DS_STATUS_n_CHG n) ≠ 2) : exec (.portConnectDetect n d) s = .next (
      let u := if d.vdp = true ∧ s.get (F.DS_STATUS_n_CHG n) = 1 then s.emit (.usbSignal (4 + n.val) 6) else s
      (((u.dsTo n Ds.disabled).ownView n (if d.low then 0x201 else 1) (if d.low then 0x400 else 0x600) 1).put
        (F.DS_STATUS_n_SPEED n) (if d.low then 1 else 2)).bump (F.DS_COUNT_n_CONNECTS n) 1) := by
  have hcdp : s.iff (d.vdp && s.get (F.DS_STATUS_n_CHG n) == 1) (fun s => s.emit (.usbSignal (4 + n.val) 6))
      = if d.vdp = true ∧ s.get (F.DS_STATUS_n_CHG n) = 1 then s.emit (.usbSignal (4 + n.val) 6) else s := by
    simp only [State.iff, Bool.and_eq_true, beq_iff_eq]
  dsimp only
  rw [← hcdp]
  exact congrArg Host.Outcome.next (if_pos (by simp [hd, hu, hh, hc]))

theorem exec_portDisconnect_heard : exec (.portDisconnect n) s = .next (s.dsDisconnect n) :=
  congrArg Host.Outcome.next (if_pos hu)

/-- A reset ends: the port is enabled at the speed that the chirp exchange gave, which a device of low speed does not enter. -/
theorem exec_portResetDone_resetting (hd : s.dsState n = Ds.resetting) (high : Bool) :
    exec (.portResetDone n high) s = .next (
      let low := s.get (F.DS_STATUS_n_SPEED n) == 1
      let fast := high && !low
      ((s.dsTo n Ds.enabled).ownView n (if fast then 0x402 else 2) 0x410 0x10).put (F.DS_STATUS_n_SPEED n)
        (if low then 1 else if fast then 3 else 2)) :=
  congrArg Host.Outcome.next (if_pos (by simp [hd, hu]))

/-- A chirp exchange that gave high speed counts for a device that is not of low speed. -/
theorem exec_portResetDone_high (hd : s.dsState n = Ds.resetting) :
    exec (.portResetDone n true) s = .next (if s.get (F.DS_STATUS_n_SPEED n) = 1
      then ((s.dsTo n Ds.enabled).ownView n 2 0x410 0x10).put (F.DS_STATUS_n_SPEED n) 1
      else ((s.dsTo n Ds.enabled).ownView n 0x402 0x410 0x10).put (F.DS_STATUS_n_SPEED n) 3) := by
  rw [exec_portResetDone_resetting hu hd]
  by_cases hlow : s.get (F.DS_STATUS_n_SPEED n) = 1 <;> simp [hlow]

theorem exec_portResetDone_full (hd : s.dsState n = Ds.resetting) :
    exec (.portResetDone n false) s = .next (((s.dsTo n Ds.enabled).ownView n 2 0x410 0x10).put (F.DS_STATUS_n_SPEED n)
      (if s.get (F.DS_STATUS_n_SPEED n) = 1 then 1 else 2)) := by
  rw [exec_portResetDone_resetting hu hd]
  simp

theorem exec_portResumeDone_resuming (hd : s.dsState n = Ds.resuming) :
    exec (.portResumeDone n) s = .next ((s.dsTo n Ds.enabled).ownView n 0 4 4) :=
  congrArg Host.Outcome.next (if_pos (by simp [hd, hu]))

theorem exec_portBabble_enabled (hd : s.dsState n = Ds.enabled) :
    exec (.portBabble n) s = .next (((s.dsTo n Ds.disabled).ownView n 0 2 2).dsEvt n 3) :=
  congrArg Host.Outcome.next (if_pos (by simp [hd, hu]))

/-! ### A remote wake, by the state of its port (R442 to R444) -/

section
variable {k : WakeIn}

theorem exec_deviceRemoteWake_resuming (hd : s.dsState k.port = Ds.resuming) :
    exec (.deviceRemoteWake k) s = .next (s.bump (F.DS_WAKE_n_COLLISIONS k.port) 1) :=
  congrArg Host.Outcome.next ((if_neg (by simp [hu])).trans (if_pos hd))

theorem exec_deviceRemoteWake_l1 (hd : s.dsState k.port = Ds.l1) :
    exec (.deviceRemoteWake k) s = .next (((s.dsTo k.port Ds.enabled).ownView k.port 0 0x20 0).wakeUp k) :=
  congrArg Host.Outcome.next ((if_neg (by simp [hu])).trans ((if_neg (by rw [hd]; decide)).trans (if_pos hd)))

theorem exec_deviceRemoteWake_suspended (hd : s.dsState k.port = Ds.suspended) :
    exec (.deviceRemoteWake k) s = .next ((s.dsTo k.port Ds.resuming).wakeUp k) :=
  congrArg Host.Outcome.next ((if_neg (by simp [hu])).trans ((if_neg (by rw [hd]; decide)).trans
    ((if_neg (by rw [hd]; decide)).trans (if_pos hd))))

/-- The wake of a disabled port that no host owns is seen (log entry 159). -/
theorem exec_deviceRemoteWake_unowned (hd : s.dsState k.port = Ds.disabled) (ho : 4 ≤ s.ownerOf (40 + k.port)) :
    exec (.deviceRemoteWake k) s = .next (s.wakeUp k) :=
  congrArg Host.Outcome.next ((if_neg (by simp [hu])).trans ((if_neg (by rw [hd]; decide)).trans
    ((if_neg (by rw [hd]; decide)).trans ((if_neg (by rw [hd]; decide)).trans (if_pos (by simp [hd, ho]))))))

end

/-! ### Port power and over-current (R438, R439, R455) -/

theorem exec_pwr2goodElapsed_powered (hp : s.get (F.DS_STATUS_n_PPC n) = 1) (hd : s.dsState n = Ds.off)
    (hc : s.get (F.DS_CTRL_n_POWER_CYCLE n) = 0) : exec (.pwr2goodElapsed n) s = .next (s.dsTo n Ds.disconnected) :=
  congrArg Host.Outcome.next ((if_neg (by simp [State.flag_of_zero hc])).trans
    (if_pos (by simp [State.flag_of_one hp, hd, hu])))

end

theorem exec_pwr2goodElapsed_cycling (hc : s.get (F.DS_CTRL_n_POWER_CYCLE n) = 1) :
    exec (.pwr2goodElapsed n) s = .next ((s.put (F.DS_CTRL_n_POWER_CYCLE n) 0).ppc n) :=
  congrArg Host.Outcome.next (if_pos (State.flag_of_one hc))

theorem exec_overCurrent_latches (hm : s.get (F.DS_CFG_n_PWR_MODE n) ≠ 2) (ho : s.get (F.DS_STATUS_n_OC n) = 0)
    (hr : s.unitRuns 14 = true) : exec (.overCurrent n) s = .next (
      let u := (s.put (F.DS_STATUS_n_OC n) 1).ownView n 8 0x100 8
      let v : State := { u with us := { u.us with ocWait := vPut u.us.ocWait n (u.get (F.DS_CFG_n_PWR_MODE n) == 1) } }
      ((v.bump (F.DS_COUNT_n_OC n) 1).dsEvt n 0).ppc n) :=
  congrArg Host.Outcome.next (if_neg (by simp [hm, State.flag_of_zero ho, hr]))

theorem exec_overCurrentClear_latched (ho : s.get (F.DS_STATUS_n_OC n) = 1) :
    exec (.overCurrentClear n) s = .next (((s.put (F.DS_STATUS_n_OC n) 0).ownView n 0 8 0).ppc n) :=
  congrArg Host.Outcome.next (if_pos (State.flag_of_one ho))

theorem exec_ocRetry_waiting (hw : vAt s.us.ocWait n = true) (ho : s.get (F.DS_STATUS_n_OC n) = 0) :
    exec (.ocRetry n) s = .next (
      let u : State := { s with us := { s.us with ocWait := vPut s.us.ocWait n false } }
      (u.bump (F.DS_COUNT_n_OC n) 1).ppc n) :=
  congrArg Host.Outcome.next (if_pos (by simp [hw, State.flag_of_zero ho]))

end

/-! ### A port's power cycle (R455) -/

theorem wregAt_dsCtrl : ∀ n : Fin 8, wregAt (A.DS_CTRL_n n) = some (.dsCtrl n) := by decide +kernel

theorem dsCtrl_plain (n : Nat) : (WReg.dsCtrl n).Plain := ⟨rfl, fun _ => rfl, rfl, fun _ _ => rfl⟩

/-- POWER_CYCLE of DS_CTRL_n acts by itself. -/
theorem State.wordEffect_dsCtrl (s : State) (a n : Nat) :
    (s.wordEffect a (.dsCtrl n) [⟨F.DS_CTRL_n_POWER_CYCLE n, .sc, .live, 1⟩]).2 = s.powerCycle n := by
  rw [State.wordEffect_of_plain (r := .dsCtrl n) rfl nofun nofun nofun, State.storeWord_sc]
  rfl

section
variable {s : State} {a : Agent} {n : Fin 8} (ho : s.owns a (40 + n) = true)
include ho

/-- The owner of a port writes its DS_CTRL (R638). -/
theorem State.mayWrite_dsCtrl (lsb v : Nat) : s.mayWrite a (.dsCtrl n) lsb v = true := by
  have hn : 40 + (n : Nat) < 56 := by omega
  simpa [State.mayWrite, State.regRes, hn] using ho

theorem exec_dsPowerCycle_of_taken (ht : s.TakesField a (A.DS_CTRL_n n) 0 1 1) :
    exec (.dsPowerCycle a n) s = .next ((s.put (F.DS_CTRL_n_POWER_CYCLE n) 1).ppc n) := by
  have h := State.fieldArrives_of_live (acc := .sc) (wregAt_dsCtrl n) (dsCtrl_plain n) (by decide)
    List.mem_cons_self rfl (by unfold A.DS_CTRL_n; omega) ht ⟨rfl, State.mayWrite_dsCtrl ho _, rfl, rfl, rfl⟩
  exact congrArg Host.Outcome.next (h.trans (State.wordEffect_dsCtrl s a n))

end

/-- Settles O39: each event of a port by the lemma of its command; a wake by the state of its port, a power cycle by the write
of its self-clearing bit. -/
theorem portEvents : Obligations.PortEvents := by
  intro s n hs
  refine ⟨fun hu => ⟨exec_portConnectDetect_heard hu, exec_portDisconnect_heard hu,
      fun hd => ⟨exec_portResetDone_high hu hd, exec_portResetDone_full hu hd⟩, exec_portResumeDone_resuming hu,
      exec_portBabble_enabled hu, ?_, fun hp hd hc => ?_⟩,
    exec_pwr2goodElapsed_cycling, exec_overCurrent_latches, exec_overCurrentClear_latched, exec_ocRetry_waiting,
    fun a ho => exec_dsPowerCycle_of_taken ho⟩
  · rintro k rfl
    exact ⟨exec_deviceRemoteWake_resuming hu, exec_deviceRemoteWake_l1 hu, exec_deviceRemoteWake_suspended hu,
      exec_deviceRemoteWake_unowned hu⟩
  · obtain ⟨hst, hframe, hsame⟩ := State.put_alone (f := F.DS_STATUS_n_STATE n) (v := Ds.disconnected) hs.regs
      (Nat.le_of_ble_eq_true rfl) (Nat.le_of_ble_eq_true rfl)
    exact ⟨_, exec_pwr2goodElapsed_powered hu hp hd hc, hst, hframe, hsame⟩

end Sys2Proof.Machine
end

section
/-! What every command answers, and the queue (O1, O6). -/
namespace Sys2Proof.Machine

/-- An answer by a test is a next state where it is one in both branches. -/
theorem answers_ite {c : Prop} [Decidable c] {a b : Res} (ha : ∃ t, a = .next t) (hb : ∃ t, b = .next t) :
    ∃ t, (if c then a else b) = .next t := by
  split
  · exact ha
  · exact hb

/-- Every command answers a next state: three by a test whose branches both do, each other by its definition. -/
theorem exec_answers (c : Instr) (s : State) : ∃ t, exec c s = .next t := by
  cases c with
  | wheelSlot n => exact answers_ite ⟨_, rfl⟩ ⟨_, rfl⟩
  | bootSlotChecked => exact answers_ite ⟨_, rfl⟩ ⟨_, rfl⟩
  | rowRepair array row bad spares => exact answers_ite ⟨_, rfl⟩ ⟨_, rfl⟩
  | _ => exact ⟨_, rfl⟩

/-- Settles O6: a command answers a next state, and what every command keeps includes the queue. -/
theorem noCommandTouchesTheQueue : Obligations.NoCommandTouchesTheQueue := by
  intro c s hs
  obtain ⟨t, ht⟩ := exec_answers c s
  have hk := exec_kept c (Kept.refl hs)
  rw [ht] at hk
  exact ⟨t, ht, hk.pending⟩

/-- Settles O1: a step looks at the queue, whose front is the command. -/
theorem stepRunsTheFrontCommand : Obligations.StepRunsTheFrontCommand := by
  intro c rest s hq
  unfold step
  rw [hq]

end Sys2Proof.Machine
end

section
/-! A Type-C port from its terminations to attach and detach, ENABLE, REARM and moisture (O42). -/
namespace Sys2Proof.Machine

/-- The PDA domain runs in every power state but OFF (R10). -/
theorem State.pda_of_on {s : State} (h : s.power ≠ 4) (f : State → State) : s.pda f = f s := if_neg h

/-! ### Fields of one register, and a field with an event after it -/

/-- Two fields of one word share no bit. -/
def FRef.apart (f g : FRef) : Bool :=
  Nat.ble (f.lsb + f.width) 32 && (Nat.ble (g.lsb + g.width) f.lsb || Nat.ble (f.lsb + f.width) g.lsb)

/-- A field reads as before where one that shares no bit with it is written. -/
theorem State.get_put_apart {s : State} {f g : FRef} (v : Nat) (h : cellsWf 0 s.regs = true) (ha : g.addr = f.addr)
    (hd : f.apart g = true) : (s.put f v).get g = s.get g := by
  simp only [FRef.apart, Bool.and_eq_true, Bool.or_eq_true, Nat.ble_eq] at hd
  exact State.get_put_disj f g v h hd.1 ha hd.2

/-- A field is written and an event of another register raised: both read so, and nothing else changes but the count of rises. -/
theorem State.put_raise_alone {s : State} {f g : FRef} {v n : Nat} (hw : cellsWf 0 s.regs = true) (hf : f.lsb + f.width ≤ 32)
    (hv : v < 2 ^ f.width) (hg : g.lsb + g.width ≤ 32) (hfg : f.addr ≠ g.addr) (hfr : f.addr ≠ A.EVT_RISE_s n)
    (hgr : g.addr ≠ A.EVT_RISE_s n) :
    let t := (s.put f v).raise n g
    t.get f = v ∧ t.get g = 2 ^ g.width - 1 ∧ t = { s with regs := t.regs, router := t.router }
      ∧ s.SameRegs t [f.addr, g.addr, A.EVT_RISE_s n] := by
  have hput := State.put_reports f v hw
  have hlt : 2 ^ g.width - 1 < 2 ^ g.width := Nat.sub_lt (Nat.two_pow_pos _) Nat.one_pos
  exact ⟨(State.get_raise_ne _ _ _ hput.wf hfg hfr).trans (State.put_alone hw hf hv).1,
    (State.get_raise_same _ _ hput.wf hg hgr), State.raise_frame _ _ _,
    (hput.trans (State.raise_reports n g hput.wf)).same⟩

/-! ### Terminations (R500, R502) -/

section
variable {s : State} {p : Fin 4} (hp : s.power ≠ 4)
include hp

theorem exec_drpToggle_unattached (hu : s.tcState p = Tc.unattached) (hm : s.tcMode p = 2) :
    exec (.drpToggle p) s = .next ((s.modTc p (fun t => { t with rp := !t.rp })).rpFollow p) :=
  congrArg Host.Outcome.next ((if_neg hp).trans (if_pos (by simp [hu, hm])))

end

/-- The partner's terminations are kept, and the Rp seen where the hub is not source. -/
def State.ccKept (s : State) (p : Nat) (cc : Nat × Nat) (rp : Nat) : State :=
  if s.isSrc p then s.modTc p (fun t => { t with cc := cc })
  else (s.modTc p (fun t => { t with cc := cc })).modTc p (fun t => { t with seen := rp })

section
variable (s : State) (p : Nat) (cc : Nat × Nat) (rp : Nat)

theorem State.ccKept_eq_iff : (s.modTc p (fun t => { t with cc := cc })).iff (!(s.modTc p (fun t => { t with cc := cc })).isSrc p)
    (fun s => s.modTc p (fun t => { t with seen := rp })) = s.ccKept p cc rp := by
  have hrole : (s.modTc p (fun t => { t with cc := cc })).isSrc p = s.isSrc p := rfl
  unfold State.ccKept
  rw [hrole]
  cases s.isSrc p <;> rfl

@[simp] theorem State.ccKept_isSrc : (s.ccKept p cc rp).isSrc p = s.isSrc p := by
  unfold State.ccKept
  split <;> rfl

@[simp] theorem State.ccKept_tcRuns : (s.ccKept p cc rp).tcRuns p = s.tcRuns p := by
  unfold State.ccKept
  split <;> rfl

@[simp] theorem State.ccKept_tcMode : (s.ccKept p cc rp).tcMode p = s.tcMode p := by
  unfold State.ccKept
  split <;> rfl

@[simp] theorem State.ccKept_rp : ((s.ccKept p cc rp).tcp p).rp = (s.tcp p).rp := by
  unfold State.ccKept
  split <;> simp

end

/-- Rp is presented from a state in which the port waits: as it does in ATTACH_WAIT_SRC, as it does not in ATTACH_WAIT_SNK, and from
UNATTACHED by its turn and its mode. -/
def State.waitsAsSrc (s : State) (p : Nat) : Bool :=
  if s.tcState p = Tc.waitSrc then true else if s.tcState p = Tc.waitSnk then false else (s.tcp p).rp || s.tcMode p == 1

/-- The state that the terminations call for is taken, in an accessory state with its events. -/
def State.tcTake (s : State) (p n : Nat) : State :=
  if n = Tc.audio then (((s.tcTo p n).tcEvt p 4).tcEvt p 0).rpFollow p
  else if n = Tc.debug then
    (((((s.tcEnter p n).modTc p (fun t => { t with srcEn := s.dryPort p })).setRole p (F.TC_STATUS_PR p) true).tcEvt p 4).tcEvt p
      0).rpFollow p |>.faces
  else (s.tcTo p n).rpFollow p

section
variable {s : State} {p : Fin 4} (hp : s.power ≠ 4) (c1 c2 : Fin 4) (seen : CcIn)
include hp

theorem exec_ccTerminationChange_sink (hst : s.tcState p = Tc.snk) (hk : s.isSrc p = false) :
    exec (.ccTerminationChange p c1 c2 seen) s
      = .next (((s.ccKept p (c1.val, c2.val) seen.rp.val).rpFollow p).tcSettle p) := by
  show execCcTerminationChange p c1 c2 seen s = _
  unfold execCcTerminationChange
  rw [State.pda_of_on hp]
  dsimp only
  rw [State.ccKept_eq_iff, if_pos (by simp [hst, hk])]

theorem exec_ccTerminationChange_waiting
    (hst : s.tcState p = Tc.unattached ∨ s.tcState p = Tc.waitSrc ∨ s.tcState p = Tc.waitSnk) (hr : s.tcRuns p = true) :
    exec (.ccTerminationChange p c1 c2 seen) s = .next ((s.ccKept p (c1.val, c2.val) seen.rp.val).tcTake p
      (tcTarget (s.waitsAsSrc p) c1 c2 seen.vbus)) := by
  have hsnk : s.tcState p ≠ Tc.snk := by
    rcases hst with h | h | h <;> rw [h] <;> decide
  show execCcTerminationChange p c1 c2 seen s = _
  unfold execCcTerminationChange
  rw [State.pda_of_on hp]
  dsimp only
  rw [State.ccKept_eq_iff, if_neg (by simp [hsnk]), if_neg (by simpa [hr, or_iff_not_imp_left] using hst), State.ccKept_rp, State.ccKept_tcMode]
  rfl

end

section
variable {s : State} {p n : Nat}

theorem State.tcTake_plain (ha : n ≠ Tc.audio) (hd : n ≠ Tc.debug) : s.tcTake p n = (s.tcTo p n).rpFollow p :=
  (if_neg ha).trans (if_neg hd)

theorem State.tcTake_audio : s.tcTake p Tc.audio = (((s.tcTo p Tc.audio).tcEvt p 4).tcEvt p 0).rpFollow p := if_pos rfl

theorem State.tcTake_debug : s.tcTake p Tc.debug
    = (((((((s.tcEnter p Tc.debug).modTc p (fun t => { t with srcEn := s.dryPort p })).setRole p
        (F.TC_STATUS_PR p) true).tcEvt p 4).tcEvt p 0).rpFollow p).faces) :=
  (if_neg (by decide)).trans (if_pos rfl)

end

/-! ### Debounce (R500, R506) -/

/-- A dry port reads WET 0. -/
theorem State.dryPort_iff {s : State} {p : Nat} : s.dryPort p = true ↔ s.get (F.TC_STATUS_WET p) = 0 := by
  simp [State.dryPort, State.flag]

section
variable {s : State} {p : Fin 4} (hp : s.power ≠ 4)
include hp

section
variable (rp : Fin 4)

section
variable (hst : s.tcState p = Tc.waitSrc)
include hst

theorem exec_ccDebounce_waitSrc_dry (hw : s.get (F.TC_STATUS_WET p) = 0) :
    exec (.ccDebounce p rp) s = .next ((s.attachSrc p ((s.tcp p).cc.2 == 2)).tcSettle p) :=
  congrArg Host.Outcome.next ((if_neg hp).trans ((if_pos hst).trans (if_neg (by simp [State.flag_of_zero hw]))))

theorem exec_ccDebounce_waitSrc_wet (hw : s.get (F.TC_STATUS_WET p) = 1) :
    exec (.ccDebounce p rp) s = .next (((s.tcTo p Tc.unattached).tcFlt p 0).rpFollow p) :=
  congrArg Host.Outcome.next ((if_neg hp).trans ((if_pos hst).trans (if_pos (State.flag_of_one hw))))

end

theorem exec_ccDebounce_waitSnk (hst : s.tcState p = Tc.waitSnk) : exec (.ccDebounce p rp) s = .next (
    let u := (s.put (F.TC_STATUS_ORIENT p) (bit1 ((s.tcp p).cc.2 == 3))).modTc p (fun t => { t with seen := rp.val })
    if bitAt (u.tcConfig p) 2 = true ∧ s.get (F.TC_STATUS_WET p) = 0
      then ((u.tcTo p Tc.trySrc).modTc p (fun t => { t with rp := true })).rpFollow p else (u.attachSnk p).tcSettle p) :=
  congrArg Host.Outcome.next ((if_neg hp).trans ((if_neg (by rw [hst]; decide)).trans ((if_pos hst).trans
    (if_congr (by simp [State.flag]) rfl rfl))))

end

section
variable (hst : s.tcState p = Tc.trySrc)
include hst

theorem exec_tryCcDebounce_trySrc (cc2 : Bool) : exec (.tryCcDebounce p cc2) s
    = .next (if s.get (F.TC_STATUS_WET p) = 0 then (s.attachSrc p cc2).tcSettle p
        else (((s.tcTo p Tc.unattached).modTc p (fun t => { t with rp := s.tcMode p == 1 })).tcFlt p 0).rpFollow p) :=
  congrArg Host.Outcome.next ((if_neg hp).trans ((if_pos hst).trans (if_congr State.dryPort_iff rfl rfl)))

theorem exec_drpTryTimeout_trySrc : exec (.drpTryTimeout p) s
    = .next (((s.modTc p (fun t => { t with rp := false })).attachSnk p).tcSettle p) :=
  congrArg Host.Outcome.next ((if_neg hp).trans (if_pos hst))

end

/-! ### Detach (R500, R526) -/

theorem exec_ccOpen_leaves (hst : s.tcState p = Tc.src ∨ (s.tcState p = Tc.snk ∧ s.tcBusy p = true) ∨ s.tcState p = Tc.waitSrc
    ∨ s.tcState p = Tc.waitSnk) : exec (.ccOpen p) s = .next (s.tcLeave p Tc.unattached) :=
  congrArg Host.Outcome.next ((if_neg hp).trans (if_pos (by simpa [or_assoc] using hst)))

section
variable (hst : s.tcState p = Tc.snk)
include hst

theorem exec_vbusLoss_idle (hb : s.tcBusy p = false) : exec (.vbusLoss p) s = .next (s.tcLeave p Tc.unattached) :=
  congrArg Host.Outcome.next ((if_neg hp).trans ((if_neg (by simp [hst])).trans (if_pos (by simp [hb]))))

theorem exec_vbusLoss_awaits_psRdy (hw : (s.tcp p).wait = .psRdy) :
    exec (.vbusLoss p) s = .next ((s.modTc p (fun t => { t with lost := true })).sysInput) := by
  have hb : s.tcBusy p = true := by simp [State.tcBusy, hw]
  exact congrArg Host.Outcome.next ((if_neg hp).trans ((if_neg (by simp [hst])).trans ((if_neg (by simp [hb])).trans
    (if_pos (by simp [hw])))))

end

theorem exec_accessoryDetach_accessory (hst : s.tcState p = Tc.audio ∨ s.tcState p = Tc.debug) :
    exec (.accessoryDetach p) s = .next (s.tcLeave p Tc.unattached) :=
  congrArg Host.Outcome.next ((if_neg hp).trans (if_pos (by simpa using hst)))

theorem exec_errorRecoveryEnd_recovery (hst : s.tcState p = Tc.recovery) :
    exec (.errorRecoveryEnd p) s = .next ((s.tcTo p Tc.disabled).tcFlt p 2) :=
  congrArg Host.Outcome.next ((if_neg hp).trans (if_pos hst))

/-! ### Moisture (R505, R506) -/

/-- The lowest leakage of a test is stored. -/
def State.leakNoted (s : State) (p kohm : Nat) : State := s.put (F.TC_MOIST_LEAK_KOHM p) (min kohm 65535)

/-- A port is found wet. -/
def State.foundWet (s : State) (p : Nat) : State :=
  (((s.modTc p (fun t => { t with dry := 0 })).put (F.TC_STATUS_WET p) 1).bump (F.TC_MOIST_WET_COUNT p) 1).tcFlt p 0

section
variable (hc : bitAt (s.tcConfig p) 9 = true) (kohm : Nat)
include hc

theorem exec_moistureTest_wet (hk : kohm < 500) : exec (.moistureTest p kohm) s = .next (
    let v := (s.leakNoted p kohm).foundWet p
    if v.tcState p = Tc.src then v.tcLeave p Tc.unattached
    else if v.tcState p = Tc.debug then v.modTc p (fun t => { t with srcEn := false }) else v) :=
  congrArg Host.Outcome.next ((if_neg hp).trans ((if_neg (by simp [hc])).trans (if_pos hk)))

theorem exec_moistureTest_dry (hk : 500 ≤ kohm) : exec (.moistureTest p kohm) s = .next (
    let n := ((s.leakNoted p kohm).tcp p).dry + 1
    let v := (s.leakNoted p kohm).modTc p (fun t => { t with dry := min n 2 })
    if 2 ≤ n then (v.put (F.TC_STATUS_WET p) 0).modTc p
      (fun t => { t with srcEn := t.srcEn || (v.flag (F.TC_STATUS_WET p) && v.tcState p == Tc.debug) }) else v) :=
  congrArg Host.Outcome.next ((if_neg hp).trans ((if_neg (by simp [hc])).trans (if_neg (Nat.not_lt.2 hk))))

end
end

/-! ### ENABLE and REARM of TC_CTRL (R500, R531, R638) -/

theorem wregAt_tcCtrl : ∀ p : Fin 4, wregAt (A.TC_CTRL p) = some (.tcCtrl p) := by decide +kernel

theorem tcCtrl_plain (p : Nat) : (WReg.tcCtrl p).Plain := ⟨rfl, fun _ => rfl, rfl, fun _ _ => rfl⟩

/-- ENABLE of TC_CTRL, stored, starts or stops the port. -/
theorem State.wordEffect_tcEnable (s : State) (a p : Nat) (on : Bool) :
    (s.wordEffect a (.tcCtrl p) [⟨F.TC_CTRL_ENABLE p, .rw, .live, bit1 on⟩]).2
      = (s.put (F.TC_CTRL_ENABLE p) (bit1 on)).tcEnable p on := by
  rw [State.wordEffect_of_plain (r := .tcCtrl p) rfl nofun nofun nofun, State.storeWord_live]
  cases on <;> rfl

/-- A self-clearing bit of TC_CTRL acts by itself. -/
theorem State.wordEffect_tcBit (s : State) (a p lsb : Nat) :
    (s.wordEffect a (.tcCtrl p) [⟨⟨A.TC_CTRL p, lsb, 1⟩, .sc, .live, 1⟩]).2
      = s.wordAction a (.tcCtrl p) [⟨⟨A.TC_CTRL p, lsb, 1⟩, .sc, .live, 1⟩] := by
  rw [State.wordEffect_of_plain (r := .tcCtrl p) rfl nofun nofun nofun, State.storeWord_sc]

/-- BOARD and service write ENABLE of a port. -/
theorem State.mayWrite_tcEnable {s : State} {a : Agent} {p : Fin 4} (hb : s.boardOrService a = true) (v : Nat) :
    s.mayWrite a (.tcCtrl p) 0 v = true := by
  simpa [State.mayWrite] using hb

/-- The host of a port, BOARD and a shared writer write the other bits of its TC_CTRL, HARD_RESET in service mode. -/
theorem State.mayWrite_tcBit {s : State} {a : Agent} {p : Fin 4} (ha : a.val = p.val ∨ a.val = 4 ∨ s.sharedWriter a = true)
    {lsb : Nat} (h0 : lsb ≠ 0) (h8 : lsb ≠ 8 ∨ s.inService a = true) (v : Nat) : s.mayWrite a (.tcCtrl p) lsb v = true := by
  simp only [State.mayWrite, if_neg h0, Bool.and_eq_true, Bool.or_eq_true, beq_iff_eq, bne_iff_ne, or_assoc]
  exact ⟨ha, h8⟩

theorem exec_tcEnable_of_taken {s : State} {a : Agent} {p : Fin 4} {on : Bool} (hb : s.boardOrService a = true)
    (ht : s.TakesField a (A.TC_CTRL p) 0 1 (bit1 on)) (hne : s.get (F.TC_CTRL_ENABLE p) ≠ bit1 on)
    (hin : on = true ∨ s.get (F.TC_STATUS_SYS_INPUT p) = 0) :
    exec (.tcEnable a p on) s = .next ((s.put (F.TC_CTRL_ENABLE p) (bit1 on)).tcEnable p on) := by
  have hbusy : s.wordBusy (.tcCtrl p) [⟨F.TC_CTRL_ENABLE p, .rw, .live, bit1 on⟩] = false := by
    rcases hin with rfl | h
    · rfl
    · simp [State.wordBusy, State.flag_of_zero h]
  have h := State.fieldArrives_of_live (acc := .rw) (wregAt_tcCtrl p) (tcCtrl_plain p) (by cases on <;> decide)
    List.mem_cons_self (bne_iff_ne.2 hne.symm) (by unfold A.TC_CTRL; omega) ht
    ⟨rfl, State.mayWrite_tcEnable hb, rfl, rfl, hbusy⟩
  exact congrArg Host.Outcome.next (h.trans (State.wordEffect_tcEnable s a p on))

/-- A bit of TC_CTRL that the hub takes acts. -/
theorem State.fieldArrives_tcBit {s : State} {a : Agent} {p : Fin 4} {lsb : Nat}
    (ha : a.val = p.val ∨ a.val = 4 ∨ s.sharedWriter a = true) (h0 : lsb ≠ 0) (h8 : lsb ≠ 8 ∨ s.inService a = true)
    (hm : ⟨lsb, 1, .sc, .live⟩ ∈ (WReg.tcCtrl p).fields) (ht : s.TakesField a (A.TC_CTRL p) lsb 1 1) :
    s.fieldArrives a (A.TC_CTRL p) lsb 1 1 = s.wordAction a (.tcCtrl p) [⟨⟨A.TC_CTRL p, lsb, 1⟩, .sc, .live, 1⟩] := by
  have hbusy : s.wordBusy (.tcCtrl p) [⟨⟨A.TC_CTRL p, lsb, 1⟩, .sc, .live, 1⟩] = false := by simp [State.wordBusy]
  exact (State.fieldArrives_of_live (acc := .sc) (wregAt_tcCtrl p) (tcCtrl_plain p) (by decide) hm rfl
    (by unfold A.TC_CTRL; omega) ht ⟨rfl, State.mayWrite_tcBit ha h0 h8, rfl, rfl, hbusy⟩).trans
    (State.wordEffect_tcBit s a p lsb)

theorem State.tcRearm_of_disabled {s : State} {p : Nat} (hst : s.tcState p = Tc.disabled) (hr : s.tcRuns p = true) :
    s.tcRearm p = ((s.tcTo p Tc.unattached).modTc p (fun t => { t with rp := s.tcMode p == 1 })).rpFollow p :=
  if_pos (by simp [hst, hr])

theorem exec_tcRearm_disabled {s : State} {a : Agent} {p : Fin 4} (ha : a.val = p.val ∨ a.val = 4 ∨ s.sharedWriter a = true)
    (ht : s.TakesField a (A.TC_CTRL p) 1 1 1) (hst : s.tcState p = Tc.disabled) (hr : s.tcRuns p = true) :
    exec (.tcRearm a p) s
      = .next (((s.tcTo p Tc.unattached).modTc p (fun t => { t with rp := s.tcMode p == 1 })).rpFollow p) :=
  congrArg Host.Outcome.next ((State.fieldArrives_tcBit ha (by decide) (.inl (by decide)) (by simp [WReg.fields]) ht).trans
    (State.tcRearm_of_disabled hst hr))

/-- Settles O42: each event of a port by the lemma of its command; what the terminations call for is taken from the state with them
kept, whose roles, mode and terminations presented are those before. -/
theorem portAttach : Obligations.PortAttach := by
  intro s p hs hp
  refine ⟨exec_drpToggle_unattached hp, fun c1 c2 seen => ⟨exec_ccTerminationChange_sink hp c1 c2 seen, fun hst hr => ?_⟩,
    fun rp => ⟨exec_ccDebounce_waitSrc_dry hp rp, exec_ccDebounce_waitSrc_wet hp rp, exec_ccDebounce_waitSnk hp rp⟩,
    fun hst => ⟨exec_tryCcDebounce_trySrc hp hst, exec_drpTryTimeout_trySrc hp hst⟩, exec_ccOpen_leaves hp,
    exec_vbusLoss_idle hp, exec_vbusLoss_awaits_psRdy hp, exec_accessoryDetach_accessory hp, fun hst => ?_,
    fun a on => exec_tcEnable_of_taken, fun a => exec_tcRearm_disabled,
    fun kohm hc => ⟨exec_moistureTest_wet hp hc kohm, exec_moistureTest_dry hp hc kohm⟩⟩
  · have h := exec_ccTerminationChange_waiting hp c1 c2 seen hst hr
    refine ⟨fun n hn ha hd => ?_, fun ha => ?_, fun hd => ?_⟩
    · exact h.trans (congrArg Host.Outcome.next ((congrArg _ hn).trans (State.tcTake_plain ha hd)))
    · exact h.trans (congrArg Host.Outcome.next ((congrArg _ ha).trans State.tcTake_audio))
    · exact h.trans (congrArg Host.Outcome.next ((congrArg _ hd).trans State.tcTake_debug))
  · obtain ⟨hget, hflt, hframe, hsame⟩ := State.put_raise_alone (f := F.TC_STATUS_STATE p) (v := Tc.disabled) (n := 241 + 2 * p)
      (g := ⟨A.TC_FLT p, 2, 1⟩) hs.regs (Nat.le_of_ble_eq_true rfl) (Nat.le_of_ble_eq_true rfl) (Nat.le_of_ble_eq_true rfl)
      (by simp only [F.TC_STATUS_STATE, A.TC_STATUS, A.TC_FLT]; omega)
      (by simp only [F.TC_STATUS_STATE, A.TC_STATUS, A.EVT_RISE_s]; omega)
      (by simp only [A.TC_FLT, A.EVT_RISE_s]; omega)
    exact ⟨_, exec_errorRecoveryEnd_recovery hp hst, hget, hflt, hframe, hsame⟩

end Sys2Proof.Machine
end

section
/-! The messages that make a power contract, and the cable's identity (O43). -/
namespace Sys2Proof.Machine

section
variable {s : State} {p : Fin 4} (hon : s.pdOn p = true)
include hon

/-- Where PD runs, the hub is not OFF. -/
theorem State.power_ne_off : s.power ≠ 4 := by
  simp only [State.pdOn, Bool.and_eq_true, bne_iff_ne] at hon
  exact hon.2

/-! ### Capabilities and requests (R507, R516) -/

theorem exec_sourceCapabilities_on (rev epr : Bool) (objs : List Word) (he : epr = true → s.get (F.TC_STATUS_EPR p) = 1) :
    exec (.sourceCapabilities ⟨p, rev⟩ epr objs) s = .next (
      let u := (s.partnerKept p objs).modTc p (fun t => { t with rev2 := rev, dual := bitAt (wordAt objs 0) 29 })
      let v := if epr then u.pdChunkAsk p Msg.eprSourceCaps (4 * objs.length) else u
      if v.isSrc p then v else ((v.pdAwait p .nothing).sendRequest p (v.sinkRdo p objs)).tcSettle p) := by
  have hepr : (epr && !s.flag (F.TC_STATUS_EPR p)) = false := by
    cases epr
    · rfl
    · simp [State.flag_of_one (he rfl)]
  exact congrArg Host.Outcome.next (if_neg (by simp [hon, hepr]))

section
variable (hk : s.isSrc p = true)
include hk

theorem exec_request_source (rev : Bool) (rdo : Word) : exec (.request ⟨p, rev⟩ rdo) s = .next (
    ((s.modTc p (fun t => { t with rev2 := rev })).answerRequest p rdo.toNat
      (requestOk (s.cableI p) (askedObj (s.tcp p).offered rdo.toNat) rdo.toNat && !s.flag (F.TC_STATUS_EPR p))).tcSettle p) := by
  have hoffered : ((s.modTc p (fun t => { t with rev2 := rev })).tcp p).offered = (s.tcp p).offered := by simp
  rw [← hoffered]
  exact congrArg Host.Outcome.next (if_neg (by simp [hon, hk]))

theorem exec_eprRequest_source (rdo pdo : Word) : exec (.eprRequest p rdo pdo) s = .next ((s.answerRequest p rdo.toNat
    (s.flag (F.TC_STATUS_EPR p) && requestOk (s.cableI p) (askedObj (s.tcp p).offered rdo.toNat) rdo.toNat
      && askedObj (s.tcp p).offered rdo.toNat == pdo.toNat)).tcSettle p) :=
  congrArg Host.Outcome.next (if_neg (by simp [hon, hk]))

end

/-! ### Accept (R516, R519, R522) -/

theorem exec_accept_request (hw : (s.tcp p).wait = .accept) :
    exec (.accept p) s = .next (((s.pdAnswered p).pdAwait p .psRdy).tcSettle p) := by
  show execAccept p s = _
  unfold execAccept
  rw [if_neg (State.pd_heard hon), hw]

theorem exec_accept_drSwap (hw : (s.tcp p).wait = .swap 1) : exec (.accept p) s
    = .next (((s.pdAnswered p).setRole p (F.TC_STATUS_DR p) (!s.flag (F.TC_STATUS_DR p))).tcSettle p) := by
  show execAccept p s = _
  unfold execAccept
  rw [if_neg (State.pd_heard hon), hw]
  rfl

theorem exec_accept_vconnSwap (hw : (s.tcp p).wait = .swap 2) : exec (.accept p) s
    = .next (if s.flag (F.TC_STATUS_VCONN p) then ((s.pdAnswered p).pdAwait p (.swapRdy 2)).tcSettle p
        else (((s.pdAnswered p).setRole p (F.TC_STATUS_VCONN p) true).pdCtl p Msg.psRdy).tcSettle p) := by
  show execAccept p s = _
  unfold execAccept
  rw [if_neg (State.pd_heard hon), hw]
  rfl

theorem exec_accept_prSwap (hw : (s.tcp p).wait = .swap 0) : exec (.accept p) s = .next (let u := s.pdAnswered p
    ((if s.isSrc p then (u.modTc p (fun t => { t with srcEn := false })).pdCtl p Msg.psRdy else u).pdAwait p (.swapRdy 0)).tcSettle
      p) := by
  show execAccept p s = _
  unfold execAccept
  rw [if_neg (State.pd_heard hon), hw]
  rfl

theorem exec_accept_frSwap (hw : (s.tcp p).wait = .swap 3) : exec (.accept p) s
    = .next ((((s.pdAnswered p).pdCtl p Msg.psRdy).pdAwait p (.swapRdy 3)).tcSettle p) := by
  show execAccept p s = _
  unfold execAccept
  rw [if_neg (State.pd_heard hon), hw]
  rfl

theorem exec_accept_softReset (hw : (s.tcp p).wait = .soft) : exec (.accept p) s = .next (
    let u := s.modTc p (fun t => { t with soft := 2, wait := if s.isSrc p then .nothing else .caps })
    (if s.isSrc p then u.sendCaps p else u).tcSettle p) := by
  show execAccept p s = _
  unfold execAccept
  rw [if_neg (State.pd_heard hon), hw]
  rfl

/-! ### Reject and Wait (R510, R517, R528) -/

theorem exec_reject_request (hw : (s.tcp p).wait = .accept) : exec (.reject p) s = .next ((s.pdAnswered p).tcSettle p) := by
  show execReject p s = _
  unfold execReject State.pdRefused
  rw [if_neg (State.pd_heard hon), hw]

theorem exec_wait_request (hw : (s.tcp p).wait = .accept) : exec (.wait p) s = .next ((s.pdAnswered p).tcSettle p) := by
  show execWait p s = _
  unfold execWait
  rw [if_neg (State.pd_heard hon), hw]

section
variable {k : Nat} (hw : (s.tcp p).wait = .swap k)
include hw

theorem exec_reject_swap : exec (.reject p) s = .next ((((s.dropDiscovery p k).autoEnds p k).pdAnswered p).tcSettle p) := by
  show execReject p s = _
  unfold execReject State.pdRefused
  rw [if_neg (State.pd_heard hon), hw]

/-- A swap that waits is kept to be asked again, but for the attempt of R517 and a fast role swap. -/
theorem exec_wait_swap : exec (.wait p) s = .next (
    let u := if k ≠ 3 ∧ ¬ (k = 0 ∧ (s.tcp p).autoNow = true)
      then s.modTc p (fun t => { t with retry := some (s.retryAct p k, s.rails.hamada + 800) }) else s
    (((u.dropDiscovery p k).autoEnds p k).pdAnswered p).tcSettle p) := by
  have hagain : (!(k == 0 && (s.tcp p).autoNow) && k != 3) = true ↔ k ≠ 3 ∧ ¬ (k = 0 ∧ (s.tcp p).autoNow = true) := by
    simp [and_comm, imp_iff_not_or]
  show execWait p s = _
  unfold execWait State.iff
  rw [if_neg (State.pd_heard hon), hw]
  dsimp only
  rw [if_congr hagain rfl rfl]

end

/-! ### PS_RDY and the end of a voltage transition (R516, R519, R520) -/

theorem exec_psRdy_contract (hw : (s.tcp p).wait = .psRdy) : exec (.psRdy p) s
    = .next (((s.pdAnswered p).contract p (s.get (F.PD_RDO_V p)) (askedObj (s.partner p) (s.get (F.PD_RDO_V p)))).tcSettle p) := by
  show execPsRdy p s = _
  unfold execPsRdy
  rw [if_neg (State.pd_heard hon), hw]

theorem exec_psRdy_prSwap (hw : (s.tcp p).wait = .swapRdy 0) : exec (.psRdy p) s
    = .next (if s.isSrc p then ((s.pdAnswered p).powerRole p false).tcSettle p
        else (((s.pdAnswered p).pdCtl p Msg.psRdy).powerRole p true).tcSettle p) := by
  show execPsRdy p s = _
  unfold execPsRdy
  rw [if_neg (State.pd_heard hon), hw]
  rfl

theorem exec_psRdy_frSwap (hw : (s.tcp p).wait = .swapRdy 3) : exec (.psRdy p) s
    = .next (if s.isSrc p then (((s.pdAnswered p).powerRole p false).tcFlt p 6).tcSettle p
        else (((s.pdAnswered p).pdCtl p Msg.psRdy).powerRole p true).tcSettle p) := by
  show execPsRdy p s = _
  unfold execPsRdy
  rw [if_neg (State.pd_heard hon), hw]
  rfl

theorem exec_psRdy_vconnSwap (hw : (s.tcp p).wait = .swapRdy 2) : exec (.psRdy p) s
    = .next (((s.pdAnswered p).setRole p (F.TC_STATUS_VCONN p) false).tcSettle p) := by
  show execPsRdy p s = _
  unfold execPsRdy
  rw [if_neg (State.pd_heard hon), hw]
  rfl

theorem exec_voltageTransitionDone_under_way {rdo : Nat} (ht : (s.tcp p).trans = some rdo) : exec (.voltageTransitionDone p) s
    = .next (((s.pdCtl p Msg.psRdy).contract p rdo (askedObj (s.tcp p).offered rdo)).tcSettle p) := by
  show execVoltageTransitionDone p s = _
  unfold execVoltageTransitionDone
  rw [State.pda_of_on (State.power_ne_off hon), ht]

end

/-! ### The cable's identity (R510, R511) -/

/-- A truth value fits one bit. -/
theorem bit1_mod_two (b : Bool) : bit1 b % 2 = bit1 b := by cases b <;> rfl

/-- CABLE_CLASS that a cable's VDO gives. -/
def cableClass (active : Bool) (v : Nat) : Nat :=
  if active = true then (if 1 ≤ bitsOf v 13 4 ∧ bitsOf v 13 4 ≤ 4 then 3 else 0)
  else if bitsOf v 13 4 = 1 then 1 else if bitsOf v 13 4 = 2 then 2 else 0

/-- GEAR that a cable's VDO gives, none without a class. -/
def cableGear (cls v : Nat) : Nat :=
  if cls = 0 ∨ bitsOf v 0 3 = 0 then 0 else if bitsOf v 0 3 ≤ 2 then 1 else if bitsOf v 0 3 = 3 then 2 else 3

/-- The limits that a cable's VDO gives, in PD_CABLE_LIM. -/
def State.cableLimits (s : State) (p : Nat) (active : Bool) (v : Nat) : State :=
  ((((s.put (F.PD_CABLE_LIM_I5A p) (bit1 (bitsOf v 5 2 == 2))).put (F.PD_CABLE_LIM_V50 p) (bit1 (bitsOf v 9 2 == 3 && bitAt v 17))).put
    (F.PD_CABLE_LIM_GEAR p) (cableGear (cableClass active v) v)).put (F.PD_CABLE_LIM_CLASS p) (cableClass active v)).put
    (F.PD_CABLE_LIM_SOP2 p) (bit1 (active && bitAt v 3))

/-- A cable's identity is kept: its VDO, the limits that it gives, its class, and the event. -/
def State.cableKnown (s : State) (p : Nat) (active : Bool) (v : Nat) : State :=
  ((((s.pdAnswered p).put (F.PD_CABLE_VDO_V p) v).cableLimits p active v).put (F.CV_STATUS_CABLE_CLASS p) (cableClass active v)).tcEvt p 3

/-- An active cable with a second plug is asked there too. -/
def State.askFarPlug (s : State) (p : Nat) (active : Bool) (v : Nat) : State :=
  if active = true ∧ bitAt v 3 = true ∧ s.sopPrime p = true
  then s.pdSend p 4 Msg.vdm false [vdmHdr 0xFF00 0 1 0] else s

/-- What the hub offers or asks for follows the cable. -/
def State.followCable (s : State) (p : Nat) : State :=
  if s.isSrc p = true then (if s.srcOffer p = (s.tcp p).offered then s else s.sendCaps p)
  else (if s.sinkRdo p (s.partner p) = s.get (F.PD_RDO_V p) then s.eprTry p else s.sendRequest p (s.sinkRdo p (s.partner p)))

section
variable {s : State} {p : Fin 4} (hon : s.pdOn p = true) (hw : (s.tcp p).wait = .cable) (active : Bool) (vdo : Word)
include hon hw

theorem exec_cableIdentityResponse_silent :
    exec (.cableIdentityResponse p false active vdo) s = .next ((s.pdAnswered p).tcSettle p) :=
  congrArg Host.Outcome.next ((if_neg (by simp [hon, hw])).trans (if_pos rfl))

theorem exec_cableIdentityResponse_known : exec (.cableIdentityResponse p true active vdo) s
    = .next ((((s.cableKnown p active vdo.toNat).askFarPlug p active vdo.toNat).followCable p).tcSettle p) := by
  have hclass : (if active = true then (if (decide (1 ≤ bitsOf vdo.toNat 13 4) && decide (bitsOf vdo.toNat 13 4 ≤ 4)) = true then 3 else 0)
      else if bitsOf vdo.toNat 13 4 = 1 then 1 else if bitsOf vdo.toNat 13 4 = 2 then 2 else 0) = cableClass active vdo.toNat := by
    simp [cableClass]
  have hgear : (if cableClass active vdo.toNat = 0 then 0
      else if bitsOf vdo.toNat 0 3 = 0 then 0 else if bitsOf vdo.toNat 0 3 ≤ 2 then 1 else if bitsOf vdo.toNat 0 3 = 3 then 2 else 3)
      = cableGear (cableClass active vdo.toNat) vdo.toNat := by
    unfold cableGear
    split <;> simp_all
  have hplug (u : State) : (if (active && bitAt vdo.toNat 3 && u.sopPrime p) = true
      then u.pdSend p 4 Msg.vdm false [vdmHdr 0xFF00 0 1 0] else u) = u.askFarPlug p active vdo.toNat :=
    if_congr (by simp [and_assoc]) rfl rfl
  show execCableIdentityResponse p true active vdo s = _
  unfold execCableIdentityResponse
  dsimp only
  rw [if_neg (by simp [hon, hw]), if_neg (by decide), hclass, hgear, hplug]
  rfl

end

section
variable {s : State} (hwf : cellsWf 0 s.regs = true) (p : Fin 4) (active : Bool) (v : Nat)
include hwf

theorem State.cableLimits_reports : s.ReportsOnly (s.cableLimits p active v) [A.PD_CABLE_LIM p] :=
  have r1 := State.put_reports (F.PD_CABLE_LIM_I5A p) (bit1 (bitsOf v 5 2 == 2)) hwf
  have r2 := State.put_reports (F.PD_CABLE_LIM_V50 p) (bit1 (bitsOf v 9 2 == 3 && bitAt v 17)) r1.wf
  have r3 := State.put_reports (F.PD_CABLE_LIM_GEAR p) (cableGear (cableClass active v) v) r2.wf
  have r4 := State.put_reports (F.PD_CABLE_LIM_CLASS p) (cableClass active v) r3.wf
  ((((r1.trans r2).trans r3).trans r4).trans (State.put_reports (F.PD_CABLE_LIM_SOP2 p) (bit1 (active && bitAt v 3)) r4.wf)).mono
    (by simp [F.PD_CABLE_LIM_I5A, F.PD_CABLE_LIM_V50, F.PD_CABLE_LIM_GEAR, F.PD_CABLE_LIM_CLASS, F.PD_CABLE_LIM_SOP2])

/-- The limits of current and voltage, whose bits the other limits do not share. -/
theorem State.cableLimits_keeps : (s.cableLimits p active v).get (F.PD_CABLE_LIM_I5A p) = bit1 (bitsOf v 5 2 == 2)
    ∧ (s.cableLimits p active v).get (F.PD_CABLE_LIM_V50 p) = bit1 (bitsOf v 9 2 == 3 && bitAt v 17) := by
  have w1 := State.put_wf (F.PD_CABLE_LIM_I5A p) (bit1 (bitsOf v 5 2 == 2)) hwf
  have w2 := State.put_wf (F.PD_CABLE_LIM_V50 p) (bit1 (bitsOf v 9 2 == 3 && bitAt v 17)) w1
  have w3 := State.put_wf (F.PD_CABLE_LIM_GEAR p) (cableGear (cableClass active v) v) w2
  have w4 := State.put_wf (F.PD_CABLE_LIM_CLASS p) (cableClass active v) w3
  unfold State.cableLimits
  constructor
  · rw [State.get_put_apart (f := F.PD_CABLE_LIM_SOP2 p) (g := F.PD_CABLE_LIM_I5A p) _ w4 rfl rfl,
      State.get_put_apart (f := F.PD_CABLE_LIM_CLASS p) (g := F.PD_CABLE_LIM_I5A p) _ w3 rfl rfl,
      State.get_put_apart (f := F.PD_CABLE_LIM_GEAR p) (g := F.PD_CABLE_LIM_I5A p) _ w2 rfl rfl,
      State.get_put_apart (f := F.PD_CABLE_LIM_V50 p) (g := F.PD_CABLE_LIM_I5A p) _ w1 rfl rfl,
      State.get_put_same _ _ hwf (Nat.le_of_ble_eq_true rfl)]
    exact bit1_mod_two _
  · rw [State.get_put_apart (f := F.PD_CABLE_LIM_SOP2 p) (g := F.PD_CABLE_LIM_V50 p) _ w4 rfl rfl,
      State.get_put_apart (f := F.PD_CABLE_LIM_CLASS p) (g := F.PD_CABLE_LIM_V50 p) _ w3 rfl rfl,
      State.get_put_apart (f := F.PD_CABLE_LIM_GEAR p) (g := F.PD_CABLE_LIM_V50 p) _ w2 rfl rfl,
      State.get_put_same _ _ w1 (Nat.le_of_ble_eq_true rfl)]
    exact bit1_mod_two _

/-- What a cable's VDO leaves in the registers: the VDO, the two limits and the event, each in a register of its own. -/
theorem State.cableKnown_keeps (vdo : Word) : let u := s.cableKnown p active vdo.toNat
    u.get (F.PD_CABLE_VDO_V p) = vdo.toNat ∧ u.get (F.PD_CABLE_LIM_I5A p) = bit1 (bitsOf vdo.toNat 5 2 == 2)
      ∧ u.get (F.PD_CABLE_LIM_V50 p) = bit1 (bitsOf vdo.toNat 9 2 == 3 && bitAt vdo.toNat 17)
      ∧ u.get ⟨A.TC_EVT p, 3, 1⟩ = 1 := by
  have r1 := State.put_reports (s := s.pdAnswered p) (F.PD_CABLE_VDO_V p) vdo.toNat hwf
  have r2 := State.cableLimits_reports r1.wf p active vdo.toNat
  have r3 := State.put_reports (F.CV_STATUS_CABLE_CLASS p) (cableClass active vdo.toNat) r2.wf
  have r4 := State.raise_reports (240 + 2 * p) ⟨A.TC_EVT p, 3, 1⟩ r3.wf
  have rest := (r3.trans r4).same
  obtain ⟨hi, hv⟩ := State.cableLimits_keeps r1.wf p active vdo.toNat
  have hlim : A.PD_CABLE_LIM p ∉ [A.CV_STATUS p, A.TC_EVT p, A.EVT_RISE_s (240 + 2 * p)] := by
    simp only [A.PD_CABLE_LIM, A.CV_STATUS, A.TC_EVT, A.EVT_RISE_s, List.mem_cons, List.not_mem_nil, or_false]
    omega
  have hvdo : A.PD_CABLE_VDO p ∉ [A.PD_CABLE_LIM p, A.CV_STATUS p, A.TC_EVT p, A.EVT_RISE_s (240 + 2 * p)] := by
    simp only [A.PD_CABLE_VDO, A.PD_CABLE_LIM, A.CV_STATUS, A.TC_EVT, A.EVT_RISE_s, List.mem_cons, List.not_mem_nil, or_false]
    omega
  refine ⟨?_, (rest _ hlim).trans hi, (rest _ hlim).trans hv,
    State.get_raise_same _ _ r3.wf (Nat.le_of_ble_eq_true rfl) (by simp only [A.TC_EVT, A.EVT_RISE_s]; omega)⟩
  exact ((r2.trans (r3.trans r4)).same (F.PD_CABLE_VDO_V p) hvdo).trans
    ((State.get_put_same (F.PD_CABLE_VDO_V p) _ (s := s.pdAnswered p) hwf (Nat.le_refl 32)).trans (Nat.mod_eq_of_lt vdo.isLt))

end

/-- Settles O43: each message by the lemma of its command, by what the port waits for; a cable's identity by what it leaves in the
registers. -/
theorem powerContracts : Obligations.PowerContracts := by
  intro s p hs hon w
  refine ⟨fun rev epr objs he => exec_sourceCapabilities_on hon rev epr objs he,
    fun hk rev rdo pdo => ⟨exec_request_source hon hk rev rdo, exec_eprRequest_source hon hk rdo pdo⟩,
    fun hw => ⟨exec_accept_request hon hw, exec_reject_request hon hw, exec_wait_request hon hw⟩, exec_accept_drSwap hon,
    exec_accept_vconnSwap hon, exec_accept_prSwap hon, exec_accept_frSwap hon, exec_accept_softReset hon,
    fun k hw => ⟨exec_reject_swap hon hw, exec_wait_swap hon hw⟩, exec_psRdy_contract hon, exec_psRdy_prSwap hon,
    exec_psRdy_frSwap hon, exec_psRdy_vconnSwap hon, fun rdo ht => exec_voltageTransitionDone_under_way hon ht,
    fun hw active vdo => ⟨exec_cableIdentityResponse_silent hon hw active vdo, exec_cableIdentityResponse_known hon hw active vdo,
      ?_⟩⟩
  obtain ⟨hvdo, hi, hv, hevt⟩ := State.cableKnown_keeps hs.regs p active vdo
  exact ⟨hvdo, hi.trans (by simp [bit1]), hv.trans (by simp [bit1]), hevt⟩

end Sys2Proof.Machine
end

section
/-! Role swaps and resets of a Type-C port, from the partner and from the registers (O44). -/
namespace Sys2Proof.Machine

/-! ### A message leaves the registers as they were -/

section
variable (s : State) (p : Nat)

@[simp] theorem State.pdSend_regs (sop ty : Nat) (ext : Bool) (objs : List Word) : (s.pdSend p sop ty ext objs).regs = s.regs := by
  unfold State.pdSend
  dsimp only
  split <;> rfl

@[simp] theorem State.pdCtl_regs (ty : Nat) : (s.pdCtl p ty).regs = s.regs := State.pdSend_regs ..

@[simp] theorem State.isSrc_pdCtl (ty : Nat) : (s.pdCtl p ty).isSrc p = s.isSrc p := by
  unfold State.isSrc State.flag
  rw [State.get_congr (State.pdCtl_regs ..)]

end

/-! ### Swaps that the partner asks for (R519, R528) -/

/-- PR_Swap may be accepted: ACCEPT_PR of a dual-role port, which as sink is dry and has a source object. -/
def State.MayPrSwap (s : State) (p : Nat) : Prop :=
  bitAt (s.tcConfig p) 5 = true ∧ s.tcMode p = 2 ∧ (s.isSrc p = true ∨ s.dryPort p = true ∧ ∃ i < 10, s.srcObj p (i + 1) ≠ 0)

theorem State.mayPrSwap_iff {s : State} {p : Nat} : (bitAt (s.tcConfig p) 5 && s.tcMode p = 2 &&
    (s.isSrc p || (s.dryPort p && (List.range 10).any (fun i => s.srcObj p (i + 1) != 0)))) = true ↔ s.MayPrSwap p := by
  simp [State.MayPrSwap, and_assoc]

section
variable {s : State} {p : Fin 4} (hon : s.pdOn p = true)
include hon

section
variable (hx : s.swapCross p = true)
include hx

theorem exec_prSwap_crossed : exec (.prSwap p) s = .next (s.pdCtl p Msg.wait) :=
  congrArg Host.Outcome.next ((if_neg (State.pd_heard hon)).trans (if_pos hx))

theorem exec_drSwap_crossed : exec (.drSwap p) s = .next (s.pdCtl p Msg.wait) :=
  congrArg Host.Outcome.next ((if_neg (State.pd_heard hon)).trans (if_pos hx))

theorem exec_vconnSwap_crossed : exec (.vconnSwap p) s = .next (s.pdCtl p Msg.wait) :=
  congrArg Host.Outcome.next ((if_neg (State.pd_heard hon)).trans (if_pos hx))

end

section
variable (hx : s.swapCross p = false)
include hx

theorem exec_prSwap_accepted (hm : s.MayPrSwap p) : exec (.prSwap p) s = .next (let u := s.pdCtl p Msg.accept
    ((if s.isSrc p then (u.modTc p (fun t => { t with srcEn := false })).pdCtl p Msg.psRdy else u).pdAwait p
      (.swapRdy 0)).tcSettle p) := by
  rw [← State.isSrc_pdCtl s p Msg.accept]
  exact congrArg Host.Outcome.next ((if_neg (State.pd_heard hon)).trans ((if_neg (by simp [hx])).trans
    (if_pos (State.mayPrSwap_iff.2 hm))))

theorem exec_prSwap_rejected (hm : ¬ s.MayPrSwap p) : exec (.prSwap p) s = .next (s.pdCtl p Msg.reject) :=
  congrArg Host.Outcome.next ((if_neg (State.pd_heard hon)).trans ((if_neg (by simp [hx])).trans
    (if_neg (mt State.mayPrSwap_iff.1 hm))))

/-- A data role that may turn turns. -/
theorem exec_drSwap_turns (hm : (s.flag (F.TC_STATUS_DR p) || bitAt (s.tcConfig p) 6 && !s.flag (F.TC_STATUS_CARAVAN p)) = true) :
    exec (.drSwap p) s = .next (((s.pdCtl p Msg.accept).setRole p (F.TC_STATUS_DR p) (!s.flag (F.TC_STATUS_DR p))).tcSettle p) :=
  congrArg Host.Outcome.next ((if_neg (State.pd_heard hon)).trans ((if_neg (by simp [hx])).trans (if_pos hm)))

theorem exec_drSwap_dfp (hd : s.get (F.TC_STATUS_DR p) = 1) : exec (.drSwap p) s
    = .next (((s.pdCtl p Msg.accept).setRole p (F.TC_STATUS_DR p) false).tcSettle p) := by
  have h := exec_drSwap_turns hon hx (by simp [State.flag_of_one hd])
  rwa [State.flag_of_one hd] at h

section
variable (hd : s.get (F.TC_STATUS_DR p) = 0)
include hd

theorem exec_drSwap_ufp (hb : bitAt (s.tcConfig p) 6 = true) (hc : s.get (F.TC_STATUS_CARAVAN p) = 0) : exec (.drSwap p) s
    = .next (((s.pdCtl p Msg.accept).setRole p (F.TC_STATUS_DR p) true).tcSettle p) := by
  have h := exec_drSwap_turns hon hx (by simp [hb, State.flag_of_zero hc])
  rwa [State.flag_of_zero hd] at h

theorem exec_drSwap_rejected (hno : bitAt (s.tcConfig p) 6 = false ∨ s.get (F.TC_STATUS_CARAVAN p) = 1) :
    exec (.drSwap p) s = .next (s.pdCtl p Msg.reject) := by
  have hstay : (s.flag (F.TC_STATUS_DR p) || bitAt (s.tcConfig p) 6 && !s.flag (F.TC_STATUS_CARAVAN p)) = false := by
    rcases hno with h | h
    · simp [h, State.flag_of_zero hd]
    · simp [State.flag_of_one h, State.flag_of_zero hd]
  exact congrArg Host.Outcome.next ((if_neg (State.pd_heard hon)).trans ((if_neg (by simp [hx])).trans
    (if_neg (ne_true_of_eq_false hstay))))

end

theorem exec_vconnSwap_taken (hv : s.get (F.TC_STATUS_VCONN p) = 0) : exec (.vconnSwap p) s
    = .next ((((s.pdCtl p Msg.accept).setRole p (F.TC_STATUS_VCONN p) true).pdCtl p Msg.psRdy).tcSettle p) :=
  congrArg Host.Outcome.next ((if_neg (State.pd_heard hon)).trans ((if_neg (by simp [hx])).trans
    (if_pos (by simp [State.flag_of_zero hv]))))

section
variable (hv : s.get (F.TC_STATUS_VCONN p) = 1)
include hv

theorem exec_vconnSwap_given (hb : bitAt (s.tcConfig p) 7 = true) : exec (.vconnSwap p) s
    = .next (((s.pdCtl p Msg.accept).pdAwait p (.swapRdy 2)).tcSettle p) :=
  congrArg Host.Outcome.next ((if_neg (State.pd_heard hon)).trans ((if_neg (by simp [hx])).trans
    ((if_neg (by simp [State.flag_of_one hv])).trans (if_pos hb))))

theorem exec_vconnSwap_rejected (hb : bitAt (s.tcConfig p) 7 = false) :
    exec (.vconnSwap p) s = .next (s.pdCtl p Msg.reject) :=
  congrArg Host.Outcome.next ((if_neg (State.pd_heard hon)).trans ((if_neg (by simp [hx])).trans
    ((if_neg (by simp [State.flag_of_one hv])).trans (if_neg (ne_true_of_eq_false hb)))))

end
end

/-! ### Fast role swap and resets that come in (R519, R522, R523) -/

theorem exec_frSwap_running (hf : (s.tcp p).frs = true) (hk : s.isSrc p = false) : exec (.frSwap p) s
    = .next (((s.pdCtl p Msg.accept).pdAwait p (.swapRdy 3)).tcSettle p) :=
  congrArg Host.Outcome.next (if_pos (by simp [hon, hf, hk]))

theorem exec_frSwapSignal_able (hst : s.tcState p = Tc.snk) (hc : s.hasContract p = true) (ha : s.frsAble p = true)
    (hw : s.get (F.TC_STATUS_WET p) = 0) : exec (.frSwapSignal p) s
      = .next ((s.modTc p (fun t => { t with srcEn := true, frs := true })).sysInput) :=
  congrArg Host.Outcome.next ((if_neg (State.power_ne_off hon)).trans (if_pos (by simp [hst, hc, ha, State.dryPort_iff.2 hw])))

theorem exec_softReset_on : exec (.softReset p) s = .next (
    let b := s.bump (F.TC_COUNT2_SOFT_RESETS p) 1
    let u := (b.modTc p (fun t => { t with msgId := 0, trans := none, wait := if b.isSrc p then .nothing else .caps })).pdCtl p Msg.accept
    (if u.isSrc p then u.sendCaps p else u).tcSettle p) :=
  congrArg Host.Outcome.next (if_neg (State.pd_heard hon))

theorem exec_hardResetReceived_on : exec (.hardResetReceived p) s = .next ((s.hardReset p false).tcSettle p) :=
  congrArg Host.Outcome.next (if_pos hon)

end

/-! ### The bits of TC_CTRL (R519, R531, R671) -/

/-- A self-clearing bit of TC_CTRL does what stands under its own number. -/
theorem State.wordAction_tcSwapPr (s : State) (a p : Nat) :
    s.wordAction a (.tcCtrl p) [⟨⟨A.TC_CTRL p, 4, 1⟩, .sc, .live, 1⟩] = s.tcAsk p (.pr false) := by
  simp [State.wordAction, wrOne, wrAt]

theorem State.wordAction_tcSwapDr (s : State) (a p : Nat) :
    s.wordAction a (.tcCtrl p) [⟨⟨A.TC_CTRL p, 5, 1⟩, .sc, .live, 1⟩] = s.tcAsk p .dr := by
  simp [State.wordAction, wrOne, wrAt]

theorem State.wordAction_tcSwapVconn (s : State) (a p : Nat) :
    s.wordAction a (.tcCtrl p) [⟨⟨A.TC_CTRL p, 6, 1⟩, .sc, .live, 1⟩] = s.tcAsk p .vconn := by
  simp [State.wordAction, wrOne, wrAt]

theorem State.wordAction_tcSoftReset (s : State) (a p : Nat) :
    s.wordAction a (.tcCtrl p) [⟨⟨A.TC_CTRL p, 7, 1⟩, .sc, .live, 1⟩]
      = s.iff (s.pdOn p) (fun s => (s.softReset p).put (F.TC_CTRL_SOFT_RESET p) 1) := by
  simp [State.wordAction, wrOne, wrAt]

theorem State.wordAction_tcHardReset (s : State) (a p : Nat) :
    s.wordAction a (.tcCtrl p) [⟨⟨A.TC_CTRL p, 8, 1⟩, .sc, .live, 1⟩]
      = s.iff (s.pdOn p) (fun s => (s.hardReset p true).tcAsked p) := by
  simp [State.wordAction, wrOne, wrAt]

section
variable {s : State} {p : Fin 4} (hon : s.pdOn p = true)
include hon

/-- A swap that TC_CTRL asks for under a contract is to begin. -/
theorem State.pd_asked (hc : s.hasContract p = true) : (s.pdOn p && s.hasContract p) = true := by simp [hon, hc]

section
variable {a : Agent} (ha : a.val = p.val ∨ a.val = 4 ∨ s.sharedWriter a = true)
include ha

section
variable (hc : s.hasContract p = true)
include hc

theorem exec_tcSwapPr_of_taken (ht : s.TakesField a (A.TC_CTRL p) 4 1 1) : exec (.tcSwapPr a p) s
    = .next (((s.put (F.TC_CTRL_SWAP_PR p) 1).modTc p (fun t => { t with todo := t.todo ++ [.pr false] })).tcSettle p) :=
  congrArg Host.Outcome.next ((State.fieldArrives_tcBit ha (by decide) (.inl (by decide)) (by simp [WReg.fields]) ht).trans
    ((State.wordAction_tcSwapPr s a p).trans (if_pos (State.pd_asked hon hc))))

theorem exec_tcSwapDr_of_taken (ht : s.TakesField a (A.TC_CTRL p) 5 1 1) : exec (.tcSwapDr a p) s
    = .next (((s.put (F.TC_CTRL_SWAP_DR p) 1).modTc p (fun t => { t with todo := t.todo ++ [.dr] })).tcSettle p) :=
  congrArg Host.Outcome.next ((State.fieldArrives_tcBit ha (by decide) (.inl (by decide)) (by simp [WReg.fields]) ht).trans
    ((State.wordAction_tcSwapDr s a p).trans (if_pos (State.pd_asked hon hc))))

theorem exec_tcSwapVconn_of_taken (ht : s.TakesField a (A.TC_CTRL p) 6 1 1) : exec (.tcSwapVconn a p) s
    = .next (((s.put (F.TC_CTRL_SWAP_VCONN p) 1).modTc p (fun t => { t with todo := t.todo ++ [.vconn] })).tcSettle p) :=
  congrArg Host.Outcome.next ((State.fieldArrives_tcBit ha (by decide) (.inl (by decide)) (by simp [WReg.fields]) ht).trans
    ((State.wordAction_tcSwapVconn s a p).trans (if_pos (State.pd_asked hon hc))))

end

theorem exec_tcSoftReset_of_taken (ht : s.TakesField a (A.TC_CTRL p) 7 1 1) :
    exec (.tcSoftReset a p) s = .next ((s.softReset p).put (F.TC_CTRL_SOFT_RESET p) 1) :=
  congrArg Host.Outcome.next ((State.fieldArrives_tcBit ha (by decide) (.inl (by decide)) (by simp [WReg.fields]) ht).trans
    ((State.wordAction_tcSoftReset s a p).trans (if_pos hon)))

theorem exec_tcHardReset_of_taken (ht : s.TakesField a (A.TC_CTRL p) 8 1 1) (hi : s.inService a = true) :
    exec (.tcHardReset a p) s = .next ((s.hardReset p true).tcAsked p) :=
  congrArg Host.Outcome.next ((State.fieldArrives_tcBit ha (by decide) (.inr hi) (by simp [WReg.fields]) ht).trans
    ((State.wordAction_tcHardReset s a p).trans (if_pos hon)))

end
end

/-- Settles O44: each swap and reset by the lemma of its command, those of TC_CTRL by the write of their bit. -/
theorem roleSwapsAndResets : Obligations.RoleSwapsAndResets := by
  intro s p hs hon
  exact ⟨fun hx => ⟨exec_prSwap_crossed hon hx, exec_drSwap_crossed hon hx, exec_vconnSwap_crossed hon hx⟩,
    fun hx => ⟨exec_prSwap_accepted hon hx, exec_prSwap_rejected hon hx, exec_drSwap_dfp hon hx, exec_drSwap_ufp hon hx,
      exec_drSwap_rejected hon hx, exec_vconnSwap_taken hon hx, exec_vconnSwap_given hon hx, exec_vconnSwap_rejected hon hx⟩,
    exec_frSwap_running hon, exec_frSwapSignal_able hon, exec_softReset_on hon, exec_hardResetReceived_on hon,
    fun a ha => ⟨fun hc => ⟨exec_tcSwapPr_of_taken hon ha hc, exec_tcSwapDr_of_taken hon ha hc, exec_tcSwapVconn_of_taken hon ha hc⟩,
      exec_tcSoftReset_of_taken hon ha, exec_tcHardReset_of_taken hon ha⟩⟩

end Sys2Proof.Machine
end

section
/-! The timeouts of PD, the protections of VBUS and VCONN, and the supply (O46, O48). -/
namespace Sys2Proof.Machine

/-! ### Timeouts of an exchange (R521, R522) -/

section
variable {s : State} {p : Fin 4} (hon : s.pdOn p = true)
include hon

theorem exec_senderResponseTimeout_cable (hw : (s.tcp p).wait = .cable) :
    exec (.senderResponseTimeout p) s = .next ((s.pdAnswered p).tcSettle p) := by
  show execSenderResponseTimeout p s = _
  unfold execSenderResponseTimeout
  rw [if_neg (State.pd_heard hon), hw]

theorem exec_senderResponseTimeout_escalates (hw : (s.tcp p).wait = .request ∨ (s.tcp p).wait = .accept ∨ (s.tcp p).wait = .soft
    ∨ (s.tcp p).wait = .epr ∨ (s.tcp p).wait = .sinkCaps ∨ ∃ k, (s.tcp p).wait = .swap k) :
    exec (.senderResponseTimeout p) s = .next ((s.pdEscalate p).tcSettle p) := by
  show execSenderResponseTimeout p s = _
  unfold execSenderResponseTimeout
  rw [if_neg (State.pd_heard hon)]
  obtain h | h | h | h | h | ⟨k, h⟩ := hw <;> rw [h]

theorem exec_psTransitionTimeout_escalates (hw : (s.tcp p).wait = .psRdy ∨ ∃ k, (s.tcp p).wait = .swapRdy k) :
    exec (.psTransitionTimeout p) s = .next ((s.pdEscalate p).tcSettle p) := by
  show execPsTransitionTimeout p s = _
  unfold execPsTransitionTimeout
  rw [if_neg (State.pd_heard hon)]
  obtain h | ⟨k, h⟩ := hw <;> rw [h]

section
variable (hh : (s.tcp p).hard = true) (hc : s.hasContract p = false)
include hh hc

theorem exec_noResponseTimeout_first (h0 : (s.tcp p).hardFails = 0) : exec (.noResponseTimeout p) s
    = .next (((s.modTc p (fun t => { t with hardFails := 1 })).hardReset p true).tcSettle p) :=
  congrArg Host.Outcome.next ((if_neg (by simp [hon, hh, hc])).trans (if_pos h0))

theorem exec_noResponseTimeout_later (h0 : (s.tcp p).hardFails ≠ 0) :
    exec (.noResponseTimeout p) s = .next (s.errorRecovery p) :=
  congrArg Host.Outcome.next ((if_neg (by simp [hon, hh, hc])).trans (if_neg h0))

end

/-! ### What a source misses (R518) -/

section
variable (hk : s.isSrc p = true)
include hk

section
variable (hc : s.hasContract p = true)
include hc

theorem exec_ppsTimeout_programmable (ht : s.get (F.PD_CONTRACT_TYPE p) = 1 ∨ s.get (F.PD_CONTRACT_TYPE p) = 2) :
    exec (.ppsTimeout p) s = .next ((s.hardReset p true).tcSettle p) :=
  congrArg Host.Outcome.next (if_pos (by simpa [hon, hk, hc] using ht))

end

theorem exec_eprKeepaliveTimeout_epr (he : s.get (F.TC_STATUS_EPR p) = 1) :
    exec (.eprKeepaliveTimeout p) s = .next ((s.hardReset p true).tcSettle p) :=
  congrArg Host.Outcome.next (if_pos (by simp [hon, hk, State.flag_of_one he]))

/-! ### Protections (R504, R508, R524 to R526) -/

theorem exec_vbusOcp_source : exec (.vbusOcp p) s = .next (let u := (s.modTc p (fun t => { t with srcEn := false })).tcFlt p 4
    ((if (u.tcp p).rev2 then u else u.pdSend p 0 Msg.alert false [w32 (2 ^ 26)]).hardReset p true).tcSettle p) :=
  congrArg Host.Outcome.next (if_pos (by simp [hon, hk]))

end

theorem exec_ccOpenInTransition_busy (hb : s.tcBusy p = true) :
    exec (.ccOpenInTransition p) s = .next (s.tcLeave p Tc.unattached) :=
  congrArg Host.Outcome.next (if_pos (by simp [hon, hb]))

theorem exec_hamadaThermalLimit_on : exec (.hamadaThermalLimit p) s
    = .next (if (s.tcp p).rev2 then s else s.pdSend p 0 Msg.alert false [w32 (2 ^ 27)]) :=
  congrArg Host.Outcome.next (if_pos hon)

end

theorem exec_ppsTimeout_fixed {s : State} {p : Fin 4} (ht : s.get (F.PD_CONTRACT_TYPE p) = 0) : exec (.ppsTimeout p) s = .next s :=
  congrArg Host.Outcome.next (if_neg (by simp [ht]))

theorem exec_eprKeepaliveTimeout_not_epr {s : State} {p : Fin 4} (he : s.get (F.TC_STATUS_EPR p) = 0) :
    exec (.eprKeepaliveTimeout p) s = .next s :=
  congrArg Host.Outcome.next (if_neg (by simp [State.flag_of_zero he]))

/-- A Hard Reset that is sent is its ordered set, and then what one that is received does. -/
theorem State.hardReset_sent (s : State) (p : Nat) : s.hardReset p true = (s.emit (.pd p 2 0 [])).hardReset p false := rfl

section
variable {s : State} (hp : s.power ≠ 4)
include hp

/-- In DEBUG, where PD does not run. -/
theorem exec_vbusOcp_debug {p : Fin 4} (hst : s.tcState p = Tc.debug) (he : (s.tcp p).srcEn = true) : exec (.vbusOcp p) s
    = .next ((s.modTc p (fun t => { t with srcEn := false })).tcFlt p 4) := by
  have hoff : s.pdOn p = false := by
    unfold State.pdOn State.tcAttached
    rw [hst]
    rfl
  exact congrArg Host.Outcome.next ((if_neg (by simp [hoff])).trans ((if_neg hp).trans (if_pos (by simp [hst, he]))))

section
variable {p : Fin 4} (hv : s.get (F.TC_STATUS_VCONN p) = 1)
include hv

/-- A VCONN source that meets an over-current is one no more, with the event of a role change and the fault. -/
theorem exec_vconnOcp_source : exec (.vconnOcp p) s = .next
    ((((s.put (F.TC_STATUS_VCONN p) 0).tcEvt p 2).modTc p (fun t => { t with vconnOcp := true })).tcFlt p 3) := by
  have hrole : s.setRole p (F.TC_STATUS_VCONN p) false = (s.put (F.TC_STATUS_VCONN p) 0).tcEvt p 2 :=
    if_neg (by rw [hv]; decide)
  rw [← hrole]
  exact congrArg Host.Outcome.next ((if_neg hp).trans (if_pos (State.flag_of_one hv)))

end

theorem exec_localSupplyTrip_on : exec .localSupplyTrip s = .next s.frsTrip.shedStart :=
  congrArg Host.Outcome.next (if_neg hp)

theorem exec_systemInputChange_on (ok : Bool) : exec (.systemInputChange ok) s = .next (
    let u : State := if ok = true ∧ s.get F.TC_PWR_LOCAL_OK = 0 then { s with oa := { s.oa with okSince := s.rails.hamada } } else s
    (u.put F.TC_PWR_LOCAL_OK (bit1 ok)).sysInput) := by
  have hrise : (if (ok && !s.flag F.TC_PWR_LOCAL_OK) = true then { s with oa := { s.oa with okSince := s.rails.hamada } } else s)
      = if ok = true ∧ s.get F.TC_PWR_LOCAL_OK = 0 then { s with oa := { s.oa with okSince := s.rails.hamada } } else s :=
    if_congr (by simp [State.flag]) rfl rfl
  refine congrArg Host.Outcome.next ((if_neg hp).trans ?_)
  dsimp only [State.localSupply]
  rw [hrise]

end

section
variable {s : State}

/-- What the over-current of VCONN leaves. -/
theorem State.raise_modTc_frame {u : State} (hu : u = { s with regs := u.regs, router := u.router }) (p : Nat)
    (k : TcPort → TcPort) (n : Nat) (f : FRef) :
    let t := (u.modTc p k).raise n f
    t = { s with regs := t.regs, router := t.router, tc := t.tc } := by
  intro t
  have ht : t = { u.modTc p k with regs := t.regs, router := t.router } := State.raise_frame ..
  have htc : t.tc = (u.modTc p k).tc := (congrArg State.tc ht).trans rfl
  calc t = { u.modTc p k with regs := t.regs, router := t.router } := ht
    _ = { u with regs := t.regs, router := t.router, tc := t.tc } := by rw [htc]; rfl
    _ = { s with regs := t.regs, router := t.router, tc := t.tc } :=
      congrArg (fun v : State => { v with regs := t.regs, router := t.router, tc := t.tc }) hu

theorem State.vconnOcp_leaves (hw : cellsWf 0 s.regs = true) (p : Fin 4) :
    let t := ((((s.put (F.TC_STATUS_VCONN p) 0).tcEvt p 2).modTc p (fun t => { t with vconnOcp := true })).tcFlt p 3)
    t.get (F.TC_STATUS_VCONN p) = 0 ∧ (t.tcp p).vconnOcp = true ∧ t.get ⟨A.TC_FLT p, 3, 1⟩ = 1
      ∧ t.get ⟨A.TC_EVT p, 2, 1⟩ = 1 ∧ t = { s with regs := t.regs, router := t.router, tc := t.tc }
      ∧ s.SameRegs t [A.TC_STATUS p, A.TC_FLT p, A.TC_EVT p, A.EVT_RISE_s (240 + 2 * p), A.EVT_RISE_s (241 + 2 * p)] := by
  obtain ⟨hget, hevt, hframe, hsame⟩ := State.put_raise_alone (f := F.TC_STATUS_VCONN p) (v := 0) (n := 240 + 2 * p)
    (g := ⟨A.TC_EVT p, 2, 1⟩) hw (Nat.le_of_ble_eq_true rfl) (Nat.le_of_ble_eq_true rfl) (Nat.le_of_ble_eq_true rfl)
    (by simp only [F.TC_STATUS_VCONN, A.TC_STATUS, A.TC_EVT]; omega)
    (by simp only [F.TC_STATUS_VCONN, A.TC_STATUS, A.EVT_RISE_s]; omega)
    (by simp only [A.TC_EVT, A.EVT_RISE_s]; omega)
  have hwu : cellsWf 0 ((s.put (F.TC_STATUS_VCONN p) 0).tcEvt p 2).regs = true :=
    State.raise_wf _ _ (State.put_wf _ _ hw)
  have r := State.raise_reports (s := ((s.put (F.TC_STATUS_VCONN p) 0).tcEvt p 2).modTc p (fun t => { t with vconnOcp := true }))
    (241 + 2 * p) ⟨A.TC_FLT p, 3, 1⟩ hwu
  have hstatus : A.TC_STATUS p ∉ [A.TC_FLT p, A.EVT_RISE_s (241 + 2 * p)] := by
    simp only [A.TC_STATUS, A.TC_FLT, A.EVT_RISE_s, List.mem_cons, List.not_mem_nil, or_false]
    omega
  have hevtn : A.TC_EVT p ∉ [A.TC_FLT p, A.EVT_RISE_s (241 + 2 * p)] := by
    simp only [A.TC_EVT, A.TC_FLT, A.EVT_RISE_s, List.mem_cons, List.not_mem_nil, or_false]
    omega
  refine ⟨(r.same _ hstatus).trans hget, ?_, State.get_raise_same _ _ hwu (Nat.le_of_ble_eq_true rfl) ?_,
    (r.same _ hevtn).trans hevt, ?_, fun g hg => ?_⟩
  · simp [State.tcFlt, State.tcp, State.modTc]
  · simp only [A.TC_FLT, A.EVT_RISE_s]
    omega
  · exact State.raise_modTc_frame hframe p _ (241 + 2 * p) ⟨A.TC_FLT p, 3, 1⟩
  · simp only [List.mem_cons, List.not_mem_nil, or_false, not_or] at hg
    obtain ⟨h1, h2, h3, h4, h5⟩ := hg
    exact (r.same g (by simp [h2, h5])).trans (hsame g (by simp [h1, h3, h4, F.TC_STATUS_VCONN]))

theorem exec_sleepPdKeepalive_asleep (ha : s.awake = false) :
    exec .sleepPdKeepalive s = .next (s.each (List.range 4) State.pdKeep) :=
  congrArg Host.Outcome.next (if_neg (by simp [ha]))

theorem exec_shedEnd_restored (ha : s.get F.OA_STATUS_SHED_ACTIVE = 1) (ho : s.get F.TC_PWR_LOCAL_OK = 1)
    (hr : s.oa.okSince + s.get F.OA_SHED_RESTORE ≤ s.rails.hamada) : exec .shedEnd s = .next (
      let u := s.put F.OA_STATUS_SHED_ACTIVE 0
      ({ u with oa := { u.oa with releasing := true } } : State).each (List.range 8) State.efTry) :=
  congrArg Host.Outcome.next (if_pos (by simp [State.flag_of_one ha, State.flag_of_one ho, hr]))

end

/-- Settles O46: each timeout and each protection by the lemma of its command. -/
theorem powerTimeouts : Obligations.PowerTimeouts := by
  intro s hs
  refine ⟨fun p hon => ⟨exec_senderResponseTimeout_cable hon, exec_senderResponseTimeout_escalates hon,
      exec_psTransitionTimeout_escalates hon,
      fun hh hc => ⟨exec_noResponseTimeout_first hon hh hc, exec_noResponseTimeout_later hon hh hc⟩,
      exec_ppsTimeout_programmable hon, exec_eprKeepaliveTimeout_epr hon, exec_vbusOcp_source hon,
      exec_ccOpenInTransition_busy hon, exec_hamadaThermalLimit_on hon⟩,
    fun p hp => exec_vbusOcp_debug hp, fun p hp hv => ⟨_, exec_vconnOcp_source hp hv, State.vconnOcp_leaves hs.regs p⟩,
    exec_sleepPdKeepalive_asleep, exec_localSupplyTrip_on, exec_shedEnd_restored, fun ok hp => exec_systemInputChange_on hp ok⟩

/-- Settles O48: the two timeouts by the lemmas of their commands, and the Hard Reset that is sent by its definition. -/
theorem sourceHardResets : Obligations.SourceHardResets := by
  intro s p hs hon hk
  exact ⟨fun hc => ⟨exec_ppsTimeout_programmable hon hk hc, exec_ppsTimeout_fixed⟩, exec_eprKeepaliveTimeout_epr hon hk,
    exec_eprKeepaliveTimeout_not_epr, State.hardReset_sent s p⟩

end Sys2Proof.Machine
end

section
/-! What faults an e-fuse channel, and its entry to FAULT (O49). -/
namespace Sys2Proof.Machine

theorem vMod_vMod {α : Type} {n : Nat} [NeZero n] (v : Vector α n) (i : Nat) (f g : α → α) :
    vMod (vMod v i f) i g = vMod v i (g ∘ f) := by
  unfold vMod
  rw [vAt_vPut_same]
  exact Vector.set_set _ _

/-! ### A channel's change of state -/

section
variable {s w t : State}

/-- Registers that change behind an event leave the state before it as it was. -/
theorem State.frame_of_raise {n : Nat} {f : FRef} (h : t = { (w.raise n f) with regs := t.regs }) :
    t = { w with regs := t.regs, router := t.router } := by
  have hr : t.router = (w.raise n f).router := (congrArg State.router h).trans rfl
  rw [hr]
  refine h.trans ?_
  conv_lhs => rw [State.raise_frame]

/-- A frame over a state that differs by registers and channels alone. -/
theorem State.frame_of_ef (h : t = { w with regs := t.regs, router := t.router })
    (hw : w = { s with regs := w.regs, router := w.router, ef := w.ef }) :
    t = { s with regs := t.regs, router := t.router, ef := t.ef } := by
  have hef : t.ef = w.ef := (congrArg State.ef h).trans rfl
  calc t = { w with regs := t.regs, router := t.router } := h
    _ = { s with regs := t.regs, router := t.router, ef := w.ef } :=
      congrArg (fun v : State => { v with regs := t.regs, router := t.router }) hw
    _ = { s with regs := t.regs, router := t.router, ef := t.ef } := by rw [hef]

end

/-- What a channel's step to the state `st` leaves (R540, R623). -/
structure State.EfMoved (s t : State) (c st : Nat) : Prop where
  wf : cellsWf 0 t.regs = true
  state : t.efState c = st
  frame : t = { s with regs := t.regs, router := t.router, ef := t.ef }
  ef : s.efState c ≠ st → t.ef = vMod s.ef c (fun e => { e with since := s.rails.hamada })
  status : ∀ g : FRef, g.addr = A.EF_STATUS c → (F.EF_STATUS_STATE c).apart g = true → t.get g = s.get g
  same : s.SameRegs t [A.EF_STATUS c, A.EF_EVT c, A.EVT_RISE_s (248 + c), A.OA_SHED_STATUS]

section
variable {s : State} (hw : cellsWf 0 s.regs = true) (c : Fin 8)
include hw

theorem State.shedBit_reports (b : Prop) [Decidable b] :
    let t := if b then s.setBit F.OA_SHED_STATUS_SHED c else s.clrBit F.OA_SHED_STATUS_SHED c
    s.ReportsOnly t [A.OA_SHED_STATUS] ∧ t = { s with regs := t.regs } := by
  dsimp only
  split
  · exact ⟨State.put_reports _ _ hw, rfl⟩
  · exact ⟨State.put_reports _ _ hw, rfl⟩

theorem State.efTo_moves {st : Nat} (hst : st < 8) : s.EfMoved (s.efTo c st) c st := by
  by_cases h : s.efState c = st
  · rw [State.efTo, if_pos h]
    exact ⟨hw, h, rfl, absurd h, fun _ _ _ => rfl, fun _ _ => rfl⟩
  · have hu : cellsWf 0 (s.modEf c (fun e => { e with since := s.rails.hamada })).regs = true := hw
    have r1 := State.put_reports (F.EF_STATUS_STATE c) st hu
    have r2 := State.raise_reports (248 + c) ⟨A.EF_EVT c, 0, 1⟩ r1.wf
    obtain ⟨r3, h3⟩ := State.shedBit_reports r2.wf c (st = Ef.shed)
    have hno : A.EF_STATUS c ∉ [A.EF_EVT c, A.EVT_RISE_s (248 + c)] ++ [A.OA_SHED_STATUS] := by
      simp only [A.EF_STATUS, A.EF_EVT, A.EVT_RISE_s, A.OA_SHED_STATUS, List.mem_append, List.mem_cons, List.not_mem_nil,
        or_false]
      omega
    rw [State.efTo, if_neg h]
    refine ⟨r3.wf, ?_, ?_, fun _ => ?_, fun g hg hd => ?_, fun g hg => ?_⟩
    · exact (((r2.trans r3).same _ hno).trans (State.get_put_same _ _ hu (Nat.le_of_ble_eq_true rfl))).trans (Nat.mod_eq_of_lt hst)
    · exact State.frame_of_ef (State.frame_of_raise h3) rfl
    · exact (congrArg State.ef (State.frame_of_raise h3)).trans rfl
    · exact ((r2.trans r3).same _ (by rw [hg]; exact hno)).trans (State.get_put_apart _ hu hg hd)
    · exact ((r1.trans r2).trans r3).same g (by simpa [F.EF_STATUS_STATE] using hg)

end

/-! ### The entry to FAULT (R540) -/

/-- A channel whose gates are off (R540). -/
def EfChan.gatesOff (e : EfChan) : EfChan :=
  { e with gateA := false, gateB := false, full := false, pgOut := false, leave := none }

section
variable {s : State} {c : Fin 8}

theorem State.efPg_low (h : s.get (F.EF_STATUS_PG c) = 0) : s.efPg c false = s := if_pos (by simp [State.flag_of_zero h])

theorem State.efPg_falls (h : s.get (F.EF_STATUS_PG c) = 1) :
    s.efPg c false = (((s.put (F.EF_STATUS_PG c) 0).efEvt c 2).pxPerst 0).pxPerst 1 :=
  if_neg (by simp [State.flag_of_one h])

/-- With PG false the gates go off by the channel's own state and LIMIT alone. -/
theorem State.efGatesOff_low (hw : cellsWf 0 s.regs = true) (h : s.get (F.EF_STATUS_PG c) = 0) :
    s.efGatesOff c = (s.modEf c EfChan.gatesOff).put (F.EF_STATUS_LIMIT c) 0 :=
  State.efPg_low ((State.get_put_apart (f := F.EF_STATUS_LIMIT c) (g := F.EF_STATUS_PG c) 0
    (s := s.modEf c EfChan.gatesOff) hw rfl rfl).trans h)

/-- What a fault writes once the gates are off. -/
theorem State.efFault_of_gatesOff {u : State} (hu : s.efGatesOff c = u) (hw : cellsWf 0 u.regs = true) (k : Fin 16) :
    let t := s.efFault c k
    t.efState c = 5 ∧ t.get (F.EF_STATUS_CAUSE c) = k ∧ t.get (F.EF_EVT_FAULT c) = 1
      ∧ t.get (F.EF_COUNT_FAULTS c) = satAdd 16 (u.get (F.EF_COUNT_FAULTS c)) 1
      ∧ t.get (F.EF_STATUS_LIMIT c) = u.get (F.EF_STATUS_LIMIT c) ∧ t.get (F.EF_STATUS_PG c) = u.get (F.EF_STATUS_PG c)
      ∧ (u.efState c ≠ 5 → t.ef = vMod u.ef c (fun e => { e with since := u.rails.hamada }))
      ∧ t = { u with regs := t.regs, router := t.router, ef := t.ef }
      ∧ u.SameRegs t [A.EF_STATUS c, A.EF_EVT c, A.EF_COUNT c, A.OA_SHED_STATUS, A.EVT_RISE_s (248 + c)] := by
  have r1 := State.put_reports (F.EF_STATUS_CAUSE c) k hw
  have r2 : (u.put (F.EF_STATUS_CAUSE c) k).ReportsOnly ((u.put (F.EF_STATUS_CAUSE c) k).bump (F.EF_COUNT_FAULTS c) 1)
      [A.EF_COUNT c] := State.put_reports _ _ r1.wf
  have m := State.efTo_moves r2.wf c (st := 5) (by decide)
  have r4 := State.raise_reports (248 + c) ⟨A.EF_EVT c, 1, 1⟩ m.wf
  have ht : s.efFault c k = ((((u.put (F.EF_STATUS_CAUSE c) k).bump (F.EF_COUNT_FAULTS c) 1).efTo c 5).efEvt c 1) := by
    rw [← hu]
    rfl
  have hstatus : A.EF_STATUS c ∉ [A.EF_EVT c, A.EVT_RISE_s (248 + c)] := by
    simp only [A.EF_STATUS, A.EF_EVT, A.EVT_RISE_s, List.mem_cons, List.not_mem_nil, or_false]
    omega
  have hcount : A.EF_COUNT c ∉ [A.EF_EVT c, A.EVT_RISE_s (248 + c)] := by
    simp only [A.EF_COUNT, A.EF_EVT, A.EVT_RISE_s, List.mem_cons, List.not_mem_nil, or_false]
    omega
  have hcount' : A.EF_COUNT c ∉ [A.EF_STATUS c, A.EF_EVT c, A.EVT_RISE_s (248 + c), A.OA_SHED_STATUS] := by
    simp only [A.EF_COUNT, A.EF_STATUS, A.EF_EVT, A.EVT_RISE_s, A.OA_SHED_STATUS, List.mem_cons, List.not_mem_nil, or_false]
    omega
  have hsc : A.EF_STATUS c ∉ [A.EF_COUNT c] := by
    simp only [A.EF_COUNT, A.EF_STATUS, List.mem_cons, List.not_mem_nil, or_false]
    omega
  have hevt : A.EF_EVT c ≠ A.EVT_RISE_s (248 + c) := by
    simp only [A.EF_EVT, A.EVT_RISE_s]
    omega
  have hother (g : FRef) (hg : g.addr = A.EF_STATUS c) (hs : (F.EF_STATUS_STATE c).apart g = true)
      (hc : (F.EF_STATUS_CAUSE c).apart g = true) : (s.efFault c k).get g = u.get g := by
    rw [ht]
    exact (((r4.same g (by rw [hg]; exact hstatus)).trans (m.status g hg hs)).trans (r2.same g (by rw [hg]; exact hsc))).trans
      (State.get_put_apart _ hw hg hc)
  refine ⟨?_, ?_, ?_, ?_, hother _ rfl rfl rfl, hother _ rfl rfl rfl, fun h5 => ?_, ?_, fun g hg => ?_⟩
  · rw [ht]
    exact (r4.same (F.EF_STATUS_STATE c) hstatus).trans m.state
  · rw [ht]
    exact ((r4.same (F.EF_STATUS_CAUSE c) hstatus).trans (m.status _ rfl rfl)).trans ((r2.same _ hsc).trans
      ((State.get_put_same _ _ hw (Nat.le_of_ble_eq_true rfl)).trans (Nat.mod_eq_of_lt k.isLt)))
  · rw [ht]
    exact State.get_raise_same _ _ m.wf (Nat.le_of_ble_eq_true rfl) hevt
  · rw [ht]
    refine ((r4.same (F.EF_COUNT_FAULTS c) hcount).trans (m.same _ hcount')).trans ?_
    rw [State.get_bump_same _ _ r1.wf (Nat.le_of_ble_eq_true rfl),
      State.get_put_ne _ _ _ hw (by simp only [F.EF_COUNT_FAULTS, F.EF_STATUS_CAUSE, A.EF_COUNT, A.EF_STATUS]; omega)]
    rfl
  · have hstay : ((u.put (F.EF_STATUS_CAUSE c) k).bump (F.EF_COUNT_FAULTS c) 1).efState c = u.efState c :=
      (r2.same (F.EF_STATUS_STATE c) hsc).trans (State.get_put_apart _ hw rfl rfl)
    rw [ht, State.efEvt, State.raise_ef, m.ef (by rwa [hstay])]
    rfl
  · rw [ht]
    exact State.frame_of_ef (State.raise_frame _ _ _) m.frame
  · rw [ht]
    have hall := (r1.same.trans r2.same).trans (m.same.trans r4.same)
    refine hall g ?_
    simp only [List.mem_cons, List.not_mem_nil, or_false, not_or, List.mem_append] at hg ⊢
    obtain ⟨h1, h2, h3, h4, h5⟩ := hg
    exact ⟨⟨h1, h3⟩, ⟨h1, h2, h5, h4⟩, h2, h5⟩

end

/-! ### What faults a channel (R540, R543 to R546) -/

section
variable {s : State} {c : Fin 8} (hp : s.power ≠ 4)
include hp

theorem exec_pgLost_out (hl : s.efLive c = true) (ho : (s.efc c).pgOut = true) (hn : s.get (F.EF_STATUS_LIMIT c) = 0) :
    exec (.pgLost c) s = .next (s.efFault c 8) :=
  congrArg Host.Outcome.next ((if_neg hp).trans (if_pos (by simp [hl, ho, State.flag_of_zero hn])))

theorem exec_faultTimerExpiry_limited (hl : s.efLive c = true) (hn : s.get (F.EF_STATUS_LIMIT c) = 1) :
    exec (.faultTimerExpiry c) s = .next (s.efFault c 2) :=
  congrArg Host.Outcome.next ((if_neg hp).trans (if_pos (by simp [hl, State.flag_of_one hn])))

theorem exec_gateRiseTimeout_due (hl : s.efLive c = true) (hf : (s.efc c).full = true)
    (hd : (s.efc c).fullAt + bitsOf (s.efCfg c 4) 12 8 ≤ s.rails.hamada) : exec (.gateRiseTimeout c) s = .next (s.efStuck c) :=
  congrArg Host.Outcome.next ((if_neg hp).trans (if_pos (by simp [hl, hf, hd])))

theorem exec_fastTrip_eq (hw : cellsWf 0 s.regs = true) : exec (.fastTrip c) s = .next (
    let u := s.bump (F.EF_COUNT_TRIPS c) 1
    if s.efLive c then u.efFault c 1 else u.efGatesOff c) := by
  have hlive : (s.bump (F.EF_COUNT_TRIPS c) 1).efLive c = s.efLive c := by
    have hst : (s.bump (F.EF_COUNT_TRIPS c) 1).efState c = s.efState c :=
      State.get_bump_ne _ _ _ hw (by simp only [F.EF_STATUS_STATE, F.EF_COUNT_TRIPS, A.EF_STATUS, A.EF_COUNT]; omega)
    rw [State.efLive, hst]
    rfl
  rw [← hlive]
  exact congrArg Host.Outcome.next (if_neg hp)

theorem exec_rampTimeout_due (h2 : s.efState c = 2) (hd : (s.efc c).since + bitsOf (s.efCfg c 4) 0 12 ≤ s.rails.hamada) (b : Bool) :
    exec (.rampTimeout c b) s = .next (if b && !s.flag (F.EF_STATUS_LIMIT c) then s.efStuck c
      else (s.efFinding c 5 (if s.efTopo c = 1 then s.efPath c else 3) true).efFault c 3) :=
  congrArg Host.Outcome.next ((if_neg hp).trans (if_neg (by simp [h2, State.efCounted, hd, Ef.ramp])))

theorem exec_vinOvervoltage_running (hr : s.efRuns c = true) (h5 : s.efState c ≠ 5) :
    exec (.vinOvervoltage c) s = .next ((s.modEf c (fun e => { e with vinOk := false })).efFault c 5) :=
  have hr' : (s.modEf c (fun e => { e with vinOk := false })).efRuns c = true := hr
  have h5' : (s.modEf c (fun e => { e with vinOk := false })).efState c ≠ Ef.fault := h5
  congrArg Host.Outcome.next ((if_neg hp).trans (if_pos (by simp [hr', h5'])))

end

section
variable {s : State} {c : Fin 8}

theorem exec_shortedFetDetect_gatesOff (hr : s.efRuns c = true) (h5 : s.efState c ≠ 5) (hl : s.efLive c = false) :
    exec (.shortedFetDetect c) s = .next (((s.put (F.EF_STATUS_SHORT_FET c) (if s.efTopo c = 2 then 1 else 3)).efFinding c 3
      (if s.efTopo c = 2 then 0 else 3) true).efFault c 7) := by
  have hrun : exec (.shortedFetDetect c) s = .next (((s.put (F.EF_STATUS_SHORT_FET c) (if s.efTopo c == 2 then 1 else 3)).efFinding c 3
      (if s.efTopo c == 2 then 0 else 3) true).efFault c 7) :=
    congrArg Host.Outcome.next ((if_pos (by simp [hr, hl])).trans (if_neg h5))
  simpa using hrun

/-- A stuck gate of a channel without a spare path is reported and faults (R546). -/
theorem State.efStuck_series (h : s.efTopo c = 2) :
    s.efStuck c = (((s.modEf c id).efFinding c 1 3 true).efSpare c).efFault c 6 := by
  unfold State.efStuck
  simp only [h]
  rfl

end

/-- Settles O49: each fault by the lemma of its command, and the entry by what is written once the gates are off. -/
theorem efuseFaults : Obligations.EfuseFaults := by
  intro s c hs hp
  have hw := hs.regs
  refine ⟨fun hl => ⟨exec_pgLost_out hp hl, exec_faultTimerExpiry_limited hp hl,
      (exec_fastTrip_eq hp hw).trans (congrArg Host.Outcome.next (if_pos hl)), exec_gateRiseTimeout_due hp hl⟩,
    fun hl => (exec_fastTrip_eq hp hw).trans (congrArg Host.Outcome.next (if_neg (by simp [hl]))),
    fun h2 hd => ⟨fun hn => (exec_rampTimeout_due hp h2 hd true).trans (congrArg Host.Outcome.next (if_pos (by
        simp [State.flag_of_zero hn]))),
      fun b hb => (exec_rampTimeout_due hp h2 hd b).trans (congrArg Host.Outcome.next (if_neg ?_))⟩,
    fun hr h5 => ⟨exec_vinOvervoltage_running hp hr h5, exec_shortedFetDetect_gatesOff hr h5⟩, fun k => ?_,
    State.efPg_falls, State.efStuck_series⟩
  · rcases hb with hb | hb
    · simp [hb]
    · simp [State.flag_of_one hb]
  · have hoff := (State.efGatesOff_kept c (Kept.refl hs)).sound.regs
    obtain ⟨hst, hcause, hevt, hcount, -⟩ := State.efFault_of_gatesOff rfl hoff k
    refine ⟨hst, hcause, hevt, hcount, fun h0 => ?_⟩
    have hlow := State.efGatesOff_low hw h0
    obtain ⟨-, -, -, hcount, hlimit, hpg, hef, hframe, hsame⟩ := State.efFault_of_gatesOff hlow (by rw [← hlow]; exact hoff) k
    have hput := State.put_reports (s := s.modEf c EfChan.gatesOff) (F.EF_STATUS_LIMIT c) 0 hw
    have hapart (g : FRef) (hg : g.addr = A.EF_STATUS c) (hd : (F.EF_STATUS_LIMIT c).apart g = true) :
        ((s.modEf c EfChan.gatesOff).put (F.EF_STATUS_LIMIT c) 0).get g = s.get g := State.get_put_apart 0 hw hg hd
    refine ⟨hlimit.trans (State.get_put_same _ 0 hw (Nat.le_of_ble_eq_true rfl)), hpg.trans ((hapart _ rfl rfl).trans h0),
      hcount.trans (congrArg (satAdd 16 · 1) (hput.same _ ?_)),
      fun h5 => (hef ?_).trans (vMod_vMod s.ef c EfChan.gatesOff (fun e => { e with since := s.rails.hamada })), hframe,
      fun g hg => (hsame g hg).trans (hput.same g (by simpa using fun h => hg (by simp [h, F.EF_STATUS_LIMIT])))⟩
    · simp only [F.EF_COUNT_FAULTS, F.EF_STATUS_LIMIT, A.EF_COUNT, A.EF_STATUS, List.mem_cons, List.not_mem_nil, or_false]
      omega
    · exact fun h => h5 ((hapart (F.EF_STATUS_STATE c) rfl rfl).symm.trans h)

end Sys2Proof.Machine
end

section
/-! An e-fuse channel's requests, ramp, power-good, limit episodes, retries and switch (O50). -/
namespace Sys2Proof.Machine

/-! ### The writes of EF_CTRL (R539, R540, R549, R638) -/

theorem wregAt_efCtrl : ∀ c : Fin 8, wregAt (A.EF_CTRL c) = some (.efCtrl c) := by decide +kernel

theorem efCtrl_plain (c : Nat) : (WReg.efCtrl c).Plain := ⟨rfl, fun _ => rfl, rfl, fun _ _ => rfl⟩

section
variable {s : State} (hw : cellsWf 0 s.regs = true) (a c : Nat) (on : Bool)
include hw

/-- ENABLE of EF_CTRL, stored, starts or stops the channel. -/
theorem State.wordEffect_efEnable :
    (s.wordEffect a (.efCtrl c) [⟨F.EF_CTRL_ENABLE c, .rw, .live, bit1 on⟩]).2
      = if on then (s.put (F.EF_CTRL_ENABLE c) (bit1 on)).efTry c else (s.put (F.EF_CTRL_ENABLE c) (bit1 on)).efDown c 0 := by
  have hact : (s.wordEffect a (.efCtrl c) [⟨F.EF_CTRL_ENABLE c, .rw, .live, bit1 on⟩]).2
      = (s.put (F.EF_CTRL_ENABLE c) (bit1 on)).efEnable c on := by
    rw [State.wordEffect_of_plain (r := .efCtrl c) rfl nofun nofun nofun, State.storeWord_live]
    cases on <;> rfl
  rw [hact, State.efEnable, State.put_put_same _ _ hw (Nat.le_of_ble_eq_true rfl)]
  rfl

/-- ON of EF_CTRL, stored, is the owner's request. -/
theorem State.wordEffect_efOn :
    (s.wordEffect a (.efCtrl c) [⟨F.EF_CTRL_ON c, .rw, .live, bit1 on⟩]).2
      = if on then (s.put (F.EF_CTRL_ON c) (bit1 on)).efTry c else (s.put (F.EF_CTRL_ON c) (bit1 on)).efLose c := by
  have hact : (s.wordEffect a (.efCtrl c) [⟨F.EF_CTRL_ON c, .rw, .live, bit1 on⟩]).2
      = (s.put (F.EF_CTRL_ON c) (bit1 on)).efOn c on := by
    rw [State.wordEffect_of_plain (r := .efCtrl c) rfl nofun nofun nofun, State.storeWord_live]
    cases on <;> rfl
  rw [hact, State.efOn, State.put_put_same _ _ hw (Nat.le_of_ble_eq_true rfl)]

end

theorem State.wordEffect_efClear (s : State) (a c : Nat) :
    (s.wordEffect a (.efCtrl c) [⟨F.EF_CTRL_CLEAR c, .sc, .live, 1⟩]).2 = s.efClear c := by
  rw [State.wordEffect_of_plain (r := .efCtrl c) rfl nofun nofun nofun, State.storeWord_sc]
  rfl

section
variable {s : State} {a : Agent} {c : Fin 8} {on : Bool}

theorem exec_efEnable_of_taken (hw : cellsWf 0 s.regs = true) (hb : s.boardOrService a = true)
    (ht : s.TakesField a (A.EF_CTRL c) 0 1 (bit1 on)) (hne : s.get (F.EF_CTRL_ENABLE c) ≠ bit1 on) :
    exec (.efEnable a c on) s = .next (
      if on then (s.put (F.EF_CTRL_ENABLE c) (bit1 on)).efTry c else (s.put (F.EF_CTRL_ENABLE c) (bit1 on)).efDown c 0) := by
  have hmay (v : Nat) : s.mayWrite a (.efCtrl c) 0 v = true := by simpa [State.mayWrite] using hb
  have h := State.fieldArrives_of_live (acc := .rw) (wregAt_efCtrl c) (efCtrl_plain c) (by cases on <;> decide)
    List.mem_cons_self (bne_iff_ne.2 hne.symm) (by unfold A.EF_CTRL; omega) ht ⟨rfl, hmay, rfl, rfl, rfl⟩
  exact congrArg Host.Outcome.next (h.trans (State.wordEffect_efEnable hw a c on))

theorem exec_efCtrlOn_of_taken (hw : cellsWf 0 s.regs = true) (ho : s.owns a (48 + c) = true)
    (ht : s.TakesField a (A.EF_CTRL c) 1 1 (bit1 on)) (hne : s.get (F.EF_CTRL_ON c) ≠ bit1 on) :
    exec (.efCtrlOn a c on) s = .next (
      if on then (s.put (F.EF_CTRL_ON c) (bit1 on)).efTry c else (s.put (F.EF_CTRL_ON c) (bit1 on)).efLose c) := by
  have hmay (v : Nat) : s.mayWrite a (.efCtrl c) 1 v = true := by simpa [State.mayWrite] using ho
  have h := State.fieldArrives_of_live (acc := .rw) (wregAt_efCtrl c) (efCtrl_plain c) (by cases on <;> decide)
    (List.mem_cons_of_mem _ List.mem_cons_self) (bne_iff_ne.2 hne.symm) (by unfold A.EF_CTRL; omega) ht
    ⟨rfl, hmay, rfl, rfl, rfl⟩
  exact congrArg Host.Outcome.next (h.trans (State.wordEffect_efOn hw a c on))

theorem exec_efClear_of_taken (ho : s.owns a (48 + c) = true)
    (hc : s.get (F.EF_STATUS_CAUSE c) ≠ 7 ∨ s.inService a = true) (ht : s.TakesField a (A.EF_CTRL c) 2 1 1) :
    exec (.efClear a c) s = .next (s.efClear c) := by
  have hmay (v : Nat) : s.mayWrite a (.efCtrl c) 2 v = true := by
    simpa [State.mayWrite, EfCause.shortedFet, ho] using hc
  have h := State.fieldArrives_of_live (acc := .sc) (wregAt_efCtrl c) (efCtrl_plain c) (by decide)
    (List.mem_cons_of_mem _ (List.mem_cons_of_mem _ List.mem_cons_self)) rfl (by unfold A.EF_CTRL; omega) ht
    ⟨rfl, hmay, rfl, rfl, rfl⟩
  exact congrArg Host.Outcome.next (h.trans (State.wordEffect_efClear s a c))

theorem State.efClear_faulted (h5 : s.efState c = 5) (hr : s.efRuns c = true) :
    s.efClear c = ((s.put (F.EF_STATUS_RETRIES c) 0).efTo c 0).efTry c := if_pos (by simp [h5, hr, Ef.fault])

end

/-! ### Ramp, power-good, limit episodes and reverse current (R540 to R545, R550) -/

section
variable {s : State} {c : Fin 8}

theorem exec_insertionDelayEnd_due (hr : s.efRuns c = true) (h1 : s.efState c = 1)
    (hd : (s.efc c).since + bitsOf (s.efCfg c 3) 16 16 ≤ s.rails.hamada) : exec (.insertionDelayEnd c) s
      = .next (((s.modEf c (fun e => { e with switched := false, full := false })).efTo c 2).efDrive c false) :=
  congrArg Host.Outcome.next (if_pos (by simp [hr, h1, State.efCounted, hd, Ef.delay]))

theorem exec_retryDelayEnd_due (hr : s.efRuns c = true) (h5 : s.efState c = 5) (hm : s.efMayRetry c = true) :
    exec (.retryDelayEnd c) s = .next (((s.bump (F.EF_STATUS_RETRIES c) 1).efTo c 0).efTry c) :=
  congrArg Host.Outcome.next (if_pos (by simp [hr, h5, hm, Ef.fault]))

theorem State.efTry_of_met (hr : s.efRuns c = true) (h0 : s.efState c = 0) (ho : s.get (F.EF_CTRL_ON c) = 1)
    (hc : s.get (F.EF_STATUS_CLEARED c) = 1) (hv : (s.efc c).vinOk = true) (hb : (s.efc c).reverse = false)
    (hs : s.efShedNow c = false) : s.efTry c = s.efTo c 1 :=
  if_pos (by simp [hr, h0, State.flag_of_one ho, State.flag_of_one hc, hv, hb, hs, Ef.off])

theorem State.efLetGo_pending {n : Nat} (h : (s.efc c).leave = some n) : s.efLetGo c
    = if n ≤ s.rails.hamada then (s.modEf c (fun e => { e with leave := none })).efDrive c false else s := by
  unfold State.efLetGo
  rw [h]

section
variable (hp : s.power ≠ 4)
include hp

theorem exec_slewEnd_live (hl : s.efLive c = true) :
    exec (.slewEnd c) s = .next (s.modEf c (fun e => { e with full := true, fullAt := s.rails.hamada })) :=
  congrArg Host.Outcome.next ((if_neg hp).trans (if_pos hl))

theorem exec_limitEpisodeStart_live (hl : s.efLive c = true) :
    exec (.limitEpisodeStart c) s = .next (s.put (F.EF_STATUS_LIMIT c) 1) :=
  congrArg Host.Outcome.next ((if_neg hp).trans (if_pos hl))

theorem exec_shortedBSample_ramp (h2 : s.efTopo c = 2) (hr : s.efState c = 2) (mv : Nat) :
    exec (.shortedBSample c mv) s = .next (
      (if mv < 150 then (s.put (F.EF_STATUS_SHORT_FET c) 2).efFinding c 4 1 true else s).efDrive c true) :=
  congrArg Host.Outcome.next ((if_neg hp).trans (if_pos (by simp [h2, hr, Ef.ramp])))

section
variable (hn : s.get (F.EF_STATUS_LIMIT c) = 0)
include hn

theorem exec_powerGoodAssert_ramp (h2 : s.efState c = 2) : exec (.powerGoodAssert c) s
    = .next (((((s.modEf c (fun e => { e with pgOut := false })).efTo c 3).bump (F.EF_COUNT2_ON_CYCLES c) 1).efPg c true).efDrive c true) :=
  congrArg Host.Outcome.next ((if_neg hp).trans ((if_neg (by simp [State.flag_of_zero hn])).trans (if_pos h2)))

theorem exec_powerGoodAssert_on (h3 : s.efState c = 3) :
    exec (.powerGoodAssert c) s = .next ((s.modEf c (fun e => { e with pgOut := false })).efPg c true) :=
  congrArg Host.Outcome.next ((if_neg hp).trans ((if_neg (by simp [State.flag_of_zero hn])).trans
    ((if_neg (by simp [h3, Ef.ramp])).trans (if_pos h3))))

end

theorem exec_voutLeavesWindow_of (h : s.get (F.EF_STATUS_PG c) = 1 ∨ s.efLive c = true) :
    exec (.voutLeavesWindow c) s = .next ((s.modEf c (fun e => { e with pgOut := true })).efPg c false) :=
  have hf : (s.flag (F.EF_STATUS_PG c) || s.efLive c) = true := by
    rcases h with h | h
    · simp [State.flag_of_one h]
    · simp [h]
  congrArg Host.Outcome.next ((if_neg hp).trans (if_pos hf))

theorem exec_reverseCurrent_series (h2 : s.efTopo c = 2) (hl : s.efLive c = true) : exec (.reverseCurrent c) s
    = .next ((((s.modEf c (fun e => { e with reverse := true })).put (F.EF_STATUS_CAUSE c) 9).efFinding c 6 3 false).efDown c 0) :=
  congrArg Host.Outcome.next ((if_neg hp).trans (if_pos (by simp [h2, hl])))

theorem exec_retriesClear_due (h3 : s.efState c = 3) (hd : (s.efc c).since + 8000 ≤ s.rails.hamada) :
    exec (.retriesClear c) s = .next (s.put (F.EF_STATUS_RETRIES c) 0) :=
  congrArg Host.Outcome.next ((if_neg hp).trans (if_pos (by simp [h3, Ef.on, State.efCounted, hd])))

/-- The Hamada die's own step is due one tick after its last, two after one from the main die (R552). -/
theorem exec_thermalSelfStep_due (h0 : s.efTopo c ≠ 0)
    (hd : (s.efc c).stepAt + 2 - s.get (F.EF_STATUS_SELF_STEP c) ≤ s.rails.hamada) : exec (.thermalSelfStep c) s
      = .next (((s.modEf c (fun e => { e with stepAt := s.rails.hamada })).put (F.EF_STATUS_SELF_STEP c) 1).efModel c) := by
  have hlt : s.get (F.EF_STATUS_SELF_STEP c) < 2 := Nat.mod_lt _ (Nat.two_pow_pos _)
  have hflag : s.flag (F.EF_STATUS_SELF_STEP c) = true ↔ s.get (F.EF_STATUS_SELF_STEP c) = 1 := State.flag_iff_get_eq_one rfl
  refine congrArg Host.Outcome.next ((if_neg hp).trans (if_neg ?_))
  simp only [h0, hflag, decide_false, Bool.false_or, decide_eq_true_eq]
  split <;> omega

theorem exec_degradedFet_live (hl : s.efLive c = true) : exec (.degradedFet c) s = .next (
    let p := s.efPath c
    let par := s.efTopo c == 1
    let u := s.modEf c (fun e => { e with bad := if par then e.bad ||| 2 ^ p else e.bad })
    let v := ((u.put (F.EF_STATUS_DEGRADED c) 1).efFinding c 2 (if par then p else 3) true).efSpare c
    if par && !bitAt (v.efc c).bad (1 - p) then v.efSwitch c else v) :=
  congrArg Host.Outcome.next ((if_neg hp).trans (if_neg (by simp [hl])))

end

/-! ### The switch to the other path in ON (R547, log entry 163) -/

/-- The switch before its report: the other path, and both gates driven until the failing one is let go. -/
def State.efBoth (s : State) (c : Nat) : State :=
  let u := s.put (F.EF_STATUS_PATH c) (1 - s.efPath c)
  (u.modEf c (fun e => { e with
    switched := true, full := true, fullAt := s.rails.hamada, leave := some (s.rails.hamada + u.efHandOver c)
    gateA := true, gateB := true })).took

/-- What a switch reports once the gates are driven: the spare, the count, its event and the spare's report (R547). -/
def State.efSwitched (s : State) (c : Nat) : State :=
  let u := (s.efSpare c).bump (F.EF_COUNT2_SWITCHES c) 1
  (u.efEvt c 3).spareTookOver (u.ownerOf (48 + c)) (16 + c) c

theorem State.efSwitched_reports (hw : cellsWf 0 s.regs = true) (c : Fin 8) :
    s.ReportsOnly (s.efSwitched c)
      [A.EF_STATUS c, A.EF_COUNT2 c, A.EF_EVT c, A.EVT_RISE_s (248 + c), A.OA_EVT, A.EVT_RISE_s 1, A.OA_EVT, A.EVT_RISE_s 2]
      ∧ ∀ g : FRef, g.addr = A.EF_STATUS c → (F.EF_STATUS_SPARE_OK c).apart g = true → (s.efSwitched c).get g = s.get g := by
  have r1 : s.ReportsOnly (s.efSpare c) [A.EF_STATUS c] := State.put_reports _ _ hw
  have r2 : (s.efSpare c).ReportsOnly ((s.efSpare c).bump (F.EF_COUNT2_SWITCHES c) 1) [A.EF_COUNT2 c] :=
    State.put_reports _ _ r1.wf
  have r3 := State.raise_reports (248 + c) ⟨A.EF_EVT c, 3, 1⟩ r2.wf
  have r4 := (r2.trans r3).trans (State.spareTookOver_reports (((s.efSpare c).bump (F.EF_COUNT2_SWITCHES c) 1).ownerOf (48 + c))
    (16 + c) c r3.wf)
  refine ⟨r1.trans r4, fun g hg hd => (r4.same g ?_).trans (State.get_put_apart _ hw hg hd)⟩
  rw [hg]
  simp only [A.EF_STATUS, A.EF_COUNT2, A.EF_EVT, A.OA_EVT, A.EVT_RISE_s, List.mem_append, List.mem_cons, List.not_mem_nil,
    or_false]
  omega

theorem State.efSwitch_on (hw : cellsWf 0 s.regs = true) (h3 : s.efState c = 3) :
    let t := s.efSwitch c
    t.efPath c = (1 - s.efPath c) % 2 ∧ (t.efc c).gateA = true ∧ (t.efc c).gateB = true
      ∧ (t.efc c).leave = some (s.rails.hamada + (s.put (F.EF_STATUS_PATH c) (1 - s.efPath c)).efHandOver c) := by
  have r1 := State.put_reports (F.EF_STATUS_PATH c) (1 - s.efPath c) hw
  have hst : (s.put (F.EF_STATUS_PATH c) (1 - s.efPath c)).efState c = Ef.on :=
    (State.get_put_apart (f := F.EF_STATUS_PATH c) (g := F.EF_STATUS_STATE c) _ hw rfl rfl).trans h3
  have hsw : s.efSwitch c = (s.efBoth c).efSwitched c :=
    congrArg (fun u : State => u.efSwitched c) (if_pos hst)
  have hb : cellsWf 0 (s.efBoth c).regs = true := r1.wf
  have m := State.efSwitched_reports hb c
  have hef : (s.efSwitch c).efc c = (s.efBoth c).efc c := by
    rw [hsw]
    exact (congrArg (fun t : State => t.efc c) m.1.frame).trans rfl
  have hboth : (s.efBoth c).efc c = { (s.efc c) with
      switched := true, full := true, fullAt := s.rails.hamada
      leave := some (s.rails.hamada + (s.put (F.EF_STATUS_PATH c) (1 - s.efPath c)).efHandOver c)
      gateA := true, gateB := true } := State.efc_modEf _ _ _
  refine ⟨?_, ?_, ?_, ?_⟩
  · rw [hsw]
    exact (m.2 (F.EF_STATUS_PATH c) rfl rfl).trans (State.get_put_same _ _ hw (Nat.le_of_ble_eq_true rfl))
  all_goals rw [hef, hboth]

end

/-- Settles O50: each request, boundary and measurement by the lemma of its command. -/
theorem efuseChannels : Obligations.EfuseChannels := by
  intro s c hs hp
  have hw := hs.regs
  exact ⟨fun a on => ⟨exec_efCtrlOn_of_taken hw, exec_efEnable_of_taken hw, fun ho hc ht h5 hr =>
      (exec_efClear_of_taken ho hc ht).trans (congrArg Host.Outcome.next (State.efClear_faulted h5 hr))⟩,
    exec_insertionDelayEnd_due,
    fun hl => ⟨exec_slewEnd_live hp hl, _, exec_limitEpisodeStart_live hp hl,
      State.put_alone hw (Nat.le_of_ble_eq_true rfl) (Nat.le_of_ble_eq_true rfl)⟩,
    ⟨_, congrArg Host.Outcome.next (if_neg hp), State.put_alone hw (Nat.le_of_ble_eq_true rfl) (Nat.le_of_ble_eq_true rfl)⟩,
    fun mv h2 hr => exec_shortedBSample_ramp hp h2 hr mv,
    fun hn => ⟨exec_powerGoodAssert_ramp hp hn, exec_powerGoodAssert_on hp hn⟩, exec_voutLeavesWindow_of hp,
    congrArg Host.Outcome.next (if_neg hp), congrArg Host.Outcome.next (if_neg hp), exec_reverseCurrent_series hp,
    congrArg Host.Outcome.next (if_neg hp), exec_retryDelayEnd_due,
    fun h3 hd => ⟨_, exec_retriesClear_due hp h3 hd, State.put_alone hw (Nat.le_of_ble_eq_true rfl) (Nat.le_of_ble_eq_true rfl)⟩,
    exec_thermalSelfStep_due hp, State.efTry_of_met, exec_degradedFet_live hp, fun h3 => ⟨_, rfl, State.efSwitch_on hw h3⟩,
    fun n => State.efLetGo_pending⟩

end Sys2Proof.Machine
end

section
/-! The end of shedding and the release of its channels (O57). -/
namespace Sys2Proof.Machine

/-- Searched downwards, a list of the numbers below `n` answers for the highest that has an answer. -/
theorem findSome?_range_reverse {α : Type} {f : Nat → Option α} {b : α} {k : Nat} (hk : f k = some b) :
    ∀ n, k < n → (∀ j, k < j → j < n → f j = none) → (List.range n).reverse.findSome? f = some b
  | 0, h, _ => absurd h (Nat.not_lt_zero _)
  | n + 1, h, hn => by
    rw [List.range_succ, List.reverse_append, List.reverse_singleton, List.singleton_append, List.findSome?_cons]
    rcases Nat.lt_succ_iff_lt_or_eq.1 h with hlt | rfl
    · rw [hn n hlt (Nat.lt_succ_self n)]
      exact findSome?_range_reverse hk n hlt (fun j hj hjn => hn j hj (Nat.lt_succ_of_lt hjn))
    · rw [hk]

section
variable {s : State}

/-- The shed channel that is released next: the first of the highest SHED_PRIO (R604). -/
def State.shedNext (s : State) : Option Nat :=
  (List.range 16).reverse.findSome? (fun pr => firstIx 8 (fun c => s.efState c == Ef.shed && s.efPrio c == pr))

theorem State.shedNext_of_first {c : Fin 8} (h4 : s.efState c = 4)
    (hfirst : ∀ d : Fin 8, s.efState d = 4 → s.efPrio d < s.efPrio c ∨ s.efPrio d = s.efPrio c ∧ c ≤ d) :
    s.shedNext = some c.val := by
  have hprio : s.efPrio c < 16 := Nat.mod_lt _ (by decide)
  refine findSome?_range_reverse (k := s.efPrio c) ?_ 16 hprio (fun j hj _ => ?_)
  · refine List.find?_range_eq_some.2 ⟨by simp [h4, Ef.shed], List.mem_range.2 c.isLt, fun d hd => ?_⟩
    have hd8 : d < 8 := hd.trans c.isLt
    simp only [Ef.shed, Bool.not_eq_true', Bool.and_eq_false_iff, beq_eq_false_iff_ne]
    refine not_and_or.1 (fun ⟨hs, hp⟩ => ?_)
    rcases hfirst ⟨d, hd8⟩ hs with hlt | ⟨-, hle⟩
    · exact absurd hp (Nat.ne_of_lt hlt)
    · exact absurd hle (Nat.not_le.2 hd)
  · refine List.find?_eq_none.2 (fun d hd => ?_)
    simp only [Ef.shed, Bool.and_eq_true, beq_iff_eq]
    rintro ⟨hs, hp⟩
    have := hfirst ⟨d, List.mem_range.1 hd⟩ hs
    simp only at this
    omega

theorem State.shedNext_none (h : ∀ c : Fin 8, s.efState c ≠ 4) : s.shedNext = none :=
  List.findSome?_eq_none_iff.2 (fun _ _ => List.find?_eq_none.2 (fun d hd => by simp [h ⟨d, List.mem_range.1 hd⟩, Ef.shed]))

theorem State.shedTick_releasing (h0 : s.get F.OA_STATUS_SHED_ACTIVE = 0) (hr : s.oa.releasing = true) : s.shedTick
    = match s.shedNext with
      | none => { s with oa := { s.oa with releasing := false } }
      | some c => (s.efTo c 0).efTry c :=
  ((if_neg (by simp [State.flag_of_zero h0])).trans (if_neg (by simp [hr]))).trans rfl

end

/-- Settles O57: a boundary's release by the search for the channel, and the two commands by their lemmas. -/
theorem shedRelease : Obligations.ShedRelease := by
  intro s hs
  refine ⟨exec_shedEnd_restored, fun h0 hr => ⟨fun c h4 hfirst => ?_, fun hn => ?_⟩,
    fun h0 hr => (if_neg (by simp [State.flag_of_zero h0])).trans (if_pos (by simp [hr])),
    fun h1 => if_pos (State.flag_of_one h1), rfl, exec_localSupplyTrip_on⟩
  · rw [State.shedTick_releasing h0 hr, State.shedNext_of_first h4 hfirst]
  · rw [State.shedTick_releasing h0 hr, State.shedNext_none hn]

end Sys2Proof.Machine
end

section
/-! A refused power request (O56). -/
namespace Sys2Proof.Machine

/-- The counter of a refuser code: the halves of PWR_REFUSE_n in turn (R593). -/
def refuseCounter (i : Nat) : FRef := if i % 2 = 0 then F.PWR_REFUSE_n_LO (i / 2) else F.PWR_REFUSE_n_HI (i / 2)

theorem refuseCounter_addr (i : Nat) : (refuseCounter i).addr = A.PWR_REFUSE_n (i / 2) := by
  unfold refuseCounter
  split <;> rfl

theorem refuseCounter_width (i : Nat) : (refuseCounter i).width = 16 := by
  unfold refuseCounter
  split <;> rfl

theorem refuseCounter_lsb (i : Nat) : (refuseCounter i).lsb = 16 * (i % 2) := by
  unfold refuseCounter
  split
  next h => rw [h]; rfl
  next h => rw [Nat.mod_two_ne_zero.1 h]; rfl

section
variable {s : State} (hw : cellsWf 0 s.regs = true) {i k : Nat}
include hw

theorem State.get_refuseCounter_same : (s.bump (refuseCounter k) 1).get (refuseCounter k) = satAdd 16 (s.get (refuseCounter k)) 1 := by
  have h := State.get_bump_same (refuseCounter k) 1 hw (by rw [refuseCounter_lsb, refuseCounter_width]; omega)
  rwa [refuseCounter_width] at h

theorem State.get_refuseCounter_other (h : i ≠ k) :
    (s.bump (refuseCounter k) 1).get (refuseCounter i) = s.get (refuseCounter i) := by
  by_cases ha : i / 2 = k / 2
  · refine State.get_put_disj _ _ _ hw ?_ ?_ ?_
    · rw [refuseCounter_lsb, refuseCounter_width]
      omega
    · rw [refuseCounter_addr, refuseCounter_addr, ha]
    · simp only [refuseCounter_lsb, refuseCounter_width]
      omega
  · refine State.get_bump_ne _ _ _ hw ?_
    simp only [refuseCounter_addr, A.PWR_REFUSE_n]
    omega

/-- A refusal counts under its code, is recorded, and raises the event. -/
theorem State.powerRefused_records (a : Agent) (k : Fin 16) (p : Fin 8) :
    let t := s.powerRefused a k p
    t.get (refuseCounter k) = satAdd 16 (s.get (refuseCounter k)) 1
      ∧ (∀ i : Fin 16, i ≠ k → t.get (refuseCounter i) = s.get (refuseCounter i))
      ∧ t.get F.PWR_LAST_REFUSE_CODE = k ∧ t.get F.PWR_LAST_REFUSE_AGENT = a ∧ t.get F.PWR_LAST_REFUSE_TARGET = p
      ∧ t.get F.PWR_EVT_REFUSED = 1 ∧ t = { s with regs := t.regs, router := t.router }
      ∧ s.SameRegs t [A.PWR_REFUSE_n (k / 2), A.PWR_LAST_REFUSE, A.PWR_EVT, A.EVT_RISE_s 9] := by
  have r1 : s.ReportsOnly (s.bump (refuseCounter k) 1) [A.PWR_REFUSE_n (k / 2)] := by
    rw [← refuseCounter_addr]
    exact State.put_reports _ _ hw
  have r2 := State.setReg_reports A.PWR_LAST_REFUSE (k.val % 16 + 16 * (a.val % 8) + 256 * (p.val % 8)) r1.wf
  have r3 := State.raise_reports 9 F.PWR_EVT_REFUSED r2.wf
  have hlast (f : FRef) (hf : f.addr = A.PWR_LAST_REFUSE) :
      (s.powerRefused a k p).get f = bitsOf ((k.val % 16 + 16 * (a.val % 8) + 256 * (p.val % 8)) % 2 ^ 32) f.lsb f.width :=
    (r3.same f (by rw [hf]; decide)).trans (State.get_setReg_same _ _ _ f r1.wf hf)
  have hcount (i : Nat) (hi : i < 16) :
      (s.powerRefused a k p).get (refuseCounter i) = (s.bump (refuseCounter k) 1).get (refuseCounter i) := by
    refine (r2.trans r3).same _ ?_
    rw [refuseCounter_addr]
    simp only [A.PWR_REFUSE_n, A.PWR_LAST_REFUSE, F.PWR_EVT_REFUSED, A.PWR_EVT, A.EVT_RISE_s, List.mem_append, List.mem_cons,
      List.not_mem_nil, or_false]
    omega
  refine ⟨(hcount k k.isLt).trans (State.get_refuseCounter_same hw),
    fun i hi => (hcount i i.isLt).trans (State.get_refuseCounter_other hw (fun h => hi (Fin.ext h))), ?_, ?_, ?_,
    State.get_raise_same _ _ r2.wf (by decide) (by decide), ?_, ((r1.trans r2).trans r3).same⟩
  · rw [hlast _ rfl]
    simp only [bitsOf, F.PWR_LAST_REFUSE_CODE]
    omega
  · rw [hlast _ rfl]
    simp only [bitsOf, F.PWR_LAST_REFUSE_AGENT]
    omega
  · rw [hlast _ rfl]
    simp only [bitsOf, F.PWR_LAST_REFUSE_TARGET]
    omega
  · exact State.raise_frame _ _ _

end

section
variable {s : State}

theorem State.powerEnd_pending {q : PwrReq} (h : s.pwr = some q) (k : Nat) : s.powerEnd k
    = (s.powerClear.powerRefused q.agent k q.target).complete q.agent q.tag R.busy [w32 k] := by
  unfold State.powerEnd
  rw [h]

theorem State.powerReply_refused {r : Nat} (h : r ≠ R.ok) (a : Nat) (tr : Transport) (f : Frame) (k : Nat) :
    s.powerReply a tr f r k = (s.powerRefused a k f.w1.toNat).reply a tr (frameTag f) (frameOp f) r [w32 k] := by
  unfold State.powerReply
  rw [if_neg h]

end

/-- Settles O56: what a refusal records, and the two replies by their definitions. -/
theorem powerRefusals : Obligations.PowerRefusals := by
  intro s a k p hs
  exact ⟨State.powerRefused_records hs.regs a k p, fun tr f r hr => State.powerReply_refused hr a tr f k,
    fun q hq => State.powerEnd_pending hq k⟩

end Sys2Proof.Machine
end

section
/-! The ring and the capture of the error log, and ERRLOG (O47). -/
namespace Sys2Proof.Machine

/-! ### ERR_RING_POP and ERR_FIRST_ACK (R610) -/

theorem wregAt_errRingPop : wregAt 0xC00030 = some .errRingPop := by decide +kernel

theorem wregAt_errFirstAck : wregAt 0xC00010 = some .errFirstAck := by decide +kernel

section
variable {s : State} {a : Agent}

theorem State.written_errRingPop (s : State) (a : Nat) :
    s.written a .errRingPop 1 = [⟨F.ERR_RING_POP_POP a, .wo, .live, 1⟩] := rfl

theorem State.written_errFirstAck (s : State) (a : Nat) :
    s.written a .errFirstAck 1 = [⟨F.ERR_FIRST_ACK_ACK a, .wo, .live, 1⟩] := rfl

theorem State.writeWord_errRingPop : (s.writeWord a 0xC00030 1).2 = s.ringPop a := by
  rw [State.writeWord_of_live wregAt_errRingPop (State.written_errRingPop s a) ⟨rfl, fun _ => rfl, rfl, rfl, rfl⟩,
    State.wordEffect_of_plain (r := .errRingPop) rfl nofun nofun nofun]
  rfl

theorem State.writeWord_errFirstAck : (s.writeWord a 0xC00010 1).2 = s.firstAck a := by
  rw [State.writeWord_of_live wregAt_errFirstAck (State.written_errFirstAck s a) ⟨rfl, fun _ => rfl, rfl, rfl, rfl⟩,
    State.wordEffect_of_plain (r := .errFirstAck) rfl nofun nofun nofun]
  rfl

theorem exec_errRingPop_of_taken (h : s.TakesWords a 0xC00030 [1]) : exec (.errRingPop a) s = .next (s.ringPop a) :=
  congrArg Host.Outcome.next ((State.wordsArrive_one s a _ _ h (by decide)).trans State.writeWord_errRingPop)

theorem exec_errFirstAck_of_taken (h : s.TakesWords a 0xC00010 [1]) : exec (.errFirstAck a) s = .next (s.firstAck a) :=
  congrArg Host.Outcome.next ((State.wordsArrive_one s a _ _ h (by decide)).trans State.writeWord_errFirstAck)

end

/-! ### The next capture and ERRLOG (R608 to R610) -/

/-- An entry that is made for an agent whose capture is empty is captured. -/
theorem State.logTo_first {s : State} {a : Nat} (h : (vAt s.logs a).first = none) (cls result cause unit agent detail : Nat) :
    (vAt (s.logTo a cls result cause unit agent detail).logs a).first
      = some ⟨errW0 cls result cause unit agent, detail % 2 ^ 32, s.clock.time⟩ := by
  unfold State.logTo
  dsimp only
  split
  · simp [ErrLog.add, h]
  · simp [ErrLog.add, h]

theorem State.firstAck_first (s : State) (a : Nat) : (vAt (s.firstAck a).logs a).first = none := by
  simp [State.firstAck]

theorem State.statusWord_errLog (s : State) (a r : Nat) : bitAt (s.statusWord a r) 6 = s.errLog a := by
  have hbit (b : Bool) : bit1 b ≤ 1 := by cases b <;> decide
  have hn := hbit (s.attnN a)
  have hf := hbit (s.attnF a)
  have hword : s.statusWord a r / 2 ^ 6 % 2 = bit1 (s.errLog a) := by
    have he := hbit (s.errLog a)
    unfold State.statusWord
    omega
  rw [bitAt, Nat.testBit_eq_decide_div_mod_eq, hword]
  cases s.errLog a <;> rfl

theorem State.errLog_iff (s : State) (a : Nat) : s.errLog a = true ↔ (vAt s.logs a).ring ≠ [] ∨ (vAt s.logs a).first ≠ none := by
  simp [State.errLog, Option.isSome_iff_ne_none]

/-- Settles O47: the two writes by their registers' lemmas, ERRLOG as the bit of the status word. -/
theorem errorRingCommands : Obligations.ErrorRingCommands := by
  intro s a
  exact ⟨exec_errRingPop_of_taken, fun h => ⟨_, exec_errFirstAck_of_taken h, rfl, State.logTo_first (State.firstAck_first s a)⟩,
    fun r => by rw [State.statusWord_errLog]; exact State.errLog_iff s a⟩

end Sys2Proof.Machine
end

section
/-! The decisions of a module's approver (O41). -/
namespace Sys2Proof.Machine

theorem wregAt_wdModCtrl : ∀ m : Fin 8, wregAt (A.WD_MOD_CTRL m) = some (.wdModCtrl m) := by decide +kernel

theorem wdModCtrl_plain (m : Nat) : (WReg.wdModCtrl m).Plain := ⟨rfl, fun _ => rfl, rfl, fun _ _ => rfl⟩

section
variable {s : State} {a : Agent} {m : Fin 8} (happ : s.approver m = a) (ha : a.val < 4)
include happ ha

/-- A bit of WD_MOD_CTRL that the hub takes from the slot's approver acts and is not stored. -/
theorem State.fieldArrives_modBit {lsb : Nat} (hm : ⟨lsb, 1, .wo, .live⟩ ∈ (WReg.wdModCtrl m).fields)
    (ht : s.TakesField a (A.WD_MOD_CTRL m) lsb 1 1) :
    s.fieldArrives a (A.WD_MOD_CTRL m) lsb 1 1
      = s.wordAction a (.wdModCtrl m) [⟨⟨A.WD_MOD_CTRL m, lsb, 1⟩, .wo, .live, 1⟩] := by
  have hmay (v : Nat) : s.mayWrite a (.wdModCtrl m) lsb v = true := by simp [State.mayWrite, happ, ha]
  refine (State.fieldArrives_of_live (acc := .wo) (wregAt_wdModCtrl m) (wdModCtrl_plain m) (by decide) hm rfl
    (by unfold A.WD_MOD_CTRL; omega) ht ⟨rfl, hmay, rfl, rfl, rfl⟩).trans ?_
  rw [State.wordEffect_of_plain (r := .wdModCtrl m) rfl nofun nofun nofun,
    State.storeWord_of_wo (fun w hw => by rw [List.mem_singleton.1 hw]) (fun w hw => by rw [List.mem_singleton.1 hw])]
  rfl

theorem exec_moduleApprove_of_taken (ht : s.TakesField a (A.WD_MOD_CTRL m) 0 1 1) :
    exec (.moduleApprove a m) s = .next (s.mdApprove m) :=
  congrArg Host.Outcome.next ((State.fieldArrives_modBit happ ha List.mem_cons_self ht).trans rfl)

theorem exec_moduleReject_of_taken (ht : s.TakesField a (A.WD_MOD_CTRL m) 1 1 1) :
    exec (.moduleReject a m) s = .next (s.mdRefuse m) :=
  congrArg Host.Outcome.next
    ((State.fieldArrives_modBit happ ha (List.mem_cons_of_mem _ List.mem_cons_self) ht).trans rfl)

theorem exec_moduleRecheck_of_taken (ht : s.TakesField a (A.WD_MOD_CTRL m) 2 1 1) :
    exec (.moduleRecheck a m) s = .next (s.mdRecheck m) :=
  congrArg Host.Outcome.next ((State.fieldArrives_modBit happ ha
    (List.mem_cons_of_mem _ (List.mem_cons_of_mem _ List.mem_cons_self)) ht).trans rfl)

end

theorem State.mdRecheck_of_decided {s : State} {m : Nat}
    (h : s.mdState m = Md.accepted ∨ s.mdState m = Md.rejected ∨ s.mdState m = Md.fault) :
    s.mdRecheck m = (s.mdRead m true).mdClear m :=
  if_pos (by simpa [or_assoc] using h)

/-- Settles O41: each bit of the approver acts, by whether the slot awaits approval. -/
theorem moduleDecisions : Obligations.ModuleDecisions := by
  intro s a m happ ha
  refine ⟨fun ht => ?_, fun ht => ?_, fun ht hst => ?_⟩
  · rw [exec_moduleApprove_of_taken happ ha ht]
    exact ⟨fun h => congrArg Host.Outcome.next (if_pos h), fun h => congrArg Host.Outcome.next (if_neg h)⟩
  · rw [exec_moduleReject_of_taken happ ha ht]
    exact ⟨fun h => congrArg Host.Outcome.next (if_pos h), fun h => congrArg Host.Outcome.next (if_neg h)⟩
  · rw [exec_moduleRecheck_of_taken happ ha ht, State.mdRecheck_of_decided hst]

end Sys2Proof.Machine
end

section
/-! Isolations asked for and left, and what a FATAL error does (O52). -/
namespace Sys2Proof.Machine

/-! ### The writes of ISO_u (R573, R574, R638) -/

theorem wregAt_iso : ∀ u : Fin 24, wregAt (A.ISO_u u) = some (.iso u) := by decide +kernel

theorem iso_plain (u : Nat) : (WReg.iso u).Plain := ⟨rfl, fun _ => rfl, rfl, fun _ _ => rfl⟩

section
variable {s : State} {a : Agent} {u : Fin 24}

/-- A bit of ISO_u that the hub takes acts. -/
theorem State.fieldArrives_isoBit {lsb : Nat} (hmay : ∀ v, s.mayWrite a (.iso u) lsb v = true)
    (hm : ⟨lsb, 1, .sc, .live⟩ ∈ (WReg.iso u).fields) (ht : s.TakesField a (A.ISO_u u) lsb 1 1) :
    s.fieldArrives a (A.ISO_u u) lsb 1 1 = s.wordAction a (.iso u) [⟨⟨A.ISO_u u, lsb, 1⟩, .sc, .live, 1⟩] := by
  refine (State.fieldArrives_of_live (acc := .sc) (wregAt_iso u) (iso_plain u) (by decide) hm rfl
    (by unfold A.ISO_u; omega) ht ⟨rfl, hmay, rfl, rfl, rfl⟩).trans ?_
  rw [State.wordEffect_of_plain (r := .iso u) rfl nofun nofun nofun, State.storeWord_sc]
  rfl

theorem State.unitRuns_iff {s : State} {u : Nat} : s.unitRuns u = true ↔ s.get (F.ISO_u_STATE u) = 0 := by
  simp [State.unitRuns]

theorem exec_isoIsolate_running (hv : s.inService a = true) (ht : s.TakesField a (A.ISO_u u) 8 1 1)
    (h0 : s.get (F.ISO_u_STATE u) = 0) : exec (.isoIsolate a u) s = .next ((s.isolate u 3).put (F.ISO_u_ISOLATE u) 1) := by
  have hbit := State.fieldArrives_isoBit (fun v => by simpa [State.mayWrite] using hv) List.mem_cons_self ht
  have hreq : s.isoRequest u = (s.isolate u 3).put (F.ISO_u_ISOLATE u) 1 := if_pos (State.unitRuns_iff.2 h0)
  exact congrArg Host.Outcome.next (hbit.trans hreq)

theorem exec_isoRestart_held (hb : s.boardOrService a = true) (ht : s.TakesField a (A.ISO_u u) 9 1 1)
    (h3 : s.get (F.ISO_u_STATE u) = 3) : exec (.isoRestart a u) s
      = .next (((s.put (F.ISO_u_STATE u) 2).isoInit s.img.recs u false).put (F.ISO_u_RESTART u) 1) := by
  have hbit := State.fieldArrives_isoBit (fun v => by simpa [State.mayWrite] using hb)
    (List.mem_cons_of_mem _ List.mem_cons_self) ht
  have hact : s.isoRestart u = ((s.put (F.ISO_u_STATE u) 2).isoInit s.img.recs u false).put (F.ISO_u_RESTART u) 1 := if_pos h3
  exact congrArg Host.Outcome.next (hbit.trans hact)

/-! ### The wrapper closes (R571, R572) -/

theorem State.isoClose_closes (hw : cellsWf 0 s.regs = true) (k : Fin 8) : let t := s.isoClose u k
    t.get (F.ISO_u_STATE u) = 2 ∧ t.get (F.ISO_u_CAUSE u) = k
      ∧ t.get (F.ISO_u_COUNT u) = satAdd 16 (s.get (F.ISO_u_COUNT u)) 1
      ∧ t = { s with regs := t.regs } ∧ s.SameRegs t [A.ISO_u u] := by
  have r1 := State.put_reports (F.ISO_u_STATE u) 2 hw
  have r2 := State.put_reports (F.ISO_u_CAUSE u) k r1.wf
  have r3 : ((s.put (F.ISO_u_STATE u) 2).put (F.ISO_u_CAUSE u) k).ReportsOnly (s.isoClose u k) [A.ISO_u u] :=
    State.put_reports _ _ r2.wf
  have hcount (g : FRef) (hg : g.addr = A.ISO_u u) (hd : (F.ISO_u_COUNT u).apart g = true) :
      (s.isoClose u k).get g = ((s.put (F.ISO_u_STATE u) 2).put (F.ISO_u_CAUSE u) k).get g :=
    State.get_put_apart _ r2.wf hg hd
  refine ⟨?_, ?_, ?_, rfl, fun g hg => ?_⟩
  · exact (hcount (F.ISO_u_STATE u) rfl rfl).trans ((State.get_put_apart (f := F.ISO_u_CAUSE u)
      (g := F.ISO_u_STATE u) _ r1.wf rfl rfl).trans (State.get_put_same _ _ hw (Nat.le_of_ble_eq_true rfl)))
  · exact (hcount (F.ISO_u_CAUSE u) rfl rfl).trans ((State.get_put_same _ _ r1.wf (Nat.le_of_ble_eq_true rfl)).trans
      (Nat.mod_eq_of_lt k.isLt))
  · refine (State.get_bump_same _ _ r2.wf (Nat.le_of_ble_eq_true rfl)).trans (congrArg (satAdd 16 · 1) ?_)
    exact (State.get_put_apart (f := F.ISO_u_CAUSE u) (g := F.ISO_u_COUNT u) _ r1.wf rfl rfl).trans
      (State.get_put_apart (f := F.ISO_u_STATE u) _ hw rfl rfl)
  · exact ((r1.trans r2).trans r3).same g (by simpa [F.ISO_u_STATE, F.ISO_u_CAUSE] using hg)

theorem State.isoEscalate_left {t : Nat} (h : vAt s.oa.leftAt u = some t) : s.isoEscalate u = if s.tick < t + 8000
    then (((s.isoClose u 1).put (F.ISO_u_STATE u) 3).isoCut u).notice 17 u else s.isolate u 1 := by
  unfold State.isoEscalate
  simp only [h, decide_eq_true_eq]

end

/-! ### FATAL errors (R611, R612) -/

/-- The unit's last FATAL error lies within ESC_WINDOW (R611). -/
def State.fatalAgain (s : State) (u : Nat) : Bool :=
  match vAt s.oa.fatalAt u with
  | some t => decide (s.tick - t ≤ s.get F.OA_CFG_ESC_WINDOW)
  | none => false

/-- The instant of a unit's FATAL error is noted. -/
def State.fatalNoted (s : State) (u : Nat) : State := { s with oa := { s.oa with fatalAt := vPut s.oa.fatalAt u (some s.tick) } }

section
variable {s : State}

theorem State.fatalMet_core {u : Nat} (h : 32 ≤ u) (hu : u < 42) : s.fatalMet u = (s.put F.OA_STATUS_CORE_FATAL 1).notice 16 u :=
  if_pos (by simp [h, hu])

section
variable {u : Nat} (hu : u < 24)
include hu

theorem State.fatalMet_isolated (h : s.get (F.ISO_u_STATE u) ≠ 0) : s.fatalMet u = s := by
  have hr : s.unitRuns u = false := Bool.eq_false_iff.2 (fun hr => h (State.unitRuns_iff.1 hr))
  exact (if_neg (by simp; omega)).trans (if_pos (by simp [hr]))

theorem State.fatalMet_running (h : s.get (F.ISO_u_STATE u) = 0) : s.fatalMet u
    = if s.fatalAgain u then ((s.fatalNoted u).logHw ((s.fatalNoted u).unitOwner u) 3 0 0x16 u u).isoEscalate u
      else s.fatalNoted u := by
  have hr := State.unitRuns_iff.2 h
  exact ((if_neg (by simp; omega)).trans (if_neg (by simp [hr]; omega))).trans rfl

theorem State.fatalMet_first (h : s.get (F.ISO_u_STATE u) = 0) (hn : vAt s.oa.fatalAt u = none) :
    s.fatalMet u = s.fatalNoted u := by
  rw [State.fatalMet_running hu h, State.fatalAgain, hn]
  rfl

theorem State.fatalMet_again {t : Nat} (h : s.get (F.ISO_u_STATE u) = 0) (hn : vAt s.oa.fatalAt u = some t) : s.fatalMet u
    = if s.tick - t ≤ s.get F.OA_CFG_ESC_WINDOW then
        ((s.fatalNoted u).logHw ((s.fatalNoted u).unitOwner u) 3 0 0x16 u u).isoEscalate u
      else s.fatalNoted u := by
  rw [State.fatalMet_running hu h, State.fatalAgain, hn]
  simp only [decide_eq_true_eq]

end

theorem exec_fatalError_unit (b : Fin 42) (hb : ¬ (24 ≤ b.val ∧ b.val < 32)) (code : Word) : exec (.fatalError b code) s
    = .next ((s.logHw (s.unitOwner b) 3 0 0x15 b code.toNat).fatalMet b) :=
  congrArg Host.Outcome.next (if_neg (by simpa using hb))

/-- A block above the isolation units has no owner of its own. -/
theorem State.unitOwner_core {u : Nat} (h : 24 ≤ u) : s.unitOwner u = 7 := by
  unfold State.unitOwner
  rw [if_neg (by simp; omega), if_neg (by simp; omega)]

end

/-- Settles O52: each write by its bit, and a FATAL error by what the unit's state and its last FATAL error say. -/
theorem isolationAndFatals : Obligations.IsolationAndFatals := by
  intro s u hs
  refine ⟨fun a => ⟨exec_isoIsolate_running, exec_isoRestart_held⟩, fun k => ⟨rfl, State.isoClose_closes hs.regs k⟩, rfl,
    fun code => ?_, fun b code hb => ?_, fun t => State.isoEscalate_left⟩
  · have hexec := exec_fatalError_unit (s := s) (u.castLE (by decide)) (by simp) code
    refine ⟨fun h => hexec.trans (congrArg Host.Outcome.next (State.fatalMet_isolated u.isLt h)),
      fun h hn => hexec.trans (congrArg Host.Outcome.next (State.fatalMet_first u.isLt h hn)),
      fun t h hn => hexec.trans (congrArg Host.Outcome.next (State.fatalMet_again u.isLt h hn))⟩
  · rw [exec_fatalError_unit b (by omega), State.unitOwner_core (by omega), State.fatalMet_core hb b.isLt]

end Sys2Proof.Machine
end

section
/-! The end of a drain, waking from each power state, PWR_STAY and the failover suspension (O53). -/
namespace Sys2Proof.Machine

/-! ### The end of a drain and of a request (R583, R584, R586) -/

section
variable {s : State}

theorem exec_powerDrainDone_drained {p : PwrReq} {d : Nat} {o : OpenCmd} (hp : s.pwr = some p) (hd : p.drain = some d)
    (hdone : s.drained = true) (ho : s.openCmd p.agent p.tag = some o) : exec .powerDrainDone s = .next (
      let u := ((s.complete p.agent p.tag R.ok [0]).flushReplies p.agent o.tr).powerClear
      if p.target = 2 then u.enterSleep else if p.target = 3 then u.enterDormant else u.enterOff) := by
  show execPowerDrainDone s = _
  unfold execPowerDrainDone
  rw [hp]
  dsimp only
  rw [if_neg (by simp [hd, hdone]), ho]
  rfl

theorem exec_powerDrainTimeout_draining {p : PwrReq} {d : Nat} (hp : s.pwr = some p) (hd : p.drain = some d) :
    exec .powerDrainTimeout s = .next ((s.advanceTo ((d + s.get F.MGMT_NP_TIMEOUT_TICKS) * 125000)).powerEnd 15) := by
  show execPowerDrainTimeout s = _
  unfold execPowerDrainTimeout
  rw [hp]
  dsimp only
  rw [hd]

theorem State.powerClear_clears (hw : cellsWf 0 s.regs = true) : let t := s.powerClear
    t.pwr = none ∧ t.get F.PWR_STATE_PEND = 0 ∧ t.get F.PWR_STATE_TARGET = 0 ∧ t = { s with pwr := none, regs := t.regs }
      ∧ s.SameRegs t [A.PWR_STATE] := by
  have hw' : cellsWf 0 ({ s with pwr := none } : State).regs = true := hw
  have r1 := State.put_reports F.PWR_STATE_PEND 0 hw'
  have r2 := State.put_reports F.PWR_STATE_TARGET 0 r1.wf
  refine ⟨rfl, (State.get_put_apart (f := F.PWR_STATE_TARGET) (g := F.PWR_STATE_PEND) _ r1.wf rfl rfl).trans
      (State.get_put_same _ _ hw' (by decide)),
    State.get_put_same _ _ r1.wf (by decide), rfl, fun g hg => (r1.trans r2).same g ?_⟩
  simpa [F.PWR_STATE_PEND, F.PWR_STATE_TARGET] using hg

end

/-! ### Waking (R587, R588) -/

section
variable {s : State} {w : Fin 9} (h5 : w.val ≠ 5) (he : s.wakeEnabled w = true) (d : BitVec 4) (el unc : Nat) (check : Word)
include h5 he

theorem exec_wake_sleep (hp : s.power = 2) (hin : wakeIn w 2 = true) :
    exec (.wake w d el check unc) s = .next (s.wakeSleep.wakeRecord w d.toNat 2) :=
  congrArg Host.Outcome.next ((if_neg (by simp [he, h5])).trans ((if_neg (by omega)).trans ((if_neg (by simp [hp, hin])).trans
    ((if_neg (by omega)).trans ((if_neg (by omega)).trans
      (congrArg (fun u : State => u.wakeSleep.wakeRecord w d.toNat 2) (if_neg h5)))))))

theorem exec_wake_dormant (hp : s.power = 3) (hin : wakeIn w 3 = true) : exec (.wake w d el check unc) s
    = .next ((if check.toNat = s.img.keepCheck then s.wakeDormant el unc else s.wakeLost el unc).wakeRecord w d.toNat 3) :=
  congrArg Host.Outcome.next ((if_neg (by simp [he, h5])).trans ((if_neg (by omega)).trans ((if_neg (by simp [hp, hin])).trans
    ((if_neg (by omega)).trans (if_pos hp)))))

theorem exec_wake_off (hp : s.power = 4) (hin : wakeIn w 4 = true) :
    exec (.wake w d el check unc) s = .next (s.coldReset 8) :=
  congrArg Host.Outcome.next ((if_neg (by simp [he, h5])).trans ((if_neg (by omega)).trans ((if_neg (by simp [hp, hin])).trans
    (if_pos hp))))

theorem exec_wake_pending (hp : s.power ≤ 1) {q : PwrReq} (hq : s.pwr = some q) (hin : wakeIn w q.target = true) :
    exec (.wake w d el check unc) s = .next (s.powerEnd 14) := by
  show execWake w d el check unc s = _
  unfold execWake
  dsimp only
  rw [if_neg (by simp [he, h5]), if_pos hp, hq]
  exact congrArg Host.Outcome.next (if_pos hin)

theorem exec_wake_awake (hp : s.power ≤ 1) (hq : s.pwr = none) : exec (.wake w d el check unc) s = .next s := by
  show execWake w d el check unc s = _
  unfold execWake
  dsimp only
  rw [if_neg (by simp [he, h5]), if_pos hp, hq]

end

/-! ### The wake by a queued launch (R588) -/

/-- The earlier of an instant, if there is one, and that of a launch. -/
def launchMin (m : Option Nat) (l : Launch) : Option Nat :=
  some (match m with
    | some t => min t l.at_
    | none => l.at_)

/-- No launch of a queue comes before `f`, and one comes at `f`, if `f` is not the instant to begin with. -/
theorem foldl_launchMin {f : Nat} : ∀ (q : List Launch) (m : Option Nat), (m = some f ∨ ∃ l ∈ q, l.at_ = f) →
    (∀ t, m = some t → f ≤ t) → (∀ l ∈ q, f ≤ l.at_) → q.foldl launchMin m = some f
  | [], _, hf, _, _ => hf.elim id (fun ⟨_, hl, _⟩ => absurd hl List.not_mem_nil)
  | l :: q, m, hf, hm, hq => by
    have hl := hq l List.mem_cons_self
    refine foldl_launchMin q (launchMin m l) ?_ ?_ (fun x hx => hq x (List.mem_cons_of_mem _ hx))
    · rcases hf with rfl | ⟨x, hx, hxf⟩
      · exact .inl (congrArg some (Nat.min_eq_left hl))
      · rcases List.mem_cons.1 hx with rfl | hx
        · left
          cases m with
          | none => exact congrArg some hxf
          | some t => exact congrArg some ((Nat.min_eq_right (hxf ▸ hm t rfl)).trans hxf)
        · exact .inr ⟨x, hx, hxf⟩
    · intro t ht
      obtain rfl := Option.some.inj ht
      cases m with
      | none => exact hl
      | some t => exact Nat.le_min.2 ⟨hm t rfl, hl⟩

section
variable {s : State}

theorem exec_wake_launch {f : Nat} (he : s.wakeEnabled 5 = true) (hp : s.power = 2) (hf : ∃ l ∈ s.sr.queue, l.at_ = f)
    (hmin : ∀ l ∈ s.sr.queue, f ≤ l.at_) (d : BitVec 4) (el unc : Nat) (check : Word) :
    exec (.wake 5 d el check unc) s = .next ((s.advanceTo (f - 80000)).wakeSleep.wakeRecord 5 d.toNat 2) := by
  have hfirst : s.sr.queue.foldl launchMin none = some f := foldl_launchMin _ _ (.inr hf) (fun _ h => nomatch h) hmin
  have hgo : ∀ m : Option Nat, m = some f → ¬ (!s.wakeEnabled 5 || (decide ((5 : Fin 9).val = 5) && m.isNone)) = true := by
    rintro m rfl
    simp [he]
  have htime : ∀ m : Option Nat, m = some f → s.advanceTo (m.getD 0 - 80000) = s.advanceTo (f - 80000) := by
    rintro m rfl
    rfl
  exact congrArg Host.Outcome.next ((if_neg (hgo _ hfirst)).trans ((if_neg (by omega)).trans ((if_neg (by simp [hp, wakeIn])).trans
    ((if_neg (by omega)).trans ((if_neg (by omega)).trans
      (congrArg (fun u : State => u.wakeSleep.wakeRecord 5 d.toNat 2)
        ((if_pos (rfl : (5 : Fin 9).val = 5)).trans (htime _ hfirst))))))))

/-! ### The record of a wake (R588) -/

theorem State.wakeRecord_records (hw : cellsWf 0 s.regs = true) {w st : Nat} (hw9 : w < 9) (hst : st < 8) :
    let t := s.wakeRecord w 0 st
    t.get F.PWR_WAKE_LAST = w ∧ t.get F.PWR_WAKE_FROM = st ∧ t.get F.PWR_EVT_WAKE = 1
      ∧ t.get F.PWR_WAKE_TIME_LO_V = s.clock.time % 2 ^ 32 := by
  have r1 := State.put_reports F.PWR_WAKE_LAST w hw
  have r2 := State.put_reports F.PWR_WAKE_DETAIL (if w = 2 || w = 3 || w = 6 || w = 7 then 0 else 0) r1.wf
  have r3 := State.put_reports F.PWR_WAKE_FROM st r2.wf
  have r4 : State.ReportsOnly _ (State.bump _ F.PWR_WAKE_COUNT 1) [A.PWR_WAKE] := State.put_reports F.PWR_WAKE_COUNT _ r3.wf
  have r5 := State.put_reports F.PWR_WAKE_TIME_LO_V (s.clock.time % 2 ^ 32) r4.wf
  have r6 := State.put_reports F.PWR_WAKE_TIME_HI_V (s.clock.time / 2 ^ 32) r5.wf
  have r7 := State.raise_reports 9 F.PWR_EVT_WAKE r6.wf
  have hword := (r5.trans r6).trans r7
  refine ⟨?_, ?_, State.get_raise_same _ _ r6.wf (by decide) (by decide), ?_⟩
  · calc (s.wakeRecord w 0 st).get F.PWR_WAKE_LAST = _ := hword.same _ (by decide)
      _ = _ := State.get_put_apart (f := F.PWR_WAKE_COUNT) _ r3.wf rfl rfl
      _ = _ := State.get_put_apart (f := F.PWR_WAKE_FROM) _ r2.wf rfl rfl
      _ = _ := State.get_put_apart (f := F.PWR_WAKE_DETAIL) _ r1.wf rfl rfl
      _ = w := (State.get_put_same _ _ hw (by decide)).trans (Nat.mod_eq_of_lt (hw9.trans (by decide)))
  · calc (s.wakeRecord w 0 st).get F.PWR_WAKE_FROM = _ := hword.same _ (by decide)
      _ = _ := State.get_put_apart (f := F.PWR_WAKE_COUNT) _ r3.wf rfl rfl
      _ = st := (State.get_put_same _ _ r2.wf (by decide)).trans (Nat.mod_eq_of_lt hst)
  · calc (s.wakeRecord w 0 st).get F.PWR_WAKE_TIME_LO_V = _ := (r6.trans r7).same _ (by decide)
      _ = s.clock.time % 2 ^ 32 := (State.get_put_same _ _ r4.wf (by decide)).trans (Nat.mod_mod _ _)

/-! ### PWR_STAY (R583, R638) -/

theorem wregAt_pwrStay : wregAt A.PWR_STAY = some .pwrStay := by decide +kernel

/-- The word that changes MINE of PWR_STAY writes that field alone. -/
theorem State.written_pwrStay {a : Agent} {on : Bool} (hne : s.get (stayRef a) ≠ bit1 on) :
    s.written a .pwrStay (w32 (s.wordWith a A.PWR_STAY 0 1 (bit1 on))).toNat = [⟨stayRef a, .rw, .live, bit1 on⟩] := by
  have hbit : bitsOf (w32 (s.wordWith a A.PWR_STAY 0 1 (bit1 on))).toNat 0 1 = bit1 on := by
    rw [bitsOf_w32 _ _ _ (by decide), State.wordWith, wregAt_pwrStay]
    refine (bitsOf_withBits_same _ _ _ _).trans (Nat.mod_eq_of_lt ?_)
    cases on <;> decide
  have hx : bitsOf (WReg.pwrStay.word (w32 (s.wordWith a A.PWR_STAY 0 1 (bit1 on))).toNat) 0 1 = bit1 on := hbit
  simp [State.written, WReg.fields, WReg.fref, hx, hne.symm]

theorem exec_pwrStayWrite_of_taken {a : Agent} {on : Bool} (ha : a.val < 4) (ht : s.TakesField a A.PWR_STAY 0 1 (bit1 on))
    (hne : s.get (stayRef a) ≠ bit1 on) : exec (.pwrStayWrite a on) s = .next (
      let u := s.put (stayRef a) (bit1 on)
      if u.power = 1 ∧ u.stays a = true then u.put F.PWR_STATE_STATE 0 else u) := by
  have h := (State.wordsArrive_one s a A.PWR_STAY _ ht (by decide)).trans (congrArg Prod.snd
    (State.writeWord_of_live wregAt_pwrStay (State.written_pwrStay hne) ⟨rfl, fun _ => decide_eq_true ha, rfl, rfl, rfl⟩))
  have hstay : s.stayWrite a (bit1 on) = (let u := s.put (stayRef a) (bit1 on)
      if u.power = 1 ∧ u.stays a = true then u.put F.PWR_STATE_STATE 0 else u) := by
    simp [State.stayWrite, ha]
  exact congrArg Host.Outcome.next ((h.trans rfl).trans hstay)

/-! ### The failover suspension (R581) -/

theorem exec_failoverSuspendEnd_awake {m t : Nat} (hs : s.own.suspend = some (m, t)) (ha : s.awake = true) :
    exec .failoverSuspendEnd s = .next (
      let up := (List.range 4).all (fun h => !bitAt m h || s.linkUp h)
      (if up then s else s.advanceTo ((t + 8000) * 125000)).modOwn (fun o => { o with suspend := none })) := by
  show execFailoverSuspendEnd s = _
  unfold execFailoverSuspendEnd
  rw [hs]
  dsimp only
  rw [if_neg (by simp [ha])]

end

/-- Settles O53: each end and each wake by the lemma of its command. -/
theorem powerDrainsAndWakes : Obligations.PowerDrainsAndWakes := by
  intro s hs
  refine ⟨fun p d hp hd => ⟨fun hdone o ho => ?_, exec_powerDrainTimeout_draining hp hd⟩, fun p k hp => State.powerEnd_pending hp k,
    State.powerClear_clears hs.regs,
    fun w d el unc check h5 he => ⟨exec_wake_sleep h5 he d el unc check, exec_wake_dormant h5 he d el unc check,
      exec_wake_off h5 he d el unc check, fun hp q => exec_wake_pending h5 he d el unc check hp,
      exec_wake_awake h5 he d el unc check⟩,
    fun d el unc f check he hp hf hmin => exec_wake_launch he hp hf hmin d el unc check,
    fun w st _ hw9 hst => State.wakeRecord_records hs.regs hw9 hst, fun a on => exec_pwrStayWrite_of_taken,
    fun m t => exec_failoverSuspendEnd_awake⟩
  have h := exec_powerDrainDone_drained hp hd hdone ho
  exact ⟨fun h2 => h.trans (congrArg Host.Outcome.next (if_pos h2)),
    fun h3 => h.trans (congrArg Host.Outcome.next ((if_neg (by omega)).trans (if_pos h3))),
    fun h4 => h.trans (congrArg Host.Outcome.next ((if_neg (by omega)).trans (if_neg (by omega))))⟩

end Sys2Proof.Machine
end

section
/-! A field bus's transactions, its keep, its receivers and its posted-write errors (O40). -/
namespace Sys2Proof.Machine

section
variable {s : State} {b : Fin 20}

/-! ### Transactions (R462 to R466) -/

/-- On a bus that runs, with nothing under way and no keep, a launched frame begins before all else. -/
theorem State.fieldStart_launched {t : FieldTxn} {l : List FieldTxn} (hr : s.busRuns b = true) (hc : (s.fb b).cur = none)
    (hk : (s.fb b).keep = none) (hl : (s.fb b).launched = t :: l) (any : Bool) (n : Nat) :
    s.fieldStart b any (n + 1) = (s.modFb b (fun f => { f with launched := l })).fieldBegin b t true := by
  unfold State.fieldStart
  dsimp only
  rw [if_neg (by simp [hr, hc]), hk, hl]

/-- A transaction that ends is taken off the bus and counted. -/
def State.fieldTaken (s : State) (b : Nat) : State := (s.modFb b (fun f => { f with cur := none })).bump (F.WD_TX_COUNT_COUNT b) 1

/-- What a transaction that ends well answers (R463, R464). -/
def State.fieldReplied (s : State) (t : FieldTxn) (data : List Byte) : State :=
  let cnt := fieldCnt t.addr t.write
  if t.posted then s.postedDone t.agent else if t.orphan then s
  else if t.write then s.complete t.agent t.tag R.ok [w32 (ceilDiv t.bytes.length 4)]
  else s.complete t.agent t.tag R.ok (bytesWords ((data ++ List.replicate cnt 0).take cnt ++ [0, 0, 0]))

section
variable {t : FieldTxn} (hcur : (s.fb b).cur = some t) (done : BitVec 16) (data : List Byte)
include hcur

theorem exec_fieldTransactionEnd_ok : exec (.fieldTransactionEnd b 0 done data) s = .next (
    let v := (s.fieldTaken b).fieldReplied t data
    (((if fieldKeep t.addr t.write
      then v.modFb b (fun f => { f with keep := some ⟨t.id, t.agent, bitsOf t.addr 23 2, v.clock.time⟩ }) else v).busRegs b).mdWaiting
        b).fieldStart b false 16) := by
  show execFieldTransactionEnd b 0 done data s = _
  unfold execFieldTransactionEnd
  rw [hcur]
  rfl

theorem exec_fieldTransactionEnd_failed {c : Fin 8} (hc : c ≠ 0) : exec (.fieldTransactionEnd b c done data) s = .next (
    let u := s.fieldTaken b
    let w := if c = 3 then u.busEvt b 0 else if c = 4 then u.busEvt b 1 else u
    (((w.fieldFail b t c done.toNat).busRegs b).mdWaiting b).fieldStart b false 16) := by
  show execFieldTransactionEnd b c done data s = _
  unfold execFieldTransactionEnd
  rw [hcur]
  dsimp only
  rw [if_neg hc]
  rfl

end

theorem exec_keepTimeout_unfollowed {k : FieldKeep} (hk : (s.fb b).keep = some k) (hq : ∀ t ∈ (s.fb b).queue, t.follower ≠ some k.id) :
    exec (.keepTimeout b) s
      = .next ((((s.advanceTo (k.at_ + 20000)).modFb b (fun f => { f with keep := none })).mdWaiting b).fieldStart b false 16) := by
  have hnone : (s.fb b).queue.any (fun t => t.follower == some k.id) = false :=
    List.any_eq_false.2 (fun t ht => by simpa using hq t ht)
  show execKeepTimeout b s = _
  unfold execKeepTimeout
  rw [hk]
  dsimp only
  rw [if_neg (by simp [hnone])]

/-! ### ENABLE of a bus (R470, R638) -/

theorem wregAt_wdBusCtrl : ∀ b : Fin 20, wregAt (A.WD_BUS_CTRL b) = some (.wdBusCtrl b) := by decide +kernel

theorem wdBusCtrl_plain (b : Nat) : (WReg.wdBusCtrl b).Plain := ⟨rfl, fun _ => rfl, rfl, fun _ _ => rfl⟩

theorem State.wordEffect_busDisable (s : State) (a b : Nat) :
    (s.wordEffect a (.wdBusCtrl b) [⟨F.WD_BUS_CTRL_ENABLE b, .rw, .live, 0⟩]).2 = (s.put (F.WD_BUS_CTRL_ENABLE b) 0).busStop b := by
  rw [State.wordEffect_of_plain (r := .wdBusCtrl b) rfl nofun nofun nofun, State.storeWord_live]
  rfl

theorem exec_busDisable_enabled {a : Agent} (hb : s.boardOrService a = true) (ht : s.TakesField a (A.WD_BUS_CTRL b) 0 1 0)
    (h1 : s.get (F.WD_BUS_CTRL_ENABLE b) = 1) : exec (.busDisable a b) s = .next ((s.put (F.WD_BUS_CTRL_ENABLE b) 0).busStop b) := by
  have hmay (v : Nat) : s.mayWrite a (.wdBusCtrl b) 0 v = true := by simpa [State.mayWrite] using hb
  have hne : Acc.rw.counts 0 (s.get (F.WD_BUS_CTRL_ENABLE b)) = true := by
    rw [h1]
    rfl
  have h := State.fieldArrives_of_live (acc := .rw) (wregAt_wdBusCtrl b) (wdBusCtrl_plain b) (by decide) List.mem_cons_self hne
    (by unfold A.WD_BUS_CTRL; omega) ht ⟨rfl, hmay, rfl, rfl, rfl⟩
  exact congrArg Host.Outcome.next (h.trans (State.wordEffect_busDisable s a b))

/-! ### Receivers (R474 to R476, R495) -/

theorem exec_canFrameReceive_admitted {c : Fin 4} {w0 w1 : Word} {data : RxIn} (hr : s.busRuns (12 + c.val) = true)
    (hf : (∀ i < 8, s.get (F.WD_CAN_FILT_i_EN (12 + c.val) i) = 0) ∨ ∃ i < 8, s.canMatch (12 + c.val) i w0.toNat = true) :
    exec (.canFrameReceive c w0 w1 data) s = .next (
      let n := bitsOf w1.toNat 0 7
      s.rxStore (12 + c.val) 64 ⟨[w0, w1, w32 (data.start % 2 ^ 32), w32 (data.start / 2 ^ 32)]
        ++ padWords ((data.bytes ++ List.replicate n 0).take n), 1, s.clock.time⟩) := by
  have hadmit : (!(List.range 8).any (fun i => s.flag (F.WD_CAN_FILT_i_EN (12 + c.val) i))
      || (List.range 8).any (fun i => s.canMatch (12 + c.val) i w0.toNat)) = true := by
    rcases hf with h | ⟨i, hi, h⟩
    · have hnone : (List.range 8).any (fun i => s.flag (F.WD_CAN_FILT_i_EN (12 + c.val) i)) = false :=
        List.any_eq_false.2 (fun i hi => by simp [State.flag_of_zero (h i (List.mem_range.1 hi))])
      rw [hnone]
      rfl
    · exact Bool.or_eq_true_iff.2 (.inr (List.any_eq_true.2 ⟨i, List.mem_range.2 hi, h⟩))
  exact congrArg Host.Outcome.next (if_neg (by simp only [hr, hadmit]; decide))

theorem exec_uartRecordClose_bytes {u : Fin 4} {bytes : RxIn} {errors : BitVec 4} (hr : s.busRuns (16 + u.val) = true)
    (hb : bytes.bytes ≠ []) : exec (.uartRecordClose u bytes errors) s = .next (
      let bs := bytes.bytes.take 64
      s.rxStore (16 + u.val) 1024 ⟨[w32 (bs.length + 65536 * errors.toNat), w32 (bytes.start % 2 ^ 32),
        w32 (bytes.start / 2 ^ 32)] ++ padWords bs, bs.length, s.clock.time⟩) :=
  congrArg Host.Outcome.next (if_neg (by simp [hr, hb]))

/-- The CAN state stored with an event of its bus. -/
theorem State.canState_event (hw : cellsWf 0 s.regs = true) (c : Fin 4) (st : Fin 3) {i : Nat} (hi : i < 32) :
    let t := (s.put (F.WD_BUS_STATUS_CAN_STATE (12 + c.val)) st).busEvt (12 + c.val) i
    t.get (F.WD_BUS_STATUS_CAN_STATE (12 + c.val)) = st ∧ t.get ⟨A.WD_BUS_EVT (12 + c.val), i, 1⟩ = 1
      ∧ t = { s with regs := t.regs, router := t.router }
      ∧ s.SameRegs t [A.WD_BUS_STATUS (12 + c.val), A.WD_BUS_EVT (12 + c.val), A.EVT_RISE_s 172] :=
  State.put_raise_alone (f := F.WD_BUS_STATUS_CAN_STATE (12 + c.val)) (g := ⟨A.WD_BUS_EVT (12 + c.val), i, 1⟩) hw
    (Nat.le_of_ble_eq_true rfl) (st.isLt.trans (Nat.le_of_ble_eq_true rfl)) hi
    (by simp only [F.WD_BUS_STATUS_CAN_STATE, A.WD_BUS_STATUS, A.WD_BUS_EVT]; omega)
    (by simp only [F.WD_BUS_STATUS_CAN_STATE, A.WD_BUS_STATUS, A.EVT_RISE_s]; omega)
    (by simp only [A.WD_BUS_EVT, A.EVT_RISE_s]; omega)

theorem exec_canStateChange_changed (hw : cellsWf 0 s.regs = true) {c : Fin 4} {st : Fin 3}
    (hne : s.get (F.WD_BUS_STATUS_CAN_STATE (12 + c.val)) ≠ st) (hr : s.unitRuns 15 = true) :
    ∃ t, exec (.canStateChange c st) s = .next t ∧ t.get (F.WD_BUS_STATUS_CAN_STATE (12 + c.val)) = st
      ∧ (st = 1 → t.get ⟨A.WD_BUS_EVT (12 + c.val), 3, 1⟩ = 1) ∧ (st = 2 → t.get ⟨A.WD_BUS_EVT (12 + c.val), 2, 1⟩ = 1)
      ∧ t = { s with regs := t.regs, router := t.router }
      ∧ s.SameRegs t [A.WD_BUS_STATUS (12 + c.val), A.WD_BUS_EVT (12 + c.val), A.EVT_RISE_s 172] := by
  have hexec : exec (.canStateChange c st) s = .next (
      let u := s.put (F.WD_BUS_STATUS_CAN_STATE (12 + c.val)) st
      if st.val = 1 then u.busEvt (12 + c.val) 3 else if st.val = 2 then u.busEvt (12 + c.val) 2 else u) :=
    congrArg Host.Outcome.next (if_neg (by simp [hne, hr]))
  rw [hexec]
  refine ⟨_, rfl, ?_⟩
  dsimp only
  split
  next h1 =>
    obtain ⟨hst, hevt, hframe, hsame⟩ := State.canState_event hw c st (i := 3) (by decide)
    exact ⟨hst, fun _ => hevt, fun h => by omega, hframe, hsame⟩
  next h1 =>
    split
    next h2 =>
      obtain ⟨hst, hevt, hframe, hsame⟩ := State.canState_event hw c st (i := 2) (by decide)
      exact ⟨hst, fun h => by omega, fun _ => hevt, hframe, hsame⟩
    next h2 =>
      obtain ⟨hst, -, hsame⟩ := State.put_alone (f := F.WD_BUS_STATUS_CAN_STATE (12 + c.val)) (v := st) hw
        (Nat.le_of_ble_eq_true rfl) (st.isLt.trans (Nat.le_of_ble_eq_true rfl))
      exact ⟨hst, fun h => by omega, fun h => by omega, rfl, State.SameRegs.mono hsame (by simp [F.WD_BUS_STATUS_CAN_STATE])⟩

theorem exec_fieldRxDelivery_due {h n : Nat} {r : RxRec} {l : List RxRec} (ho : s.ownerOf (busRes b) = h) (hh : h < 4)
    (hrx : (s.fb b).rx = r :: l) (hd : s.get (F.WD_RX_CTRL_DELIVERY b) = 0) (hu : s.linkUp h = true) (hr : s.busRuns b = true)
    (ht : s.findTun h 4 (s.tunUp h) = some n) : exec (.fieldRxDelivery b) s = .next (
      if s.get (F.WD_RX_CTRL_WATERMARK b) ≤ s.get (F.WD_RX_STAT_FILL b) then s.rxSend h n b 64
      else (s.advanceTo (r.at_ + 125 * s.get (F.WD_RX_CTRL_FLUSH b))).rxSend h n b 64) := by
  subst ho
  show execFieldRxDelivery b s = _
  unfold execFieldRxDelivery
  rw [hrx]
  dsimp only
  rw [if_neg (by simp [State.flag_of_zero hd, hh, hu, hr]), ht]
  exact congrArg Host.Outcome.next (apply_ite (fun u : State => u.rxSend _ n b 64) _ _ _)

/-! ### The posted-write error log (R472) -/

theorem wregAt_wdPerrPop : ∀ h : Hp, wregAt (A.WD_PERR_POP_h h) = some (.wdPerrPop h) := by decide +kernel

theorem wdPerrPop_plain (h : Nat) : (WReg.wdPerrPop h).Plain := ⟨rfl, fun _ => rfl, rfl, fun _ _ => rfl⟩

theorem exec_wdPerrPop_of_taken {a : Agent} {h : Hp} (ha : a.val = h.val) (ht : s.TakesField a (A.WD_PERR_POP_h h) 0 1 1) :
    exec (.wdPerrPop a h) s = .next (s.perrPop h) := by
  have hmay (v : Nat) : s.mayWrite a (.wdPerrPop h) 0 v = true := by simp [State.mayWrite, ha]
  have hf := State.fieldArrives_of_live (acc := .wo) (wregAt_wdPerrPop h) (wdPerrPop_plain h) (by decide) List.mem_cons_self rfl
    (by unfold A.WD_PERR_POP_h; omega) ht ⟨rfl, hmay, rfl, rfl, rfl⟩
  refine congrArg Host.Outcome.next (hf.trans ?_)
  rw [State.wordEffect_of_plain (r := .wdPerrPop h) rfl nofun nofun nofun,
    State.storeWord_of_wo (fun w hw => by rw [List.mem_singleton.1 hw]) (fun w hw => by rw [List.mem_singleton.1 hw])]
  rfl

end

/-- Settles O40: each end of a transaction, each reception and each write by the lemma of its command. -/
theorem fieldBuses : Obligations.FieldBuses := by
  intro s b hs
  exact ⟨rfl, fun t l hr hc hk hl => congrArg Host.Outcome.next (State.fieldStart_launched hr hc hk hl true 15),
    fun t done data hcur => ⟨exec_fieldTransactionEnd_ok hcur done data, fun c => exec_fieldTransactionEnd_failed hcur done data⟩,
    fun k => exec_keepTimeout_unfollowed, fun a => exec_busDisable_enabled,
    fun c w0 w1 data => exec_canFrameReceive_admitted, fun c st => exec_canStateChange_changed hs.regs,
    fun u bytes errors => exec_uartRecordClose_bytes, fun h n r l => exec_fieldRxDelivery_due, fun a h => exec_wdPerrPop_of_taken⟩

end Sys2Proof.Machine
end
